-- ==== Sys2Proof/Word.lean ====
section
/-! DEFINITION. The words of the PD9-384 (R7, R83): a register word carries 32 data bits, a memory word 36. -/

namespace Sys2Proof

/-- The data bits of a register word, [31:0] (R83). -/
abbrev Word := BitVec 32

/-- A memory word, 36 data bits; also a register word with its four parity bits (R83). -/
abbrev Word36 := BitVec 36

end Sys2Proof
end

