-- ==== Sys2Proof/Syntax.lean ====
section
/-! DEFINITION. The commands of the PD9-384: one constructor of `Instr` for each row of
spec/opcode_table.json. The table gives the rows no operand bits (every "fields" list is empty), so the
operands are the model's: the data with which the spec's own rule for the row says the command or event
arrives (an address, a data word, a level, a measured value, a received packet). DESIGN CHOICE, log entry 2. -/

namespace Sys2Proof

/-- The port a register access comes through; ERR_CAUSE.SOURCE reads 1 for SPI and 2 for in-band (R84). -/
inductive Port where
  | spi
  | inband
  deriving DecidableEq, Repr

/-- A receive lane of the link: A is logical lane 0, B logical lane 1 (R330, R342). -/
inductive RxLane where
  | a
  | b
  deriving DecidableEq, Repr

/-- How a packet from the host arrived (R332, R342): its VC and SEQ, the lanes that delivered a copy with a
good CRC-32, and which copy came first. -/
structure RxInfo where
  vc : BitVec 4
  seq : BitVec 12
  goodA : Bool
  goodB : Bool
  bFirst : Bool
  deriving DecidableEq, Repr

/-- Why a received packet is discarded (R335): a bad CRC-32, or a data type not accepted on RX. -/
inductive RxBad where
  | crc
  | dataType
  deriving DecidableEq, Repr

/-- A power-good input (R55), in the order of its FOLD codes 1 to 3. -/
inductive PgInput where
  | core
  | ana
  | io
  deriving DecidableEq, Repr

/-- The elements that failed their test or calibration (R61, R62, R75): own TDCs by logical channel, kitty
TDCs, ADCs (8 is the spare). -/
structure Spares where
  tdcs : List (Fin 384)
  kitties : List (Fin 16)
  adcs : List (Fin 9)
  deriving DecidableEq, Repr

/-- A self-test item with its outcome (R61). `soft` lists banks that took a soft repair (R355),
`cells` the addresses of single correctable cells (R62). For the
ledger item the outcomes of the two signature checks and of the change log chain are supplied (R63), for the
calibration the register words that it measured (R61). -/
inductive SelfTest where
  | bankBist (ok : Bool) (soft : List (Fin 32)) (cells : List (BitVec 24))
  | histBist (ok : Bool) (cells : List (BitVec 24))
  | ringBist (ok : Bool) (cells : List (BitVec 24))
  | tdcLoop (fails : Spares)
  | adcRamp (fails : Spares)
  | ldbLoop (ok : Bool)
  | safetyOutputs (ok : Bool)
  | calibration (fails : Spares) (results : List (Nat × BitVec 32))
  | ledger (signatureA signatureB logIntact : Bool)
  | configLoad
  | collect
  deriving DecidableEq, Repr

/-- The two ways to write off requests (R74, R84): PWR.DOMAIN.OFF_REQ whole, or the alias in a page's PWR word. -/
inductive OffReq where
  | domains (bits : BitVec 9)
  | page (p : Fin 256) (off : Bool)
  deriving DecidableEq, Repr

/-- A window of the energy governor (R153), by its length. -/
inductive GovSpan where
  | us100
  | ms10
  | s10
  deriving DecidableEq, Repr

/-- What a TDC conversion belongs to (R210, R214): the oldest edge in conversion of a logical channel, or the
DUMMY edge with its count n from the origin. -/
inductive ConvTarget where
  | channel (c : Fin 384)
  | dummy (n : Nat)
  deriving DecidableEq, Repr

/-- A raw sample of a bus (R271, R272): its code and the over-range comparator, by the converter that gave it;
none where no converter did. -/
inductive RawSample where
  | missing
  | own (code : BitVec 12) (ovr : Bool)
  | spare (code : BitVec 12) (ovr : Bool)
  deriving DecidableEq, Repr

/-- A cause by which an ADC fails a health check (R275). -/
inductive AdcCause where
  | redundancy
  | timeout
  deriving DecidableEq, Repr

/-- What the header ECC of a CSI-2 packet finds (R293, R295). -/
inductive HeaderEcc where
  | clean
  | corrected
  | uncorrectable
  deriving DecidableEq, Repr

/-- The conversions of a housekeeping round (R433): on-die sensors twice, 1/16 °C; remote diodes at currents I and
10 I, and thermistors, µV; supplies, mV; mean photocurrents, 1/16 µA; DBIAS_SENSE and the reference, mV; the zero
and full-scale checks, codes. -/
structure HkRaw where
  die : List Int
  again : List Int
  diode : List (Nat × Nat)
  therm : List Nat
  supply : List Nat
  mpd : List Nat
  bias : Nat
  reference : Nat
  zero : Nat
  full : Nat
  deriving DecidableEq, Repr

/-- The TOT comparator at a conversion (R191), 6.25 ps from the edge: its rise, none where it has none, and its fall. -/
structure TotEdges where
  rise : Option Nat
  fall : Nat
  deriving DecidableEq, Repr

/-- A channel that moves between TDCs, with the TCLK count of the move (R208). -/
structure KittyMove where
  channel : Fin 384
  tclk : Nat
  deriving DecidableEq, Repr

/-- A capture (R279): its samples, and beside them the samples with OR of ADCs 0 to 8 since the last capture (R270, R291). -/
structure RecordSamples where
  samples : List RawSample
  overs : List Nat := []
  deriving DecidableEq, Repr

/-- The commands, in the order of spec/opcode_table.json. -/
inductive Instr where
  /-- POR_RELEASE (R51). VDD_AON has stayed above its POR threshold for 1 ms, the device enters Power-up and the start-up sequence begins. -/
  | porRelease
  /-- POR_LOSS (R448). VDD_AON falls below its falling POR threshold for 1 µs or more, and the device becomes unpowered. -/
  | porLoss
  /-- NRESET_FALL (R45). A low level on nRESET that passes the glitch filter brings every output to its Power-up state within 1 µs, except in FOLD with cause THERMAL. -/
  | nresetFall
  /-- NRESET_RISE (R67). nRESET rises, which cancels any pending retry and starts a phase 1 start-up sequence. -/
  | nresetRise
  /-- PG_WAIT_END (R55). All three power-good inputs have been high together for 500 µs, so the power-good wait ends and the reference clock search begins. -/
  | pgWaitEnd
  /-- PG_TIMEOUT (R55). T_PG expires before the power-good wait has ended, and the device enters FOLD with the code of the lowest-coded low input. -/
  | pgTimeout (core ana io : Bool)
  /-- PG_LOW_IN_OPERATION (R57). In READY, RUN or STANDBY, a power-good input stays low for more than 2 µs and the device enters FOLD in phase 3. -/
  | pgLowInOperation (input : PgInput)
  /-- REFCLK_PRESENT (R58). A reference input measures within 47.5–52.5 MHz in two consecutive 20 µs windows, and the device selects it or confirms it for switchover. -/
  | refclkPresent (a b : Bool)
  /-- REFCLK_SEARCH_TIMEOUT (R58). No reference is present 2 ms after the search began, and the device enters FOLD with cause REFCLK_ABSENT. -/
  | refclkSearchTimeout
  /-- PLL_LOCK (R59). The root PLL locks, all derived clocks start glitch-free, self-test starts and SPI answers. -/
  | pllLock
  /-- PLL_LOCK_TIMEOUT (R59). The PLL has not locked within 2 ms, and the device enters FOLD with cause PLL_LOCK. -/
  | pllLockTimeout
  /-- SELFTEST_ITEM_DONE (R61). A self-test item completes and is judged; on failure with no spare the device enters FOLD, and after the last item READY follows. -/
  | selftestItemDone (result : SelfTest)
  /-- SELFTEST_TIMEOUT (R61). Self-test is not complete 250 ms after its start, and the device enters FOLD with cause SELFTEST_TIMEOUT. -/
  | selftestTimeout
  /-- AUTOMATIC_RETRY (R66). RETRY_INT after a FOLD entry, the failed sequence is repeated while the retry budget lasts: start-up for phases 0 and 1, STANDBY exit for phase 2. -/
  | automaticRetry
  /-- BOOT_CMD_RESTART (R67). BOOT.CMD 0xA5 in FOLD other than THERMAL starts a phase 1 sequence at once. -/
  | bootCmdRestart (src : Port)
  /-- BOOT_CMD_FOLD (R65). BOOT.CMD 0x5A in READY, RUN or STANDBY enters FOLD with cause HOST_CMD. -/
  | bootCmdFold (src : Port)
  /-- PWR_REQ_READY (R51). PWR.REQ READY leaves RUN at the next hand boundary, or starts the STANDBY exit when written in STANDBY. -/
  | pwrReqReady
  /-- PWR_REQ_RUN (R68). PWR.REQ RUN is checked against temperature and laser hold, and RUN is set to begin with the first hand of the next frame. -/
  | pwrReqRun
  /-- PWR_REQ_STANDBY (R72). PWR.REQ STANDBY is checked, and if accepted the switch-off queries go to the blocks of the domains concerned. -/
  | pwrReqStandby
  /-- RUN_ENTRY (R68). An accepted RUN request takes effect with the first hand of the next frame; the rings are emptied, counts are restarted and ENABLE is sent to the tiles. -/
  | runEntry
  /-- RUN_EXIT (R68). At the hand boundary after a READY request or a HOST_LOST reaction, RUN ends: nothing more is fired and the mirror ramps to park. -/
  | runExit
  /-- STANDBY_BLOCK_ANSWER (R69). A queried block answers ACK once its delay condition ends, or answers REFUSE, and the switch-off handshake advances or ends. -/
  | standbyBlockAnswer (page : Fin 256) (aborted : Option (BitVec 24))
  /-- STANDBY_BLOCK_FORCED (R69). A block has not answered ACK within 110 % of its maximum delay, so it is forced off and its work is discarded. -/
  | standbyBlockForced (page : Fin 256) (aborted : Option (BitVec 24))
  /-- STANDBY_SWITCH_OFF_DONE (R72). The domains are off and the TX lanes are in electrical idle, so PWR.STATE reads STANDBY or the domain is recorded off. -/
  | standbySwitchOffDone
  /-- DOMAIN_OFF_REQ_WRITE (R74). A write to PWR.DOMAIN.OFF_REQ or a page's PWR.OFF_REQ switches a domain off by the handshake, or back on when the bit is cleared. -/
  | domainOffReqWrite (target : OffReq)
  /-- WAKE_PIN_EVENT (R75). An enabled edge or level on WAKE in STANDBY starts the STANDBY exit, or abandons an entry that has not reached its commit window. -/
  | wakePinEvent (high : Bool)
  /-- RX_ACTIVITY (R338). An RX lane changes from signal absent to signal present and holds it for 1 µs, which is the RX wake source. -/
  | rxActivity (lane : RxLane)
  /-- SPI_CS_FALL (R95). SPI_CS_N falls, a frame begins in the mode given by the SCK level, and the device wakes when CS_EN is set. -/
  | spiCsFall (sckHigh : Bool)
  /-- DOMAIN_READY (R52). A domain whose switch has closed becomes ready once its ready time has passed. -/
  | domainReady (d : Fin 9)
  /-- DOMAIN_WAKE_TIMEOUT (R75). A domain is not ready within twice its ready time, and the device enters FOLD with cause DOMAIN_WAKE. -/
  | domainWakeTimeout (d : Fin 9)
  /-- WAKE_CHECKS_DONE (R75). The wake checks and calibration of the STANDBY exit complete, the tiles are enumerated and the device reaches READY. -/
  | wakeChecksDone (fails : Spares) (results : List (Nat × BitVec 32))
  /-- ACCESS_IDLE_TIMEOUT (R76). A domain woken by access in STANDBY is switched off again 10 ms after the last access to it. -/
  | accessIdleTimeout (d : Fin 9)
  /-- DROOP_ONSET (R77). A sensor reads VDD_CORE below 0.700 V, and FCLK slows to 312.5 MHz within 2 FCLK cycles. -/
  | droopOnset (sensors : BitVec 8)
  /-- DROOP_RECOVERY (R77). Every sensor has read above the threshold for 4 µs without a break, so FCLK returns to 625 MHz. -/
  | droopRecovery
  /-- DROOP_HANDS_HELD (R78). Continuous droop reaches 8 µs, and the Dealer starts no new hand. -/
  | droopHandsHeld
  /-- DROOP_LONG (R78). Continuous droop passes 1 ms, so DROOP_LONG is raised and the droop becomes a class D fault. -/
  | droopLong
  /-- CLK_DROOP_CLR (R79). A write of 1 to CLK.DROOP_CLR.CLEAR clears the droop counters and the reference switchover count. -/
  | clkDroopClr
  /-- REFCLK_LOST (R406). The active reference has no edge for 60 ns or measures out of range, so the root PLL enters holdover. -/
  | refclkLost
  /-- PLL_RELOCK (R406). The PLL relocks to the other input by phase build-out, ACTIVE changes and REF_SWITCH is raised. -/
  | pllRelock (toB : Bool)
  /-- HOLDOVER_EXPIRED (R407). Holdover has lasted 50 ms with no input present, and the device enters FOLD with cause CLK_LOST. -/
  | holdoverExpired
  /-- CLK_PREF_WRITE (R407). A write of CLK.REFSEL.PREF that names the other present input switches the reference without holdover. -/
  | clkPrefWrite (pref : Bool)
  /-- SPI_WRITE_FRAME (R97). A complete SPI write frame is checked by its CRC-8 and its words are written in address order, with the final status returned. -/
  | spiWriteFrame (cmd : BitVec 8) (addr : BitVec 24) (words : List (BitVec 36)) (crc : Option (BitVec 8))
  /-- SPI_READ_FRAME (R96). An SPI read frame returns an early status, the data words, a CRC-8 and a final status. -/
  | spiReadFrame (cmd : BitVec 8) (addr : BitVec 24) (late : List Nat)
  /-- SPI_TIMEOUT (R100). 1 ms passes with SPI_CS_N low and no SCK edge, so the transaction is aborted and counted. -/
  | spiTimeout
  /-- INBAND_WRITE_REQUEST (R101). A DT 0x40 write request is queued, executed word by word and answered with one response packet. -/
  | inbandWriteRequest (rx : RxInfo) (tag : BitVec 8) (addr : BitVec 24) (words : List (BitVec 36)) (taken : Option Nat)
  /-- INBAND_READ_REQUEST (R101). A DT 0x41 read request is queued, executed and answered with the read data. -/
  | inbandReadRequest (rx : RxInfo) (tag : BitVec 8) (addr : BitVec 24) (count : Fin 256) (taken : Option Nat)
  /-- BULK_WRITE (R346). A DT 0x44 bulk write of a multiple of 16 words is executed to a memory region and answered. -/
  | bulkWrite (rx : RxInfo) (tag : BitVec 8) (addr : BitVec 24) (words : List (BitVec 36)) (taken : Option Nat)
  /-- REGISTER_WRITE (R11). A write to a register word that has no row of its own updates its fields according to their access codes. -/
  | registerWrite (src : Port) (addr : BitVec 24) (data : BitVec 36)
  /-- COMMIT_REQUEST (R88). A write of COMMIT.REQ posts a request with its boundary; it is checked, and it becomes pending or is refused, or takes effect at once when immediate. -/
  | commitRequest (src : Port) (page : Fin 256) (boundary : Fin 4)
  /-- COMMIT_CANCEL (R90). A write of COMMIT.CANCEL withdraws the pending request unless it falls in the boundary cycle. -/
  | commitCancel (src : Port) (page : Fin 256)
  /-- GLOBAL_COMMIT (R106). A write of CHIP.GCOMMIT.REQ posts requests on every dirty page together, or posts none if any one is refused. -/
  | globalCommit (src : Port) (boundary : Fin 4)
  /-- SOFT_RESET (R85). A write of CTRL.SOFT_RESET clears the FIFOs, pipeline and status of a disabled block, or is refused. -/
  | softReset (src : Port) (page : Fin 256)
  /-- INT_FORCE (R84). A write to INT_FORCE sets INT_STAT bits as if their events had occurred. -/
  | intForce (src : Port) (page : Fin 256) (bits : BitVec 32)
  /-- ERR_COUNT_CLEAR (R84). A write of 1 to ERR_COUNT.CLEAR clears the page's error count. -/
  | errCountClear (page : Fin 256)
  /-- EVENT_PACKET_MERGE_END (R104). The 100 µs merge period after an event packet ends, and one merged event packet is sent. -/
  | eventPacketMergeEnd (page : Fin 256)
  /-- HOST_CNT_CLR (R105). A write of 1 to HOST.CNT_CLR clears HOST.SPI_ERR and HOST.IB_ERR. -/
  | hostCntClr
  /-- TIME_CMD_SET (R107). TIME.CMD 1 sets TIME to SET at the PCLK edge that ends the write. -/
  | timeCmdSet
  /-- TIME_CMD_SET_AT_SYNC (R107). TIME.CMD 2 arms a set of TIME to SET at the next rising edge of SYNC_IN. -/
  | timeCmdSetAtSync
  /-- TIME_CMD_OFFSET (R107). TIME.CMD 3 adds SET to TIME as a signed offset. -/
  | timeCmdOffset
  /-- HAND_ANNOUNCE (R176). Steering announces a hand boundary to the Dealer 2 µs ahead; this is the latch instant for lidar commits and fixes S_eff. -/
  | handAnnounce
  /-- RING_SNAPSHOT (R120). 819.2 ns before the hand boundary, the Dealer snapshots the sector's rings, decrements HANDS and computes the budgets, unless the hand is skipped for droop. -/
  | ringSnapshot
  /-- SLOT_ARBITRATION (R124). Arbitration for a group's slot closes: tiles are ranked and lit, plausibility is read, the governor checks them, and the ARM frame follows. -/
  | slotArbitration (group : Fin 4) (slot : Fin 64)
  /-- FIRE_COMMAND (R146). At the dithered instant a group's fire command issues the burst on FIREg after the plausibility and static re-checks, and the shot count increments. -/
  | fireCommand (group : Fin 4) (armExt : Bool)
  /-- HAND_BOUNDARY (R176). A hand boundary passes: commits take effect, expired ring descriptors are removed, DUMMY is injected, and the next hand begins. -/
  | handBoundary
  /-- FRAME_BOUNDARY (R174). A lidar frame boundary passes: SYNC_OUT pulses, the sweep direction reverses, the frame header is sent and the frame counts restart. -/
  | frameBoundary
  /-- HOST_BID (R119). A write of DEAL.BID enters or removes a host bid in the tile's ring. -/
  | hostBid (src : Port) (data : BitVec 32)
  /-- RING_PLACE0_WRITE (R145). A host write to place 0 of a ring is stored; a change of FF_INDEX enters the forward queue or is refused when the queue is full. -/
  | ringPlace0Write (src : Port) (tile : Fin 8192) (second : Bool) (data : BitVec 36)
  /-- DEAL_CNT_CLR (R134). A write of 1 to DEAL.CNT_CLR clears DEAL counters 0x01F–0x024. -/
  | dealCntClr
  /-- FF_LOAD (R139). A write of EMIT.FF_CTRL.LOAD copies the inactive firing-frame buffer to the tiles, or checks it alone when no tile is enumerated. -/
  | ffLoad
  /-- FF_LOAD_DONE (R139). The buffer copy completes; LOADED is set and the LOADED event is raised, or FF_ENTRY is reported. -/
  | ffLoadDone
  /-- LDB_MAINT_FRAME_END (R148). A maintenance frame ends on the bus, completing its queued place-0 write or forwarded change, and the next frame due is started. -/
  | ldbMaintFrameEnd
  /-- LDB_REENUM (R150). LDB.CMD.REENUM in READY starts enumeration of the tiles. -/
  | ldbReenum (src : Port)
  /-- ENUMERATION_DONE (R150). Enumeration completes with SELECT, plus ENABLE in RUN, and ENUMERATED becomes 1. -/
  | enumerationDone (present : BitVec 16)
  /-- POLL_TIMER (R151). POLL_INT expires and a POLL frame is sent. -/
  | pollTimer
  /-- TILE_REPLY (R151). A tile's 48-bit reply on its MPD line is received and checked, and its fault flags are acted on. -/
  | tileReply (tile : Fin 16) (reply : Option (BitVec 48))
  /-- LIGHT_NO_FIRE (R158). Photocurrent above DARK_THR held for 200 ns outside the windows of armed edges is a hazardous fault. -/
  | lightNoFire (tile : Fin 16)
  /-- HAZARD_FLAG (R151). A tile holds a reverse MPD current for 1 µs outside its reply window, raising its STUCK hazard. -/
  | hazardFlag (tile : Fin 16)
  /-- BUS_HELD (R162). The pad readback differs from the driven symbol for 4 cycles, and recovery of the held bus begins. -/
  | busHeld
  /-- BUS_RECOVERY_RESTART (R162). 21 µs after detection LDB_KA restarts and the readback is checked, then enumeration follows or the shut-off of R160. -/
  | busRecoveryRestart (held : Bool)
  /-- HAZ_CLR (R161). EMIT.FAULT_CLR.HAZ_CLR in READY with no hazard clears HAZ, restarts LDB_KA and starts enumeration. -/
  | hazClr (src : Port) (present : Bool)
  /-- EMIT_CNT_CLR (R163). A write of 1 to EMIT.CNT_CLR clears EMIT.DENY. -/
  | emitCntClr
  /-- LDB_CNT_CLR (R164). LDB.CMD.CNT_CLR clears LDB.ERR_CNT. -/
  | ldbCntClr
  /-- MPD_PULSE_MEASURED (R157). MPD integration over 300 ns after an armed FIRE edge ends and yields E_meas for the tile. -/
  | mpdPulseMeasured (tile : Fin 16) (group : Fin 4) (charge : Nat) (excluded : Bool)
  /-- MPD_LOOP_UPDATE (R157). Every 1 ms, TRIM of each tile steps by one code according to q. -/
  | mpdLoopUpdate
  /-- GOV_SUBINTERVAL_END (R153). A governor sub-interval ends and the oldest sub-interval leaves the window sum. -/
  | govSubintervalEnd (window : GovSpan)
  /-- STATIC_HOLD_END (R156). STATIC_HOLD ms after the steering indications end, the static limit set is released. -/
  | staticHoldEnd
  /-- DECIMATION (R168). A sense channel produces a sample at its decimation instant, and range, thresholds, the control update and plausibility follow from it. -/
  | decimation (channel : Fin 8) (bits : List Bool) (instant : Nat)
  /-- DAC_UPDATE (R181). At the decimation instant plus DAC_LAT the code goes to the DAC, or a deadline miss is counted. -/
  | dacUpdate (axis : Fin 2) (late : Bool)
  /-- SENSE_OPEN (R171). The 64th consecutive bit of one sign declares OPEN on a sense channel. -/
  | senseOpen (channel : Fin 8)
  /-- TEST_TONE_CHECK_END (R172). A 256-period test-tone check ends, giving the impedance, DRIFT and the clearing of OPEN. -/
  | testToneCheckEnd (source : Fin 8) (microvolt : Nat) (offRail : Bool)
  /-- STEER_CNT_CLR (R186). A write of 1 to STEER.CNT_CLR clears SYNC_CNT, PLAUS_CNT and the MISSES fields. -/
  | steerCntClr
  /-- SYNC_IN_EDGE (R174). A rising SYNC_IN edge is accepted or ignored, updating the frame-sync loop and applying any pending time set. -/
  | syncInEdge (edge : Nat)
  /-- SYNC_LOST (R175). No edge is accepted within 2 × P̂, so frame sync runs on the internal timer and SYNC_LOST is raised. -/
  | syncLost
  /-- LEADING_EDGE (R195). A leading-edge comparator edge in an armed window is passed to the TDC, counted as background, or lost as pile-up. -/
  | leadingEdge (ret : Fin 384) (at_ : Nat) (armExt : Bool)
  /-- TDC_CONVERSION (R210). A TDC completes a conversion, which is health-checked and becomes an event word in the output buffer. -/
  | tdcConversion (target : ConvTarget) (raw : Fin 1024) (copyDiff : Nat) (tot : TotEdges)
  /-- KITTY_MOVE (R208). In the channel's gap, the channel moves between its own TDC and a kitty TDC. -/
  | kittyMove (move : KittyMove)
  /-- COLLECTION_VISIT (R203). A collection bus visits a channel and moves one event or marker to the slice input FIFO. -/
  | collectionVisit (channel : Fin 384)
  /-- SHOT_MARKER (R222). 16 TCLK after a slot's armed window, an end-of-shot marker is placed behind the channel's events. -/
  | shotMarker (channel : Fin 384) (stuckHigh : Bool)
  /-- DLL_LOCK_LOSS (R201). The active delay-locked loop loses lock, events are discarded, and the standby loop takes over at each gap. -/
  | dllLockLoss (page : Fin 8) (loopB : Bool)
  /-- DLL_RETRY (R201). Every 10 ms an unlocked loop is retried with its present cell selection. -/
  | dllRetry (page : Fin 8)
  /-- DLL_RELOCK (R201). A retried loop relocks and matches the active loop, becoming the standby loop. -/
  | dllRelock (page : Fin 8) (loopB : Bool)
  /-- TDC_FAIL_CLR (R212). TDCk.FAIL_CLR starts the retest of a failed own TDC, or is refused. -/
  | tdcFailClr (src : Port) (page : Fin 8) (ch : Fin 64)
  /-- TDC_RETEST_DONE (R212). The retest ends; on a pass FAILED clears and the channel returns, otherwise cause RETEST is recorded. -/
  | tdcRetestDone (channel : Fin 384) (pass : Bool)
  /-- DUMMY_MISSING (R215). No DUMMY event arrives within DELAY + 64 TCLK of the origin, so DUMMY_FAIL is raised and counted. -/
  | dummyMissing
  /-- DBIAS_CONVERSION (R193). DBIAS_SENSE is converted every 1 ms, and DBIAS_OUT is raised after two conversions outside the window. -/
  | dbiasConversion (millivolt : Fin 2048)
  /-- AFE_CNT_CLR (R216). A write of 1 to AFE.CNT_CLR clears EDGES of all inputs of the page. -/
  | afeCntClr (page : Fin 8)
  /-- TDC_CNT_CLR (R217). A write of 1 to TDC.CNT_CLR clears ARMX_CNT, CNTm and EVENTSm. -/
  | tdcCntClr (page : Fin 8)
  /-- KITTY_CNT_CLR (R218). A write of 1 to KITTY.CNT_CLR clears DUMMY_CNT. -/
  | kittyCntClr
  /-- SLICE_EVENT_RETIRE (R221). A slice retires an event, incrementing the coarse bin and any fine bin and updating the peak tracker. -/
  | sliceEventRetire (slice : Fin 32)
  /-- MARKER_RETIRE (R222). A slice retires an end-of-shot marker, advancing the channel's slot and starting trick placement or the buffer swap. -/
  | markerRetire (slice : Fin 32)
  /-- TRICK_PLACEMENT_DONE (R225). Trick placement for a channel completes and its tricks go live. -/
  | trickPlacementDone (channel : Fin 384) (fclk : Nat)
  /-- AUTO_READOUT_DONE (R228). The automatic readout of a closed buffer ends and the channel hand is handed to rejection. -/
  | autoReadoutDone (channel : Fin 384)
  /-- DUMP_READ_DONE (R232). A coarse or trick dump is read whole and its class D packet is queued. -/
  | dumpReadDone (channel : Fin 384) (trick : Bool)
  /-- DRAIN_SWITCH (R234). Once the affected slices' readout ends, the buffers are cleared and the new layout is switched in, ending the drain. -/
  | drainSwitch (darkNs : Nat)
  /-- HIST_CNT_CLR (R235). A write of 1 to HIST.CNT_CLR clears the HIST counters and PLACE_MAX. -/
  | histCntClr
  /-- REJECT_CHANNEL (R237). Rejection processes a channel hand: background, threshold, correlation and volumetric test. -/
  | rejectChannel (channel : Fin 384)
  /-- BLOOM_PASS (R246). Once the neighbouring channels are processed, the bloom pass marks victims and the returns are passed to the point builder. -/
  | bloomPass (channel : Fin 384) (fclk : Nat)
  /-- REJ_CNT_CLR (R249). A write of 1 to REJ.CNT_CLR clears the rejection counters and REJ.LAT. -/
  | rejCntClr
  /-- PNT_CHANNEL_DONE (R250). A point-builder lane completes a channel's records and may raise a bid. -/
  | pntChannelDone (channel : Fin 384)
  /-- HAND_COMPLETE (R250). All lanes have finished a hand, so its records go to the link and to zone and field evaluation. -/
  | handComplete (fclk : Nat)
  /-- PNT_CNT_CLR (R268). A write of 1 to PNT.CNT_CLR clears the point counters and LAT. -/
  | pntCntClr
  /-- LEVEL_TRIGGER (R277). A corrected sample crosses LEVEL with hysteresis on a level-type source. -/
  | levelTrigger (source : Fin 8) (before reached : BitVec 12) (sample : Nat)
  /-- TRIG_IN_EDGE (R277). A TRIG_IN edge triggers a rising or falling source. -/
  | trigInEdge (rising : Bool) (sample : Nat)
  /-- ACQ_TIMER_TRIGGER (R277). PERIOD TCLK passes on a timer source and a trigger is made. -/
  | acqTimerTrigger (source : Fin 8) (sample : Nat)
  /-- ACQ_FORCE (R277). ACQ.CMD.FORCE makes a software trigger. -/
  | acqForce (sample : Nat)
  /-- ACQ_ARM (R282). ACQ.CMD.ARM re-arms single mode, or is refused in other modes. -/
  | acqArm (src : Port)
  /-- ACQ_CNT_CLR (R292). ACQ.CMD.CNT_CLR clears CNT_A, CNT_B and CNT_C. -/
  | acqCntClr
  /-- RECORD_CAPTURE_DONE (R280). The last sample of a record or averaged set is taken and the record goes to the capture buffer. -/
  | recordCaptureDone (capture : RecordSamples)
  /-- HOLDOFF_END (R280). HOLDOFF has passed with room in the buffer, and the engine returns to armed. -/
  | holdoffEnd
  /-- RING_ENTRY_WRITTEN (R285). A record or measurement entry is written to the acquisition ring, and the rate step may rise. -/
  | ringEntryWritten
  /-- RATE_STEP_DOWN (R287). Fill below LO for DWELL ms lowers the rate step by one. -/
  | rateStepDown
  /-- RING_RD_WRITE (R285). A host write of ACQ.RING_RD advances RD, or is refused while LINK_EN is 1. -/
  | ringRdWrite (src : Port) (data : BitVec 32)
  /-- MUX_CHANGE_APPLY (R273). A mux or ADC setting change takes effect when no record is in capture, and the pre-trigger ring is flushed. -/
  | muxChangeApply
  /-- ADC_FAIL (R276). An ADC fails a health check and the spare is allocated to its bus, or NO_SPARE is raised. -/
  | adcFail (adc : Fin 9) (cause : AdcCause)
  /-- SPARE_HANDOVER_DONE (R274). After 64 parallel samples, the bus output switches between the spare and its own ADC. -/
  | spareHandoverDone
  /-- ADC_FAIL_CLR (R276). ADC.FAIL_CLR starts a ramp retest of a failed ADC. -/
  | adcFailClr (src : Port) (adc : Fin 8)
  /-- ADC_RETEST_DONE (R276). The retest ends and the bus returns on a pass. -/
  | adcRetestDone (adc : Fin 8) (pass : Bool)
  /-- ADC_CNT_CLR (R291). A write of 1 to ADC.CNT_CLR clears the OR_CNT fields. -/
  | adcCntClr
  /-- CSI2_HS_ENTRY (R294). A camera lane enters HS and synchronises, or counts a SOT error. -/
  | csi2HsEntry (port : Fin 4) (lane : Fin 4) (synced : Bool)
  /-- CSI2_DESKEW (R294). A deskew sequence completes on a camera port. -/
  | csi2Deskew (port : Fin 4)
  /-- CSI2_LONG_PACKET (R295). A long packet carrying a line is received, stamped and sent in-line or to the stripe bank, or discarded. -/
  | csi2LongPacket (port : Fin 4) (vc : Fin 16) (dt : BitVec 6) (ecc : HeaderEcc) (crcOk fifoFull : Bool) (payload : List (BitVec 16))
  /-- CSI2_FRAME_START (R300). A frame start of the selected virtual channel increments FRAME, applies camera commits and closes the raster of the frame before. -/
  | csi2FrameStart (port : Fin 4) (vc : Fin 16)
  /-- CSI2_FRAME_END (R301). A frame end closes the frame, tags it short if needed, and starts the exposure relay. -/
  | csi2FrameEnd (port : Fin 4) (vc : Fin 16)
  /-- SHORT_FRAME_TIMEOUT (R301). No line arrives for 2 ms, so the frame is closed as short. -/
  | shortFrameTimeout (port : Fin 4)
  /-- PORT_IDLE (R471). No frame start arrives for two lidar frame periods, so the port becomes idle and its pending commits apply. -/
  | portIdle (port : Fin 4)
  /-- ISP_LINE_DONE (R299). The ISP finishes a line, overlays it and sends it as a video packet. -/
  | ispLineDone
  /-- STATS_PACKET (R309). A frame's statistics are sent as a DT 0x2B packet. -/
  | statsPacket (port : Fin 4)
  /-- I2C_TRANSACTION_DONE (R312). An I2C transaction ends with ACK or NACK, advancing the relay script or a host transfer. -/
  | i2cTransactionDone (port : Fin 4) (ack : Bool) (data : BitVec 32)
  /-- I2C_TIMEOUT (R312). Clock stretching beyond 10 ms ends the transaction with TIMEOUT. -/
  | i2cTimeout (port : Fin 4)
  /-- I2C_XFER_GO (R315). CAM.I2C_XFER.GO starts a host I2C transfer, or is refused while BUSY. -/
  | i2cXferGo (src : Port) (port : Fin 4) (data : BitVec 32)
  /-- CAM_FSYNC_PULSE (R310). OFS µs after a frame boundary, CAM_FSYNCp pulses for WIDTH µs. -/
  | camFsyncPulse (port : Fin 4)
  /-- CAM_CNT_CLR (R327). A write of 1 to CAM.CNT_CLR clears ERR_A, ERR_B and ERR_C. -/
  | camCntClr (port : Fin 4)
  /-- ZONE_CNT_CLR (R329). A write of 1 to ZONE.CNT_CLR clears ZONE.DROP. -/
  | zoneCntClr
  /-- RX_CDR_LOCK (R337). The CDR of an RX lane locks on a present signal. -/
  | rxCdrLock (lane : RxLane)
  /-- RX_BLOCK_LOCK (R337). 64 valid sync headers give block lock, and the device sets READY in its TS blocks. -/
  | rxBlockLock (lane : RxLane) (swapped inverted : Bool)
  /-- HOST_TS_READY (R337). A host TS with READY 1 is received, so after 64 TS blocks the link comes up. -/
  | hostTsReady (lane : RxLane)
  /-- LINK_TIMEOUT (R337). LINK_TMO expires without link-up, and LINK_FAIL is raised. -/
  | linkTimeout
  /-- TX_LANE_FAULT (R339). A TX lane is marked failed, the stream stops for failover, or the link goes narrow. -/
  | txLaneFault (lane : Fin 9)
  /-- ALIGNMENT_MARKER (R331). Every 16,384 block times all lanes send an AM, at which a pending failover switch is made. -/
  | alignmentMarker
  /-- TX_CLR (R340). TAB.TX_CTRL.TX_CLR starts a PRBS31 retest of a failed lane. -/
  | txClr (src : Port) (lanes : BitVec 9)
  /-- TX_RETEST_DONE (R340). The 1 ms retest ends and the lane becomes a spare or stays failed. -/
  | txRetestDone (lane : Fin 9) (pass : Bool)
  /-- TX_FORCE_FAIL (R349). TAB.TX_CTRL.FORCE marks a physical lane failed. -/
  | txForceFail (src : Port) (lane : Fin 16)
  /-- RX_LOS (R342). An RX lane loses signal for 100 ns. -/
  | rxLos (lane : RxLane)
  /-- RX_LOL (R342). An RX lane loses CDR lock or block lock, and it retrains. -/
  | rxLol (lane : RxLane)
  /-- RX_BAD_PACKET (R335). A received packet with a bad CRC or an unknown DT is discarded and counted. -/
  | rxBadPacket (kind : RxBad)
  /-- HOST_HEARTBEAT (R343). A valid host heartbeat is received, restarting HOST_LOST timing and carrying lane reports. -/
  | hostHeartbeat (rx : RxInfo) (count : BitVec 32) (txBad : BitVec 9)
  /-- HOST_LOST (R343). HB_TMO expires without a valid host heartbeat, HOST_LOST is raised and REACT is applied. -/
  | hostLost
  /-- DEVICE_HEARTBEAT_TIMER (R343). HB_INT expires and a device heartbeat is sent. -/
  | deviceHeartbeatTimer
  /-- TIME_SET_NOW (R344). A time-set packet with MODE 0 sets TIME to VALUE at the SOP arrival. -/
  | timeSetNow (rx : RxInfo) (value : BitVec 64) (elapsed : Nat)
  /-- TIME_SET_AT_SYNC_PACKET (R344). A time-set packet with MODE 1 arms a set at the next SYNC_IN edge. -/
  | timeSetAtSyncPacket (rx : RxInfo) (value : BitVec 64)
  /-- TIME_OFFSET_PACKET (R344). A time-set packet with MODE 2 adds a signed offset to TIME. -/
  | timeOffsetPacket (rx : RxInfo) (value : BitVec 64)
  /-- TIME_SET_INVALID (R344). A time-set packet with MODE 3 is discarded and counted. -/
  | timeSetInvalid (rx : RxInfo)
  /-- PACKET_SENT (R336). A packet leaves the stream, and the next packet is taken from the highest ready class. -/
  | packetSent
  /-- PACKET_AGE_DISCARD (R333). A class C or D packet unsent 4 ms past its stamp is discarded and counted. -/
  | packetAgeDiscard
  /-- INJECT_BIT (R347). TAB.INJECT.BIT inverts one bit on each lane named. -/
  | injectBit (lanes : BitVec 9)
  /-- INJECT_SYNC (R347). TAB.INJECT.SYNC injects one sync-header error on logical lane 0. -/
  | injectSync
  /-- INJECT_CRC (R347). TAB.INJECT.CRC corrupts the CRC-32 of the next packet of CLASS. -/
  | injectCrc (cls : Fin 4)
  /-- TAB_CNT_CLR (R349). A write of 1 to TAB.CNT_CLR clears TAB words 0x01B–0x01F. -/
  | tabCntClr
  /-- SCRUB_READ (R354). Each microsecond a bank scrub reads one idle word and corrects any error found. -/
  | scrubRead (bank : Fin 32)
  /-- BANK_OWNER_WRITE (R358). A write of BANK.OWNb.OWNER moves ownership, or is refused with IN_USE or OWNER. -/
  | bankOwnerWrite (src : Port) (bank : Fin 32) (data : BitVec 32)
  /-- MOVER_DESCRIPTOR_END (R360). A mover completes a descriptor on a bank, and any pending switch-off of its domain proceeds. -/
  | moverDescriptorEnd (bank : Fin 32)
  /-- OWNER_RECLAIM (R361). A descriptor open longer than OWN_TIMEOUT makes the supervisor reclaim the bank. -/
  | ownerReclaim (bank : Fin 32) (discarded : Nat)
  /-- BANK_CNT_CLR (R362). A write of 1 to BANK.CNT_CLR clears ECC_CNT, RECLAIM.COUNT and DROP. -/
  | bankCntClr
  /-- SAFE_CYCLE (R364). Every 50 µs SAFE samples its inputs, runs the functions and tests, and drives SOUT from the permits. -/
  | safeCycle (sin : BitVec 8) (sfb sout : BitVec 2)
  /-- SAFETY_STATUS_TIMER (R389). STAT_INT expires and a periodic safety status packet is sent. -/
  | safetyStatusTimer
  /-- SUPV_PERMIT_CONFIRM (R365). The supervisor confirms its permit to the window watchdog. -/
  | supvPermitConfirm (us : Nat)
  /-- WATCHDOG_EXPIRY (R365). No confirmation arrives within its window, so the supervisor permit is removed. -/
  | watchdogExpiry
  /-- SUPV_COMPARISON_DONE (R384). The supervisor's diverse recomputation of FIELD's tallies completes and is compared. -/
  | supvComparisonDone (differ : BitVec 24)
  /-- SAFETY_CRC_CHECK (R385). Every 100 ms the safety CRC is recomputed and compared with SAFE.CRC. -/
  | safetyCrcCheck (computed : BitVec 32)
  /-- SUPV_MEMORY_SCRUB (R385). Every 10 ms the FIELD tables and supervisor memory are scrubbed for uncorrectable errors. -/
  | supvMemoryScrub (uncorrectable : Bool)
  /-- PW_OPEN (R391). PW_CTRL.OP OPEN starts a password check to open the safety lock. -/
  | pwOpen (src : Port) (data : BitVec 32)
  /-- PW_SET (R391). PW_CTRL.OP SET stores a new password. -/
  | pwSet (src : Port) (data : BitVec 32)
  /-- PW_ERASE (R391). PW_CTRL.OP ERASE in READY removes the password, resets SAFE and FIELD and sets COMMISSIONING. -/
  | pwErase (src : Port)
  /-- PW_CHECK_DONE (R390). The password operation completes, opening the lock or counting a wrong attempt. -/
  | pwCheckDone
  /-- PW_BLOCK_END (R391). The 60 s block on OPEN ends. -/
  | pwBlockEnd
  /-- SAFE_CMD_COMMISSION (R394). SAFE.CMD COMMISSION with the lock open sets COMMISSIONING. -/
  | safeCmdCommission (src : Port)
  /-- SAFE_CMD_CLOSE (R392). SAFE.CMD CLOSE closes the safety lock. -/
  | safeCmdClose
  /-- SAFE_CONFIRM (R394). A write of SAFE.CONFIRM equal to SAFE.CRC sets ACTIVE, or is refused with CRC_MISMATCH. -/
  | safeConfirm (src : Port) (data : BitVec 32)
  /-- LOCK_TIMEOUT (R392). LOCK_TMO minutes after opening or the last covered write, the lock closes. -/
  | lockTimeout
  /-- SUPV_CNT_CLR (R397). A write of 1 to SUPV.CNT_CLR clears SUPV.CMP. -/
  | supvCntClr
  /-- SAFE_CNT_CLR (R398). A write of 1 to SAFE.CNT_CLR clears SAFE.CNT. -/
  | safeCntClr
  /-- FW_VERIFY (R413). FW_CMD VERIFY starts the signature check of the inactive firmware slot. -/
  | fwVerify (src : Port)
  /-- FW_VERIFY_DONE (R413). The verification ends and sets FW_x_OK or a failure RESULT. -/
  | fwVerifyDone (signed : Bool)
  /-- FW_SWAP (R414). FW_CMD SWAP is accepted or refused, and an accepted swap waits for the next frame boundary. -/
  | fwSwap (src : Port)
  /-- FW_SWAP_STOP (R414). At the frame boundary after SWAP, the supervisor stops and its diagnostics pause. -/
  | fwSwapStop
  /-- FW_IMAGE_START (R414). The new firmware image starts and FW_ACTIVE changes. -/
  | fwImageStart
  /-- FW_SWAP_TIMEOUT (R415). The new image has not confirmed within 20 ms, so the previous image is restarted and FW_SWAP_FAIL raised. -/
  | fwSwapTimeout
  /-- FW_RAISE_MIN (R416). FW_CMD RAISE_MIN sets FW_MIN to the active image's VERSION. -/
  | fwRaiseMin (src : Port)
  /-- CFG_STORE (R411). CFG_CMD STORE writes the active settings into the inactive configuration slot. -/
  | cfgStore (src : Port)
  /-- CFG_STORE_DONE (R411). The store completes with RESULT 1 and the slot's OK bit set. -/
  | cfgStoreDone
  /-- CFG_ACTIVATE (R412). CFG_CMD ACTIVATE starts applying the inactive slot in service. -/
  | cfgActivate (src : Port) (boundary : Fin 4)
  /-- CFG_ACTIVATE_CRC_DONE (R412). The slot's CRC check ends, and the records are applied and a global commit posted, or the activation ends. -/
  | cfgActivateCrcDone
  /-- CFG_CHECK (R418). CFG_CMD CHECK computes the CRC of both slots into BOOT.IMAGE. -/
  | cfgCheck (src : Port)
  /-- LEDGER_WRITE_BOOTP (R441). LEDGER.CMD WRITE_BOOTP writes both boot parameter copies from LEDGER.BOOTP. -/
  | ledgerWriteBootp (src : Port)
  /-- LEDGER_STORE_CAL (R445). LEDGER.CMD 2 stores all calibration records now. -/
  | ledgerStoreCal (src : Port)
  /-- LEDGER_WRITE_DONE (R439). A ledger block write completes and WRITE_DONE is raised. -/
  | ledgerWriteDone
  /-- CAL_ITEM_START (R423). The calibration scheduler starts an item on an element when its interval is due and its spare is free. -/
  | calItemStart (item : Fin 6) (element : Fin 384)
  /-- TDC_CAL_MEASURE_DONE (R424). An own TDC finishes its reference-edge measurement, and its results are accepted or rejected. -/
  | tdcCalMeasureDone (channel : Fin 384) (lo hi : Fin 1024) (corrections : List Int)
  /-- KITTY_CAL_DONE (R426). A kitty TDC finishes its linearity and crossbar offset calibration. -/
  | kittyCalDone (kitty : Fin 16) (lo hi : Fin 1024) (corrections xofs : List Int)
  /-- DLL_CAL_DONE (R422). A standby loop relocks with its new cell selection and changes roles or is restored. -/
  | dllCalDone (page : Fin 8) (matched : Bool) (cells : BitVec 10)
  /-- AFE_CAL_DONE (R427). An input's comparator pair sweep ends and the input is reconnected. -/
  | afeCalDone (input : Fin 384) (offsets : List (Int × Int))
  /-- ADC_CAL_DONE (R429). An ADC finishes its offset, gain and delay calibration and its bus returns. -/
  | adcCalDone (adc : Fin 9) (offset gain : BitVec 16)
  /-- DUMMY_D0_DONE (R430). The D0 measurement ends and KITTY.DUMMY_D0 is written. -/
  | dummyD0Done (d0 : BitVec 16)
  /-- EOL_GO (R431). CAL.EOL_CMD.GO starts an end-of-line range-offset run, or is refused. -/
  | eolGo (src : Port) (apply_ : Bool)
  /-- EOL_RUN_END (R431). After FRAMES frames the offsets are computed and applied when APPLY is set. -/
  | eolRunEnd
  /-- HK_ROUND (R433). A 1 ms housekeeping round converts every sensor, checks the die sensors and drives the thermal steps. -/
  | hkRound (raw : HkRaw)
  /-- THERMAL_GRACE_EXPIRY (R438). GRACE expires, so SCALE steps down while at WARN or up after cooling. -/
  | thermalGraceExpiry (laser : Bool)
  /-- DIE_SHUT_COMPARATOR (R438). Two or more on-die sensors exceed 135 °C and the device enters FOLD with cause THERMAL. -/
  | dieShutComparator (sensors : BitVec 8)
  /-- HK_CNT_CLR (R444). A write of 1 to HK.CNT_CLR clears the supply minimum and maximum values. -/
  | hkCntClr
  /-- ROOT_CLOCK_CHECK (R385). At the end of each 100 µs window the root clock is measured against SOSC; outside ±1 % diagnostic 1 removes the outputs and stops the laser, and 100 ms within range allows clearing. -/
  | rootClockCheck (inRange : Bool)
  /-- REFCLK_INACTIVE_LOST (R406). The inactive reference, which is measured continuously, stops or measures out of range, and its PRESENT bit clears, so it is no longer a switchover target. -/
  | refclkInactiveLost
  /-- RX_TS_WHILE_LINK_UP (R337). The serving RX lane receives TS blocks while the link is up, which restarts bring-up. -/
  | rxTsWhileLinkUp (lane : RxLane)
  /-- RX_CONTROL_BLOCK_BAD (R330). A received control block with an unknown TYPE or a bad CRC-8 is treated as IDLE and counted in CTRL_BAD. -/
  | rxControlBlockBad
  /-- PRBS_CHECKER_LOCK (R347). An RX PRBS checker locks on 64 error-free bits, sets LOCK_A or LOCK_B and starts counting errors. -/
  | prbsCheckerLock (lane : RxLane) (errors : Nat)
  /-- TDC_CONVERSION_TIMEOUT (R210). A conversion is not complete within 20 TCLK, so the TDC is marked failed with cause TIMEOUT and a kitty TDC is demanded. -/
  | tdcConversionTimeout (target : ConvTarget)
  /-- SENSE_OPEN_CLEARED (R171). On an enabled sense channel without a test tone, OPEN clears at the 64th bit after the bit stream has left the rail. -/
  | senseOpenCleared (channel : Fin 8)
  /-- TEST_TONE_CHECK_START (R172). Every 10 ms from the enabling of the channel, a source with its TONE enabled starts superimposing its square wave, and a 256-period test-tone check begins. -/
  | testToneCheckStart (source : Fin 8)
  deriving DecidableEq, Repr

end Sys2Proof
end

