-- ==== Sys2Proof/Config.lean ====
section
/-! DEFINITION. What a device fixes and the spec does not state: fused values and free values. All of
them are opaque: nothing in Lean can evaluate them, so a statement that names one holds whatever it is. -/

namespace Sys2Proof.Config

/-- CHIP.DEVID.GRADE is fused (R105): true for grade -I. Free, log entry 6. -/
opaque gradeI : Bool

/-- Fused repairs of a bank, BANK.REPAIR (R355, R362). Free, log entry 6. -/
opaque fusedRepairs : Nat → Nat

/-- What a memory word reads as after its memory has lost its contents `n` times (R52, R53). Free, log entry 7. -/
opaque lostWord : (region n addr : Nat) → Word36

/-- The 8-bit value of a channel of an overlay colour given with 5 or 6 bits (R320). Free, log entry 26. -/
opaque widened : (bits value : Nat) → Nat

/-- LEDGER.STAT.PENDING while block writes run (R445): how many words they take is not stated. Free, log entry 32. -/
opaque ledgerPending : (written running : Nat) → Nat

/-- The n-th free number: stands wherever the spec leaves a result open and the machine goes on. -/
opaque freeNat : Nat → Nat

end Sys2Proof.Config
end

