-- ==== Sys2Proof/Machine/Bits.lean ====
section
/-! DEFINITION. Field extraction, signed reading, saturation and rounding: the small arithmetic that the
meanings share. All of it is on Nat and Int, narrowed explicitly. -/

namespace Sys2Proof.Machine

/-- The place of a field: its word address, its lowest bit and its width. -/
structure Fld where
  addr : Nat
  lo : Nat
  width : Nat
  deriving DecidableEq, Repr

/-- Bits [lo + width - 1 : lo] of a number. -/
def bitsOf (v lo width : Nat) : Nat := (v / 2 ^ lo) % 2 ^ width

/-- Bit `k` of a number. -/
def bitOf (v k : Nat) : Bool := bitsOf v k 1 == 1

/-- `v` with bits [lo + width - 1 : lo] replaced by `x`. -/
def putBits (v lo width x : Nat) : Nat :=
  v - bitsOf v lo width * 2 ^ lo + (x % 2 ^ width) * 2 ^ lo

/-- 1 for true. -/
def b2n (b : Bool) : Nat := if b then 1 else 0

/-- A field's value in a register word. -/
def Fld.get (f : Fld) (w : Word) : Nat := bitsOf w.toNat f.lo f.width

/-- A register word with a field replaced. -/
def Fld.put (f : Fld) (w : Word) (v : Nat) : Word := BitVec.ofNat 32 (putBits w.toNat f.lo f.width v)

/-- The mask of bits [hi:lo]. -/
def maskOf (hi lo : Nat) : Nat := (2 ^ (hi - lo + 1) - 1) * 2 ^ lo

/-- A number of `width` bits read as two's complement. -/
def signed (width v : Nat) : Int :=
  if v % 2 ^ width < 2 ^ (width - 1) then (v % 2 ^ width : Nat) else ((v % 2 ^ width : Nat) : Int) - (2 ^ width : Nat)

/-- The two's complement of an integer in `width` bits. -/
def unsigned (width : Nat) (v : Int) : Nat := (v % ((2 ^ width : Nat) : Int)).toNat

/-- An integer clipped to the signed range of `width` bits. -/
def clipSigned (width : Nat) (v : Int) : Int :=
  let m : Int := (2 ^ (width - 1) : Nat)
  if v ≥ m then m - 1 else if v < -m then -m else v

/-- An integer clipped to [lo, hi]. -/
def clip (lo hi v : Int) : Int := if v < lo then lo else if v > hi then hi else v

/-- A count that stops at its largest value (saturating counters of the field tables). -/
def satAdd (width v n : Nat) : Nat := if v + n < 2 ^ width then v + n else 2 ^ width - 1

/-- A value that stops at the largest the width holds. -/
def satTo (width v : Nat) : Nat := if v < 2 ^ width then v else 2 ^ width - 1

/-- Division rounded to the nearest, halves away from zero, for a natural numerator. -/
def divRound (a b : Nat) : Nat := (2 * a + b) / (2 * b)

/-- Division rounded up. -/
def divUp (a b : Nat) : Nat := (a + b - 1) / b

/-- Whether an even number of the low `n` bits of `v` are 1. -/
def evenOnes (v : Nat) : Nat → Bool
  | 0 => true
  | n + 1 => if v.testBit n then !(evenOnes v n) else evenOnes v n

/-- How many of the low `n` bits of `v` are 1. -/
def popCount (v : Nat) : Nat → Nat
  | 0 => 0
  | n + 1 => popCount v n + b2n (v.testBit n)

/-- The numbers below `n` that satisfy `p`, in rising order. -/
def filterRange (n : Nat) (p : Nat → Bool) : List Nat := (List.range n).filter p

/-- Element `i` of a list, or `d` past its end. -/
def nth {α : Type} (l : List α) (i : Nat) (d : α) : α := l.getD i d

/-- A list with element `i` replaced (unchanged past its end). -/
def setNth {α : Type} (l : List α) (i : Nat) (x : α) : List α := l.set i x

/-- An element put before the first one that `lt` puts it before. -/
def insertBy {α : Type} (lt : α → α → Bool) (x : α) : List α → List α
  | [] => [x]
  | y :: ys => if lt x y then x :: y :: ys else y :: insertBy lt x ys

/-- A stable insertion sort. -/
def sortBy {α : Type} (lt : α → α → Bool) : List α → List α
  | [] => []
  | x :: xs => insertBy lt x (sortBy lt xs)

/-- Element `i` of a list changed. -/
def updNth {α : Type} (l : List α) (i : Nat) (g : α → α) : List α := l.modify i g

/-- The halfwords of a 32-bit word, upper first. -/
def half2 (v : Nat) : List Nat := [v / 65536 % 65536, v % 65536]

end Sys2Proof.Machine
end

