-- ==== Sys2Proof/Machine/RegMap.lean ====
section
/-! DEFINITION. The register map of the PD9-384: every field of every register word of the spec's field
tables, with its bits, its access code (R11), its reset value (R10) and, for a shadowed field, its
commit class (immediate R92, frame-only R134, drained R91). One row per table heading of the spec; rows
for indexed registers carry the count and the stride of up to two indices. Nothing here is a meaning:
Machine/Ops.lean reads the map. -/

namespace Sys2Proof.Machine

/-- The access codes of R11. -/
inductive Acc where
  | ro | rw | w1c | w1s | wo | rws | rwl
  deriving DecidableEq, Repr

/-- The commit class of a shadowed field (R91, R92, R134). -/
inductive CommitClass where
  | hand | imm | frame | drained | frameDrained
  deriving DecidableEq, Repr

/-- One field of a register table: bits [hi:lo], access, reset, and by how much the reset grows with
the row's two indices and with the page's instance number. -/
structure FieldDef where
  hi : Nat
  lo : Nat
  acc : Acc
  reset : Nat := 0
  cls : CommitClass := .hand
  stepI : Nat := 0
  stepJ : Nat := 0
  stepInst : Nat := 0
  deriving DecidableEq, Repr

/-- A field definition written as a line of a field table. -/
def fd (hi lo : Nat) (acc : Acc) (reset : Nat := 0) (cls : CommitClass := .hand)
    (stepI stepJ stepInst : Nat := 0) : FieldDef := ⟨hi, lo, acc, reset, cls, stepI, stepJ, stepInst⟩

/-- One heading of the field tables: the word offset, two index ranges (count, stride), the fields. -/
structure RegRow where
  first : Nat
  countI : Nat
  strideI : Nat
  countJ : Nat
  strideJ : Nat
  fields : List FieldDef
  deriving DecidableEq, Repr

/-- A row for a single word. -/
def RegRow.one (off : Nat) (fs : List FieldDef) : RegRow := ⟨off, 1, 1, 1, 1, fs⟩

/-- A row for `n` words at a stride. -/
def RegRow.many (off n stride : Nat) (fs : List FieldDef) : RegRow := ⟨off, n, stride, 1, 1, fs⟩

/-- CHIP: the block registers of the page (04_registers_and_host_port.md, R105). -/
def rowsChip : List RegRow :=
  [
  -- DEVID
  RegRow.one 0x010 [
    fd 31 16 .ro 37764,
    fd 15 8 .ro 176,
    fd 7 4 .ro],
  -- GEN
  RegRow.one 0x011 [
    fd 15 0 .ro],
  -- GCOMMIT
  RegRow.one 0x012 [
    fd 4 4 .w1s,
    fd 1 0 .rw]]

/-- CLK: the block registers of the page (03_startup_and_power_states.md, R79). -/
def rowsClk : List RegRow :=
  [
  -- REFSEL
  RegRow.one 0x010 [
    fd 9 9 .ro,
    fd 8 8 .ro,
    fd 6 6 .ro,
    fd 5 5 .ro,
    fd 4 4 .ro,
    fd 1 1 .rw 1,
    fd 0 0 .rw],
  -- DROOP
  RegRow.one 0x011 [
    fd 31 16 .ro,
    fd 9 9 .ro,
    fd 8 8 .ro,
    fd 7 0 .ro],
  -- DROOP_STAT
  RegRow.one 0x012 [
    fd 31 16 .ro,
    fd 15 0 .ro],
  -- DROOP_CLR
  RegRow.one 0x013 [
    fd 0 0 .wo],
  -- REFSTAT
  RegRow.one 0x014 [
    fd 31 16 .ro,
    fd 15 0 .ro]]

/-- PWR: the block registers of the page (03_startup_and_power_states.md, R79). -/
def rowsPwr : List RegRow :=
  [
  -- STATE
  RegRow.one 0x010 [
    fd 7 4 .ro,
    fd 3 0 .ro],
  -- REQ
  RegRow.one 0x011 [
    fd 3 0 .wo],
  -- DOMAIN
  RegRow.one 0x012 [
    fd 24 16 .rw,
    fd 8 0 .ro 1],
  -- WAKE_CFG
  RegRow.one 0x013 [
    fd 5 5 .rw 1,
    fd 4 4 .rw,
    fd 3 3 .rw 1,
    fd 2 2 .rw,
    fd 1 1 .rw,
    fd 0 0 .rw 1],
  -- WAKE_SRC
  RegRow.one 0x014 [
    fd 8 8 .w1c,
    fd 4 4 .w1c,
    fd 3 3 .w1c,
    fd 2 2 .w1c,
    fd 1 1 .w1c,
    fd 0 0 .w1c],
  -- ENTRY
  RegRow.one 0x015 [
    fd 31 16 .ro,
    fd 15 12 .ro,
    fd 11 8 .ro,
    fd 7 0 .ro]]

/-- BOOT: the block registers of the page (03_startup_and_power_states.md, R79). -/
def rowsBoot : List RegRow :=
  [
  -- CAUSE
  RegRow.one 0x010 [
    fd 23 16 .ro,
    fd 13 12 .ro,
    fd 11 8 .ro,
    fd 7 0 .ro],
  -- CMD
  RegRow.one 0x011 [
    fd 7 0 .wo],
  -- SELFTEST
  RegRow.one 0x012 [
    fd 31 20 .ro,
    fd 8 0 .ro],
  -- PARAM
  RegRow.one 0x013 [
    fd 24 24 .ro,
    fd 23 12 .ro 100,
    fd 11 8 .ro 3,
    fd 7 0 .ro 20],
  -- IMAGE
  RegRow.one 0x014 [
    fd 5 5 .ro,
    fd 4 4 .ro,
    fd 3 3 .ro,
    fd 2 2 .ro,
    fd 1 1 .ro,
    fd 0 0 .ro],
  -- TIMING
  RegRow.one 0x015 [
    fd 31 0 .ro],
  -- FW_CMD
  RegRow.one 0x016 [
    fd 7 0 .wo],
  -- FW_STAT
  RegRow.one 0x017 [
    fd 31 31 .ro,
    fd 30 28 .ro,
    fd 15 0 .ro],
  -- FW_VER
  RegRow.one 0x018 [
    fd 31 16 .ro,
    fd 15 0 .ro],
  -- CFG_CMD
  RegRow.one 0x019 [
    fd 5 4 .wo,
    fd 3 0 .wo],
  -- CFG_STAT
  RegRow.one 0x01A [
    fd 31 31 .ro,
    fd 30 28 .ro,
    fd 23 0 .ro],
  -- CFG_ID
  RegRow.one 0x01B [
    fd 31 0 .ro]]

/-- HOST: the block registers of the page (04_registers_and_host_port.md, R106). -/
def rowsHost : List RegRow :=
  [
  -- SPI_ERR
  RegRow.one 0x010 [
    fd 31 24 .ro,
    fd 23 16 .ro,
    fd 15 8 .ro,
    fd 7 0 .ro],
  -- IB_ERR
  RegRow.one 0x011 [
    fd 31 24 .ro,
    fd 23 16 .ro,
    fd 15 8 .ro,
    fd 7 0 .ro],
  -- CNT_CLR
  RegRow.one 0x012 [
    fd 0 0 .wo],
  -- LAST
  RegRow.one 0x013 [
    fd 15 8 .ro 128,
    fd 7 0 .ro 128],
  -- IB_CFG
  RegRow.one 0x014 [
    fd 1 1 .rw 1,
    fd 0 0 .rw 1]]

/-- INTC: the block registers of the page (04_registers_and_host_port.md, R106). -/
def rowsIntc : List RegRow :=
  [
  -- CTRL
  RegRow.one 0x010 [
    fd 1 1 .rw,
    fd 0 0 .rw 1],
  -- FIRST
  RegRow.one 0x011 [
    fd 8 8 .ro 1,
    fd 7 0 .ro],
  -- SUM
  RegRow.many 0x018 8 1 [
    fd 31 0 .ro],
  -- MASK
  RegRow.many 0x020 8 1 [
    fd 31 0 .rw 0xFFFFFFFF]]

/-- TIME: the block registers of the page (04_registers_and_host_port.md, R107). -/
def rowsTime : List RegRow :=
  [
  -- NOW_HI
  RegRow.one 0x010 [
    fd 31 0 .ro],
  -- NOW_LO
  RegRow.one 0x011 [
    fd 31 0 .ro],
  -- SET_HI
  RegRow.one 0x012 [
    fd 31 0 .rw],
  -- SET_LO
  RegRow.one 0x013 [
    fd 31 0 .rw],
  -- CMD
  RegRow.one 0x014 [
    fd 1 0 .wo],
  -- STAT
  RegRow.one 0x015 [
    fd 31 16 .ro,
    fd 1 1 .ro,
    fd 0 0 .ro]]

/-- SUPV: the block registers of the page (16_safety_functions.md, R397). -/
def rowsSupv : List RegRow :=
  [
  -- STATUS
  RegRow.one 0x002 [
    fd 31 31 .ro 1,
    fd 2 2 .ro,
    fd 1 1 .ro,
    fd 0 0 .ro],
  -- CFG
  RegRow.one 0x010 [
    fd 31 24 .rwl 2,
    fd 11 0 .rwl 16],
  -- DIAG
  RegRow.one 0x011 [
    fd 12 1 .ro],
  -- CMP
  RegRow.one 0x012 [
    fd 31 16 .ro,
    fd 15 8 .ro,
    fd 7 0 .ro],
  -- LAST
  RegRow.one 0x013 [
    fd 31 24 .ro,
    fd 23 0 .ro],
  -- CNT_CLR
  RegRow.one 0x014 [
    fd 0 0 .wo]]

/-- SAFE: the block registers of the page (16_safety_functions.md, R398). -/
def rowsSafe : List RegRow :=
  [
  -- STATUS
  RegRow.one 0x002 [
    fd 31 31 .ro 1,
    fd 10 8 .ro,
    fd 7 7 .ro,
    fd 6 6 .ro,
    fd 5 4 .ro,
    fd 3 3 .ro,
    fd 2 2 .ro,
    fd 0 0 .ro],
  -- SIN
  RegRow.many 0x010 8 1 [
    fd 8 8 .rws,
    fd 6 4 .rws 4,
    fd 3 0 .rws],
  -- FUNC
  RegRow.one 0x018 [
    fd 15 8 .rws 10,
    fd 2 2 .rws 1,
    fd 1 1 .rws 1,
    fd 0 0 .rws 1],
  -- TIMES
  RegRow.one 0x019 [
    fd 31 20 .rws 300,
    fd 19 8 .rws 500,
    fd 7 0 .rws 40],
  -- PULSE
  RegRow.one 0x01A [
    fd 31 24 .rws 20,
    fd 23 16 .rws 20,
    fd 15 8 .rws 20,
    fd 7 0 .rws 20],
  -- IN
  RegRow.one 0x01B [
    fd 25 25 .ro,
    fd 24 24 .ro,
    fd 15 8 .ro,
    fd 7 0 .ro],
  -- FSTAT
  RegRow.one 0x01C [
    fd 2 0 .ro,
    fd 5 3 .ro,
    fd 8 6 .ro,
    fd 11 9 .ro,
    fd 14 12 .ro,
    fd 17 15 .ro,
    fd 20 18 .ro],
  -- CRC
  RegRow.one 0x01D [
    fd 31 0 .ro],
  -- CONFIRM
  RegRow.one 0x01E [
    fd 31 0 .wo],
  -- CMD
  RegRow.one 0x01F [
    fd 1 0 .wo],
  -- PW
  RegRow.many 0x020 3 1 [
    fd 31 0 .wo],
  -- PW_CTRL
  RegRow.one 0x023 [
    fd 31 16 .wo,
    fd 11 8 .wo,
    fd 1 0 .wo],
  -- LOCK_TMO
  RegRow.one 0x024 [
    fd 7 0 .rwl 30],
  -- PW_STAT
  RegRow.one 0x025 [
    fd 31 31 .ro,
    fd 30 30 .ro,
    fd 23 16 .ro,
    fd 1 0 .ro],
  -- LOG
  RegRow.one 0x026 [
    fd 31 0 .ro],
  -- RESP
  RegRow.one 0x027 [
    fd 31 16 .ro,
    fd 15 0 .ro],
  -- CNT
  RegRow.one 0x028 [
    fd 31 16 .ro,
    fd 15 0 .ro],
  -- CNT_CLR
  RegRow.one 0x029 [
    fd 0 0 .wo]]

/-- FIELD: the block registers of the page (16_safety_functions.md, R399). -/
def rowsField : List RegRow :=
  [
  -- CFG
  RegRow.one 0x010 [
    fd 31 24 .rws 0 .frame,
    fd 23 16 .rws 29 .frame,
    fd 15 8 .rws 0 .frame,
    fd 4 0 .rws 2 .frame],
  -- TRUMP
  RegRow.one 0x011 [
    fd 31 31 .rws 0 .frame,
    fd 29 24 .rws 0 .frame,
    fd 23 20 .rws 0 .frame],
  -- CODE0
  RegRow.one 0x012 [
    fd 31 0 .rws 0xFFFFFFF0 .frame],
  -- CODE1
  RegRow.one 0x013 [
    fd 31 0 .rws 0xFFFFFFFF .frame],
  -- SW
  RegRow.one 0x014 [
    fd 19 8 .rws 100 .frame,
    fd 2 0 .rws 0 .frame],
  -- GEOM
  RegRow.one 0x015 [
    fd 31 16 .rws 3 .frame,
    fd 15 0 .rws 0 .frame],
  -- STAT
  RegRow.one 0x016 [
    fd 31 24 .ro,
    fd 23 16 .ro,
    fd 15 8 .ro,
    fd 4 0 .ro],
  -- BLIND
  RegRow.one 0x017 [
    fd 31 16 .ro,
    fd 15 0 .ro],
  -- REQ
  RegRow.many 0x018 12 1 [
    fd 31 0 .rws 0 .frame],
  -- FA
  RegRow.many 0x040 24 2 [
    fd 31 31 .rws 0 .frame,
    fd 30 22 .rws 0 .frame,
    fd 21 18 .rws 0 .frame,
    fd 15 8 .rws 0 .frame],
  -- FB
  RegRow.many 0x041 24 2 [
    fd 31 16 .rws 0 .frame,
    fd 15 0 .rws 0 .frame],
  -- VERT
  RegRow.many 0x100 384 1 [
    fd 31 16 .rws 0 .frame,
    fd 15 0 .rws 0 .frame],
  -- DIR
  RegRow.many 0x280 384 1 [
    fd 31 16 .rws 0 .frame,
    fd 15 0 .rws 0 .frame]]

/-- LEDGER: the block registers of the page (18_calibration_and_housekeeping.md, R445). -/
def rowsLedger : List RegRow :=
  [
  -- STAT
  RegRow.one 0x010 [
    fd 31 31 .ro,
    fd 7 0 .ro],
  -- BOOTP
  RegRow.one 0x011 [
    fd 24 24 .rwl,
    fd 23 12 .rwl 100,
    fd 11 8 .rwl 3,
    fd 7 0 .rwl 20],
  -- CMD
  RegRow.one 0x012 [
    fd 1 0 .wo],
  -- ECC
  RegRow.one 0x013 [
    fd 31 16 .ro,
    fd 15 0 .ro],
  -- WEAR
  RegRow.one 0x014 [
    fd 31 0 .ro]]

/-- HK: the block registers of the page (18_calibration_and_housekeeping.md, R444). -/
def rowsHk : List RegRow :=
  [
  -- CFG
  RegRow.one 0x010 [
    fd 15 12 .rws 0 .imm,
    fd 11 8 .rws 1 .imm,
    fd 7 0 .rws 10 .imm],
  -- THR_DIE
  RegRow.one 0x011 [
    fd 27 16 .rwl 1840,
    fd 11 0 .rwl 2000],
  -- THR_LAS
  RegRow.one 0x012 [
    fd 27 16 .rwl 1360,
    fd 11 0 .rwl 1520],
  -- SHUT_LAS
  RegRow.one 0x013 [
    fd 11 0 .rwl 1680],
  -- GRACE
  RegRow.one 0x014 [
    fd 23 16 .rws 80 .imm,
    fd 15 0 .rws 2000 .imm],
  -- STEP
  RegRow.one 0x015 [
    fd 7 7 .ro,
    fd 6 5 .ro,
    fd 4 2 .ro,
    fd 1 0 .ro],
  -- SUSPECT
  RegRow.one 0x016 [
    fd 31 24 .ro,
    fd 23 16 .ro,
    fd 7 0 .ro],
  -- TEMPS
  RegRow.one 0x017 [
    fd 31 16 .ro,
    fd 15 0 .ro],
  -- TD
  RegRow.many 0x018 4 1 [
    fd 31 16 .rwl,
    fd 15 0 .rwl 16515],
  -- TH
  RegRow.many 0x01C 4 1 [
    fd 31 16 .rwl 1000,
    fd 15 0 .rwl 3435],
  -- SLOT
  RegRow.many 0x040 64 1 [
    fd 16 16 .ro,
    fd 15 0 .ro],
  -- SUP
  RegRow.many 0x080 10 1 [
    fd 31 16 .ro,
    fd 15 0 .ro],
  -- CNT_CLR
  RegRow.one 0x08A [
    fd 0 0 .wo]]

/-- CAL: the block registers of the page (18_calibration_and_housekeeping.md, R443). -/
def rowsCal : List RegRow :=
  [
  -- CFG
  RegRow.one 0x010 [
    fd 10 8 .rws 2 .imm,
    fd 4 0 .rws 31 .imm],
  -- INT
  RegRow.one 0x011 [
    fd 31 24 .rws 10 .imm,
    fd 23 16 .rws 1 .imm,
    fd 15 0 .rws 60 .imm],
  -- STAT
  RegRow.one 0x012 [
    fd 31 16 .ro,
    fd 11 9 .ro,
    fd 8 0 .ro],
  -- COUNT
  RegRow.many 0x020 7 4 [
    fd 31 0 .ro],
  -- TIME_HI
  RegRow.many 0x021 7 4 [
    fd 31 0 .ro],
  -- TIME_LO
  RegRow.many 0x022 7 4 [
    fd 31 0 .ro],
  -- DATE
  RegRow.many 0x023 7 4 [
    fd 31 0 .rwl],
  -- EOL_REF
  RegRow.one 0x040 [
    fd 18 0 .rws 20000 .imm],
  -- EOL_CFG
  RegRow.one 0x041 [
    fd 31 20 .rws 256 .imm,
    fd 19 16 .rws 1 .imm,
    fd 15 0 .rws 1000 .imm],
  -- EOL_CMD
  RegRow.one 0x042 [
    fd 1 1 .wo,
    fd 0 0 .wo],
  -- EOL_STAT
  RegRow.one 0x043 [
    fd 31 31 .ro,
    fd 30 28 .ro,
    fd 24 16 .ro,
    fd 8 0 .ro],
  -- EOL_FAIL
  RegRow.many 0x044 12 1 [
    fd 31 0 .ro]]

/-- BANK: the block registers of the page (15_memory_banks.md, R362). -/
def rowsBank : List RegRow :=
  [
  -- OWN
  RegRow.many 0x010 32 1 [
    fd 19 16 .ro,
    fd 9 9 .w1c,
    fd 8 8 .ro,
    fd 3 0 .rw 1],
  -- CFG
  RegRow.one 0x030 [
    fd 23 16 .rw 10,
    fd 0 0 .rw 1],
  -- ECC_CNT
  RegRow.one 0x031 [
    fd 31 16 .ro,
    fd 15 0 .ro],
  -- ECC_LAST
  RegRow.one 0x032 [
    fd 31 31 .ro,
    fd 20 16 .ro,
    fd 15 0 .ro],
  -- RECLAIM
  RegRow.one 0x033 [
    fd 31 16 .ro,
    fd 15 0 .ro],
  -- CNT_CLR
  RegRow.one 0x034 [
    fd 0 0 .wo],
  -- DROP
  RegRow.one 0x035 [
    fd 31 0 .ro],
  -- REPAIR
  RegRow.many 0x038 8 1 [
    fd 31 0 .ro]]

/-- DEAL: the block registers of the page (05_dealer.md, R134). -/
def rowsDeal : List RegRow :=
  [
  -- MODE
  RegRow.one 0x010 [
    fd 9 8 .rws 0 .frame,
    fd 5 4 .rws 0 .frameDrained,
    fd 1 0 .rws 0 .frameDrained],
  -- SLOTS
  RegRow.one 0x011 [
    fd 27 22 .rws,
    fd 21 16 .rws 16,
    fd 13 8 .rws 8],
  -- SPACING
  RegRow.one 0x012 [
    fd 15 0 .rws 1250],
  -- HANDS
  RegRow.one 0x013 [
    fd 11 0 .rws 2048 .frameDrained],
  -- GROUP_MAP
  RegRow.many 0x014 4 1 [
    fd 31 0 .rws 0 .drained],
  -- THROTTLE
  RegRow.one 0x018 [
    fd 26 16 .rws 768 .imm,
    fd 10 0 .rws 384 .imm],
  -- BID_CFG
  RegRow.one 0x019 [
    fd 21 16 .rws 16 .imm,
    fd 2 2 .rws 1 .imm,
    fd 1 1 .rws 1 .imm,
    fd 0 0 .rws 1 .imm],
  -- BID
  RegRow.one 0x01A [
    fd 31 19 .wo,
    fd 18 13 .wo,
    fd 12 9 .wo,
    fd 8 0 .wo],
  -- RING_SEL
  RegRow.one 0x01B [
    fd 12 0 .rw],
  -- RING_STATE
  RegRow.one 0x01C [
    fd 31 28 .ro 1,
    fd 27 24 .ro 1,
    fd 23 20 .ro,
    fd 19 14 .ro,
    fd 13 8 .ro],
  -- HAND_STAT
  RegRow.one 0x01D [
    fd 26 16 .ro,
    fd 15 13 .ro,
    fd 12 11 .ro,
    fd 5 0 .ro],
  -- THROTTLE_STAT
  RegRow.one 0x01E [
    fd 31 0 .ro],
  -- FIRED
  RegRow.one 0x01F [
    fd 31 0 .ro],
  -- DENIED
  RegRow.one 0x020 [
    fd 31 0 .ro],
  -- THROTTLED
  RegRow.one 0x021 [
    fd 31 0 .ro],
  -- LOST
  RegRow.one 0x022 [
    fd 31 16 .ro,
    fd 15 0 .ro],
  -- BIDS
  RegRow.one 0x023 [
    fd 31 16 .ro,
    fd 15 0 .ro],
  -- SHORT
  RegRow.one 0x024 [
    fd 31 16 .ro,
    fd 15 0 .ro],
  -- CNT_CLR
  RegRow.one 0x025 [
    fd 0 0 .wo],
  -- PAT_CTRL
  RegRow.one 0x026 [
    fd 3 0 .rws 0 .frame]] ++
  [
  -- PAT_STEP
  RegRow.many 0x028 8 1 [
    fd 28 16 .rws 0 .frame,
    fd 3 0 .rws 0 .frame]]

/-- SHUF: the block registers of the page (05_dealer.md, R135). -/
def rowsShuf : List RegRow :=
  [
  -- SEED
  RegRow.many 0x010 4 4 [
    fd 15 0 .rws 7467 .hand 4369 0 0],
  -- DITHER
  RegRow.many 0x011 4 4 [
    fd 7 0 .rws 120],
  -- BURST
  RegRow.many 0x012 4 4 [
    fd 29 24 .rws 30,
    fd 21 16 .rws 22,
    fd 13 8 .rws 14,
    fd 1 0 .rws],
  -- COUNT
  RegRow.many 0x013 4 4 [
    fd 31 0 .ro]]

/-- EMIT: the block registers of the page (06_emitter_and_laser_bus.md, R163). -/
def rowsEmit : List RegRow :=
  [
  -- FF_CTRL
  RegRow.one 0x010 [
    fd 29 16 .rws 8192 .frameDrained,
    fd 4 4 .wo,
    fd 3 3 .ro,
    fd 2 2 .ro,
    fd 1 1 .ro,
    fd 0 0 .rws 0 .frame],
  -- GOV_PULSE
  RegRow.one 0x011 [
    fd 31 0 .rwl],
  -- GOV_100US
  RegRow.one 0x012 [
    fd 31 0 .rwl],
  -- GOV_10MS
  RegRow.one 0x013 [
    fd 31 0 .rwl],
  -- GOV_10S
  RegRow.one 0x014 [
    fd 31 0 .rwl],
  -- STATIC_100US
  RegRow.one 0x015 [
    fd 31 0 .rwl],
  -- STATIC_10MS
  RegRow.one 0x016 [
    fd 31 0 .rwl],
  -- GOV_CTRL
  RegRow.one 0x017 [
    fd 31 31 .ro 1,
    fd 7 0 .rwl 10],
  -- DENY
  RegRow.one 0x018 [
    fd 31 24 .ro,
    fd 23 16 .ro,
    fd 15 8 .ro,
    fd 7 0 .ro],
  -- CNT_CLR
  RegRow.one 0x019 [
    fd 0 0 .wo],
  -- MPD_USE
  RegRow.one 0x01A [
    fd 15 0 .rws 65535],
  -- MPD_CFG
  RegRow.one 0x01B [
    fd 31 31 .rws 1 .imm,
    fd 29 24 .rws 16,
    fd 7 0 .rwl 20],
  -- MPD_K
  RegRow.many 0x020 16 1 [
    fd 15 0 .rwl 256],
  -- LOOP
  RegRow.many 0x030 16 1 [
    fd 22 16 .ro,
    fd 15 0 .ro 4096],
  -- FAULT
  RegRow.one 0x040 [
    fd 31 31 .ro,
    fd 30 28 .ro,
    fd 27 24 .ro,
    fd 13 0 .ro],
  -- FAULT_CLR
  RegRow.one 0x041 [
    fd 0 0 .wo],
  -- CELLFLT
  RegRow.one 0x042 [
    fd 14 13 .ro,
    fd 12 0 .ro],
  -- SUBST
  RegRow.many 0x050 32 1 [
    fd 31 31 .rws,
    fd 28 16 .rws,
    fd 12 0 .rws],
  -- CLAMP
  RegRow.many 0x080 16 1 [
    fd 9 0 .rwl],
  -- LEVEL
  RegRow.many 0x100 256 1 [
    fd 25 16 .rws 0 .frame,
    fd 15 0 .rwl]] ++
  [
  -- MASK_HOST
  RegRow.many 0x200 256 1 [
    fd 31 0 .rws],
  -- MASK_AUTO
  RegRow.many 0x300 256 1 [
    fd 31 0 .w1c]]

/-- LDB: the block registers of the page (06_emitter_and_laser_bus.md, R164). -/
def rowsLdb : List RegRow :=
  [
  -- STATUS
  RegRow.one 0x002 [
    fd 31 31 .ro,
    fd 2 2 .ro,
    fd 1 1 .ro,
    fd 0 0 .ro],
  -- TILE_EN
  RegRow.one 0x010 [
    fd 31 16 .ro,
    fd 15 0 .rws 1 .frame],
  -- POLL
  RegRow.one 0x011 [
    fd 7 0 .rws 20 .imm],
  -- ERR_CNT
  RegRow.one 0x012 [
    fd 31 24 .ro,
    fd 23 16 .ro,
    fd 15 8 .ro,
    fd 7 0 .ro],
  -- QUEUE
  RegRow.one 0x013 [
    fd 6 0 .ro],
  -- CMD
  RegRow.one 0x014 [
    fd 1 1 .wo,
    fd 0 0 .wo],
  -- DARK
  RegRow.one 0x015 [
    fd 15 0 .ro],
  -- FIRE
  RegRow.one 0x016 [
    fd 2 0 .rws 4 .frame]]

/-- STEER: the block registers of the page (07_beam_steering.md, R186). -/
def rowsSteer : List RegRow :=
  [
  -- MODE
  RegRow.one 0x010 [
    fd 8 8 .rws 0 .frame,
    fd 4 4 .rws 0 .frame,
    fd 1 0 .rws 0 .frame],
  -- PERIOD
  RegRow.one 0x011 [
    fd 26 0 .rws 0x27BC86B .frame],
  -- SYNC_DELAY
  RegRow.one 0x012 [
    fd 26 0 .rws 0 .imm],
  -- LOCK_CFG
  RegRow.one 0x013 [
    fd 31 24 .rws 64 .imm,
    fd 23 0 .rws 1250 .imm],
  -- LOCK_STAT
  RegRow.one 0x014 [
    fd 3 3 .ro,
    fd 2 2 .ro,
    fd 1 0 .ro],
  -- PHASE_ERR
  RegRow.one 0x015 [
    fd 31 0 .ro],
  -- PERIOD_EST
  RegRow.one 0x016 [
    fd 31 0 .ro],
  -- SYNC_CNT
  RegRow.one 0x017 [
    fd 31 16 .ro,
    fd 15 0 .ro],
  -- X_MIN
  RegRow.one 0x018 [
    fd 31 0 .rws 0 .frame],
  -- X_MAX
  RegRow.one 0x019 [
    fd 31 0 .rws 0 .frame],
  -- TURN
  RegRow.one 0x01A [
    fd 6 0 .rws 0 .frame],
  -- Y_BASE
  RegRow.one 0x01B [
    fd 31 0 .rws 0 .frame],
  -- RAMP_RATE
  RegRow.one 0x01C [
    fd 31 0 .rws 0 .imm],
  -- RAMP_X
  RegRow.one 0x01D [
    fd 31 0 .rws 0 .imm],
  -- RAMP_Y
  RegRow.one 0x01E [
    fd 31 0 .rws 0 .imm],
  -- PARK_X
  RegRow.one 0x01F [
    fd 31 0 .rws 0 .imm],
  -- PARK_Y
  RegRow.one 0x020 [
    fd 31 0 .rws 0 .imm],
  -- PARK_I
  RegRow.one 0x021 [
    fd 31 16 .rws 0 .imm,
    fd 15 0 .rws 0 .imm],
  -- PLAUS_CFG
  RegRow.one 0x022 [
    fd 31 24 .rws 16 .imm,
    fd 23 16 .rws 96 .imm],
  -- PLAUS
  RegRow.one 0x023 [
    fd 31 31 .ro,
    fd 30 30 .ro 1,
    fd 11 0 .ro 1]] ++
  [
  -- PLAUS_CNT
  RegRow.one 0x024 [
    fd 31 16 .ro,
    fd 15 0 .ro],
  -- CNT_CLR
  RegRow.one 0x025 [
    fd 0 0 .wo],
  -- Y_OFF
  RegRow.many 0x028 8 1 [
    fd 31 0 .rws 0 .frame],
  -- ROLE
  RegRow.many 0x030 2 32 [
    fd 8 8 .rws 0 .frame,
    fd 7 7 .rws 0 .frame,
    fd 6 4 .rws 0 .frame,
    fd 2 0 .rws 0 .frame],
  -- KP
  RegRow.many 0x031 2 32 [
    fd 23 0 .rws 0 .imm],
  -- KI
  RegRow.many 0x032 2 32 [
    fd 23 0 .rws 0 .imm],
  -- KD
  RegRow.many 0x033 2 32 [
    fd 23 0 .rws 0 .imm],
  -- KX
  RegRow.many 0x034 2 32 [
    fd 23 0 .rws 0 .imm],
  -- KV
  RegRow.many 0x035 2 32 [
    fd 23 0 .rws 0 .imm],
  -- KA
  RegRow.many 0x036 2 32 [
    fd 23 0 .rws 0 .imm],
  -- SHIFTS
  RegRow.many 0x037 2 32 [
    fd 12 8 .rws 0 .imm,
    fd 4 0 .rws 0 .imm],
  -- LIMIT
  RegRow.many 0x038 2 32 [
    fd 31 16 .rws 32767 .imm,
    fd 15 0 .rws 32768 .imm],
  -- N1_NUM0
  RegRow.many 0x039 2 32 [
    fd 23 0 .rws 0x400000 .imm],
  -- N1_NUM1
  RegRow.many 0x03A 2 32 [
    fd 23 0 .rws 0 .imm],
  -- N1_NUM2
  RegRow.many 0x03B 2 32 [
    fd 23 0 .rws 0 .imm],
  -- N1_DEN1
  RegRow.many 0x03C 2 32 [
    fd 23 0 .rws 0 .imm],
  -- N1_DEN2
  RegRow.many 0x03D 2 32 [
    fd 23 0 .rws 0 .imm],
  -- N2_NUM0
  RegRow.many 0x03E 2 32 [
    fd 23 0 .rws 0x400000 .imm],
  -- N2_NUM1
  RegRow.many 0x03F 2 32 [
    fd 23 0 .rws 0 .imm],
  -- N2_NUM2
  RegRow.many 0x040 2 32 [
    fd 23 0 .rws 0 .imm]] ++
  [
  -- N2_DEN1
  RegRow.many 0x041 2 32 [
    fd 23 0 .rws 0 .imm],
  -- N2_DEN2
  RegRow.many 0x042 2 32 [
    fd 23 0 .rws 0 .imm],
  -- TRACK
  RegRow.many 0x043 2 32 [
    fd 31 28 .rws 2 .imm,
    fd 23 0 .rws 0xFFFFFF .imm],
  -- AGREE
  RegRow.many 0x044 2 32 [
    fd 23 0 .rws 0xFFFFFF .imm],
  -- STAT
  RegRow.many 0x045 2 32 [
    fd 31 16 .ro,
    fd 3 3 .ro,
    fd 2 2 .ro,
    fd 1 1 .ro,
    fd 0 0 .ro],
  -- ERR
  RegRow.many 0x046 2 32 [
    fd 31 0 .ro],
  -- DRIVE
  RegRow.many 0x047 2 32 [
    fd 15 0 .ro]]

/-- SENSE: the block registers of the page (07_beam_steering.md, R187). -/
def rowsSense : List RegRow :=
  [
  -- CFG
  RegRow.many 0x010 8 16 [
    fd 17 16 .rws 0 .imm,
    fd 15 8 .rws 16 .imm,
    fd 6 6 .rws 0 .imm,
    fd 5 4 .rws 0 .imm,
    fd 2 1 .rws 1,
    fd 0 0 .rws],
  -- RATIO
  RegRow.many 0x011 8 16 [
    fd 27 16 .rws,
    fd 12 0 .rws 64],
  -- SHIFT
  RegRow.many 0x012 8 16 [
    fd 19 0 .rws],
  -- OFFSET
  RegRow.many 0x013 8 16 [
    fd 31 0 .rws 0 .imm],
  -- GAIN
  RegRow.many 0x014 8 16 [
    fd 23 0 .rws 0x400000 .imm],
  -- THR_HI
  RegRow.many 0x015 8 16 [
    fd 31 0 .rws 0x7FFFFFFF .imm],
  -- THR_LO
  RegRow.many 0x016 8 16 [
    fd 31 0 .rws 0x80000000 .imm],
  -- SAMPLE
  RegRow.many 0x017 8 16 [
    fd 31 0 .ro],
  -- STAT
  RegRow.many 0x018 8 16 [
    fd 31 16 .ro,
    fd 9 9 .ro,
    fd 8 8 .ro,
    fd 7 7 .ro,
    fd 6 6 .ro,
    fd 5 5 .ro,
    fd 4 4 .ro,
    fd 1 0 .ro],
  -- IMP
  RegRow.many 0x019 8 16 [
    fd 15 0 .ro],
  -- IMP_WIN
  RegRow.many 0x01A 8 16 [
    fd 31 16 .rws 65535 .imm,
    fd 15 0 .rws 0 .imm],
  -- EXC
  RegRow.many 0x090 8 1 [
    fd 31 31 .rws 0 .imm,
    fd 27 16 .rws 0 .imm,
    fd 3 0 .rws 0 .imm 1 0 0],
  -- TONE
  RegRow.many 0x098 8 1 [
    fd 31 31 .rws 0 .imm,
    fd 26 24 .rws 0 .imm,
    fd 11 0 .rws 0 .imm],
  -- GRD
  RegRow.one 0x0A0 [
    fd 7 7 .rws 0 .imm,
    fd 3 3 .rws 0 .imm,
    fd 2 0 .rws 0 .imm,
    fd 15 15 .rws 0 .imm,
    fd 11 11 .rws 0 .imm,
    fd 10 8 .rws 0 .imm,
    fd 23 23 .rws 0 .imm,
    fd 19 19 .rws 0 .imm,
    fd 18 16 .rws 0 .imm,
    fd 31 31 .rws 0 .imm,
    fd 27 27 .rws 0 .imm,
    fd 26 24 .rws 0 .imm]]

/-- AFE: the block registers of the page (08_return_channels_and_timing.md, R216). -/
def rowsAfe : List RegRow :=
  [
  -- CNT_CLR
  RegRow.one 0x012 [
    fd 0 0 .wo],
  -- CFG
  RegRow.many 0x040 48 4 [
    fd 14 8 .rws 20,
    fd 5 4 .rws,
    fd 0 0 .rws],
  -- THR
  RegRow.many 0x041 48 4 [
    fd 25 16 .rws 128,
    fd 9 0 .rws 128],
  -- CAL
  RegRow.many 0x042 48 4 [
    fd 29 24 .ro,
    fd 21 20 .ro,
    fd 13 8 .ro,
    fd 5 4 .ro,
    fd 3 0 .ro 15],
  -- STAT
  RegRow.many 0x043 48 4 [
    fd 31 16 .ro,
    fd 3 3 .ro,
    fd 2 2 .ro,
    fd 1 1 .ro,
    fd 0 0 .ro]]

/-- The words that AFE0 alone has (R216). -/
def rowsAfe0 : List RegRow :=
  [
  -- DBIAS_WIN
  RegRow.one 0x010 [
    fd 26 16 .rws 1200,
    fd 10 0 .rws],
  -- DBIAS_VAL
  RegRow.one 0x011 [
    fd 31 31 .ro,
    fd 10 0 .ro]] ++ rowsAfe

/-- TDC: the block registers of the page (08_return_channels_and_timing.md, R217). -/
def rowsTdc : List RegRow :=
  [
  -- WIN
  RegRow.one 0x010 [
    fd 23 16 .rws 64,
    fd 15 8 .rws 64,
    fd 2 2 .rws,
    fd 1 0 .rws],
  -- DLL
  RegRow.one 0x011 [
    fd 31 31 .ro,
    fd 30 30 .ro,
    fd 29 29 .ro,
    fd 25 16 .ro 255,
    fd 9 0 .ro 255],
  -- FAILED0
  RegRow.one 0x012 [
    fd 31 0 .ro],
  -- FAILED1
  RegRow.one 0x013 [
    fd 15 0 .ro],
  -- FAIL_CLR
  RegRow.one 0x014 [
    fd 6 6 .wo,
    fd 5 0 .wo],
  -- ARMX_CNT
  RegRow.one 0x015 [
    fd 31 16 .ro,
    fd 15 0 .ro],
  -- CNT_CLR
  RegRow.one 0x016 [
    fd 0 0 .wo],
  -- MAP
  RegRow.many 0x040 48 16 [
    fd 31 31 .rws 0 .drained,
    fd 5 0 .rws 0 .drained 1 0 0],
  -- GATE_START
  RegRow.many 0x041 48 16 [
    fd 19 0 .rws 320],
  -- GATE_END
  RegRow.many 0x042 48 16 [
    fd 19 0 .rws 0x1F400],
  -- LIN
  RegRow.many 0x043 48 16 [
    fd 25 16 .ro 832,
    fd 9 0 .ro 192],
  -- INL_A
  RegRow.many 0x044 48 16 [
    fd 31 0 .ro],
  -- INL_B
  RegRow.many 0x045 48 16 [
    fd 23 0 .ro],
  -- STAT
  RegRow.many 0x046 48 16 [
    fd 31 31 .ro,
    fd 30 28 .ro,
    fd 20 20 .ro,
    fd 19 16 .ro],
  -- CNT
  RegRow.many 0x047 48 16 [
    fd 31 16 .ro,
    fd 15 0 .ro],
  -- EVENTS
  RegRow.many 0x048 48 16 [
    fd 31 0 .ro]]

/-- KITTY: the block registers of the page (08_return_channels_and_timing.md, R218). -/
def rowsKitty : List RegRow :=
  [
  -- SUMMARY
  RegRow.one 0x010 [
    fd 24 20 .ro 16,
    fd 19 15 .ro,
    fd 14 10 .ro,
    fd 9 5 .ro,
    fd 4 0 .ro],
  -- DUMMY_CFG
  RegRow.one 0x011 [
    fd 31 31 .rws 1,
    fd 25 24 .rws 1,
    fd 23 16 .rws 8,
    fd 14 12 .rws,
    fd 11 0 .rws 64],
  -- DUMMY_LAST
  RegRow.one 0x012 [
    fd 31 31 .ro,
    fd 30 30 .ro,
    fd 21 0 .ro],
  -- DUMMY_CNT
  RegRow.one 0x013 [
    fd 31 16 .ro,
    fd 15 0 .ro],
  -- DUMMY_D0
  RegRow.one 0x014 [
    fd 15 0 .ro],
  -- CNT_CLR
  RegRow.one 0x015 [
    fd 0 0 .wo],
  -- ASSIGN
  RegRow.many 0x040 16 8 [
    fd 31 29 .ro,
    fd 8 0 .ro],
  -- HOST
  RegRow.many 0x041 16 8 [
    fd 31 31 .rws,
    fd 8 0 .rws],
  -- LIN
  RegRow.many 0x042 16 8 [
    fd 25 16 .ro 832,
    fd 9 0 .ro 192],
  -- INL_A
  RegRow.many 0x043 16 8 [
    fd 31 0 .ro],
  -- INL_B
  RegRow.many 0x044 16 8 [
    fd 23 0 .ro],
  -- XOFS_A
  RegRow.many 0x045 16 8 [
    fd 31 0 .ro],
  -- XOFS_B
  RegRow.many 0x046 16 8 [
    fd 31 0 .ro]]

/-- ADC: the block registers of the page (12_waveforms_and_acquisition.md, R291). -/
def rowsAdc : List RegRow :=
  [
  -- STATUS
  RegRow.one 0x002 [
    fd 31 31 .ro,
    fd 0 0 .ro],
  -- MUX
  RegRow.many 0x010 8 1 [
    fd 5 0 .rws],
  -- SPARE
  RegRow.one 0x018 [
    fd 31 29 .ro,
    fd 2 0 .ro],
  -- FAIL_CLR
  RegRow.one 0x019 [
    fd 4 4 .wo,
    fd 2 0 .wo],
  -- CNT_CLR
  RegRow.one 0x01A [
    fd 0 0 .wo],
  -- STAT
  RegRow.many 0x020 9 1 [
    fd 31 31 .ro,
    fd 30 28 .ro,
    fd 15 0 .ro],
  -- ACORR
  RegRow.many 0x030 9 1 [
    fd 31 16 .ro 16384,
    fd 15 0 .ro],
  -- CCORR
  RegRow.many 0x100 384 1 [
    fd 31 16 .rws 16384,
    fd 15 0 .rws]]

/-- ACQ: the block registers of the page (12_waveforms_and_acquisition.md, R292). -/
def rowsAcq : List RegRow :=
  [
  -- MODE
  RegRow.one 0x010 [
    fd 7 4 .rws,
    fd 1 0 .rws],
  -- REC
  RegRow.one 0x011 [
    fd 26 16 .rws 16,
    fd 12 0 .rws 512],
  -- HOLDOFF
  RegRow.one 0x012 [
    fd 23 0 .rws],
  -- SRC_CFG
  RegRow.many 0x020 8 2 [
    fd 31 31 .rws,
    fd 30 28 .rws,
    fd 24 16 .rws,
    fd 13 12 .rws,
    fd 11 6 .rws],
  -- SRC_PAR
  RegRow.many 0x021 8 2 [
    fd 31 0 .rws],
  -- BASE
  RegRow.one 0x030 [
    fd 31 16 .rws 65520,
    fd 12 0 .rws 16],
  -- MWIN
  RegRow.one 0x031 [
    fd 31 16 .rws,
    fd 12 0 .rws 496],
  -- MEAS
  RegRow.one 0x032 [
    fd 31 31 .rws,
    fd 30 30 .rws,
    fd 15 0 .rws 160],
  -- OUT
  RegRow.one 0x033 [
    fd 31 31 .rws 1,
    fd 30 30 .rws 1,
    fd 4 0 .rws 1],
  -- RR
  RegRow.one 0x034 [
    fd 31 31 .rws 1,
    fd 27 20 .rws 10,
    fd 19 10 .rws 512,
    fd 9 0 .rws 128],
  -- CMD
  RegRow.one 0x035 [
    fd 2 2 .wo,
    fd 1 1 .wo,
    fd 0 0 .wo],
  -- STATE
  RegRow.one 0x036 [
    fd 31 28 .ro,
    fd 26 24 .ro,
    fd 16 8 .ro],
  -- RING_WR
  RegRow.one 0x037 [
    fd 31 16 .ro,
    fd 15 0 .ro],
  -- RING_RD
  RegRow.one 0x038 [
    fd 15 0 .rw],
  -- CNT_A
  RegRow.one 0x039 [
    fd 31 16 .ro,
    fd 15 0 .ro],
  -- CNT_B
  RegRow.one 0x03A [
    fd 31 16 .ro,
    fd 15 0 .ro],
  -- CNT_C
  RegRow.one 0x03B [
    fd 31 0 .ro]]

/-- HIST: the block registers of the page (09_histograms.md, R235). -/
def rowsHist : List RegRow :=
  [
  -- STATUS
  RegRow.one 0x002 [
    fd 31 31 .ro,
    fd 1 1 .ro,
    fd 0 0 .ro],
  -- MODE
  RegRow.one 0x010 [
    fd 13 12 .rws 1,
    fd 9 8 .rws 3 .drained,
    fd 4 4 .rws 0 .drained,
    fd 1 0 .rws 1 .drained],
  -- PLACE
  RegRow.one 0x011 [
    fd 21 16 .rws,
    fd 15 8 .rws 32,
    fd 7 0 .rws 3],
  -- DUMP
  RegRow.one 0x012 [
    fd 5 4 .rws,
    fd 1 1 .rws,
    fd 0 0 .rws],
  -- DUMP_CH
  RegRow.many 0x013 2 1 [
    fd 31 31 .rws,
    fd 24 16 .rws,
    fd 15 15 .rws,
    fd 8 0 .rws],
  -- RAW
  RegRow.one 0x015 [
    fd 17 17 .rws 1,
    fd 16 16 .rws,
    fd 12 8 .rws,
    fd 4 0 .rws],
  -- RAW_STAT
  RegRow.one 0x016 [
    fd 31 31 .ro,
    fd 15 0 .ro],
  -- SAT
  RegRow.one 0x017 [
    fd 31 0 .w1c],
  -- LATE
  RegRow.one 0x018 [
    fd 31 16 .ro,
    fd 15 0 .ro],
  -- DUMP_CNT
  RegRow.one 0x019 [
    fd 31 16 .ro,
    fd 15 0 .ro],
  -- RAW_DROP
  RegRow.one 0x01A [
    fd 31 0 .ro],
  -- PLACE_MAX
  RegRow.one 0x01B [
    fd 15 0 .ro],
  -- DRAIN
  RegRow.one 0x01C [
    fd 31 16 .ro,
    fd 15 0 .ro],
  -- CNT_CLR
  RegRow.one 0x01D [
    fd 0 0 .wo]]

/-- REJ: the block registers of the page (10_rejection.md, R249). -/
def rowsRej : List RegRow :=
  [
  -- BG
  RegRow.one 0x010 [
    fd 4 4 .rws 1,
    fd 1 0 .rws 2],
  -- THR
  RegRow.one 0x011 [
    fd 15 8 .rws 64,
    fd 7 0 .rws 4],
  -- CORR
  RegRow.one 0x012 [
    fd 31 31 .rws 1,
    fd 17 16 .rws,
    fd 15 8 .rws 24,
    fd 7 0 .rws 4],
  -- VOL
  RegRow.one 0x013 [
    fd 31 31 .rws 1,
    fd 27 24 .rws 5,
    fd 23 16 .rws 4,
    fd 10 0 .rws 63],
  -- BLOOM
  RegRow.one 0x014 [
    fd 31 31 .rws 1,
    fd 19 16 .rws 6,
    fd 15 8 .rws 15,
    fd 7 0 .rws 4],
  -- OUT
  RegRow.one 0x015 [
    fd 9 8 .rws 3,
    fd 2 2 .rws 1,
    fd 1 1 .rws 1,
    fd 0 0 .rws 1],
  -- SUN
  RegRow.one 0x016 [
    fd 7 0 .rws 32],
  -- CNT_A
  RegRow.one 0x018 [
    fd 31 16 .ro,
    fd 15 0 .ro],
  -- CNT_B
  RegRow.one 0x019 [
    fd 31 16 .ro,
    fd 15 0 .ro],
  -- CNT_C
  RegRow.one 0x01A [
    fd 31 16 .ro,
    fd 15 0 .ro],
  -- SUN_CNT
  RegRow.one 0x01B [
    fd 31 0 .ro],
  -- CNT_CLR
  RegRow.one 0x01C [
    fd 0 0 .wo],
  -- BG_SEL
  RegRow.one 0x01D [
    fd 8 0 .rw],
  -- BG_STAT
  RegRow.one 0x01E [
    fd 31 30 .ro,
    fd 29 16 .ro,
    fd 15 8 .ro,
    fd 2 0 .ro],
  -- LAT
  RegRow.one 0x01F [
    fd 15 0 .ro]]

/-- PNT: the block registers of the page (11_point_builder.md, R268). -/
def rowsPnt : List RegRow :=
  [
  -- OUT
  RegRow.one 0x010 [
    fd 5 4 .rws 2,
    fd 0 0 .rws 1],
  -- KPROP
  RegRow.one 0x011 [
    fd 23 0 .rwl 0x1DF890],
  -- OFS_G
  RegRow.one 0x012 [
    fd 15 0 .rwl],
  -- TEMP
  RegRow.one 0x013 [
    fd 31 20 .rwl 720,
    fd 7 4 .rws 8,
    fd 1 0 .rws],
  -- SAT
  RegRow.one 0x014 [
    fd 25 16 .rws 900,
    fd 7 0 .rws 8],
  -- INT
  RegRow.one 0x015 [
    fd 4 0 .rws 15],
  -- CONF
  RegRow.one 0x016 [
    fd 11 0 .rws 256],
  -- CAPS
  RegRow.one 0x017 [
    fd 31 24 .rws 128,
    fd 23 16 .rws 64,
    fd 15 8 .rws 32,
    fd 7 0 .rws 32],
  -- BID
  RegRow.one 0x018 [
    fd 31 31 .rws 1,
    fd 29 24 .rws 4,
    fd 23 20 .rws 4,
    fd 16 9 .rws 48,
    fd 8 0 .rws 60],
  -- CNT_A
  RegRow.one 0x019 [
    fd 31 0 .ro],
  -- CNT_B
  RegRow.one 0x01A [
    fd 31 16 .ro,
    fd 15 0 .ro],
  -- CNT_C
  RegRow.one 0x01B [
    fd 31 16 .ro,
    fd 15 0 .ro],
  -- CNT_CLR
  RegRow.one 0x01C [
    fd 0 0 .wo],
  -- LAT
  RegRow.one 0x01D [
    fd 15 0 .ro],
  -- FRAME
  RegRow.one 0x01E [
    fd 31 0 .ro],
  -- TC
  RegRow.many 0x030 8 1 [
    fd 31 16 .rwl,
    fd 15 0 .rwl],
  -- WALK
  RegRow.many 0x040 64 1 [
    fd 15 0 .rwl],
  -- OFS
  RegRow.many 0x100 384 1 [
    fd 19 0 .rwl]]

/-- ZONE: the block registers of the page (13_cameras_and_fusion.md, R329). -/
def rowsZone : List RegRow :=
  [
  -- PROJ
  RegRow.one 0x010 [
    fd 23 16 .rws 0 .frame,
    fd 10 8 .rws 0 .frame,
    fd 7 4 .rws 0 .frame,
    fd 3 0 .rws 0 .frame],
  -- RBANK
  RegRow.one 0x011 [
    fd 28 24 .rws 0 .frame,
    fd 20 16 .rws 0 .frame,
    fd 12 8 .rws 0 .frame,
    fd 4 0 .rws 0 .frame],
  -- GEOM
  RegRow.one 0x012 [
    fd 31 16 .rws 3 .frame,
    fd 15 0 .rws 0 .frame],
  -- ZCFG
  RegRow.one 0x013 [
    fd 31 24 .rws 29 .frame,
    fd 23 16 .rws 64 .frame,
    fd 15 0 .rws 65535 .frame],
  -- BID
  RegRow.one 0x014 [
    fd 31 31 .rws 0 .frame,
    fd 29 24 .rws 0 .frame,
    fd 23 20 .rws 0 .frame],
  -- OVL
  RegRow.one 0x015 [
    fd 31 28 .rws 0 .frame,
    fd 7 0 .rws 0 .frame],
  -- DROP
  RegRow.one 0x016 [
    fd 31 16 .ro,
    fd 15 0 .ro],
  -- CNT_CLR
  RegRow.one 0x017 [
    fd 0 0 .wo],
  -- OUTMAP
  RegRow.many 0x018 8 1 [
    fd 31 0 .rws 0 .frame],
  -- OCC
  RegRow.many 0x020 2 1 [
    fd 31 0 .ro],
  -- UNK
  RegRow.many 0x022 2 1 [
    fd 31 0 .ro],
  -- BAND
  RegRow.many 0x030 16 1 [
    fd 24 16 .rws 0 .frame,
    fd 15 0 .rws 0 .frame],
  -- DIR
  RegRow.many 0x100 384 1 [
    fd 31 16 .rws 0 .frame,
    fd 15 0 .rws 0 .frame],
  -- CM: 1.0 on the diagonal
  RegRow.mk 0x280 4 16 3 4 [
    fd 23 0 .rws 0x400000 .frame],
  RegRow.mk 0x281 4 16 3 1 [
    fd 23 0 .rws 0 .frame],
  RegRow.mk 0x285 4 16 3 1 [
    fd 23 0 .rws 0 .frame],
  -- CT
  RegRow.mk 0x289 4 16 3 1 [
    fd 31 0 .rws 0 .frame],
  -- CF
  RegRow.mk 0x28C 4 16 2 1 [
    fd 23 0 .rws 0 .frame],
  -- CC
  RegRow.many 0x28E 4 16 [
    fd 31 16 .rws 0 .frame,
    fd 15 0 .rws 0 .frame],
  -- CK
  RegRow.many 0x28F 4 16 [
    fd 31 16 .rws 0 .frame,
    fd 15 0 .rws 0 .frame],
  -- ZA
  RegRow.many 0x2C0 64 2 [
    fd 31 31 .rws 0 .frame,
    fd 30 30 .rws 0 .frame,
    fd 29 22 .rws 0 .frame,
    fd 21 18 .rws 0 .frame,
    fd 15 8 .rws 0 .frame,
    fd 7 4 .rws 0 .frame,
    fd 3 0 .rws 0 .frame],
  -- ZB
  RegRow.many 0x2C1 64 2 [
    fd 31 16 .rws 0 .frame,
    fd 15 0 .rws 0 .frame]] ++
  [
  -- VERT
  RegRow.many 0x340 192 1 [
    fd 31 16 .rws 0 .frame,
    fd 15 0 .rws 0 .frame]]

/-- CAM: the block registers of the page (13_cameras_and_fusion.md, R327). -/
def rowsCam : List RegRow :=
  [
  -- PHY
  RegRow.one 0x010 [
    fd 28 28 .rws,
    fd 27 24 .rws,
    fd 23 16 .rws 150,
    fd 13 12 .rws 3,
    fd 11 0 .rws 1500],
  -- STREAM
  RegRow.one 0x011 [
    fd 28 24 .rws 2 .hand 0 0 1,
    fd 21 16 .rws 43,
    fd 11 8 .rws,
    fd 1 0 .rws],
  -- GEOM
  RegRow.one 0x012 [
    fd 31 16 .rws 1080,
    fd 15 0 .rws 1920],
  -- FORMAT
  RegRow.one 0x013 [
    fd 2 2 .rws,
    fd 1 0 .rws],
  -- FSYNC
  RegRow.one 0x014 [
    fd 31 24 .rws 10,
    fd 23 23 .rws 1,
    fd 22 22 .rws,
    fd 15 0 .rws],
  -- EXP_OFS
  RegRow.one 0x015 [
    fd 19 0 .rws],
  -- EXP
  RegRow.one 0x016 [
    fd 27 16 .rws 256,
    fd 15 0 .rws 256],
  -- AE
  RegRow.one 0x017 [
    fd 31 31 .rws,
    fd 23 16 .rws 118,
    fd 11 0 .rws 2048],
  -- AE_LIM
  RegRow.one 0x018 [
    fd 31 16 .rws 2048,
    fd 15 0 .rws 1],
  -- RELAY
  RegRow.one 0x019 [
    fd 11 8 .rws,
    fd 5 4 .rws 1,
    fd 1 0 .rws 2],
  -- EGEN
  RegRow.one 0x01A [
    fd 31 24 .ro,
    fd 23 16 .ro,
    fd 15 15 .ro],
  -- FRAME
  RegRow.one 0x01B [
    fd 31 0 .ro],
  -- LAST
  RegRow.one 0x01C [
    fd 31 31 .ro,
    fd 30 30 .ro,
    fd 15 0 .ro],
  -- I2C_XFER
  RegRow.one 0x01D [
    fd 31 31 .w1s,
    fd 30 30 .rw,
    fd 29 23 .rw,
    fd 22 22 .rw,
    fd 21 20 .rw,
    fd 15 0 .rw],
  -- I2C_DATA
  RegRow.one 0x01E [
    fd 31 0 .rw],
  -- I2C_STAT
  RegRow.one 0x01F [
    fd 3 3 .ro,
    fd 2 2 .ro,
    fd 1 1 .ro,
    fd 0 0 .ro],
  -- SCRIPT
  RegRow.many 0x020 8 2 [
    fd 31 31 .rws,
    fd 30 24 .rws,
    fd 23 23 .rws,
    fd 22 20 .rws,
    fd 15 0 .rws],
  -- SCRIPT_CONST
  RegRow.many 0x021 8 2 [
    fd 15 0 .rws],
  -- ERR_A
  RegRow.one 0x030 [
    fd 31 24 .ro,
    fd 23 16 .ro,
    fd 15 8 .ro,
    fd 7 0 .ro],
  -- ERR_B
  RegRow.one 0x031 [
    fd 31 24 .ro,
    fd 23 16 .ro,
    fd 15 8 .ro,
    fd 7 0 .ro]] ++
  [
  -- ERR_C
  RegRow.one 0x032 [
    fd 31 16 .ro,
    fd 15 0 .ro],
  -- CNT_CLR
  RegRow.one 0x033 [
    fd 0 0 .wo]]

/-- ISP: the block registers of the page (13_cameras_and_fusion.md, R328). -/
def rowsIsp : List RegRow :=
  [
  -- LOAD
  RegRow.one 0x010 [
    fd 23 16 .ro,
    fd 2 0 .ro 4],
  -- CTL
  RegRow.many 0x040 4 32 [
    fd 31 20 .rws 16,
    fd 9 9 .rws 1,
    fd 8 8 .rws 1,
    fd 7 7 .rws 1,
    fd 1 0 .rws],
  -- BL
  RegRow.mk 0x041 4 32 2 1 [
    fd 31 16 .rws,
    fd 15 0 .rws],
  -- GAIN_GR
  RegRow.many 0x043 4 32 [
    fd 31 16 .rws 4096,
    fd 15 0 .rws 4096],
  -- GAIN_B
  RegRow.many 0x044 4 32 [
    fd 15 0 .rws 4096],
  -- M0
  RegRow.many 0x045 4 32 [
    fd 15 0 .rws 4096],
  -- M1
  RegRow.many 0x046 4 32 [
    fd 15 0 .rws],
  -- M2
  RegRow.many 0x047 4 32 [
    fd 15 0 .rws],
  -- M3
  RegRow.many 0x048 4 32 [
    fd 15 0 .rws],
  -- M4
  RegRow.many 0x049 4 32 [
    fd 15 0 .rws 4096],
  -- M5
  RegRow.many 0x04A 4 32 [
    fd 15 0 .rws],
  -- M6
  RegRow.many 0x04B 4 32 [
    fd 15 0 .rws],
  -- M7
  RegRow.many 0x04C 4 32 [
    fd 15 0 .rws],
  -- M8
  RegRow.many 0x04D 4 32 [
    fd 15 0 .rws 4096],
  -- SAT_THR
  RegRow.many 0x04E 4 32 [
    fd 15 0 .rws 65280],
  -- AE_W
  RegRow.mk 0x050 4 32 4 1 [
    fd 31 0 .rws 0xFFFFFFFF],
  -- GAMMA
  RegRow.mk 0x100 4 64 64 1 [
    fd 11 0 .rws 0 .hand 0 64 0],
  -- DEFECT
  RegRow.mk 0x200 4 128 128 1 [
    fd 31 31 .rws,
    fd 27 16 .rws,
    fd 11 0 .rws]]

/-- TAB: the block registers of the page (14_tableau_link.md, R349). -/
def rowsTab : List RegRow :=
  [
  -- STATUS
  RegRow.one 0x002 [
    fd 31 31 .ro 1,
    fd 3 3 .ro,
    fd 2 2 .ro,
    fd 1 0 .ro],
  -- TX_MAP
  RegRow.one 0x010 [
    fd 31 0 .ro 0x76543210],
  -- TX_STAT
  RegRow.one 0x011 [
    fd 24 16 .ro,
    fd 15 12 .ro 8,
    fd 8 0 .ro],
  -- TX_CTRL
  RegRow.one 0x012 [
    fd 13 13 .wo,
    fd 12 9 .wo,
    fd 8 0 .wo],
  -- CFG
  RegRow.one 0x013 [
    fd 31 16 .rws 100,
    fd 4 4 .rws 1,
    fd 1 0 .rws],
  -- RX_STAT
  RegRow.one 0x014 [
    fd 12 8 .ro,
    fd 4 0 .ro],
  -- HB
  RegRow.one 0x015 [
    fd 31 16 .rws 20,
    fd 15 0 .rws 100],
  -- HOST
  RegRow.one 0x016 [
    fd 31 31 .ro,
    fd 1 0 .rws],
  -- HOST_COUNT
  RegRow.one 0x017 [
    fd 31 0 .ro],
  -- PRBS_TX
  RegRow.one 0x018 [
    fd 26 0 .rws],
  -- PRBS_RX
  RegRow.one 0x019 [
    fd 7 7 .ro,
    fd 6 4 .rws,
    fd 3 3 .ro,
    fd 2 0 .rws],
  -- INJECT
  RegRow.one 0x01A [
    fd 13 12 .wo,
    fd 11 11 .wo,
    fd 10 10 .wo,
    fd 8 0 .wo],
  -- PRBS_ERR
  RegRow.many 0x01B 2 1 [
    fd 31 0 .ro],
  -- DROP
  RegRow.one 0x01D [
    fd 31 16 .ro,
    fd 15 0 .ro],
  -- RX_CNT
  RegRow.one 0x01E [
    fd 31 24 .ro,
    fd 23 16 .ro,
    fd 15 8 .ro,
    fd 7 0 .ro],
  -- LINK_CNT
  RegRow.one 0x01F [
    fd 31 24 .ro,
    fd 23 16 .ro,
    fd 15 8 .ro,
    fd 7 0 .ro],
  -- QFILL
  RegRow.one 0x020 [
    fd 31 24 .ro,
    fd 23 16 .ro,
    fd 15 8 .ro,
    fd 7 0 .ro],
  -- CNT_CLR
  RegRow.one 0x021 [
    fd 0 0 .wo]]

/-- The block registers of page `p`, by page number (R80). -/
def pageRows (p : Nat) : List RegRow :=
  match p with
  | 0x00 => rowsChip
  | 0x01 => rowsClk
  | 0x02 => rowsPwr
  | 0x03 => rowsBoot
  | 0x04 => rowsHost
  | 0x05 => rowsIntc
  | 0x06 => rowsTime
  | 0x07 => rowsSupv
  | 0x08 => rowsSafe
  | 0x09 => rowsField
  | 0x0A => rowsLedger
  | 0x0B => rowsHk
  | 0x0C => rowsCal
  | 0x0D => rowsBank
  | 0x10 => rowsDeal
  | 0x11 => rowsShuf
  | 0x12 => rowsEmit
  | 0x13 => rowsLdb
  | 0x14 => rowsSteer
  | 0x15 => rowsSense
  | 0x20 => rowsAfe0
  | 0x21 => rowsAfe
  | 0x22 => rowsAfe
  | 0x23 => rowsAfe
  | 0x24 => rowsAfe
  | 0x25 => rowsAfe
  | 0x26 => rowsAfe
  | 0x27 => rowsAfe
  | 0x28 => rowsTdc
  | 0x29 => rowsTdc
  | 0x2A => rowsTdc
  | 0x2B => rowsTdc
  | 0x2C => rowsTdc
  | 0x2D => rowsTdc
  | 0x2E => rowsTdc
  | 0x2F => rowsTdc
  | 0x30 => rowsKitty
  | 0x31 => rowsAdc
  | 0x32 => rowsAcq
  | 0x38 => rowsHist
  | 0x39 => rowsRej
  | 0x3A => rowsPnt
  | 0x3B => rowsZone
  | 0x40 => rowsCam
  | 0x41 => rowsCam
  | 0x42 => rowsCam
  | 0x43 => rowsCam
  | 0x44 => rowsIsp
  | 0x48 => rowsTab
  | _ => []

end Sys2Proof.Machine
end

