-- ==== Sys2Proof/Machine/RegNames.lean ====
section
/-! DEFINITION. The registers and their fields under the spec's own names: `PAGE.NAME` is the word
address (page times 0x400 plus offset, R7) and `PAGE.NAME.FIELD` the field's place in it, as
the field tables of spec/03 to spec/18 give them. Only the names the model uses are listed. -/

set_option linter.dupNamespace false

namespace Sys2Proof.Machine

/-- CLK.REFSEL, word 0x010. -/
def CLK.REFSEL : Nat := 0x410
def CLK.REFSEL.HOLDOVER : Fld := ⟨CLK.REFSEL, 9, 1⟩
def CLK.REFSEL.LOCK : Fld := ⟨CLK.REFSEL, 8, 1⟩
def CLK.REFSEL.ACTIVE : Fld := ⟨CLK.REFSEL, 6, 1⟩
def CLK.REFSEL.B_PRESENT : Fld := ⟨CLK.REFSEL, 5, 1⟩
def CLK.REFSEL.A_PRESENT : Fld := ⟨CLK.REFSEL, 4, 1⟩
def CLK.REFSEL.AUTO : Fld := ⟨CLK.REFSEL, 1, 1⟩
def CLK.REFSEL.PREF : Fld := ⟨CLK.REFSEL, 0, 1⟩
/-- CLK.DROOP, word 0x011. -/
def CLK.DROOP : Nat := 0x411
def CLK.DROOP.EVENTS : Fld := ⟨CLK.DROOP, 16, 16⟩
def CLK.DROOP.HANDS_HELD : Fld := ⟨CLK.DROOP, 9, 1⟩
def CLK.DROOP.SLOWED : Fld := ⟨CLK.DROOP, 8, 1⟩
def CLK.DROOP.BELOW : Fld := ⟨CLK.DROOP, 0, 8⟩
/-- CLK.DROOP_STAT, word 0x012. -/
def CLK.DROOP_STAT : Nat := 0x412
def CLK.DROOP_STAT.HANDS_SKIPPED : Fld := ⟨CLK.DROOP_STAT, 16, 16⟩
def CLK.DROOP_STAT.LONGEST : Fld := ⟨CLK.DROOP_STAT, 0, 16⟩
/-- CLK.DROOP_CLR, word 0x013. -/
def CLK.DROOP_CLR : Nat := 0x413
def CLK.DROOP_CLR.CLEAR : Fld := ⟨CLK.DROOP_CLR, 0, 1⟩
/-- PWR.STATE, word 0x010. -/
def PWR.STATE : Nat := 0x810
def PWR.STATE.TARGET : Fld := ⟨PWR.STATE, 4, 4⟩
def PWR.STATE.STATE : Fld := ⟨PWR.STATE, 0, 4⟩
/-- PWR.REQ, word 0x011. -/
def PWR.REQ : Nat := 0x811
def PWR.REQ.REQ : Fld := ⟨PWR.REQ, 0, 4⟩
/-- PWR.DOMAIN, word 0x012. -/
def PWR.DOMAIN : Nat := 0x812
def PWR.DOMAIN.OFF_REQ : Fld := ⟨PWR.DOMAIN, 16, 9⟩
def PWR.DOMAIN.ON : Fld := ⟨PWR.DOMAIN, 0, 9⟩
/-- PWR.WAKE_CFG, word 0x013. -/
def PWR.WAKE_CFG : Nat := 0x813
def PWR.WAKE_CFG.IRQ_EN : Fld := ⟨PWR.WAKE_CFG, 5, 1⟩
def PWR.WAKE_CFG.CS_EN : Fld := ⟨PWR.WAKE_CFG, 4, 1⟩
def PWR.WAKE_CFG.RX_EN : Fld := ⟨PWR.WAKE_CFG, 3, 1⟩
def PWR.WAKE_CFG.WAKE_POL : Fld := ⟨PWR.WAKE_CFG, 2, 1⟩
def PWR.WAKE_CFG.WAKE_LEVEL : Fld := ⟨PWR.WAKE_CFG, 1, 1⟩
def PWR.WAKE_CFG.WAKE_EN : Fld := ⟨PWR.WAKE_CFG, 0, 1⟩
/-- PWR.WAKE_SRC, word 0x014. -/
def PWR.WAKE_SRC : Nat := 0x814
def PWR.WAKE_SRC.EDGE_IN_WINDOW : Fld := ⟨PWR.WAKE_SRC, 8, 1⟩
def PWR.WAKE_SRC.HOST : Fld := ⟨PWR.WAKE_SRC, 4, 1⟩
def PWR.WAKE_SRC.IRQ : Fld := ⟨PWR.WAKE_SRC, 3, 1⟩
def PWR.WAKE_SRC.CS : Fld := ⟨PWR.WAKE_SRC, 2, 1⟩
def PWR.WAKE_SRC.RX : Fld := ⟨PWR.WAKE_SRC, 1, 1⟩
def PWR.WAKE_SRC.WAKE : Fld := ⟨PWR.WAKE_SRC, 0, 1⟩
/-- PWR.ENTRY, word 0x015. -/
def PWR.ENTRY : Nat := 0x815
def PWR.ENTRY.DURATION : Fld := ⟨PWR.ENTRY, 16, 16⟩
def PWR.ENTRY.CAUSE : Fld := ⟨PWR.ENTRY, 12, 4⟩
def PWR.ENTRY.RESULT : Fld := ⟨PWR.ENTRY, 8, 4⟩
def PWR.ENTRY.PAGE : Fld := ⟨PWR.ENTRY, 0, 8⟩
/-- BOOT.CAUSE, word 0x010. -/
def BOOT.CAUSE : Nat := 0xC10
def BOOT.CAUSE.DETAIL : Fld := ⟨BOOT.CAUSE, 16, 8⟩
def BOOT.CAUSE.PHASE : Fld := ⟨BOOT.CAUSE, 12, 2⟩
def BOOT.CAUSE.RETRIES : Fld := ⟨BOOT.CAUSE, 8, 4⟩
def BOOT.CAUSE.CODE : Fld := ⟨BOOT.CAUSE, 0, 8⟩
/-- BOOT.CMD, word 0x011. -/
def BOOT.CMD : Nat := 0xC11
def BOOT.CMD.CMD : Fld := ⟨BOOT.CMD, 0, 8⟩
/-- BOOT.SELFTEST, word 0x012. -/
def BOOT.SELFTEST : Nat := 0xC12
def BOOT.SELFTEST.DURATION : Fld := ⟨BOOT.SELFTEST, 20, 12⟩
def BOOT.SELFTEST.PASS : Fld := ⟨BOOT.SELFTEST, 0, 9⟩
/-- BOOT.PARAM, word 0x013. -/
def BOOT.PARAM : Nat := 0xC13
def BOOT.PARAM.REF_PREF : Fld := ⟨BOOT.PARAM, 24, 1⟩
def BOOT.PARAM.RETRY_INT : Fld := ⟨BOOT.PARAM, 12, 12⟩
def BOOT.PARAM.RETRY_MAX : Fld := ⟨BOOT.PARAM, 8, 4⟩
def BOOT.PARAM.T_PG : Fld := ⟨BOOT.PARAM, 0, 8⟩
/-- BOOT.IMAGE, word 0x014. -/
def BOOT.IMAGE : Nat := 0xC14
def BOOT.IMAGE.CFG_B_OK : Fld := ⟨BOOT.IMAGE, 5, 1⟩
def BOOT.IMAGE.CFG_A_OK : Fld := ⟨BOOT.IMAGE, 4, 1⟩
def BOOT.IMAGE.CFG_ACTIVE : Fld := ⟨BOOT.IMAGE, 3, 1⟩
def BOOT.IMAGE.FW_B_OK : Fld := ⟨BOOT.IMAGE, 2, 1⟩
def BOOT.IMAGE.FW_A_OK : Fld := ⟨BOOT.IMAGE, 1, 1⟩
def BOOT.IMAGE.FW_ACTIVE : Fld := ⟨BOOT.IMAGE, 0, 1⟩
/-- BOOT.TIMING, word 0x015. -/
def BOOT.TIMING : Nat := 0xC15
def BOOT.TIMING.READY_US : Fld := ⟨BOOT.TIMING, 0, 32⟩
/-- CHIP.DEVID, word 0x010. -/
def CHIP.DEVID : Nat := 0x10
def CHIP.DEVID.PART : Fld := ⟨CHIP.DEVID, 16, 16⟩
def CHIP.DEVID.REVISION : Fld := ⟨CHIP.DEVID, 8, 8⟩
def CHIP.DEVID.GRADE : Fld := ⟨CHIP.DEVID, 4, 4⟩
/-- CHIP.GEN, word 0x011. -/
def CHIP.GEN : Nat := 0x11
def CHIP.GEN.GLOBAL : Fld := ⟨CHIP.GEN, 0, 16⟩
/-- CHIP.GCOMMIT, word 0x012. -/
def CHIP.GCOMMIT : Nat := 0x12
def CHIP.GCOMMIT.REQ : Fld := ⟨CHIP.GCOMMIT, 4, 1⟩
def CHIP.GCOMMIT.BOUNDARY : Fld := ⟨CHIP.GCOMMIT, 0, 2⟩
/-- HOST.SPI_ERR, word 0x010. -/
def HOST.SPI_ERR : Nat := 0x1010
def HOST.SPI_ERR.CRC : Fld := ⟨HOST.SPI_ERR, 24, 8⟩
def HOST.SPI_ERR.PARITY : Fld := ⟨HOST.SPI_ERR, 16, 8⟩
def HOST.SPI_ERR.TIMEOUT : Fld := ⟨HOST.SPI_ERR, 8, 8⟩
def HOST.SPI_ERR.TRUNC : Fld := ⟨HOST.SPI_ERR, 0, 8⟩
/-- HOST.IB_ERR, word 0x011. -/
def HOST.IB_ERR : Nat := 0x1011
def HOST.IB_ERR.RETRY : Fld := ⟨HOST.IB_ERR, 24, 8⟩
def HOST.IB_ERR.BUSY : Fld := ⟨HOST.IB_ERR, 16, 8⟩
def HOST.IB_ERR.PARITY : Fld := ⟨HOST.IB_ERR, 8, 8⟩
def HOST.IB_ERR.ADDR : Fld := ⟨HOST.IB_ERR, 0, 8⟩
/-- HOST.CNT_CLR, word 0x012. -/
def HOST.CNT_CLR : Nat := 0x1012
def HOST.CNT_CLR.CLEAR : Fld := ⟨HOST.CNT_CLR, 0, 1⟩
/-- HOST.LAST, word 0x013. -/
def HOST.LAST : Nat := 0x1013
def HOST.LAST.IB_STATUS : Fld := ⟨HOST.LAST, 8, 8⟩
def HOST.LAST.SPI_STATUS : Fld := ⟨HOST.LAST, 0, 8⟩
/-- HOST.IB_CFG, word 0x014. -/
def HOST.IB_CFG : Nat := 0x1014
def HOST.IB_CFG.IB_WRITE_EN : Fld := ⟨HOST.IB_CFG, 1, 1⟩
def HOST.IB_CFG.IB_EN : Fld := ⟨HOST.IB_CFG, 0, 1⟩
/-- INTC.CTRL, word 0x010. -/
def INTC.CTRL : Nat := 0x1410
def INTC.CTRL.EVT_EN : Fld := ⟨INTC.CTRL, 1, 1⟩
def INTC.CTRL.INT_EN : Fld := ⟨INTC.CTRL, 0, 1⟩
/-- INTC.FIRST, word 0x011. -/
def INTC.FIRST : Nat := 0x1411
def INTC.FIRST.NONE : Fld := ⟨INTC.FIRST, 8, 1⟩
def INTC.FIRST.PAGE : Fld := ⟨INTC.FIRST, 0, 8⟩
/-- INTC.SUM0–SUM7, words 0x018–0x01F. -/
def INTC.SUM (i : Nat) : Nat := 0x1418 + i
def INTC.SUM.SUM (i : Nat) : Fld := ⟨INTC.SUM i, 0, 32⟩
/-- INTC.MASK0–MASK7, words 0x020–0x027. -/
def INTC.MASK (i : Nat) : Nat := 0x1420 + i
def INTC.MASK.MASK (i : Nat) : Fld := ⟨INTC.MASK i, 0, 32⟩
/-- TIME.NOW_HI and TIME.NOW_LO, words 0x010–0x011. -/
def TIME.NOW_HI : Nat := 0x1810
def TIME.NOW_HI.VALUE : Fld := ⟨TIME.NOW_HI, 0, 32⟩
/-- TIME.NOW_HI and TIME.NOW_LO, words 0x010–0x011. -/
def TIME.NOW_LO : Nat := 0x1811
def TIME.NOW_LO.VALUE : Fld := ⟨TIME.NOW_LO, 0, 32⟩
/-- TIME.SET_HI and TIME.SET_LO, words 0x012–0x013. -/
def TIME.SET_HI : Nat := 0x1812
def TIME.SET_HI.VALUE : Fld := ⟨TIME.SET_HI, 0, 32⟩
/-- TIME.SET_HI and TIME.SET_LO, words 0x012–0x013. -/
def TIME.SET_LO : Nat := 0x1813
def TIME.SET_LO.VALUE : Fld := ⟨TIME.SET_LO, 0, 32⟩
/-- TIME.CMD, word 0x014. -/
def TIME.CMD : Nat := 0x1814
def TIME.CMD.CMD : Fld := ⟨TIME.CMD, 0, 2⟩
/-- TIME.STAT, word 0x015. -/
def TIME.STAT : Nat := 0x1815
def TIME.STAT.SETS : Fld := ⟨TIME.STAT, 16, 16⟩
def TIME.STAT.PENDING : Fld := ⟨TIME.STAT, 1, 1⟩
def TIME.STAT.SRC : Fld := ⟨TIME.STAT, 0, 1⟩
/-- DEAL.MODE, word 0x010. -/
def DEAL.MODE : Nat := 0x4010
def DEAL.MODE.LONG_FACTOR : Fld := ⟨DEAL.MODE, 8, 2⟩
def DEAL.MODE.GROUPS : Fld := ⟨DEAL.MODE, 4, 2⟩
def DEAL.MODE.MODE : Fld := ⟨DEAL.MODE, 0, 2⟩
/-- DEAL.SLOTS, word 0x011. -/
def DEAL.SLOTS : Nat := 0x4011
def DEAL.SLOTS.SLOT_TILES : Fld := ⟨DEAL.SLOTS, 22, 6⟩
def DEAL.SLOTS.SLOTS : Fld := ⟨DEAL.SLOTS, 16, 6⟩
def DEAL.SLOTS.OPEN_SLOTS : Fld := ⟨DEAL.SLOTS, 8, 6⟩
/-- DEAL.SPACING, word 0x012. -/
def DEAL.SPACING : Nat := 0x4012
def DEAL.SPACING.SPACING : Fld := ⟨DEAL.SPACING, 0, 16⟩
/-- DEAL.HANDS, word 0x013. -/
def DEAL.HANDS : Nat := 0x4013
def DEAL.HANDS.HANDS : Fld := ⟨DEAL.HANDS, 0, 12⟩
/-- DEAL.GROUP_MAP0–GROUP_MAP3, words 0x014–0x017. -/
def DEAL.GROUP_MAP (i : Nat) : Nat := 0x4014 + i
def DEAL.GROUP_MAP.MAP (i : Nat) : Fld := ⟨DEAL.GROUP_MAP i, 0, 32⟩
/-- DEAL.THROTTLE, word 0x018. -/
def DEAL.THROTTLE : Nat := 0x4018
def DEAL.THROTTLE.THR_HI : Fld := ⟨DEAL.THROTTLE, 16, 11⟩
def DEAL.THROTTLE.THR_LO : Fld := ⟨DEAL.THROTTLE, 0, 11⟩
/-- DEAL.BID_CFG, word 0x019. -/
def DEAL.BID_CFG : Nat := 0x4019
def DEAL.BID_CFG.BID_CAP : Fld := ⟨DEAL.BID_CFG, 16, 6⟩
def DEAL.BID_CFG.ZONE_EN : Fld := ⟨DEAL.BID_CFG, 2, 1⟩
def DEAL.BID_CFG.PNT_EN : Fld := ⟨DEAL.BID_CFG, 1, 1⟩
def DEAL.BID_CFG.HOST_EN : Fld := ⟨DEAL.BID_CFG, 0, 1⟩
/-- DEAL.BID, word 0x01A. -/
def DEAL.BID : Nat := 0x401A
def DEAL.BID.TILE : Fld := ⟨DEAL.BID, 19, 13⟩
def DEAL.BID.SHOTS : Fld := ⟨DEAL.BID, 13, 6⟩
def DEAL.BID.HANDS : Fld := ⟨DEAL.BID, 9, 4⟩
def DEAL.BID.ORIGIN : Fld := ⟨DEAL.BID, 0, 9⟩
/-- DEAL.RING_SEL, word 0x01B. -/
def DEAL.RING_SEL : Nat := 0x401B
def DEAL.RING_SEL.TILE : Fld := ⟨DEAL.RING_SEL, 0, 13⟩
/-- DEAL.RING_STATE, word 0x01C. -/
def DEAL.RING_STATE : Nat := 0x401C
def DEAL.RING_STATE.HEAD : Fld := ⟨DEAL.RING_STATE, 28, 4⟩
def DEAL.RING_STATE.TAIL : Fld := ⟨DEAL.RING_STATE, 24, 4⟩
def DEAL.RING_STATE.COUNT : Fld := ⟨DEAL.RING_STATE, 20, 4⟩
def DEAL.RING_STATE.BUDGET : Fld := ⟨DEAL.RING_STATE, 14, 6⟩
def DEAL.RING_STATE.GRANTED : Fld := ⟨DEAL.RING_STATE, 8, 6⟩
/-- DEAL.HAND_STAT, word 0x01D. -/
def DEAL.HAND_STAT : Nat := 0x401D
def DEAL.HAND_STAT.AZ : Fld := ⟨DEAL.HAND_STAT, 16, 11⟩
def DEAL.HAND_STAT.PAT_STEP : Fld := ⟨DEAL.HAND_STAT, 13, 3⟩
def DEAL.HAND_STAT.SCALE : Fld := ⟨DEAL.HAND_STAT, 11, 2⟩
def DEAL.HAND_STAT.S_EFF : Fld := ⟨DEAL.HAND_STAT, 0, 6⟩
/-- DEAL.THROTTLE_STAT, word 0x01E. -/
def DEAL.THROTTLE_STAT : Nat := 0x401E
def DEAL.THROTTLE_STAT.SLICE : Fld := ⟨DEAL.THROTTLE_STAT, 0, 32⟩
/-- DEAL.FIRED, DEAL.DENIED and DEAL.THROTTLED, words 0x01F–0x021. -/
def DEAL.FIRED : Nat := 0x401F
def DEAL.FIRED.COUNT : Fld := ⟨DEAL.FIRED, 0, 32⟩
/-- DEAL.FIRED, DEAL.DENIED and DEAL.THROTTLED, words 0x01F–0x021. -/
def DEAL.DENIED : Nat := 0x4020
def DEAL.DENIED.COUNT : Fld := ⟨DEAL.DENIED, 0, 32⟩
/-- DEAL.FIRED, DEAL.DENIED and DEAL.THROTTLED, words 0x01F–0x021. -/
def DEAL.THROTTLED : Nat := 0x4021
def DEAL.THROTTLED.COUNT : Fld := ⟨DEAL.THROTTLED, 0, 32⟩
/-- DEAL.LOST, word 0x022. -/
def DEAL.LOST : Nat := 0x4022
def DEAL.LOST.PLAUS_HELD : Fld := ⟨DEAL.LOST, 16, 16⟩
def DEAL.LOST.SLOTS_CUT : Fld := ⟨DEAL.LOST, 0, 16⟩
/-- DEAL.BIDS, word 0x023. -/
def DEAL.BIDS : Nat := 0x4023
def DEAL.BIDS.BID_DROPPED : Fld := ⟨DEAL.BIDS, 16, 16⟩
def DEAL.BIDS.TRUMP_SHORT : Fld := ⟨DEAL.BIDS, 0, 16⟩
/-- DEAL.SHORT, word 0x024. -/
def DEAL.SHORT : Nat := 0x4024
def DEAL.SHORT.SHORTFALL : Fld := ⟨DEAL.SHORT, 16, 16⟩
def DEAL.SHORT.ANTE_OVER : Fld := ⟨DEAL.SHORT, 0, 16⟩
/-- DEAL.CNT_CLR, word 0x025. -/
def DEAL.CNT_CLR : Nat := 0x4025
def DEAL.CNT_CLR.CLEAR : Fld := ⟨DEAL.CNT_CLR, 0, 1⟩
/-- DEAL.PAT_CTRL, word 0x026. -/
def DEAL.PAT_CTRL : Nat := 0x4026
def DEAL.PAT_CTRL.LEN : Fld := ⟨DEAL.PAT_CTRL, 0, 4⟩
/-- DEAL.PAT_STEP0–PAT_STEP7, words 0x028–0x02F. -/
def DEAL.PAT_STEP (i : Nat) : Nat := 0x4028 + i
def DEAL.PAT_STEP.BASE (i : Nat) : Fld := ⟨DEAL.PAT_STEP i, 16, 13⟩
def DEAL.PAT_STEP.HOLD (i : Nat) : Fld := ⟨DEAL.PAT_STEP i, 0, 4⟩
/-- SHUF.SEEDg, word 0x010 + 4g. -/
def SHUF.SEED (i : Nat) : Nat := 0x4410 + 4 * i
def SHUF.SEED.SEED (i : Nat) : Fld := ⟨SHUF.SEED i, 0, 16⟩
/-- SHUF.DITHERg, word 0x011 + 4g. -/
def SHUF.DITHER (i : Nat) : Nat := 0x4411 + 4 * i
def SHUF.DITHER.SPAN (i : Nat) : Fld := ⟨SHUF.DITHER i, 0, 8⟩
/-- SHUF.BURSTg, word 0x012 + 4g. -/
def SHUF.BURST (i : Nat) : Nat := 0x4412 + 4 * i
def SHUF.BURST.I3 (i : Nat) : Fld := ⟨SHUF.BURST i, 24, 6⟩
def SHUF.BURST.I2 (i : Nat) : Fld := ⟨SHUF.BURST i, 16, 6⟩
def SHUF.BURST.I1 (i : Nat) : Fld := ⟨SHUF.BURST i, 8, 6⟩
def SHUF.BURST.PULSES (i : Nat) : Fld := ⟨SHUF.BURST i, 0, 2⟩
/-- SHUF.COUNTg, word 0x013 + 4g. -/
def SHUF.COUNT (i : Nat) : Nat := 0x4413 + 4 * i
def SHUF.COUNT.COUNT (i : Nat) : Fld := ⟨SHUF.COUNT i, 0, 32⟩
/-- EMIT.FF_CTRL, word 0x010. -/
def EMIT.FF_CTRL : Nat := 0x4810
def EMIT.FF_CTRL.FF_SIZE : Fld := ⟨EMIT.FF_CTRL, 16, 14⟩
def EMIT.FF_CTRL.LOAD : Fld := ⟨EMIT.FF_CTRL, 4, 1⟩
def EMIT.FF_CTRL.LOADING : Fld := ⟨EMIT.FF_CTRL, 3, 1⟩
def EMIT.FF_CTRL.LOADED : Fld := ⟨EMIT.FF_CTRL, 2, 1⟩
def EMIT.FF_CTRL.ACTIVE : Fld := ⟨EMIT.FF_CTRL, 1, 1⟩
def EMIT.FF_CTRL.ACTIVE_SEL : Fld := ⟨EMIT.FF_CTRL, 0, 1⟩
/-- EMIT.GOV_PULSE to EMIT.STATIC_10MS, words 0x011–0x016. -/
def EMIT.GOV_PULSE : Nat := 0x4811
def EMIT.GOV_PULSE.LIMIT : Fld := ⟨EMIT.GOV_PULSE, 0, 32⟩
/-- EMIT.GOV_PULSE to EMIT.STATIC_10MS, words 0x011–0x016. -/
def EMIT.GOV_100US : Nat := 0x4812
def EMIT.GOV_100US.LIMIT : Fld := ⟨EMIT.GOV_100US, 0, 32⟩
/-- EMIT.GOV_PULSE to EMIT.STATIC_10MS, words 0x011–0x016. -/
def EMIT.GOV_10MS : Nat := 0x4813
def EMIT.GOV_10MS.LIMIT : Fld := ⟨EMIT.GOV_10MS, 0, 32⟩
/-- EMIT.GOV_PULSE to EMIT.STATIC_10MS, words 0x011–0x016. -/
def EMIT.GOV_10S : Nat := 0x4814
def EMIT.GOV_10S.LIMIT : Fld := ⟨EMIT.GOV_10S, 0, 32⟩
/-- EMIT.GOV_PULSE to EMIT.STATIC_10MS, words 0x011–0x016. -/
def EMIT.STATIC_100US : Nat := 0x4815
def EMIT.STATIC_100US.LIMIT : Fld := ⟨EMIT.STATIC_100US, 0, 32⟩
/-- EMIT.GOV_PULSE to EMIT.STATIC_10MS, words 0x011–0x016. -/
def EMIT.STATIC_10MS : Nat := 0x4816
def EMIT.STATIC_10MS.LIMIT : Fld := ⟨EMIT.STATIC_10MS, 0, 32⟩
/-- EMIT.GOV_CTRL, word 0x017. -/
def EMIT.GOV_CTRL : Nat := 0x4817
def EMIT.GOV_CTRL.STATIC : Fld := ⟨EMIT.GOV_CTRL, 31, 1⟩
def EMIT.GOV_CTRL.STATIC_HOLD : Fld := ⟨EMIT.GOV_CTRL, 0, 8⟩
/-- EMIT.DENY, word 0x018. -/
def EMIT.DENY : Nat := 0x4818
def EMIT.DENY.W_PULSE : Fld := ⟨EMIT.DENY, 24, 8⟩
def EMIT.DENY.W_100US : Fld := ⟨EMIT.DENY, 16, 8⟩
def EMIT.DENY.W_10MS : Fld := ⟨EMIT.DENY, 8, 8⟩
def EMIT.DENY.W_10S : Fld := ⟨EMIT.DENY, 0, 8⟩
/-- EMIT.CNT_CLR, word 0x019. -/
def EMIT.CNT_CLR : Nat := 0x4819
def EMIT.CNT_CLR.CLEAR : Fld := ⟨EMIT.CNT_CLR, 0, 1⟩
/-- EMIT.MPD_USE, word 0x01A. -/
def EMIT.MPD_USE : Nat := 0x481A
def EMIT.MPD_USE.USED : Fld := ⟨EMIT.MPD_USE, 0, 16⟩
/-- EMIT.MPD_CFG, word 0x01B. -/
def EMIT.MPD_CFG : Nat := 0x481B
def EMIT.MPD_CFG.LOOP_EN : Fld := ⟨EMIT.MPD_CFG, 31, 1⟩
def EMIT.MPD_CFG.TRIM_MAX : Fld := ⟨EMIT.MPD_CFG, 24, 6⟩
def EMIT.MPD_CFG.DARK_THR : Fld := ⟨EMIT.MPD_CFG, 0, 8⟩
/-- EMIT.MPD_K0–MPD_K15, words 0x020–0x02F. -/
def EMIT.MPD_K (i : Nat) : Nat := 0x4820 + i
def EMIT.MPD_K.K (i : Nat) : Fld := ⟨EMIT.MPD_K i, 0, 16⟩
/-- EMIT.LOOP0–LOOP15, words 0x030–0x03F. -/
def EMIT.LOOP (i : Nat) : Nat := 0x4830 + i
def EMIT.LOOP.TRIM (i : Nat) : Fld := ⟨EMIT.LOOP i, 16, 7⟩
def EMIT.LOOP.Q (i : Nat) : Fld := ⟨EMIT.LOOP i, 0, 16⟩
/-- EMIT.FAULT, word 0x040. -/
def EMIT.FAULT : Nat := 0x4840
def EMIT.FAULT.HAZ : Fld := ⟨EMIT.FAULT, 31, 1⟩
def EMIT.FAULT.KIND : Fld := ⟨EMIT.FAULT, 28, 3⟩
def EMIT.FAULT.TILE : Fld := ⟨EMIT.FAULT, 24, 4⟩
def EMIT.FAULT.MASKED : Fld := ⟨EMIT.FAULT, 0, 14⟩
/-- EMIT.FAULT_CLR, word 0x041. -/
def EMIT.FAULT_CLR : Nat := 0x4841
def EMIT.FAULT_CLR.HAZ_CLR : Fld := ⟨EMIT.FAULT_CLR, 0, 1⟩
/-- EMIT.CELLFLT, word 0x042. -/
def EMIT.CELLFLT : Nat := 0x4842
def EMIT.CELLFLT.KIND : Fld := ⟨EMIT.CELLFLT, 13, 2⟩
def EMIT.CELLFLT.CELL : Fld := ⟨EMIT.CELLFLT, 0, 13⟩
/-- EMIT.SUBST0–SUBST31, words 0x050–0x06F. -/
def EMIT.SUBST (i : Nat) : Nat := 0x4850 + i
def EMIT.SUBST.EN (i : Nat) : Fld := ⟨EMIT.SUBST i, 31, 1⟩
def EMIT.SUBST.MASKED (i : Nat) : Fld := ⟨EMIT.SUBST i, 16, 13⟩
def EMIT.SUBST.SUBST (i : Nat) : Fld := ⟨EMIT.SUBST i, 0, 13⟩
/-- EMIT.CLAMP0–CLAMP15, words 0x080–0x08F. -/
def EMIT.CLAMP (i : Nat) : Nat := 0x4880 + i
def EMIT.CLAMP.CLAMP (i : Nat) : Fld := ⟨EMIT.CLAMP i, 0, 10⟩
/-- EMIT.LEVEL, words 0x100–0x1FF. -/
def EMIT.LEVEL (i : Nat) : Nat := 0x4900 + i
def EMIT.LEVEL.VCODE (i : Nat) : Fld := ⟨EMIT.LEVEL i, 16, 10⟩
def EMIT.LEVEL.ENERGY (i : Nat) : Fld := ⟨EMIT.LEVEL i, 0, 16⟩
/-- EMIT.MASK_HOST, words 0x200–0x2FF. -/
def EMIT.MASK_HOST (i : Nat) : Nat := 0x4A00 + i
def EMIT.MASK_HOST.MASK (i : Nat) : Fld := ⟨EMIT.MASK_HOST i, 0, 32⟩
/-- EMIT.MASK_AUTO, words 0x300–0x3FF. -/
def EMIT.MASK_AUTO (i : Nat) : Nat := 0x4B00 + i
def EMIT.MASK_AUTO.MASK (i : Nat) : Fld := ⟨EMIT.MASK_AUTO i, 0, 32⟩
/-- LDB.STATUS, word 0x002. -/
def LDB.STATUS : Nat := 0x4C02
def LDB.STATUS.ACTIVE : Fld := ⟨LDB.STATUS, 31, 1⟩
def LDB.STATUS.RECOVERING : Fld := ⟨LDB.STATUS, 2, 1⟩
def LDB.STATUS.ENUMERATED : Fld := ⟨LDB.STATUS, 1, 1⟩
def LDB.STATUS.KA : Fld := ⟨LDB.STATUS, 0, 1⟩
/-- LDB.TILE_EN, word 0x010. -/
def LDB.TILE_EN : Nat := 0x4C10
def LDB.TILE_EN.PRESENT : Fld := ⟨LDB.TILE_EN, 16, 16⟩
def LDB.TILE_EN.EN : Fld := ⟨LDB.TILE_EN, 0, 16⟩
/-- LDB.POLL, word 0x011. -/
def LDB.POLL : Nat := 0x4C11
def LDB.POLL.POLL_INT : Fld := ⟨LDB.POLL, 0, 8⟩
/-- LDB.ERR_CNT, word 0x012. -/
def LDB.ERR_CNT : Nat := 0x4C12
def LDB.ERR_CNT.REPLY_BAD : Fld := ⟨LDB.ERR_CNT, 24, 8⟩
def LDB.ERR_CNT.HELD : Fld := ⟨LDB.ERR_CNT, 16, 8⟩
def LDB.ERR_CNT.RECOVERIES : Fld := ⟨LDB.ERR_CNT, 8, 8⟩
def LDB.ERR_CNT.QUEUE_FULL : Fld := ⟨LDB.ERR_CNT, 0, 8⟩
/-- LDB.QUEUE, word 0x013. -/
def LDB.QUEUE : Nat := 0x4C13
def LDB.QUEUE.FILL : Fld := ⟨LDB.QUEUE, 0, 7⟩
/-- LDB.CMD, word 0x014. -/
def LDB.CMD : Nat := 0x4C14
def LDB.CMD.CNT_CLR : Fld := ⟨LDB.CMD, 1, 1⟩
def LDB.CMD.REENUM : Fld := ⟨LDB.CMD, 0, 1⟩
/-- LDB.DARK, word 0x015. -/
def LDB.DARK : Nat := 0x4C15
def LDB.DARK.LAST_US : Fld := ⟨LDB.DARK, 0, 16⟩
/-- LDB.FIRE, word 0x016. -/
def LDB.FIRE : Nat := 0x4C16
def LDB.FIRE.PW : Fld := ⟨LDB.FIRE, 0, 3⟩
/-- STEER.MODE, word 0x010. -/
def STEER.MODE : Nat := 0x5010
def STEER.MODE.PARK_CL : Fld := ⟨STEER.MODE, 8, 1⟩
def STEER.MODE.SRC : Fld := ⟨STEER.MODE, 4, 1⟩
def STEER.MODE.MODE : Fld := ⟨STEER.MODE, 0, 2⟩
/-- STEER.PERIOD and STEER.SYNC_DELAY, words 0x011–0x012. -/
def STEER.PERIOD : Nat := 0x5011
def STEER.PERIOD.VALUE : Fld := ⟨STEER.PERIOD, 0, 27⟩
/-- STEER.PERIOD and STEER.SYNC_DELAY, words 0x011–0x012. -/
def STEER.SYNC_DELAY : Nat := 0x5012
def STEER.SYNC_DELAY.VALUE : Fld := ⟨STEER.SYNC_DELAY, 0, 27⟩
/-- STEER.LOCK_CFG, word 0x013. -/
def STEER.LOCK_CFG : Nat := 0x5013
def STEER.LOCK_CFG.SLEW : Fld := ⟨STEER.LOCK_CFG, 24, 8⟩
def STEER.LOCK_CFG.LOCK_TOL : Fld := ⟨STEER.LOCK_CFG, 0, 24⟩
/-- STEER.LOCK_STAT, word 0x014. -/
def STEER.LOCK_STAT : Nat := 0x5014
def STEER.LOCK_STAT.DIR : Fld := ⟨STEER.LOCK_STAT, 3, 1⟩
def STEER.LOCK_STAT.SYNC_LOST : Fld := ⟨STEER.LOCK_STAT, 2, 1⟩
def STEER.LOCK_STAT.STATE : Fld := ⟨STEER.LOCK_STAT, 0, 2⟩
/-- STEER.PHASE_ERR and STEER.PERIOD_EST, words 0x015–0x016. -/
def STEER.PHASE_ERR : Nat := 0x5015
def STEER.PHASE_ERR.VALUE : Fld := ⟨STEER.PHASE_ERR, 0, 32⟩
/-- STEER.PHASE_ERR and STEER.PERIOD_EST, words 0x015–0x016. -/
def STEER.PERIOD_EST : Nat := 0x5016
def STEER.PERIOD_EST.VALUE : Fld := ⟨STEER.PERIOD_EST, 0, 32⟩
/-- STEER.SYNC_CNT, word 0x017. -/
def STEER.SYNC_CNT : Nat := 0x5017
def STEER.SYNC_CNT.GLITCH : Fld := ⟨STEER.SYNC_CNT, 16, 16⟩
def STEER.SYNC_CNT.LOST : Fld := ⟨STEER.SYNC_CNT, 0, 16⟩
/-- STEER.X_MIN to STEER.RAMP_Y, words 0x018–0x01E. -/
def STEER.X_MIN : Nat := 0x5018
def STEER.X_MIN.VALUE : Fld := ⟨STEER.X_MIN, 0, 32⟩
/-- STEER.X_MIN to STEER.RAMP_Y, words 0x018–0x01E. -/
def STEER.X_MAX : Nat := 0x5019
def STEER.X_MAX.VALUE : Fld := ⟨STEER.X_MAX, 0, 32⟩
/-- STEER.X_MIN to STEER.RAMP_Y, words 0x018–0x01E. -/
def STEER.TURN : Nat := 0x501A
def STEER.TURN.TURN : Fld := ⟨STEER.TURN, 0, 7⟩
/-- STEER.X_MIN to STEER.RAMP_Y, words 0x018–0x01E. -/
def STEER.Y_BASE : Nat := 0x501B
def STEER.Y_BASE.VALUE : Fld := ⟨STEER.Y_BASE, 0, 32⟩
/-- STEER.X_MIN to STEER.RAMP_Y, words 0x018–0x01E. -/
def STEER.RAMP_RATE : Nat := 0x501C
def STEER.RAMP_RATE.VALUE : Fld := ⟨STEER.RAMP_RATE, 0, 32⟩
/-- STEER.X_MIN to STEER.RAMP_Y, words 0x018–0x01E. -/
def STEER.RAMP_X : Nat := 0x501D
def STEER.RAMP_X.VALUE : Fld := ⟨STEER.RAMP_X, 0, 32⟩
/-- STEER.X_MIN to STEER.RAMP_Y, words 0x018–0x01E. -/
def STEER.RAMP_Y : Nat := 0x501E
def STEER.RAMP_Y.VALUE : Fld := ⟨STEER.RAMP_Y, 0, 32⟩
/-- STEER.PARK_X, STEER.PARK_Y and STEER.PARK_I, words 0x01F–0x021. -/
def STEER.PARK_X : Nat := 0x501F
def STEER.PARK_X.VALUE : Fld := ⟨STEER.PARK_X, 0, 32⟩
/-- STEER.PARK_X, STEER.PARK_Y and STEER.PARK_I, words 0x01F–0x021. -/
def STEER.PARK_Y : Nat := 0x5020
def STEER.PARK_Y.VALUE : Fld := ⟨STEER.PARK_Y, 0, 32⟩
/-- STEER.PARK_X, STEER.PARK_Y and STEER.PARK_I, words 0x01F–0x021. -/
def STEER.PARK_I : Nat := 0x5021
def STEER.PARK_I.IX : Fld := ⟨STEER.PARK_I, 16, 16⟩
def STEER.PARK_I.IY : Fld := ⟨STEER.PARK_I, 0, 16⟩
/-- STEER.PLAUS_CFG, word 0x022. -/
def STEER.PLAUS_CFG : Nat := 0x5022
def STEER.PLAUS_CFG.REARM : Fld := ⟨STEER.PLAUS_CFG, 24, 8⟩
def STEER.PLAUS_CFG.DAC_LAT : Fld := ⟨STEER.PLAUS_CFG, 16, 8⟩
/-- STEER.PLAUS, word 0x023. -/
def STEER.PLAUS : Nat := 0x5023
def STEER.PLAUS.PLAUSIBLE : Fld := ⟨STEER.PLAUS, 31, 1⟩
def STEER.PLAUS.UNCERTAIN : Fld := ⟨STEER.PLAUS, 30, 1⟩
def STEER.PLAUS.CAUSE : Fld := ⟨STEER.PLAUS, 0, 12⟩
/-- STEER.PLAUS_CNT, word 0x024. -/
def STEER.PLAUS_CNT : Nat := 0x5024
def STEER.PLAUS_CNT.CLEARS : Fld := ⟨STEER.PLAUS_CNT, 16, 16⟩
def STEER.PLAUS_CNT.UNCERTAINS : Fld := ⟨STEER.PLAUS_CNT, 0, 16⟩
/-- STEER.CNT_CLR, word 0x025. -/
def STEER.CNT_CLR : Nat := 0x5025
def STEER.CNT_CLR.CLEAR : Fld := ⟨STEER.CNT_CLR, 0, 1⟩
/-- STEER.Y_OFF0–Y_OFF7, words 0x028–0x02F. -/
def STEER.Y_OFF (i : Nat) : Nat := 0x5028 + i
def STEER.Y_OFF.OFF (i : Nat) : Fld := ⟨STEER.Y_OFF i, 0, 32⟩
/-- STEER axis blocks: ROLE, word 0x030 + 0x20a. -/
def STEER.ROLE (i : Nat) : Nat := 0x5030 + 32 * i
def STEER.ROLE.AXIS_EN (i : Nat) : Fld := ⟨STEER.ROLE i, 8, 1⟩
def STEER.ROLE.B_EN (i : Nat) : Fld := ⟨STEER.ROLE i, 7, 1⟩
def STEER.ROLE.POS_B (i : Nat) : Fld := ⟨STEER.ROLE i, 4, 3⟩
def STEER.ROLE.POS_A (i : Nat) : Fld := ⟨STEER.ROLE i, 0, 3⟩
/-- STEER gains, words 0x031–0x036 + 0x20a. -/
def STEER.KP (i : Nat) : Nat := 0x5031 + 32 * i
def STEER.KP.GAIN (i : Nat) : Fld := ⟨STEER.KP i, 0, 24⟩
/-- STEER gains, words 0x031–0x036 + 0x20a. -/
def STEER.KI (i : Nat) : Nat := 0x5032 + 32 * i
def STEER.KI.GAIN (i : Nat) : Fld := ⟨STEER.KI i, 0, 24⟩
/-- STEER gains, words 0x031–0x036 + 0x20a. -/
def STEER.KD (i : Nat) : Nat := 0x5033 + 32 * i
def STEER.KD.GAIN (i : Nat) : Fld := ⟨STEER.KD i, 0, 24⟩
/-- STEER gains, words 0x031–0x036 + 0x20a. -/
def STEER.KX (i : Nat) : Nat := 0x5034 + 32 * i
def STEER.KX.GAIN (i : Nat) : Fld := ⟨STEER.KX i, 0, 24⟩
/-- STEER gains, words 0x031–0x036 + 0x20a. -/
def STEER.KV (i : Nat) : Nat := 0x5035 + 32 * i
def STEER.KV.GAIN (i : Nat) : Fld := ⟨STEER.KV i, 0, 24⟩
/-- STEER gains, words 0x031–0x036 + 0x20a. -/
def STEER.KA (i : Nat) : Nat := 0x5036 + 32 * i
def STEER.KA.GAIN (i : Nat) : Fld := ⟨STEER.KA i, 0, 24⟩
/-- STEER.SHIFTS, word 0x037 + 0x20a. -/
def STEER.SHIFTS (i : Nat) : Nat := 0x5037 + 32 * i
def STEER.SHIFTS.FF_SHIFT (i : Nat) : Fld := ⟨STEER.SHIFTS i, 8, 5⟩
def STEER.SHIFTS.FB_SHIFT (i : Nat) : Fld := ⟨STEER.SHIFTS i, 0, 5⟩
/-- STEER.LIMIT, word 0x038 + 0x20a. -/
def STEER.LIMIT (i : Nat) : Nat := 0x5038 + 32 * i
def STEER.LIMIT.MAX (i : Nat) : Fld := ⟨STEER.LIMIT i, 16, 16⟩
def STEER.LIMIT.MIN (i : Nat) : Fld := ⟨STEER.LIMIT i, 0, 16⟩
/-- STEER notch coefficients, words 0x039–0x042 + 0x20a. -/
def STEER.N1_NUM0 (i : Nat) : Nat := 0x5039 + 32 * i
def STEER.N1_NUM0.COEF (i : Nat) : Fld := ⟨STEER.N1_NUM0 i, 0, 24⟩
/-- STEER notch coefficients, words 0x039–0x042 + 0x20a. -/
def STEER.N1_NUM1 (i : Nat) : Nat := 0x503A + 32 * i
def STEER.N1_NUM1.COEF (i : Nat) : Fld := ⟨STEER.N1_NUM1 i, 0, 24⟩
/-- STEER notch coefficients, words 0x039–0x042 + 0x20a. -/
def STEER.N1_NUM2 (i : Nat) : Nat := 0x503B + 32 * i
def STEER.N1_NUM2.COEF (i : Nat) : Fld := ⟨STEER.N1_NUM2 i, 0, 24⟩
/-- STEER notch coefficients, words 0x039–0x042 + 0x20a. -/
def STEER.N1_DEN1 (i : Nat) : Nat := 0x503C + 32 * i
def STEER.N1_DEN1.COEF (i : Nat) : Fld := ⟨STEER.N1_DEN1 i, 0, 24⟩
/-- STEER notch coefficients, words 0x039–0x042 + 0x20a. -/
def STEER.N1_DEN2 (i : Nat) : Nat := 0x503D + 32 * i
def STEER.N1_DEN2.COEF (i : Nat) : Fld := ⟨STEER.N1_DEN2 i, 0, 24⟩
/-- STEER notch coefficients, words 0x039–0x042 + 0x20a. -/
def STEER.N2_NUM0 (i : Nat) : Nat := 0x503E + 32 * i
def STEER.N2_NUM0.COEF (i : Nat) : Fld := ⟨STEER.N2_NUM0 i, 0, 24⟩
/-- STEER notch coefficients, words 0x039–0x042 + 0x20a. -/
def STEER.N2_NUM1 (i : Nat) : Nat := 0x503F + 32 * i
def STEER.N2_NUM1.COEF (i : Nat) : Fld := ⟨STEER.N2_NUM1 i, 0, 24⟩
/-- STEER notch coefficients, words 0x039–0x042 + 0x20a. -/
def STEER.N2_NUM2 (i : Nat) : Nat := 0x5040 + 32 * i
def STEER.N2_NUM2.COEF (i : Nat) : Fld := ⟨STEER.N2_NUM2 i, 0, 24⟩
/-- STEER notch coefficients, words 0x039–0x042 + 0x20a. -/
def STEER.N2_DEN1 (i : Nat) : Nat := 0x5041 + 32 * i
def STEER.N2_DEN1.COEF (i : Nat) : Fld := ⟨STEER.N2_DEN1 i, 0, 24⟩
/-- STEER notch coefficients, words 0x039–0x042 + 0x20a. -/
def STEER.N2_DEN2 (i : Nat) : Nat := 0x5042 + 32 * i
def STEER.N2_DEN2.COEF (i : Nat) : Fld := ⟨STEER.N2_DEN2 i, 0, 24⟩
/-- STEER.TRACK and STEER.AGREE, words 0x043–0x044 + 0x20a. -/
def STEER.TRACK (i : Nat) : Nat := 0x5043 + 32 * i
def STEER.TRACK.CNT (i : Nat) : Fld := ⟨STEER.TRACK i, 28, 4⟩
def STEER.TRACK.TOL (i : Nat) : Fld := ⟨STEER.TRACK i, 0, 24⟩
/-- STEER.TRACK and STEER.AGREE, words 0x043–0x044 + 0x20a. -/
def STEER.AGREE (i : Nat) : Nat := 0x5044 + 32 * i
def STEER.AGREE.TOL (i : Nat) : Fld := ⟨STEER.AGREE i, 0, 24⟩
/-- STEER.STAT, word 0x045 + 0x20a. -/
def STEER.STAT (i : Nat) : Nat := 0x5045 + 32 * i
def STEER.STAT.MISSES (i : Nat) : Fld := ⟨STEER.STAT i, 16, 16⟩
def STEER.STAT.SETTLING (i : Nat) : Fld := ⟨STEER.STAT i, 3, 1⟩
def STEER.STAT.FF_ONLY (i : Nat) : Fld := ⟨STEER.STAT i, 2, 1⟩
def STEER.STAT.CLAMPED (i : Nat) : Fld := ⟨STEER.STAT i, 1, 1⟩
def STEER.STAT.ACTIVE (i : Nat) : Fld := ⟨STEER.STAT i, 0, 1⟩
/-- STEER.ERR and STEER.DRIVE, words 0x046–0x047 + 0x20a. -/
def STEER.ERR (i : Nat) : Nat := 0x5046 + 32 * i
def STEER.ERR.VALUE (i : Nat) : Fld := ⟨STEER.ERR i, 0, 32⟩
/-- STEER.ERR and STEER.DRIVE, words 0x046–0x047 + 0x20a. -/
def STEER.DRIVE (i : Nat) : Nat := 0x5047 + 32 * i
def STEER.DRIVE.VALUE (i : Nat) : Fld := ⟨STEER.DRIVE i, 0, 16⟩
/-- SENSE.CFGn, word 0x010 + 16n. -/
def SENSE.CFG (i : Nat) : Nat := 0x5410 + 16 * i
def SENSE.CFG.ACTION (i : Nat) : Fld := ⟨SENSE.CFG i, 16, 2⟩
def SENSE.CFG.DWELL (i : Nat) : Fld := ⟨SENSE.CFG i, 8, 8⟩
def SENSE.CFG.AUTO (i : Nat) : Fld := ⟨SENSE.CFG i, 6, 1⟩
def SENSE.CFG.RANGE (i : Nat) : Fld := ⟨SENSE.CFG i, 4, 2⟩
def SENSE.CFG.ORDER (i : Nat) : Fld := ⟨SENSE.CFG i, 1, 2⟩
def SENSE.CFG.EN (i : Nat) : Fld := ⟨SENSE.CFG i, 0, 1⟩
/-- SENSE.RATIOn, word 0x011 + 16n. -/
def SENSE.RATIO (i : Nat) : Nat := 0x5411 + 16 * i
def SENSE.RATIO.PHASE (i : Nat) : Fld := ⟨SENSE.RATIO i, 16, 12⟩
def SENSE.RATIO.RATIO (i : Nat) : Fld := ⟨SENSE.RATIO i, 0, 13⟩
/-- SENSE.SHIFTn, word 0x012 + 16n. -/
def SENSE.SHIFT (i : Nat) : Nat := 0x5412 + 16 * i
def SENSE.SHIFT.SH (i : Nat) : Fld := ⟨SENSE.SHIFT i, 0, 20⟩
/-- SENSE.OFFSETn to SENSE.THR_LOn, words 0x013–0x016 + 16n. -/
def SENSE.OFFSET (i : Nat) : Nat := 0x5413 + 16 * i
def SENSE.OFFSET.VALUE (i : Nat) : Fld := ⟨SENSE.OFFSET i, 0, 32⟩
/-- SENSE.OFFSETn to SENSE.THR_LOn, words 0x013–0x016 + 16n. -/
def SENSE.GAIN (i : Nat) : Nat := 0x5414 + 16 * i
def SENSE.GAIN.VALUE (i : Nat) : Fld := ⟨SENSE.GAIN i, 0, 24⟩
/-- SENSE.OFFSETn to SENSE.THR_LOn, words 0x013–0x016 + 16n. -/
def SENSE.THR_HI (i : Nat) : Nat := 0x5415 + 16 * i
def SENSE.THR_HI.VALUE (i : Nat) : Fld := ⟨SENSE.THR_HI i, 0, 32⟩
/-- SENSE.OFFSETn to SENSE.THR_LOn, words 0x013–0x016 + 16n. -/
def SENSE.THR_LO (i : Nat) : Nat := 0x5416 + 16 * i
def SENSE.THR_LO.VALUE (i : Nat) : Fld := ⟨SENSE.THR_LO i, 0, 32⟩
/-- SENSE.SAMPLEn, word 0x017 + 16n. -/
def SENSE.SAMPLE (i : Nat) : Nat := 0x5417 + 16 * i
def SENSE.SAMPLE.SAMPLE (i : Nat) : Fld := ⟨SENSE.SAMPLE i, 0, 32⟩
/-- SENSE.STATn, word 0x018 + 16n. -/
def SENSE.STAT (i : Nat) : Nat := 0x5418 + 16 * i
def SENSE.STAT.RANGE_CHG (i : Nat) : Fld := ⟨SENSE.STAT i, 16, 16⟩
def SENSE.STAT.LO (i : Nat) : Fld := ⟨SENSE.STAT i, 9, 1⟩
def SENSE.STAT.HI (i : Nat) : Fld := ⟨SENSE.STAT i, 8, 1⟩
def SENSE.STAT.SETTLING (i : Nat) : Fld := ⟨SENSE.STAT i, 7, 1⟩
def SENSE.STAT.SAT (i : Nat) : Fld := ⟨SENSE.STAT i, 6, 1⟩
def SENSE.STAT.DRIFT (i : Nat) : Fld := ⟨SENSE.STAT i, 5, 1⟩
def SENSE.STAT.OPEN (i : Nat) : Fld := ⟨SENSE.STAT i, 4, 1⟩
def SENSE.STAT.RANGE (i : Nat) : Fld := ⟨SENSE.STAT i, 0, 2⟩
/-- SENSE.IMPn and SENSE.IMP_WINn, words 0x019–0x01A + 16n. -/
def SENSE.IMP (i : Nat) : Nat := 0x5419 + 16 * i
def SENSE.IMP.VALUE (i : Nat) : Fld := ⟨SENSE.IMP i, 0, 16⟩
/-- SENSE.IMPn and SENSE.IMP_WINn, words 0x019–0x01A + 16n. -/
def SENSE.IMP_WIN (i : Nat) : Nat := 0x541A + 16 * i
def SENSE.IMP_WIN.IMP_MAX (i : Nat) : Fld := ⟨SENSE.IMP_WIN i, 16, 16⟩
def SENSE.IMP_WIN.IMP_MIN (i : Nat) : Fld := ⟨SENSE.IMP_WIN i, 0, 16⟩
/-- SENSE.EXC0–EXC7, words 0x090–0x097. -/
def SENSE.EXC (i : Nat) : Nat := 0x5490 + i
def SENSE.EXC.EN (i : Nat) : Fld := ⟨SENSE.EXC i, 31, 1⟩
def SENSE.EXC.CURRENT (i : Nat) : Fld := ⟨SENSE.EXC i, 16, 12⟩
def SENSE.EXC.PIN (i : Nat) : Fld := ⟨SENSE.EXC i, 0, 4⟩
/-- SENSE.TONE0–TONE7, words 0x098–0x09F. -/
def SENSE.TONE (i : Nat) : Nat := 0x5498 + i
def SENSE.TONE.EN (i : Nat) : Fld := ⟨SENSE.TONE i, 31, 1⟩
def SENSE.TONE.CH (i : Nat) : Fld := ⟨SENSE.TONE i, 24, 3⟩
def SENSE.TONE.AMP (i : Nat) : Fld := ⟨SENSE.TONE i, 0, 12⟩
/-- SENSE.GRD, word 0x0A0. -/
def SENSE.GRD : Nat := 0x54A0
def SENSE.GRD.GRD0_EN : Fld := ⟨SENSE.GRD, 7, 1⟩
def SENSE.GRD.GRD0_LEG : Fld := ⟨SENSE.GRD, 3, 1⟩
def SENSE.GRD.GRD0_CH : Fld := ⟨SENSE.GRD, 0, 3⟩
def SENSE.GRD.GRD1_EN : Fld := ⟨SENSE.GRD, 15, 1⟩
def SENSE.GRD.GRD1_LEG : Fld := ⟨SENSE.GRD, 11, 1⟩
def SENSE.GRD.GRD1_CH : Fld := ⟨SENSE.GRD, 8, 3⟩
def SENSE.GRD.GRD2_EN : Fld := ⟨SENSE.GRD, 23, 1⟩
def SENSE.GRD.GRD2_LEG : Fld := ⟨SENSE.GRD, 19, 1⟩
def SENSE.GRD.GRD2_CH : Fld := ⟨SENSE.GRD, 16, 3⟩
def SENSE.GRD.GRD3_EN : Fld := ⟨SENSE.GRD, 31, 1⟩
def SENSE.GRD.GRD3_LEG : Fld := ⟨SENSE.GRD, 27, 1⟩
def SENSE.GRD.GRD3_CH : Fld := ⟨SENSE.GRD, 24, 3⟩
/-- AFE.DBIAS_WIN, word 0x010 (AFE0 only; reserved on AFE1–AFE7). -/
def AFE.DBIAS_WIN (p : Nat) : Nat := 0x8010 + 0x400 * p
def AFE.DBIAS_WIN.DBIAS_HI (p : Nat) : Fld := ⟨AFE.DBIAS_WIN p, 16, 11⟩
def AFE.DBIAS_WIN.DBIAS_LO (p : Nat) : Fld := ⟨AFE.DBIAS_WIN p, 0, 11⟩
/-- AFE.DBIAS_VAL, word 0x011 (AFE0 only; reserved on AFE1–AFE7). -/
def AFE.DBIAS_VAL (p : Nat) : Nat := 0x8011 + 0x400 * p
def AFE.DBIAS_VAL.OUT (p : Nat) : Fld := ⟨AFE.DBIAS_VAL p, 31, 1⟩
def AFE.DBIAS_VAL.VALUE (p : Nat) : Fld := ⟨AFE.DBIAS_VAL p, 0, 11⟩
/-- AFE.CNT_CLR, word 0x012. -/
def AFE.CNT_CLR (p : Nat) : Nat := 0x8012 + 0x400 * p
def AFE.CNT_CLR.CLEAR (p : Nat) : Fld := ⟨AFE.CNT_CLR p, 0, 1⟩
/-- AFE.CFGi, word 0x040 + 4i. -/
def AFE.CFG (p i : Nat) : Nat := 0x8040 + 0x400 * p + 4 * i
def AFE.CFG.DEAD (p i : Nat) : Fld := ⟨AFE.CFG p i, 8, 7⟩
def AFE.CFG.GAIN (p i : Nat) : Fld := ⟨AFE.CFG p i, 4, 2⟩
def AFE.CFG.EN (p i : Nat) : Fld := ⟨AFE.CFG p i, 0, 1⟩
/-- AFE.THRi, word 0x041 + 4i. -/
def AFE.THR (p i : Nat) : Nat := 0x8041 + 0x400 * p + 4 * i
def AFE.THR.TOT_THR (p i : Nat) : Fld := ⟨AFE.THR p i, 16, 10⟩
def AFE.THR.LE_THR (p i : Nat) : Fld := ⟨AFE.THR p i, 0, 10⟩
/-- AFE.CALi, word 0x042 + 4i. -/
def AFE.CAL (p i : Nat) : Nat := 0x8042 + 0x400 * p + 4 * i
def AFE.CAL.TOT_OFS (p i : Nat) : Fld := ⟨AFE.CAL p i, 24, 6⟩
def AFE.CAL.TOT_PAIR (p i : Nat) : Fld := ⟨AFE.CAL p i, 20, 2⟩
def AFE.CAL.LE_OFS (p i : Nat) : Fld := ⟨AFE.CAL p i, 8, 6⟩
def AFE.CAL.LE_PAIR (p i : Nat) : Fld := ⟨AFE.CAL p i, 4, 2⟩
def AFE.CAL.PAIR_OK (p i : Nat) : Fld := ⟨AFE.CAL p i, 0, 4⟩
/-- AFE.STATi, word 0x043 + 4i. -/
def AFE.STAT (p i : Nat) : Nat := 0x8043 + 0x400 * p + 4 * i
def AFE.STAT.EDGES (p i : Nat) : Fld := ⟨AFE.STAT p i, 16, 16⟩
def AFE.STAT.DEAD (p i : Nat) : Fld := ⟨AFE.STAT p i, 3, 1⟩
def AFE.STAT.STUCK (p i : Nat) : Fld := ⟨AFE.STAT p i, 2, 1⟩
def AFE.STAT.CAL (p i : Nat) : Fld := ⟨AFE.STAT p i, 1, 1⟩
def AFE.STAT.ACTIVE (p i : Nat) : Fld := ⟨AFE.STAT p i, 0, 1⟩
/-- TDC.WIN, word 0x010. -/
def TDC.WIN (p : Nat) : Nat := 0xA010 + 0x400 * p
def TDC.WIN.PRE (p : Nat) : Fld := ⟨TDC.WIN p, 16, 8⟩
def TDC.WIN.POST (p : Nat) : Fld := ⟨TDC.WIN p, 8, 8⟩
def TDC.WIN.ARMX_POL (p : Nat) : Fld := ⟨TDC.WIN p, 2, 1⟩
def TDC.WIN.ARMX (p : Nat) : Fld := ⟨TDC.WIN p, 0, 2⟩
/-- TDC.DLL, word 0x011. -/
def TDC.DLL (p : Nat) : Nat := 0xA011 + 0x400 * p
def TDC.DLL.B_LOCK (p : Nat) : Fld := ⟨TDC.DLL p, 31, 1⟩
def TDC.DLL.A_LOCK (p : Nat) : Fld := ⟨TDC.DLL p, 30, 1⟩
def TDC.DLL.ACTIVE (p : Nat) : Fld := ⟨TDC.DLL p, 29, 1⟩
def TDC.DLL.CELLS_B (p : Nat) : Fld := ⟨TDC.DLL p, 16, 10⟩
def TDC.DLL.CELLS_A (p : Nat) : Fld := ⟨TDC.DLL p, 0, 10⟩
/-- TDC.FAILED0 and TDC.FAILED1, words 0x012–0x013. -/
def TDC.FAILED0 (p : Nat) : Nat := 0xA012 + 0x400 * p
def TDC.FAILED0.FAILED (p : Nat) : Fld := ⟨TDC.FAILED0 p, 0, 32⟩
/-- TDC.FAILED0 and TDC.FAILED1, words 0x012–0x013. -/
def TDC.FAILED1 (p : Nat) : Nat := 0xA013 + 0x400 * p
def TDC.FAILED1.FAILED (p : Nat) : Fld := ⟨TDC.FAILED1 p, 0, 16⟩
/-- TDC.FAIL_CLR, word 0x014. -/
def TDC.FAIL_CLR (p : Nat) : Nat := 0xA014 + 0x400 * p
def TDC.FAIL_CLR.GO (p : Nat) : Fld := ⟨TDC.FAIL_CLR p, 6, 1⟩
def TDC.FAIL_CLR.CH (p : Nat) : Fld := ⟨TDC.FAIL_CLR p, 0, 6⟩
/-- TDC.ARMX_CNT, word 0x015. -/
def TDC.ARMX_CNT (p : Nat) : Nat := 0xA015 + 0x400 * p
def TDC.ARMX_CNT.SHOT_BLOCK (p : Nat) : Fld := ⟨TDC.ARMX_CNT p, 16, 16⟩
def TDC.ARMX_CNT.LEVEL_DROP (p : Nat) : Fld := ⟨TDC.ARMX_CNT p, 0, 16⟩
/-- TDC.CNT_CLR, word 0x016. -/
def TDC.CNT_CLR (p : Nat) : Nat := 0xA016 + 0x400 * p
def TDC.CNT_CLR.CLEAR (p : Nat) : Fld := ⟨TDC.CNT_CLR p, 0, 1⟩
/-- TDC.MAPm, word 0x040 + 16m. -/
def TDC.MAP (p i : Nat) : Nat := 0xA040 + 0x400 * p + 16 * i
def TDC.MAP.EN (p i : Nat) : Fld := ⟨TDC.MAP p i, 31, 1⟩
def TDC.MAP.SRC (p i : Nat) : Fld := ⟨TDC.MAP p i, 0, 6⟩
/-- TDC.GATE_STARTm and TDC.GATE_ENDm, words 0x041–0x042 + 16m. -/
def TDC.GATE_START (p i : Nat) : Nat := 0xA041 + 0x400 * p + 16 * i
def TDC.GATE_START.VALUE (p i : Nat) : Fld := ⟨TDC.GATE_START p i, 0, 20⟩
/-- TDC.GATE_STARTm and TDC.GATE_ENDm, words 0x041–0x042 + 16m. -/
def TDC.GATE_END (p i : Nat) : Nat := 0xA042 + 0x400 * p + 16 * i
def TDC.GATE_END.VALUE (p i : Nat) : Fld := ⟨TDC.GATE_END p i, 0, 20⟩
/-- TDC.LINm, word 0x043 + 16m. -/
def TDC.LIN (p i : Nat) : Nat := 0xA043 + 0x400 * p + 16 * i
def TDC.LIN.RAW_HI (p i : Nat) : Fld := ⟨TDC.LIN p i, 16, 10⟩
def TDC.LIN.RAW_LO (p i : Nat) : Fld := ⟨TDC.LIN p i, 0, 10⟩
/-- TDC.INL_Am and TDC.INL_Bm, words 0x044–0x045 + 16m. -/
def TDC.INL_A (p i : Nat) : Nat := 0xA044 + 0x400 * p + 16 * i
def TDC.INL_A.INL (p i : Nat) : Fld := ⟨TDC.INL_A p i, 0, 32⟩
/-- TDC.INL_Am and TDC.INL_Bm, words 0x044–0x045 + 16m. -/
def TDC.INL_B (p i : Nat) : Nat := 0xA045 + 0x400 * p + 16 * i
def TDC.INL_B.INL (p i : Nat) : Fld := ⟨TDC.INL_B p i, 0, 24⟩
/-- TDC.STATm, word 0x046 + 16m. -/
def TDC.STAT (p i : Nat) : Nat := 0xA046 + 0x400 * p + 16 * i
def TDC.STAT.FAILED (p i : Nat) : Fld := ⟨TDC.STAT p i, 31, 1⟩
def TDC.STAT.CAUSE (p i : Nat) : Fld := ⟨TDC.STAT p i, 28, 3⟩
def TDC.STAT.ON_KITTY (p i : Nat) : Fld := ⟨TDC.STAT p i, 20, 1⟩
def TDC.STAT.KIT (p i : Nat) : Fld := ⟨TDC.STAT p i, 16, 4⟩
/-- TDC.CNTm and TDC.EVENTSm, words 0x047–0x048 + 16m. -/
def TDC.CNT (p i : Nat) : Nat := 0xA047 + 0x400 * p + 16 * i
def TDC.CNT.PILEUP (p i : Nat) : Fld := ⟨TDC.CNT p i, 16, 16⟩
def TDC.CNT.OVF (p i : Nat) : Fld := ⟨TDC.CNT p i, 0, 16⟩
/-- TDC.CNTm and TDC.EVENTSm, words 0x047–0x048 + 16m. -/
def TDC.EVENTS (p i : Nat) : Nat := 0xA048 + 0x400 * p + 16 * i
def TDC.EVENTS.VALUE (p i : Nat) : Fld := ⟨TDC.EVENTS p i, 0, 32⟩
/-- KITTY.SUMMARY, word 0x010. -/
def KITTY.SUMMARY : Nat := 0xC010
def KITTY.SUMMARY.FREE : Fld := ⟨KITTY.SUMMARY, 20, 5⟩
def KITTY.SUMMARY.SPARE : Fld := ⟨KITTY.SUMMARY, 15, 5⟩
def KITTY.SUMMARY.CAL : Fld := ⟨KITTY.SUMMARY, 10, 5⟩
def KITTY.SUMMARY.HOST : Fld := ⟨KITTY.SUMMARY, 5, 5⟩
def KITTY.SUMMARY.FAILED : Fld := ⟨KITTY.SUMMARY, 0, 5⟩
/-- KITTY.DUMMY_CFG, word 0x011. -/
def KITTY.DUMMY_CFG : Nat := 0xC011
def KITTY.DUMMY_CFG.EN : Fld := ⟨KITTY.DUMMY_CFG, 31, 1⟩
def KITTY.DUMMY_CFG.AMP : Fld := ⟨KITTY.DUMMY_CFG, 24, 2⟩
def KITTY.DUMMY_CFG.TOL : Fld := ⟨KITTY.DUMMY_CFG, 16, 8⟩
def KITTY.DUMMY_CFG.FINE : Fld := ⟨KITTY.DUMMY_CFG, 12, 3⟩
def KITTY.DUMMY_CFG.DELAY : Fld := ⟨KITTY.DUMMY_CFG, 0, 12⟩
/-- KITTY.DUMMY_LAST, word 0x012. -/
def KITTY.DUMMY_LAST : Nat := 0xC012
def KITTY.DUMMY_LAST.VALID : Fld := ⟨KITTY.DUMMY_LAST, 31, 1⟩
def KITTY.DUMMY_LAST.ERR : Fld := ⟨KITTY.DUMMY_LAST, 30, 1⟩
def KITTY.DUMMY_LAST.TIME : Fld := ⟨KITTY.DUMMY_LAST, 0, 22⟩
/-- KITTY.DUMMY_CNT, word 0x013. -/
def KITTY.DUMMY_CNT : Nat := 0xC013
def KITTY.DUMMY_CNT.SKIP : Fld := ⟨KITTY.DUMMY_CNT, 16, 16⟩
def KITTY.DUMMY_CNT.FAIL : Fld := ⟨KITTY.DUMMY_CNT, 0, 16⟩
/-- KITTY.DUMMY_D0, word 0x014. -/
def KITTY.DUMMY_D0 : Nat := 0xC014
def KITTY.DUMMY_D0.D0 : Fld := ⟨KITTY.DUMMY_D0, 0, 16⟩
/-- KITTY.CNT_CLR, word 0x015. -/
def KITTY.CNT_CLR : Nat := 0xC015
def KITTY.CNT_CLR.CLEAR : Fld := ⟨KITTY.CNT_CLR, 0, 1⟩
/-- KITTY.ASSIGNn, word 0x040 + 8n. -/
def KITTY.ASSIGN (i : Nat) : Nat := 0xC040 + 8 * i
def KITTY.ASSIGN.STATE (i : Nat) : Fld := ⟨KITTY.ASSIGN i, 29, 3⟩
def KITTY.ASSIGN.CH (i : Nat) : Fld := ⟨KITTY.ASSIGN i, 0, 9⟩
/-- KITTY.HOSTn, word 0x041 + 8n. -/
def KITTY.HOST (i : Nat) : Nat := 0xC041 + 8 * i
def KITTY.HOST.EN (i : Nat) : Fld := ⟨KITTY.HOST i, 31, 1⟩
def KITTY.HOST.CH (i : Nat) : Fld := ⟨KITTY.HOST i, 0, 9⟩
/-- KITTY.LINn, word 0x042 + 8n. -/
def KITTY.LIN (i : Nat) : Nat := 0xC042 + 8 * i
def KITTY.LIN.RAW_HI (i : Nat) : Fld := ⟨KITTY.LIN i, 16, 10⟩
def KITTY.LIN.RAW_LO (i : Nat) : Fld := ⟨KITTY.LIN i, 0, 10⟩
/-- KITTY.INL_An and KITTY.INL_Bn, words 0x043–0x044 + 8n. -/
def KITTY.INL_A (i : Nat) : Nat := 0xC043 + 8 * i
def KITTY.INL_A.INL (i : Nat) : Fld := ⟨KITTY.INL_A i, 0, 32⟩
/-- KITTY.INL_An and KITTY.INL_Bn, words 0x043–0x044 + 8n. -/
def KITTY.INL_B (i : Nat) : Nat := 0xC044 + 8 * i
def KITTY.INL_B.INL (i : Nat) : Fld := ⟨KITTY.INL_B i, 0, 24⟩
/-- KITTY.XOFS_An and KITTY.XOFS_Bn, words 0x045–0x046 + 8n. -/
def KITTY.XOFS_A (i : Nat) : Nat := 0xC045 + 8 * i
def KITTY.XOFS_A.XOFS (i : Nat) : Fld := ⟨KITTY.XOFS_A i, 0, 32⟩
/-- KITTY.XOFS_An and KITTY.XOFS_Bn, words 0x045–0x046 + 8n. -/
def KITTY.XOFS_B (i : Nat) : Nat := 0xC046 + 8 * i
def KITTY.XOFS_B.XOFS (i : Nat) : Fld := ⟨KITTY.XOFS_B i, 0, 32⟩
/-- HIST.STATUS, word 0x002. -/
def HIST.STATUS : Nat := 0xE002
def HIST.STATUS.ACTIVE : Fld := ⟨HIST.STATUS, 31, 1⟩
def HIST.STATUS.DRAINING : Fld := ⟨HIST.STATUS, 1, 1⟩
def HIST.STATUS.PAR : Fld := ⟨HIST.STATUS, 0, 1⟩
/-- HIST.MODE, word 0x010. -/
def HIST.MODE : Nat := 0xE010
def HIST.MODE.FINE : Fld := ⟨HIST.MODE, 12, 2⟩
def HIST.MODE.TRICKS : Fld := ⟨HIST.MODE, 8, 2⟩
def HIST.MODE.BIN : Fld := ⟨HIST.MODE, 4, 1⟩
def HIST.MODE.MODE : Fld := ⟨HIST.MODE, 0, 2⟩
/-- HIST.PLACE, word 0x011. -/
def HIST.PLACE : Nat := 0xE011
def HIST.PLACE.SHIFT : Fld := ⟨HIST.PLACE, 16, 6⟩
def HIST.PLACE.RATIO : Fld := ⟨HIST.PLACE, 8, 8⟩
def HIST.PLACE.PLACE_MIN : Fld := ⟨HIST.PLACE, 0, 8⟩
/-- HIST.DUMP, word 0x012. -/
def HIST.DUMP : Nat := 0xE012
def HIST.DUMP.SEL : Fld := ⟨HIST.DUMP, 4, 2⟩
def HIST.DUMP.TRICK_EN : Fld := ⟨HIST.DUMP, 1, 1⟩
def HIST.DUMP.COARSE_EN : Fld := ⟨HIST.DUMP, 0, 1⟩
/-- HIST.DUMP_CH0–DUMP_CH1, words 0x013–0x014. -/
def HIST.DUMP_CH (i : Nat) : Nat := 0xE013 + i
def HIST.DUMP_CH.EN_B (i : Nat) : Fld := ⟨HIST.DUMP_CH i, 31, 1⟩
def HIST.DUMP_CH.CH_B (i : Nat) : Fld := ⟨HIST.DUMP_CH i, 16, 9⟩
def HIST.DUMP_CH.EN_A (i : Nat) : Fld := ⟨HIST.DUMP_CH i, 15, 1⟩
def HIST.DUMP_CH.CH_A (i : Nat) : Fld := ⟨HIST.DUMP_CH i, 0, 9⟩
/-- HIST.RAW, word 0x015. -/
def HIST.RAW : Nat := 0xE015
def HIST.RAW.DUMMY : Fld := ⟨HIST.RAW, 17, 1⟩
def HIST.RAW.STOP : Fld := ⟨HIST.RAW, 16, 1⟩
def HIST.RAW.BANK : Fld := ⟨HIST.RAW, 8, 5⟩
def HIST.RAW.SLICE : Fld := ⟨HIST.RAW, 0, 5⟩
/-- HIST.RAW_STAT, word 0x016. -/
def HIST.RAW_STAT : Nat := 0xE016
def HIST.RAW_STAT.FULL : Fld := ⟨HIST.RAW_STAT, 31, 1⟩
def HIST.RAW_STAT.PTR : Fld := ⟨HIST.RAW_STAT, 0, 16⟩
/-- HIST.SAT, word 0x017. -/
def HIST.SAT : Nat := 0xE017
def HIST.SAT.SLICE : Fld := ⟨HIST.SAT, 0, 32⟩
/-- HIST.LATE, word 0x018. -/
def HIST.LATE : Nat := 0xE018
def HIST.LATE.TRICK_LATE : Fld := ⟨HIST.LATE, 16, 16⟩
def HIST.LATE.NO_TRICK : Fld := ⟨HIST.LATE, 0, 16⟩
/-- HIST.DUMP_CNT, word 0x019. -/
def HIST.DUMP_CNT : Nat := 0xE019
def HIST.DUMP_CNT.CUT : Fld := ⟨HIST.DUMP_CNT, 16, 16⟩
def HIST.DUMP_CNT.DROP : Fld := ⟨HIST.DUMP_CNT, 0, 16⟩
/-- HIST.RAW_DROP, word 0x01A. -/
def HIST.RAW_DROP : Nat := 0xE01A
def HIST.RAW_DROP.COUNT : Fld := ⟨HIST.RAW_DROP, 0, 32⟩
/-- HIST.PLACE_MAX, word 0x01B. -/
def HIST.PLACE_MAX : Nat := 0xE01B
def HIST.PLACE_MAX.MAX : Fld := ⟨HIST.PLACE_MAX, 0, 16⟩
/-- HIST.DRAIN, word 0x01C. -/
def HIST.DRAIN : Nat := 0xE01C
def HIST.DRAIN.COUNT : Fld := ⟨HIST.DRAIN, 16, 16⟩
def HIST.DRAIN.LAST : Fld := ⟨HIST.DRAIN, 0, 16⟩
/-- HIST.CNT_CLR, word 0x01D. -/
def HIST.CNT_CLR : Nat := 0xE01D
def HIST.CNT_CLR.CLEAR : Fld := ⟨HIST.CNT_CLR, 0, 1⟩
/-- REJ.BG, word 0x010. -/
def REJ.BG : Nat := 0xE410
def REJ.BG.SUBTRACT : Fld := ⟨REJ.BG, 4, 1⟩
def REJ.BG.BG_SRC : Fld := ⟨REJ.BG, 0, 2⟩
/-- REJ.THR, word 0x011. -/
def REJ.THR : Nat := 0xE411
def REJ.THR.K : Fld := ⟨REJ.THR, 8, 8⟩
def REJ.THR.ABS_MIN : Fld := ⟨REJ.THR, 0, 8⟩
/-- REJ.CORR, word 0x012. -/
def REJ.CORR : Nat := 0xE412
def REJ.CORR.CORR_EN : Fld := ⟨REJ.CORR, 31, 1⟩
def REJ.CORR.MISS_MAX : Fld := ⟨REJ.CORR, 16, 2⟩
def REJ.CORR.IMG_HI : Fld := ⟨REJ.CORR, 8, 8⟩
def REJ.CORR.IMG_LO : Fld := ⟨REJ.CORR, 0, 8⟩
/-- REJ.VOL, word 0x013. -/
def REJ.VOL : Nat := 0xE413
def REJ.VOL.VOL_EN : Fld := ⟨REJ.VOL, 31, 1⟩
def REJ.VOL.VOL_WIDTH : Fld := ⟨REJ.VOL, 24, 4⟩
def REJ.VOL.VOL_HIT : Fld := ⟨REJ.VOL, 16, 8⟩
def REJ.VOL.VOL_NEAR : Fld := ⟨REJ.VOL, 0, 11⟩
/-- REJ.BLOOM, word 0x014. -/
def REJ.BLOOM : Nat := 0xE414
def REJ.BLOOM.BLOOM_EN : Fld := ⟨REJ.BLOOM, 31, 1⟩
def REJ.BLOOM.SPAN : Fld := ⟨REJ.BLOOM, 16, 4⟩
def REJ.BLOOM.SRC : Fld := ⟨REJ.BLOOM, 8, 8⟩
def REJ.BLOOM.RATIO : Fld := ⟨REJ.BLOOM, 0, 8⟩
/-- REJ.OUT, word 0x015. -/
def REJ.OUT : Nat := 0xE415
def REJ.OUT.MAX_ECHO : Fld := ⟨REJ.OUT, 8, 2⟩
def REJ.OUT.BLOOM_KEEP : Fld := ⟨REJ.OUT, 2, 1⟩
def REJ.OUT.SUSPECT_KEEP : Fld := ⟨REJ.OUT, 1, 1⟩
def REJ.OUT.VOL_KEEP : Fld := ⟨REJ.OUT, 0, 1⟩
/-- REJ.SUN, word 0x016. -/
def REJ.SUN : Nat := 0xE416
def REJ.SUN.SUN_THR : Fld := ⟨REJ.SUN, 0, 8⟩
/-- REJ.CNT_A, REJ.CNT_B and REJ.CNT_C, words 0x018–0x01A. -/
def REJ.CNT_A : Nat := 0xE418
def REJ.CNT_A.BELOW : Fld := ⟨REJ.CNT_A, 16, 16⟩
def REJ.CNT_A.IMAGES : Fld := ⟨REJ.CNT_A, 0, 16⟩
/-- REJ.CNT_A, REJ.CNT_B and REJ.CNT_C, words 0x018–0x01A. -/
def REJ.CNT_B : Nat := 0xE419
def REJ.CNT_B.SUSPECT : Fld := ⟨REJ.CNT_B, 16, 16⟩
def REJ.CNT_B.VOLUMETRIC : Fld := ⟨REJ.CNT_B, 0, 16⟩
/-- REJ.CNT_A, REJ.CNT_B and REJ.CNT_C, words 0x018–0x01A. -/
def REJ.CNT_C : Nat := 0xE41A
def REJ.CNT_C.BLOOM : Fld := ⟨REJ.CNT_C, 16, 16⟩
def REJ.CNT_C.ECHO_DROP : Fld := ⟨REJ.CNT_C, 0, 16⟩
/-- REJ.SUN_CNT, word 0x01B. -/
def REJ.SUN_CNT : Nat := 0xE41B
def REJ.SUN_CNT.COUNT : Fld := ⟨REJ.SUN_CNT, 0, 32⟩
/-- REJ.CNT_CLR, word 0x01C. -/
def REJ.CNT_CLR : Nat := 0xE41C
def REJ.CNT_CLR.CLEAR : Fld := ⟨REJ.CNT_CLR, 0, 1⟩
/-- REJ.BG_SEL, word 0x01D. -/
def REJ.BG_SEL : Nat := 0xE41D
def REJ.BG_SEL.CH : Fld := ⟨REJ.BG_SEL, 0, 9⟩
/-- REJ.BG_STAT, word 0x01E. -/
def REJ.BG_STAT : Nat := 0xE41E
def REJ.BG_STAT.SRC : Fld := ⟨REJ.BG_STAT, 30, 2⟩
def REJ.BG_STAT.LAMBDA : Fld := ⟨REJ.BG_STAT, 16, 14⟩
def REJ.BG_STAT.LOSS : Fld := ⟨REJ.BG_STAT, 8, 8⟩
def REJ.BG_STAT.ECHOES : Fld := ⟨REJ.BG_STAT, 0, 3⟩
/-- REJ.LAT, word 0x01F. -/
def REJ.LAT : Nat := 0xE41F
def REJ.LAT.MAX : Fld := ⟨REJ.LAT, 0, 16⟩
/-- PNT.OUT, word 0x010. -/
def PNT.OUT : Nat := 0xE810
def PNT.OUT.CENT_HALF : Fld := ⟨PNT.OUT, 4, 2⟩
def PNT.OUT.EMPTY : Fld := ⟨PNT.OUT, 0, 1⟩
/-- PNT.KPROP, word 0x011. -/
def PNT.KPROP : Nat := 0xE811
def PNT.KPROP.KPROP : Fld := ⟨PNT.KPROP, 0, 24⟩
/-- PNT.OFS_G, word 0x012. -/
def PNT.OFS_G : Nat := 0xE812
def PNT.OFS_G.OFS_G : Fld := ⟨PNT.OFS_G, 0, 16⟩
/-- PNT.TEMP, word 0x013. -/
def PNT.TEMP : Nat := 0xE813
def PNT.TEMP.T_REF : Fld := ⟨PNT.TEMP, 20, 12⟩
def PNT.TEMP.DIE_SRC : Fld := ⟨PNT.TEMP, 4, 4⟩
def PNT.TEMP.LAS_SRC : Fld := ⟨PNT.TEMP, 0, 2⟩
/-- PNT.SAT, word 0x014. -/
def PNT.SAT : Nat := 0xE814
def PNT.SAT.SAT_TOT : Fld := ⟨PNT.SAT, 16, 10⟩
def PNT.SAT.SAT_FRAC : Fld := ⟨PNT.SAT, 0, 8⟩
/-- PNT.INT, word 0x015. -/
def PNT.INT : Nat := 0xE815
def PNT.INT.P_HI : Fld := ⟨PNT.INT, 0, 5⟩
/-- PNT.CONF, word 0x016. -/
def PNT.CONF : Nat := 0xE816
def PNT.CONF.CONF_K : Fld := ⟨PNT.CONF, 0, 12⟩
/-- PNT.CAPS, word 0x017. -/
def PNT.CAPS : Nat := 0xE817
def PNT.CAPS.NOFINE : Fld := ⟨PNT.CAPS, 24, 8⟩
def PNT.CAPS.MASK : Fld := ⟨PNT.CAPS, 16, 8⟩
def PNT.CAPS.CLASS : Fld := ⟨PNT.CAPS, 8, 8⟩
def PNT.CAPS.MIRROR : Fld := ⟨PNT.CAPS, 0, 8⟩
/-- PNT.BID, word 0x018. -/
def PNT.BID : Nat := 0xE818
def PNT.BID.EN : Fld := ⟨PNT.BID, 31, 1⟩
def PNT.BID.SHOTS : Fld := ⟨PNT.BID, 24, 6⟩
def PNT.BID.HANDS : Fld := ⟨PNT.BID, 20, 4⟩
def PNT.BID.CONF : Fld := ⟨PNT.BID, 9, 8⟩
def PNT.BID.RANGE_MAX : Fld := ⟨PNT.BID, 0, 9⟩
/-- PNT.CNT_A, PNT.CNT_B and PNT.CNT_C, words 0x019–0x01B. -/
def PNT.CNT_A : Nat := 0xE819
def PNT.CNT_A.RECORDS : Fld := ⟨PNT.CNT_A, 0, 32⟩
/-- PNT.CNT_A, PNT.CNT_B and PNT.CNT_C, words 0x019–0x01B. -/
def PNT.CNT_B : Nat := 0xE81A
def PNT.CNT_B.NEG : Fld := ⟨PNT.CNT_B, 16, 16⟩
def PNT.CNT_B.STALE_CNT : Fld := ⟨PNT.CNT_B, 0, 16⟩
/-- PNT.CNT_A, PNT.CNT_B and PNT.CNT_C, words 0x019–0x01B. -/
def PNT.CNT_C : Nat := 0xE81B
def PNT.CNT_C.BIDS : Fld := ⟨PNT.CNT_C, 16, 16⟩
def PNT.CNT_C.SAT : Fld := ⟨PNT.CNT_C, 0, 16⟩
/-- PNT.CNT_CLR, word 0x01C. -/
def PNT.CNT_CLR : Nat := 0xE81C
def PNT.CNT_CLR.CLEAR : Fld := ⟨PNT.CNT_CLR, 0, 1⟩
/-- PNT.LAT, word 0x01D. -/
def PNT.LAT : Nat := 0xE81D
def PNT.LAT.MAX : Fld := ⟨PNT.LAT, 0, 16⟩
/-- PNT.FRAME, word 0x01E. -/
def PNT.FRAME : Nat := 0xE81E
def PNT.FRAME.FRAME : Fld := ⟨PNT.FRAME, 0, 32⟩
/-- PNT.TC0–TC7, words 0x030–0x037. -/
def PNT.TC (i : Nat) : Nat := 0xE830 + i
def PNT.TC.TC_DIE (i : Nat) : Fld := ⟨PNT.TC i, 16, 16⟩
def PNT.TC.TC_LAS (i : Nat) : Fld := ⟨PNT.TC i, 0, 16⟩
/-- PNT.WALK, words 0x040–0x07F. -/
def PNT.WALK (i : Nat) : Nat := 0xE840 + i
def PNT.WALK.WALK (i : Nat) : Fld := ⟨PNT.WALK i, 0, 16⟩
/-- PNT.OFS0–OFS383, words 0x100–0x27F. -/
def PNT.OFS (i : Nat) : Nat := 0xE900 + i
def PNT.OFS.OFS (i : Nat) : Fld := ⟨PNT.OFS i, 0, 20⟩
/-- ADC.STATUS, word 0x002. -/
def ADC.STATUS : Nat := 0xC402
def ADC.STATUS.ACTIVE : Fld := ⟨ADC.STATUS, 31, 1⟩
def ADC.STATUS.CAL_SUSPENDED : Fld := ⟨ADC.STATUS, 0, 1⟩
/-- ADC.MUX0–MUX7, words 0x010–0x017. -/
def ADC.MUX (i : Nat) : Nat := 0xC410 + i
def ADC.MUX.CH (i : Nat) : Fld := ⟨ADC.MUX i, 0, 6⟩
/-- ADC.SPARE, word 0x018. -/
def ADC.SPARE : Nat := 0xC418
def ADC.SPARE.STATE : Fld := ⟨ADC.SPARE, 29, 3⟩
def ADC.SPARE.BUS : Fld := ⟨ADC.SPARE, 0, 3⟩
/-- ADC.FAIL_CLR, word 0x019. -/
def ADC.FAIL_CLR : Nat := 0xC419
def ADC.FAIL_CLR.GO : Fld := ⟨ADC.FAIL_CLR, 4, 1⟩
def ADC.FAIL_CLR.ADC : Fld := ⟨ADC.FAIL_CLR, 0, 3⟩
/-- ADC.CNT_CLR, word 0x01A. -/
def ADC.CNT_CLR : Nat := 0xC41A
def ADC.CNT_CLR.CLEAR : Fld := ⟨ADC.CNT_CLR, 0, 1⟩
/-- ADC.STAT0–STAT8, words 0x020–0x028. -/
def ADC.STAT (i : Nat) : Nat := 0xC420 + i
def ADC.STAT.FAILED (i : Nat) : Fld := ⟨ADC.STAT i, 31, 1⟩
def ADC.STAT.CAUSE (i : Nat) : Fld := ⟨ADC.STAT i, 28, 3⟩
def ADC.STAT.OR_CNT (i : Nat) : Fld := ⟨ADC.STAT i, 0, 16⟩
/-- ADC.ACORR0–ACORR8, words 0x030–0x038. -/
def ADC.ACORR (i : Nat) : Nat := 0xC430 + i
def ADC.ACORR.AGAIN (i : Nat) : Fld := ⟨ADC.ACORR i, 16, 16⟩
def ADC.ACORR.AOFS (i : Nat) : Fld := ⟨ADC.ACORR i, 0, 16⟩
/-- ADC.CCORR0–CCORR383, words 0x100–0x27F. -/
def ADC.CCORR (i : Nat) : Nat := 0xC500 + i
def ADC.CCORR.CGAIN (i : Nat) : Fld := ⟨ADC.CCORR i, 16, 16⟩
def ADC.CCORR.COFS (i : Nat) : Fld := ⟨ADC.CCORR i, 0, 16⟩
/-- ACQ.MODE, word 0x010. -/
def ACQ.MODE : Nat := 0xC810
def ACQ.MODE.AVG : Fld := ⟨ACQ.MODE, 4, 4⟩
def ACQ.MODE.MODE : Fld := ⟨ACQ.MODE, 0, 2⟩
/-- ACQ.REC, word 0x011. -/
def ACQ.REC : Nat := 0xC811
def ACQ.REC.PRE : Fld := ⟨ACQ.REC, 16, 11⟩
def ACQ.REC.LEN : Fld := ⟨ACQ.REC, 0, 13⟩
/-- ACQ.HOLDOFF, word 0x012. -/
def ACQ.HOLDOFF : Nat := 0xC812
def ACQ.HOLDOFF.HOLDOFF : Fld := ⟨ACQ.HOLDOFF, 0, 24⟩
/-- ACQ.SRC_CFG0–7 and ACQ.SRC_PAR0–7, words 0x020 + 2n and 0x021 + 2n. -/
def ACQ.SRC_CFG (i : Nat) : Nat := 0xC820 + 2 * i
def ACQ.SRC_CFG.EN (i : Nat) : Fld := ⟨ACQ.SRC_CFG i, 31, 1⟩
def ACQ.SRC_CFG.TYPE (i : Nat) : Fld := ⟨ACQ.SRC_CFG i, 28, 3⟩
def ACQ.SRC_CFG.CH (i : Nat) : Fld := ⟨ACQ.SRC_CFG i, 16, 9⟩
def ACQ.SRC_CFG.GROUP (i : Nat) : Fld := ⟨ACQ.SRC_CFG i, 12, 2⟩
def ACQ.SRC_CFG.SLOT (i : Nat) : Fld := ⟨ACQ.SRC_CFG i, 6, 6⟩
/-- ACQ.SRC_CFG0–7 and ACQ.SRC_PAR0–7, words 0x020 + 2n and 0x021 + 2n. -/
def ACQ.SRC_PAR (i : Nat) : Nat := 0xC821 + 2 * i
def ACQ.SRC_PAR.PAR (i : Nat) : Fld := ⟨ACQ.SRC_PAR i, 0, 32⟩
/-- ACQ.BASE and ACQ.MWIN, words 0x030–0x031. -/
def ACQ.BASE : Nat := 0xC830
def ACQ.BASE.START : Fld := ⟨ACQ.BASE, 16, 16⟩
def ACQ.BASE.LENGTH : Fld := ⟨ACQ.BASE, 0, 13⟩
/-- ACQ.BASE and ACQ.MWIN, words 0x030–0x031. -/
def ACQ.MWIN : Nat := 0xC831
def ACQ.MWIN.START : Fld := ⟨ACQ.MWIN, 16, 16⟩
def ACQ.MWIN.LENGTH : Fld := ⟨ACQ.MWIN, 0, 13⟩
/-- ACQ.MEAS, word 0x032. -/
def ACQ.MEAS : Nat := 0xC832
def ACQ.MEAS.MEAS_EN : Fld := ⟨ACQ.MEAS, 31, 1⟩
def ACQ.MEAS.POL : Fld := ⟨ACQ.MEAS, 30, 1⟩
def ACQ.MEAS.MIN_AMP : Fld := ⟨ACQ.MEAS, 0, 16⟩
/-- ACQ.OUT, word 0x033. -/
def ACQ.OUT : Nat := 0xC833
def ACQ.OUT.WAVE_EN : Fld := ⟨ACQ.OUT, 31, 1⟩
def ACQ.OUT.LINK_EN : Fld := ⟨ACQ.OUT, 30, 1⟩
def ACQ.OUT.BANK : Fld := ⟨ACQ.OUT, 0, 5⟩
/-- ACQ.RR, word 0x034. -/
def ACQ.RR : Nat := 0xC834
def ACQ.RR.RR_EN : Fld := ⟨ACQ.RR, 31, 1⟩
def ACQ.RR.DWELL : Fld := ⟨ACQ.RR, 20, 8⟩
def ACQ.RR.HI : Fld := ⟨ACQ.RR, 10, 10⟩
def ACQ.RR.LO : Fld := ⟨ACQ.RR, 0, 10⟩
/-- ACQ.CMD, word 0x035. -/
def ACQ.CMD : Nat := 0xC835
def ACQ.CMD.CNT_CLR : Fld := ⟨ACQ.CMD, 2, 1⟩
def ACQ.CMD.FORCE : Fld := ⟨ACQ.CMD, 1, 1⟩
def ACQ.CMD.ARM : Fld := ⟨ACQ.CMD, 0, 1⟩
/-- ACQ.STATE, word 0x036. -/
def ACQ.STATE : Nat := 0xC836
def ACQ.STATE.STATE : Fld := ⟨ACQ.STATE, 28, 4⟩
def ACQ.STATE.STEP : Fld := ⟨ACQ.STATE, 24, 3⟩
def ACQ.STATE.AVG_N : Fld := ⟨ACQ.STATE, 8, 9⟩
/-- ACQ.RING_WR and ACQ.RING_RD, words 0x037–0x038. -/
def ACQ.RING_WR : Nat := 0xC837
def ACQ.RING_WR.FILL : Fld := ⟨ACQ.RING_WR, 16, 16⟩
def ACQ.RING_WR.PTR : Fld := ⟨ACQ.RING_WR, 0, 16⟩
/-- ACQ.RING_WR and ACQ.RING_RD, words 0x037–0x038. -/
def ACQ.RING_RD : Nat := 0xC838
def ACQ.RING_RD.PTR : Fld := ⟨ACQ.RING_RD, 0, 16⟩
/-- ACQ.CNT_A, ACQ.CNT_B and ACQ.CNT_C, words 0x039–0x03B. -/
def ACQ.CNT_A : Nat := 0xC839
def ACQ.CNT_A.MISSED : Fld := ⟨ACQ.CNT_A, 16, 16⟩
def ACQ.CNT_A.MULTI : Fld := ⟨ACQ.CNT_A, 0, 16⟩
/-- ACQ.CNT_A, ACQ.CNT_B and ACQ.CNT_C, words 0x039–0x03B. -/
def ACQ.CNT_B : Nat := 0xC83A
def ACQ.CNT_B.SKIPPED : Fld := ⟨ACQ.CNT_B, 16, 16⟩
def ACQ.CNT_B.RING_FULL : Fld := ⟨ACQ.CNT_B, 0, 16⟩
/-- ACQ.CNT_A, ACQ.CNT_B and ACQ.CNT_C, words 0x039–0x03B. -/
def ACQ.CNT_C : Nat := 0xC83B
def ACQ.CNT_C.RECORDS : Fld := ⟨ACQ.CNT_C, 0, 32⟩
/-- CAM.PHY, word 0x010. -/
def CAM.PHY (p : Nat) : Nat := 0x10010 + 0x400 * p
def CAM.PHY.CLK_POL (p : Nat) : Fld := ⟨CAM.PHY p, 28, 1⟩
def CAM.PHY.POL (p : Nat) : Fld := ⟨CAM.PHY p, 24, 4⟩
def CAM.PHY.HS_SETTLE (p : Nat) : Fld := ⟨CAM.PHY p, 16, 8⟩
def CAM.PHY.LANES (p : Nat) : Fld := ⟨CAM.PHY p, 12, 2⟩
def CAM.PHY.RATE (p : Nat) : Fld := ⟨CAM.PHY p, 0, 12⟩
/-- CAM.STREAM, word 0x011. -/
def CAM.STREAM (p : Nat) : Nat := 0x10011 + 0x400 * p
def CAM.STREAM.BANK (p : Nat) : Fld := ⟨CAM.STREAM p, 24, 5⟩
def CAM.STREAM.DT (p : Nat) : Fld := ⟨CAM.STREAM p, 16, 6⟩
def CAM.STREAM.VC (p : Nat) : Fld := ⟨CAM.STREAM p, 8, 4⟩
def CAM.STREAM.MODE (p : Nat) : Fld := ⟨CAM.STREAM p, 0, 2⟩
/-- CAM.GEOM and CAM.FORMAT, words 0x012–0x013. -/
def CAM.GEOM (p : Nat) : Nat := 0x10012 + 0x400 * p
def CAM.GEOM.HEIGHT (p : Nat) : Fld := ⟨CAM.GEOM p, 16, 16⟩
def CAM.GEOM.WIDTH (p : Nat) : Fld := ⟨CAM.GEOM p, 0, 16⟩
/-- CAM.GEOM and CAM.FORMAT, words 0x012–0x013. -/
def CAM.FORMAT (p : Nat) : Nat := 0x10013 + 0x400 * p
def CAM.FORMAT.MONO (p : Nat) : Fld := ⟨CAM.FORMAT p, 2, 1⟩
def CAM.FORMAT.CFA (p : Nat) : Fld := ⟨CAM.FORMAT p, 0, 2⟩
/-- CAM.FSYNC, word 0x014. -/
def CAM.FSYNC (p : Nat) : Nat := 0x10014 + 0x400 * p
def CAM.FSYNC.WIDTH (p : Nat) : Fld := ⟨CAM.FSYNC p, 24, 8⟩
def CAM.FSYNC.EN (p : Nat) : Fld := ⟨CAM.FSYNC p, 23, 1⟩
def CAM.FSYNC.POL (p : Nat) : Fld := ⟨CAM.FSYNC p, 22, 1⟩
def CAM.FSYNC.OFS (p : Nat) : Fld := ⟨CAM.FSYNC p, 0, 16⟩
/-- CAM.EXP_OFS and CAM.EXP, words 0x015–0x016. -/
def CAM.EXP_OFS (p : Nat) : Nat := 0x10015 + 0x400 * p
def CAM.EXP_OFS.EXP_OFS (p : Nat) : Fld := ⟨CAM.EXP_OFS p, 0, 20⟩
/-- CAM.EXP_OFS and CAM.EXP, words 0x015–0x016. -/
def CAM.EXP (p : Nat) : Nat := 0x10016 + 0x400 * p
def CAM.EXP.GAIN (p : Nat) : Fld := ⟨CAM.EXP p, 16, 12⟩
def CAM.EXP.EXP (p : Nat) : Fld := ⟨CAM.EXP p, 0, 16⟩
/-- CAM.AE and CAM.AE_LIM, words 0x017–0x018. -/
def CAM.AE (p : Nat) : Nat := 0x10017 + 0x400 * p
def CAM.AE.AUTO (p : Nat) : Fld := ⟨CAM.AE p, 31, 1⟩
def CAM.AE.TARGET (p : Nat) : Fld := ⟨CAM.AE p, 16, 8⟩
def CAM.AE.GAIN_MAX (p : Nat) : Fld := ⟨CAM.AE p, 0, 12⟩
/-- CAM.AE and CAM.AE_LIM, words 0x017–0x018. -/
def CAM.AE_LIM (p : Nat) : Nat := 0x10018 + 0x400 * p
def CAM.AE_LIM.EXP_MAX (p : Nat) : Fld := ⟨CAM.AE_LIM p, 16, 16⟩
def CAM.AE_LIM.EXP_MIN (p : Nat) : Fld := ⟨CAM.AE_LIM p, 0, 16⟩
/-- CAM.RELAY, word 0x019. -/
def CAM.RELAY (p : Nat) : Nat := 0x10019 + 0x400 * p
def CAM.RELAY.NENT (p : Nat) : Fld := ⟨CAM.RELAY p, 8, 4⟩
def CAM.RELAY.SPEED (p : Nat) : Fld := ⟨CAM.RELAY p, 4, 2⟩
def CAM.RELAY.LAT (p : Nat) : Fld := ⟨CAM.RELAY p, 0, 2⟩
/-- CAM.EGEN, CAM.FRAME and CAM.LAST, words 0x01A–0x01C. -/
def CAM.EGEN (p : Nat) : Nat := 0x1001A + 0x400 * p
def CAM.EGEN.EGEN_IN_FORCE (p : Nat) : Fld := ⟨CAM.EGEN p, 24, 8⟩
def CAM.EGEN.EGEN_RELAYED (p : Nat) : Fld := ⟨CAM.EGEN p, 16, 8⟩
def CAM.EGEN.PENDING (p : Nat) : Fld := ⟨CAM.EGEN p, 15, 1⟩
/-- CAM.EGEN, CAM.FRAME and CAM.LAST, words 0x01A–0x01C. -/
def CAM.FRAME (p : Nat) : Nat := 0x1001B + 0x400 * p
def CAM.FRAME.FRAME (p : Nat) : Fld := ⟨CAM.FRAME p, 0, 32⟩
/-- CAM.EGEN, CAM.FRAME and CAM.LAST, words 0x01A–0x01C. -/
def CAM.LAST (p : Nat) : Nat := 0x1001C + 0x400 * p
def CAM.LAST.SHORT (p : Nat) : Fld := ⟨CAM.LAST p, 31, 1⟩
def CAM.LAST.LONG (p : Nat) : Fld := ⟨CAM.LAST p, 30, 1⟩
def CAM.LAST.LINES (p : Nat) : Fld := ⟨CAM.LAST p, 0, 16⟩
/-- CAM.I2C_XFER, CAM.I2C_DATA and CAM.I2C_STAT, words 0x01D–0x01F. -/
def CAM.I2C_XFER (p : Nat) : Nat := 0x1001D + 0x400 * p
def CAM.I2C_XFER.GO (p : Nat) : Fld := ⟨CAM.I2C_XFER p, 31, 1⟩
def CAM.I2C_XFER.READ (p : Nat) : Fld := ⟨CAM.I2C_XFER p, 30, 1⟩
def CAM.I2C_XFER.DEV (p : Nat) : Fld := ⟨CAM.I2C_XFER p, 23, 7⟩
def CAM.I2C_XFER.REG16 (p : Nat) : Fld := ⟨CAM.I2C_XFER p, 22, 1⟩
def CAM.I2C_XFER.NBYTES_M1 (p : Nat) : Fld := ⟨CAM.I2C_XFER p, 20, 2⟩
def CAM.I2C_XFER.REG (p : Nat) : Fld := ⟨CAM.I2C_XFER p, 0, 16⟩
/-- CAM.I2C_XFER, CAM.I2C_DATA and CAM.I2C_STAT, words 0x01D–0x01F. -/
def CAM.I2C_DATA (p : Nat) : Nat := 0x1001E + 0x400 * p
def CAM.I2C_DATA.DATA (p : Nat) : Fld := ⟨CAM.I2C_DATA p, 0, 32⟩
/-- CAM.I2C_XFER, CAM.I2C_DATA and CAM.I2C_STAT, words 0x01D–0x01F. -/
def CAM.I2C_STAT (p : Nat) : Nat := 0x1001F + 0x400 * p
def CAM.I2C_STAT.TIMEOUT (p : Nat) : Fld := ⟨CAM.I2C_STAT p, 3, 1⟩
def CAM.I2C_STAT.NACK (p : Nat) : Fld := ⟨CAM.I2C_STAT p, 2, 1⟩
def CAM.I2C_STAT.DONE (p : Nat) : Fld := ⟨CAM.I2C_STAT p, 1, 1⟩
def CAM.I2C_STAT.BUSY (p : Nat) : Fld := ⟨CAM.I2C_STAT p, 0, 1⟩
/-- CAM.SCRIPT0–SCRIPT7, words 0x020 + 2k and 0x021 + 2k. -/
def CAM.SCRIPT (p i : Nat) : Nat := 0x10020 + 0x400 * p + 2 * i
def CAM.SCRIPT.EN (p i : Nat) : Fld := ⟨CAM.SCRIPT p i, 31, 1⟩
def CAM.SCRIPT.DEV (p i : Nat) : Fld := ⟨CAM.SCRIPT p i, 24, 7⟩
def CAM.SCRIPT.REG16 (p i : Nat) : Fld := ⟨CAM.SCRIPT p i, 23, 1⟩
def CAM.SCRIPT.SRC (p i : Nat) : Fld := ⟨CAM.SCRIPT p i, 20, 3⟩
def CAM.SCRIPT.REG (p i : Nat) : Fld := ⟨CAM.SCRIPT p i, 0, 16⟩
/-- CAM.SCRIPT0–SCRIPT7, words 0x020 + 2k and 0x021 + 2k. -/
def CAM.SCRIPT_CONST (p i : Nat) : Nat := 0x10021 + 0x400 * p + 2 * i
def CAM.SCRIPT_CONST.CONST (p i : Nat) : Fld := ⟨CAM.SCRIPT_CONST p i, 0, 16⟩
/-- CAM.ERR_A, CAM.ERR_B and CAM.ERR_C, words 0x030–0x032. -/
def CAM.ERR_A (p : Nat) : Nat := 0x10030 + 0x400 * p
def CAM.ERR_A.SOT (p : Nat) : Fld := ⟨CAM.ERR_A p, 24, 8⟩
def CAM.ERR_A.ECC_CORR (p : Nat) : Fld := ⟨CAM.ERR_A p, 16, 8⟩
def CAM.ERR_A.ECC_UNC (p : Nat) : Fld := ⟨CAM.ERR_A p, 8, 8⟩
def CAM.ERR_A.CRC (p : Nat) : Fld := ⟨CAM.ERR_A p, 0, 8⟩
/-- CAM.ERR_A, CAM.ERR_B and CAM.ERR_C, words 0x030–0x032. -/
def CAM.ERR_B (p : Nat) : Nat := 0x10031 + 0x400 * p
def CAM.ERR_B.VC_DROP (p : Nat) : Fld := ⟨CAM.ERR_B p, 24, 8⟩
def CAM.ERR_B.DT_DROP (p : Nat) : Fld := ⟨CAM.ERR_B p, 16, 8⟩
def CAM.ERR_B.LINE_ERR (p : Nat) : Fld := ⟨CAM.ERR_B p, 8, 8⟩
def CAM.ERR_B.OVERFLOW (p : Nat) : Fld := ⟨CAM.ERR_B p, 0, 8⟩
/-- CAM.ERR_A, CAM.ERR_B and CAM.ERR_C, words 0x030–0x032. -/
def CAM.ERR_C (p : Nat) : Nat := 0x10032 + 0x400 * p
def CAM.ERR_C.FRAME_SHORT (p : Nat) : Fld := ⟨CAM.ERR_C p, 16, 16⟩
def CAM.ERR_C.FRAME_LONG (p : Nat) : Fld := ⟨CAM.ERR_C p, 0, 16⟩
/-- CAM.CNT_CLR, word 0x033. -/
def CAM.CNT_CLR (p : Nat) : Nat := 0x10033 + 0x400 * p
def CAM.CNT_CLR.CLEAR (p : Nat) : Fld := ⟨CAM.CNT_CLR p, 0, 1⟩
/-- ISP.LOAD, word 0x010. -/
def ISP.LOAD : Nat := 0x11010
def ISP.LOAD.PEAK : Fld := ⟨ISP.LOAD, 16, 8⟩
def ISP.LOAD.INLINE : Fld := ⟨ISP.LOAD, 0, 3⟩
/-- ISP port blocks, words 0x040 + 0x20p + i. -/
def ISP.CTL (i : Nat) : Nat := 0x11040 + 32 * i
def ISP.CTL.DYN_THR (i : Nat) : Fld := ⟨ISP.CTL i, 20, 12⟩
def ISP.CTL.STATS_EN (i : Nat) : Fld := ⟨ISP.CTL i, 9, 1⟩
def ISP.CTL.DPC_DYN (i : Nat) : Fld := ⟨ISP.CTL i, 8, 1⟩
def ISP.CTL.DPC_STATIC (i : Nat) : Fld := ⟨ISP.CTL i, 7, 1⟩
def ISP.CTL.OUT_FMT (i : Nat) : Fld := ⟨ISP.CTL i, 0, 2⟩
/-- ISP port blocks, words 0x040 + 0x20p + i. -/
def ISP.BL (i j : Nat) : Nat := 0x11041 + 32 * i + j
def ISP.BL.BL_HI (i j : Nat) : Fld := ⟨ISP.BL i j, 16, 16⟩
def ISP.BL.BL_LO (i j : Nat) : Fld := ⟨ISP.BL i j, 0, 16⟩
/-- ISP port blocks, words 0x040 + 0x20p + i. -/
def ISP.GAIN_GR (i : Nat) : Nat := 0x11043 + 32 * i
def ISP.GAIN_GR.GAIN_G (i : Nat) : Fld := ⟨ISP.GAIN_GR i, 16, 16⟩
def ISP.GAIN_GR.GAIN_R (i : Nat) : Fld := ⟨ISP.GAIN_GR i, 0, 16⟩
/-- ISP port blocks, words 0x040 + 0x20p + i. -/
def ISP.GAIN_B (i : Nat) : Nat := 0x11044 + 32 * i
def ISP.GAIN_B.GAIN_B (i : Nat) : Fld := ⟨ISP.GAIN_B i, 0, 16⟩
/-- ISP port blocks, words 0x040 + 0x20p + i. -/
def ISP.M0 (i : Nat) : Nat := 0x11045 + 32 * i
def ISP.M0.M (i : Nat) : Fld := ⟨ISP.M0 i, 0, 16⟩
/-- ISP port blocks, words 0x040 + 0x20p + i. -/
def ISP.M1 (i : Nat) : Nat := 0x11046 + 32 * i
def ISP.M1.M (i : Nat) : Fld := ⟨ISP.M1 i, 0, 16⟩
/-- ISP port blocks, words 0x040 + 0x20p + i. -/
def ISP.M2 (i : Nat) : Nat := 0x11047 + 32 * i
def ISP.M2.M (i : Nat) : Fld := ⟨ISP.M2 i, 0, 16⟩
/-- ISP port blocks, words 0x040 + 0x20p + i. -/
def ISP.M3 (i : Nat) : Nat := 0x11048 + 32 * i
def ISP.M3.M (i : Nat) : Fld := ⟨ISP.M3 i, 0, 16⟩
/-- ISP port blocks, words 0x040 + 0x20p + i. -/
def ISP.M4 (i : Nat) : Nat := 0x11049 + 32 * i
def ISP.M4.M (i : Nat) : Fld := ⟨ISP.M4 i, 0, 16⟩
/-- ISP port blocks, words 0x040 + 0x20p + i. -/
def ISP.M5 (i : Nat) : Nat := 0x1104A + 32 * i
def ISP.M5.M (i : Nat) : Fld := ⟨ISP.M5 i, 0, 16⟩
/-- ISP port blocks, words 0x040 + 0x20p + i. -/
def ISP.M6 (i : Nat) : Nat := 0x1104B + 32 * i
def ISP.M6.M (i : Nat) : Fld := ⟨ISP.M6 i, 0, 16⟩
/-- ISP port blocks, words 0x040 + 0x20p + i. -/
def ISP.M7 (i : Nat) : Nat := 0x1104C + 32 * i
def ISP.M7.M (i : Nat) : Fld := ⟨ISP.M7 i, 0, 16⟩
/-- ISP port blocks, words 0x040 + 0x20p + i. -/
def ISP.M8 (i : Nat) : Nat := 0x1104D + 32 * i
def ISP.M8.M (i : Nat) : Fld := ⟨ISP.M8 i, 0, 16⟩
/-- ISP port blocks, words 0x040 + 0x20p + i. -/
def ISP.SAT_THR (i : Nat) : Nat := 0x1104E + 32 * i
def ISP.SAT_THR.SAT_THR (i : Nat) : Fld := ⟨ISP.SAT_THR i, 0, 16⟩
/-- ISP port blocks, words 0x040 + 0x20p + i. -/
def ISP.AE_W (i j : Nat) : Nat := 0x11050 + 32 * i + j
def ISP.AE_W.AE_W (i j : Nat) : Fld := ⟨ISP.AE_W i j, 0, 32⟩
/-- ISP gamma tables, words 0x100 + 0x40p + i. -/
def ISP.GAMMA (i j : Nat) : Nat := 0x11100 + 64 * i + j
def ISP.GAMMA.ENTRY (i j : Nat) : Fld := ⟨ISP.GAMMA i j, 0, 12⟩
/-- ISP defect tables, words 0x200 + 0x80p + j. -/
def ISP.DEFECT (i j : Nat) : Nat := 0x11200 + 128 * i + j
def ISP.DEFECT.EN (i j : Nat) : Fld := ⟨ISP.DEFECT i j, 31, 1⟩
def ISP.DEFECT.ROW (i j : Nat) : Fld := ⟨ISP.DEFECT i j, 16, 12⟩
def ISP.DEFECT.COL (i j : Nat) : Fld := ⟨ISP.DEFECT i j, 0, 12⟩
/-- ZONE.PROJ to ZONE.OVL, words 0x010–0x015. -/
def ZONE.PROJ : Nat := 0xEC10
def ZONE.PROJ.CONF_MIN : Fld := ⟨ZONE.PROJ, 16, 8⟩
def ZONE.PROJ.DEC : Fld := ⟨ZONE.PROJ, 8, 3⟩
def ZONE.PROJ.RASTER_EN : Fld := ⟨ZONE.PROJ, 4, 4⟩
def ZONE.PROJ.CAM_EN : Fld := ⟨ZONE.PROJ, 0, 4⟩
/-- ZONE.PROJ to ZONE.OVL, words 0x010–0x015. -/
def ZONE.RBANK : Nat := 0xEC11
def ZONE.RBANK.RBANK3 : Fld := ⟨ZONE.RBANK, 24, 5⟩
def ZONE.RBANK.RBANK2 : Fld := ⟨ZONE.RBANK, 16, 5⟩
def ZONE.RBANK.RBANK1 : Fld := ⟨ZONE.RBANK, 8, 5⟩
def ZONE.RBANK.RBANK0 : Fld := ⟨ZONE.RBANK, 0, 5⟩
/-- ZONE.PROJ to ZONE.OVL, words 0x010–0x015. -/
def ZONE.GEOM : Nat := 0xEC12
def ZONE.GEOM.AZ_STEP : Fld := ⟨ZONE.GEOM, 16, 16⟩
def ZONE.GEOM.AZ0 : Fld := ⟨ZONE.GEOM, 0, 16⟩
/-- ZONE.PROJ to ZONE.OVL, words 0x010–0x015. -/
def ZONE.ZCFG : Nat := 0xEC13
def ZONE.ZCFG.CLASS_MASK : Fld := ⟨ZONE.ZCFG, 24, 8⟩
def ZONE.ZCFG.CONF_MIN : Fld := ⟨ZONE.ZCFG, 16, 8⟩
def ZONE.ZCFG.UNK_MAX : Fld := ⟨ZONE.ZCFG, 0, 16⟩
/-- ZONE.PROJ to ZONE.OVL, words 0x010–0x015. -/
def ZONE.BID : Nat := 0xEC14
def ZONE.BID.EN : Fld := ⟨ZONE.BID, 31, 1⟩
def ZONE.BID.SHOTS : Fld := ⟨ZONE.BID, 24, 6⟩
def ZONE.BID.HANDS : Fld := ⟨ZONE.BID, 20, 4⟩
/-- ZONE.PROJ to ZONE.OVL, words 0x010–0x015. -/
def ZONE.OVL : Nat := 0xEC15
def ZONE.OVL.PORTS : Fld := ⟨ZONE.OVL, 28, 4⟩
def ZONE.OVL.ALPHA : Fld := ⟨ZONE.OVL, 0, 8⟩
/-- ZONE.DROP and ZONE.CNT_CLR, words 0x016–0x017. -/
def ZONE.DROP : Nat := 0xEC16
def ZONE.DROP.LATE : Fld := ⟨ZONE.DROP, 16, 16⟩
def ZONE.DROP.EARLY : Fld := ⟨ZONE.DROP, 0, 16⟩
/-- ZONE.DROP and ZONE.CNT_CLR, words 0x016–0x017. -/
def ZONE.CNT_CLR : Nat := 0xEC17
def ZONE.CNT_CLR.CLEAR : Fld := ⟨ZONE.CNT_CLR, 0, 1⟩
/-- ZONE.OUTMAP, ZONE.OCC and ZONE.UNK, words 0x018–0x023. -/
def ZONE.OUTMAP (i : Nat) : Nat := 0xEC18 + i
def ZONE.OUTMAP.MAP (i : Nat) : Fld := ⟨ZONE.OUTMAP i, 0, 32⟩
/-- ZONE.OUTMAP, ZONE.OCC and ZONE.UNK, words 0x018–0x023. -/
def ZONE.OCC (i : Nat) : Nat := 0xEC20 + i
def ZONE.OCC.OCC (i : Nat) : Fld := ⟨ZONE.OCC i, 0, 32⟩
/-- ZONE.OUTMAP, ZONE.OCC and ZONE.UNK, words 0x018–0x023. -/
def ZONE.UNK (i : Nat) : Nat := 0xEC22 + i
def ZONE.UNK.UNK (i : Nat) : Fld := ⟨ZONE.UNK i, 0, 32⟩
/-- ZONE.BAND0–BAND15, words 0x030–0x03F. -/
def ZONE.BAND (i : Nat) : Nat := 0xEC30 + i
def ZONE.BAND.LIMIT (i : Nat) : Fld := ⟨ZONE.BAND i, 16, 9⟩
def ZONE.BAND.COLOUR (i : Nat) : Fld := ⟨ZONE.BAND i, 0, 16⟩
/-- ZONE.DIR0–DIR383, words 0x100–0x27F. -/
def ZONE.DIR (i : Nat) : Nat := 0xED00 + i
def ZONE.DIR.EL (i : Nat) : Fld := ⟨ZONE.DIR i, 16, 16⟩
def ZONE.DIR.AZ_OFS (i : Nat) : Fld := ⟨ZONE.DIR i, 0, 16⟩
/-- ZONE camera models, words 0x280 + 16p + i. -/
def ZONE.CM (i j : Nat) : Nat := 0xEE80 + 16 * i + j
def ZONE.CM.M (i j : Nat) : Fld := ⟨ZONE.CM i j, 0, 24⟩
/-- ZONE camera models, words 0x280 + 16p + i. -/
def ZONE.CT (i j : Nat) : Nat := 0xEE89 + 16 * i + j
def ZONE.CT.T (i j : Nat) : Fld := ⟨ZONE.CT i j, 0, 32⟩
/-- ZONE camera models, words 0x280 + 16p + i. -/
def ZONE.CF (i j : Nat) : Nat := 0xEE8C + 16 * i + j
def ZONE.CF.F (i j : Nat) : Fld := ⟨ZONE.CF i j, 0, 24⟩
/-- ZONE camera models, words 0x280 + 16p + i. -/
def ZONE.CC (i : Nat) : Nat := 0xEE8E + 16 * i
def ZONE.CC.CX (i : Nat) : Fld := ⟨ZONE.CC i, 16, 16⟩
def ZONE.CC.CY (i : Nat) : Fld := ⟨ZONE.CC i, 0, 16⟩
/-- ZONE camera models, words 0x280 + 16p + i. -/
def ZONE.CK (i : Nat) : Nat := 0xEE8F + 16 * i
def ZONE.CK.K1 (i : Nat) : Fld := ⟨ZONE.CK i, 16, 16⟩
def ZONE.CK.K2 (i : Nat) : Fld := ⟨ZONE.CK i, 0, 16⟩
/-- ZONE zone words, words 0x2C0 + 2z and 0x2C1 + 2z. -/
def ZONE.ZA (i : Nat) : Nat := 0xEEC0 + 2 * i
def ZONE.ZA.EN (i : Nat) : Fld := ⟨ZONE.ZA i, 31, 1⟩
def ZONE.ZA.BID_EN (i : Nat) : Fld := ⟨ZONE.ZA i, 30, 1⟩
def ZONE.ZA.FIRST (i : Nat) : Fld := ⟨ZONE.ZA i, 22, 8⟩
def ZONE.ZA.NVERT_M1 (i : Nat) : Fld := ⟨ZONE.ZA i, 18, 4⟩
def ZONE.ZA.MIN_PTS (i : Nat) : Fld := ⟨ZONE.ZA i, 8, 8⟩
def ZONE.ZA.ONSET (i : Nat) : Fld := ⟨ZONE.ZA i, 4, 4⟩
def ZONE.ZA.CLEAR (i : Nat) : Fld := ⟨ZONE.ZA i, 0, 4⟩
/-- ZONE zone words, words 0x2C0 + 2z and 0x2C1 + 2z. -/
def ZONE.ZB (i : Nat) : Nat := 0xEEC1 + 2 * i
def ZONE.ZB.ZMIN (i : Nat) : Fld := ⟨ZONE.ZB i, 16, 16⟩
def ZONE.ZB.ZMAX (i : Nat) : Fld := ⟨ZONE.ZB i, 0, 16⟩
/-- ZONE.VERT0–VERT191, words 0x340–0x3FF. -/
def ZONE.VERT (i : Nat) : Nat := 0xEF40 + i
def ZONE.VERT.X (i : Nat) : Fld := ⟨ZONE.VERT i, 16, 16⟩
def ZONE.VERT.Y (i : Nat) : Fld := ⟨ZONE.VERT i, 0, 16⟩
/-- TAB.STATUS, word 0x002. -/
def TAB.STATUS : Nat := 0x12002
def TAB.STATUS.ACTIVE : Fld := ⟨TAB.STATUS, 31, 1⟩
def TAB.STATUS.NARROW : Fld := ⟨TAB.STATUS, 3, 1⟩
def TAB.STATUS.LINK_UP : Fld := ⟨TAB.STATUS, 2, 1⟩
def TAB.STATUS.TX_STATE : Fld := ⟨TAB.STATUS, 0, 2⟩
/-- TAB.TX_MAP, word 0x010. -/
def TAB.TX_MAP : Nat := 0x12010
def TAB.TX_MAP.MAP : Fld := ⟨TAB.TX_MAP, 0, 32⟩
/-- TAB.TX_STAT, word 0x011. -/
def TAB.TX_STAT : Nat := 0x12011
def TAB.TX_STAT.FAILED : Fld := ⟨TAB.TX_STAT, 16, 9⟩
def TAB.TX_STAT.SPARE : Fld := ⟨TAB.TX_STAT, 12, 4⟩
def TAB.TX_STAT.RETEST : Fld := ⟨TAB.TX_STAT, 0, 9⟩
/-- TAB.TX_CTRL, word 0x012. -/
def TAB.TX_CTRL : Nat := 0x12012
def TAB.TX_CTRL.FORCE : Fld := ⟨TAB.TX_CTRL, 13, 1⟩
def TAB.TX_CTRL.LANE : Fld := ⟨TAB.TX_CTRL, 9, 4⟩
def TAB.TX_CTRL.TX_CLR : Fld := ⟨TAB.TX_CTRL, 0, 9⟩
/-- TAB.CFG, word 0x013. -/
def TAB.CFG : Nat := 0x12013
def TAB.CFG.LINK_TMO : Fld := ⟨TAB.CFG, 16, 16⟩
def TAB.CFG.HOSTREP_EN : Fld := ⟨TAB.CFG, 4, 1⟩
def TAB.CFG.RX_MODE : Fld := ⟨TAB.CFG, 0, 2⟩
/-- TAB.RX_STAT, word 0x014. -/
def TAB.RX_STAT : Nat := 0x12014
def TAB.RX_STAT.B : Fld := ⟨TAB.RX_STAT, 8, 5⟩
def TAB.RX_STAT.A : Fld := ⟨TAB.RX_STAT, 0, 5⟩
/-- TAB.HB, word 0x015. -/
def TAB.HB : Nat := 0x12015
def TAB.HB.HB_TMO : Fld := ⟨TAB.HB, 16, 16⟩
def TAB.HB.HB_INT : Fld := ⟨TAB.HB, 0, 16⟩
/-- TAB.HOST, word 0x016. -/
def TAB.HOST : Nat := 0x12016
def TAB.HOST.HOST_LOST : Fld := ⟨TAB.HOST, 31, 1⟩
def TAB.HOST.REACT : Fld := ⟨TAB.HOST, 0, 2⟩
/-- TAB.HOST_COUNT, word 0x017. -/
def TAB.HOST_COUNT : Nat := 0x12017
def TAB.HOST_COUNT.COUNT : Fld := ⟨TAB.HOST_COUNT, 0, 32⟩
/-- TAB.PRBS_TX, word 0x018. -/
def TAB.PRBS_TX : Nat := 0x12018
def TAB.PRBS_TX.SEL : Fld := ⟨TAB.PRBS_TX, 0, 27⟩
/-- TAB.PRBS_RX, word 0x019. -/
def TAB.PRBS_RX : Nat := 0x12019
def TAB.PRBS_RX.LOCK_B : Fld := ⟨TAB.PRBS_RX, 7, 1⟩
def TAB.PRBS_RX.SEL_B : Fld := ⟨TAB.PRBS_RX, 4, 3⟩
def TAB.PRBS_RX.LOCK_A : Fld := ⟨TAB.PRBS_RX, 3, 1⟩
def TAB.PRBS_RX.SEL_A : Fld := ⟨TAB.PRBS_RX, 0, 3⟩
/-- TAB.INJECT, word 0x01A. -/
def TAB.INJECT : Nat := 0x1201A
def TAB.INJECT.CLASS : Fld := ⟨TAB.INJECT, 12, 2⟩
def TAB.INJECT.CRC : Fld := ⟨TAB.INJECT, 11, 1⟩
def TAB.INJECT.SYNC : Fld := ⟨TAB.INJECT, 10, 1⟩
def TAB.INJECT.BIT : Fld := ⟨TAB.INJECT, 0, 9⟩
/-- TAB.PRBS_ERR_A and TAB.PRBS_ERR_B, words 0x01B–0x01C. -/
def TAB.PRBS_ERR (i : Nat) : Nat := 0x1201B + i
def TAB.PRBS_ERR.COUNT (i : Nat) : Fld := ⟨TAB.PRBS_ERR i, 0, 32⟩
/-- TAB.DROP, word 0x01D. -/
def TAB.DROP : Nat := 0x1201D
def TAB.DROP.C : Fld := ⟨TAB.DROP, 16, 16⟩
def TAB.DROP.D : Fld := ⟨TAB.DROP, 0, 16⟩
/-- TAB.RX_CNT, word 0x01E. -/
def TAB.RX_CNT : Nat := 0x1201E
def TAB.RX_CNT.CRC : Fld := ⟨TAB.RX_CNT, 24, 8⟩
def TAB.RX_CNT.BAD_DT : Fld := ⟨TAB.RX_CNT, 16, 8⟩
def TAB.RX_CNT.CTRL_BAD : Fld := ⟨TAB.RX_CNT, 8, 8⟩
def TAB.RX_CNT.B_ONLY : Fld := ⟨TAB.RX_CNT, 0, 8⟩
/-- TAB.LINK_CNT, word 0x01F. -/
def TAB.LINK_CNT : Nat := 0x1201F
def TAB.LINK_CNT.FAILOVERS : Fld := ⟨TAB.LINK_CNT, 24, 8⟩
def TAB.LINK_CNT.HOST_LOST : Fld := ⟨TAB.LINK_CNT, 16, 8⟩
def TAB.LINK_CNT.LOL_A : Fld := ⟨TAB.LINK_CNT, 8, 8⟩
def TAB.LINK_CNT.LOL_B : Fld := ⟨TAB.LINK_CNT, 0, 8⟩
/-- TAB.QFILL, word 0x020. -/
def TAB.QFILL : Nat := 0x12020
def TAB.QFILL.A : Fld := ⟨TAB.QFILL, 24, 8⟩
def TAB.QFILL.B : Fld := ⟨TAB.QFILL, 16, 8⟩
def TAB.QFILL.C : Fld := ⟨TAB.QFILL, 8, 8⟩
def TAB.QFILL.D : Fld := ⟨TAB.QFILL, 0, 8⟩
/-- TAB.CNT_CLR, word 0x021. -/
def TAB.CNT_CLR : Nat := 0x12021
def TAB.CNT_CLR.CLEAR : Fld := ⟨TAB.CNT_CLR, 0, 1⟩
/-- BANK.OWN0–OWN31, words 0x010–0x02F. -/
def BANK.OWN (i : Nat) : Nat := 0x3410 + i
def BANK.OWN.PREV (i : Nat) : Fld := ⟨BANK.OWN i, 16, 4⟩
def BANK.OWN.RECLAIMED (i : Nat) : Fld := ⟨BANK.OWN i, 9, 1⟩
def BANK.OWN.OPEN (i : Nat) : Fld := ⟨BANK.OWN i, 8, 1⟩
def BANK.OWN.OWNER (i : Nat) : Fld := ⟨BANK.OWN i, 0, 4⟩
/-- BANK.CFG, word 0x030. -/
def BANK.CFG : Nat := 0x3430
def BANK.CFG.OWN_TIMEOUT : Fld := ⟨BANK.CFG, 16, 8⟩
def BANK.CFG.SCRUB_EN : Fld := ⟨BANK.CFG, 0, 1⟩
/-- BANK.ECC_CNT, word 0x031. -/
def BANK.ECC_CNT : Nat := 0x3431
def BANK.ECC_CNT.CORR : Fld := ⟨BANK.ECC_CNT, 16, 16⟩
def BANK.ECC_CNT.UNC : Fld := ⟨BANK.ECC_CNT, 0, 16⟩
/-- BANK.ECC_LAST, word 0x032. -/
def BANK.ECC_LAST : Nat := 0x3432
def BANK.ECC_LAST.UNC : Fld := ⟨BANK.ECC_LAST, 31, 1⟩
def BANK.ECC_LAST.BANK : Fld := ⟨BANK.ECC_LAST, 16, 5⟩
def BANK.ECC_LAST.WORD : Fld := ⟨BANK.ECC_LAST, 0, 16⟩
/-- BANK.RECLAIM, word 0x033. -/
def BANK.RECLAIM : Nat := 0x3433
def BANK.RECLAIM.COUNT : Fld := ⟨BANK.RECLAIM, 16, 16⟩
def BANK.RECLAIM.DISCARDED : Fld := ⟨BANK.RECLAIM, 0, 16⟩
/-- BANK.CNT_CLR, word 0x034. -/
def BANK.CNT_CLR : Nat := 0x3434
def BANK.CNT_CLR.CLEAR : Fld := ⟨BANK.CNT_CLR, 0, 1⟩
/-- BANK.DROP, word 0x035. -/
def BANK.DROP : Nat := 0x3435
def BANK.DROP.COUNT : Fld := ⟨BANK.DROP, 0, 32⟩
/-- BANK.REPAIR0–REPAIR7, words 0x038–0x03F. -/
def BANK.REPAIR (i : Nat) : Nat := 0x3438 + i
def BANK.REPAIR.REPAIR (i : Nat) : Fld := ⟨BANK.REPAIR i, 0, 32⟩
/-- SUPV.STATUS, word 0x002. -/
def SUPV.STATUS : Nat := 0x1C02
def SUPV.STATUS.ACTIVE : Fld := ⟨SUPV.STATUS, 31, 1⟩
def SUPV.STATUS.PAUSED : Fld := ⟨SUPV.STATUS, 2, 1⟩
def SUPV.STATUS.PERMIT : Fld := ⟨SUPV.STATUS, 1, 1⟩
def SUPV.STATUS.RUNNING : Fld := ⟨SUPV.STATUS, 0, 1⟩
/-- SUPV.CFG, word 0x010. -/
def SUPV.CFG : Nat := 0x1C10
def SUPV.CFG.GUARD : Fld := ⟨SUPV.CFG, 24, 8⟩
def SUPV.CFG.COMPARE_DIV : Fld := ⟨SUPV.CFG, 0, 12⟩
/-- SUPV.DIAG, word 0x011. -/
def SUPV.DIAG : Nat := 0x1C11
def SUPV.DIAG.FAIL : Fld := ⟨SUPV.DIAG, 1, 12⟩
/-- SUPV.CMP and SUPV.LAST, words 0x012–0x013. -/
def SUPV.CMP : Nat := 0x1C12
def SUPV.CMP.COMPARED : Fld := ⟨SUPV.CMP, 16, 16⟩
def SUPV.CMP.DELAYED : Fld := ⟨SUPV.CMP, 8, 8⟩
def SUPV.CMP.MISMATCH : Fld := ⟨SUPV.CMP, 0, 8⟩
/-- SUPV.CMP and SUPV.LAST, words 0x012–0x013. -/
def SUPV.LAST : Nat := 0x1C13
def SUPV.LAST.NUM : Fld := ⟨SUPV.LAST, 24, 8⟩
def SUPV.LAST.DETAIL : Fld := ⟨SUPV.LAST, 0, 24⟩
/-- SUPV.CNT_CLR, word 0x014. -/
def SUPV.CNT_CLR : Nat := 0x1C14
def SUPV.CNT_CLR.CLEAR : Fld := ⟨SUPV.CNT_CLR, 0, 1⟩
/-- SAFE.STATUS, word 0x002. -/
def SAFE.STATUS : Nat := 0x2002
def SAFE.STATUS.ACTIVE : Fld := ⟨SAFE.STATUS, 31, 1⟩
def SAFE.STATUS.SET : Fld := ⟨SAFE.STATUS, 8, 3⟩
def SAFE.STATUS.CODE_OK : Fld := ⟨SAFE.STATUS, 7, 1⟩
def SAFE.STATUS.RESTART_REQ : Fld := ⟨SAFE.STATUS, 6, 1⟩
def SAFE.STATUS.OUT : Fld := ⟨SAFE.STATUS, 4, 2⟩
def SAFE.STATUS.PERMIT : Fld := ⟨SAFE.STATUS, 3, 1⟩
def SAFE.STATUS.FIELD_BEARING : Fld := ⟨SAFE.STATUS, 2, 1⟩
def SAFE.STATUS.MODE : Fld := ⟨SAFE.STATUS, 0, 1⟩
/-- SAFE.SIN0–SIN7, words 0x010–0x017. -/
def SAFE.SIN (i : Nat) : Nat := 0x2010 + i
def SAFE.SIN.POL (i : Nat) : Fld := ⟨SAFE.SIN i, 8, 1⟩
def SAFE.SIN.TEST (i : Nat) : Fld := ⟨SAFE.SIN i, 4, 3⟩
def SAFE.SIN.FUNC (i : Nat) : Fld := ⟨SAFE.SIN i, 0, 4⟩
/-- SAFE.FUNC, word 0x018. -/
def SAFE.FUNC : Nat := 0x2018
def SAFE.FUNC.STAT_INT : Fld := ⟨SAFE.FUNC, 8, 8⟩
def SAFE.FUNC.EDM_EN : Fld := ⟨SAFE.FUNC, 2, 1⟩
def SAFE.FUNC.START_IL : Fld := ⟨SAFE.FUNC, 1, 1⟩
def SAFE.FUNC.RESTART : Fld := ⟨SAFE.FUNC, 0, 1⟩
/-- SAFE.TIMES and SAFE.PULSE, words 0x019–0x01A. -/
def SAFE.TIMES : Nat := 0x2019
def SAFE.TIMES.EDM_T : Fld := ⟨SAFE.TIMES, 20, 12⟩
def SAFE.TIMES.DISC_T : Fld := ⟨SAFE.TIMES, 8, 12⟩
def SAFE.TIMES.IN_FILT : Fld := ⟨SAFE.TIMES, 0, 8⟩
/-- SAFE.TIMES and SAFE.PULSE, words 0x019–0x01A. -/
def SAFE.PULSE : Nat := 0x201A
def SAFE.PULSE.STP_P : Fld := ⟨SAFE.PULSE, 24, 8⟩
def SAFE.PULSE.STP_W : Fld := ⟨SAFE.PULSE, 16, 8⟩
def SAFE.PULSE.OP_P : Fld := ⟨SAFE.PULSE, 8, 8⟩
def SAFE.PULSE.OP_W : Fld := ⟨SAFE.PULSE, 0, 8⟩
/-- SAFE.IN and SAFE.FSTAT, words 0x01B–0x01C. -/
def SAFE.IN : Nat := 0x201B
def SAFE.IN.SFB1 : Fld := ⟨SAFE.IN, 25, 1⟩
def SAFE.IN.SFB0 : Fld := ⟨SAFE.IN, 24, 1⟩
def SAFE.IN.FILTERED : Fld := ⟨SAFE.IN, 8, 8⟩
def SAFE.IN.SAMPLED : Fld := ⟨SAFE.IN, 0, 8⟩
/-- SAFE.IN and SAFE.FSTAT, words 0x01B–0x01C. -/
def SAFE.FSTAT : Nat := 0x201C
def SAFE.FSTAT.ESTOP : Fld := ⟨SAFE.FSTAT, 0, 3⟩
def SAFE.FSTAT.GUARD : Fld := ⟨SAFE.FSTAT, 3, 3⟩
def SAFE.FSTAT.TWOHAND : Fld := ⟨SAFE.FSTAT, 6, 3⟩
def SAFE.FSTAT.CURTAIN : Fld := ⟨SAFE.FSTAT, 9, 3⟩
def SAFE.FSTAT.CODE : Fld := ⟨SAFE.FSTAT, 12, 3⟩
def SAFE.FSTAT.EDM : Fld := ⟨SAFE.FSTAT, 15, 3⟩
def SAFE.FSTAT.OUTTEST : Fld := ⟨SAFE.FSTAT, 18, 3⟩
/-- SAFE.CRC, SAFE.CONFIRM and SAFE.CMD, words 0x01D–0x01F. -/
def SAFE.CRC : Nat := 0x201D
def SAFE.CRC.CRC : Fld := ⟨SAFE.CRC, 0, 32⟩
/-- SAFE.CRC, SAFE.CONFIRM and SAFE.CMD, words 0x01D–0x01F. -/
def SAFE.CONFIRM : Nat := 0x201E
def SAFE.CONFIRM.CONFIRM : Fld := ⟨SAFE.CONFIRM, 0, 32⟩
/-- SAFE.CRC, SAFE.CONFIRM and SAFE.CMD, words 0x01D–0x01F. -/
def SAFE.CMD : Nat := 0x201F
def SAFE.CMD.CMD : Fld := ⟨SAFE.CMD, 0, 2⟩
/-- SAFE.PW0–PW2, words 0x020–0x022. -/
def SAFE.PW (i : Nat) : Nat := 0x2020 + i
def SAFE.PW.CHARS (i : Nat) : Fld := ⟨SAFE.PW i, 0, 32⟩
/-- SAFE.PW_CTRL, word 0x023. -/
def SAFE.PW_CTRL : Nat := 0x2023
def SAFE.PW_CTRL.USER : Fld := ⟨SAFE.PW_CTRL, 16, 16⟩
def SAFE.PW_CTRL.LEN : Fld := ⟨SAFE.PW_CTRL, 8, 4⟩
def SAFE.PW_CTRL.OP : Fld := ⟨SAFE.PW_CTRL, 0, 2⟩
/-- SAFE.LOCK_TMO, word 0x024. -/
def SAFE.LOCK_TMO : Nat := 0x2024
def SAFE.LOCK_TMO.MINUTES : Fld := ⟨SAFE.LOCK_TMO, 0, 8⟩
/-- SAFE.PW_STAT, SAFE.LOG, SAFE.RESP and SAFE.CNT, words 0x025–0x028. -/
def SAFE.PW_STAT : Nat := 0x2025
def SAFE.PW_STAT.STORED : Fld := ⟨SAFE.PW_STAT, 31, 1⟩
def SAFE.PW_STAT.BUSY : Fld := ⟨SAFE.PW_STAT, 30, 1⟩
def SAFE.PW_STAT.BLOCK_S : Fld := ⟨SAFE.PW_STAT, 16, 8⟩
def SAFE.PW_STAT.ATTEMPTS : Fld := ⟨SAFE.PW_STAT, 0, 2⟩
/-- SAFE.PW_STAT, SAFE.LOG, SAFE.RESP and SAFE.CNT, words 0x025–0x028. -/
def SAFE.LOG : Nat := 0x2026
def SAFE.LOG.SEQ : Fld := ⟨SAFE.LOG, 0, 32⟩
/-- SAFE.PW_STAT, SAFE.LOG, SAFE.RESP and SAFE.CNT, words 0x025–0x028. -/
def SAFE.RESP : Nat := 0x2027
def SAFE.RESP.FIELD_RESP : Fld := ⟨SAFE.RESP, 16, 16⟩
def SAFE.RESP.INPUT_RESP : Fld := ⟨SAFE.RESP, 0, 16⟩
/-- SAFE.PW_STAT, SAFE.LOG, SAFE.RESP and SAFE.CNT, words 0x025–0x028. -/
def SAFE.CNT : Nat := 0x2028
def SAFE.CNT.DEMANDS : Fld := ⟨SAFE.CNT, 16, 16⟩
def SAFE.CNT.LOCKOUTS : Fld := ⟨SAFE.CNT, 0, 16⟩
/-- SAFE.CNT_CLR, word 0x029. -/
def SAFE.CNT_CLR : Nat := 0x2029
def SAFE.CNT_CLR.CLEAR : Fld := ⟨SAFE.CNT_CLR, 0, 1⟩
/-- FIELD.CFG, word 0x010. -/
def FIELD.CFG : Nat := 0x2410
def FIELD.CFG.BLIND_MAX : Fld := ⟨FIELD.CFG, 24, 8⟩
def FIELD.CFG.CLASS_MASK : Fld := ⟨FIELD.CFG, 16, 8⟩
def FIELD.CFG.CONF_MIN : Fld := ⟨FIELD.CFG, 8, 8⟩
def FIELD.CFG.N_SCAN : Fld := ⟨FIELD.CFG, 0, 5⟩
/-- FIELD.TRUMP, FIELD.CODE0–CODE1, FIELD.SW and FIELD.GEOM, words 0x011–0x015. -/
def FIELD.TRUMP : Nat := 0x2411
def FIELD.TRUMP.EN : Fld := ⟨FIELD.TRUMP, 31, 1⟩
def FIELD.TRUMP.SHOTS : Fld := ⟨FIELD.TRUMP, 24, 6⟩
def FIELD.TRUMP.HANDS : Fld := ⟨FIELD.TRUMP, 20, 4⟩
/-- FIELD.TRUMP, FIELD.CODE0–CODE1, FIELD.SW and FIELD.GEOM, words 0x011–0x015. -/
def FIELD.CODE0 : Nat := 0x2412
def FIELD.CODE0.CODE : Fld := ⟨FIELD.CODE0, 0, 32⟩
/-- FIELD.TRUMP, FIELD.CODE0–CODE1, FIELD.SW and FIELD.GEOM, words 0x011–0x015. -/
def FIELD.CODE1 : Nat := 0x2413
def FIELD.CODE1.CODE : Fld := ⟨FIELD.CODE1, 0, 32⟩
/-- FIELD.TRUMP, FIELD.CODE0–CODE1, FIELD.SW and FIELD.GEOM, words 0x011–0x015. -/
def FIELD.SW : Nat := 0x2414
def FIELD.SW.SW_T : Fld := ⟨FIELD.SW, 8, 12⟩
def FIELD.SW.DEFAULT_SET : Fld := ⟨FIELD.SW, 0, 3⟩
/-- FIELD.TRUMP, FIELD.CODE0–CODE1, FIELD.SW and FIELD.GEOM, words 0x011–0x015. -/
def FIELD.GEOM : Nat := 0x2415
def FIELD.GEOM.AZ_STEP : Fld := ⟨FIELD.GEOM, 16, 16⟩
def FIELD.GEOM.AZ0 : Fld := ⟨FIELD.GEOM, 0, 16⟩
/-- FIELD.STAT and FIELD.BLIND, words 0x016–0x017. -/
def FIELD.STAT : Nat := 0x2416
def FIELD.STAT.VIOLATED : Fld := ⟨FIELD.STAT, 24, 8⟩
def FIELD.STAT.WARN1 : Fld := ⟨FIELD.STAT, 16, 8⟩
def FIELD.STAT.WARN2 : Fld := ⟨FIELD.STAT, 8, 8⟩
def FIELD.STAT.C : Fld := ⟨FIELD.STAT, 0, 5⟩
/-- FIELD.STAT and FIELD.BLIND, words 0x016–0x017. -/
def FIELD.BLIND : Nat := 0x2417
def FIELD.BLIND.HANDS : Fld := ⟨FIELD.BLIND, 16, 16⟩
def FIELD.BLIND.FRAMES : Fld := ⟨FIELD.BLIND, 0, 16⟩
/-- FIELD.REQ0–REQ11, words 0x018–0x023. -/
def FIELD.REQ (i : Nat) : Nat := 0x2418 + i
def FIELD.REQ.REQ (i : Nat) : Fld := ⟨FIELD.REQ i, 0, 32⟩
/-- FIELD field words, words 0x040 + 2f and 0x041 + 2f. -/
def FIELD.FA (i : Nat) : Nat := 0x2440 + 2 * i
def FIELD.FA.EN (i : Nat) : Fld := ⟨FIELD.FA i, 31, 1⟩
def FIELD.FA.FIRST (i : Nat) : Fld := ⟨FIELD.FA i, 22, 9⟩
def FIELD.FA.NVERT_M1 (i : Nat) : Fld := ⟨FIELD.FA i, 18, 4⟩
def FIELD.FA.MIN_PTS (i : Nat) : Fld := ⟨FIELD.FA i, 8, 8⟩
/-- FIELD field words, words 0x040 + 2f and 0x041 + 2f. -/
def FIELD.FB (i : Nat) : Nat := 0x2441 + 2 * i
def FIELD.FB.ZMIN (i : Nat) : Fld := ⟨FIELD.FB i, 16, 16⟩
def FIELD.FB.ZMAX (i : Nat) : Fld := ⟨FIELD.FB i, 0, 16⟩
/-- FIELD.VERT0–VERT383, words 0x100–0x27F. -/
def FIELD.VERT (i : Nat) : Nat := 0x2500 + i
def FIELD.VERT.X (i : Nat) : Fld := ⟨FIELD.VERT i, 16, 16⟩
def FIELD.VERT.Y (i : Nat) : Fld := ⟨FIELD.VERT i, 0, 16⟩
/-- FIELD.DIR0–DIR383, words 0x280–0x3FF. -/
def FIELD.DIR (i : Nat) : Nat := 0x2680 + i
def FIELD.DIR.EL (i : Nat) : Fld := ⟨FIELD.DIR i, 16, 16⟩
def FIELD.DIR.AZ_OFS (i : Nat) : Fld := ⟨FIELD.DIR i, 0, 16⟩
/-- BOOT.FW_CMD, word 0x016. -/
def BOOT.FW_CMD : Nat := 0xC16
def BOOT.FW_CMD.CMD : Fld := ⟨BOOT.FW_CMD, 0, 8⟩
/-- BOOT.FW_STAT, word 0x017. -/
def BOOT.FW_STAT : Nat := 0xC17
def BOOT.FW_STAT.BUSY : Fld := ⟨BOOT.FW_STAT, 31, 1⟩
def BOOT.FW_STAT.RESULT : Fld := ⟨BOOT.FW_STAT, 28, 3⟩
def BOOT.FW_STAT.FW_MIN : Fld := ⟨BOOT.FW_STAT, 0, 16⟩
/-- BOOT.FW_VER, word 0x018. -/
def BOOT.FW_VER : Nat := 0xC18
def BOOT.FW_VER.VER_B : Fld := ⟨BOOT.FW_VER, 16, 16⟩
def BOOT.FW_VER.VER_A : Fld := ⟨BOOT.FW_VER, 0, 16⟩
/-- BOOT.CFG_CMD, word 0x019. -/
def BOOT.CFG_CMD : Nat := 0xC19
def BOOT.CFG_CMD.BOUNDARY : Fld := ⟨BOOT.CFG_CMD, 4, 2⟩
def BOOT.CFG_CMD.CMD : Fld := ⟨BOOT.CFG_CMD, 0, 4⟩
/-- BOOT.CFG_STAT, word 0x01A. -/
def BOOT.CFG_STAT : Nat := 0xC1A
def BOOT.CFG_STAT.BUSY : Fld := ⟨BOOT.CFG_STAT, 31, 1⟩
def BOOT.CFG_STAT.RESULT : Fld := ⟨BOOT.CFG_STAT, 28, 3⟩
def BOOT.CFG_STAT.REC_ADDR : Fld := ⟨BOOT.CFG_STAT, 0, 24⟩
/-- BOOT.CFG_ID, word 0x01B. -/
def BOOT.CFG_ID : Nat := 0xC1B
def BOOT.CFG_ID.IMAGE_ID : Fld := ⟨BOOT.CFG_ID, 0, 32⟩
/-- CLK.REFSTAT, word 0x014. -/
def CLK.REFSTAT : Nat := 0x414
def CLK.REFSTAT.SWITCHES : Fld := ⟨CLK.REFSTAT, 16, 16⟩
def CLK.REFSTAT.LAST_US : Fld := ⟨CLK.REFSTAT, 0, 16⟩
/-- CAL.CFG, word 0x010. -/
def CAL.CFG : Nat := 0x3010
def CAL.CFG.KITS : Fld := ⟨CAL.CFG, 8, 3⟩
def CAL.CFG.EN : Fld := ⟨CAL.CFG, 0, 5⟩
/-- CAL.INT, word 0x011. -/
def CAL.INT : Nat := 0x3011
def CAL.INT.ADC_INT : Fld := ⟨CAL.INT, 24, 8⟩
def CAL.INT.AFE_INT : Fld := ⟨CAL.INT, 16, 8⟩
def CAL.INT.TDC_INT : Fld := ⟨CAL.INT, 0, 16⟩
/-- CAL.STAT, word 0x012. -/
def CAL.STAT : Nat := 0x3012
def CAL.STAT.ABANDONED : Fld := ⟨CAL.STAT, 16, 16⟩
def CAL.STAT.ITEM : Fld := ⟨CAL.STAT, 9, 3⟩
def CAL.STAT.ELEMENT : Fld := ⟨CAL.STAT, 0, 9⟩
/-- CAL.COUNTi, CAL.TIME_HIi, CAL.TIME_LOi and CAL.DATEi, words 0x020–0x03B. -/
def CAL.COUNT (i : Nat) : Nat := 0x3020 + 4 * i
def CAL.COUNT.COUNT (i : Nat) : Fld := ⟨CAL.COUNT i, 0, 32⟩
/-- CAL.COUNTi, CAL.TIME_HIi, CAL.TIME_LOi and CAL.DATEi, words 0x020–0x03B. -/
def CAL.TIME_HI (i : Nat) : Nat := 0x3021 + 4 * i
def CAL.TIME_HI.TIME_HI (i : Nat) : Fld := ⟨CAL.TIME_HI i, 0, 32⟩
/-- CAL.COUNTi, CAL.TIME_HIi, CAL.TIME_LOi and CAL.DATEi, words 0x020–0x03B. -/
def CAL.TIME_LO (i : Nat) : Nat := 0x3022 + 4 * i
def CAL.TIME_LO.TIME_LO (i : Nat) : Fld := ⟨CAL.TIME_LO i, 0, 32⟩
/-- CAL.COUNTi, CAL.TIME_HIi, CAL.TIME_LOi and CAL.DATEi, words 0x020–0x03B. -/
def CAL.DATE (i : Nat) : Nat := 0x3023 + 4 * i
def CAL.DATE.DATE (i : Nat) : Fld := ⟨CAL.DATE i, 0, 32⟩
/-- CAL.EOL_REF and CAL.EOL_CFG, words 0x040–0x041. -/
def CAL.EOL_REF : Nat := 0x3040
def CAL.EOL_REF.D_REF : Fld := ⟨CAL.EOL_REF, 0, 19⟩
/-- CAL.EOL_REF and CAL.EOL_CFG, words 0x040–0x041. -/
def CAL.EOL_CFG : Nat := 0x3041
def CAL.EOL_CFG.MIN_N : Fld := ⟨CAL.EOL_CFG, 20, 12⟩
def CAL.EOL_CFG.FRAMES : Fld := ⟨CAL.EOL_CFG, 16, 4⟩
def CAL.EOL_CFG.WIN : Fld := ⟨CAL.EOL_CFG, 0, 16⟩
/-- CAL.EOL_CMD and CAL.EOL_STAT, words 0x042–0x043. -/
def CAL.EOL_CMD : Nat := 0x3042
def CAL.EOL_CMD.APPLY : Fld := ⟨CAL.EOL_CMD, 1, 1⟩
def CAL.EOL_CMD.GO : Fld := ⟨CAL.EOL_CMD, 0, 1⟩
/-- CAL.EOL_CMD and CAL.EOL_STAT, words 0x042–0x043. -/
def CAL.EOL_STAT : Nat := 0x3043
def CAL.EOL_STAT.BUSY : Fld := ⟨CAL.EOL_STAT, 31, 1⟩
def CAL.EOL_STAT.RESULT : Fld := ⟨CAL.EOL_STAT, 28, 3⟩
def CAL.EOL_STAT.DONE : Fld := ⟨CAL.EOL_STAT, 16, 9⟩
def CAL.EOL_STAT.FAILED : Fld := ⟨CAL.EOL_STAT, 0, 9⟩
/-- CAL.EOL_FAIL0–EOL_FAIL11, words 0x044–0x04F. -/
def CAL.EOL_FAIL (i : Nat) : Nat := 0x3044 + i
def CAL.EOL_FAIL.FAIL (i : Nat) : Fld := ⟨CAL.EOL_FAIL i, 0, 32⟩
/-- HK.CFG, word 0x010. -/
def HK.CFG : Nat := 0x2C10
def HK.CFG.LAS_TH : Fld := ⟨HK.CFG, 12, 4⟩
def HK.CFG.LAS_SRC : Fld := ⟨HK.CFG, 8, 4⟩
def HK.CFG.HK_DIV : Fld := ⟨HK.CFG, 0, 8⟩
/-- HK.THR_DIE, HK.THR_LAS and HK.SHUT_LAS, words 0x011–0x013. -/
def HK.THR_DIE : Nat := 0x2C11
def HK.THR_DIE.WARN : Fld := ⟨HK.THR_DIE, 16, 12⟩
def HK.THR_DIE.CRIT : Fld := ⟨HK.THR_DIE, 0, 12⟩
/-- HK.THR_DIE, HK.THR_LAS and HK.SHUT_LAS, words 0x011–0x013. -/
def HK.THR_LAS : Nat := 0x2C12
def HK.THR_LAS.LWARN : Fld := ⟨HK.THR_LAS, 16, 12⟩
def HK.THR_LAS.LCRIT : Fld := ⟨HK.THR_LAS, 0, 12⟩
/-- HK.THR_DIE, HK.THR_LAS and HK.SHUT_LAS, words 0x011–0x013. -/
def HK.SHUT_LAS : Nat := 0x2C13
def HK.SHUT_LAS.LSHUT : Fld := ⟨HK.SHUT_LAS, 0, 12⟩
/-- HK.GRACE, word 0x014. -/
def HK.GRACE : Nat := 0x2C14
def HK.GRACE.HYST : Fld := ⟨HK.GRACE, 16, 8⟩
def HK.GRACE.GRACE : Fld := ⟨HK.GRACE, 0, 16⟩
/-- HK.STEP, word 0x015. -/
def HK.STEP : Nat := 0x2C15
def HK.STEP.THROTTLE_REQ : Fld := ⟨HK.STEP, 7, 1⟩
def HK.STEP.SCALE : Fld := ⟨HK.STEP, 5, 2⟩
def HK.STEP.LAS_STEP : Fld := ⟨HK.STEP, 2, 3⟩
def HK.STEP.DIE_STEP : Fld := ⟨HK.STEP, 0, 2⟩
/-- HK.SUSPECT, word 0x016. -/
def HK.SUSPECT : Nat := 0x2C16
def HK.SUSPECT.DEVIATE : Fld := ⟨HK.SUSPECT, 24, 8⟩
def HK.SUSPECT.TH_TD : Fld := ⟨HK.SUSPECT, 16, 8⟩
def HK.SUSPECT.DIE : Fld := ⟨HK.SUSPECT, 0, 8⟩
/-- HK.TEMPS, word 0x017. -/
def HK.TEMPS : Nat := 0x2C17
def HK.TEMPS.T_L : Fld := ⟨HK.TEMPS, 16, 16⟩
def HK.TEMPS.T_D : Fld := ⟨HK.TEMPS, 0, 16⟩
/-- HK.TD0–TD3 and HK.TH0–TH3, words 0x018–0x01F. -/
def HK.TD (i : Nat) : Nat := 0x2C18 + i
def HK.TD.OFS (i : Nat) : Fld := ⟨HK.TD i, 16, 16⟩
def HK.TD.IDEAL (i : Nat) : Fld := ⟨HK.TD i, 0, 16⟩
/-- HK.TD0–TD3 and HK.TH0–TH3, words 0x018–0x01F. -/
def HK.TH (i : Nat) : Nat := 0x2C1C + i
def HK.TH.R25 (i : Nat) : Fld := ⟨HK.TH i, 16, 16⟩
def HK.TH.B (i : Nat) : Fld := ⟨HK.TH i, 0, 16⟩
/-- HK.SLOT0–SLOT63, words 0x040–0x07F. -/
def HK.SLOT (i : Nat) : Nat := 0x2C40 + i
def HK.SLOT.SUSPECT (i : Nat) : Fld := ⟨HK.SLOT i, 16, 1⟩
def HK.SLOT.VALUE (i : Nat) : Fld := ⟨HK.SLOT i, 0, 16⟩
/-- HK.SUP0–SUP9 and HK.CNT_CLR, words 0x080–0x08A. -/
def HK.SUP (i : Nat) : Nat := 0x2C80 + i
def HK.SUP.MAX (i : Nat) : Fld := ⟨HK.SUP i, 16, 16⟩
def HK.SUP.MIN (i : Nat) : Fld := ⟨HK.SUP i, 0, 16⟩
/-- HK.SUP0–SUP9 and HK.CNT_CLR, words 0x080–0x08A. -/
def HK.CNT_CLR : Nat := 0x2C8A
def HK.CNT_CLR.CLEAR : Fld := ⟨HK.CNT_CLR, 0, 1⟩
/-- LEDGER.STAT, word 0x010. -/
def LEDGER.STAT : Nat := 0x2810
def LEDGER.STAT.BUSY : Fld := ⟨LEDGER.STAT, 31, 1⟩
def LEDGER.STAT.PENDING : Fld := ⟨LEDGER.STAT, 0, 8⟩
/-- LEDGER.BOOTP, word 0x011. -/
def LEDGER.BOOTP : Nat := 0x2811
def LEDGER.BOOTP.REF_PREF : Fld := ⟨LEDGER.BOOTP, 24, 1⟩
def LEDGER.BOOTP.RETRY_INT : Fld := ⟨LEDGER.BOOTP, 12, 12⟩
def LEDGER.BOOTP.RETRY_MAX : Fld := ⟨LEDGER.BOOTP, 8, 4⟩
def LEDGER.BOOTP.T_PG : Fld := ⟨LEDGER.BOOTP, 0, 8⟩
/-- LEDGER.CMD, word 0x012. -/
def LEDGER.CMD : Nat := 0x2812
def LEDGER.CMD.CMD : Fld := ⟨LEDGER.CMD, 0, 2⟩
/-- LEDGER.ECC and LEDGER.WEAR, words 0x013–0x014. -/
def LEDGER.ECC : Nat := 0x2813
def LEDGER.ECC.CORR : Fld := ⟨LEDGER.ECC, 16, 16⟩
def LEDGER.ECC.UNC : Fld := ⟨LEDGER.ECC, 0, 16⟩
/-- LEDGER.ECC and LEDGER.WEAR, words 0x013–0x014. -/
def LEDGER.WEAR : Nat := 0x2814
def LEDGER.WEAR.WEAR : Fld := ⟨LEDGER.WEAR, 0, 32⟩

end Sys2Proof.Machine
end

