-- ==== Sys2Proof/Machine/State.lean ====
section
/-! DEFINITION. The state of the PD9-384 as plain data, its reset, and the reasons a step could stop.
Register words (active values and the shadows of RWS fields) stand in two sparse lists whose default is
the reset value of the register map; memories stand in one sparse list; whatever the spec gives the
device beside them stands in the structures below, chapter by chapter. -/

namespace Sys2Proof.Machine

/-- A sparse map from word address to word, in rising order of address, with no entry equal to what an
unlisted address reads as. -/
abbrev Cells (w : Nat) := List (Nat × BitVec w)

/-! ## Power, start-up and clocks (spec/03) -/

/-- The conditions of R50, and the unpowered condition of R51. -/
inductive PState where
  | unpowered | powerUp | ready | run | standby | fold
  deriving DecidableEq, Repr

/-- The step of the start-up sequence that is under way (R60). -/
inductive StartStep where
  | pgWait | refSearch | pllWait | selfTest
  deriving DecidableEq, Repr

/-- The step of the STANDBY exit that is under way (R75): switches closing, or wake checks. -/
inductive ExitStep where
  | switching | checks
  deriving DecidableEq, Repr

/-- The state of a power domain (R52): off, its switch closed but not ready, or on and ready. -/
inductive DomState where
  | off | waking | on
  deriving DecidableEq, Repr

/-- The stage of a switch-off handshake (R69, R72). -/
inductive ShakeStage where
  | querying
  | window (start : Nat)
  deriving DecidableEq, Repr

/-- A switch-off handshake in progress (R69): the STANDBY entry, or some domains alone. -/
structure Shake where
  /-- The handshake is the STANDBY entry of R72. -/
  standby : Bool
  /-- The domains that are to go off. -/
  doms : List Nat
  /-- The queried pages that have not answered yet. -/
  waiting : List Nat
  /-- The last page that was forced off (R69). -/
  forced : Option Nat
  /-- The last page whose transfer was aborted (R71). -/
  aborted : Option Nat
  /-- The stage reached. -/
  stage : ShakeStage
  /-- The state to return to when the request is refused or abandoned. -/
  from_ : PState
  deriving DecidableEq, Repr

/-- The power manager (spec/03). -/
structure Power where
  /-- The condition of R50; PWR.STATE.STATE is a view of it; 03 R50. -/
  st : PState := .powerUp
  /-- The state being entered during a transition; PWR.STATE.TARGET; 03 R79. -/
  target : PState := .powerUp
  /-- nRESET is held low; 02 R45. -/
  nresetLow : Bool := false
  /-- The phase that a FOLD entry from the sequence in progress records; 03 R65. -/
  phase : Nat := 0
  /-- The start-up step under way in Power-up; 03 R60. -/
  step : StartStep := .pgWait
  /-- The self-test items completed since self-test started, one bit each; 03 R61. -/
  items : Nat := 0
  /-- Device time at the reference of the start-up sequence, for BOOT.TIMING; 03 R60. -/
  seqStart : Nat := 0
  /-- Device time at the start of the last transition, for PWR.ENTRY.DURATION; 03 R79. -/
  transStart : Nat := 0
  /-- Device time at the start of self-test, for BOOT.SELFTEST.DURATION; 03 R61. -/
  testStart : Nat := 0
  /-- Automatic retries made since the budget was last renewed; 03 R66. -/
  retriesUsed : Nat := 0
  /-- An automatic retry is due RETRY_INT after the FOLD entry; 03 R66. -/
  retryPending : Bool := false
  /-- Device time of the last FOLD entry: causes of its SOSC cycle record the lowest code; 03 R65. -/
  foldAt : Nat := 0
  /-- The phase of the sequence that the last FOLD entry ended, 3 for operation; 03 R65. -/
  foldFrom : Nat := 0
  /-- PG_IO has qualified and has not been seen low since, so the ledger can be read; 03 R56. -/
  pgIo : Bool := false
  /-- Single correctable cells found by BIST, by page and address; 03 R62. -/
  bistLog : List (Nat × Nat) := []
  /-- The descriptor reached by the last aborted transfer of each page; 03 R71. -/
  moverAborts : List (Nat × Nat) := []
  /-- The nine power domains; 03 R52 (DESIGN CHOICE, log entry 9: only AON is on at POR release, R79's PWR.DOMAIN reset 0x001). -/
  domains : List DomState := [.on, .off, .off, .off, .off, .off, .off, .off, .off]
  /-- Switch-off handshakes in progress; 03 R69. -/
  shakes : List Shake := []
  /-- The step of a STANDBY exit in progress; 03 R75. -/
  exit : Option ExitStep := none
  /-- An accepted RUN request waits for the first hand of the next frame; 03 R68. -/
  runPending : Bool := false
  /-- A RUN request written in STANDBY is due at READY; 03 R51. -/
  runAfterExit : Bool := false
  /-- A READY request or a HOST_LOST reaction ends RUN at the next hand boundary; 03 R51, 14 R343. -/
  readyPending : Bool := false
  /-- Wake sources kept during the commit window or the switch-off, as bits of PWR.WAKE_SRC; 03 R73. -/
  wakeKept : Nat := 0
  /-- Domains switched on by an access in STANDBY; 03 R76. -/
  accessOn : List Nat := []
  /-- Domains that an access during their switch-off waits for; 03 R76. -/
  wakeAfter : List Nat := []
  /-- The level on the WAKE pin; 02 and 03 R75. -/
  wakePin : Bool := false
  /-- Device time at which FCLK was slowed, while it is slowed; 03 R77. -/
  droopStart : Option Nat := none
  /-- The droop in progress has raised DROOP_LONG; 03 R78. -/
  droopLong : Bool := false
  /-- Device time at which the reference was lost, while in holdover; 17 R406. -/
  holdStart : Option Nat := none
  /-- Device time of the write that began a switch without holdover; 17 R407. -/
  switchStart : Option Nat := none
  deriving DecidableEq, Repr

/-! ## Commit and host port (spec/01, spec/04) -/

/-- A pending commit request of a page (R88). -/
structure CommitReq where
  /-- The page. -/
  page : Nat
  /-- The boundary written with the request. -/
  boundary : Nat
  /-- The request was posted by a global commit (R106). -/
  global : Bool
  /-- For boundary 3: the SYNC_IN edge has arrived and its frame is awaited (R23, R24). -/
  armed : Bool
  /-- For the ISP page: the ports whose fields the request changes and that have not applied it yet (R471). -/
  ports : List Nat
  /-- The port that wrote it, as ERR_CAUSE names it (R84). -/
  src : Nat := 0
  /-- For the ISP page: its first instant has passed (R471). -/
  begun : Bool := false
  /-- For the ISP page: a field whose port has had its instant has been written since (R90). -/
  again : Bool := false
  deriving DecidableEq, Repr

/-- A lidar request latched at the announcement of a hand (R26): the words it will make active. -/
structure Latched where
  page : Nat
  global : Bool
  words : Cells 32
  /-- An RWS field of the page has been written since the latch instant (R90). -/
  again : Bool := false
  deriving DecidableEq, Repr

/-- A register or bulk request received in band and not answered yet (R101, R346). -/
structure IbRequest where
  /-- 0x40 write, 0x41 read, 0x44 bulk write. -/
  dt : Nat
  tag : Nat
  addr : Nat
  /-- The data words of a write. -/
  words : List Word36
  /-- The number of words of a read. -/
  count : Nat
  /-- The index of the word that SPI takes in the same cycle, if any (R94). -/
  taken : Option Nat
  deriving DecidableEq, Repr

/-- A time set waiting for a SYNC_IN edge (R107, R344): its value and the mode the event packet reports. -/
structure TimeSet where
  value : Nat
  /-- The set came in a time-set packet. -/
  packet : Bool
  deriving DecidableEq, Repr

/-- The merge period of the event packets of a page (R104). -/
structure EvtMerge where
  page : Nat
  /-- TIME of the first rising merged in this period. -/
  first : Option Nat
  deriving DecidableEq, Repr

/-- The host port (spec/04). -/
structure HostPort where
  /-- In-band requests waiting for a domain; 04 R101. -/
  queue : List IbRequest := []
  /-- SPI_CS_N is low; 04 R95. -/
  csLow : Bool := false
  /-- The SPI mode taken at the falling edge of SPI_CS_N, 0 or 3; 04 R95. -/
  spiMode : Nat := 0
  /-- The port ignores SCK until SPI_CS_N rises; 04 R100. -/
  spiAborted : Bool := false
  /-- What the last SPI frame returned on MISO: the data words of a read; 04 R96. -/
  spiData : List Word36 := []
  /-- The early status byte of the last SPI read frame; 04 R96, R98. -/
  spiEarly : Nat := 0
  /-- The CRC-8 returned by the last SPI read frame; 04 R97. -/
  spiCrc : Nat := 0
  /-- Merge periods of event packets; 04 R104. -/
  merges : List EvtMerge := []
  deriving DecidableEq, Repr

/-! ## The Tableau link (spec/14) -/

/-- A packet built for the link (R332). -/
structure Packet where
  dt : Nat
  vc : Nat
  /-- GEN of the header. -/
  gen : Nat
  seq : Nat
  /-- The full TIME stamp, ns (R333). -/
  stamp : Nat
  payload : List Word36
  /-- The CRC-32 is to be corrupted (R347). -/
  badCrc : Bool := false
  deriving DecidableEq, Repr

/-- Where bring-up stands (R337). -/
inductive LinkTrain where
  /-- Electrical idle, or up: no training in progress. -/
  | no
  /-- TS blocks are sent, READY 0. -/
  | training
  /-- A lane has block lock and READY 1 is sent in TS blocks. -/
  | readySent
  /-- The host's READY has come: 64 further TS blocks, then the next AM. -/
  | finishing
  deriving DecidableEq, Repr

/-- The Tableau link (spec/14). -/
structure Link where
  /-- The class A queue, oldest first; 14 R336. -/
  qA : List Packet := []
  /-- The class B queue; 14 R336. -/
  qB : List Packet := []
  /-- The class C queue; 14 R336. -/
  qC : List Packet := []
  /-- The class D queue; 14 R336. -/
  qD : List Packet := []
  /-- SEQ of the next packet of each VC; 14 R334. -/
  seqs : List Nat := [0, 0, 0, 0, 0, 0, 0, 0, 0, 0, 0]
  /-- TIME_REF that the stream has last carried; 14 R333. -/
  timeRef : Option Nat := none
  /-- The packets that the last PACKET_SENT put on the lanes, in order; 14 R336. -/
  sent : List Packet := []
  /-- The stream block number, modulo 8, of their first block, and of the next stream block; 14 R331. -/
  streamAt : Nat := 0
  streamNext : Nat := 0
  /-- Bring-up progress; 14 R337. -/
  train : LinkTrain := .no
  /-- LINK_FAIL has been raised for the bring-up in progress; 14 R337. -/
  failRaised : Bool := false
  /-- Physical lanes healthy but kept in reserve beside the spare; 14 R340. -/
  reserve : List Nat := []
  /-- Physical lanes in use marked failed whose failover is pending, in the order of logical lanes; 14 R339. -/
  failing : List Nat := []
  /-- AM_COUNT; 14 R330. -/
  amCount : Nat := 0
  /-- Device heartbeats since Power-up; 14 R343. -/
  hbCount : Nat := 0
  /-- A valid host heartbeat has been received since Power-up; 14 R343. -/
  hostSeen : Bool := false
  /-- TX_BAD of the last valid host heartbeat; 14 R339. -/
  lastBad : Nat := 0
  /-- VC and SEQ of the last packets accepted, newest first, at most 2,048; 14 R342. -/
  seen : List (Nat × Nat) := []
  /-- The RX lane that delivered the last accepted packet first, 0 A, 1 B; 14 R342. -/
  lane : Option Nat := none
  /-- RX lanes with CDR lock; 14 R337. -/
  cdr : List Nat := []
  /-- RX lanes with a signal present; 14 R338, R342. -/
  present : List Nat := []
  /-- Class whose next packet's CRC-32 is corrupted; 14 R347. -/
  injectCrc : List Nat := []
  /-- Bits inverted on each physical lane by INJECT.BIT so far; 14 R347. -/
  injectBits : List Nat := [0, 0, 0, 0, 0, 0, 0, 0, 0]
  /-- Sync-header errors injected so far; 14 R347. -/
  injectSync : Nat := 0
  deriving DecidableEq, Repr

/-! ## Hands, rings and firing (spec/05, spec/06) -/

/-- A visited tile of a hand, from the snapshot on (R120-R124). -/
structure HandTile where
  tile : Nat
  /-- The firing group of its band. -/
  group : Nat
  /-- The resolved firing-frame index BASE + FF_INDEX (R126). -/
  entry : Nat
  /-- B (R122). -/
  budget : Nat
  /-- O (R123). -/
  opening : Nat
  /-- Trump shots still unspent (R124). -/
  trump : Nat
  /-- Tile-shots counted in the opening phase. -/
  spentO : Nat
  /-- Tile-shots counted in the trick phase. -/
  spentT : Nat
  /-- Its ante after scaling, 0 for a dark tile (R123). -/
  ante : Nat := 0
  deriving DecidableEq, Repr

/-- A cell that fires in a tile-shot (R140, R153, R154). -/
structure FireCell where
  cell : Nat
  /-- E, the energy of one pulse that the governor counts, 10 pJ. -/
  energy : Nat
  /-- ENERGY of its level, 10 pJ. -/
  nominal : Nat
  deriving DecidableEq, Repr

/-- A fire command that arbitration has decided and that has not been issued yet (R124, R127, R146). -/
structure Decision where
  slot : Nat
  /-- The slot is an opening shot (R114). -/
  opening : Bool
  /-- The FIRE edge of pulse 1, on the TCLK axis (R146 step 6). -/
  fire : Nat
  /-- The tiles that passed the governor, each with its firing cells. -/
  tiles : List (Nat × List FireCell)
  /-- Pulses of the burst. -/
  pulses : Nat
  /-- The static set governed the check (R156). -/
  static : Bool
  /-- Sub-interval ends counted when it was judged: 100 µs, 10 ms and 10 s window (R153). -/
  govEnds : Nat × Nat × Nat := (0, 0, 0)
  deriving DecidableEq, Repr

/-- A fire command issued: what the gates, the MPD loop and the shot triggers refer to (R128, R157, R195). -/
structure Shot where
  group : Nat
  slot : Nat
  opening : Bool
  /-- The FIRE edge of pulse 1 on the TCLK axis. -/
  fire : Nat
  /-- The shot tag (R129). -/
  tag : Nat
  /-- Bands whose channels are armed. -/
  bands : List Nat
  /-- Cells that fired. -/
  cells : List FireCell
  /-- The rising edges of its pulses on FIREg, on the TCLK axis (R128). -/
  pulses : List Nat := []
  deriving DecidableEq, Repr

/-- A hand, from its announcement until its records have left (R26, R176). -/
structure Hand where
  /-- It begins a lidar frame. -/
  first : Bool
  /-- Its number j in the frame (R176). -/
  index : Nat
  /-- First azimuth position (R111). -/
  az : Nat
  /-- Its boundary, on the TCLK axis. -/
  start : Nat
  /-- The measured hand period, TCLK (R113). -/
  period : Nat
  /-- S_eff (R113). -/
  sEff : Nat
  /-- OPEN (R114). -/
  openSlots : Nat
  /-- RUN begins with it (R68). -/
  entry : Bool
  /-- Its ring snapshot has been taken (R120). -/
  snapped : Bool := false
  /-- It is not started for droop (R78). -/
  skipped : Bool := false
  /-- The visited tiles. -/
  tiles : List HandTile := []
  /-- The next slot to be arbitrated, by group. -/
  slots : List Nat := [0, 0, 0, 0]
  /-- Descriptors counted at its snapshot: tile, CLASS, SOURCE (R120). -/
  served : List (Nat × Nat × Nat) := []
  /-- Mask and substitute words in force for it (R140). -/
  masks : Cells 32 := []
  /-- Fire commands decided and not issued, by group. -/
  decided : List (Option Decision) := [none, none, none, none]
  /-- Bands with a tile-shot that lost a masked cell without a substitute (R140). -/
  maskedBands : List Nat := []
  /-- A slot was held for plausibility (R124). -/
  plausHeld : Bool := false
  /-- MIRROR_UNCERTAIN was set between its first arbitration and its last gate (R184). -/
  uncertain : Bool := false
  /-- A held-bus recovery fell into it (R162, R405). -/
  recovery : Bool := false
  /-- Bands with a tile-shot fired in it (R379). -/
  fired : List Nat := []
  /-- Its snapshot fell within 1 ms of the onset of the droop that it was skipped for (R405). -/
  early : Bool := false
  /-- Slices that a drained commit empties at its start (R28, R234). -/
  drained : List Nat := []
  /-- TIME of its boundary, ns (R335). -/
  stamp : Nat := 0
  /-- Its hand count since the last entry to RUN (R220). -/
  count : Nat := 0
  /-- The temperatures taken at its start, 1/16 °C: die, laser (R251, R257). -/
  temps : Int × Int := (0, 0)
  /-- The global generation at its start (R26). -/
  gen : Nat := 0
  /-- FRAME of its frame. -/
  frame : Nat := 0
  /-- It is the last hand of its frame. -/
  last : Bool := false
  /-- Steering was in locked mode with lock state locked at its boundary (R319). -/
  locked : Bool := false
  /-- The register words in force during it, kept for the stages that finish it later (R26). -/
  cfg : Cells 32 := []
  /-- Its slots counted as cut at a moved boundary (R113, R472). -/
  cuts : List Nat := []
  /-- Groups whose LFSR has been loaded for it at the arbitration of slot 0 (R127). -/
  seeded : List Nat := []
  /-- Groups in which a drained commit's switch came too late for it to place tricks (R234). -/
  noTricks : List Nat := []
  deriving DecidableEq, Repr

/-- The Dealer (spec/05). -/
structure Deal where
  /-- The announced hand, until its boundary; 05 R120, 07 R176. -/
  next : Option Hand := none
  /-- The hand in progress. -/
  cur : Option Hand := none
  /-- Hands whose records have not left the point builder yet, oldest first; 01 R30. -/
  past : List Hand := []
  /-- The internal table of HEAD, TAIL, COUNT and the last BUDGET and GRANTED, by tile, in the layout of
  DEAL.RING_STATE; 05 R116, R134. -/
  rings : Cells 32 := []
  /-- The Shuffle LFSRs, by group; 05 R127. -/
  lfsr : List Nat := [0x1D2B, 0x2E3C, 0x3F4D, 0x505E]
  /-- Frames the pattern step in force has been held; 05 R126. -/
  patHeld : Nat := 0
  /-- Slices whose bands stay dark for a drained commit; 01 R28, 09 R234. -/
  drain : List Nat := []
  deriving DecidableEq, Repr

/-- A maintenance frame of the laser driver bus (R141, R148). -/
inductive MaintFrame where
  /-- INDEX for one queued place-0 write: field tile and the new word 0. -/
  | index (tile : Nat) (word : Word36)
  | level (tile : Nat)
  | mask (tile : Nat)
  | subst (quarter : Nat)
  | config
  | select
  /-- LOAD of a buffer: so many entries from one on. -/
  | load (first count : Nat)
  deriving DecidableEq, Repr

/-- The laser driver bus (spec/06). -/
structure Ldb where
  /-- The forward queue of place-0 writes, oldest first; 06 R145. -/
  fwd : List (Nat × Word36) := []
  /-- Trim and mask frames due; 06 R148. -/
  loopDue : List MaintFrame := []
  /-- Frames due for committed changes, with the page whose request they belong to; 06 R143. -/
  changes : List (Nat × MaintFrame) := []
  /-- The next entry that LOAD sends; 06 R139. -/
  load : Option Nat := none
  /-- A LOAD waits for the end of enumeration; 06 R139. -/
  loadWaits : Bool := false
  /-- The maintenance frame on the bus; 06 R148. -/
  frame : Option MaintFrame := none
  /-- That frame carries a committed change, the first of `changes`. -/
  changing : Bool := false
  /-- Header, payload and CRC-8 of the last frame put on the bus; 06 R141. -/
  bus : List Nat := []
  /-- Enumeration is in progress; 06 R150. -/
  enumerating : Bool := false
  /-- Buffers the tiles hold unchanged; 06 R139, R143. -/
  held : List Bool := [false, false]
  /-- Missing replies in a row, by tile; 06 R151. -/
  missing : List Nat := [0, 0, 0, 0, 0, 0, 0, 0, 0, 0, 0, 0, 0, 0, 0, 0]
  /-- Tiles treated as absent; 06 R150, R151. -/
  absent : List Nat := []
  /-- Slot and lit-band mask of the ARM frame being put together; 06 R144. -/
  arm : Option (Nat × Nat) := none
  /-- Device times of held-bus detections in the last second; 06 R162. -/
  heldAt : List Nat := []
  /-- Device time of the detection that the dark time is counted from; 06 R162, R164. -/
  darkFrom : Option Nat := none
  deriving DecidableEq, Repr

/-- A per-cell window of the governor (R153): energy by cell in the current sub-interval and the 16 before it,
newest first, and how many sub-interval ends the limit stays spent for after SCAN came on (R155). -/
structure GovWindow where
  sums : List (List (Nat × Nat)) := []
  full : Nat := 17
  /-- Sub-interval ends so far. -/
  ends : Nat := 0
  deriving DecidableEq, Repr

/-- The monitor-photodiode loop of a tile (R157). -/
structure MpdLoop where
  /-- Included pulses in the mean being formed. -/
  count : Nat := 0
  /-- Sum of E_meas / ENERGY over them, 1/4,096. -/
  sum : Nat := 0
  /-- Consecutive armed edges without light (16 R385, diagnostic 7). -/
  dark : Nat := 0
  deriving DecidableEq, Repr

/-- The emitter interface (spec/06). -/
structure Emit where
  /-- The 100 µs window; 06 R153. -/
  us100 : GovWindow := {}
  /-- The 10 ms window; 06 R153. -/
  ms10 : GovWindow := {}
  /-- The 10 s aperture sums, newest first, kept in AON; 06 R153, R155. -/
  aperture : List Nat := []
  /-- Ends of its sub-intervals so far. -/
  apertureEnds : Nat := 0
  /-- Monitor loops by tile; 06 R157. -/
  mpd : List MpdLoop := List.replicate 16 {}
  /-- The last fire command issued, by group; 06 R146. -/
  shots : List (Option Shot) := [none, none, none, none]
  /-- A hazardous shut-off came from a diagnostic (16 R402): 1 or 7, and holds while it is active. -/
  hazDiag : Bool := false
  deriving DecidableEq, Repr

/-! ## Steering and sensing (spec/07) -/

/-- The frame timer (R174-R176); times are TCLK counts on one axis. -/
structure FrameTimer where
  /-- B_k, the last frame boundary; 07 R176. -/
  start : Nat := 0
  /-- L, the length of the frame in progress; 07 R174. -/
  length : Nat := 41666667
  /-- H, the hand boundaries of the frame in progress; 07 R176. -/
  hands : Nat := 2048
  /-- j of the last hand boundary passed; 07 R176. -/
  index : Nat := 0
  /-- The boundary that ends the frame, where R175 has moved it; 07 R472. -/
  moved : Option Nat := none
  /-- P-hat in 1/65,536 TCLK; 07 R174 (the fraction bits are a DESIGN CHOICE, log entry 14). -/
  pEst : Nat := 41666667 * 65536
  /-- The loop's corrections not in force yet, oldest first: the earliest start and the length of the frame that takes
  one; 07 R174. -/
  adjusts : List (Nat × Nat) := []
  /-- The last accepted edge; 07 R174. -/
  lastEdge : Option Nat := none
  /-- The next edge restarts the loop; 07 R175. -/
  restart : Bool := true
  /-- SYNC_IN is the source in force; 07 R174. -/
  sync : Bool := false
  /-- Consecutive edges within LOCK_TOL; 07 R174. -/
  good : Nat := 0
  /-- Frames since the last entry to RUN; 07 R176, 11 R266. -/
  number : Nat := 0
  /-- Device time of the last SYNC_OUT pulse's start; 07 R174. -/
  syncOut : Option Nat := none
  deriving DecidableEq, Repr

/-- A sense channel beside its registers (R168, R169, R171, R172). -/
structure SenseCh where
  /-- Integrators, 64 bits each. -/
  ints : List (BitVec 64) := [0, 0, 0, 0, 0]
  /-- Comb delays. -/
  combs : List (BitVec 64) := [0, 0, 0, 0, 0]
  /-- Samples still to carry RANGE_SETTLING. -/
  settle : Nat := 0
  /-- Consecutive samples below the down-range limit. -/
  low : Nat := 0
  /-- A range written by the host that waits for the next decimation instant. -/
  newRange : Option Nat := none
  /-- A test-tone check is running. -/
  checking : Bool := false
  /-- Consecutive test-tone checks within the window while DRIFT is set. -/
  inWindow : Nat := 0
  /-- The SCLK count at which its next bits begin (R168); none on a channel enabled since the count began, until its first
  sample. -/
  count : Option Nat := some 0
  /-- The last sample saturated with range 0 in force (R183 bit [6]). -/
  satZero : Bool := false
  deriving DecidableEq, Repr

/-- How an axis is driven (R182). -/
inductive AxisMode where
  /-- The loop is open: the code moves linearly from `src` to `target` over 1.5 ms from device time `since` on. -/
  | opened (src target : Int) (since : Nat)
  /-- Closed loop, the set-point moving to PARK_X, PARK_Y at RAMP_RATE. -/
  | park
  /-- Closed loop, the set-point moving to RAMP_X, RAMP_Y at RAMP_RATE. -/
  | ramp
  /-- The trajectory plus the capture offset. -/
  | locked
  deriving DecidableEq, Repr

/-- A mirror axis beside its registers (R177-R183). -/
structure Axis where
  mode : AxisMode := .opened 0 0 0
  /-- The set-point r of the last update. -/
  r : Int := 0
  /-- v of the last update. -/
  v : Int := 0
  /-- I. -/
  integ : Int := 0
  /-- e of the last update. -/
  e : Int := 0
  /-- u_fb of the last update without RANGE_SETTLING. -/
  fb : Int := 0
  /-- Notch input history. -/
  u1 : Int := 0
  u2 : Int := 0
  /-- Outputs of the first notch. -/
  w1 : Int := 0
  w1b : Int := 0
  /-- Outputs of the second notch. -/
  w2 : Int := 0
  w2b : Int := 0
  /-- The last code computed. -/
  code : Int := 0
  /-- Codes computed and due at the DAC, oldest first (R181). -/
  due : List Int := []
  /-- Consecutive deadline misses (R183 bit [8]). -/
  missed : Nat := 0
  /-- Consecutive updates outside TRACK.TOL (R183 bits [2], [3]). -/
  off : Nat := 0
  /-- The capture offset in locked mode (R182). -/
  capture : Int := 0
  /-- The capture offset has not been taken yet: the first update of locked mode takes it. -/
  fresh : Bool := false
  /-- TCLK time of the last update. -/
  last : Option Nat := none
  /-- What RAMP_RATE has not moved yet: ten-thousandths of a count (R182). -/
  rest : Nat := 0
  deriving DecidableEq, Repr

/-- Beam steering (spec/07). -/
structure Steer where
  frame : FrameTimer := {}
  /-- The steering mode in force: 0 park, 1 ramp, 2 locked, 3 none, the codes going to zero; 07 R182. -/
  mode : Nat := 3
  /-- Capture is in progress; 07 R182. -/
  capturing : Bool := false
  /-- The Y set-point of the frame before; 07 R178. -/
  yBefore : Int := 0
  /-- Axes X and Y; 07 R179. -/
  axes : List Axis := [{}, {}]
  /-- Sense channels; 07 R168. -/
  sense : List SenseCh := List.replicate 8 {}
  /-- Clean X updates since the last clearing condition; 07 R183. -/
  clean : Nat := 0
  deriving DecidableEq, Repr

/-! ## Return channels (spec/08) -/

/-- The last shot a channel was armed for (R195, R197): its windows in 6.25 ps LSB on the TCLK axis. -/
structure Armed where
  /-- The FIRE edge, TCLK. -/
  fire : Nat
  tag : Nat
  /-- START and END from the FIRE edge. -/
  start : Nat
  stop : Nat
  /-- The preceding post-gate window ends. -/
  before : Nat
  /-- The pre-gate window begins. -/
  pre : Nat
  /-- The armed window begins and ends. -/
  open_ : Nat
  close : Nat
  /-- The post-gate window ends. -/
  post : Nat
  deriving DecidableEq, Repr

/-- An edge that a TDC is converting (R199, R203). -/
structure Capture where
  tag : Nat
  /-- The count n of its period. -/
  n : Nat
  start : Nat
  stop : Nat
  /-- ARM_EXT is inactive under ARMX 2 (R198). -/
  drop : Bool
  /-- The kitty TDC that converts it; none for the channel's own. -/
  kitty : Option Nat
  deriving DecidableEq, Repr

/-- What the output path of a channel carries, in order (R203, R222). -/
inductive OutItem where
  /-- An event word with its time-over-threshold code, and the kitty TDC whose buffer holds it. -/
  | event (word : Word36) (tot : Nat) (kitty : Option Nat)
  /-- An end-of-shot marker with its armed flag. -/
  | marker (armed : Bool)
  deriving DecidableEq, Repr

/-- The channel hand summary in the making (R205); counts saturate when it is read. -/
structure Summary where
  pre : Nat := 0
  preTime : Nat := 0
  post : Nat := 0
  postTime : Nat := 0
  pileup : Nat := 0
  armed : Nat := 0
  armxSkip : Nat := 0
  ovf : Bool := false
  /-- Events were lost to a masked fault. -/
  lostMasked : Bool := false
  /-- Events were lost with no kitty TDC to take over. -/
  lostHard : Bool := false
  subst : Bool := false
  cal : Bool := false
  disabled : Bool := false
  deriving DecidableEq, Repr

/-- Where a channel is to move at its next gap (R208): its own TDC, or a kitty TDC. -/
inductive Move where
  | own
  | kitty (n : Nat)
  deriving DecidableEq, Repr

/-- A logical channel of the timing stage beside its registers. -/
structure Chan where
  /-- The last shot it was armed for. -/
  shot : Option Armed := none
  /-- The slots it was armed in whose marker has not been placed yet: hand count and slot. -/
  armedSlots : List (Nat × Nat) := []
  /-- The marker of every shot it was armed for has been placed. -/
  gap : Bool := true
  /-- Edges outside armed windows that a pre-gate window may still count, LSB. -/
  loose : List Nat := []
  /-- The last comparator edge, LSB. -/
  lastEdge : Option Nat := none
  /-- The last edge timed, LSB. -/
  lastTimed : Option Nat := none
  /-- The last edge counted outside the armed windows, LSB. -/
  lastCounted : Option Nat := none
  /-- Edges in conversion, oldest first. -/
  edges : List Capture := []
  /-- The output path, oldest first. -/
  out : List OutItem := []
  /-- A move that waits for the gap. -/
  move : Option Move := none
  /-- Conversions are discarded until the channel is on the other loop (R201). -/
  loopLost : Bool := false
  /-- Consecutive armed windows with the comparator high (R216). -/
  stuck : Nat := 0
  /-- A retest of its own TDC runs (R212). -/
  retest : Bool := false
  /-- It is left without a TDC (R207). -/
  noTdc : Bool := false
  /-- The hand count and the slot of its next marker. -/
  markHand : Nat := 0
  marks : Nat := 0
  /-- The summary of the hand in progress. -/
  sum : Summary := {}
  deriving DecidableEq, Repr

/-- The DUMMY edge of a hand (R214, R215). -/
structure DummyEdge where
  /-- The kitty TDC in DUMMY state. -/
  kitty : Nat
  deriving DecidableEq, Repr

/-- The timing stage (spec/08). -/
structure Ret where
  /-- Logical channels; 08 R194. -/
  chans : List Chan := List.replicate 384 {}
  /-- The DUMMY edge injected and neither timed nor missed yet; 08 R214. -/
  dummy : Option DummyEdge := none
  /-- Unlocked loops being retried, 2 * page + loop; 08 R201. -/
  retrying : List Nat := []
  /-- Consecutive conversions of DBIAS_SENSE outside the window; 08 R193. -/
  biasOut : Nat := 0
  /-- Consecutive conversions of DBIAS_SENSE inside it; 08 R193, 17 R402. -/
  biasIn : Nat := 0
  deriving DecidableEq, Repr

/-! ## Histograms, rejection and points (spec/09 to spec/11) -/

/-- A candidate of the peak tracker (R224). -/
structure Cand where
  b : Nat
  cm : Nat
  c0 : Nat
  cp : Nat
  deriving DecidableEq, Repr

/-- The TOT summary of a trick (R252). -/
structure Tot where
  n : Nat := 0
  sum : Nat := 0
  hi : Nat := 0
  deriving DecidableEq, Repr

/-- The open hand of a channel in its slice (R221-R227). -/
structure HistCh where
  /-- The hand count of the hand it is in. -/
  count : Nat := 0
  /-- Markers retired for that hand: the slot. -/
  slot : Nat := 0
  cands : List Cand := []
  totalOpen : Nat := 0
  total : Nat := 0
  openShots : Nat := 0
  trickShots : Nat := 0
  /-- Slots of trick shots that feed the tricks (R227). -/
  fed : List Nat := []
  /-- Trick starts, LSB, from the beginning of placement on. -/
  tricks : List Nat := []
  /-- Placement has begun. -/
  placing : Bool := false
  /-- Placement is complete. -/
  placed : Bool := false
  tots : List Tot := []
  deriving DecidableEq, Repr

/-- A return of a channel hand (R248). -/
structure Echo where
  b : Nat
  /-- Counts handed on, 1/256. -/
  cm : Int
  c0 : Int
  cp : Int
  /-- Corrected c0, 1/256 (R241). -/
  corr : Int
  suspect : Bool
  volumetric : Bool
  cls : Nat
  trick : Option Nat
  fshift : Nat
  /-- Fine bins handed on, 1/256. -/
  fine : List Int
  /-- BINS: the primary's readout bins with their counts handed on, 1/256 (R248). -/
  bins : List (Nat × Int) := []
  /-- WIDTH (R245). -/
  width : Nat := 0
  /-- HIT as an exact fraction: 16 × the corrected c0 in 1/256, and 256 N (R245). -/
  hit : Int × Nat := (0, 0)
  deriving DecidableEq, Repr

/-- A point record (R264). -/
structure Point where
  channel : Nat
  az : Nat
  range : Nat
  intensity : Nat
  echo : Nat
  cls : Nat
  conf : Nat
  stale : Bool
  transition : Bool
  valid : Bool
  sun : Bool
  uncertain : Bool
  waveform : Bool
  gen : Nat
  deriving DecidableEq, Repr

/-- How far a closed channel hand has come. -/
inductive Stage where
  | swapped | read | rejected | delivered | built
  deriving DecidableEq, Repr

/-- A closed channel hand (R231, R248, R264). -/
structure Closed where
  /-- Its hand count; its buffer is the count modulo 2 (R220). -/
  count : Nat
  stage : Stage
  /-- HIST.ENABLE was 0: delivered empty, with DISABLED (R86). -/
  off : Bool
  openShots : Nat
  trickShots : Nat
  fineShots : Nat
  totalOpen : Nat
  total : Nat
  cands : List Cand
  tricks : List Nat
  tots : List Tot
  /-- A word of the readout was uncorrectable (R402). -/
  bad : Bool := false
  /-- Coarse bins of the automatic readout with their counts, in rising order (R228). -/
  bins : List (Nat × Nat) := []
  /-- Fine bins of each trick (R228). -/
  fine : List (List Nat) := []
  /-- The background per coarse and per fine bin, 1/256 counts (R239). -/
  lambdaC : Nat := 0
  lambdaF : Nat := 0
  /-- BG_NONE: neither estimate was available (R239). -/
  bgNone : Bool := false
  /-- R240. -/
  loss : Nat := 0
  sun : Bool := false
  /-- Primaries that passed the threshold. -/
  echoes : List Echo := []
  /-- Returns passed to the point builder. -/
  passed : List Echo := []
  points : List Point := []
  /-- Tile-shots of its tile in the opening and the trick phase, denied ones counted (R115). -/
  tileOpen : Nat := 0
  tileTrick : Nat := 0
  deriving DecidableEq, Repr

/-- A dump that waits to be read, with the record and the hand that it shows (R232). -/
structure Dump where
  channel : Nat
  /-- A trick dump, otherwise a coarse one. -/
  trick : Bool
  hand : Hand
  record : Closed
  deriving DecidableEq, Repr

/-- The counts of a lidar frame for its trailer (R266). -/
structure FrameCount where
  number : Nat
  records : Nat := 0
  done : Nat := 0
  skipped : Nat := 0
  uncertain : Nat := 0
  transition : Nat := 0
  stale : Nat := 0
  masked : Nat := 0
  commits : Nat := 0
  sun : Nat := 0
  /-- The generation at its last hand. -/
  gen : Nat := 0
  /-- TIME of the boundary that ended it. -/
  ended : Option Nat := none
  deriving DecidableEq, Repr

/-- Histogram engine, rejection and point builder. -/
structure Hist where
  /-- The count of the next hand to begin; 09 R220. -/
  next : Nat := 0
  /-- Slice input FIFOs, oldest first: channel and item; 09 R222, 05 R131. -/
  fifos : List (List (Nat × OutItem)) := List.replicate 32 []
  /-- Open hands by channel; 09 R221. -/
  chans : List HistCh := List.replicate 384 {}
  /-- Closed channel hands by channel, oldest first; 09 R231, 10 R248. -/
  closed : List (List Closed) := List.replicate 384 []
  /-- Channel hand summaries by channel, with their hand counts, oldest first; 08 R205. -/
  sums : List (List (Nat × Summary)) := List.replicate 384 []
  /-- Dumps that wait to be read; 09 R232. -/
  dumps : List Dump := []
  /-- The hand whose marker was written last into the raw-event dump; 09 R233. -/
  rawHand : Option Nat := none
  /-- SRC, LAMBDA, LOSS and ECHOES of the last hand by channel, in the layout of REJ.BG_STAT; 10 R249. -/
  bg : Cells 32 := []
  /-- Held records by channel, from its last hand without CAL; 11 R263. -/
  held : List (Option (List Point)) := List.replicate 384 none
  /-- Waveform records queued: logical channel and hand count; 11 R262, 12 R288. -/
  attached : List (Nat × Nat) := []
  /-- Tiles on which a bid has been raised in the hand being built; 11 R267. -/
  bidTiles : List Nat := []
  /-- TIME of the end of the last hand of RUN, ns; 11 R266. -/
  handEnd : Nat := 0
  /-- Counts of the frames whose trailer has not been sent, oldest first; 11 R266. -/
  frames : List FrameCount := []
  deriving DecidableEq, Repr

/-! ## Waveform capture (spec/12) -/

/-- A sample of a record in the making (R22, R271, R272): of one capture, or summed over captures. -/
structure Smp where
  /-- Some capture had no sample here. -/
  none_ : Bool := false
  ovr : Bool := false
  sat : Bool := false
  value : Int := 0
  deriving DecidableEq, Repr

/-- The record or averaged set in the making (R280-R284). -/
structure AcqSet where
  /-- The register words in force at its first trigger (R283). -/
  cfg : Cells 32
  /-- Bit mask of the sources that fired (R281). -/
  sources : Nat
  primary : Nat
  /-- RECORD (R286). -/
  number : Nat
  /-- The trigger sample of the last capture, on the TCLK axis, where it is known. -/
  sample : Option Nat
  /-- TIME of the first trigger sample, ns. -/
  time : Nat
  gen : Nat
  /-- AZ and hand count of the hand of the first trigger sample; none outside RUN. -/
  hand : Option (Nat × Nat)
  /-- GROUP, SLOT and TAG of the shot that triggered the primary, if it is of shot type. -/
  shot : Option (Nat × Nat × Nat)
  /-- The rate step in force, and the triggers skipped since the record before (R287). -/
  step : Nat
  skipped : Nat
  /-- Captures completed. -/
  done : Nat := 0
  spare : Bool := false
  samples : List Smp := []
  deriving DecidableEq, Repr

/-- A completed record in the capture buffer: its ring entries still to be written (R280, R285). -/
structure WaveOut where
  bank : Nat
  /-- DT and payload of each entry. -/
  entries : List (Nat × List Word36)
  stamp : Nat
  gen : Nat
  /-- Channel and hand count of a record with a shot-type primary (R288). -/
  attach : Option (Nat × Nat)
  deriving DecidableEq, Repr

/-- An entry of the acquisition ring as the link reader knows it (R285, R335). -/
structure RingMark where
  start : Nat
  /-- Payload words. -/
  length : Nat
  dt : Nat
  stamp : Nat
  gen : Nat
  deriving DecidableEq, Repr

/-- A handover between an ADC and the spare that is under way (R274, R276). -/
structure Handover where
  bus : Nat
  /-- To the spare, or back to the bus's own ADC. -/
  toSpare : Bool
  deriving DecidableEq, Repr

/-- Triggers counted as MISSED while a set waits, which its source may still share the sample with (R284). -/
structure LateTriggers where
  sample : Nat
  /-- Bit mask of their sources. -/
  sources : Nat
  /-- ACQ.CNT_A.MISSED before the first of them. -/
  before : Nat
  deriving DecidableEq, Repr

/-- Waveform capture and acquisition (spec/12). -/
structure Acq where
  /-- Device time from which the pre-trigger ring of each bus holds samples of its channel; 12 R273, R279. -/
  since : List (Option Nat) := List.replicate 8 none
  /-- The record or averaged set in the making; 12 R280, R284. -/
  set : Option AcqSet := none
  /-- A capture is being taken; 12 R280. -/
  busy : Bool := false
  /-- HOLDOFF has not yet passed since the trigger sample; 12 R280. -/
  holdoff : Bool := false
  /-- Writes of FORCE whose trigger sample has not yet come; 12 R277. -/
  forces : Nat := 0
  /-- 12 R284. -/
  late : Option LateTriggers := none
  /-- The sample of the last trigger skipped under rate reduction; 12 R281, R287. -/
  skipAt : Option Nat := none
  /-- Single mode has had its record; 12 R282. -/
  done : Bool := false
  /-- Completed records, oldest first; 12 R280. -/
  buffer : List WaveOut := []
  /-- RECORD of the next record; 12 R286. -/
  record : Nat := 0
  /-- Triggers since the last one taken under rate reduction; 12 R287. -/
  phase : Nat := 0
  /-- Triggers skipped since the previous record; 12 R287. -/
  skipped : Nat := 0
  /-- Device time of the last rise of the rate step; 12 R287. -/
  stepUp : Option Nat := none
  /-- Entries in the ring; 12 R285. -/
  marks : List RingMark := []
  /-- The bus whose output the spare drives now; 12 R274. -/
  onSpare : Option Nat := none
  /-- The handover under way; 12 R274. -/
  handover : Option Handover := none
  /-- Buses without samples: the ADC has failed and the spare does not serve yet, or never; 12 R276. -/
  dead : List Nat := []
  /-- ADCs whose retest runs; 12 R276. -/
  retests : List Nat := []
  deriving DecidableEq, Repr

/-! ## Cameras and fusion (spec/13) -/

/-- A row of a camera frame (R300, R301). -/
structure CamRow where
  /-- The line timestamp, ns. -/
  stamp : Nat
  filled : Bool := false
  pad : Bool := false
  trunc : Bool := false
  crc : Bool := false
  /-- Pixels received, within WIDTH. -/
  count : Nat := 0
  /-- Its place in the stripe ring, while its pixels are there (R298). -/
  slot : Option Nat := none
  /-- Its samples once the ISP has them: 16-bit RAW values, or the bytes Y0, U, Y1, V. -/
  samples : List Nat := []
  deriving DecidableEq, Repr

/-- The sums of a frame's statistics (R308). -/
structure CamStats where
  /-- Pixels and sum of Y of each zone of the grid. -/
  grid : List (Nat × Nat) := List.replicate 64 (0, 0)
  bins : List Nat := List.replicate 64 0
  sumR : Nat := 0
  sumG : Nat := 0
  sumB : Nat := 0
  sat : Nat := 0
  deriving DecidableEq, Repr

/-- A camera frame from its start until the ISP has done with it. -/
structure CamFrame where
  number : Nat
  /-- The register words in force at its start (R23, R326). -/
  cfg : Cells 32
  /-- The global generation in force at its start (R27). -/
  gen : Nat
  /-- Exposure generation, EXP and GAIN in force (R311), and the mark of R313. -/
  egen : Nat
  exp : Nat
  gain : Nat
  unsure : Bool
  start : Nat
  rows : List CamRow := []
  ended : Bool := false
  short : Bool := false
  long : Bool := false
  /-- Rows that the ISP has finished. -/
  out : Nat := 0
  stats : CamStats := {}
  statsSent : Bool := false
  deriving DecidableEq, Repr

/-- A cell of a depth raster with a point in it (R318, R319). -/
structure RasterCell where
  cell : Nat
  range : Nat
  count : Nat
  stale : Bool
  uncertain : Bool
  /-- Time of the nearest point, ns, and the image row it fell on. -/
  time : Int
  row : Nat
  dt : Int
  deriving DecidableEq, Repr

/-- An open depth raster (R318, R319), with the settings it was opened with. -/
structure Raster where
  frame : Nat
  bank : Nat
  dec : Nat
  cols : Nat
  rows : Nat
  cells : List RasterCell := []
  /-- Lidar FRAME of its first point. -/
  lidar : Option Nat := none
  unlocked : Bool := false
  late : Bool := false
  early : Bool := false
  deriving DecidableEq, Repr

/-- An exposure relay that is due or under way (R311-R313). -/
structure Relay where
  /-- The frame whose end began the blanking. -/
  frame : Nat
  exp : Nat
  gain : Nat
  /-- Script entries still to be sent. -/
  left : List Nat
  /-- Its first transaction is on the bus. -/
  running : Bool := false
  deriving DecidableEq, Repr

/-- A relayed exposure that awaits its frame (R311). -/
structure EgenDue where
  frame : Nat
  egen : Nat
  exp : Nat
  gain : Nat
  deriving DecidableEq, Repr

/-- A camera port beside its registers. -/
structure CamPort where
  /-- No frame start for two lidar frame periods; 01 R471. -/
  idle : Bool := true
  /-- A deskew sequence has completed; 13 R294. -/
  deskewed : Bool := false
  /-- Frames not done with, oldest first. -/
  frames : List CamFrame := []
  /-- Lines written to the stripe ring; 13 R298. -/
  lines : Nat := 0
  /-- TIME of the last frame start, ns. -/
  started : Option Nat := none
  /-- The frame period measured last, ns; 13 R318. -/
  period : Option Nat := none
  /-- Mean line period of the last complete frame, ns; 13 R301. -/
  linePeriod : Nat := 0
  /-- By row: the last complete frame that received it, and its stamp; 13 R318. -/
  rowTimes : List (Option (Nat × Nat)) := []
  /-- Open rasters; 13 R318. -/
  rasters : List Raster := []
  /-- New EXP or GAIN values wait to be relayed; 13 R311. -/
  need : Bool := false
  relay : Option Relay := none
  /-- Relayed exposures not in force yet; 13 R311. -/
  due : List EgenDue := []
  /-- Frames that carry EXP_UNSURE; 13 R313. -/
  unsure : List Nat := []
  /-- EXP and GAIN in force (DESIGN CHOICE, log entry 24: the values of CAM.EXP at reset before any relay). -/
  exp : Nat := 256
  gain : Nat := 256
  /-- A host transfer waits for the relay, or is on the bus; 13 R315. -/
  hostWaits : Bool := false
  hostRuns : Bool := false
  /-- The bytes that the transaction on the bus, or the last one, sends; 13 R312, R315. -/
  i2c : List Nat := []
  /-- Device time at which the last CAM_FSYNC pulse began; 13 R310. -/
  fsync : Option Nat := none
  deriving DecidableEq, Repr

/-- The cameras (spec/13). -/
structure Cams where
  ports : List CamPort := List.replicate 4 {}
  /-- The through-memory port served last; 13 R299. -/
  served : Nat := 3
  deriving DecidableEq, Repr

/-- A warning zone (R322). -/
structure ZoneSt where
  /-- Qualifying points in the frame. -/
  count : Nat := 0
  /-- Consecutive frames that reached MIN_PTS. -/
  above : Nat := 0
  /-- Consecutive frames below it. -/
  below : Nat := 0
  occupied : Bool := false
  deriving DecidableEq, Repr

/-- Warning zones (spec/13). -/
structure Zones where
  zones : List ZoneSt := List.replicate 64 {}
  /-- Every zone is UNKNOWN; 13 R322. -/
  unknown : Bool := true
  /-- A condition of UNKNOWN has held in the frame; 13 R322. -/
  dirty : Bool := true
  /-- Hands of the frame with MIRROR_UNCERTAIN or skipped; 13 R322. -/
  bad : Nat := 0
  /-- Hands skipped since in the frame after it; 13 R322. -/
  badNext : Nat := 0
  /-- Last hands of the frames that have passed and have not been judged yet, oldest first; 13 R322. -/
  waits : List Hand := []
  /-- Channel and azimuth position of the records that were STALE, in the frame before and in this one; 13 R323. -/
  staleBefore : List (Nat × Nat) := []
  staleNow : List (Nat × Nat) := []
  deriving DecidableEq, Repr

/-! ## Calibration (spec/18) -/

/-- An end-of-line run (R431). -/
structure EolRun where
  apply_ : Bool
  /-- By channel: values collected and their sum, 1/256 LSB. -/
  sums : List (Nat × Int) := List.replicate 384 (0, 0)
  deriving DecidableEq, Repr

/-- The calibration scheduler (R423). -/
structure Cal where
  /-- Own TDCs being calibrated, by channel; 18 R424. -/
  tdcs : List Nat := []
  /-- Kitty TDCs being calibrated in place; 18 R426. -/
  kitties : List Nat := []
  /-- Standby loops with a new selection (2 * page + loop) and their previous cells; 18 R422. -/
  dlls : List (Nat × Nat) := []
  /-- Inputs off-line; 18 R427. -/
  afes : List Nat := []
  /-- Inputs reconnected, whose CAL flag clears at the next hand boundary; 18 R427. -/
  afeEnding : List Nat := []
  /-- The ADC being calibrated, 8 for the spare; 18 R429. -/
  adc : Option Nat := none
  /-- The kitty TDC on which D0 is being measured; 18 R430. -/
  dummy : Option Nat := none
  /-- Elements completed in the pass in progress, by item 0-5; 18 R432. -/
  passes : List (List Nat) := [[], [], [], [], [], []]
  /-- Device time at which each item's results were last stored; 18 R432. -/
  stored : List (Option Nat) := [none, none, none, none, none, none, none]
  /-- The end-of-line run in progress; 18 R431. -/
  eol : Option EolRun := none
  deriving DecidableEq, Repr

/-! ## Safety (spec/16) -/

/-- A safety input (R371, R372). -/
structure SafeIn where
  /-- The filtered level. -/
  filt : Bool := false
  /-- Unmasked samples in a row at the other level. -/
  run : Nat := 0
  /-- Its last test failed. -/
  bad : Bool := false
  deriving DecidableEq, Repr

/-- The discrepancy of a pair of inputs (R374). -/
structure PairSt where
  /-- SAFE cycles for which the filtered levels have differed. -/
  cycles : Nat := 0
  fault : Bool := false
  deriving DecidableEq, Repr

/-- Two-hand control (R375). -/
structure TwoHand where
  /-- SAFE cycles since the first of the two inputs rose. -/
  cycles : Nat := 0
  /-- Both inputs have been low since the last permit or late press. -/
  armed : Bool := false
  permit : Bool := false
  deriving DecidableEq, Repr

/-- A password check under way (R390, R391). -/
structure PwOp where
  /-- The port of the write. -/
  src : Nat
  user : Nat
  chars : List Nat
  deriving DecidableEq, Repr

/-- SAFE beside its registers (spec/16). -/
structure Safe where
  /-- SAFE cycles since the test pulses began; 16 R364, R372. -/
  cycles : Nat := 0
  ins : List SafeIn := List.replicate 8 {}
  /-- Emergency stop, guard door, light curtain; 16 R374. -/
  pairs : List PairSt := List.replicate 3 {}
  two : TwoHand := {}
  /-- SAFE cycles for which the reset input has been high; 16 R370. -/
  resetHeld : Nat := 0
  /-- SAFE cycles since the last valid field code; 16 R382. -/
  codeBad : Nat := 0
  /-- The set that the code selects at the next SAFE cycle; 16 R382. -/
  setNext : Option Nat := none
  /-- Functions in demand: 0 emergency stop, 1 guard door, 2 two-hand, 3 light curtain, 4 field switching, 5 protective field. -/
  demands : List Nat := []
  /-- Functions in lockout after a test fault; 16 R372. -/
  locked : List Nat := []
  /-- Class S faults that await a reset actuation: diagnostics 1 to 11 by number, 13 discrepancy, 14 detector bias,
  15 hazardous emitter fault, 16 failed image swap; 17 R402. -/
  hold : List Nat := []
  /-- The output command; 16 R363. -/
  on : Bool := false
  /-- SAFE cycles since the last change of the command. -/
  since : Nat := 0
  /-- The feedbacks have not followed the last change of the command yet; 16 R369. -/
  edmWait : Bool := false
  /-- SAFE cycles for which a changed feedback has been held; 16 R369. -/
  edmHeld : Nat := 0
  /-- The feedbacks at the last SAFE cycle, SFB0 in bit 0. -/
  sfb : Nat := 0
  /-- Device time that LOCK_TMO counts from; 16 R392. -/
  lockRef : Nat := 0
  /-- USER of the last accepted OPEN; 16 R391, R395. -/
  user : Nat := 0
  /-- SAFE.PW0 to SAFE.PW2 as written; 16 R390. -/
  pw : List Word := [0, 0, 0]
  /-- The password check under way; 16 R390. -/
  check : Option PwOp := none
  /-- The lowest diagnostic recorded in SUPV.LAST since the last SAFE cycle; 16 R396. -/
  lastDiag : Option Nat := none
  deriving DecidableEq, Repr

/-- A lidar frame as FIELD counts it (R379, R405). -/
structure FieldFrame where
  number : Nat
  /-- Q_f. -/
  q : List Nat := List.replicate 24 0
  /-- B. -/
  blind : Nat := 0
  /-- It holds a hand that R405 exempts. -/
  masked : Bool := false
  /-- Fields for which it is intruded. -/
  intruded : List Bool := List.replicate 24 false
  /-- Channel and azimuth position of its STALE records. -/
  stale : List (Nat × Nat) := []
  /-- Its last hand has passed. -/
  ended : Bool := false
  deriving DecidableEq, Repr

/-- FIELD beside its registers (spec/16). -/
structure FieldSt where
  /-- Counting: a frame has begun in RUN with capture complete, and both have held since; 16 R379. -/
  active : Bool := false
  /-- C_f; 16 R379. -/
  counts : List Nat := List.replicate 24 0
  /-- Frames whose hands have not all been evaluated, oldest first. -/
  frames : List FieldFrame := []
  /-- The frame closed last, with its STALE records; 16 R378. -/
  before : Option (Nat × List (Nat × Nat)) := none
  deriving DecidableEq, Repr

/-- The supervisor beside its registers (spec/16). -/
structure Supv where
  /-- A confirmation has come since the supervisor started; 16 R365. -/
  fed : Bool := false
  /-- Device time of the last watchdog fault; 17 R402. -/
  dogAt : Option Nat := none
  /-- Hands since one fell due for comparison; 16 R384. -/
  hands : Nat := 0
  /-- A comparison is running; 16 R384. -/
  comparing : Bool := false
  /-- A due hand waits for the supervisor; 16 R384. -/
  due : Bool := false
  /-- Consecutive passing comparisons; 17 R402. -/
  passes : Nat := 0
  /-- Consecutive failed, skipped and passing DUMMY checks; 16 R385, 17 R402. -/
  dummyFails : Nat := 0
  dummySkips : Nat := 0
  dummyPasses : Nat := 0
  /-- Consecutive root clock windows within range; 17 R402. -/
  clockGood : Nat := 0
  /-- Its own copy of the field configuration; 16 R384. -/
  copy : Cells 32 := []
  deriving DecidableEq, Repr

/-! ## Images (spec/17) -/

/-- A firmware command under way (R413-R415). -/
inductive FwOp where
  | verify
  /-- A swap that waits for the frame boundary. -/
  | swapWaits
  /-- The supervisor has stopped. -/
  | stopped
  /-- The new image runs and has not confirmed the permit. -/
  | started
  deriving DecidableEq, Repr

/-- The global commit that an activation has posted (R412): its boundary, whether its SYNC_IN edge has come and its hand
has been announced, the pages of its requests, and the values held aside. -/
structure Posted where
  boundary : Nat
  armed : Bool
  latched : Bool
  pages : List Nat
  held : List (Nat × Word)
  deriving DecidableEq, Repr

/-- A configuration command under way (R411, R412). -/
inductive CfgOp where
  | store
  /-- An activation whose CRC check runs, with its boundary. -/
  | checking (boundary : Nat)
  /-- The firing frames are being loaded to the tiles. -/
  | loading (boundary : Nat) (held : List (Nat × Word))
  /-- The global commit is posted. -/
  | posted (p : Posted)
  deriving DecidableEq, Repr

/-- Image slots and their commands (spec/17). -/
structure Images where
  fw : Option FwOp := none
  cfg : Option CfgOp := none
  /-- A valid configuration image has been committed since Power-up; 03 R64. -/
  committed : Bool := false
  deriving DecidableEq, Repr

/-! ## The ledger (spec/18) -/

/-- A calibration record (R432): count, TIME of the last completion, date and results as register words. -/
structure CalRecord where
  count : Nat
  time : Nat
  date : Word
  regs : Cells 32
  deriving DecidableEq, Repr

/-- A block write that runs (R439, R441). -/
inductive LedgerOp where
  | bootp
  /-- The calibration records of some items. -/
  | cal (items : List Nat)
  deriving DecidableEq, Repr

/-- What the ledger holds beside its memory words (R439): its blocks, whose word layout the spec does not give. -/
structure Ledger where
  /-- The stored password, of which the device keeps a salted hash; 16 R390. -/
  password : Option (List Nat) := none
  /-- Device time at which the block on OPEN ends; 16 R391. -/
  blockEnd : Option Nat := none
  /-- SEQ of the next change-log entry; 16 R395. -/
  logNext : Nat := 0
  /-- Active configuration and firmware slots, 0 A, 1 B; 17 R408. -/
  cfgActive : Nat := 0
  fwActive : Nat := 0
  /-- FW_MIN; 17 R416. -/
  fwMin : Nat := 0
  /-- The boot parameter block, once it has been written; 03 R56, 18 R441. -/
  bootp : Option Word := none
  /-- The newest calibration record of each item; 18 R432. -/
  cal : List (Option CalRecord) := List.replicate 7 none
  /-- Write counts by word; 18 R440. -/
  wear : Cells 32 := []
  /-- The block writes under way, oldest first; 18 R445. -/
  ops : List LedgerOp := []
  deriving DecidableEq, Repr

/-! ## Housekeeping (spec/18) -/

/-- What GRACE runs for (R437, R438). -/
inductive Grace where
  | idle
  /-- At or above WARN. -/
  | hot
  /-- Below WARN less HYST. -/
  | cool
  deriving DecidableEq, Repr

/-- The thermal steps of the die or of the laser (R437, R438). -/
structure Thermal where
  /-- Consecutive values at or above WARN, CRIT and, for the laser, LSHUT on two inputs. -/
  warn : Nat := 0
  crit : Nat := 0
  shut : Nat := 0
  /-- Steps of SCALE: 0 100 %, 1 50 %, 2 25 %. -/
  scale : Nat := 0
  /-- WARN has been reached, and the way back to 100 % is not complete: THROTTLE_REQ is set. -/
  req : Bool := false
  grace : Grace := .idle
  deriving DecidableEq, Repr

/-- Housekeeping beside its registers (spec/18). -/
structure House where
  /-- Rounds since Power-up; 18 R436. -/
  rounds : Nat := 0
  /-- Consecutive rounds within 6 K of a neighbour, by on-die sensor; 18 R435. -/
  near : List Nat := List.replicate 8 0
  die : Thermal := {}
  laser : Thermal := {}
  deriving DecidableEq, Repr

/-! ## The whole machine -/

/-- How often each kind of memory has lost its contents since POR release (R52, R53). -/
structure Lost where
  ring : Nat := 0
  /-- The queue places of the rings hold what the loss left: no entry to RUN has written them zero since (R116). -/
  queues : Bool := false
  ff : Nat := 0
  hist : Nat := 0
  /-- Channel buffers of the slice memories (2 * channel + buffer) that a flash clear has emptied since (R220),
  in rising order. -/
  cleared : List Nat := []
  bank : Nat := 0
  /-- Writes of the ledger's blocks, whose words the spec does not lay out (R439). -/
  blocks : Nat := 0
  deriving DecidableEq, Repr

/-- The state of the PD9-384. -/
structure State where
  /-- The commands that are waiting, first in first out; the model's own field (log entry 1). -/
  pending : List Instr := []
  /-- Active values of all register words; 04 R80, R10, R53; unlisted words hold their reset value. -/
  regs : Cells 32 := []
  /-- Shadows of the RWS fields; 00 R11, 04 R88; unlisted words hold their reset value. -/
  shadow : Cells 32 := []
  /-- Contents of banks, shot rings, firing frames, histogram slices and ledger, by word address; 04 R80, R83. -/
  mem : Cells 36 := []
  /-- Losses of contents per memory; 03 R52, R53. -/
  lost : Lost := {}
  /-- Memory words that hold a bit error, with true for an uncorrectable one; 15 R352. -/
  ecc : List (Nat × Bool) := []
  /-- Device time since POR release in tenths of ns, never set; the clock that durations are read from; 04 R107. -/
  mono : Nat := 0
  /-- TIME in tenths of ns, modulo 10 times 2^64; 04 R107. -/
  time : Nat := 0
  /-- A time set waiting for a SYNC_IN edge; 04 R107. -/
  timeSet : Option TimeSet := none
  /-- Free values taken so far: the model's own counter, not the spec's (DESIGN CHOICE, log entry 5). -/
  free : Nat := 0
  /-- The device-wide safety lock is open; 04 R84, 16 R391, R392. -/
  lockOpen : Bool := false
  /-- Commit requests pending; 04 R88. -/
  commits : List CommitReq := []
  /-- An ISP request held until the earlier one has taken effect on every port; 01 R471. -/
  ispHeld : Option CommitReq := none
  /-- Lidar requests latched for the boundary announced; 01 R26. -/
  latched : List Latched := []
  /-- Power manager, domains and clocks. -/
  pwr : Power := {}
  /-- Host port. -/
  host : HostPort := {}
  /-- Tableau link. -/
  link : Link := {}
  /-- The Dealer. -/
  deal : Deal := {}
  /-- Laser driver bus. -/
  ldb : Ldb := {}
  /-- Emitter interface. -/
  emit : Emit := {}
  /-- Beam steering. -/
  steer : Steer := {}
  /-- Return channels and time measurement. -/
  ret : Ret := {}
  /-- Histograms, rejection and points. -/
  hist : Hist := {}
  /-- Waveform capture. -/
  acq : Acq := {}
  /-- Cameras. -/
  cam : Cams := {}
  /-- Warning zones. -/
  zone : Zones := {}
  /-- Calibration. -/
  cal : Cal := {}
  /-- SAFE. -/
  safe : Safe := {}
  /-- FIELD. -/
  field : FieldSt := {}
  /-- The supervisor. -/
  supv : Supv := {}
  /-- Image slots. -/
  img : Images := {}
  /-- The ledger. -/
  led : Ledger := {}
  /-- Housekeeping. -/
  hk : House := {}
  /-- The word that the scrub of each bank reads next; 15 R354. -/
  scrub : List Nat := List.replicate 32 0
  deriving DecidableEq, Repr

/-- The machine right after power-on reset: POR release (R51), Power-up, the power-good wait begun (R60),
every register at its reset value, nothing in any memory. -/
def State.reset : State := {}

/-- Why a step would stop with a fault. No meaning of this model faults: what the spec calls a fault
(R400-R405) is an effect on the state. -/
inductive Fault where
  deriving DecidableEq, Repr

/-- Why a step would be refused. -/
inductive Refusal where
  /-- Raised by exec alone, for a command whose meaning has not been written; safe: the run stops. -/
  | notModelled (mnemonic : String)
  deriving DecidableEq, Repr

end Sys2Proof.Machine
end

