-- ==== Sys2Proof/Machine/Ops.lean ====
section
/-! DEFINITION. The named operations over registers, memory, time and packets that every family uses. -/

namespace Sys2Proof.Machine

/-! ## Sparse maps -/

/-- The word at an address, `d` where none is listed. -/
def Cells.get {w : Nat} (d : Nat → BitVec w) (m : Cells w) (a : Nat) : BitVec w :=
  match m with
  | [] => d a
  | (k, v) :: m' => if k = a then v else Cells.get d m' a

/-- A sparse map without the entry of an address. -/
def Cells.erase {w : Nat} (m : Cells w) (a : Nat) : Cells w := m.filter fun e => e.1 != a

/-- An entry put in its place in rising order. -/
def Cells.insert {w : Nat} (m : Cells w) (a : Nat) (v : BitVec w) : Cells w :=
  match m with
  | [] => [(a, v)]
  | e :: m' => if e.1 < a then e :: Cells.insert m' a v else (a, v) :: e :: m'

/-- A word written: writing what an unlisted address reads as removes the entry. -/
def Cells.set {w : Nat} (d : Nat → BitVec w) (m : Cells w) (a : Nat) (v : BitVec w) : Cells w :=
  if v = d a then Cells.erase m a else Cells.insert (Cells.erase m a) a v

/-- The canonical form: addresses strictly rising, no entry equal to what an unlisted address reads as. -/
def Cells.wf {w : Nat} (d : Nat → BitVec w) (m : Cells w) : Bool :=
  match m with
  | [] => true
  | (k, v) :: m' => v != d k && m'.all (fun e => k < e.1) && Cells.wf d m'

/-! ## The register map -/

/-- The fields and the indices of a row that covers a word offset. -/
def RegRow.find? (r : RegRow) (off : Nat) : Option (Nat × Nat) :=
  if off < r.first then none else
  let d := off - r.first
  let i := d / r.strideI
  let e := d % r.strideI
  let j := e / r.strideJ
  if i < r.countI ∧ j < r.countJ ∧ e % r.strideJ = 0 then some (i, j) else none

/-- The pages assigned to blocks (R80). -/
def assigned (p : Nat) : Bool :=
  p ≤ 0x0D || (0x10 ≤ p && p ≤ 0x15) || (0x20 ≤ p && p ≤ 0x32) || (0x38 ≤ p && p ≤ 0x3B) ||
  (0x40 ≤ p && p ≤ 0x44) || p == 0x48

/-- The instance number of a page (R84): k on AFEk, TDCk and CAMk, 0 otherwise. -/
def pageInstance (p : Nat) : Nat :=
  if 0x20 ≤ p ∧ p ≤ 0x27 then p - 0x20 else if 0x28 ≤ p ∧ p ≤ 0x2F then p - 0x28
  else if 0x40 ≤ p ∧ p ≤ 0x43 then p - 0x40 else 0

/-- The domain of a page (R52). -/
def pageDomain (p : Nat) : Nat :=
  if p = 0x0D then 7
  else if p = 0x09 then 5
  else if p = 0x0C then 1
  else if p ≤ 0x0B then 0
  else if p ≤ 0x15 then 1
  else if p ≤ 0x27 then 2
  else if p ≤ 0x30 then 3
  else if p ≤ 0x32 then 4
  else if p ≤ 0x3B then 5
  else if p ≤ 0x44 then 6
  else 8

/-- The pages of a domain (R52). -/
def domainPages (d : Nat) : List Nat := filterRange 0x49 fun p => assigned p && pageDomain p == d

/-- The AON pages and TAB, whose ENABLE is held at 1 (R84, R86). -/
def heldEnabled (p : Nat) : Bool := pageDomain p == 0 || p == 0x48

/-- The common header words that hold stored fields (R84). -/
def headerFields (p off : Nat) : List FieldDef :=
  match off with
  | 1 => [fd 1 1 .wo, fd 0 0 .rws (b2n (heldEnabled p))]
  | 3 => [fd 31 0 .w1c]
  | 4 => [fd 31 0 .rw]
  | 5 => [fd 31 0 .wo]
  | 6 => [fd 31 24 .ro, fd 23 22 .ro, fd 17 10 .ro, fd 9 0 .ro]
  | 7 => [fd 31 31 .wo, fd 15 0 .ro]
  | 8 => [fd 10 10 .ro, fd 9 9 .ro, fd 5 5 .wo, fd 4 4 .w1s, fd 1 0 .rw]
  | 9 => [fd 16 16 .ro, fd 15 8 .ro, fd 7 0 .ro]
  | 10 => [fd 0 0 .rw]
  | _ => []

/-- The fields of the word at an address, with the row's indices; none for reserved words (R9, R84). -/
def fieldsAt (a : Nat) : List FieldDef × Nat × Nat :=
  let p := a / 0x400
  let off := a % 0x400
  if !assigned p then ([], 0, 0)
  else if off ≠ 2 ∧ off < 0x10 then (headerFields p off, 0, 0)
  else
    match (pageRows p).findSome? fun r => (r.find? off).map fun ij => (r.fields, ij.1, ij.2) with
    | some x => x
    | none => ([], 0, 0)

/-- The reset word of a register (R10). -/
def resetNat (a : Nat) : Nat :=
  let (fs, i, j) := fieldsAt a
  fs.foldl (fun acc f =>
    acc + ((f.reset + f.stepI * i + f.stepJ * j + f.stepInst * pageInstance (a / 0x400)) % 2 ^ (f.hi - f.lo + 1)) * 2 ^ f.lo) 0

/-- The reset word of a register (R10): what an unlisted register word holds. -/
def resetWord (a : Nat) : Word := BitVec.ofNat 32 (resetNat a)

/-- The bits of a word whose fields satisfy a test. -/
def fieldMask (a : Nat) (p : FieldDef → Bool) : Nat :=
  (fieldsAt a).1.foldl (fun acc f => if p f then acc + maskOf f.hi f.lo else acc) 0

/-- The bits of a word that have an access code. -/
def accMask (a : Nat) (c : Acc) : Word := BitVec.ofNat 32 (fieldMask a fun f => f.acc == c)

/-- All defined bits of a word. -/
def definedMask (a : Nat) : Word := BitVec.ofNat 32 (fieldMask a fun _ => true)

/-- The word offsets of a page that carry fields of an access code (used by commit and soft reset). -/
def rowOffsets (p : Nat) (c : Acc) : List Nat :=
  (pageRows p).flatMap fun r =>
    if r.fields.any (fun f => f.acc == c) then
      (List.range r.countI).flatMap fun i => (List.range r.countJ).map fun j => r.first + i * r.strideI + j * r.strideJ
    else []

/-! ## Registers -/

/-- The active value of a register word. -/
def State.reg (s : State) (a : Nat) : Word := Cells.get resetWord s.regs a

/-- The shadow of a register word. -/
def State.shad (s : State) (a : Nat) : Word := Cells.get resetWord s.shadow a

/-- The active word of a register replaced. -/
def State.setReg (s : State) (a : Nat) (v : Word) : State := { s with regs := Cells.set resetWord s.regs a v }

/-- The shadow word of a register replaced. -/
def State.setShad (s : State) (a : Nat) (v : Word) : State := { s with shadow := Cells.set resetWord s.shadow a v }

/-- The active value of a field. -/
def State.f (s : State) (x : Fld) : Nat := x.get (s.reg x.addr)

/-- The active value of a one-bit field. -/
def State.fb (s : State) (x : Fld) : Bool := s.f x == 1

/-- The active value of a signed field. -/
def State.fi (s : State) (x : Fld) : Int := signed x.width (s.f x)

/-- The shadow value of a field. -/
def State.fsh (s : State) (x : Fld) : Nat := x.get (s.shad x.addr)

/-- The active value of a field replaced. -/
def State.setF (s : State) (x : Fld) (v : Nat) : State := s.setReg x.addr (x.put (s.reg x.addr) v)

/-- A one-bit field set or cleared. -/
def State.setB (s : State) (x : Fld) (b : Bool) : State := s.setF x (b2n b)

/-- A field replaced by an integer in two's complement. -/
def State.setI (s : State) (x : Fld) (v : Int) : State := s.setF x (unsigned x.width v)

/-- A saturating counter field increased. -/
def State.addF (s : State) (x : Fld) (n : Nat) : State := s.setF x (satAdd x.width (s.f x) n)

/-- A saturating counter field increased by one. -/
def State.incF (s : State) (x : Fld) : State := s.addF x 1

/-- A field raised to a value it has not reached yet (longest times, peaks). -/
def State.maxF (s : State) (x : Fld) (v : Nat) : State := if s.f x < satTo x.width v then s.setF x (satTo x.width v) else s

/-- Fields cleared. -/
def State.clearFs (s : State) (xs : List Fld) : State := xs.foldl (fun s x => s.setF x 0) s

/-- The RWS bits of a register word. -/
def rwsMask (a : Nat) : Word := accMask a .rws

/-- A word with its RWS fields taken from another. -/
def mergeRws (a : Nat) (old new : Word) : Word := (old &&& ~~~rwsMask a) ||| (new &&& rwsMask a)

/-- A register word with its RWS fields taken from its shadow. -/
def State.merged (s : State) (a : Nat) : Word := mergeRws a (s.reg a) (s.shad a)

/-- The addresses of a page that two sparse lists name: elsewhere both read as at reset. -/
def listedIn (p : Nat) (x y : Cells 32) : List Nat :=
  let l := (x.filter fun e => e.1 / 0x400 == p).map (·.1)
  l ++ ((y.filter fun e => e.1 / 0x400 == p && !l.contains e.1).map (·.1))

/-- The words of a page whose RWS fields differ from their shadows, as a commit would leave them (R23, R88). -/
def State.changes (s : State) (p : Nat) : Cells 32 :=
  (listedIn p s.shadow s.regs).filterMap fun a => if s.merged a = s.reg a then none else some (a, s.merged a)

/-- Register words with the RWS fields of some words put over them. -/
def putRws (m : Cells 32) (ws : Cells 32) : Cells 32 :=
  ws.foldl (fun m w => Cells.set resetWord m w.1 (mergeRws w.1 (Cells.get resetWord m w.1) w.2)) m

/-- The settings that a request of a page would make active (R88). -/
def State.candidate (s : State) (p : Nat) : State := { s with regs := putRws s.regs (s.changes p) }

/-- The settings that govern the hand announced (R26): the active ones with the latched words put over them. -/
def State.asNext (s : State) : State :=
  { s with regs := s.latched.foldl (fun m l => putRws m l.words) s.regs }

/-- The state seen with the settings of a hand that is being finished (R26). -/
def State.asOf (s : State) (h : Hand) : State := { s with regs := h.cfg }

/-- A word of the common header of a page. -/
def hdr (p off : Nat) : Nat := p * 0x400 + off

/-- The active ENABLE of a page (R86). -/
def State.enabled (s : State) (p : Nat) : Bool := (s.reg (hdr p 1)).getLsbD 0

/-! ## Memory -/

/-- The memory region of an address: 1 rings, 2 firing frames, 3 histogram window, 4 banks, 5 ledger; 0 none (R80). -/
def memRegion (a : Nat) : Nat :=
  if 0x400000 ≤ a ∧ a < 0x600000 then 4
  else if 0xA00000 ≤ a ∧ a < 0xA40000 then 1
  else if 0xA40000 ≤ a ∧ a < 0xA44000 then 2
  else if 0xB00000 ≤ a ∧ a < 0xBD8000 then 3
  else if 0xC00000 ≤ a ∧ a < 0xC70000 then 5
  else 0

/-- The owning page of a memory region. -/
def regionPage (r : Nat) : Nat :=
  match r with
  | 1 => 0x10
  | 2 => 0x12
  | 3 => 0x38
  | 5 => 0x0A
  | _ => 0x0D

/-- How often the memory of an address has lost its contents. -/
def Lost.count (l : Lost) (a : Nat) : Nat :=
  match memRegion a with
  | 1 => l.ring
  | 2 => l.ff
  | 3 => l.hist
  | 4 => l.bank
  | _ => 0

/-- A queue place of a ring: places 1-15 (R116). -/
def queuePlace (a : Nat) : Bool := memRegion a == 1 && a % 32 ≥ 2

/-- The channel buffer of a histogram word: 2 * channel + buffer (R219). -/
def histBuffer (a : Nat) : Nat :=
  let d := a - 0xB00000
  let r := d % 0x3600
  2 * (12 * (d / 0x6C00) + (if r < 0x3000 then r / 0x400 else (r - 0x3000) / 0x80)) + d / 0x3600 % 2

/-- A word of the ledger blocks and calibration records, whose layout the spec does not give (R439). -/
def blockWord (a : Nat) : Bool := (0xC40000 ≤ a && a < 0xC40060) || (0xC40100 ≤ a && a < 0xC48000)

/-- A value for a memory word, its reserved bits zero (R9): those of firing frames (R136) and of word 0 of a ring (R117). -/
def memBits (a : Nat) (d : Word36) : Word36 :=
  if memRegion a = 2 then d &&& 0x0FFFFFFF0
  else if memRegion a = 1 ∧ a % 32 = 0 then d &&& 0xFFFF01FFF
  else d

/-- What an unlisted memory word reads as: a free value in the ledger's blocks (log entry 30); elsewhere 0 before anything is lost (DESIGN CHOICE, log entry 7), a free
value after a loss of contents, its reserved bits zero (R9); queue places read 0 again from the next entry to RUN on (R116), and channel
buffers of the slice memories from their next flash clear on (R220). -/
def memDefault (l : Lost) (a : Nat) : Word36 :=
  if blockWord a then Config.lostWord 5 l.blocks a
  else if l.count a = 0 || (queuePlace a && !l.queues) || (memRegion a == 3 && l.cleared.contains (histBuffer a)) then 0
  else memBits a (Config.lostWord (memRegion a) (l.count a) a)

/-- A memory word. -/
def State.rd (s : State) (a : Nat) : Word36 := Cells.get (memDefault s.lost) s.mem a

/-- A memory word written; the write stores fresh check bits, so a bit error there is gone (R352). -/
def State.wr (s : State) (a : Nat) (v : Word36) : State :=
  { s with mem := Cells.set (memDefault s.lost) s.mem a v, ecc := s.ecc.filter fun e => e.1 != a }

/-- Bits of a memory word. -/
def State.rdN (s : State) (a lo width : Nat) : Nat := bitsOf (s.rd a).toNat lo width

/-- Bits of a memory word replaced. -/
def State.wrN (s : State) (a lo width v : Nat) : State :=
  s.wr a (BitVec.ofNat 36 (putBits (s.rd a).toNat lo width v))

/-- A memory region loses its contents: its entries go, and unlisted words read as free values. -/
def State.loseRegion (s : State) (r : Nat) : State :=
  { s with
    mem := s.mem.filter fun e => memRegion e.1 != r
    ecc := s.ecc.filter fun e => memRegion e.1 != r
    lost :=
      match r with
      | 1 => { s.lost with ring := s.lost.ring + 1, queues := true }
      | 2 => { s.lost with ff := s.lost.ff + 1 }
      | 3 => { s.lost with hist := s.lost.hist + 1, cleared := [] }
      | 4 => { s.lost with bank := s.lost.bank + 1 }
      | _ => s.lost }

/-- What the ledger holds replaced by a write of one of its blocks (R439): the block's words read as new free values. -/
def State.blockWrite (s : State) (l : Ledger) : State :=
  { s with led := l, lost := { s.lost with blocks := s.lost.blocks + 1 }, mem := s.mem.filter fun e => !blockWord e.1 }

/-- A memory word holds an uncorrectable error (R352, R402). -/
def State.eccBad (s : State) (a : Nat) : Bool := s.ecc.any fun e => e.1 == a && e.2

/-- A channel buffer of the slice memories flash-cleared (R220). -/
def State.flashClear (s : State) (k : Nat) : State :=
  { s with
    mem := s.mem.filter fun e => !(memRegion e.1 == 3 && histBuffer e.1 == k)
    ecc := s.ecc.filter fun e => !(memRegion e.1 == 3 && histBuffer e.1 == k)
    lost := if s.lost.hist = 0 || s.lost.cleared.contains k then s.lost
            else { s.lost with cleared := insertBy (fun a b => decide (a < b)) k s.lost.cleared } }

/-- The number of the next free value; the counter moves on. -/
def State.takeFree (s : State) : Nat × State := (s.free, { s with free := s.free + 1 })

/-! ## Time (R107) -/

/-- The root PLL is locked or in holdover: TIME counts TCLK periods. -/
def State.onPll (s : State) : Bool := s.fb CLK.REFSEL.LOCK || s.fb CLK.REFSEL.HOLDOVER

/-- TIME counts modulo 2^64 ns, in tenths. -/
def timeModulus : Nat := 10 * 2 ^ 64

/-- One clock tick: 0.8 ns on TCLK, 10 ns on SOSC (R107). -/
def State.tick (s : State) : State :=
  let d := if s.onPll then 8 else 100
  { s with mono := s.mono + d, time := (s.time + d) % timeModulus }

/-- TIME in whole ns, rounded down. -/
def State.timeNs (s : State) : Nat := s.time / 10

/-- Microseconds of device time since an instant. -/
def State.usSince (s : State) (t : Nat) : Nat := (s.mono - t) / 10000

/-! ## Packets (R332-R336) -/

/-- QoS class and VC of a data type (R335); VC of camera types is added by the caller. -/
def dtClass (dt : Nat) : Nat :=
  match dt with
  | 0x31 | 0x3F => 0
  | 0x10 | 0x11 | 0x30 | 0x39 | 0x3E => 1
  | 0x28 | 0x29 | 0x2A | 0x2B => 2
  | _ => 3

/-- VC of a data type (R335), with the camera port where the type has one. -/
def dtVc (dt port : Nat) : Nat :=
  match dt with
  | 0x10 | 0x11 => 0
  | 0x30 | 0x31 => 1
  | 0x28 | 0x29 | 0x2A | 0x2B => 2 + port
  | 0x18 | 0x19 => 6
  | 0x20 | 0x21 => 7
  | 0x3E => 9
  | 0x3F => 10
  | _ => 8

/-- Words a packet takes in its queue: header, payload and trailer (DEDUCED from R336's 3,075, log entry 12). -/
def Packet.size (p : Packet) : Nat := p.payload.length + 3

/-- Words in a queue. -/
def queueWords (q : List Packet) : Nat := q.foldl (fun n p => n + p.size) 0

/-- Capacity of the queue of a class (R336). -/
def queueCap (c : Nat) : Nat :=
  match c with
  | 0 => 2048
  | 1 => 65536
  | 2 => 65536
  | _ => 16384

/-- The queue of a class. -/
def Link.queue (l : Link) (c : Nat) : List Packet :=
  match c with
  | 0 => l.qA
  | 1 => l.qB
  | 2 => l.qC
  | _ => l.qD

/-- The queue of a class replaced. -/
def Link.setQueue (l : Link) (c : Nat) (q : List Packet) : Link :=
  match c with
  | 0 => { l with qA := q }
  | 1 => { l with qB := q }
  | 2 => { l with qC := q }
  | _ => { l with qD := q }

/-- Whether the queue of a class can take a packet of `n` payload words whole (R336). -/
def Link.room (l : Link) (c n : Nat) : Bool := queueWords (l.queue c) + n + 3 ≤ queueCap c

/-- The low 4 bits of the global generation (R25, R335). -/
def State.gen4 (s : State) : Nat := s.f CHIP.GEN.GLOBAL % 16

/-- A packet of the next SEQ of its VC (R334), and the link with that SEQ taken. -/
def Link.build (l : Link) (dt port gen stamp : Nat) (payload : List Word36) : Packet × Link :=
  let vc := dtVc dt port
  ({ dt := dt, vc := vc, gen := gen % 16, seq := nth l.seqs vc 0, stamp := stamp, payload := payload },
   { l with seqs := setNth l.seqs vc ((nth l.seqs vc 0 + 1) % 4096) })

/-- A 36-bit word from a number. -/
def w36 (n : Nat) : Word36 := BitVec.ofNat 36 n

/-- High and low halves of a 64-bit value as two payload words. -/
def halves (v : Nat) : List Word36 := [w36 (v / 2 ^ 32 % 2 ^ 32), w36 (v % 2 ^ 32)]

end Sys2Proof.Machine
end

