-- ==== Sys2Proof/Machine/Flags.lean ====
section
/-! DEFINITION. Status flags: page events and errors, the interrupt summary and INT_N, event packets, and
the queueing of packets with the drop flags of the link (R84, R87, R103, R104, R334, R336). -/

namespace Sys2Proof.Machine

/-- The summary bit of a page (R103). -/
def State.summary (s : State) (p : Nat) : Bool := (s.reg (hdr p 3)) &&& (s.reg (hdr p 4)) != 0

/-- The INTC mask bit of a page (R105). -/
def State.intMasked (s : State) (p : Nat) : Bool := (s.reg (INTC.MASK (p / 32))).getLsbD (p % 32)

/-- INT_N is driven low: also the pending enabled interrupt of the wake rule (R103). It is released while unpowered and in
Power-up (R44). -/
def State.intPending (s : State) : Bool :=
  s.pwr.st != .unpowered && s.pwr.st != .powerUp && s.fb INTC.CTRL.INT_EN && (List.range 0x49).any fun p => assigned p && s.summary p && s.intMasked p

/-- A packet put into the queue of its class; a class C or D packet that finds no room is discarded and
counted (R336). The SEQ is taken either way (R334). -/
def State.enqueue (s : State) (dt port gen stamp : Nat) (payload : List Word36) : State × Bool :=
  let (p, l) := s.link.build dt port gen stamp payload
  let c := dtClass dt
  if c < 2 || l.room c payload.length then ({ s with link := l.setQueue c (l.queue c ++ [p]) }, true)
  else ({ s with link := l }, false)

/-- The interrupt event packet of R104. -/
def State.intEventPacket (s : State) (p t : Nat) : State :=
  (s.enqueue 0x39 0 s.gen4 s.timeNs
    ([w36 (0x01 * 2 ^ 24 + p), w36 (s.reg (hdr p 3)).toNat] ++ halves t)).1

/-- A rising of the summary bit of a page (R104). -/
def State.summaryRose (s : State) (p : Nat) : State :=
  if !(s.fb INTC.CTRL.EVT_EN && s.intMasked p) then s else
  match s.host.merges.find? fun m => m.page == p with
  | some m =>
    match m.first with
    | some _ => s
    | none =>
      { s with host := { s.host with merges := s.host.merges.map fun m => if m.page = p then { m with first := some s.timeNs } else m } }
  | none =>
    let s := s.intEventPacket p s.timeNs
    { s with host := { s.host with merges := s.host.merges ++ [{ page := p, first := none }] } }

/-- INT_STAT of a page replaced, with the event packet that a rising of the summary bit sends (R103, R104). -/
def State.setIntStat (s : State) (p : Nat) (v : Word) : State :=
  let t := s.setReg (hdr p 3) v
  if !s.summary p && t.summary p then t.summaryRose p else t

/-- An event of a page: its INT_STAT bit is set (R84). -/
def State.event (s : State) (p bit : Nat) : State :=
  s.setIntStat p (s.reg (hdr p 3) ||| BitVec.ofNat 32 (2 ^ bit))

/-- An event where a condition holds. -/
def State.eventIf (s : State) (b : Bool) (p bit : Nat) : State := if b then s.event p bit else s

/-- ERR_CAUSE word (R84). -/
def errWord (code src pg off : Nat) : Word :=
  BitVec.ofNat 32 (code % 256 * 2 ^ 24 + src % 4 * 2 ^ 22 + pg % 256 * 2 ^ 10 + off % 1024)

/-- An error of a page: the first is latched in ERR_CAUSE, all are counted (R87). `pg` and `off` are what
ERR_CAUSE names. -/
def State.errAt (s : State) (p code src pg off : Nat) : State :=
  let latched := (s.reg (hdr p 3)).getLsbD 31
  let s := if latched then s else s.setReg (hdr p 6) (errWord code src pg off)
  let s := s.addF ⟨hdr p 7, 0, 16⟩ 1
  s.event p 31

/-- The source code of a port in ERR_CAUSE (R84). -/
def portSrc : Port → Nat
  | .spi => 1
  | .inband => 2

/-- An error on the register word at an address of its own page (R87). -/
def State.err (s : State) (code src a : Nat) : State := s.errAt (a / 0x400) code src (a / 0x400) (a % 0x400)

/-- A packet sent to the link, with the drop count and event of its class when the queue is full (R336). -/
def State.sendPacket (s : State) (dt port gen stamp : Nat) (payload : List Word36) : State :=
  let (s', ok) := s.enqueue dt port gen stamp payload
  if ok then s'
  else if dtClass dt = 2 then (s'.incF TAB.DROP.C).event 0x48 7
  else (s'.incF TAB.DROP.D).event 0x48 8

/-- A link event packet, KIND 0x03 (R345). -/
def State.linkEvent (s : State) (cause logical physical : Nat) : State :=
  s.sendPacket 0x39 0 s.gen4 s.timeNs
    ([w36 (0x03 * 2 ^ 24 + cause), w36 (logical % 16 * 16 + physical % 16), w36 0] ++ halves s.timeNs)

end Sys2Proof.Machine
end

