-- ==== Sys2Proof/Machine/Domains.lean ====
section
/-! DEFINITION. Power domains as the blocks see them: their state, and the access that wakes one (R52, R76). -/

namespace Sys2Proof.Machine

/-- The state of a domain. -/
def State.dom (s : State) (d : Nat) : DomState := nth s.pwr.domains d .off

/-- The state of a domain replaced. -/
def State.setDom (s : State) (d : Nat) (x : DomState) : State :=
  { s with pwr := { s.pwr with domains := setNth s.pwr.domains d x } }

/-- A domain is on and ready. -/
def State.domOn (s : State) (d : Nat) : Bool := s.dom d == .on

/-- A domain is in its commit window or being switched off (R72, R76). -/
def State.goingOff (s : State) (d : Nat) : Bool :=
  s.pwr.shakes.any fun k => k.doms.contains d && k.stage != .querying

/-- An access to an off domain switches it on alone (R76): in STANDBY for a while, in READY and RUN by clearing its
off request. One that is being switched off is woken after that. -/
def State.accessWake (s : State) (d : Nat) : State :=
  let note (s : State) : State :=
    if s.pwr.st = .standby then
      if s.pwr.accessOn.contains d then s else { s with pwr := { s.pwr with accessOn := s.pwr.accessOn ++ [d] } }
    else s.setF PWR.DOMAIN.OFF_REQ (putBits (s.f PWR.DOMAIN.OFF_REQ) d 1 0)
  if s.goingOff d then
    if s.pwr.wakeAfter.contains d then s else { s with pwr := { s.pwr with wakeAfter := s.pwr.wakeAfter ++ [d] } }
  else if s.dom d = .off then (note s).setDom d .waking
  else s

end Sys2Proof.Machine
end

