-- ==== Sys2Proof/Machine/Banks.lean ====
section
/-! DEFINITION. General memory banks (spec/15): owners, movers, ECC, scrub, reclaim. -/

namespace Sys2Proof.Machine

/-- The plain address of a word of a bank (R350). -/
def bankAddr (b w : Nat) : Nat := 0x400000 + b % 32 * 0x10000 + w % 0x10000

/-- The owner of a bank (R356). -/
def State.owner (s : State) (b : Nat) : Nat := s.f (BANK.OWN.OWNER b)

/-- RBANK_p of a port (R329). -/
def rbank (p : Nat) : Fld :=
  match p with
  | 0 => ZONE.RBANK.RBANK0
  | 1 => ZONE.RBANK.RBANK1
  | 2 => ZONE.RBANK.RBANK2
  | _ => ZONE.RBANK.RBANK3

/-- The page of a block that can own banks. -/
def ownerPage (code : Nat) : Nat :=
  if code = 2 then 0x38 else if code = 3 then 0x32 else if code < 8 then 0x40 + (code - 4) else 0x3B

/-- The code under which a page reports a bank that it may not use (R357). -/
def bankCode (code : Nat) : Nat := if 8 ≤ code then 0x12 else 0x14

/-- The settings of a state have an owner use a bank (R356). -/
def State.blockUses (s : State) (code b : Nat) : Bool :=
  if code = 2 then s.f HIST.MODE.MODE == 2 && s.f HIST.RAW.BANK == b
  else if code = 3 then s.f ACQ.MODE.MODE != 0 && s.f ACQ.OUT.BANK == b
  else if 4 ≤ code ∧ code < 8 then s.f (CAM.STREAM.MODE (code - 4)) == 2 && s.f (CAM.STREAM.BANK (code - 4)) == b
  else if 8 ≤ code ∧ code < 12 then bitOf (s.f ZONE.PROJ.RASTER_EN) (code - 8) && s.f (rbank (code - 8)) == b
  else false

/-- A bank may be given to another owner (R358). -/
def State.bankFree (s : State) (b : Nat) : Bool :=
  let o := s.owner b
  if o < 2 || o == 0xE then true
  else !s.blockUses o b && !s.asNext.blockUses o b &&
    !(s.commits.any (·.page == ownerPage o) && (s.candidate (ownerPage o)).blockUses o b) && !s.fb (BANK.OWN.OPEN b)

/-- A write of BANK.OWNb (R356, R358, R362): RECLAIMED is cleared by a 1, OWNER moves or is refused. -/
def State.ownerWrite (s : State) (src b d : Nat) : State :=
  let s := if bitOf d 9 then s.setB (BANK.OWN.RECLAIMED b) false else s
  let o := bitsOf d 0 4
  if 0xC ≤ o then s.err 0x11 src (BANK.OWN b)
  else if s.bankFree b then s.setF (BANK.OWN.OWNER b) o
  else s.err 0x10 src (BANK.OWN b)

/-- BANK_OWNER_WRITE (R358). -/
def execBankOwnerWrite (src : Port) (bank : Fin 32) (data : BitVec 32) (s : State) : Host.Outcome State Fault Refusal :=
  .next (s.ownerWrite (portSrc src) bank.val data.toNat)

/-! ## ECC (R352-R354) -/

/-- An error of a bank word counted and recorded (R352). -/
def State.bankError (s : State) (a : Nat) (unc : Bool) : State :=
  let d := a - 0x400000
  let s := ((s.setB BANK.ECC_LAST.UNC unc).setF BANK.ECC_LAST.BANK (d / 0x10000)).setF BANK.ECC_LAST.WORD (d % 0x10000)
  if unc then (s.incF BANK.ECC_CNT.UNC).event 0x0D 1 else (s.incF BANK.ECC_CNT.CORR).event 0x0D 0

/-- An error of a word of another memory counted (R82, R352); BANK.ECC_LAST names words of banks only (log entry 105). -/
def State.eccCount (s : State) (unc : Bool) : State :=
  if unc then (s.incF BANK.ECC_CNT.UNC).event 0x0D 1 else (s.incF BANK.ECC_CNT.CORR).event 0x0D 0

/-- A bank word read: its error, if any, is handled, a correctable one by a write-back (R352). -/
def State.bankRead (s : State) (a : Nat) : State :=
  match s.ecc.find? (·.1 == a) with
  | none => s
  | some (_, true) => s.bankError a true
  | some (_, false) => ({ s with ecc := s.ecc.filter (·.1 != a) }).bankError a false

/-- A word of the banks, rings, firing frames or slices read: its error, if any, is handled (R82, R352). -/
def State.eccRead (s : State) (a : Nat) : State :=
  if memRegion a = 4 then s.bankRead a else
  match s.ecc.find? (·.1 == a) with
  | none => s
  | some (_, true) => s.eccCount true
  | some (_, false) => ({ s with ecc := s.ecc.filter (·.1 != a) }).eccCount false

/-- SCRUB_READ (R354): the next word of a bank. -/
def execScrubRead (bank : Fin 32) (s : State) : Host.Outcome State Fault Refusal :=
  if !s.fb BANK.CFG.SCRUB_EN ∨ !s.enabled 0x0D ∨ !s.domOn 7 then .next s else
  let b := bank.val
  let w := nth s.scrub b 0
  .next ({ s with scrub := setNth s.scrub b ((w + 1) % 0x10000) }.bankRead (bankAddr b w))

/-! ## Movers (R353, R360, R361) -/

/-- A mover of an owner gets cycles of a bank (R86, R357, R360); one that finds the domain off wakes it. -/
def State.moverOk (s : State) (code b : Nat) : Bool := s.enabled 0x0D && s.domOn 7 && s.owner b == code

/-- A mover writes words of a bank, from a word on and within the bank; false where it gets no cycle. The
descriptor is open until it ends (R360). -/
def State.moverWrite (s : State) (code b w : Nat) (vs : List Word36) : State × Bool :=
  if s.moverOk code b then
    let (s, _) := vs.foldl (fun (s, i) v => (s.wr (bankAddr b (w + i)) v, i + 1)) (s, 0)
    (s.setB (BANK.OWN.OPEN b) true, true)
  else if s.enabled 0x0D && s.owner b == code then (s.accessWake 7, false)
  else (s, false)

/-- A mover reads `n` words of a bank: the words, or none where one is uncorrectable (R353). -/
def State.moverRead (s : State) (b w n : Nat) : State × Option (List Word36) :=
  let as := (List.range n).map fun i => bankAddr b (w + i)
  let bad := as.any s.eccBad
  let s := as.foldl (fun s a => s.bankRead a) s
  if bad then (s.incF BANK.DROP.COUNT, none) else (s.setB (BANK.OWN.OPEN b) true, some (as.map s.rd))

/-- MOVER_DESCRIPTOR_END (R360). -/
def execMoverDescriptorEnd (bank : Fin 32) (s : State) : Host.Outcome State Fault Refusal :=
  .next (s.setB (BANK.OWN.OPEN bank.val) false)

/-- OWNER_RECLAIM (R361): a descriptor open longer than OWN_TIMEOUT; `discarded` is the number of pending writes. -/
def execOwnerReclaim (bank : Fin 32) (discarded : Nat) (s : State) : Host.Outcome State Fault Refusal :=
  let b := bank.val
  let o := s.owner b
  if !s.fb (BANK.OWN.OPEN b) ∨ o < 2 ∨ 0xC ≤ o ∨ !s.domOn 7 then .next s else
  let s := ((s.setF (BANK.OWN.PREV b) o).setF (BANK.OWN.OWNER b) 0xE).setB (BANK.OWN.RECLAIMED b) true
  let s := (s.setB (BANK.OWN.OPEN b) false).setF BANK.RECLAIM.DISCARDED (satTo 16 discarded)
  let s := (s.incF BANK.RECLAIM.COUNT).event 0x0D 2
  .next (s.errAt (ownerPage o) (bankCode o) 0 0x0D (0x10 + b))

/-- A write of 1 to BANK.CNT_CLR (R362). -/
def State.bankCntClr (s : State) : State :=
  ((s.setReg BANK.ECC_CNT 0).setF BANK.RECLAIM.COUNT 0).setReg BANK.DROP 0

/-- BANK_CNT_CLR (R362). -/
def execBankCntClr (s : State) : Host.Outcome State Fault Refusal := .next s.bankCntClr

end Sys2Proof.Machine
end

