-- ==== Sys2Proof/Machine/Faults.lean ====
section
/-! DEFINITION. Fault classes as conditions of the state (R400, R402), and the level of FAULT_N (R44). -/

namespace Sys2Proof.Machine

/-- A class S fault is active (R402): a shut-off laser, the detector bias, a diagnostic but 12, a fault that awaits
its reset, or a lost host whose reaction is more than a report. -/
def State.classS (s : State) : Bool :=
  s.fb EMIT.FAULT.HAZ || s.fb (AFE.DBIAS_VAL.OUT 0) || s.f SUPV.DIAG.FAIL % 2 ^ 11 != 0 || !s.safe.hold.isEmpty ||
  (s.fb TAB.HOST.HOST_LOST && s.f TAB.HOST.REACT != 0)

/-- FAULT_N is low (R44): always while unpowered, in Power-up and in FOLD, and otherwise while a class S or
F fault is active. -/
def State.faultLow (s : State) : Bool :=
  match s.pwr.st with
  | .unpowered | .powerUp | .fold => true
  | _ => s.classS

/-! ## Changes given up (R403) -/

/-- A configuration image activation is in progress (R412). -/
def Images.activating (i : Images) : Bool :=
  match i.cfg with
  | some .store => false
  | some _ => true
  | none => false

/-- A firmware image swap is in progress (R414). -/
def Images.swapping (i : Images) : Bool := i.fw == some .swapWaits || i.fw == some .stopped || i.fw == some .started

/-- The end of a FW_CMD command (R413-R415). -/
def State.fwEnds (s : State) (result : Nat) (next : Option FwOp) : State :=
  let s := (s.setB BOOT.FW_STAT.BUSY false).setF BOOT.FW_STAT.RESULT result
  { s with img := { s.img with fw := next } }.event 0x03 0

/-- The end of a CFG_CMD command (R411, R412). -/
def State.cfgEnds (s : State) (result : Nat) : State :=
  let s := (s.setB BOOT.CFG_STAT.BUSY false).setF BOOT.CFG_STAT.RESULT result
  { s with img := { s.img with cfg := none } }.event 0x03 2

/-- The requests that an activation has posted are withdrawn. -/
def State.withdraw (s : State) : State :=
  match s.img.cfg with
  | some (.posted p) =>
    { s with
      commits := s.commits.filter fun c => !p.pages.contains c.page
      latched := s.latched.filter fun l => !p.pages.contains l.page }
  | _ => s

/-- An activation or a swap before its commit instant is given up (R403): a swap until its new image has started. -/
def State.abandonChange (s : State) : State :=
  let s := if s.img.activating then s.withdraw.cfgEnds 6 else s
  match s.img.fw with
  | some .swapWaits => s.fwEnds 6 none
  | some .stopped => (s.setB SUPV.STATUS.PAUSED false).fwEnds 6 none
  | _ => s

end Sys2Proof.Machine
end

