-- ==== Sys2Proof/Machine/Link.lean ====
section
/-! DEFINITION. The Tableau link (spec/14): packets on the wire, bring-up, failover, receive lanes, heartbeats,
time sets, test patterns. -/

namespace Sys2Proof.Machine

/-! ## Packets on the wire (R332) -/

/-- Word 0 of the packet header (R332). -/
def Packet.word0 (p : Packet) : Word36 :=
  w36 (p.vc % 16 * 2 ^ 32 + p.dt % 256 * 2 ^ 24 + p.payload.length % 65536 * 2 ^ 8 + p.gen % 16 * 2 ^ 4 + dtClass p.dt * 2 ^ 2)

/-- Word 1 of the packet header (R332). -/
def Packet.word1 (p : Packet) : Word36 := w36 (p.seq % 4096 * 2 ^ 24 + p.stamp % 2 ^ 24)

/-- One bit into a bit-serial CRC of `n` bits, most significant bit first. -/
def crcBit (n poly crc : Nat) (b : Bool) : Nat :=
  let sh := crc * 2 % 2 ^ n
  if (crc.testBit (n - 1)) != b then sh ^^^ poly else sh

/-- The `n` low bits of `v`, most significant first, into a CRC of `w` bits. -/
def crcBits (w poly : Nat) (crc v : Nat) : Nat → Nat
  | 0 => crc
  | n + 1 => crcBits w poly (crcBit w poly crc (v.testBit n)) v n

/-- The CRC-32 of the trailer over header and payload (R332). -/
def packetCrc (ws : List Word36) : Nat :=
  (ws.foldl (fun c x => crcBits 32 0x04C11DB7 c x.toNat 36) 0xFFFFFFFF) ^^^ 0xFFFFFFFF

/-- The CRC-8 of R97 over fields given as (value, number of bits). -/
def crc8 (fs : List (Nat × Nat)) : Nat :=
  (fs.foldl (fun c x => crcBits 8 0x2F c x.1 x.2) 0xFF) ^^^ 0xFF

/-- The words of a packet as they leave: header, payload, trailer (R332). The bits that INJECT.CRC corrupts
are not stated; the model inverts bit 0 (DESIGN CHOICE, log entry 13). -/
def Packet.words (p : Packet) : List Word36 :=
  let body := [p.word0, p.word1] ++ p.payload
  body ++ [w36 (if p.badCrc then packetCrc body ^^^ 1 else packetCrc body)]

/-- The stream blocks of a packet: one SOP, and 9 data blocks for each 16 words (R332). -/
def Packet.blockCount (p : Packet) : Nat := 1 + 9 * divUp p.size 16

/-! ## Heartbeats and the order of the stream -/

/-- The device heartbeat (R343), COUNT with this one included. -/
def State.heartbeatPayload (s : State) : List Word36 :=
  let delivering (f : Fld) : Nat := b2n (bitOf (s.f f) 4)
  [w36 ((s.link.hbCount + 1) % 2 ^ 32)] ++ halves s.timeNs ++
  [w36 (s.f CHIP.GEN.GLOBAL * 2 ^ 16 + s.f BOOT.CAUSE.CODE * 2 ^ 8 +
      (match s.pwr.st with | .ready => 1 | .run => 2 | .standby => 3 | .fold => 8 | _ => 0) * 2 ^ 4 +
      s.f TAB.HOST.HOST_LOST * 2 + b2n s.faultLow),
   s.reg TAB.HOST_COUNT |>.setWidth 36,
   w36 (s.f TAB.TX_STAT.FAILED * 2 ^ 16 + s.f TAB.TX_STAT.SPARE * 2 ^ 12 + s.f TAB.STATUS.NARROW * 2 ^ 2 +
      delivering TAB.RX_STAT.B * 2 + delivering TAB.RX_STAT.A)]

/-- A device heartbeat built, if the link is up (R343); `front` puts it before what waits (R337 step 5). -/
def State.heartbeat (s : State) (front : Bool) : State :=
  if !s.fb TAB.STATUS.LINK_UP then s else
  let (p, l) := s.link.build 0x3F 0 s.gen4 s.timeNs s.heartbeatPayload
  { s with link := { l with
      hbCount := (s.link.hbCount + 1) % 2 ^ 32
      qA := if front then p :: l.qA else l.qA ++ [p] } }

/-- The distance of a stamp from TIME_REF is 2^22 ns or more, or nothing has been carried yet (R333). -/
def Link.farFrom (l : Link) (stamp : Nat) : Bool :=
  match l.timeRef with
  | none => true
  | some r => r + 2 ^ 22 ≤ stamp || stamp + 2 ^ 22 ≤ r

/-- A frame header, as opposed to a trailer (R266): DT 0x11 with KIND 0x01 in its first word. -/
def Packet.isFrameHeader (p : Packet) : Bool := p.dt == 0x11 && bitsOf (nth p.payload 0 0).toNat 28 8 == 1

/-- TIME_REF after a packet has been sent (R333). -/
def Link.refAfter (l : Link) (p : Packet) : Option Nat :=
  if p.dt = 0x3F ∨ p.isFrameHeader then some p.stamp else l.timeRef

/-- The class whose packet leaves next: the highest with one ready (R336). -/
def Link.nextClass (l : Link) : Option Nat := (List.range 4).find? fun c => !(l.queue c).isEmpty

/-- Whether the stream runs: link up, no failover stop, the AM after step 5 of bring-up passed (R337, R339). -/
def State.streamRuns (s : State) : Bool :=
  s.fb TAB.STATUS.LINK_UP && s.f TAB.STATUS.TX_STATE == 2 && s.link.train == .no

/-- The head packet of a class leaves, with the time-reference event of R333 before it where one is due, and
with a CRC-32 that an injection corrupts (R347). -/
def State.sendHead (s : State) (c : Nat) : State :=
  match s.link.queue c with
  | [] => s
  | p :: rest =>
    let l := s.link.setQueue c rest
    let needRef := p.dt != 0x3F && l.farFrom p.stamp
    let (pre, l) :=
      if needRef then
        let (e, l) := l.build 0x39 0 s.gen4 p.stamp ([w36 (0x04 * 2 ^ 24)] ++ halves p.stamp ++ [0, 0])
        ([e], { l with timeRef := some p.stamp })
      else ([], l)
    let bad := l.injectCrc.contains c
    let p := { p with badCrc := bad }
    let n := (pre ++ [p]).foldl (fun n q => n + q.blockCount) l.streamNext
    { s with link := { l with
        sent := pre ++ [p]
        streamAt := l.streamNext
        streamNext := n % 8
        timeRef := l.refAfter p
        injectCrc := if bad then l.injectCrc.filter (· != c) else l.injectCrc } }

/-! ## Transmit lanes (R337-R341) -/

/-- The physical lane of a logical lane (TAB.TX_MAP). -/
def State.laneOf (s : State) (l : Nat) : Nat := bitsOf (s.reg TAB.TX_MAP).toNat (4 * l) 4

/-- The logical lane that a physical lane serves, if it is in use. -/
def State.logicalOf (s : State) (n : Nat) : Option Nat := (List.range 8).find? fun l => s.laneOf l == n

/-- A logical lane moved to a physical lane. -/
def State.mapLane (s : State) (l n : Nat) : State :=
  s.setF TAB.TX_MAP.MAP (putBits (s.reg TAB.TX_MAP).toNat (4 * l) 4 n)

/-- A physical lane is marked failed. -/
def State.laneFailed (s : State) (n : Nat) : Bool := bitOf (s.f TAB.TX_STAT.FAILED) n

/-- FAILED of a physical lane set or cleared. -/
def State.setLaneFailed (s : State) (n : Nat) (b : Bool) : State :=
  s.setF TAB.TX_STAT.FAILED (putBits (s.f TAB.TX_STAT.FAILED) n 1 (b2n b))

/-- The number of an RX lane. -/
def laneNo : RxLane → Nat
  | .a => 0
  | .b => 1

/-- The status field of an RX lane. -/
def rxStat : RxLane → Fld
  | .a => TAB.RX_STAT.A
  | .b => TAB.RX_STAT.B

/-- Whether RX_MODE uses a lane (R342). -/
def State.laneUsed (s : State) (l : RxLane) : Bool :=
  match s.f TAB.CFG.RX_MODE with
  | 1 => l == .a
  | 2 => l == .b
  | _ => true

/-- An RX lane that RX_MODE uses has block lock (R337, R342). -/
def State.rxLocked (s : State) (l : RxLane) : Bool := s.laneUsed l && bitOf (s.f (rxStat l)) 1

/-- Bring-up starts (R337): TS blocks with READY 0, or 1 where an RX lane has block lock already. -/
def State.bringUp (s : State) : State :=
  let s := (s.setB TAB.STATUS.LINK_UP false).setF TAB.STATUS.TX_STATE 1
  let locked := s.rxLocked .a || s.rxLocked .b
  { s with link := { s.link with train := if locked then .readySent else .training, failRaised := false, streamNext := 0 } }

/-- The TX lanes enter electrical idle (R338): nothing is sent and no training runs. -/
def State.elecIdle (s : State) : State :=
  let s := (s.setB TAB.STATUS.LINK_UP false).setF TAB.STATUS.TX_STATE 0
  { s with link := { s.link with train := .no } }

/-- The healthy physical lanes, lowest first. -/
def State.healthyLanes (s : State) : List Nat := filterRange 9 fun n => !s.laneFailed n

/-- The link goes narrow (R341): logical lanes 0-3 on the four lowest-numbered healthy lanes, and it retrains. Failovers that
still wait have taken every spare and end here (R348; DEDUCED, log entry 121). -/
def State.goNarrow (s : State) (logical physical : Nat) : State :=
  let s := (s.event 0x48 3).linkEvent 5 logical physical
  let h := s.healthyLanes
  let m := (List.range 8).foldl (fun acc l => acc + (if l < 4 then nth h l 0xF else 0xF) * 2 ^ (4 * l)) 0
  let s := ((s.setF TAB.TX_MAP.MAP m).setB TAB.STATUS.NARROW true).setF TAB.TX_STAT.SPARE 0xF
  { s with link := { s.link with failing := [], reserve := [] } }.bringUp

/-- The physical lanes that could replace a failed one: the spare and the reserve (R339, R340). -/
def State.spares (s : State) : List Nat :=
  (if s.f TAB.TX_STAT.SPARE < 9 then [s.f TAB.TX_STAT.SPARE] else []) ++ s.link.reserve

/-- A physical lane leaves the spare and the reserve. -/
def State.dropSpare (s : State) (n : Nat) : State :=
  let s := { s with link := { s.link with reserve := s.link.reserve.filter (· != n) } }
  if s.f TAB.TX_STAT.SPARE = n then
    match s.link.reserve with
    | [] => s.setF TAB.TX_STAT.SPARE 0xF
    | r :: rs => { s.setF TAB.TX_STAT.SPARE r with link := { s.link with reserve := rs } }
  else s

/-- A physical lane is marked failed (R339, R341). Where a spare fails while failovers wait, the highest logical lane that
waits may be left with none, and the link goes narrow. -/
def State.markLane (s : State) (n : Nat) : State :=
  if s.laneFailed n then s else
  let s := (s.setLaneFailed n true).dropSpare n
  match s.logicalOf n with
  | none =>
    let l := s.link.failing.foldl Nat.max 0
    if s.spares.length < s.link.failing.length then s.goNarrow l (s.laneOf l) else s
  | some l =>
    if s.link.failing.length < s.spares.length then
      let s := { s with link := { s.link with failing := s.link.failing ++ [l] } }
      if s.f TAB.STATUS.TX_STATE = 2 then s.setF TAB.STATUS.TX_STATE 3 else s
    else s.goNarrow l n

/-- At an AM the spare takes the lowest failed logical lane (R339 step 2, R348), and the stream resumes. -/
def State.failoverSwitch (s : State) : State :=
  match s.link.failing with
  | [] => s
  | f :: fs =>
    let l := fs.foldl Nat.min f
    let n := s.f TAB.TX_STAT.SPARE
    let s := (s.mapLane l n).dropSpare n
    let s := { s with link := { s.link with failing := (f :: fs).filter (· != l) } }
    let s := s.setF TAB.PRBS_TX.SEL (putBits (s.f TAB.PRBS_TX.SEL) (3 * n) 3 0)
    let s := if s.link.failing.isEmpty ∧ s.f TAB.STATUS.TX_STATE = 3 then s.setF TAB.STATUS.TX_STATE 2 else s
    ((s.event 0x48 2).incF TAB.LINK_CNT.FAILOVERS).linkEvent 1 l n

/-! ## Receive lanes (R342) -/

/-- A status bit of an RX lane replaced. -/
def State.setRx (s : State) (l : RxLane) (bit : Nat) (b : Bool) : State :=
  s.setF (rxStat l) (putBits (s.f (rxStat l)) bit 1 (b2n b))

/-- The lane whose copy of a packet is accepted, if any (R342, R348). -/
def State.acceptLane (s : State) (r : RxInfo) : Option Nat :=
  let a := r.goodA && s.laneUsed .a
  let b := r.goodB && s.laneUsed .b
  if a && b then some (b2n r.bFirst) else if a then some 0 else if b then some 1 else none

/-- A received packet accepted or not, with the duplicate check and the counts of R342 and R349. -/
def State.accept (s : State) (r : RxInfo) : State × Bool :=
  match s.acceptLane r with
  | none => (s, false)
  | some k =>
    let key := (r.vc.toNat, r.seq.toNat)
    if s.f TAB.CFG.RX_MODE = 0 ∧ s.link.seen.contains key then (s, false) else
    let switched := s.f TAB.CFG.RX_MODE == 0 && s.link.lane.isSome && s.link.lane != some k
    let s := { s with link := { s.link with seen := (key :: s.link.seen).take 2048, lane := some k } }
    let s := if k = 1 ∧ !r.goodA then s.incF TAB.RX_CNT.B_ONLY else s
    let s := (s.setRx .a 4 (k == 0)).setRx .b 4 (k == 1)
    if switched then
      let sw := bitOf (s.f (if k = 0 then TAB.RX_STAT.A else TAB.RX_STAT.B)) 3
      ((s.event 0x48 4).linkEvent 2 k (if sw then 1 - k else k), true)
    else (s, true)

/-! ## TIME (R107, R344) -/

/-- TIME replaced (tenths of ns), with the events of R107 and R344 and the heartbeat of R333. `mode` is the
MODE of a time-set packet, none for TIME.CMD. -/
def State.setTime (s : State) (t : Nat) (mode : Option Nat) : State :=
  let before := s.timeNs
  let s := { s with time := t % timeModulus, timeSet := none }
  let s := (s.incF TIME.STAT.SETS).event 0x06 0
  let s :=
    match mode with
    | none => s
    | some m =>
      (s.event 0x48 9).sendPacket 0x39 0 s.gen4 before
        ([w36 (0x02 * 2 ^ 24 + m)] ++ halves before ++ halves s.timeNs)
  s.heartbeat false

/-- TIME with a signed 64-bit offset in ns added (R107). -/
def State.timePlus (s : State) (v : Nat) : Nat := (s.time + 10 * (v % 2 ^ 64)) % timeModulus

/-- A waiting time set takes effect at a SYNC_IN edge (R107, R344). -/
def State.timeAtEdge (s : State) : State :=
  match s.timeSet with
  | none => s
  | some t => s.setTime (10 * t.value) (if t.packet then some 1 else none)

/-! ## The meanings -/

/-- RX_CDR_LOCK (R337 step 2): the CDR of a lane locks on a present signal. -/
def execRxCdrLock (lane : RxLane) (s : State) : Host.Outcome State Fault Refusal :=
  if s.pwr.st = .unpowered then .next s else
  let k := laneNo lane
  let s := { s with link := { s.link with
    cdr := k :: s.link.cdr.filter (· != k), present := k :: s.link.present.filter (· != k) } }
  .next (s.setRx lane 0 false)

/-- RX_BLOCK_LOCK (R337 steps 3, 4): block lock, the lane's identity and polarity taken from the host's TS blocks. -/
def execRxBlockLock (lane : RxLane) (swapped inverted : Bool) (s : State) : Host.Outcome State Fault Refusal :=
  if !s.link.cdr.contains (laneNo lane) then .next s else
  let s := ((s.setRx lane 1 true).setRx lane 2 inverted).setRx lane 3 swapped
  .next (if s.link.train = .training ∧ s.laneUsed lane then { s with link := { s.link with train := .readySent } } else s)

/-- HOST_TS_READY (R337 step 5): the link comes up, and a heartbeat goes before everything that queued. -/
def execHostTsReady (lane : RxLane) (s : State) : Host.Outcome State Fault Refusal :=
  if s.link.train = .readySent ∧ s.rxLocked lane ∧ 4 ≤ s.healthyLanes.length then
    let s := (s.setB TAB.STATUS.LINK_UP true).setF TAB.STATUS.TX_STATE 2
    let s := { s with link := { s.link with train := .finishing } }
    let s := s.event 0x48 0
    let s := if s.fb TAB.STATUS.NARROW then s.linkEvent 6 0 (s.laneOf 0) else s
    .next (s.heartbeat true)
  else .next s

/-- LINK_TIMEOUT (R337): LINK_TMO without step 5. -/
def execLinkTimeout (s : State) : Host.Outcome State Fault Refusal :=
  if (s.link.train = .training ∨ s.link.train = .readySent) ∧ !s.link.failRaised then
    .next ({ s with link := { s.link with failRaised := true } }.event 0x48 1)
  else .next s

/-- TX_LANE_FAULT (R339, R341): the driver monitor finds a lane open or shorted. -/
def execTxLaneFault (lane : Fin 9) (s : State) : Host.Outcome State Fault Refusal :=
  if s.pwr.st = .unpowered ∨ s.f TAB.STATUS.TX_STATE = 0 then .next s else .next (s.markLane lane.val)

/-- ALIGNMENT_MARKER (R331, R339): a pending failover switch is made; after bring-up the stream starts. -/
def execAlignmentMarker (s : State) : Host.Outcome State Fault Refusal :=
  if s.f TAB.STATUS.TX_STATE = 0 then .next s else
  let s := { s with link := { s.link with
    amCount := (s.link.amCount + 1) % 2 ^ 16
    train := if s.link.train = LinkTrain.finishing then .no else s.link.train } }
  .next s.failoverSwitch

/-- TX_CLR on one lane (R340): a retest starts, or code LANE refuses a lane that is not failed. -/
def State.txClrLane (src : Nat) (s : State) (n : Nat) : State :=
  if s.laneFailed n then s.setF TAB.TX_STAT.RETEST (putBits (s.f TAB.TX_STAT.RETEST) n 1 1)
  else s.err 0x13 src TAB.TX_CTRL

/-- A write of TAB.TX_CTRL.TX_CLR (R340). -/
def State.txClr (s : State) (src lanes : Nat) : State :=
  (filterRange 9 fun n => bitOf lanes n).foldl (fun s n => s.txClrLane src n) s

/-- TX_CLR (R340). -/
def execTxClr (src : Port) (lanes : BitVec 9) (s : State) : Host.Outcome State Fault Refusal :=
  .next (s.txClr (portSrc src) lanes.toNat)

/-- TX_RETEST_DONE (R340): a lane that passes becomes the spare, or is kept in reserve. -/
def execTxRetestDone (lane : Fin 9) (pass : Bool) (s : State) : Host.Outcome State Fault Refusal :=
  let n := lane.val
  if !bitOf (s.f TAB.TX_STAT.RETEST) n then .next s else
  let s := s.setF TAB.TX_STAT.RETEST (putBits (s.f TAB.TX_STAT.RETEST) n 1 0)
  if !pass then .next s else
  let s := s.setLaneFailed n false
  if s.f TAB.TX_STAT.SPARE = 0xF then .next (s.setF TAB.TX_STAT.SPARE n)
  else .next { s with link := { s.link with reserve := s.link.reserve ++ [n] } }

/-- A write of TAB.TX_CTRL.FORCE (R349): refused with LANE for the spare or an unused lane. -/
def State.txForce (s : State) (src n : Nat) : State :=
  if (s.logicalOf n).isSome ∧ n < 9 then s.markLane n else s.err 0x13 src TAB.TX_CTRL

/-- TX_FORCE_FAIL (R349). -/
def execTxForceFail (src : Port) (lane : Fin 16) (s : State) : Host.Outcome State Fault Refusal :=
  .next (s.txForce (portSrc src) lane.val)

/-- The count of LOS and LOL of a lane (R349). -/
def lolCount : RxLane → Fld
  | .a => TAB.LINK_CNT.LOL_A
  | .b => TAB.LINK_CNT.LOL_B

/-- A lane goes through steps 2 and 3 of R337 again by itself (R342). -/
def State.rxRelock (s : State) (lane : RxLane) (losNow : Bool) : State :=
  let k := laneNo lane
  let s := { s with link := { s.link with
    cdr := s.link.cdr.filter (· != k)
    present := if losNow then s.link.present.filter (· != k) else s.link.present } }
  let s := ((s.setRx lane 1 false).setRx lane 0 losNow).setRx lane 4 false
  s.incF (lolCount lane)

/-- RX_LOS (R342): signal absent for 100 ns. -/
def execRxLos (lane : RxLane) (s : State) : Host.Outcome State Fault Refusal :=
  if s.pwr.st = .unpowered then .next s else .next (s.rxRelock lane true)

/-- RX_LOL (R342): CDR or block lock lost. -/
def execRxLol (lane : RxLane) (s : State) : Host.Outcome State Fault Refusal :=
  if s.link.cdr.contains (laneNo lane) then .next (s.rxRelock lane false) else .next s

/-- RX_BAD_PACKET (R335): discarded and counted. -/
def execRxBadPacket (kind : RxBad) (s : State) : Host.Outcome State Fault Refusal :=
  match kind with
  | .crc => .next (s.incF TAB.RX_CNT.CRC)
  | .dataType => .next (s.incF TAB.RX_CNT.BAD_DT)

/-- HOST_LOST clears at a valid host heartbeat (R343). -/
def State.hostBack (s : State) : State :=
  if s.fb TAB.HOST.HOST_LOST then ((s.setB TAB.HOST.HOST_LOST false).event 0x48 6).linkEvent 4 0 0 else s

/-- Two consecutive reports of a lane in use mark it failed, the lower logical lane first (R339, R348). -/
def State.hostReport (s : State) (bad : Nat) : State :=
  if !s.fb TAB.CFG.HOSTREP_EN then s else
  (((List.range 8).map s.laneOf).filter fun n => bitOf bad n && bitOf s.link.lastBad n).foldl (fun s n => s.markLane n) s

/-- HOST_HEARTBEAT (R343): valid when its COUNT differs from the last valid one's. -/
def execHostHeartbeat (rx : RxInfo) (count : BitVec 32) (txBad : BitVec 9) (s : State) : Host.Outcome State Fault Refusal :=
  let (s, ok) := s.accept rx
  if !ok || (s.link.hostSeen && s.reg TAB.HOST_COUNT == count) then .next s else
  let s := (s.setReg TAB.HOST_COUNT count).hostBack.hostReport txBad.toNat
  .next { s with link := { s.link with hostSeen := true, lastBad := txBad.toNat } }

/-- HOST_LOST (R343): the timer runs in READY and RUN while HB_TMO is not zero; REACT 1 ends RUN. -/
def execHostLost (s : State) : Host.Outcome State Fault Refusal :=
  if (s.pwr.st = .ready ∨ s.pwr.st = .run) ∧ s.f TAB.HB.HB_TMO ≠ 0 ∧ !s.fb TAB.HOST.HOST_LOST then
    let s := ((s.setB TAB.HOST.HOST_LOST true).incF TAB.LINK_CNT.HOST_LOST).event 0x48 5
    let s := s.linkEvent 3 0 0
    if s.f TAB.HOST.REACT = 0 then .next s else
    let s := s.abandonChange
    .next (if s.pwr.st = .run then { s with pwr := { s.pwr with readyPending := true, target := .ready } } else s)
  else .next s

/-- DEVICE_HEARTBEAT_TIMER (R343): in READY, RUN, the STANDBY exit and FOLD, while the link is up. -/
def execDeviceHeartbeatTimer (s : State) : Host.Outcome State Fault Refusal :=
  if s.pwr.st = .ready ∨ s.pwr.st = .run ∨ s.pwr.st = .fold ∨ s.pwr.exit.isSome then .next (s.heartbeat false) else .next s

/-- TIME_SET_NOW (R344 MODE 0): TIME becomes VALUE at the arrival of the SOP; the time since is added. -/
def execTimeSetNow (rx : RxInfo) (value : BitVec 64) (elapsed : Nat) (s : State) : Host.Outcome State Fault Refusal :=
  let (s, ok) := s.accept rx
  .next (if ok then s.setTime (10 * value.toNat + elapsed) (some 0) else s)

/-- TIME_SET_AT_SYNC_PACKET (R344 MODE 1): the set waits for a SYNC_IN edge, replacing one that waits. -/
def execTimeSetAtSyncPacket (rx : RxInfo) (value : BitVec 64) (s : State) : Host.Outcome State Fault Refusal :=
  let (s, ok) := s.accept rx
  .next (if ok then { s with timeSet := some { value := value.toNat, packet := true } } else s)

/-- TIME_OFFSET_PACKET (R344 MODE 2). -/
def execTimeOffsetPacket (rx : RxInfo) (value : BitVec 64) (s : State) : Host.Outcome State Fault Refusal :=
  let (s, ok) := s.accept rx
  .next (if ok then s.setTime (s.timePlus value.toNat) (some 2) else s)

/-- TIME_SET_INVALID (R344 MODE 3): discarded and counted in BAD_DT. -/
def execTimeSetInvalid (rx : RxInfo) (s : State) : Host.Outcome State Fault Refusal :=
  let (s, ok) := s.accept rx
  .next (if ok then s.incF TAB.RX_CNT.BAD_DT else s)

/-- PACKET_AGE_DISCARD on one class (R333): packets whose stamp TIME has passed by 4 ms. -/
def State.ageClass (s : State) (c : Nat) : State :=
  let old (p : Packet) : Bool := p.stamp + 4000000 ≤ s.timeNs
  let n := ((s.link.queue c).filter old).length
  let s' := { s with link := s.link.setQueue c ((s.link.queue c).filter fun p => !old p) }
  if n = 0 then s
  else if c = 2 then (s'.addF TAB.DROP.C n).event 0x48 7
  else (s'.addF TAB.DROP.D n).event 0x48 8

/-- PACKET_AGE_DISCARD (R333). -/
def execPacketAgeDiscard (s : State) : Host.Outcome State Fault Refusal := .next ((s.ageClass 2).ageClass 3)

/-- INJECT.BIT (R347): one bit inverted on each lane named. -/
def State.injectBit (s : State) (lanes : Nat) : State :=
  { s with link := { s.link with injectBits := s.link.injectBits.mapIdx fun n c => if bitOf lanes n then c + 1 else c } }

/-- INJECT_BIT (R347). -/
def execInjectBit (lanes : BitVec 9) (s : State) : Host.Outcome State Fault Refusal := .next (s.injectBit lanes.toNat)

/-- INJECT.SYNC (R347): one sync-header error on logical lane 0. -/
def State.injectSyncErr (s : State) : State := { s with link := { s.link with injectSync := s.link.injectSync + 1 } }

/-- INJECT_SYNC (R347). -/
def execInjectSync (s : State) : Host.Outcome State Fault Refusal := .next s.injectSyncErr

/-- INJECT.CRC (R347): the CRC-32 of the next packet of the class is corrupted. -/
def State.injectCrcErr (s : State) (c : Nat) : State :=
  { s with link := { s.link with injectCrc := c :: s.link.injectCrc.filter (· != c) } }

/-- INJECT_CRC (R347). -/
def execInjectCrc (cls : Fin 4) (s : State) : Host.Outcome State Fault Refusal := .next (s.injectCrcErr cls.val)

/-- A write of 1 to TAB.CNT_CLR (R349): words 0x01B-0x01F. -/
def State.tabCntClr (s : State) : State :=
  [TAB.PRBS_ERR 0, TAB.PRBS_ERR 1, TAB.DROP, TAB.RX_CNT, TAB.LINK_CNT].foldl (fun s a => s.setReg a 0) s

/-- TAB_CNT_CLR (R349). -/
def execTabCntClr (s : State) : Host.Outcome State Fault Refusal := .next s.tabCntClr

/-- The serving RX lane: the one that delivers, or any that RX_MODE uses while none does (R337; DEDUCED, log entry 122). -/
def State.laneServes (s : State) (l : RxLane) : Bool :=
  let on (r : RxLane) : Bool := bitOf (s.f (rxStat r)) 4
  s.laneUsed l && (on l || !(on .a || on .b))

/-- RX_TS_WHILE_LINK_UP (R337): bring-up starts again. -/
def execRxTsWhileLinkUp (lane : RxLane) (s : State) : Host.Outcome State Fault Refusal :=
  if s.fb TAB.STATUS.LINK_UP ∧ s.laneServes lane then .next s.bringUp else .next s

/-- RX_CONTROL_BLOCK_BAD (R330): treated as IDLE and counted. -/
def execRxControlBlockBad (s : State) : Host.Outcome State Fault Refusal := .next (s.incF TAB.RX_CNT.CTRL_BAD)

/-- The checker lock bit and the pattern of an RX lane (R349). -/
def prbsLock : RxLane → Fld
  | .a => TAB.PRBS_RX.LOCK_A
  | .b => TAB.PRBS_RX.LOCK_B

/-- The pattern that the checker of a lane expects (R349). -/
def prbsSel : RxLane → Fld
  | .a => TAB.PRBS_RX.SEL_A
  | .b => TAB.PRBS_RX.SEL_B

/-- The checker of a lane whose pattern changes is no longer locked (R347; DEDUCED, log entry 122). -/
def State.tabCommitted (s old : State) : State :=
  let un (s : State) (l : RxLane) : State := if s.f (prbsSel l) = old.f (prbsSel l) then s else s.setB (prbsLock l) false
  un (un s .a) .b

/-- PRBS_CHECKER_LOCK (R347): the checker locks on 64 error-free bits and counts the errors from then on. -/
def execPrbsCheckerLock (lane : RxLane) (errors : Nat) (s : State) : Host.Outcome State Fault Refusal :=
  let p := s.f (prbsSel lane)
  if p = 0 ∨ 5 ≤ p then .next s
  else .next ((s.setB (prbsLock lane) true).addF (TAB.PRBS_ERR.COUNT (laneNo lane)) errors)

end Sys2Proof.Machine
end

