-- ==== Sys2Proof/Machine/Emit.lean ====
section
/-! DEFINITION. Emitter drive and the laser driver bus (spec/06): firing frames, masks, the energy governor,
the monitor-photodiode loop, bus frames, enumeration, emitter faults. -/

namespace Sys2Proof.Machine

/-! ## Firing frames (R136-R140) -/

/-- The address of a firing-frame entry. -/
def ffAddr (buf e : Nat) : Nat := 0xA40000 + 0x2000 * buf + e

/-- Whether an entry by itself is invalid: its STRIDE or its last cell (R137). -/
def ffBad (w : Nat) : Bool :=
  let st := bitsOf w 8 3
  6 ≤ st || 511 < bitsOf w 17 9 + bitsOf w 11 6 * 2 ^ st

/-- The entries of the chain that begins at an entry: at most 8 and below FF_SIZE; none when the chain is
longer or reaches FF_SIZE (R136, R137). -/
def State.chain (s : State) (buf size e : Nat) : Nat → Option (List Nat)
  | 0 => none
  | n + 1 =>
    if size ≤ e then none
    else if bitOf (s.rd (ffAddr buf e)).toNat 30 then (s.chain buf size (e + 1) n).map (e :: ·)
    else some [e]

/-- An entry is invalid (R137). -/
def State.ffInvalid (s : State) (buf size e : Nat) : Bool :=
  ffBad (s.rd (ffAddr buf e)).toNat || (s.chain buf size e 8).isNone

/-- The lowest invalid entry of a buffer below FF_SIZE (R137). -/
def State.ffLowestBad (s : State) (buf : Nat) : Option Nat :=
  (List.range (s.f EMIT.FF_CTRL.FF_SIZE)).find? fun e => s.ffInvalid buf (s.f EMIT.FF_CTRL.FF_SIZE) e

/-- The cells of a run with the word address of their level (R136): none where VALID is 0. -/
def ffRun (w : Nat) : List (Nat × Nat) :=
  if !bitOf w 31 then [] else
  (List.range (bitsOf w 11 6 + 1)).map fun i =>
    (512 * bitsOf w 26 4 + bitsOf w 17 9 + i * 2 ^ bitsOf w 8 3, EMIT.LEVEL (16 * bitsOf w 26 4 + bitsOf w 4 4))

/-- A cell is masked by the words of a hand: in MASK_HOST or in MASK_AUTO (R140). -/
def maskedIn (m : Cells 32) (cell : Nat) : Bool :=
  let w := Cells.get resetWord m (EMIT.MASK_HOST (cell / 32)) ||| Cells.get resetWord m (EMIT.MASK_AUTO (cell / 32))
  w.getLsbD (cell % 32)

/-- The substitute of a cell, by the lowest enabled pair that names it (R140). -/
def substOf (m : Cells 32) (cell : Nat) : Option Nat :=
  ((List.range 32).find? fun i =>
    let w := (Cells.get resetWord m (EMIT.SUBST i)).toNat
    bitOf w 31 && bitsOf w 16 13 == cell).map fun i => bitsOf (Cells.get resetWord m (EMIT.SUBST i)).toNat 0 13

/-- A run after masks and substitutes: the cells that fire, and whether a cell was lost (R140). -/
def applyMasks (m : Cells 32) (run : List (Nat × Nat)) : List (Nat × Nat) × Bool :=
  run.foldl (fun (acc, lost) c =>
    if !maskedIn m c.1 then (if acc.any (·.1 == c.1) then acc else acc ++ [c], lost)
    else match substOf m c.1 with
      | some x =>
        if maskedIn m x || x / 512 != c.1 / 512 || run.any (·.1 == x) || acc.any (·.1 == x) then (acc, true)
        else (acc ++ [(x, c.2)], lost)
      | none => (acc, true)) ([], false)

/-- E of a cell (R154): ENERGY of its level times max(1, q), rounded up to 10 pJ. -/
def State.cellEnergy (s : State) (tile levelAddr : Nat) : Nat :=
  divUp (bitsOf (s.reg levelAddr).toNat 0 16 * max 4096 (s.f (EMIT.LOOP.Q tile))) 4096

/-- The runs of a tile-shot from an entry on. An invalid entry of the active buffer was sent void (R137). -/
def State.runsFrom (s : State) (buf size e : Nat) : Nat → List (List (Nat × Nat))
  | 0 => []
  | n + 1 =>
    if size ≤ e ∨ s.ffInvalid buf size e then []
    else
      let w := (s.rd (ffAddr buf e)).toNat
      ffRun w :: (if bitOf w 30 then s.runsFrom buf size (e + 1) n else [])

/-- The firing cells of a tile-shot with their energies, and whether a masked cell was lost (R136, R140, R154).
A cell that two runs of the chain name fires once, with the level of the first (DESIGN CHOICE, log entry 15). -/
def State.tileCells (s : State) (m : Cells 32) (buf size e : Nat) : List FireCell × Bool :=
  let (cs, lost) := (s.runsFrom buf size e 8).foldl (fun (acc, lost) run =>
    let (r, l) := applyMasks m run
    (acc ++ r.filter (fun c => !acc.any (·.1 == c.1)), lost || l)) (([], false) : List (Nat × Nat) × Bool)
  (cs.map fun c => { cell := c.1, energy := s.cellEnergy (c.1 / 512) c.2, nominal := bitsOf (s.reg c.2).toNat 0 16 }, lost)

/-! ## The energy governor (R153-R156) -/

/-- Energy of a cell in the buckets of a window. -/
def GovWindow.sum (g : GovWindow) (cell : Nat) : Nat :=
  g.sums.foldl (fun n b => b.foldl (fun n e => if e.1 = cell then n + e.2 else n) n) 0

/-- Energy added to the current sub-interval. -/
def GovWindow.add (g : GovWindow) (cells : List FireCell) (n : Nat) : GovWindow :=
  let extra := cells.map fun c => (c.cell, n * c.energy)
  match g.sums with
  | [] => { g with sums := [extra] }
  | b :: bs => { g with sums := (b ++ extra) :: bs }

/-- Energy of a withheld tile-shot taken back out of the sub-interval that was the current one when `at_` ends had been
counted (R153: a denied tile-shot adds nothing). -/
def GovWindow.remove (g : GovWindow) (at_ : Nat) (cells : List FireCell) (n : Nat) : GovWindow :=
  { g with sums := updNth g.sums (g.ends - at_) fun b => cells.foldl (fun b c => b.erase (c.cell, n * c.energy)) b }

/-- A sub-interval ends: the sum covers the current one and the 16 before it (R153). -/
def GovWindow.shift (g : GovWindow) : GovWindow :=
  { sums := ([] :: g.sums).take 17, full := g.full - 1, ends := g.ends + 1 }

/-- Whether a cell may add energy in a window: not while the window counts as spent (R155). -/
def GovWindow.passes (g : GovWindow) (limit cell add : Nat) : Bool := g.full == 0 && decide (g.sum cell + add ≤ limit)

/-- A limit field of 24 bits (R163). -/
def State.lim24 (s : State) (x : Fld) : Nat := s.f x % 2 ^ 24

/-- The limit of the 100 µs window, 10 pJ (R153, R156). -/
def State.limit100 (s : State) (static : Bool) : Nat :=
  if static then min (s.lim24 EMIT.GOV_100US.LIMIT) (s.lim24 EMIT.STATIC_100US.LIMIT) else s.lim24 EMIT.GOV_100US.LIMIT

/-- The limit of the 10 ms window, 10 pJ (R153, R156). -/
def State.limit10 (s : State) (static : Bool) : Nat :=
  10 * (if static then min (s.lim24 EMIT.GOV_10MS.LIMIT) (s.lim24 EMIT.STATIC_10MS.LIMIT) else s.lim24 EMIT.GOV_10MS.LIMIT)

/-- The static set is in force (R156). -/
def State.static (s : State) : Bool := s.fb EMIT.GOV_CTRL.STATIC

/-- The energy of one pulse on every cell of a tile-shot. -/
def totalEnergy (cells : List FireCell) : Nat := cells.foldl (fun t c => t + c.energy) 0

/-- All limit fields are at their reset value of zero: every tile-shot is denied (R154). -/
def State.noLimits (s : State) : Bool :=
  s.lim24 EMIT.GOV_PULSE.LIMIT == 0 && s.limit100 false == 0 && s.limit10 false == 0 && s.f EMIT.GOV_10S.LIMIT == 0

/-- The first window that a tile-shot breaks, in the order of R153: 0 single pulse, 1 100 µs, 2 10 ms, 3 10 s. -/
def State.govBreaks (s : State) (cells : List FireCell) (n : Nat) : Option Nat :=
  if s.noLimits || cells.any fun c => s.lim24 EMIT.GOV_PULSE.LIMIT < c.energy then some 0
  else if cells.any fun c => !s.emit.us100.passes (s.limit100 s.static) c.cell (n * c.energy) then some 1
  else if cells.any fun c => !s.emit.ms10.passes (s.limit10 s.static) c.cell (n * c.energy) then some 2
  else if 100 * s.f EMIT.GOV_10S.LIMIT < s.emit.aperture.foldl (· + ·) 0 + n * totalEnergy cells then some 3
  else none

/-- The EMIT.DENY field of a window. -/
def denyField : Nat → Fld
  | 0 => EMIT.DENY.W_PULSE
  | 1 => EMIT.DENY.W_100US
  | 2 => EMIT.DENY.W_10MS
  | _ => EMIT.DENY.W_10S

/-- Energy added to the aperture's current sub-interval. -/
def addAperture (a : List Nat) (e : Nat) : List Nat :=
  match a with
  | [] => [e]
  | x :: xs => (x + e) :: xs

/-- A verdict of the governor on one tile-shot, with its energy added when it passes (R153). -/
def State.govern (s : State) (cells : List FireCell) (n : Nat) : State × Bool :=
  match s.govBreaks cells n with
  | some w => (s.incF (denyField w), false)
  | none =>
    ({ s with emit := { s.emit with
        us100 := s.emit.us100.add cells n
        ms10 := s.emit.ms10.add cells n
        aperture := addAperture s.emit.aperture (n * totalEnergy cells) } }, true)

/-- The sub-interval ends counted now (R153). -/
def Emit.govEnds (e : Emit) : Nat × Nat × Nat := (e.us100.ends, e.ms10.ends, e.apertureEnds)

/-- The energy of a withheld tile-shot, judged at `ends`, leaves the sums again (R153, R156). -/
def State.ungovern (s : State) (ends : Nat × Nat × Nat) (cells : List FireCell) (n : Nat) : State :=
  { s with emit := { s.emit with
      us100 := s.emit.us100.remove ends.1 cells n
      ms10 := s.emit.ms10.remove ends.2.1 cells n
      aperture := updNth s.emit.aperture (s.emit.apertureEnds - ends.2.2) (· - n * totalEnergy cells) } }

/-- The window that a tile-shot already in the sums breaks under the static set (R156). -/
def State.recheckBreaks (s : State) (cells : List FireCell) : Option Nat :=
  if cells.any fun c => s.limit100 true < s.emit.us100.sum c.cell then some 1
  else if cells.any fun c => s.limit10 true < s.emit.ms10.sum c.cell then some 2
  else none

/-- The steering indications have changed (R156): the static set comes into force with either. -/
def State.staticNow (s : State) : State :=
  if (!s.fb STEER.PLAUS.PLAUSIBLE || s.fb STEER.PLAUS.UNCERTAIN) && !s.static then
    (s.setB EMIT.GOV_CTRL.STATIC true).event 0x12 2
  else s

/-- SCAN came on: every per-cell sum starts with its limit spent (R155). -/
def State.govSpent (s : State) : State := { s with emit := { s.emit with us100 := {}, ms10 := {} } }

/-! ## Frames on the bus (R141-R148) -/

/-- TYPE of a maintenance frame (R141). -/
def MaintFrame.type : MaintFrame → Nat
  | .index _ _ => 0x09
  | .level _ => 0x06
  | .mask _ => 0x07
  | .subst _ => 0x08
  | .config => 0x05
  | .select => 0x0B
  | .load _ _ => 0x0A

/-- A bus frame: header, payload, CRC-8 over both (R141). -/
def busFrame (addr : Option Nat) (type : Nat) (payload : List Nat) : List Nat :=
  let h := (addr.getD 0) % 16 * 4096 + (if addr.isNone then 2048 else 0) + type % 32 * 64 + payload.length % 64
  (h :: payload) ++ [crc8 ((h :: payload).map fun v => (v, 16))]

/-- A frame is put on the bus (R141); none while LDB is disabled (R86). -/
def State.putBus (s : State) (addr : Option Nat) (type : Nat) (payload : List Nat) : State :=
  if s.enabled 0x13 then { s with ldb := { s.ldb with bus := busFrame addr type payload } } else s

/-- The voltage code of a level (R152): min(CLAMP, VCODE + TRIM). -/
def State.voltage (s : State) (tile level : Nat) : Int :=
  min (s.f (EMIT.CLAMP.CLAMP tile)) ((s.f (EMIT.LEVEL.VCODE (16 * tile + level)) : Int) + s.fi (EMIT.LOOP.TRIM tile))

/-- The payload of a maintenance frame (R141, R142). The order of bits that R141 leaves open: upper halfword of
a register word first, mask halfword i with cell 16i + k at bit k, LOAD's first halfword the offset from
0xA40000 (DESIGN CHOICE, log entry 16). -/
def State.payload (s : State) : MaintFrame → List Nat
  | .index t w => [t, bitsOf w.toNat 0 13]
  | .level t => ((List.range 16).map fun l => unsigned 16 (s.voltage t l)) ++
      [s.f (EMIT.CLAMP.CLAMP t), unsigned 16 (s.fi (EMIT.LOOP.TRIM t))]
  | .mask t => (List.range 32).map fun i =>
      bitsOf ((s.reg (EMIT.MASK_HOST (16 * t + i / 2))) ||| (s.reg (EMIT.MASK_AUTO (16 * t + i / 2)))).toNat (16 * (i % 2)) 16
  | .subst q => (8 * q) :: (List.range 8).flatMap fun i =>
      [s.f (EMIT.SUBST.EN (8 * q + i)) * 2 ^ 15 + s.f (EMIT.SUBST.MASKED (8 * q + i)), s.f (EMIT.SUBST.SUBST (8 * q + i)) % 512]
  | .config => ((List.range 4).flatMap fun i => half2 (s.f (DEAL.GROUP_MAP.MAP i))) ++
      ((List.range 8).map fun k => s.f (DEAL.PAT_STEP.BASE k))
  | .select => [s.f EMIT.FF_CTRL.ACTIVE_SEL]
  | .load e n =>
      let b := 1 - s.f EMIT.FF_CTRL.ACTIVE
      (0x2000 * b + e) :: (List.range n).flatMap fun i => half2 ((s.rd (ffAddr b (e + i))).toNat % 2 ^ 32)

/-- The tile address of a maintenance frame, none for a broadcast (R141). -/
def MaintFrame.addr : MaintFrame → Option Nat
  | .level t => some t
  | .mask t => some t
  | _ => none

/-- The entries of one LOAD frame: 30 with the bus free, in RUN those that fit the free interval of a slot beside a POLL
(R141, R148; DEDUCED from R148's 9 at SPACING 1,250, log entry 42). -/
def State.loadCount (s : State) : Nat :=
  if s.pwr.st = .run then max 1 (min 30 (((8 * s.f DEAL.SPACING.SPACING - 3664) / 320 - 1) / 2)) else 30

/-- The next maintenance frame due, in the order of R148, with the page whose committed change it carries. -/
def State.maintDue (s : State) : Option (MaintFrame × Option Nat) :=
  match s.ldb.fwd, s.ldb.loopDue, s.ldb.changes, s.ldb.load with
  | (t, w) :: _, _, _, _ => some (.index t w, none)
  | [], f :: _, _, _ => some (f, none)
  | [], [], (p, f) :: _, _ => some (f, some p)
  | [], [], [], some e => 
      if e < s.f EMIT.FF_CTRL.FF_SIZE then some (.load e (min s.loadCount (s.f EMIT.FF_CTRL.FF_SIZE - e)), none) else none
  | [], [], [], none => none

/-- The next frame due is started when the bus is free, KA toggles and the tiles are enumerated (R148). A frame for a
committed change carries the settings that the request will make active (R143). -/
def State.maintStart (s : State) : State :=
  if s.ldb.frame.isSome || !s.fb LDB.STATUS.KA || !s.fb LDB.STATUS.ENUMERATED || !s.enabled 0x13 then s else
  match s.maintDue with
  | none => s
  | some (f, p) =>
    let k := match p with
      | some p => s.candidate p
      | none => s
    { s.putBus f.addr f.type (k.payload f) with ldb := { (s.putBus f.addr f.type (k.payload f)).ldb with
        frame := some f, changing := p.isSome } }

/-- The frames that a changed word of DEAL or EMIT needs (R142, R143). -/
def State.wordFrames (s : State) (a : Nat) : List MaintFrame :=
  if EMIT.LEVEL 0 ≤ a ∧ a ≤ EMIT.LEVEL 255 then [.level ((a - EMIT.LEVEL 0) / 16)]
  else if EMIT.MASK_HOST 0 ≤ a ∧ a ≤ EMIT.MASK_HOST 255 then [.mask ((a - EMIT.MASK_HOST 0) / 16)]
  else if EMIT.SUBST 0 ≤ a ∧ a ≤ EMIT.SUBST 31 then [.subst 0, .subst 1, .subst 2, .subst 3]
  else if a = EMIT.FF_CTRL then (if s.fsh EMIT.FF_CTRL.ACTIVE_SEL = s.f EMIT.FF_CTRL.ACTIVE_SEL then [] else [.select])
  else if (DEAL.GROUP_MAP 0 ≤ a ∧ a ≤ DEAL.GROUP_MAP 3) ∨ (DEAL.PAT_STEP 0 ≤ a ∧ a ≤ DEAL.PAT_STEP 7) then [.config]
  else []

/-- Frames for a committed change queued, but for those that wait already. -/
def State.queueChanges (s : State) (p : Nat) (fs : List MaintFrame) : State :=
  if !s.fb LDB.STATUS.ENUMERATED then s else
  let waiting := if s.ldb.changing then s.ldb.changes.drop 1 else s.ldb.changes
  let new := fs.eraseDups.filter fun f => !waiting.contains (p, f)
  ({ s with ldb := { s.ldb with changes := s.ldb.changes ++ new.map fun f => (p, f) } }).maintStart

/-- The frames for an accepted request of a page (R143). -/
def State.changeFrames (s : State) (p : Nat) : State :=
  if p = 0x10 ∨ p = 0x12 then s.queueChanges p ((s.changes p).flatMap fun w => s.wordFrames w.1) else s

/-- The frames of a request that is withdrawn are not sent any more; one on the bus ends. -/
def State.dropChanges (s : State) (p : Nat) : State :=
  let keep : List (Nat × MaintFrame) := if s.ldb.changing then s.ldb.changes.take 1 else []
  let rest := (if s.ldb.changing then s.ldb.changes.drop 1 else s.ldb.changes).filter fun e => e.1 != p
  { s with ldb := { s.ldb with changes := keep ++ rest } }

/-- LOADED shows whether the tiles hold the inactive buffer unchanged (R139, R163). -/
def State.setHeld (s : State) (h : List Bool) : State :=
  ({ s with ldb := { s.ldb with held := h } }).setB EMIT.FF_CTRL.LOADED (nth h (1 - s.f EMIT.FF_CTRL.ACTIVE) false)

/-- Everything queued for the tiles is dropped; queued place-0 writes complete, for enumeration will send the
whole index table (R145). -/
def State.flushBus (s : State) : State :=
  let s := s.ldb.fwd.foldl (fun s e => s.wr (0xA00000 + 0x20 * e.1) e.2) s
  { s with ldb := { s.ldb with fwd := [], loopDue := [], changes := [], load := none, frame := none, changing := false } }

/-- LDB_KA stops (R149): the tiles drop their tables. -/
def State.kaStop (s : State) : State :=
  let s := (s.setB LDB.STATUS.KA false).setB LDB.STATUS.ENUMERATED false
  let s := (s.setB EMIT.FF_CTRL.LOADING false).flushBus
  ({ s with ldb := { s.ldb with enumerating := false, loadWaits := false, arm := none } }).setHeld [false, false]

/-- Enumeration starts with RESET (R150 step 1). -/
def State.enumerate (s : State) : State :=
  let waits := s.ldb.loadWaits || s.fb EMIT.FF_CTRL.LOADING
  let s := ((s.setB LDB.STATUS.ENUMERATED false).setB EMIT.FF_CTRL.LOADING false).flushBus
  let s := { s with ldb := { s.ldb with
    enumerating := true, absent := [], missing := List.replicate 16 0, arm := none, loadWaits := waits } }
  (s.setHeld [false, false]).putBus none 0x01 []

/-- LDB_KA toggles and the tiles are enumerated (R149, R150), unless LDB is disabled or the laser is held off. -/
def State.ldbStart (s : State) : State :=
  if !s.enabled 0x13 || s.fb EMIT.FAULT.HAZ then s
  else (s.setB LDB.STATUS.KA true).enumerate

/-- No fire command is pending any more. -/
def State.dropFire (s : State) : State :=
  let clear (h : Option Hand) := h.map fun h => { h with decided := [none, none, none, none] }
  { s with deal := { s.deal with next := clear s.deal.next, cur := clear s.deal.cur } }

/-- DISABLE is broadcast and LDB_KA stops (R46 step 2, R70, R149). While a held bus keeps LDB_KA stopped no DISABLE is sent
(R162 step 2). -/
def State.ldbDisable (s : State) : State :=
  if s.fb LDB.STATUS.KA then (s.putBus none 0x03 []).kaStop.setB LDB.STATUS.RECOVERING false
  else s.setB LDB.STATUS.RECOVERING false

/-! ## Masks and faults (R150, R159-R162) -/

/-- Cells masked in total, by either mask (R163). -/
def State.maskedTotal (s : State) : Nat :=
  (List.range 256).foldl (fun n w => n + popCount ((s.reg (EMIT.MASK_HOST w)) ||| (s.reg (EMIT.MASK_AUTO w))).toNat 32) 0

/-- EMIT.FAULT.MASKED follows the masks. -/
def State.countMasked (s : State) : State := s.setF EMIT.FAULT.MASKED s.maskedTotal

/-- The trim and mask frames that wait: the one on the bus carries what was in force when it began. -/
def Ldb.waiting (l : Ldb) : List MaintFrame :=
  match l.frame with
  | some f => if l.changing then l.loopDue else l.loopDue.erase f
  | none => l.loopDue

/-- A trim or mask frame becomes due (R148). -/
def State.loopFrame (s : State) (f : MaintFrame) : State :=
  if !s.fb LDB.STATUS.ENUMERATED || s.ldb.waiting.contains f then s
  else ({ s with ldb := { s.ldb with loopDue := s.ldb.loopDue ++ [f] } }).maintStart

/-- A mask frame of a tile becomes due (R148). -/
def State.maskDue (s : State) (tile : Nat) : State := s.loopFrame (.mask tile)

/-- A level frame of a tile becomes due (R148). -/
def State.levelDue (s : State) (tile : Nat) : State := s.loopFrame (.level tile)

/-- Cells of a tile masked by the device (R159): kind 1 open, 2 weak, 3 tile absent. -/
def State.autoMask (s : State) (kind tile : Nat) (cells : List Nat) : State :=
  let s := cells.foldl (fun s c => s.setReg (EMIT.MASK_AUTO (c / 32)) (s.reg (EMIT.MASK_AUTO (c / 32)) ||| BitVec.ofNat 32 (2 ^ (c % 32)))) s
  let s := (s.setF EMIT.CELLFLT.KIND kind).setF EMIT.CELLFLT.CELL (nth cells 0 0)
  s.countMasked.maskDue tile

/-- All cells of a tile masked: the 16 words of the tile (R150 step 2). -/
def State.tileAbsent (s : State) (t : Nat) : State :=
  if s.ldb.absent.contains t then s else
  let s := (List.range 16).foldl (fun s i => s.setReg (EMIT.MASK_AUTO (16 * t + i)) 0xFFFFFFFF) s
  let s := (s.setF EMIT.CELLFLT.KIND 3).setF EMIT.CELLFLT.CELL (512 * t)
  let s := { s with ldb := { s.ldb with absent := s.ldb.absent ++ [t] } }
  (s.countMasked.maskDue t).event 0x13 2

/-- The hazardous shut-off (R160): no further fire command, DISABLE, LDB_KA stops; RUN ends at the next hand
boundary. Kind 4 is a held bus, on which no DISABLE can be sent; `diag` marks a diagnostic (R402). -/
def State.hazard (s : State) (kind tile : Nat) (diag : Bool) : State :=
  if s.fb EMIT.FAULT.HAZ then { s with emit := { s.emit with hazDiag := s.emit.hazDiag || diag } } else
  let s := ((s.setB EMIT.FAULT.HAZ true).setF EMIT.FAULT.KIND kind).setF EMIT.FAULT.TILE tile
  let s := (s.event 0x12 0).abandonChange
  let s := if kind = 4 then s.kaStop.setB LDB.STATUS.RECOVERING false else s.ldbDisable
  let s := s.dropFire
  let s := { s with emit := { s.emit with hazDiag := diag } }
  let s := { s with ldb := { s.ldb with darkFrom := none } }
  if s.pwr.st = .run then { s with pwr := { s.pwr with readyPending := true, target := .ready } }
  else { s with pwr := { s.pwr with runPending := false, target := if s.pwr.st = .ready ∧ s.pwr.runPending then .ready else s.pwr.target } }

/-- The laser works: READY or RUN with SCAN on. -/
def State.laserOn (s : State) : Bool :=
  (s.pwr.st == .ready || s.pwr.st == .run || s.pwr.exit.isSome) && nth s.pwr.domains 1 .off == .on

/-! ## The meanings -/

/-- LIGHT_NO_FIRE (R158, R159): on an MPD in use. -/
def execLightNoFire (tile : Fin 16) (s : State) : Host.Outcome State Fault Refusal :=
  if s.laserOn ∧ bitOf (s.f EMIT.MPD_USE.USED) tile.val then .next (s.hazard 1 tile.val false) else .next s

/-- HAZARD_FLAG (R151, R159): a reverse current outside the reply window. -/
def execHazardFlag (tile : Fin 16) (s : State) : Host.Outcome State Fault Refusal :=
  if s.laserOn then .next (s.hazard 2 tile.val false) else .next s

/-- Whether a tile replied at the last poll (R164). -/
def State.showPresent (s : State) (t : Nat) (b : Bool) : State :=
  s.setF LDB.TILE_EN.PRESENT (putBits (s.f LDB.TILE_EN.PRESENT) t 1 (b2n b))

/-- A missing or corrupt reply counted (R164). -/
def State.replyBad (s : State) : State := (s.incF LDB.ERR_CNT.REPLY_BAD).event 0x13 3

/-- A missing or corrupt reply; the third in a row makes the tile absent (R151). -/
def State.replyMissing (s : State) (t : Nat) : State :=
  let n := nth s.ldb.missing t 0 + 1
  let s := s.replyBad
  let s := { s with ldb := { s.ldb with missing := setNth s.ldb.missing t n } }
  let s := s.showPresent t false
  if 3 ≤ n then s.tileAbsent t else s

/-- A good reply of an expected tile: it is present, and none of its replies is missing (R151). -/
def State.replied (s : State) (t : Nat) : State :=
  let s := { s with ldb := { s.ldb with missing := setNth s.ldb.missing t 0, absent := s.ldb.absent.filter (· != t) } }
  s.showPresent t true

/-- A 48-bit reply is good: SYNC, ADDR and CRC (R151). -/
def replyGood (t v : Nat) : Bool :=
  bitsOf v 44 4 == 0xB && bitsOf v 40 4 == t && bitsOf v 0 8 == crc8 [(v / 256 % 2 ^ 40, 40)]

/-- The fault flags of a good reply (R151, R159). CONFIG_LOST and OVERTEMP have no reaction in the spec. -/
def State.replyFlags (s : State) (t v : Nat) : State :=
  let cell := 512 * t + bitsOf v 23 9
  let s := if bitOf v 39 then (s.autoMask 1 t [cell]).event 0x12 1 else s
  let s := if bitOf v 38 then (s.autoMask 2 t [cell]).event 0x12 1 else s
  let s := if bitOf v 37 then s.hazard 2 t false else s
  if s.f (EMIT.CLAMP.CLAMP t) < bitsOf v 10 10 then s.hazard 3 t false else s

/-- TILE_REPLY (R151): the reply of a tile to a POLL, none when nothing came. -/
def execTileReply (tile : Fin 16) (reply : Option (BitVec 48)) (s : State) : Host.Outcome State Fault Refusal :=
  let t := tile.val
  if !s.fb LDB.STATUS.KA then .next s else
  let good := reply.any fun v => replyGood t v.toNat
  if !bitOf (s.f LDB.TILE_EN.EN) t then .next (s.showPresent t good)
  else match reply with
  | some v => if good then .next ((s.replied t).replyFlags t v.toNat) else .next (s.replyMissing t)
  | none => .next (s.replyMissing t)

/-- BUS_HELD (R159, R162): recovery starts, or starts again in the enumeration of one; the third detection within 1 s shuts
the laser off. The laser has been dark from the first of them on. -/
def execBusHeld (s : State) : Host.Outcome State Fault Refusal :=
  if !s.laserOn ∨ !s.fb LDB.STATUS.KA then .next s else
  let recent := s.ldb.heldAt.filter fun t => s.mono < t + 10 ^ 10
  let s := (s.incF LDB.ERR_CNT.HELD).event 0x13 0
  let s := { s with ldb := { s.ldb with heldAt := recent ++ [s.mono] } }
  if 2 ≤ recent.length then .next (s.hazard 4 0 false) else
  let s := (s.kaStop.setB LDB.STATUS.RECOVERING true).dropFire
  let mark (h : Option Hand) := h.map fun h => { h with recovery := true }
  .next { s with
    ldb := { s.ldb with darkFrom := some (s.ldb.darkFrom.getD s.mono) }
    deal := { s.deal with next := mark s.deal.next, cur := mark s.deal.cur } }

/-- BUS_RECOVERY_RESTART (R162 step 4): LDB_KA restarts and enumeration follows, or the bus is still held. -/
def execBusRecoveryRestart (held : Bool) (s : State) : Host.Outcome State Fault Refusal :=
  if !s.fb LDB.STATUS.RECOVERING then .next s
  else if held then .next (s.hazard 4 0 false)
  else .next s.ldbStart

/-- The firing-frame buffer is checked for a LOAD; the lowest invalid entry is reported (R137). -/
def State.ffReport (s : State) (buf : Nat) : State × Bool :=
  match s.ffLowestBad buf with
  | some e => (s.errAt 0x12 0x11 0 0x12 (e % 1024), false)
  | none => (s, true)

/-- A write of EMIT.FF_CTRL.LOAD (R139). -/
def State.ffLoad (s : State) : State :=
  if s.fb EMIT.FF_CTRL.LOADING then s
  else if s.ldb.enumerating then { s with ldb := { s.ldb with loadWaits := true } }
  else if s.fb LDB.STATUS.ENUMERATED then
    let s := s.setB EMIT.FF_CTRL.LOADING true
    ({ s with ldb := { s.ldb with load := some 0 } }).maintStart
  else
    let b := 1 - s.f EMIT.FF_CTRL.ACTIVE
    let (s, ok) := s.ffReport b
    if ok then (s.setHeld (setNth s.ldb.held b true)).event 0x12 4 else s

/-- FF_LOAD (R139). -/
def execFfLoad (s : State) : Host.Outcome State Fault Refusal := .next s.ffLoad

/-- The copy of a LOAD ends (R137, R139): LOADED is set, or FF_ENTRY is reported. Answers whether every entry was good. -/
def State.ffLoadDone (s : State) : State × Bool :=
  let s := s.setB EMIT.FF_CTRL.LOADING false
  let s := { s with ldb := { s.ldb with load := none } }
  let b := 1 - s.f EMIT.FF_CTRL.ACTIVE
  let (s, ok) := s.ffReport b
  (if ok then (s.setHeld (setNth s.ldb.held b true)).event 0x12 4 else s, ok)

/-- What the end of a maintenance frame completes (R143, R145). -/
def State.maintDone (s : State) (f : MaintFrame) : State :=
  if s.ldb.changing then { s with ldb := { s.ldb with changes := s.ldb.changes.drop 1, changing := false } } else
  match f with
  | .index t w =>
    match s.ldb.fwd with
    | (t', w') :: rest =>
      if t' = t ∧ w' = w then { s.wr (0xA00000 + 0x20 * t) w with ldb := { s.ldb with fwd := rest } } else s
    | [] => s
  | .load e n => { s with ldb := { s.ldb with load := s.ldb.load.map fun _ => e + n } }
  | f => { s with ldb := { s.ldb with loopDue := s.ldb.loopDue.erase f } }

/-- LDB_MAINT_FRAME_END (R148): the frame on the bus ends, and the next frame due is started. -/
def execLdbMaintFrameEnd (s : State) : Host.Outcome State Fault Refusal :=
  match s.ldb.frame with
  | none => .next s
  | some f =>
    let s := s.maintDone f
    .next ({ s with ldb := { s.ldb with frame := none } }).maintStart

/-- A write of LDB.CMD.REENUM (R150, R164): refused with STATE outside READY. -/
def State.reenum (s : State) (src : Nat) : State :=
  if s.pwr.st = .ready then s.ldbStart else s.err 0x10 src LDB.CMD

/-- LDB_REENUM (R150). -/
def execLdbReenum (src : Port) (s : State) : Host.Outcome State Fault Refusal := .next (s.reenum (portSrc src))

/-- The replies of step 2 of enumeration: an enabled tile without a valid reply is absent (R150). -/
def State.enumReplies (s : State) (present : Nat) : State :=
  let en := s.f LDB.TILE_EN.EN
  let s := s.setF LDB.TILE_EN.PRESENT present
  (filterRange 16 fun t => bitOf en t && !bitOf present t).foldl (fun s t => s.replyBad.tileAbsent t) s

/-- Step 6 of enumeration ends a recovery (R162 step 5). -/
def State.recovered (s : State) : State :=
  if s.fb LDB.STATUS.RECOVERING then
    (((s.setB LDB.STATUS.RECOVERING false).incF LDB.ERR_CNT.RECOVERIES).event 0x13 1)
  else s

/-- ENUMERATION_DONE (R150 step 6): the active buffer has been sent, SELECT, and ENABLE in RUN. -/
def execEnumerationDone (present : BitVec 16) (s : State) : Host.Outcome State Fault Refusal :=
  if !s.ldb.enumerating then .next s else
  let s := s.enumReplies present.toNat
  let (s, _) := s.ffReport (s.f EMIT.FF_CTRL.ACTIVE)
  let s := (s.setB LDB.STATUS.ENUMERATED true).setHeld (setNth [false, false] (s.f EMIT.FF_CTRL.ACTIVE) true)
  let s := { s with ldb := { s.ldb with enumerating := false } }
  let s := s.putBus none 0x0B [s.f EMIT.FF_CTRL.ACTIVE]
  let s := (if s.pwr.st = .run then s.putBus none 0x02 [] else s).recovered
  let s := s.commits.foldl (fun s c => s.changeFrames c.page) s
  if s.ldb.loadWaits then .next ({ s with ldb := { s.ldb with loadWaits := false } }).ffLoad else .next s.maintStart

/-- POLL_TIMER (R151). -/
def execPollTimer (s : State) : Host.Outcome State Fault Refusal :=
  if s.fb LDB.STATUS.KA then .next (s.putBus none 0x04 []) else .next s

/-- A monitor loop with no edge without light on record. -/
def MpdLoop.lit (m : MpdLoop) : MpdLoop := { m with dark := 0 }

/-- Temperatures that hold the laser off (R402, R438): the CRIT step of the die or of the laser. -/
def State.critHeld (s : State) : Bool := 2 ≤ s.f HK.STEP.DIE_STEP || 2 ≤ s.f HK.STEP.LAS_STEP

/-- A write of EMIT.FAULT_CLR.HAZ_CLR (R161): in READY and with no hazard condition present, among them a failing
diagnostic 1 and a CRIT step (R402); otherwise CMD_REFUSED. It clears diagnostic 7 (R402). -/
def State.hazClr (s : State) (src : Nat) (present : Bool) : State :=
  if s.pwr.st ≠ .ready ∨ present ∨ bitOf (s.f SUPV.DIAG.FAIL) 0 ∨ s.critHeld then s.err 0x05 src EMIT.FAULT_CLR
  else
    let s := (s.setB EMIT.FAULT.HAZ false).setF SUPV.DIAG.FAIL (putBits (s.f SUPV.DIAG.FAIL) 6 1 0)
    ({ s with emit := { s.emit with hazDiag := false, mpd := s.emit.mpd.map MpdLoop.lit } }).ldbStart

/-- HAZ_CLR (R161): `present` says whether a hazard condition is present. -/
def execHazClr (src : Port) (present : Bool) (s : State) : Host.Outcome State Fault Refusal :=
  .next (s.hazClr (portSrc src) present)

/-- A write of 1 to EMIT.CNT_CLR (R163). -/
def State.emitCntClr (s : State) : State := s.setReg EMIT.DENY 0

/-- EMIT_CNT_CLR (R163). -/
def execEmitCntClr (s : State) : Host.Outcome State Fault Refusal := .next s.emitCntClr

/-- A write of 1 to LDB.CMD.CNT_CLR (R164). -/
def State.ldbCntClr (s : State) : State := s.setReg LDB.ERR_CNT 0

/-- LDB_CNT_CLR (R164). -/
def execLdbCntClr (s : State) : Host.Outcome State Fault Refusal := .next s.ldbCntClr

/-- The firing cells of a driver tile in the last shot of a group. -/
def State.shotCells (s : State) (group tile : Nat) : List FireCell :=
  match nth s.emit.shots group none with
  | some sh => sh.cells.filter fun c => c.cell / 512 == tile
  | none => []

/-- E_meas / ENERGY of a pulse in 1/4,096 (R157): charge in fC, K in 1/256 pJ per pC, ENERGY the mean over the
firing cells in 10 pJ. An ENERGY of 0 states no ratio: a free value (log entry 17). -/
def State.mpdRatio (s : State) (tile : Nat) (cells : List FireCell) (charge : Nat) : State × Nat :=
  let nominal := cells.foldl (fun t c => t + c.nominal) 0
  if nominal = 0 then let (n, s) := s.takeFree; (s, Config.freeNat n)
  else (s, s.f (EMIT.MPD_K.K tile) * charge * 4096 / (256 * 1000 * 10 * nominal))

/-- MPD integration over an armed FIRE edge ends (R157): after 256 included pulses q is their mean, and a q
above 1.5 raises RATIO_HIGH. The count of edges without light is kept for diagnostic 7 (R385). -/
def State.mpdPulse (s : State) (tile group charge : Nat) (excluded : Bool) : State :=
  let cells := s.shotCells group tile
  if cells.isEmpty || !bitOf (s.f EMIT.MPD_USE.USED) tile then s else
  let m := nth s.emit.mpd tile {}
  let m := { m with dark := if charge = 0 then m.dark + 1 else 0 }
  if excluded then { s with emit := { s.emit with mpd := setNth s.emit.mpd tile m } } else
  let (s, r) := s.mpdRatio tile cells charge
  let m := { m with count := m.count + 1, sum := m.sum + r }
  if m.count < 256 then { s with emit := { s.emit with mpd := setNth s.emit.mpd tile m } } else
  let q := satTo 16 (m.sum / 256)
  let s := { s with emit := { s.emit with mpd := setNth s.emit.mpd tile { m with count := 0, sum := 0 } } }
  (s.setF (EMIT.LOOP.Q tile) q).eventIf (6144 < q) 0x12 3

/-- MPD_LOOP_UPDATE on one tile (R157): TRIM steps by one code within TRIM_MAX. -/
def State.trimStep (s : State) (k : Nat) : State :=
  if !bitOf (s.f EMIT.MPD_USE.USED) k then s else
  let q := s.f (EMIT.LOOP.Q k)
  let t := s.fi (EMIT.LOOP.TRIM k)
  let m : Int := s.f EMIT.MPD_CFG.TRIM_MAX
  -- q > 1.02 and q < 0.98 in units of 1/4,096
  let t' := if 4096 * 102 < q * 100 then t - 1 else if q * 100 < 4096 * 98 then t + 1 else t
  let t' := clip (-m) m t'
  if t' = t then s else
  let s := s.setI (EMIT.LOOP.TRIM k) t'
  s.levelDue k

/-- A monitor not in use: q 1 and TRIM 0, nothing collected (R157). -/
def State.mpdUnused (s : State) (k : Nat) : State :=
  let t := (s.setF (EMIT.LOOP.Q k) 4096).setF (EMIT.LOOP.TRIM k) 0
  let t := { t with emit := { t.emit with mpd := setNth t.emit.mpd k {} } }
  if s.fi (EMIT.LOOP.TRIM k) = 0 then t else t.levelDue k

/-- MPD_LOOP_UPDATE (R157): every 1 ms while LOOP_EN is 1; with EMIT disabled the loops keep their state (R86). -/
def execMpdLoopUpdate (s : State) : Host.Outcome State Fault Refusal :=
  if s.fb EMIT.MPD_CFG.LOOP_EN ∧ s.laserOn ∧ s.enabled 0x12 then .next ((List.range 16).foldl (fun s k => s.trimStep k) s) else .next s

/-- GOV_SUBINTERVAL_END (R153, R155): the aperture window runs while VDD_AON is up, the others with SCAN. -/
def execGovSubintervalEnd (window : GovSpan) (s : State) : Host.Outcome State Fault Refusal :=
  match window with
  | .us100 => .next { s with emit := { s.emit with us100 := s.emit.us100.shift } }
  | .ms10 => .next { s with emit := { s.emit with ms10 := s.emit.ms10.shift } }
  | .s10 => .next { s with emit := { s.emit with
      aperture := (0 :: s.emit.aperture).take 17, apertureEnds := s.emit.apertureEnds + 1 } }

/-- STATIC_HOLD_END (R156): the static set is released once neither indication holds. -/
def execStaticHoldEnd (s : State) : Host.Outcome State Fault Refusal :=
  if s.fb STEER.PLAUS.PLAUSIBLE ∧ !s.fb STEER.PLAUS.UNCERTAIN then .next (s.setB EMIT.GOV_CTRL.STATIC false) else .next s

end Sys2Proof.Machine
end

