-- ==== Sys2Proof/Machine/Dealer.lean ====
section
/-! DEFINITION. The Dealer (spec/05): shot rings, bids, budgets, arbitration, the pattern engine, Shuffle coding,
and the hands they serve. -/

namespace Sys2Proof.Machine

/-! ## Rings (R116-R119) -/

/-- The address of word 0 of a place of a ring (R116). -/
def ringAddr (tile place : Nat) : Nat := 0xA00000 + 0x20 * tile + 2 * place

/-- The internal table entry of a tile before anything is queued: HEAD and TAIL 1 (R116, R134). -/
def ringReset (_ : Nat) : Word := 0x11000000

/-- The internal table entry of a tile, in the layout of DEAL.RING_STATE. -/
def State.ringTab (s : State) (t : Nat) : Nat := (Cells.get ringReset s.deal.rings t).toNat

/-- HEAD of a tile's queue. -/
def State.ringHead (s : State) (t : Nat) : Nat := bitsOf (s.ringTab t) 28 4

/-- COUNT of a tile's queue. -/
def State.ringCount (s : State) (t : Nat) : Nat := bitsOf (s.ringTab t) 20 4

/-- The table entry of a tile replaced. -/
def State.setRingTab (s : State) (t v : Nat) : State :=
  { s with deal := { s.deal with rings := Cells.set ringReset s.deal.rings t (BitVec.ofNat 32 v) } }

/-- HEAD and COUNT of a tile set; TAIL is the place that follows the newest (R116). -/
def State.setQueuePos (s : State) (t head count : Nat) : State :=
  let tail := (head - 1 + count) % 15 + 1
  s.setRingTab t (putBits (putBits (putBits (s.ringTab t) 28 4 head) 24 4 tail) 20 4 count)

/-- The place of the i-th live descriptor counted from HEAD (R116). -/
def queuePos (head i : Nat) : Nat := (head - 1 + i) % 15 + 1

/-- The two words of the i-th live descriptor of a tile. -/
def State.desc (s : State) (t i : Nat) : Word36 × Word36 :=
  let a := ringAddr t (queuePos (s.ringHead t) i)
  (s.rd a, s.rd (a + 1))

/-- The two words of the i-th place from HEAD written. -/
def State.setDesc (s : State) (t i : Nat) (d : Word36 × Word36) : State :=
  let a := ringAddr t (queuePos (s.ringHead t) i)
  (s.wr a d.1).wr (a + 1) d.2

/-- CLASS of a descriptor's word 0. -/
def dClass (w : Word36) : Nat := bitsOf w.toNat 33 2
/-- SOURCE of a descriptor's word 0. -/
def dSource (w : Word36) : Nat := bitsOf w.toNat 30 3
/-- SHOTS of a descriptor's word 0. -/
def dShots (w : Word36) : Nat := bitsOf w.toNat 24 6
/-- HANDS of a descriptor's word 0. -/
def dHands (w : Word36) : Nat := bitsOf w.toNat 20 4

/-- The index of the first live descriptor that satisfies a test. -/
def State.findDesc (s : State) (t : Nat) (p : Word36 → Bool) : Option Nat :=
  (List.range (s.ringCount t)).find? fun i => p (s.desc t i).1

/-- The descriptors behind the i-th move one place towards HEAD, and the last place is vacated (R116). -/
def State.closeUp (s : State) (t i : Nat) : Nat → State
  | 0 => s.setDesc t i (0, 0)
  | n + 1 => (s.setDesc t i (s.desc t (i + 1))).closeUp t (i + 1) n

/-- The i-th live descriptor removed: HEAD advances for the oldest, TAIL steps back for another (R116). -/
def State.removeDesc (s : State) (t i : Nat) : State :=
  let n := s.ringCount t
  if n ≤ i then s
  else if i = 0 then (s.setDesc t 0 (0, 0)).setQueuePos t (queuePos (s.ringHead t) 1) (n - 1)
  else (s.closeUp t i (n - 1 - i)).setQueuePos t (s.ringHead t) (n - 1)

/-- A descriptor appended at TAIL (R116). -/
def State.appendDesc (s : State) (t : Nat) (d : Word36 × Word36) : State :=
  let n := s.ringCount t
  (s.setDesc t n d).setQueuePos t (s.ringHead t) (n + 1)

/-- Place 0 makes a tile live: VALID and CLASS 0 (R118). -/
def placeLive (w : Word36) : Bool := w.toNat.testBit 35 && dClass w == 0

/-- Word 0 of a descriptor (R117). -/
def descWord0 (cls src shots hands ff : Nat) : Word36 :=
  w36 (2 ^ 35 + cls * 2 ^ 33 + src * 2 ^ 30 + shots % 64 * 2 ^ 24 + hands % 16 * 2 ^ 20 + ff % 8192)

/-- Word 1 of a descriptor entered now (R117). -/
def State.descWord1 (s : State) (origin : Nat) : Word36 :=
  w36 (s.steer.frame.number % 4096 * 2 ^ 24 + s.f DEAL.HAND_STAT.AZ * 2 ^ 13 + origin % 512 * 16 + s.gen4)

/-- A descriptor merged: the larger SHOTS and HANDS, word 1 rewritten (R119). -/
def State.mergeDesc (s : State) (t i shots hands : Nat) (w1 : Word36) : State :=
  let w := (s.desc t i).1
  s.setDesc t i (w36 (putBits (putBits w.toNat 24 6 (max (dShots w) shots)) 20 4 (max (dHands w) hands)), w1)

/-- A bid dropped or displaced is counted (R119). -/
def State.bidDropped (s : State) : State := (s.incF DEAL.BIDS.BID_DROPPED).event 0x10 1

/-- Trump shots dropped or left unserved are counted (R119, R125). -/
def State.trumpShort (s : State) (n : Nat) : State :=
  if n = 0 then s else (s.addF DEAL.BIDS.TRUMP_SHORT n).event 0x10 2

/-- A descriptor enters a live tile's ring (R119). -/
def State.enterRing (s : State) (t cls src shots hands origin : Nat) : State :=
  let w1 := s.descWord1 origin
  match s.findDesc t (fun w => dClass w == cls && dSource w == src) with
  | some i => s.mergeDesc t i shots hands w1
  | none =>
    let d := (descWord0 cls src shots hands (s.rdN (ringAddr t 0) 0 13), w1)
    if s.ringCount t < 15 then s.appendDesc t d
    else if cls ≠ 2 then s.bidDropped
    else match s.findDesc t (fun w => dClass w == 1) with
      | some i => (s.removeDesc t i).bidDropped.appendDesc t d
      | none => s.mergeDesc t 0 shots hands w1

/-- Whether a source's requests are accepted (R125): FIELD and SUPV always. -/
def State.sourceOn (s : State) (src : Nat) : Bool :=
  match src with
  | 0 => s.fb DEAL.BID_CFG.HOST_EN
  | 1 => s.fb DEAL.BID_CFG.PNT_EN
  | 2 => s.fb DEAL.BID_CFG.ZONE_EN
  | _ => true

/-- The Dealer takes part in the work of the device (R86). -/
def State.dealerOn (s : State) : Bool := s.enabled 0x10 && s.enabled 0x11

/-- A bid (CLASS 1) or trump (CLASS 2) raised on a tile (R118, R119, R125). -/
def State.bid (s : State) (t cls src shots hands origin : Nat) : State :=
  if !s.dealerOn || !s.sourceOn src then s
  else if !placeLive (s.rd (ringAddr t 0)) then (if cls = 2 then s.trumpShort shots else s.bidDropped)
  else s.enterRing t cls src (if cls = 2 then shots else min shots (s.f DEAL.BID_CFG.BID_CAP)) hands origin

/-- A write of DEAL.BID (R134): SHOTS 0 removes the host bid, HANDS 0 is refused. -/
def State.hostBid (s : State) (src d : Nat) : State :=
  let t := bitsOf d 19 13
  if bitsOf d 9 4 = 0 then s.err 0x05 src DEAL.BID
  else if bitsOf d 13 6 = 0 then
    match s.findDesc t (fun w => dClass w == 1 && dSource w == 0) with
    | some i => s.removeDesc t i
    | none => s
  else s.bid t 1 0 (bitsOf d 13 6) (bitsOf d 9 4) (bitsOf d 0 9)

/-- HOST_BID (R134). -/
def execHostBid (src : Port) (data : BitVec 32) (s : State) : Host.Outcome State Fault Refusal :=
  .next (s.hostBid (portSrc src) data.toNat)

/-- Word 0 of place 0 that a tile will have once the forward queue is empty. -/
def State.placeZero (s : State) (t : Nat) : Word36 :=
  (s.ldb.fwd.foldl (fun acc e => if e.1 = t then some e.2 else acc) none).getD (s.rd (ringAddr t 0))

/-- A host write to place 0 (R118, R145): a change of FF_INDEX goes through the forward queue while the tiles
are enumerated; a full queue refuses it. Bits [19:13] of word 0 are reserved (R9, R117). Answers whether the write was
accepted. -/
def State.writePlace0 (s : State) (src t : Nat) (second : Bool) (d : Word36) : State × Bool :=
  let a := ringAddr t 0
  let v := memBits (if second then a + 1 else a) d
  if second then (s.wr (a + 1) v, true)
  else if !s.fb LDB.STATUS.ENUMERATED then (s.wr a v, true)
  else if bitsOf v.toNat 0 13 = bitsOf (s.placeZero t).toNat 0 13 ∧ !s.ldb.fwd.any (·.1 == t) then (s.wr a v, true)
  else if 64 ≤ s.ldb.fwd.length then
    ((s.incF LDB.ERR_CNT.QUEUE_FULL).errAt 0x10 0x06 src 0x10 (a % 1024), false)
  else (({ s with ldb := { s.ldb with fwd := s.ldb.fwd ++ [(t, v)] } }).maintStart, true)

/-- RING_PLACE0_WRITE (R118, R145). -/
def execRingPlace0Write (src : Port) (tile : Fin 8192) (second : Bool) (data : BitVec 36) (s : State) :
    Host.Outcome State Fault Refusal :=
  .next (s.writePlace0 (portSrc src) tile.val second data).1

/-- A table entry with an empty queue: HEAD and TAIL 1, COUNT 0 (R116); none when it is the entry at reset. -/
def emptyEntry (e : Nat × Word) : Option (Nat × Word) :=
  let v : Word := BitVec.ofNat 32 (putBits (putBits (putBits e.2.toNat 28 4 1) 24 4 1) 20 4 0)
  if v == ringReset e.1 then none else some (e.1, v)

/-- Every queue emptied at an entry to RUN: places 1-15 written zero, HEAD and TAIL 1 (R116, R121). -/
def State.emptyRings (s : State) : State :=
  { s with
    mem := s.mem.filter fun e => !queuePlace e.1
    ecc := s.ecc.filter fun e => !queuePlace e.1
    lost := { s.lost with queues := false }
    deal := { s.deal with rings := s.deal.rings.filterMap emptyEntry } }

/-- A write of 1 to DEAL.CNT_CLR (R134): words 0x01F-0x024. -/
def State.dealCntClr (s : State) : State :=
  [DEAL.FIRED, DEAL.DENIED, DEAL.THROTTLED, DEAL.LOST, DEAL.BIDS, DEAL.SHORT].foldl (fun s a => s.setReg a 0) s

/-- DEAL_CNT_CLR (R134). -/
def execDealCntClr (s : State) : Host.Outcome State Fault Refusal := .next s.dealCntClr

/-! ## Modes, slots and the fit of a hand (R110-R114) -/

/-- Active groups: group 0 alone in NORMAL, groups 0 to GROUPS otherwise (R111). -/
def State.groups (s : State) : List Nat :=
  if s.f DEAL.MODE.MODE = 0 then [0] else List.range (s.f DEAL.MODE.GROUPS + 1)

/-- The group of a band (R110). -/
def State.groupOf (s : State) (band : Nat) : Nat := bitsOf (s.f (DEAL.GROUP_MAP.MAP (band / 16))) (2 * (band % 16)) 2

/-- Positions per hand (R111). -/
def State.longFactor (s : State) : Nat :=
  if s.f DEAL.MODE.MODE = 2 then (if s.f DEAL.MODE.LONG_FACTOR = 0 then 2 else 4) else 1

/-- H, the hands of a frame (R176). -/
def State.handsPerFrame (s : State) : Nat := max 1 (s.f DEAL.HANDS.HANDS / s.longFactor)

/-- The gate end of a channel in TCLK, rounded up (R112, R196). -/
def State.gateEndTclk (s : State) (ch : Nat) : Nat := divUp (s.f (TDC.GATE_END.VALUE (ch / 48) (ch % 48))) 128

/-- G: the latest gate end of the channels of the active groups (R112). -/
def State.gateG (s : State) : Nat :=
  (List.range 384).foldl (fun g c => if s.groups.contains (s.groupOf (c / 6)) then max g (s.gateEndTclk c) else g) 0

/-- SPAN: the largest dither span among the active groups (R112). -/
def State.span (s : State) : Nat := s.groups.foldl (fun n g => max n (s.f (SHUF.DITHER.SPAN g))) 0

/-- S_fit for a hand period in TCLK (R112, R113). -/
def State.sFit (s : State) (period : Nat) : Nat :=
  let need := s.span + 4 + s.gateG
  if period < need then 0 else (period - need) / max 1 (s.f DEAL.SPACING.SPACING) + 1

/-- S_eff (R113). -/
def State.sEff (s : State) (period : Nat) : Nat := min (s.f DEAL.SLOTS.SLOTS) (s.sFit period)

/-- OPEN (R114). -/
def openSlots (setting sEff : Nat) : Nat := if 2 ≤ sEff then min setting (sEff - 1) else sEff

/-- SLOT_TILES (R134): 0 means 64. -/
def State.slotTiles (s : State) : Nat := if s.f DEAL.SLOTS.SLOT_TILES = 0 then 64 else s.f DEAL.SLOTS.SLOT_TILES

/-- The sector of an azimuth position (R108). -/
def State.sector (s : State) (az : Nat) : Nat := az / max 1 (s.f DEAL.HANDS.HANDS / 128) % 128

/-- Slots lost to a shortened hand are counted in NORMAL and CODED (R113). -/
def State.slotsCut (s : State) (mode n : Nat) : State :=
  if n = 0 ∨ mode = 2 then s else (s.addF DEAL.LOST.SLOTS_CUT n).event 0x10 4

/-- A slot of a hand lost to a moved boundary, counted once whichever groups lose it (R113, R472). -/
def State.cutSlot (s : State) (h : Hand) (mode slot : Nat) : State × Hand :=
  if h.cuts.contains slot then (s, h) else (s.slotsCut mode 1, { h with cuts := h.cuts ++ [slot] })

/-! ## The pattern engine (R126) -/

/-- The pattern step of the next frame and the frames it has been held: it moves on after HOLD + 1 frames. -/
def State.nextPattern (s : State) : Nat × Nat :=
  let len := s.f DEAL.PAT_CTRL.LEN
  let k := s.f DEAL.HAND_STAT.PAT_STEP
  if len = 0 then (0, 0)
  else if s.deal.patHeld < s.f (DEAL.PAT_STEP.HOLD k) then (k, s.deal.patHeld + 1)
  else ((k + 1) % len, 0)

/-- Whether the latched requests change the pattern words (R126). -/
def State.patternChanges (s : State) : Bool :=
  (DEAL.PAT_CTRL :: (List.range 8).map DEAL.PAT_STEP).any fun a => s.asNext.reg a != s.reg a

/-- The pattern step that the hand announced runs under: a new one at the first hand of a frame. -/
def State.patternFor (s : State) (h : Hand) : Nat × Nat :=
  if h.entry ∨ (h.first ∧ s.patternChanges) then (0, 0)
  else if h.first then s.asNext.nextPattern
  else (s.f DEAL.HAND_STAT.PAT_STEP, s.deal.patHeld)

/-- BASE of a pattern step: 0 with the engine off (R126). -/
def State.patBase (s : State) (k : Nat) : Nat := if s.f DEAL.PAT_CTRL.LEN = 0 then 0 else s.f (DEAL.PAT_STEP.BASE k)

/-! ## Shuffle coding (R127-R129) -/

/-- One step of the 16-bit LFSR (R127). -/
def lfsrStep (l : Nat) : Nat :=
  let b := xor (xor (l.testBit 15) (l.testBit 13)) (xor (l.testBit 12) (l.testBit 10))
  l * 2 % 65536 + b2n b

/-- Sixteen steps of the LFSR (R127). -/
def lfsr16 (l : Nat) : Nat := (List.range 16).foldl (fun l _ => lfsrStep l) l

/-- The dither of a state after advancing (R127). -/
def dither (l span : Nat) : Nat := l * (span + 1) / 65536

/-- The LFSRs loaded with the seeds of the settings given, for the groups named (R127). -/
def State.loadSeeds (s : State) (c : State) (gs : List Nat) : State :=
  { s with deal := { s.deal with lfsr := gs.foldl (fun l g => setNth l g (c.f (SHUF.SEED.SEED g))) s.deal.lfsr } }

/-! ## The snapshot and the budgets (R120-R123) -/

/-- The counted descriptors of a tile: SHOTS of bids and of trumps among those whose HANDS is 1 or more. -/
def State.descSums (s : State) (t : Nat) : Nat × Nat :=
  (List.range (s.ringCount t)).foldl (fun (b, tr) i =>
    let w := (s.desc t i).1
    if dHands w = 0 then (b, tr)
    else if dClass w = 2 then (b, tr + dShots w) else (b + dShots w, tr)) (0, 0)

/-- Every counted descriptor of a tile loses one visit; their keys are kept with the hand (R120). -/
def State.takeVisit (s : State) (t : Nat) : State × List (Nat × Nat × Nat) :=
  (List.range (s.ringCount t)).foldl (fun (s, ks) i =>
    let d := s.desc t i
    if dHands d.1 = 0 then (s, ks)
    else (s.setDesc t i (w36 (putBits d.1.toNat 20 4 (dHands d.1 - 1)), d.2), ks ++ [(t, dClass d.1, dSource d.1)])) (s, [])

/-- The budget of a live tile (R122). -/
def budget (sEff ante bids trumps scale : Nat) : Nat := min sEff (trumps + (ante + bids) / 2 ^ scale)

/-- The opening share of a budget (R123). -/
def openShare (b open_ sEff : Nat) : Nat := if sEff = 0 then 0 else divUp (b * open_) sEff

/-- The snapshot of one tile (R120, R122, R126): its visit is counted, and its budget computed from the
settings `c` of the hand; an uncorrectable ring word leaves the tile dark (R402). Answers with the errors met. The hand with which RUN begins finds the queues empty (R121). -/
def State.snapTile (c s : State) (h : Hand) (step t : Nat) : State × HandTile × List (Nat × Nat × Nat) × List (Nat × Nat) :=
  let w := s.rd (ringAddr t 0)
  let entry := c.patBase step + bitsOf w.toNat 0 13
  let inRange := entry < c.f EMIT.FF_CTRL.FF_SIZE
  let bad := (List.range 32).any fun i => s.eccBad (ringAddr t 0 + i)
  let s := (List.range 32).foldl (fun s i => s.eccRead (ringAddr t 0 + i)) s
  let errs := (if bad then [(0x07, ringAddr t 0 % 1024)] else []) ++ (if placeLive w && !inRange then [(0x10, ringAddr t 0 % 1024)] else [])
  let (bids, trumps) := if h.entry then (0, 0) else s.descSums t
  let (s, ks) := if h.entry then (s, []) else s.takeVisit t
  let live := placeLive w && inRange && !bad
  let scale := s.f DEAL.HAND_STAT.SCALE
  let b := if live then budget h.sEff (dShots w) bids trumps scale else 0
  (s, { tile := t, group := c.groupOf (t / 128), entry := entry, budget := b,
        opening := openShare b h.openSlots h.sEff, trump := if live then trumps else 0, spentO := 0, spentT := 0,
        ante := if live then dShots w / 2 ^ scale else 0 }, ks, errs)

/-- The antes of a group's tiles after scaling (R123). -/
def anteSum (tiles : List HandTile) (g : Nat) : Nat :=
  tiles.foldl (fun n t => if t.group = g then n + t.ante else n) 0

/-- ANTE_OVER where the antes of a group exceed its places (R123). -/
def State.anteCheck (c s : State) (h : Hand) (tiles : List HandTile) : State :=
  if c.groups.any fun g => c.slotTiles * h.sEff < anteSum tiles g then (s.incF DEAL.SHORT.ANTE_OVER).event 0x10 0 else s

/-- The mask and substitute words of the settings given (R140). -/
def maskWords (m : Cells 32) : Cells 32 :=
  m.filter fun e => (EMIT.SUBST 0 ≤ e.1 && e.1 ≤ EMIT.SUBST 31) || (EMIT.MASK_HOST 0 ≤ e.1 && e.1 ≤ EMIT.MASK_AUTO 255)

/-- The groups whose seed the latched requests change (R127). -/
def State.changedSeeds (s : State) : List Nat :=
  (List.range 4).filter fun g => s.asNext.f (SHUF.SEED.SEED g) != s.f (SHUF.SEED.SEED g)

/-- The snapshot of the sector of a hand (R120); no tile is visited while the Dealer is off, and the rings keep their
contents (R86). -/
def State.snapshot (s : State) (h : Hand) : State :=
  let c := s.asNext
  let step := (s.patternFor h).1
  let sec := c.sector h.az
  let (s, tiles, ks, es) := (if c.dealerOn then List.range 64 else []).foldl (fun (s, ts, ks, es) b =>
    let (s, t, k, e) := State.snapTile c s h step (128 * b + sec)
    (s, ts ++ [t], ks ++ k, es ++ e)) (s, ([] : List HandTile), ([] : List (Nat × Nat × Nat)), ([] : List (Nat × Nat)))
  let s := (sortBy (fun x y => decide (x.1 ≤ y.1)) es).foldl (fun s e => s.errAt 0x10 e.1 0 0x10 e.2) s
  let s := State.anteCheck c s h tiles
  { s with deal := { s.deal with next := some { h with snapped := true, tiles := tiles, served := ks, masks := maskWords c.regs } } }

/-- A hand not started for droop (R78). -/
def State.skipHand (s : State) (h : Hand) : State :=
  let s := s.incF CLK.DROOP_STAT.HANDS_SKIPPED
  let s := s.eventIf s.pwr.droopLong 0x01 3
  let early := s.pwr.droopStart.any fun t => decide (s.mono ≤ t + 10000000)
  { s with deal := { s.deal with next := some { h with skipped := true, early := early } } }

/-- RING_SNAPSHOT (R120, R78): in RUN, and for the hand with which RUN begins; not for a hand that RUN's end
leaves unstarted (R68). -/
def execRingSnapshot (s : State) : Host.Outcome State Fault Refusal :=
  match s.deal.next with
  | none => .next s
  | some h =>
    if h.snapped ∨ h.skipped ∨ !(s.pwr.st = .run ∧ !s.pwr.readyPending ∧ s.pwr.target = .run ∨ h.entry) then .next s
    else if s.fb CLK.DROOP.HANDS_HELD then .next (s.skipHand h)
    else .next (s.snapshot h)

/-! ## Arbitration (R124) -/

/-- Owed of a tile in the phase of a slot (R124). -/
def HandTile.owed (t : HandTile) (opening : Bool) : Nat :=
  if opening then t.opening - t.spentO else t.budget - t.opening - t.spentT

/-- The order of arbitration (R124): trump shots unspent first, then the largest owed, then the lowest tile. -/
def HandTile.before (opening : Bool) (a b : HandTile) : Bool :=
  if (0 < a.trump) != (0 < b.trump) then 0 < a.trump
  else if a.owed opening ≠ b.owed opening then b.owed opening < a.owed opening
  else a.tile < b.tile

/-- A tile of a throttled slice, or of one that drains (R131, R28). -/
def State.darkSlice (s : State) (tile : Nat) : Bool :=
  bitOf (s.f DEAL.THROTTLE_STAT.SLICE) (tile / 256) || s.deal.drain.contains (tile / 256)

/-- A tile-shot counted (R124): its phase's count grows, and a trump shot is spent before any other. -/
def HandTile.spend (t : HandTile) (opening : Bool) : HandTile :=
  if opening then { t with spentO := t.spentO + 1, trump := t.trump - 1 } else { t with spentT := t.spentT + 1, trump := t.trump - 1 }

/-- The laser is ready to fire: the blocks are enabled, the tiles enumerated, no shut-off and no recovery (R86,
R160, R162). -/
def State.laserReady (s : State) : Bool :=
  s.enabled 0x12 && s.enabled 0x13 && s.enabled 0x14 && s.enabled 0x15 &&
  s.fb LDB.STATUS.ENUMERATED && !s.fb EMIT.FAULT.HAZ && !s.fb LDB.STATUS.RECOVERING

/-- A tile's firing-frame entry holds an uncorrectable word (R402). -/
def State.ffEccBad (c s : State) (e : Nat) : Bool :=
  let buf := c.f EMIT.FF_CTRL.ACTIVE_SEL
  match c.chain buf (c.f EMIT.FF_CTRL.FF_SIZE) e 8 with
  | some es => es.any fun e => s.eccBad (ffAddr buf e)
  | none => false

/-- The governor asked about the lit tiles in order (R153): the tiles that pass with their cells, the bands that
lost a masked cell, and the number denied. An uncorrectable entry leaves its tile dark, reported on EMIT (R402). -/
def State.askAll (c s : State) (m : Cells 32) (n : Nat) (lit : List HandTile) :
    State × List (Nat × List FireCell) × List Nat × Nat :=
  lit.foldl (fun (s, ok, bands, den) t =>
    if State.ffEccBad c s t.entry then (s.errAt 0x12 0x07 0 0x12 (t.entry % 1024), ok, bands, den) else
    let (cells, lost) := c.tileCells m (c.f EMIT.FF_CTRL.ACTIVE_SEL) (c.f EMIT.FF_CTRL.FF_SIZE) t.entry
    let (s, pass) := s.govern cells n
    (s, if pass then ok ++ [(t.tile, cells)] else ok, if lost then bands ++ [t.tile / 128] else bands, if pass then den else den + 1))
    (s, ([] : List (Nat × List FireCell)), ([] : List Nat), 0)

/-- The ARM frame of a slot with the lit bands of the groups arbitrated so far (R144). -/
def State.armFrame (s : State) (h : Hand) (slot step sec : Nat) (bands : List Nat) : State :=
  let m := match s.ldb.arm with
    | some (j, m) => if j = slot then m else 0
    | none => 0
  let m := bands.foldl (fun m b => m ||| 2 ^ b) m
  let s := { s with ldb := { s.ldb with arm := some (slot, m) } }
  if m = 0 ∧ slot ≠ 0 then s
  else s.putBus none (if h.first && slot == 0 then 0x11 else 0x10)
    ((slot * 1024 + step * 128 + sec) :: (List.range 4).map fun i => m / 2 ^ (16 * (3 - i)) % 65536)

/-- The LFSR of a group advanced (R127). -/
def State.advance (s : State) (g : Nat) : State :=
  { s with deal := { s.deal with lfsr := updNth s.deal.lfsr g lfsr16 } }

/-- Whether the gate of a fire command of a hand closes 8 TCLK before a boundary that R175 has moved (R472); the hand that
begins at that boundary is not concerned. `c` holds the settings of the hand. -/
def State.closesInTime (c s : State) (h : Hand) (fire : Nat) : Bool :=
  match s.steer.frame.moved with
  | some m => h.first && h.start == m || decide (fire + c.gateG + 8 ≤ m)
  | none => true

/-- The slot of a group closes (R124): the tiles are ranked and lit, plausibility is read, the governor asked,
the ARM frame follows and the LFSR gives the dither. `c` holds the settings of the hand, `step` its pattern step. -/
def State.arbitrate (c s : State) (h : Hand) (g slot step : Nat) : State × Hand :=
  let h := { h with slots := setNth h.slots g (slot + 1) }
  let opening := decide (slot < h.openSlots)
  let cand := h.tiles.filter fun t => t.group == g && 0 < t.owed opening
  let kept := cand.filter fun t => !(s.darkSlice t.tile || (slot == 0 && h.drained.contains (t.tile / 256)))
  let s := s.addF DEAL.THROTTLED.COUNT (cand.length - kept.length)
  let lit := (sortBy (HandTile.before opening) kept).take c.slotTiles
  let sec := c.sector h.az
  let l := lfsr16 (nth s.deal.lfsr g 0)
  let fire := h.start + slot * c.f DEAL.SPACING.SPACING + dither l (c.f (SHUF.DITHER.SPAN g)) + 4
  if !State.closesInTime c s h fire then
    let (s, h) := s.cutSlot h (c.f DEAL.MODE.MODE) slot
    (s.armFrame h slot step sec [], h)
  else if !s.fb STEER.PLAUS.PLAUSIBLE then
    (((s.incF DEAL.LOST.PLAUS_HELD).event 0x10 5).armFrame h slot step sec [], { h with plausHeld := true })
  else if !c.laserReady then (s.armFrame h slot step sec [], h)
  else
    let n := c.f (SHUF.BURST.PULSES g) + 1
    let (s, ok, bands, den) := State.askAll c s h.masks n lit
    let s := if den = 0 then s else (s.addF DEAL.DENIED.COUNT den).event 0x10 6
    let tiles := h.tiles.map fun t => if lit.any (·.tile == t.tile) then t.spend opening else t
    let h := { h with tiles := tiles, maskedBands := h.maskedBands ++ bands.filter fun b => !h.maskedBands.contains b }
    let s := s.armFrame h slot step sec (ok.map fun t => t.1 / 128)
    if ok.isEmpty then (s, h)
    else
      let d : Decision := { slot := slot, opening := opening, fire := fire, tiles := ok, pulses := n, static := s.static,
                            govEnds := s.emit.govEnds }
      (s.advance g, { h with decided := setNth h.decided g (some d) })

/-- The LFSR of a group before slot 0 of the hand announced (R127): loaded at an entry to RUN and for a changed seed, the
settings `c` being those of the hand. -/
def State.slotZero (s c : State) (h : Hand) (g : Nat) : State × Hand :=
  if (h.entry || s.changedSeeds.contains g) && !h.seeded.contains g then
    (s.loadSeeds c [g], { h with seeded := h.seeded ++ [g] })
  else (s, h)

/-- SLOT_ARBITRATION (R124): slot 0 closes before the hand's boundary, so it belongs to the hand announced; the
slots of a group close in order. -/
def execSlotArbitration (group : Fin 4) (slot : Fin 64) (s : State) : Host.Outcome State Fault Refusal :=
  let g := group.val
  let j := slot.val
  let ready (h : Hand) : Bool := h.snapped && nth h.slots g 0 == j && j < h.sEff
  let run := s.pwr.target == .run
  if j = 0 then
    match s.deal.next with
    | some h =>
      let c := s.asNext
      if ready h ∧ run ∧ c.dealerOn ∧ c.groups.contains g then
        let (s, h) := (s.slotZero c h g)
        let (s, h) := State.arbitrate c s { h with uncertain := h.uncertain || s.fb STEER.PLAUS.UNCERTAIN } g 0 (s.patternFor h).1
        .next { s with deal := { s.deal with next := some h } }
      else .next s
    | none => .next s
  else
    match s.deal.cur with
    | some h =>
      if ready h ∧ (s.pwr.st = .run ∧ s.pwr.target ≠ .standby) ∧ s.dealerOn ∧ s.groups.contains g then
        let (s, h) := State.arbitrate s s { h with uncertain := h.uncertain || s.fb STEER.PLAUS.UNCERTAIN } g j
          (s.f DEAL.HAND_STAT.PAT_STEP)
        .next { s with deal := { s.deal with cur := some h } }
      else .next s
    | none => .next s

/-! ## The fire command (R31, R146, R156) -/

/-- The energy of a decided fire command that is not issued leaves the governor's sums (R153). -/
def State.takeBack (s : State) (d : Decision) : State := d.tiles.foldl (fun s t => s.ungovern d.govEnds t.2 d.pulses) s

/-- Tile-shots of a withheld fire command counted as denied, their energy taken back (R31, R153, R156). -/
def State.withhold (s : State) (d : Decision) : State :=
  let s := s.takeBack d
  if d.tiles.isEmpty then s else (s.addF DEAL.DENIED.COUNT d.tiles.length).event 0x10 6

/-- Tile-shots that fail the static re-check, counted by the window they break (R156). -/
def State.recheckCount (s : State) (d : Decision) : State :=
  d.tiles.foldl (fun s t => match s.recheckBreaks t.2 with
    | some w => s.incF (denyField w)
    | none => s) s

/-- Bands in which a tile-shot has been fired. -/
def Hand.addFired (h : Hand) (bands : List Nat) : Hand := { h with fired := h.fired ++ bands }

/-- The rising edges of a burst of `n` pulses whose first is at `fire` (R128). -/
def State.pulseEdges (s : State) (g fire n : Nat) : List Nat :=
  let i1 := s.f (SHUF.BURST.I1 g)
  let i2 := s.f (SHUF.BURST.I2 g)
  let i3 := s.f (SHUF.BURST.I3 g)
  [fire, fire + i1, fire + i1 + i2, fire + i1 + i2 + i3].take n

/-- The fire command of a group is issued (R115, R128, R129): the count grows, and the shot is recorded with its burst. -/
def State.issue (s : State) (g : Nat) (d : Decision) : State × Shot :=
  let tag := s.f (SHUF.COUNT.COUNT g) % 32
  let sh : Shot := { group := g, slot := d.slot, opening := d.opening, fire := d.fire, tag := tag,
                     bands := d.tiles.map fun t => t.1 / 128, cells := d.tiles.flatMap (·.2),
                     pulses := s.pulseEdges g d.fire d.pulses }
  let s := s.setReg (SHUF.COUNT g) (s.reg (SHUF.COUNT g) + 1)
  let s := s.addF DEAL.FIRED.COUNT d.tiles.length
  let s := { s with deal := { s.deal with cur := s.deal.cur.map (Hand.addFired · sh.bands) } }
  let s := { s with emit := { s.emit with shots := setNth s.emit.shots g (some sh) } }
  match s.ldb.darkFrom with
  | some t => ({ s with ldb := { s.ldb with darkFrom := none } }.setF LDB.DARK.LAST_US (satTo 16 (s.usSince t)), sh)
  | none => (s, sh)

/-- A hand without a group's decided fire command. -/
def Hand.undecided (h : Hand) (g : Nat) : Hand := { h with decided := setNth h.decided g none }

/-- The fire command of a group, with the re-checks of R31 and R156: the shot if it was issued. -/
def State.fireCommand (s : State) (g : Nat) : State × Option Shot :=
  match s.deal.cur with
  | none => (s, none)
  | some h =>
    match nth h.decided g none with
    | none => (s, none)
    | some d =>
      let s := { s with deal := { s.deal with cur := some (h.undecided g) } }
      if !s.dealerOn ∨ !s.laserReady ∨ s.pwr.st ≠ .run then (s, none)
      else if !State.closesInTime s s h d.fire then
        let (s, h) := (s.takeBack d).cutSlot (h.undecided g) (s.f DEAL.MODE.MODE) d.slot
        ({ s with deal := { s.deal with cur := some h } }, none)
      else if !s.fb STEER.PLAUS.PLAUSIBLE then (s.withhold d, none)
      else if s.static ∧ !d.static ∧ d.tiles.any (fun t => (s.recheckBreaks t.2).isSome) then
        ((s.recheckCount d).withhold d, none)
      else let (s, sh) := s.issue g d; (s, some sh)

/-! ## The end and the beginning of a hand (R116, R120, R125) -/

/-- The descriptors of a tile whose HANDS is zero are removed, but for some (R120); a ring holds at most 15. -/
def State.removeSpent (s : State) (t : Nat) (kept : List (Nat × Nat × Nat)) : Nat → State
  | 0 => s
  | n + 1 =>
    match s.findDesc t (fun w => dHands w == 0 && !kept.contains (t, dClass w, dSource w)) with
    | some i => (s.removeDesc t i).removeSpent t kept n
    | none => s

/-- At the end of a visited hand the descriptors of its tiles whose HANDS is zero are removed, but for those that the hand
announced has counted (R120). -/
def State.removeExpired (s : State) (h : Hand) : State :=
  let kept := match s.deal.next with
    | some n => n.served
    | none => []
  h.tiles.foldl (fun s t => s.removeSpent t.tile kept 15) s

/-- A visited tile at the end of its hand: BUDGET and GRANTED recorded, a shortfall counted (R123, R134). -/
def State.endTile (s : State) (t : HandTile) : State :=
  let granted := t.spentO + t.spentT
  let s := s.setRingTab t.tile (putBits (putBits (s.ringTab t.tile) 14 6 t.budget) 8 6 granted)
  if granted < t.budget then s.incF DEAL.SHORT.SHORTFALL else s

/-- The hand in progress ends (R116, R120, R123, R125). -/
def State.endHand (s : State) : State :=
  match s.deal.cur with
  | none => s
  | some h =>
    let s := h.tiles.foldl (fun s t => s.endTile t) s
    let s := s.trumpShort (h.tiles.foldl (fun n t => n + t.trump) 0)
    let s := s.removeExpired h
    { s with deal := { s.deal with
        cur := none
        past := if h.snapped then s.deal.past ++ [h] else s.deal.past } }

/-- The hand announced begins, with the settings now in force (R26, R134). -/
def State.beginHand (s : State) (pat : Nat × Nat) : State :=
  match s.deal.next with
  | none => s
  | some h =>
    let s := ((s.setF DEAL.HAND_STAT.AZ h.az).setF DEAL.HAND_STAT.S_EFF h.sEff).setF DEAL.HAND_STAT.PAT_STEP pat.1
    { s with
      deal := { s.deal with
        next := none
        patHeld := pat.2
        cur := some { h with gen := s.f CHIP.GEN.GLOBAL, frame := s.steer.frame.number, cfg := s.regs,
                             count := s.hist.next, stamp := s.timeNs, recovery := h.recovery || s.ldb.darkFrom.isSome,
                             locked := s.steer.mode == 2 && s.f STEER.LOCK_STAT.STATE == 2 } }
      hist := if h.snapped then { s.hist with next := s.hist.next + 1 } else s.hist
      ldb := { s.ldb with arm := match s.ldb.arm with
        | some (0, m) => some (0, m)
        | _ => none } }

/-- The groups whose LFSR the hand announced has loaded for itself (R127). -/
def State.seededNext (s : State) : List Nat :=
  match s.deal.next with
  | some h => h.seeded
  | none => []

/-- What RUN begins with (R121, R127, R129): empty queues, the seeds loaded but for the groups whose first slot has done so,
the shot counts at zero. -/
def State.runCounts (s : State) : State :=
  let s := s.emptyRings
  let s := s.loadSeeds s ((List.range 4).filter fun g => !s.seededNext.contains g)
  let s := (List.range 4).foldl (fun s g => s.setReg (SHUF.COUNT g) 0) s
  if s.fb LDB.STATUS.ENUMERATED then s.putBus none 0x02 [] else s

end Sys2Proof.Machine
end

