-- ==== Sys2Proof/Machine/Steer.lean ====
section
/-! DEFINITION. Beam steering (spec/07): the sense front end, the frame timer and its loop, the trajectory, the
control law, steering modes, plausibility. -/

namespace Sys2Proof.Machine

/-! ## Plausibility (R183-R185) -/

/-- A bit of STEER.PLAUS.CAUSE. -/
def State.cause (s : State) (bit : Nat) : Bool := bitOf (s.f STEER.PLAUS.CAUSE) bit

/-- A hand that is being fired carries MIRROR_UNCERTAIN (R184). -/
def Hand.markUncertain (h : Hand) : Hand :=
  if h.snapped && h.slots.any (0 < ·) then { h with uncertain := true } else h

/-- The last gate of the hand in progress has closed: its slots are arbitrated, no fire command is left, and every channel
has the marker of its last shot. -/
def State.gatesClosed (s : State) (h : Hand) : Bool :=
  (s.groups.all fun g => decide (h.sEff ≤ nth h.slots g 0)) && h.decided.all Option.isNone && s.ret.chans.all Chan.gap

/-- MIRROR_UNCERTAIN set on the hands in their span, from the arbitration of the first slot to the close of the last gate
(R184). -/
def State.markHands (s : State) : State :=
  let cur := s.deal.cur.map fun h => if s.gatesClosed h then h else h.markUncertain
  { s with deal := { s.deal with next := s.deal.next.map Hand.markUncertain, cur := cur } }

/-- The conditions are decided (R183, R473): the flag clears at once, MIRROR_UNCERTAIN follows every condition,
and the indications reach EMIT. -/
def State.decidePlaus (s : State) (cause : Nat) : State :=
  let s := s.setF STEER.PLAUS.CAUSE cause
  let run := s.pwr.st == .run
  let clears := cause % 512 != 0
  let s := if clears then { s with steer := { s.steer with clean := 0 } } else s
  let s := if clears && s.fb STEER.PLAUS.PLAUSIBLE then
      let s := (s.setB STEER.PLAUS.PLAUSIBLE false).event 0x14 2
      if run then s.incF STEER.PLAUS_CNT.CLEARS else s
    else s
  let s :=
    if cause ≠ 0 then
      if s.fb STEER.PLAUS.UNCERTAIN then s.markHands else
        let s := (s.setB STEER.PLAUS.UNCERTAIN true).event 0x14 3
        (if run then s.incF STEER.PLAUS_CNT.UNCERTAINS else s).markHands
    else s.setB STEER.PLAUS.UNCERTAIN false
  s.staticNow

/-- A bit of CAUSE set to a value, and the conditions decided. -/
def State.setCause (s : State) (bit : Nat) (b : Bool) : State :=
  s.decidePlaus (putBits (s.f STEER.PLAUS.CAUSE) bit 1 (b2n b))

/-- A sense channel reports OPEN: by R171, or while SENSE is disabled (R86). -/
def State.senseOpen (s : State) (n : Nat) : Bool := !s.enabled 0x15 || s.fb (SENSE.STAT.OPEN n)

/-- The position channels of the enabled axes (R173). -/
def State.posChannels (s : State) : List Nat :=
  [0, 1].flatMap fun a =>
    if s.fb (STEER.ROLE.AXIS_EN a) then
      s.f (STEER.ROLE.POS_A a) :: (if s.fb (STEER.ROLE.B_EN a) then [s.f (STEER.ROLE.POS_B a)] else [])
    else []

/-- A channel is beyond a threshold with an ACTION that clears plausibility (R170). -/
def State.thresholdClears (s : State) (n : Nat) : Bool :=
  s.fb (SENSE.CFG.EN n) && 2 ≤ s.f (SENSE.CFG.ACTION n) && (s.fb (SENSE.STAT.HI n) || s.fb (SENSE.STAT.LO n))

/-- An axis. -/
def State.axis (s : State) (a : Nat) : Axis := nth s.steer.axes a {}

/-- The loop is closed. -/
def Axis.closed (x : Axis) : Bool :=
  match x.mode with
  | .opened _ _ _ => false
  | _ => true

/-- A sense channel. -/
def State.senseCh (s : State) (n : Nat) : SenseCh := nth s.steer.sense n {}

/-- POS_B of an axis is enabled and healthy. -/
def State.posBWell (s : State) (a : Nat) : Bool := s.fb (STEER.ROLE.B_EN a) && !s.senseOpen (s.f (STEER.ROLE.POS_B a))

/-- Tracking of an axis is checked: while it is updated, on POS_A, or on POS_B while POS_A is OPEN (R183). -/
def State.tracks (s : State) (a : Nat) : Bool :=
  s.fb (STEER.ROLE.AXIS_EN a) && s.enabled 0x14 && (s.axis a).closed && (!s.senseOpen (s.f (STEER.ROLE.POS_A a)) || s.posBWell a)

/-- Disagreement of an axis is checked (R183). -/
def State.agrees (s : State) (a : Nat) : Bool :=
  s.fb (STEER.ROLE.AXIS_EN a) && s.enabled 0x14 && !s.senseOpen (s.f (STEER.ROLE.POS_A a)) && s.posBWell a

/-- The conditions that follow from the state at once: bits [0], [1], [6] to [11] of R183; bits [2] to [5] hold no longer where
they are not checked. -/
def State.replaus (s : State) : State :=
  let pos := s.posChannels
  let set (c bit : Nat) (b : Bool) := putBits c bit 1 (b2n b)
  let c := s.f STEER.PLAUS.CAUSE
  let c := set c 0 (s.pwr.st != .run || s.steer.mode == 0 || s.steer.mode == 3 || !s.enabled 0x14)
  let c := set c 1 s.steer.capturing
  let c := [0, 1].foldl (fun c a =>
    set (set c (2 + a) (bitOf c (2 + a) && s.tracks a)) (4 + a) (bitOf c (4 + a) && s.agrees a)) c
  let c := set c 6 (pos.any fun n => (s.senseCh n).satZero)
  let c := set c 7 ((List.range 8).any s.thresholdClears)
  let c := set c 8 (s.steer.axes.any fun x => decide (4 ≤ x.missed))
  let c := set c 9 (s.steer.mode == 1)
  let c := set c 10 (pos.any s.senseOpen)
  let c := set c 11 (pos.any fun n => s.fb (SENSE.STAT.DRIFT n))
  s.decidePlaus c

/-- An X update with no clearing condition counts towards REARM (R183). -/
def State.rearm (s : State) : State :=
  if s.f STEER.PLAUS.CAUSE % 512 ≠ 0 then s else
  let s := { s with steer := { s.steer with clean := s.steer.clean + 1 } }
  if max 1 (s.f STEER.PLAUS_CFG.REARM) ≤ s.steer.clean then s.setB STEER.PLAUS.PLAUSIBLE true else s

/-! ## Steering modes (R182) -/

/-- An axis replaced. -/
def State.setAxis (s : State) (a : Nat) (x : Axis) : State :=
  { s with steer := { s.steer with axes := setNth s.steer.axes a x } }

/-- The code at the DAC now: of an open loop it moves linearly over 1.5 ms (R182), rounded towards its start. -/
def State.dacCode (s : State) (a : Nat) : Int :=
  match (s.axis a).mode with
  | .opened src target since =>
    let t := s.mono - since
    if 15000000 ≤ t then target else src + (target - src) * t / 15000000
  | _ => s.fi (STEER.DRIVE.VALUE a)

/-- An axis that is updated no more. -/
def State.stopAxis (s : State) (a : Nat) (m : AxisMode) : State :=
  (s.setAxis a { s.axis a with mode := m, due := [], last := none, off := 0, missed := 0, rest := 0 }).setB (STEER.STAT.ACTIVE a) false

/-- The loop of an axis opened towards a code. -/
def State.openAxis (s : State) (a : Nat) (target : Int) : State := s.stopAxis a (.opened (s.dacCode a) target s.mono)

/-- An axis disabled: its code is zero (R173, R180). -/
def State.zeroAxis (s : State) (a : Nat) : State := s.stopAxis a (.opened 0 0 s.mono)

/-- An axis taken into a closed-loop mode (R182): in ramp from an open loop the set-point starts at the measured
position, in locked mode the capture offset is taken at the first update. -/
def State.closeAxis (s : State) (a : Nat) (m : AxisMode) : State :=
  let x := s.axis a
  let y := s.fi (SENSE.SAMPLE.SAMPLE (s.f (STEER.ROLE.POS_A a)))
  let r := if m = .ramp ∧ !x.closed then y else x.r
  let s := s.setI (STEER.DRIVE.VALUE a) (s.dacCode a)
  s.setAxis a { x with mode := m, r := r, fresh := m == .locked, last := none, rest := 0 }

/-- PARK_I of an axis (R182). -/
def State.parkCode (s : State) (a : Nat) : Int := if a = 0 then s.fi STEER.PARK_I.IX else s.fi STEER.PARK_I.IY

/-- An axis brought into a steering mode. A disabled axis drives zero (R173), as both do in no mode, after moving there (R86,
R182). -/
def State.axisMode (s : State) (m a : Nat) : State :=
  if !s.fb (STEER.ROLE.AXIS_EN a) then s.zeroAxis a
  else match m with
  | 3 => s.openAxis a 0
  | 0 => if s.fb STEER.MODE.PARK_CL then s.closeAxis a .park else s.openAxis a (s.parkCode a)
  | 1 => s.closeAxis a .ramp
  | _ => s.closeAxis a .locked

/-- The mode that applies now (R182): MODE in RUN, park in READY, none elsewhere, with STEER disabled, or with SCAN off
or on its way off (R70). -/
def State.wantedMode (s : State) : Nat :=
  if !s.enabled 0x14 || nth s.pwr.domains 1 .off != .on || s.pwr.shakes.any (fun k => k.doms.contains 1) then 3
  else match s.pwr.st with
  | .run => min 2 (s.f STEER.MODE.MODE)
  | .ready => 0
  | _ => 3

/-- The steering mode follows the device state and the settings (R182). -/
def State.steerMode (s : State) : State :=
  let m := s.wantedMode
  if m = s.steer.mode then s.replaus else
  let s := { s with steer := { s.steer with mode := m, capturing := m == 2 } }
  ((s.axisMode m 0).axisMode m 1).replaus

/-! ## The trajectory (R177, R178) -/

/-- The last hand boundary's frame: whether the sweep goes down in this frame (R176). -/
def State.sweepDown (s : State) : Bool := s.steer.frame.number % 2 == 1

/-- The blend of R177 at a distance `u` TCLK from an apex: v(tau - u)^2 / 2 tau, with tau = TURN * L / H, as a
fraction; 0 beyond tau. -/
def blend (d : Int) (len hands turn u : Nat) : Int :=
  if turn = 0 ∨ turn * len ≤ u * hands then 0
  else d * ((turn * len - u * hands : Nat) : Int) ^ 2 / ((2 * turn * len * len * hands : Nat) : Int)

/-- The X set-point of locked mode at a TCLK time (R177), rounded down (DESIGN CHOICE, log entry 18). -/
def State.trajX (s : State) (at_ : Nat) : Int :=
  let f := s.steer.frame
  let t := min (at_ - f.start) f.length
  let turn := s.f STEER.TURN.TURN
  let lo := s.fi STEER.X_MIN.VALUE
  let hi := s.fi STEER.X_MAX.VALUE
  let d := hi - lo
  let len := max 1 f.length
  let sharp := d * t / len
  let b0 := blend d len f.hands turn t
  let b1 := blend d len f.hands turn (f.length - t)
  if s.sweepDown then hi - sharp - b0 + b1 else lo + sharp + b0 - b1

/-- Y_BASE + Y_OFF of a pattern step, of step 0 with the pattern engine off (R178). -/
def State.yOf (s : State) (step : Nat) : Int :=
  s.fi STEER.Y_BASE.VALUE + s.fi (STEER.Y_OFF.OFF (if s.f DEAL.PAT_CTRL.LEN = 0 then 0 else step))

/-- y0 + (y1 - y0)(3s^2 - 2s^3), with s = n / m (R178). -/
def smooth (y0 y1 : Int) (n m : Nat) : Int :=
  if m = 0 then y1 else y0 + (y1 - y0) * ((3 * n * n * m - 2 * n * n * n : Nat) : Int) / ((m * m * m : Nat) : Int)

/-- The Y set-point of locked mode at a TCLK time (R178). -/
def State.trajY (s : State) (at_ : Nat) : Int :=
  let f := s.steer.frame
  let t := min (at_ - f.start) f.length
  let turn := s.f STEER.TURN.TURN
  let tl := turn * f.length
  let y := s.yOf (s.f DEAL.HAND_STAT.PAT_STEP)
  let next := s.asNext.yOf (if s.patternChanges then 0 else (s.asNext.nextPattern).1)
  if turn = 0 then y
  else if t * f.hands < tl ∧ s.steer.yBefore ≠ y then smooth s.steer.yBefore y (tl + t * f.hands) (2 * tl)
  else if (f.length - t) * f.hands < tl ∧ next ≠ y then smooth y next (tl - (f.length - t) * f.hands) (2 * tl)
  else y

/-- The trajectory of an axis. -/
def State.traj (s : State) (a at_ : Nat) : Int := if a = 0 then s.trajX at_ else s.trajY at_

/-- A value moved towards a target by at most a step. -/
def moveTo (x target step : Int) : Int :=
  if target - x > step then x + step else if x - target > step then x - step else target

/-- How far a set-point may have moved at RAMP_RATE, counts per µs, since the last update, in ten-thousandths of a count
(R182). -/
def State.rampTravel (s : State) (x : Axis) (at_ : Nat) : Nat :=
  match x.last with
  | none => 0
  | some t => s.f STEER.RAMP_RATE.VALUE * (at_ - t) * 8 + x.rest

/-- The set-point of an update, and the axis with its capture offset moved on (R182). -/
def State.setpoint (s : State) (a at_ : Nat) (x : Axis) : Int × Axis :=
  let travel := s.rampTravel x at_
  let step : Int := (travel / 10000 : Nat)
  let x := { x with rest := travel % 10000 }
  match x.mode with
  | .opened _ _ _ => (x.r, x)
  | .park => (moveTo x.r (if a = 0 then s.fi STEER.PARK_X.VALUE else s.fi STEER.PARK_Y.VALUE) step, x)
  | .ramp => (moveTo x.r (if a = 0 then s.fi STEER.RAMP_X.VALUE else s.fi STEER.RAMP_Y.VALUE) step, x)
  | .locked =>
    let tr := s.traj a at_
    let cap := if x.fresh then s.fi (SENSE.SAMPLE.SAMPLE (s.f (STEER.ROLE.POS_A a))) - tr else moveTo x.capture 0 step
    (tr + cap, { x with capture := cap, fresh := false })

/-! ## The control law (R179, R180) -/

/-- Arithmetic right shift. -/
def ashr (x : Int) (n : Nat) : Int := x / ((2 ^ n : Nat) : Int)

/-- One biquad (R179) with 22 fractional bits. -/
def biquad (n0 n1 n2 d1 d2 x x1 x2 y1 y2 : Int) : Int :=
  clipSigned 32 (ashr (clipSigned 64 (n0 * x + n1 * x1 + n2 * x2 - d1 * y1 - d2 * y2)) 22)

/-- The drive code of an update of an axis (R179, R180): `y` is the POS_A sample, `settling` its RANGE_SETTLING
flag, `ffOnly` that POS_A is OPEN. -/
def State.control (s : State) (a : Nat) (x : Axis) (r y : Int) (settling ffOnly : Bool) : Axis :=
  let maxC := s.fi (STEER.LIMIT.MAX a)
  let minC := s.fi (STEER.LIMIT.MIN a)
  let e := clipSigned 32 (r - y)
  let ki := s.fi (STEER.KI.GAIN a)
  let hold := (decide (x.code = maxC) && decide (0 < ki * e)) || (decide (x.code = minC) && decide (ki * e < 0))
  let use := !settling && !ffOnly
  let integ := if use && !hold then clip (-(2 ^ 62)) (2 ^ 62) (x.integ + ki * e) else x.integ
  let fb : Int := if ffOnly then 0 else if settling then x.fb else
    ashr (clipSigned 64 (s.fi (STEER.KP.GAIN a) * e + integ + s.fi (STEER.KD.GAIN a) * (e - x.e))) (s.f (STEER.SHIFTS.FB_SHIFT a))
  let v := r - x.r
  let ff := ashr (clipSigned 64 (s.fi (STEER.KX.GAIN a) * r + s.fi (STEER.KV.GAIN a) * v + s.fi (STEER.KA.GAIN a) * (v - x.v))) (s.f (STEER.SHIFTS.FF_SHIFT a))
  let u := clipSigned 32 (fb + ff)
  let w1 := biquad (s.fi (STEER.N1_NUM0.COEF a)) (s.fi (STEER.N1_NUM1.COEF a)) (s.fi (STEER.N1_NUM2.COEF a))
    (s.fi (STEER.N1_DEN1.COEF a)) (s.fi (STEER.N1_DEN2.COEF a)) u x.u1 x.u2 x.w1 x.w1b
  let w2 := biquad (s.fi (STEER.N2_NUM0.COEF a)) (s.fi (STEER.N2_NUM1.COEF a)) (s.fi (STEER.N2_NUM2.COEF a))
    (s.fi (STEER.N2_DEN1.COEF a)) (s.fi (STEER.N2_DEN2.COEF a)) w1 x.w1 x.w1b x.w2 x.w2b
  let code := clip minC maxC w2
  { x with r := r, v := v, integ := integ, e := if use then e else x.e, fb := fb, u1 := u, u2 := x.u1, w1 := w1, w1b := x.w1, w2 := w2, w2b := x.w2, code := code, due := x.due ++ [code] }

/-- Tracking of an axis (R183 bits [2], [3]): on POS_A, or on POS_B while POS_A is OPEN and POS_B healthy. -/
def State.track (s : State) (a : Nat) (r y : Int) : State :=
  let x := s.axis a
  let tol : Int := s.f (STEER.TRACK.TOL a)
  let e := clipSigned 32 (r - y)
  let n := if e > tol ∨ e < -tol then x.off + 1 else 0
  (s.setAxis a { x with off := n }).setCause (2 + a) (max 1 (s.f (STEER.TRACK.CNT a)) ≤ n)

/-- An axis is updated at a decimation instant of its POS_A channel (R179-R181). -/
def State.axisUpdate (s : State) (a at_ : Nat) : State :=
  let x := s.axis a
  let ch := s.f (STEER.ROLE.POS_A a)
  if !s.fb (STEER.ROLE.AXIS_EN a) || !x.closed || !s.enabled 0x14 then s else
  let y := s.fi (SENSE.SAMPLE.SAMPLE ch)
  let settling := s.fb (SENSE.STAT.SETTLING ch)
  let ffOnly := s.senseOpen ch
  let (r, x) := s.setpoint a at_ x
  let x := { s.control a x r y settling ffOnly with last := some at_ }
  let s := s.setAxis a x
  let s := (((s.setB (STEER.STAT.SETTLING a) (settling && !ffOnly)).setB (STEER.STAT.FF_ONLY a) ffOnly).setB (STEER.STAT.ACTIVE a) true).setB
    (STEER.STAT.CLAMPED a) (x.code == s.fi (STEER.LIMIT.MAX a) || x.code == s.fi (STEER.LIMIT.MIN a))
  let s := if ffOnly || settling then s else s.setI (STEER.ERR.VALUE a) x.e
  if !ffOnly && !settling then s.track a r y
  else if ffOnly && !s.fb (STEER.ROLE.B_EN a) then (s.setAxis a { s.axis a with off := 0 }).setCause (2 + a) false
  else s

/-- Capture ends when no axis has an offset left (R182). -/
def State.captureEnd (s : State) : State :=
  let done (x : Axis) : Bool := x.mode != .locked || (!x.fresh && x.capture == 0)
  if s.steer.capturing && s.steer.axes.all done then
    (({ s with steer := { s.steer with capturing := false } }).event 0x14 5).replaus
  else s

/-! ## Sense channels (R167-R172) -/

/-- A sense channel replaced. -/
def State.setSenseCh (s : State) (n : Nat) (x : SenseCh) : State :=
  { s with steer := { s.steer with sense := setNth s.steer.sense n x } }

/-- N of a channel (R187): order 3, 4 or 5. -/
def State.senseOrder (s : State) (n : Nat) : Nat := min 5 (s.f (SENSE.CFG.ORDER n) + 3)

/-- SH of comb k (1 to 5) of a channel (R187). -/
def State.senseShift (s : State) (n k : Nat) : Nat := bitsOf (s.f (SENSE.SHIFT.SH n)) (4 * (k - 1)) 4

/-- One SCLK cycle of the integrators (R168): each adds the one before it. -/
def integrate (w : BitVec 64) : Nat → List (BitVec 64) → List (BitVec 64)
  | 0, l => l
  | _, [] => []
  | n + 1, x :: xs => (x + w) :: integrate (x + w) n xs

/-- The combs at a decimation instant (R168): differential delay 1, each followed by its shift. -/
def combs (shift : Nat → Nat) (x : BitVec 64) (k : Nat) : Nat → List (BitVec 64) → BitVec 64 × List (BitVec 64)
  | 0, l => (x, l)
  | _, [] => (x, [])
  | n + 1, d :: ds =>
    let (y, ds') := combs shift ((x - d).sshiftRight (shift k)) (k + 1) n ds
    (y, x :: ds')

/-- The bits of a channel since its last decimation instant through the filter, at the weight of the range in
force (R167, R168): the comb output and the channel. -/
def State.filter (s : State) (n : Nat) (bits : List Bool) : BitVec 64 × SenseCh :=
  let c := s.senseCh n
  let w := BitVec.ofNat 64 (4 ^ (3 - s.f (SENSE.STAT.RANGE n)))
  let ord := s.senseOrder n
  let ints := bits.foldl (fun l b => integrate (if b then w else -w) ord l) c.ints
  let (y, cs) := combs (s.senseShift n) (nth ints (ord - 1) 0) 1 ord c.combs
  (y, { c with ints := ints, combs := cs })

/-- Whether the bits given end at the next decimation instant of a channel, where (SCLK count - PHASE) mod M is 0 (R168). After
a restart of the count they may begin before it. -/
def State.bitsDue (s : State) (n k : Nat) : Bool :=
  let m := max 1 (s.f (SENSE.RATIO.RATIO n))
  let ph := s.f (SENSE.RATIO.PHASE n)
  match (s.senseCh n).count with
  | none => decide (1 ≤ k) && decide (k ≤ m)
  | some 0 => decide (ph + 1 ≤ k) && decide (k ≤ ph + 4096)
  | some c => k == (ph + m - c % m) % m + 1

/-- The SCLK count after a decimation instant (R168); of a channel that has just joined, up to a multiple of M. -/
def State.countAfter (s : State) (n k : Nat) : Nat :=
  match (s.senseCh n).count with
  | none => s.f (SENSE.RATIO.PHASE n) + 1
  | some 0 => s.f (SENSE.RATIO.PHASE n) + 1
  | some c => c + k

/-- The full scale of a range times 2^(sum of shifts) (R169). -/
def State.senseScale (s : State) (n range : Nat) : Nat := 4 ^ (3 - range) * s.f (SENSE.RATIO.RATIO n) ^ s.senseOrder n

/-- The sum of the shifts of the combs in use. -/
def State.senseShifts (s : State) (n : Nat) : Nat :=
  (List.range (s.senseOrder n)).foldl (fun t k => t + s.senseShift n (k + 1)) 0

/-- The range of a channel changes at a decimation instant (R169). -/
def State.rangeChange (s : State) (n r : Nat) : State :=
  if r = s.f (SENSE.STAT.RANGE n) then s else
  let s := s.setSenseCh n { s.senseCh n with settle := s.senseOrder n + 1, low := 0 }
  ((s.setF (SENSE.STAT.RANGE n) r).incF (SENSE.STAT.RANGE_CHG n)).event 0x15 3

/-- Range steps at a decimation instant: a host write first, otherwise AUTO (R169). -/
def State.rangeStep (s : State) (n : Nat) (sample : Int) : State :=
  let c := s.senseCh n
  match c.newRange with
  | some r => (s.setSenseCh n { c with newRange := none, low := 0 }).rangeChange n r
  | none =>
    if !s.fb (SENSE.CFG.AUTO n) then s.setSenseCh n { c with low := 0 } else
    let r := s.f (SENSE.STAT.RANGE n)
    let mag := sample.natAbs * 2 ^ s.senseShifts n
    let fs := s.senseScale n r
    if 7 * fs < 8 * mag then (if r = 0 then s.setSenseCh n { c with low := 0 } else s.rangeChange n (r - 1))
    else if 16 * mag < 3 * fs then
      let k := c.low + 1
      if max 1 (s.f (SENSE.CFG.DWELL n)) ≤ k ∧ r < 3 then s.rangeChange n (r + 1)
      else s.setSenseCh n { c with low := k }
    else s.setSenseCh n { c with low := 0 }

/-- Thresholds of a sample (R170). -/
def State.thresholds (s : State) (n : Nat) (sample : Int) : State :=
  let hi := decide (s.fi (SENSE.THR_HI.VALUE n) < sample)
  let lo := decide (sample < s.fi (SENSE.THR_LO.VALUE n))
  let s := (s.setB (SENSE.STAT.HI n) hi).setB (SENSE.STAT.LO n) lo
  s.eventIf ((hi || lo) && s.f (SENSE.CFG.ACTION n) != 0) 0x15 2

/-- Agreement of the two position channels of an axis (R183 bits [4], [5]). -/
def State.agree (s : State) (a : Nat) : State :=
  let ca := s.f (STEER.ROLE.POS_A a)
  let cb := s.f (STEER.ROLE.POS_B a)
  if !s.fb (STEER.ROLE.AXIS_EN a) || !s.fb (STEER.ROLE.B_EN a) || s.senseOpen ca || s.senseOpen cb then s.setCause (4 + a) false
  else if s.fb (SENSE.STAT.SETTLING ca) || s.fb (SENSE.STAT.SETTLING cb) then s
  else
    let d := s.fi (SENSE.SAMPLE.SAMPLE ca) - s.fi (SENSE.SAMPLE.SAMPLE cb)
    s.setCause (4 + a) (s.f (STEER.AGREE.TOL a) < d.natAbs)

/-- What a sample does on the axes that use its channel: the update on POS_A, tracking on POS_B while POS_A is
OPEN, agreement on both (R179, R183). -/
def State.senseAxis (s : State) (n at_ a : Nat) : State :=
  if !s.fb (STEER.ROLE.AXIS_EN a) then s else
  let ca := s.f (STEER.ROLE.POS_A a)
  let isB := s.fb (STEER.ROLE.B_EN a) && s.f (STEER.ROLE.POS_B a) == n
  let s := if ca = n then s.axisUpdate a at_ else s
  let s := if isB && s.senseOpen ca && !s.senseOpen n && !s.fb (SENSE.STAT.SETTLING n) && (s.axis a).closed then
      s.track a (s.axis a).r (s.fi (SENSE.SAMPLE.SAMPLE n)) else s
  if ca = n || isB then s.agree a else s

/-- An X update ends at a decimation instant of a channel (R179). -/
def State.updatesX (s : State) (n : Nat) : Bool :=
  s.fb (STEER.ROLE.AXIS_EN 0) && s.enabled 0x14 && (s.axis 0).closed && s.f (STEER.ROLE.POS_A 0) == n

/-- DECIMATION (R168-R170, R179, R473): the channel's bits since its last decimation instant, and the TCLK time
of the instant. The update of X counts towards REARM once its conditions are decided (R183). -/
def execDecimation (channel : Fin 8) (bits : List Bool) (instant : Nat) (s : State) : Host.Outcome State Fault Refusal :=
  let n := channel.val
  if !s.enabled 0x15 ∨ !s.fb (SENSE.CFG.EN n) ∨ nth s.pwr.domains 1 .off ≠ .on ∨ !s.bitsDue n bits.length then .next s else
  let updX := s.updatesX n
  let (y, c) := s.filter n bits
  let v := ashr ((y.toInt - s.fi (SENSE.OFFSET.VALUE n)) * s.f (SENSE.GAIN.VALUE n)) 22
  let sample := clipSigned 32 v
  let settling := decide (0 < c.settle)
  let s := s.setSenseCh n { c with
    settle := c.settle - 1, count := some (s.countAfter n bits.length)
    satZero := sample != v && s.f (SENSE.STAT.RANGE n) == 0 }
  let s := ((s.setI (SENSE.SAMPLE.SAMPLE n) sample).setB (SENSE.STAT.SAT n) (sample != v)).setB (SENSE.STAT.SETTLING n) settling
  let s := s.eventIf (sample != v) 0x15 4
  let s := (s.thresholds n sample).rangeStep n sample
  let s := (s.senseAxis n instant 0).senseAxis n instant 1
  let s := s.captureEnd.replaus
  .next (if updX then s.rearm else s)

/-- DAC_UPDATE (R181): the oldest code due goes to the DAC, or a miss is counted. With DAC_LAT at 80 or more no miss
occurs. The fourth miss in a row is a condition of R183. -/
def execDacUpdate (axis : Fin 2) (late : Bool) (s : State) : Host.Outcome State Fault Refusal :=
  let a := axis.val
  let x := s.axis a
  match x.due with
  | [] => .next s
  | code :: due =>
    if late ∧ max 48 (s.f STEER.PLAUS_CFG.DAC_LAT) < 80 then
      let s := s.setAxis a { x with due := due, missed := x.missed + 1 }
      let s := (s.incF (STEER.STAT.MISSES a)).event 0x14 4
      .next (s.setCause 8 (s.steer.axes.any fun x => 4 ≤ x.missed))
    else
      let s := s.setAxis a { x with due := due, missed := 0 }
      let s := s.setI (STEER.DRIVE.VALUE a) code
      .next (s.setCause 8 (s.steer.axes.any fun x => 4 ≤ x.missed))

/-- The axes whose POS_A is a channel restart I and e_prev when OPEN clears (R180). -/
def State.restartAxes (s : State) (n : Nat) : State :=
  [0, 1].foldl (fun s a =>
    if s.f (STEER.ROLE.POS_A a) = n then s.setAxis a { s.axis a with integ := 0, e := 0 } else s) s

/-- OPEN of a channel cleared (R171, R180). -/
def State.clearOpen (s : State) (n : Nat) : State :=
  ((s.setB (SENSE.STAT.OPEN n) false).restartAxes n).replaus

/-- SENSE_OPEN (R171): the 64th consecutive bit of one sign. -/
def execSenseOpen (channel : Fin 8) (s : State) : Host.Outcome State Fault Refusal :=
  let n := channel.val
  if !s.enabled 0x15 ∨ !s.fb (SENSE.CFG.EN n) then .next s else
  let s := ((s.setB (SENSE.STAT.OPEN n) true).setF (SENSE.IMP.VALUE n) 0xFFFF).event 0x15 0
  let s := [0, 1].foldl (fun s a =>
    if s.fb (STEER.ROLE.AXIS_EN a) ∧ (s.f (STEER.ROLE.POS_A a) = n ∨ s.f (STEER.ROLE.POS_B a) = n) then s.agree a else s) s
  .next s.replaus

/-- A source carries a tone to a channel (R172). -/
def State.toned (s : State) (n : Nat) : Bool :=
  (List.range 8).any fun k => s.fb (SENSE.TONE.EN k) && s.f (SENSE.TONE.CH k) == n

/-- SENSE_OPEN_CLEARED (R171): on an enabled channel without a test tone. -/
def execSenseOpenCleared (channel : Fin 8) (s : State) : Host.Outcome State Fault Refusal :=
  let n := channel.val
  if s.enabled 0x15 ∧ s.fb (SENSE.CFG.EN n) ∧ !s.toned n ∧ s.fb (SENSE.STAT.OPEN n) then .next (s.clearOpen n) else .next s

/-- TEST_TONE_CHECK_START (R172): a source with its tone enabled starts its square wave. -/
def execTestToneCheckStart (source : Fin 8) (s : State) : Host.Outcome State Fault Refusal :=
  let n := s.f (SENSE.TONE.CH source.val)
  if s.enabled 0x15 ∧ s.fb (SENSE.TONE.EN source.val) ∧ s.fb (SENSE.CFG.EN n) then
    .next (s.setSenseCh n { s.senseCh n with checking := true })
  else .next s

/-- The impedance, Ω: the measured voltage amplitude, µV, over AMP, 0.5 µA. An AMP of 0 states no result: a free
value (log entry 19). -/
def State.impedance (s : State) (k microvolt : Nat) : State × Nat :=
  let amp := s.f (SENSE.TONE.AMP k)
  if amp = 0 then let (n, s) := s.takeFree; (s, Config.freeNat n % 65536) else (s, satTo 16 (2 * microvolt / amp))

/-- TEST_TONE_CHECK_END (R171, R172): the impedance, DRIFT, and the clearing of OPEN. `offRail` says that the
bit stream has left the rail. -/
def execTestToneCheckEnd (source : Fin 8) (microvolt : Nat) (offRail : Bool) (s : State) :
    Host.Outcome State Fault Refusal :=
  let n := s.f (SENSE.TONE.CH source.val)
  let c := s.senseCh n
  if !c.checking then .next s else
  let (s, z) := s.impedance source.val microvolt
  let open_ := s.fb (SENSE.STAT.OPEN n)
  let inWin := decide (s.f (SENSE.IMP_WIN.IMP_MIN n) ≤ z ∧ z ≤ s.f (SENSE.IMP_WIN.IMP_MAX n))
  let stays := open_ && !(offRail && inWin)
  let z := if stays then 0xFFFF else z
  let inWin := decide (s.f (SENSE.IMP_WIN.IMP_MIN n) ≤ z ∧ z ≤ s.f (SENSE.IMP_WIN.IMP_MAX n))
  let s := s.setF (SENSE.IMP.VALUE n) z
  let k := if inWin then c.inWindow + 1 else 0
  let s := s.setSenseCh n { c with checking := false, inWindow := k }
  let s := if !inWin then (s.setB (SENSE.STAT.DRIFT n) true).event 0x15 1
    else if 3 ≤ k then s.setB (SENSE.STAT.DRIFT n) false else s
  .next (if open_ && !stays then s.clearOpen n else s.replaus)

/-- A write of 1 to STEER.CNT_CLR (R186). -/
def State.steerCntClr (s : State) : State :=
  s.clearFs [STEER.SYNC_CNT.GLITCH, STEER.SYNC_CNT.LOST, STEER.PLAUS_CNT.CLEARS, STEER.PLAUS_CNT.UNCERTAINS,
    STEER.STAT.MISSES 0, STEER.STAT.MISSES 1]

/-- STEER_CNT_CLR (R186). -/
def execSteerCntClr (s : State) : Host.Outcome State Fault Refusal := .next s.steerCntClr

/-! ## The frame timer (R174-R176, R472) -/

/-- The boundary that ends the frame in progress (R174, R472). -/
def FrameTimer.end_ (f : FrameTimer) : Nat := f.moved.getD (f.start + f.length)

/-- The boundary of hand j of the frame in progress (R176). -/
def FrameTimer.handAt (f : FrameTimer) (j : Nat) : Nat := f.start + j * f.length / max 1 f.hands

/-- The frame timer replaced. -/
def State.setFrame (s : State) (f : FrameTimer) : State := { s with steer := { s.steer with frame := f } }

/-- A frame length held between 60 Hz and 10 Hz (R174). -/
def holdLength (n : Nat) : Nat := max 20833334 (min 125000000 n)

/-- The length of the frame that starts at the next boundary (R174). -/
def State.nextLength (s : State) : Nat :=
  let f := s.steer.frame
  if !s.fb STEER.MODE.SRC ∨ !f.sync then s.f STEER.PERIOD.VALUE
  else match (f.adjusts.filter fun a => decide (a.1 ≤ f.end_)).getLast? with
  | some (_, len) => len
  | none => holdLength (f.pEst / 65536)

/-- The period that the fit rule of R112 takes: PERIOD, or P-hat with SYNC_IN as the source. -/
def State.fitPeriod (s : State) : Nat :=
  if s.fb STEER.MODE.SRC then (if s.steer.frame.sync then s.steer.frame.pEst / 65536 else s.f STEER.PERIOD.VALUE)
  else s.f STEER.PERIOD.VALUE

/-- The azimuth position of hand j in a frame of a parity (R176). -/
def State.azOf (s : State) (j : Nat) (down : Bool) : Nat :=
  if down then s.f DEAL.HANDS.HANDS - 1 - j * s.longFactor else j * s.longFactor

/-- The next hand: hand j + 1 of the frame, or the first of the next frame (R176, R472). -/
def State.nextHand (s : State) : Hand :=
  let f := s.steer.frame
  let j := f.index + 1
  let mk (first : Bool) (j az start period : Nat) (entry : Bool) (last : Bool) : Hand :=
    { first := first, index := j, az := az, start := start, period := period, sEff := 0, openSlots := 0, entry := entry, last := last }
  if j < f.hands ∧ f.handAt j < f.end_ then
    let last := !(decide (j + 1 < f.hands) && decide (f.handAt (j + 1) < f.end_))
    let stop := if last then f.end_ else f.handAt (j + 1)
    mk false j (s.azOf j s.sweepDown) (f.handAt j) (stop - f.handAt j) false last
  else
    let c := s.asNext
    let entry := s.pwr.runPending && s.pwr.st == .ready
    let down := !entry && (f.number + 1) % 2 == 1
    let h := c.handsPerFrame
    mk true 0 (c.azOf 0 down) f.end_ (c.nextLength / h) entry (h == 1)

/-- The announcement of the next hand, 2 µs before its boundary (R176): it fixes S_eff and OPEN (R113, R114). -/
def State.announce (s : State) : State :=
  let h := s.nextHand
  let c := s.asNext
  let e := c.sEff h.period
  let h := { h with sEff := e, openSlots := openSlots (c.f DEAL.SLOTS.OPEN_SLOTS) e }
  let fires := (s.pwr.st == .run && s.pwr.target == .run) || h.entry
  let s := if fires then s.slotsCut (c.f DEAL.MODE.MODE) (c.f DEAL.SLOTS.SLOTS - e) else s
  { s with deal := { s.deal with next := some h } }

/-- The signed distance of a target from the nearest frame boundary, TCLK (R174); of two as near, the earlier. -/
def State.syncPhase (s : State) (target : Nat) : Int :=
  let f := s.steer.frame
  let cands : List Nat := [f.start, f.end_, f.end_ + s.nextLength]
  let d (b : Nat) : Int := (target : Int) - b
  let best := cands.foldl (fun (acc : Option Int) b => match acc with
    | none => some (d b)
    | some x => if (d b).natAbs < x.natAbs then some (d b) else some x) none
  best.getD 0

/-- The loop of R174 at an accepted edge. -/
def State.syncLoop (s : State) (edge : Nat) : State :=
  let f := s.steer.frame
  let phi := s.syncPhase (edge + s.f STEER.SYNC_DELAY.VALUE)
  let slew : Int := ((f.pEst * max 1 (s.f STEER.LOCK_CFG.SLEW) / 65536 : Nat) : Int)
  let p : Int := f.pEst
  let p := clip (20833334 * 65536) (125000000 * 65536) (p + clip (-(slew / 4)) (slew / 4) (phi * 65536 / 16))
  let c := clip (-slew) slew (phi * 65536 / 4)
  let len := holdLength ((p + c) / 65536).toNat
  let tol := phi.natAbs ≤ s.f STEER.LOCK_CFG.LOCK_TOL
  let good := if tol then f.good + 1 else 0
  let s := s.setFrame { f with pEst := p.toNat, adjusts := f.adjusts ++ [(edge + 2500, len)], good := good }
  let s := (s.setI STEER.PHASE_ERR.VALUE phi).setF STEER.PERIOD_EST.VALUE (p.toNat / 65536)
  if !tol then s.setF STEER.LOCK_STAT.STATE 1
  else if 4 ≤ good ∧ s.f STEER.LOCK_STAT.STATE ≠ 2 then (s.setF STEER.LOCK_STAT.STATE 2).event 0x14 1
  else s

/-- The next frame boundary moved at once (R175, R472): to the target, or to target + P-hat when the target lies
less than 2 µs ahead of the edge. -/
def State.moveBoundary (s : State) (edge : Nat) : State :=
  let f := s.steer.frame
  let target := edge + s.f STEER.SYNC_DELAY.VALUE
  let phi := s.syncPhase target
  let m := if target < edge + 2500 then target + f.pEst / 65536 else target
  let s := s.setFrame { f with moved := some m, adjusts := [], good := 0 }
  let s := (s.setI STEER.PHASE_ERR.VALUE phi).setF STEER.LOCK_STAT.STATE 1
  let upd (h : Hand) : Hand := if m ≤ h.start + h.period ∨ h.last then { h with period := m - h.start, last := true } else h
  { s with deal := { s.deal with
      next := (s.deal.next.filter fun h => h.first || decide (h.start < m)).map fun h => if h.first then { h with start := m } else upd h
      cur := s.deal.cur.map upd } }

/-- An edge on SYNC_IN as the frame timer takes it (R174, R175): false where it is ignored as a glitch. -/
def State.syncEdge (s : State) (edge : Nat) : State × Bool :=
  let f := s.steer.frame
  if !f.sync then (s, true)
  else if f.lastEdge.any (fun t => edge < t + f.pEst / 131072) then
    ((s.incF STEER.SYNC_CNT.GLITCH).event 0x14 6, false)
  else
    let s := (s.setFrame { f with lastEdge := some edge, restart := false }).setB STEER.LOCK_STAT.SYNC_LOST false
    if f.restart ∧ !(s.pwr.st = .run ∧ s.steer.mode = 2) then (s.moveBoundary edge, true) else (s.syncLoop edge, true)

/-- SYNC_LOST (R19, R175): no edge accepted within twice P-hat of the last one. -/
def execSyncLost (s : State) : Host.Outcome State Fault Refusal :=
  let f := s.steer.frame
  if !f.sync ∨ f.lastEdge.isNone ∨ s.fb STEER.LOCK_STAT.SYNC_LOST then .next s else
  let s := s.setFrame { f with restart := true, good := 0, adjusts := [] }
  .next ((((s.setB STEER.LOCK_STAT.SYNC_LOST true).setF STEER.LOCK_STAT.STATE 0).incF STEER.SYNC_CNT.LOST).event 0x14 0)

/-- A frame begins at its boundary, with the settings now in force (R174, R176). `entry` marks the first frame of
RUN. -/
def State.frameStart (s : State) (entry : Bool) : State :=
  let f := s.steer.frame
  let src := s.fb STEER.MODE.SRC
  let len := s.nextLength
  let fresh := src && !f.sync
  let f' : FrameTimer := { f with
    start := f.end_, length := len, hands := s.handsPerFrame, index := 0, moved := none
    pEst := if src && f.sync then f.pEst else s.f STEER.PERIOD.VALUE * 65536
    adjusts := if src && f.sync then f.adjusts.filter (fun a => f.end_ < a.1) else []
    lastEdge := if src && f.sync then f.lastEdge else none
    restart := fresh || f.restart, sync := src
    good := if src && f.sync then f.good else 0
    number := if entry then 0 else f.number + 1
    syncOut := some s.mono }
  let s := (s.setFrame f').setF STEER.PERIOD_EST.VALUE (f'.pEst / 65536)
  let s := s.setB STEER.LOCK_STAT.DIR (f'.number % 2 == 1)
  if !src || fresh then s.setF STEER.LOCK_STAT.STATE 0 else s

/-- A hand boundary within a frame: the timer moves on to its hand (R176). -/
def State.handPassed (s : State) (j : Nat) : State := s.setFrame { s.steer.frame with index := j }

end Sys2Proof.Machine
end

