-- ==== Sys2Proof/Machine/Returns.lean ====
section
/-! DEFINITION. Return channels and time measurement (spec/08): gates, TDC conversion, event buffers, the kitty,
failed TDCs, delay-locked loops, DUMMY, detector bias. -/

namespace Sys2Proof.Machine

/-! ## Channels and inputs (R192, R194) -/

/-- A logical channel beside its registers. -/
def State.chan (s : State) (c : Nat) : Chan := nth s.ret.chans c {}

/-- A logical channel replaced. -/
def State.setChan (s : State) (c : Nat) (x : Chan) : State :=
  { s with ret := { s.ret with chans := setNth s.ret.chans c x } }

/-- A logical channel changed. -/
def State.updChan (s : State) (c : Nat) (g : Chan → Chan) : State := s.setChan c (g (s.chan c))

/-- The summary of a channel changed. -/
def State.updSum (s : State) (c : Nat) (g : Summary → Summary) : State :=
  s.updChan c fun x => { x with sum := g x.sum }

/-- The source input of a logical channel (R194). -/
def State.srcOf (s : State) (c : Nat) : Nat := 48 * (c / 48) + s.f (TDC.MAP.SRC (c / 48) (c % 48))

/-- An input produces no edges: disabled, DEAD, or on a disabled page (R86, R189). -/
def State.inputOff (s : State) (r : Nat) : Bool :=
  !s.enabled (0x20 + r / 48) || !s.fb (AFE.CFG.EN (r / 48) (r % 48)) || s.fb (AFE.STAT.DEAD (r / 48) (r % 48))

/-- A logical channel that reports DISABLED (R86, R194, R205, R207). -/
def State.chanOff (s : State) (c : Nat) : Bool :=
  !s.enabled (0x28 + c / 48) || !s.fb (TDC.MAP.EN (c / 48) (c % 48)) || s.inputOff (s.srcOf c) || (s.chan c).noTdc

/-- The enabled logical channel that an input feeds (R194). -/
def State.channelOf (s : State) (r : Nat) : Option Nat :=
  ((List.range 48).find? fun m =>
    s.fb (TDC.MAP.EN (r / 48) m) && s.f (TDC.MAP.SRC (r / 48) m) == r % 48).map (48 * (r / 48) + ·)

/-- The effective dead time of a channel, ns (R190). -/
def State.deadNs (s : State) (c : Nat) : Nat :=
  max 20 (s.f (AFE.CFG.DEAD (s.srcOf c / 48) (s.srcOf c % 48)))

/-- The input of a channel is off-line for AFE calibration (R192). -/
def State.chanCal (s : State) (c : Nat) : Bool := s.fb (AFE.STAT.CAL (s.srcOf c / 48) (s.srcOf c % 48))

/-! ## Thresholds and pairs (R189, R191) -/

/-- The threshold applied to a comparator: the setting and the residual offset of its pair (R189). -/
def appliedThr (thr : Nat) (ofs : Int) : Nat := (clip 0 1023 (thr + ofs)).toNat

/-- The threshold of the leading-edge comparator of an input (R189). -/
def State.leThreshold (s : State) (r : Nat) : Nat :=
  appliedThr (s.f (AFE.THR.LE_THR (r / 48) (r % 48))) (s.fi (AFE.CAL.LE_OFS (r / 48) (r % 48)))

/-- The threshold of the time-over-threshold comparator of an input (R189). -/
def State.totThreshold (s : State) (r : Nat) : Nat :=
  appliedThr (s.f (AFE.THR.TOT_THR (r / 48) (r % 48))) (s.fi (AFE.CAL.TOT_OFS (r / 48) (r % 48)))

/-- Whether any pair of the leading-edge comparator is usable after a calibration or a load (R189): with none the input is DEAD,
and PAIR_EXHAUSTED is raised. -/
def State.judgePairs (s : State) (r : Nat) : State :=
  let none_ := s.f (AFE.CAL.PAIR_OK (r / 48) (r % 48)) == 0
  (s.setB (AFE.STAT.DEAD (r / 48) (r % 48)) none_).eventIf none_ (0x20 + r / 48) 1

/-- The inputs of which register words hold the calibration. -/
def afeInputs (ws : List (Nat × BitVec 32)) : List Nat := filterRange 384 fun r => ws.any fun w => w.1 == AFE.CAL (r / 48) (r % 48)

/-- The time-over-threshold code (R191): `rise` is the time from the leading edge to the rise of that comparator and `fall` that
to its next falling crossing, on the 100 ps taps. -/
def totCode (rise : Option Nat) (fall : Nat) : Nat :=
  match rise with
  | some r => if r ≤ 32 then min fall 0x3FF else 0
  | none => 0

/-! ## Hands -/

/-- The hand of a hand count that is in progress or being finished. -/
def State.handOf (s : State) (n : Nat) : Option Hand :=
  match s.deal.past.find? fun h => h.count == n with
  | some h => some h
  | none => s.deal.cur.filter fun h => h.snapped && h.count == n

/-! ## Arming (R195, R197, R198) -/

/-- ARM_EXT is at its active level for a page (R198). -/
def State.armActive (s : State) (k : Nat) (high : Bool) : Bool := high != s.fb (TDC.WIN.ARMX_POL k)

/-- The windows of a shot for a channel (R195, R197); `before` is the end of the preceding post-gate window. -/
def State.windows (s : State) (c fire tag before : Nat) : Armed :=
  let k := c / 48
  let start := s.f (TDC.GATE_START.VALUE k (c % 48))
  let stop := s.f (TDC.GATE_END.VALUE k (c % 48))
  let open_ := 128 * (fire + start / 128 - 1)
  let close := 128 * (fire + divUp stop 128 + 1)
  { fire := fire, tag := tag, start := start, stop := stop, open_ := open_, close := close
    before := before
    pre := min open_ (max before (128 * (fire - s.f (TDC.WIN.PRE k))))
    post := close + 128 * s.f (TDC.WIN.POST k) }

/-- A channel armed for a shot (R195): its pre-gate window counts the edges already seen in it. A post-gate window that still
runs ends at the armed window (R197). -/
def State.armChannel (s : State) (c : Nat) (sh : Shot) : State :=
  let x := s.chan c
  let a := s.windows c sh.fire sh.tag (match x.shot with
    | some b => b.post
    | none => 0)
  let m := x.sum
  let sum := { m with
    armed := m.armed + 1
    preTime := m.preTime + (a.open_ - a.pre) / 128
    pre := m.pre + (x.loose.filter fun t => decide (a.pre ≤ t)).length
    postTime := m.postTime + (a.post - a.close) / 128 - (a.before - a.open_) / 128
    subst := m.subst || s.fb (TDC.STAT.ON_KITTY (c / 48) (c % 48)) }
  let hand := match s.deal.cur with
    | some h => h.count
    | none => 0
  s.setChan c { x with
    shot := some a, armedSlots := x.armedSlots ++ [(hand, sh.slot)], gap := false, loose := [], loopLost := false, sum := sum }

/-- The channels of a shot. -/
def Shot.channels (sh : Shot) : List Nat := sh.bands.flatMap fun b => (List.range 6).map (6 * b + ·)

/-- ARM_EXT keeps a channel from being armed (R198). -/
def State.armBlocked (s : State) (high : Bool) (c : Nat) : Bool :=
  !s.chanOff c && s.f (TDC.WIN.ARMX (c / 48)) == 1 && !s.armActive (c / 48) high

/-- The channels of a fire command armed, with ARM_EXT sampled (R195, R198); a blocked shot counts once on each page. -/
def State.armShot (s : State) (sh : Shot) (high : Bool) : State :=
  let pages := filterRange 8 fun k => sh.channels.any fun c => c / 48 == k && s.armBlocked high c
  let s := sh.channels.foldl (fun s c =>
    if s.chanOff c then s
    else if s.armBlocked high c then s.updSum c fun m => { m with armxSkip := m.armxSkip + 1 }
    else s.armChannel c sh) s
  pages.foldl (fun s k => s.incF (TDC.ARMX_CNT.SHOT_BLOCK k)) s

/-! ## Edges (R190, R195, R197) -/

/-- An edge outside the armed window: counted in a post-gate or pre-gate window, or kept for the next pre-gate window. -/
def Chan.background (x : Chan) (at_ : Nat) : Chan :=
  let x := { x with lastCounted := some at_ }
  match x.shot with
  | none => { x with loose := x.loose ++ [at_] }
  | some a =>
    if at_ < a.open_ then
      if at_ < a.before then { x with sum := { x.sum with post := x.sum.post + 1 } }
      else if a.pre ≤ at_ then { x with sum := { x.sum with pre := x.sum.pre + 1 } } else x
    else if at_ < a.post then { x with sum := { x.sum with post := x.sum.post + 1 } }
    else { x with loose := (x.loose.filter fun t => decide (at_ ≤ t + 128 * 256)) ++ [at_] }

/-- An edge within the armed window goes to the serving TDC; a TDC that has failed delivers nothing (R199, R210). -/
def State.capture (s : State) (c : Nat) (a : Armed) (at_ : Nat) (high : Bool) : State :=
  let k := c / 48
  let m := c % 48
  let onKitty := s.fb (TDC.STAT.ON_KITTY k m)
  let x := s.chan c
  let x := { x with lastTimed := some at_ }
  let kit := if onKitty then some (s.f (TDC.STAT.KIT k m)) else none
  let dead := if onKitty then s.f (KITTY.ASSIGN.STATE (s.f (TDC.STAT.KIT k m))) == 7 else s.fb (TDC.STAT.FAILED k m)
  if dead then s.setChan c x
  else s.setChan c { x with edges := x.edges ++ [{
    tag := a.tag, n := at_ / 128 - a.fire, start := a.start, stop := a.stop
    drop := s.f (TDC.WIN.ARMX k) == 2 && !s.armActive k high, kitty := kit }] }

/-- A leading edge on an input, `at_` in LSB on the TCLK axis (R190, R195): timed 20 ns after the last timed edge, and counted
outside the armed windows under the same dead time (R197). -/
def State.leadingEdge (s : State) (r at_ : Nat) (high : Bool) : State :=
  match s.channelOf r with
  | none => s
  | some c =>
    if s.chanOff c ∨ s.chanCal c then s else
    let x := s.chan c
    let i := r % 48
    let k := r / 48
    if x.lastEdge.any (fun t => decide (at_ < t + 160 * s.f (AFE.CFG.DEAD k i))) then s else
    let s := (s.setChan c { x with lastEdge := some at_, stuck := 0 }).setB (AFE.STAT.STUCK k i) false
    let x := s.chan c
    let near := x.lastTimed.any fun t => decide (at_ < t + 3200)
    let dead := near || x.lastCounted.any fun t => decide (at_ < t + 3200)
    match x.shot with
    | some a =>
      if a.open_ ≤ at_ ∧ at_ < a.close then
        let s := s.incF (AFE.STAT.EDGES k i)
        if near then (s.incF (TDC.CNT.PILEUP k (c % 48))).updSum c fun m => { m with pileup := m.pileup + 1 }
        else s.capture c a at_ high
      else if dead then s else s.setChan c (x.background at_)
    | none => if dead then s else s.setChan c (x.background at_)

/-- LEADING_EDGE (R195): an edge on RET ball `ret` at a time in 6.25 ps on the TCLK axis, with the level of
ARM_EXT behind its synchroniser. -/
def execLeadingEdge (ret : Fin 384) (at_ : Nat) (armExt : Bool) (s : State) : Host.Outcome State Fault Refusal :=
  .next (s.leadingEdge ret.val at_ armExt)

/-! ## The kitty (R206, R207) -/

/-- STATE of a kitty TDC. -/
def State.kitState (s : State) (n : Nat) : Nat := s.f (KITTY.ASSIGN.STATE n)

/-- The counts of KITTY.SUMMARY follow the states. -/
def State.kittyShow (s : State) : State :=
  let n (st : Nat) := ((List.range 16).filter fun i => s.kitState i == st).length
  ((((s.setF KITTY.SUMMARY.FREE (n 0)).setF KITTY.SUMMARY.SPARE (n 1)).setF KITTY.SUMMARY.CAL (n 2)).setF
    KITTY.SUMMARY.HOST (n 4)).setF KITTY.SUMMARY.FAILED (n 7)

/-- STATE and CH of a kitty TDC set. -/
def State.setKit (s : State) (n st ch : Nat) : State :=
  ((s.setF (KITTY.ASSIGN.STATE n) st).setF (KITTY.ASSIGN.CH n) ch).kittyShow

/-- The lowest-numbered kitty TDC in a state. -/
def State.lowestKit (s : State) (st : Nat) : Option Nat := (List.range 16).find? fun n => s.kitState n == st

/-- The kitty TDC assigned to a channel in spare, calibration or host state. -/
def State.kitOf (s : State) (c : Nat) : Option Nat :=
  (List.range 16).find? fun n => [1, 2, 4].contains (s.kitState n) && s.f (KITTY.ASSIGN.CH n) == c

/-- An enabled host request names the channel. -/
def State.hostNames (s : State) (c : Nat) : Bool :=
  (List.range 16).any fun n => s.fb (KITTY.HOST.EN n) && s.f (KITTY.HOST.CH n) == c

/-- A move of a channel decided (R208). -/
def State.decideMove (s : State) (c : Nat) (m : Move) : State := s.updChan c fun x => { x with move := some m }

/-- The calibration of a channel's own TDC is abandoned (R207, R425). -/
def State.abandonCal (s : State) (c : Nat) : State :=
  if s.cal.tdcs.contains c then
    { s with cal := { s.cal with tdcs := s.cal.tdcs.filter (· != c) } }.incF CAL.STAT.ABANDONED
  else s

/-- The calibration that a kitty TDC serves is abandoned: its own, D0's, or that of a channel (R207, R425). -/
def State.abandonKit (s : State) (n : Nat) : State :=
  if s.cal.kitties.contains n then
    { s with cal := { s.cal with kitties := s.cal.kitties.filter (· != n) } }.incF CAL.STAT.ABANDONED
  else if s.cal.dummy = some n then { s with cal := { s.cal with dummy := none } }.incF CAL.STAT.ABANDONED
  else s.abandonCal (s.f (KITTY.ASSIGN.CH n))

/-- A kitty TDC taken from the channel it serves for another (R207): the channel returns to its own TDC. -/
def State.takeKit (s : State) (n c : Nat) : State :=
  let p := s.f (KITTY.ASSIGN.CH n)
  let s := s.decideMove p .own
  (s.setKit n 1 c).decideMove c (.kitty n)

/-- A spare demand of a channel (R207, R86): the lowest free kitty TDC, else the lowest in host state, else the
lowest in calibration state, else none. -/
def State.spareDemand (s : State) (c : Nat) : State :=
  let lost (b : Bool) (s : State) : State := s.updSum c fun m => if b then { m with lostMasked := true } else { m with lostHard := true }
  if s.enabled 0x30 then
    match s.lowestKit 0 with
    | some n => lost true (((s.setKit n 1 c).decideMove c (.kitty n)).event 0x30 0)
    | none =>
      match s.lowestKit 4 with
      | some n => lost true (((s.takeKit n c).event 0x30 0).event 0x30 4)
      | none =>
        match s.lowestKit 2 with
        | some n => lost true (((s.abandonKit n).takeKit n c).event 0x30 0)
        | none => lost false ((s.updChan c fun x => { x with noTdc := true, move := none }).event 0x30 1)
  else lost false ((s.updChan c fun x => { x with noTdc := true, move := none }).event 0x30 1)

/-- The FAILED bit of a channel's own TDC in the page words. -/
def State.setFailedBit (s : State) (c : Nat) (b : Bool) : State :=
  let k := c / 48
  let m := c % 48
  if m < 32 then s.setF ⟨TDC.FAILED0 k, m, 1⟩ (b2n b) else s.setF ⟨TDC.FAILED1 k, m - 32, 1⟩ (b2n b)

/-- The own TDC of a channel is marked failed with a cause (R207, R210). A channel with a host or calibration kitty TDC keeps
it, with events lost where it has not moved there yet; otherwise a spare is demanded. -/
def State.ownFails (s : State) (c cause : Nat) : State :=
  let k := c / 48
  let m := c % 48
  if s.fb (TDC.STAT.FAILED k m) then s.setF (TDC.STAT.CAUSE k m) cause else
  let s := ((s.setB (TDC.STAT.FAILED k m) true).setF (TDC.STAT.CAUSE k m) cause).setFailedBit c true
  let s := s.event (0x28 + k) 0
  let s := s.updChan c fun x => { x with edges := x.edges.filter (·.kitty.isSome) }
  match s.kitOf c with
  | some n =>
    let s := if s.fb (TDC.STAT.ON_KITTY k m) then s else s.updSum c fun x => { x with lostMasked := true }
    let s := (s.abandonCal c).setKit n 1 c
    s.decideMove c (.kitty n)
  | none => s.spareDemand c

/-- TDC_FAIL for a kitty TDC that serves no channel (R210): the spec does not say on which TDC page, a free value. -/
def State.failAnyPage (s : State) : State :=
  let (n, s) := s.takeFree
  s.event (0x28 + Config.freeNat n % 8) 0

/-- A kitty TDC fails (R207, R210): in spare state it is replaced; in host or calibration state the channel
returns to its own TDC. -/
def State.kittyFails (s : State) (n : Nat) : State :=
  let st := s.kitState n
  let c := s.f (KITTY.ASSIGN.CH n)
  if st = 2 ∧ 384 ≤ c then ((s.abandonKit n).setKit n 7 0).failAnyPage else
  let s := s.setKit n 7 0
  if st = 1 then (((s.event (0x28 + c / 48) 0).updChan c fun x => { x with edges := x.edges.filter (·.kitty != some n) }).spareDemand c)
  else if st = 2 ∨ st = 4 then
    let s := (s.event (0x28 + c / 48) 0).abandonCal c
    let s := s.updChan c fun x => { x with edges := x.edges.filter (·.kitty != some n) }
    (s.decideMove c .own).updSum c fun m => { m with lostMasked := true }
  else if st = 3 then s.failAnyPage
  else s

/-- The conversion of a channel fails a check (R210). -/
def State.conversionFails (s : State) (c : Nat) (e : Capture) (cause : Nat) : State :=
  match e.kitty with
  | none => s.ownFails c cause
  | some n => s.kittyFails n

/-- A channel is in its gap at a TCLK count, with 4 TCLK of it remaining (R208). -/
def State.inGap (s : State) (c at_ : Nat) : Bool :=
  match (s.chan c).shot with
  | none => true
  | some a => decide (a.close ≤ 128 * at_) || decide (128 * (at_ + 4) ≤ a.open_)

/-- KITTY_MOVE (R208): the channel moves in its gap, which the TCLK count of the move shows; a kitty TDC that still serves
another channel waits for that one to leave it. -/
def execKittyMove (move : KittyMove) (s : State) : Host.Outcome State Fault Refusal :=
  let c := move.channel.val
  let k := c / 48
  let m := c % 48
  if !s.inGap c move.tclk then .next s else
  match (s.chan c).move with
  | none => .next s
  | some (.kitty n) =>
    let busy := (List.range 384).any fun d =>
      d != c && s.fb (TDC.STAT.ON_KITTY (d / 48) (d % 48)) && s.f (TDC.STAT.KIT (d / 48) (d % 48)) == n
    if busy then .next s else
    let s := (s.setB (TDC.STAT.ON_KITTY k m) true).setF (TDC.STAT.KIT k m) n
    .next (s.updChan c fun x => { x with move := none, loopLost := false, sum := { x.sum with subst := true } })
  | some .own =>
    let n := s.f (TDC.STAT.KIT k m)
    let on := s.fb (TDC.STAT.ON_KITTY k m)
    let s := (s.setB (TDC.STAT.ON_KITTY k m) false).setF (TDC.STAT.KIT k m) 0
    let s := s.updChan c fun x => { x with move := none, loopLost := false }
    .next (if on ∧ [1, 2, 4].contains (s.kitState n) ∧ s.f (KITTY.ASSIGN.CH n) = c then s.setKit n 0 0 else s)

/-- The kitty TDCs at a hand boundary (R207): the DUMMY one is free again, allocations whose request has gone
end, waiting host requests take free kitty TDCs. -/
def State.kittyBoundary (s : State) : State :=
  let s := (List.range 16).foldl (fun s n => if s.kitState n = 3 then s.setKit n 0 0 else s) s
  let s := (List.range 16).foldl (fun s n =>
    if s.kitState n = 4 ∧ !s.hostNames (s.f (KITTY.ASSIGN.CH n)) then s.decideMove (s.f (KITTY.ASSIGN.CH n)) .own else s) s
  if !s.enabled 0x30 then s else
  (List.range 16).foldl (fun s i =>
    let c := s.f (KITTY.HOST.CH i)
    if !s.fb (KITTY.HOST.EN i) ∨ 384 ≤ c then s
    else match s.kitOf c with
    | some n => if s.kitState n = 4 then s.decideMove c (.kitty n) else s
    | none =>
      match s.lowestKit 0 with
      | some n => ((s.setKit n 4 c).decideMove c (.kitty n)).updChan c fun x => { x with noTdc := false }
      | none => s) s

/-! ## Conversion (R199, R200, R210) -/

/-- Signed byte `i` of two words read as one string of bytes. -/
def byteAt (a b i : Nat) : Int := signed 8 (if i < 4 then bitsOf a (8 * i) 8 else bitsOf b (8 * (i - 4)) 8)

/-- C_j of R200: C_0 and C_8 are 0, C_1 to C_7 the calibrated corrections. -/
def inl (a b j : Nat) : Int := if j = 0 ∨ 8 ≤ j then 0 else byteAt a b (j - 1)

/-- A quotient rounded to the nearest integer, a half away from zero. -/
def roundDiv (a b : Int) : Int := if 0 ≤ a then (2 * a + b) / (2 * b) else -((2 * -a + b) / (2 * b))

/-- round(x_c) of R200 from a raw code. With x = 128 (r - lo) / span, x_c is formed over 16 span. -/
def fineCode (lo hi a b r : Nat) : Int :=
  let span : Int := max 1 ((hi : Int) - lo)
  let x := clip 0 (128 * span) (128 * ((r : Int) - lo))
  let j := (min 7 (x / (16 * span))).toNat
  let d := x - 16 * (j : Int) * span
  roundDiv (16 * x + 16 * span * inl a b j + (inl a b (j + 1) - inl a b j) * d) (16 * span)

/-- TIME of a conversion (R200), with the calibration of the TDC that made it and its crossbar offset (R209). -/
def State.timeOf (s : State) (c : Nat) (kitty : Option Nat) (n r : Nat) : Int :=
  let k := c / 48
  let m := c % 48
  let base : Int := 128 * ((n : Int) + 1)
  match kitty with
  | none =>
    base - fineCode (s.f (TDC.LIN.RAW_LO k m)) (s.f (TDC.LIN.RAW_HI k m)) (s.f (TDC.INL_A.INL k m)) (s.f (TDC.INL_B.INL k m)) r
  | some q =>
    base - fineCode (s.f (KITTY.LIN.RAW_LO q)) (s.f (KITTY.LIN.RAW_HI q)) (s.f (KITTY.INL_A.INL q)) (s.f (KITTY.INL_B.INL q)) r
      + byteAt (s.f (KITTY.XOFS_A.XOFS q)) (s.f (KITTY.XOFS_B.XOFS q)) k

/-- The cause of a failed health check of a conversion, if any (R210): RAW_RANGE 1, COUNTER 3. -/
def healthCause (lo hi r diff : Nat) : Option Nat :=
  if r + 16 < lo ∨ hi + 16 < r then some 1 else if 1 < diff then some 3 else none

/-- RAW_LO and RAW_HI of the TDC that made a conversion. -/
def State.rawLimits (s : State) (c : Nat) (kitty : Option Nat) : Nat × Nat :=
  match kitty with
  | none => (s.f (TDC.LIN.RAW_LO (c / 48) (c % 48)), s.f (TDC.LIN.RAW_HI (c / 48) (c % 48)))
  | some q => (s.f (KITTY.LIN.RAW_LO q), s.f (KITTY.LIN.RAW_HI q))

/-- The event word of R20. -/
def eventWord (c tag time : Nat) : Word36 := w36 (c * 2 ^ 27 + tag % 32 * 2 ^ 22 + time % 2 ^ 22)

/-- Events that an output path holds in the buffer of one TDC. -/
def bufferFill (out : List OutItem) (kitty : Option Nat) : Nat :=
  out.foldl (fun n i => match i with
    | .event _ _ q => if q = kitty then n + 1 else n
    | .marker _ => n) 0

/-- Events in the output buffer of the TDC that serves a channel (R203); a kitty TDC may still hold events of
the channel it served before. -/
def State.tdcFill (s : State) (c : Nat) (kitty : Option Nat) : Nat :=
  match kitty with
  | none => bufferFill (s.chan c).out none
  | some q => s.ret.chans.foldl (fun n x => n + bufferFill x.out (some q)) 0

/-- A good conversion becomes an event when its TIME lies in the gate (R195, R198, R203). -/
def State.deliver (s : State) (c : Nat) (e : Capture) (time : Int) (tot : Nat) : State :=
  let k := c / 48
  let m := c % 48
  if time < e.start ∨ (e.stop : Int) ≤ time then s
  else if e.drop then s.incF (TDC.ARMX_CNT.LEVEL_DROP k)
  else if 40 ≤ s.tdcFill c e.kitty then
    ((s.incF (TDC.CNT.OVF k m)).event (0x28 + k) 1).updSum c fun y => { y with ovf := true }
  else
    s.updChan c fun x =>
      { x with out := x.out ++ [.event (eventWord c e.tag time.toNat) tot e.kitty] }

/-- The oldest edge of a channel converts (R199-R210): `diff` is the difference of the counter copies. -/
def State.convert (s : State) (c r diff tot : Nat) : State :=
  match (s.chan c).edges with
  | [] => s
  | e :: es =>
    let s := s.updChan c fun x => { x with edges := es }
    let (lo, hi) := s.rawLimits c e.kitty
    if (s.chan c).loopLost then s.updSum c fun m => { m with lostMasked := true }
    else match healthCause lo hi r diff with
    | some cause => s.conversionFails c e cause
    | none => s.deliver c e (s.timeOf c e.kitty e.n r) tot

/-- The conversion of the oldest edge of a channel is not complete within 20 TCLK (R210). -/
def State.convertTimeout (s : State) (c : Nat) : State :=
  match (s.chan c).edges with
  | [] => s
  | e :: es => (s.updChan c fun x => { x with edges := es }).conversionFails c e 2

/-! ## Collection and markers (R203, R222) -/

/-- A slice's fill: the events in its input FIFO (R131). -/
def fifoFill (q : List (Nat × OutItem)) : Nat :=
  q.foldl (fun n i => match i.2 with
    | .event _ _ _ => n + 1
    | .marker _ => n) 0

/-- The input FIFO of a slice. -/
def State.fifo (s : State) (k : Nat) : List (Nat × OutItem) := nth s.hist.fifos k []

/-- Back-pressure follows the fill of a slice (R131). -/
def State.throttle (s : State) (k : Nat) : State :=
  let n := fifoFill (s.fifo k)
  let v := s.f DEAL.THROTTLE_STAT.SLICE
  if s.f DEAL.THROTTLE.THR_HI < n then
    if bitOf v k then s else (s.setF DEAL.THROTTLE_STAT.SLICE (v + 2 ^ k)).event 0x10 3
  else if n < s.f DEAL.THROTTLE.THR_LO then s.setF DEAL.THROTTLE_STAT.SLICE (putBits v k 1 0)
  else s

/-- The input FIFO of a slice replaced. -/
def State.setFifo (s : State) (k : Nat) (q : List (Nat × OutItem)) : State :=
  ({ s with hist := { s.hist with fifos := setNth s.hist.fifos k q } }).throttle k

/-- What one collection visit takes from a channel's output path (R203, R222): the markers that lead up to an
event and that event, or one marker alone when no event waits. -/
def visit : List OutItem → List OutItem × List OutItem
  | [] => ([], [])
  | .event w t q :: r => ([.event w t q], r)
  | .marker a :: r =>
    if r.any (fun i => match i with
      | .event _ _ _ => true
      | .marker _ => false) then
      let (x, y) := visit r
      (.marker a :: x, y)
    else ([.marker a], r)

/-- Events among the items that a visit delivers. -/
def eventsIn (l : List OutItem) : Nat :=
  l.foldl (fun n i => match i with
    | .event _ _ _ => n + 1
    | .marker _ => n) 0

/-- COLLECTION_VISIT (R203): the events delivered to the slice count (R217). A slice FIFO that holds 2,048 events takes none
(R132: none overflows). -/
def execCollectionVisit (channel : Fin 384) (s : State) : Host.Outcome State Fault Refusal :=
  let c := channel.val
  let (x, y) := visit (s.chan c).out
  let q := s.fifo (c / 12)
  if 2048 ≤ fifoFill q then .next s
  else
    let s := (s.updChan c fun ch => { ch with out := y }).addF (TDC.EVENTS.VALUE (c / 48) (c % 48)) (eventsIn x)
    .next (s.setFifo (c / 12) (q ++ x.map fun i => (c, i)))

/-- A channel places no markers in a hand: it is disabled in it. A hand that has ended without it has left it behind already. -/
def State.unmarked (s : State) (c : Nat) (h : Hand) : Bool :=
  (s.chan c).sum.disabled && s.deal.cur.any fun x => x.snapped && x.count == h.count

/-- A marker placed: the next one is that of the next slot, or of slot 0 of the next hand. -/
def Chan.marked (x : Chan) (h : Hand) : Chan :=
  if h.sEff ≤ x.marks + 1 then { x with markHand := x.markHand + 1, marks := 0 } else { x with marks := x.marks + 1 }

/-- An end-of-shot marker (R222), of each slot in order whether the channel was armed in it or not; the last one of a hand may
come after its end. It takes with it the count of armed windows through which the comparator stayed high (R216). -/
def State.shotMarker (s : State) (c : Nat) (stuck : Bool) : State :=
  let x := s.chan c
  match s.handOf x.markHand with
  | none => s
  | some h =>
    if s.unmarked c h ∨ h.sEff ≤ x.marks then s else
    let armed := x.armedSlots.contains (h.count, x.marks)
    let left := x.armedSlots.filter (· != (h.count, x.marks))
    let n := if !armed then x.stuck else if stuck then x.stuck + 1 else 0
    let k := s.srcOf c / 48
    let i := s.srcOf c % 48
    let y := { x with
      out := x.out ++ [OutItem.marker armed], armedSlots := left, gap := left.isEmpty, stuck := n, loopLost := x.loopLost && !armed }
    let s := s.setChan c (y.marked h)
    if n = 64 ∧ armed then (s.setB (AFE.STAT.STUCK k i) true).event (0x20 + k) 0
    else if n = 0 then s.setB (AFE.STAT.STUCK k i) false
    else s

/-- SHOT_MARKER (R222): 16 TCLK after the armed window of the channel's slot. -/
def execShotMarker (channel : Fin 384) (stuckHigh : Bool) (s : State) : Host.Outcome State Fault Refusal :=
  .next (s.shotMarker channel.val stuckHigh)

/-! ## Delay-locked loops (R201) -/

/-- The LOCK field of a loop: 0 A, 1 B. -/
def lockField (k loop : Nat) : Fld := if loop = 0 then TDC.DLL.A_LOCK k else TDC.DLL.B_LOCK k

/-- The channels of a page. -/
def pageChans (k : Nat) : List Nat := (List.range 48).map (48 * k + ·)

/-- A loop loses lock (R201). The active one hands over to the other at the gap of each channel; with neither
locked, all TDCs of the page fail. -/
def State.lockLost (s : State) (k loop : Nat) : State :=
  if !s.fb (lockField k loop) then s else
  let s := s.setB (lockField k loop) false
  let other := 1 - loop
  if s.fb (lockField k other) then
    let s := { s with ret := { s.ret with retrying := s.ret.retrying ++ [2 * k + loop] } }
    if s.f (TDC.DLL.ACTIVE k) ≠ loop then s else
    let s := (s.setF (TDC.DLL.ACTIVE k) other).event (0x28 + k) 2
    (pageChans k).foldl (fun s c =>
      let x := s.chan c
      if x.gap && x.edges.isEmpty then s else s.setChan c { x with loopLost := true }) s
  else
    let s := { s with ret := { s.ret with retrying := s.ret.retrying.filter (fun i => i / 2 != k) } }
    (pageChans k).foldl (fun s c => s.ownFails c 6) s

/-- DLL_LOCK_LOSS (R201): loop A or B of a TDC page. -/
def execDllLockLoss (page : Fin 8) (loopB : Bool) (s : State) : Host.Outcome State Fault Refusal :=
  .next (s.lockLost page.val (b2n loopB))

/-- DLL_RETRY (R201): an unlocked loop of a page with a locked one is retried. -/
def execDllRetry (page : Fin 8) (s : State) : Host.Outcome State Fault Refusal :=
  let k := page.val
  let try_ (loop : Nat) (s : State) : State :=
    if !s.fb (lockField k loop) ∧ s.fb (lockField k (1 - loop)) ∧ !s.ret.retrying.contains (2 * k + loop) ∧
        !s.cal.dlls.any (fun e => e.1 == 2 * k + loop) then
      { s with ret := { s.ret with retrying := s.ret.retrying ++ [2 * k + loop] } }
    else s
  .next (try_ 1 (try_ 0 s))

/-- DLL_RELOCK (R201): a retried loop locks and matches; it is the standby loop. -/
def execDllRelock (page : Fin 8) (loopB : Bool) (s : State) : Host.Outcome State Fault Refusal :=
  let k := page.val
  let i := 2 * k + b2n loopB
  if s.ret.retrying.contains i then
    .next (({ s with ret := { s.ret with retrying := s.ret.retrying.filter (· != i) } }).setB (lockField k (b2n loopB)) true)
  else .next s

/-! ## Retest (R212) -/

/-- TDCk.FAIL_CLR with GO (R212): refused unless the TDC is failed. -/
def State.failClr (s : State) (src k m : Nat) : State :=
  if m < 48 ∧ s.fb (TDC.STAT.FAILED k m) then s.updChan (48 * k + m) fun x => { x with retest := true }
  else s.err 0x05 src (TDC.FAIL_CLR k)

/-- TDC_FAIL_CLR (R212). -/
def execTdcFailClr (src : Port) (page : Fin 8) (ch : Fin 64) (s : State) : Host.Outcome State Fault Refusal :=
  .next (s.failClr (portSrc src) page.val ch.val)

/-- A failed own TDC is sound again (R207, R212): the channel returns to it, or stays on its kitty TDC for a host
request. -/
def State.ownClears (s : State) (c : Nat) : State :=
  let s := ((s.setB (TDC.STAT.FAILED (c / 48) (c % 48)) false).setF (TDC.STAT.CAUSE (c / 48) (c % 48)) 0).setFailedBit c false
  let s := s.updChan c fun x => { x with noTdc := false, retest := false }
  match s.kitOf c with
  | some n => if s.hostNames c then s.setKit n 4 c else s.decideMove c .own
  | none => s

/-- TDC_RETEST_DONE (R212). -/
def execTdcRetestDone (channel : Fin 384) (pass : Bool) (s : State) : Host.Outcome State Fault Refusal :=
  let c := channel.val
  if !(s.chan c).retest then .next s
  else if pass then .next (s.ownClears c)
  else .next ((s.updChan c fun x => { x with retest := false }).setF (TDC.STAT.CAUSE (c / 48) (c % 48)) 5)

/-! ## DUMMY (R214, R215) -/

/-- A DUMMY edge at a hand boundary (R214): the highest free kitty TDC times it, or the edge is skipped and
counted. Answers whether the edge was skipped. -/
def State.dummyInject (s : State) : State × Bool :=
  if !s.fb KITTY.DUMMY_CFG.EN then (s, false) else
  let skip := ((s.incF KITTY.DUMMY_CNT.SKIP).event 0x30 3, true)
  if !s.enabled 0x30 || !s.domOn 3 then skip else
  match ((List.range 16).reverse.find? fun n => s.kitState n == 0) with
  | none => skip
  | some n =>
    let s := s.setKit n 3 0x1FF
    ({ s with ret := { s.ret with dummy := some { kitty := n } } }, false)

/-- The TIME expected of a DUMMY edge (R215). -/
def State.dummyExpected (s : State) : Int :=
  128 * (s.f KITTY.DUMMY_CFG.DELAY : Int) + 16 * (s.f KITTY.DUMMY_CFG.FINE : Int) + s.fi KITTY.DUMMY_D0.D0

/-- A DUMMY check fails (R215). -/
def State.dummyFails (s : State) : State :=
  ((s.setB KITTY.DUMMY_LAST.ERR true).incF KITTY.DUMMY_CNT.FAIL).event 0x30 2

/-- The DUMMY edge is timed (R214, R215): its event word, and whether the check passed; none where no edge is due
or the kitty TDC fails its health check (R210), after which the event is missing. -/
def State.dummyTimed (s : State) (n r diff : Nat) : State × Option (Nat × Bool) :=
  match s.ret.dummy with
  | none => (s, none)
  | some d =>
    match healthCause (s.f (KITTY.LIN.RAW_LO d.kitty)) (s.f (KITTY.LIN.RAW_HI d.kitty)) r diff with
    | some _ => (s.kittyFails d.kitty, none)
    | none =>
      let t := 128 * ((n : Int) + 1) -
        fineCode (s.f (KITTY.LIN.RAW_LO d.kitty)) (s.f (KITTY.LIN.RAW_HI d.kitty)) (s.f (KITTY.INL_A.INL d.kitty))
          (s.f (KITTY.INL_B.INL d.kitty)) r
      let ok := decide ((t - s.dummyExpected).natAbs ≤ s.f KITTY.DUMMY_CFG.TOL)
      let s := { s with ret := { s.ret with dummy := none } }
      let s := ((s.setB KITTY.DUMMY_LAST.VALID true).setB KITTY.DUMMY_LAST.ERR false).setF KITTY.DUMMY_LAST.TIME t.toNat
      (if ok then s else s.dummyFails, some (t.toNat, ok))

/-! ## Detector bias and counters (R193, R216-R218) -/

/-- DBIAS_CONVERSION (R193): two conversions in a row outside the window raise DBIAS_OUT, two inside it end the
condition (R402). -/
def execDbiasConversion (millivolt : Fin 2048) (s : State) : Host.Outcome State Fault Refusal :=
  let v := millivolt.val
  if nth s.pwr.domains 2 .off ≠ .on then .next s else
  let s := s.setF (AFE.DBIAS_VAL.VALUE 0) v
  let out := v < s.f (AFE.DBIAS_WIN.DBIAS_LO 0) ∨ s.f (AFE.DBIAS_WIN.DBIAS_HI 0) < v
  if out then
    let s := { s with ret := { s.ret with biasOut := s.ret.biasOut + 1, biasIn := 0 } }
    if s.ret.biasOut = 2 then .next ((s.setB (AFE.DBIAS_VAL.OUT 0) true).event 0x20 2).abandonChange else .next s
  else
    let s := { s with ret := { s.ret with biasOut := 0, biasIn := s.ret.biasIn + 1 } }
    if 2 ≤ s.ret.biasIn then .next (s.setB (AFE.DBIAS_VAL.OUT 0) false) else .next s

/-- A write of 1 to AFE.CNT_CLR (R216). -/
def State.afeCntClr (s : State) (k : Nat) : State := s.clearFs ((List.range 48).map fun i => AFE.STAT.EDGES k i)

/-- AFE_CNT_CLR (R216). -/
def execAfeCntClr (page : Fin 8) (s : State) : Host.Outcome State Fault Refusal := .next (s.afeCntClr page.val)

/-- A write of 1 to TDC.CNT_CLR (R217). -/
def State.tdcCntClr (s : State) (k : Nat) : State :=
  (List.range 48).foldl (fun s m => (s.setReg (TDC.CNT k m) 0).setReg (TDC.EVENTS k m) 0) (s.setReg (TDC.ARMX_CNT k) 0)

/-- TDC_CNT_CLR (R217). -/
def execTdcCntClr (page : Fin 8) (s : State) : Host.Outcome State Fault Refusal := .next (s.tdcCntClr page.val)

/-- A write of 1 to KITTY.CNT_CLR (R218). -/
def State.kittyCntClr (s : State) : State := s.setReg KITTY.DUMMY_CNT 0

/-- KITTY_CNT_CLR (R218). -/
def execKittyCntClr (s : State) : Host.Outcome State Fault Refusal := .next s.kittyCntClr

end Sys2Proof.Machine
end

