-- ==== Sys2Proof/Machine/Acquire.lean ====
section
/-! DEFINITION. Waveform capture and acquisition (spec/12): sample correction, the spare ADC, triggers, the
capture engine, averaging, measurements, the ring and rate reduction. -/

namespace Sys2Proof.Machine

/-! ## Samples (R22, R271, R272) -/

/-- Rounding of a quotient to the nearest, halves up (R271). -/
def roundUp (a b : Int) : Int := (2 * a + b) / (2 * b)

/-- A raw code of ADC `a` corrected for logical channel `c`: VALUE and SAT (R271). -/
def State.correctCode (s : State) (a c code : Nat) : Int × Bool :=
  let x : Int := 16 * ((code : Int) - 2048) - s.fi (ADC.ACORR.AOFS a)
  let y := x * s.f (ADC.ACORR.AGAIN a) / 16384
  let z := y - s.fi (ADC.CCORR.COFS c)
  let v := roundUp (z * s.f (ADC.CCORR.CGAIN c)) 16384
  let w := clipSigned 16 v
  (w, w != v)

/-- A sample of one capture (R271, R272). -/
def State.sampleOf (s : State) (c : Nat) (r : RawSample) : Smp :=
  match r with
  | .missing => { none_ := true }
  | .own code ovr => let (v, sat) := s.correctCode (c / 48) c code.toNat; { ovr := ovr, sat := sat, value := v }
  | .spare code ovr => let (v, sat) := s.correctCode 8 c code.toNat; { ovr := ovr, sat := sat, value := v }

/-- The same position of two captures (R284). -/
def Smp.add (x y : Smp) : Smp :=
  { none_ := x.none_ || y.none_, ovr := x.ovr || y.ovr, sat := x.sat || y.sat, value := x.value + y.value }

/-- The mean of 2^n captures (R284); a position without a sample reads as R272 says. -/
def Smp.mean (n : Nat) (x : Smp) : Smp :=
  if x.none_ then { none_ := true } else { x with value := roundUp x.value (2 ^ n : Nat) }

/-- The 18 bits of a sample (R22, R272). -/
def Smp.bits (x : Smp) : Nat :=
  if x.none_ then 0x30000 else b2n x.ovr * 2 ^ 17 + b2n x.sat * 2 ^ 16 + unsigned 16 x.value

/-- Two samples to a word, the earlier in the upper half (R22). -/
def packSamples : List Smp → List Word36
  | a :: b :: l => w36 (a.bits * 2 ^ 18 + b.bits) :: packSamples l
  | _ => []

/-! ## Buses and the spare ADC (R269-R276) -/

/-- A bus is converted (R86, R276). -/
def State.busLive (s : State) (k : Nat) : Bool := s.domOn 4 && s.enabled 0x31 && !s.acq.dead.contains k

/-- The pre-trigger ring of a bus holds `pre` samples of its channel (R273, R280). -/
def State.ringHolds (s : State) (k pre : Nat) : Bool :=
  match nth s.acq.since k none with
  | some t => decide (t + 8 * pre ≤ s.mono)
  | none => false

/-- The pre-trigger ring of a bus begins anew `settle` TCLK from now (R273). -/
def State.flushRing (s : State) (settle k : Nat) : State :=
  { s with acq := { s.acq with since := setNth s.acq.since k (some (s.mono + 8 * settle)) } }

/-- The converters run again: every ring fills from now on (R270, R279). -/
def State.startRings (s : State) : State := (List.range 8).foldl (fun s k => s.flushRing 0 k) s

/-- What a change of ADC settings does to the rings: a bus with another channel settles within 16 TCLK and its
ring is flushed; enabling starts all of them (R273, R86). -/
def State.adcChanged (s old : State) : State :=
  if !s.enabled 0x31 then { s with acq := { s.acq with since := List.replicate 8 none } }
  else if !old.enabled 0x31 then s.startRings
  else (filterRange 8 fun k => s.f (ADC.MUX.CH k) != old.f (ADC.MUX.CH k)).foldl (fun s k => s.flushRing 16 k) s

/-- A bus is without samples. -/
def State.busDead (s : State) (k : Nat) : State :=
  { s with acq := { s.acq with dead := if s.acq.dead.contains k then s.acq.dead else s.acq.dead ++ [k] } }

/-- A bus has samples again. -/
def State.busAlive (s : State) (k : Nat) : State := { s with acq := { s.acq with dead := s.acq.dead.filter (· != k) } }

/-- State and bus of the spare, with the suspension that goes with state 1 (R274). -/
def State.setSpare (s : State) (st bus : Nat) : State :=
  ((s.setF ADC.SPARE.STATE st).setF ADC.SPARE.BUS bus).setB ADC.STATUS.CAL_SUSPENDED (st == 1)

/-- A handover begins (R274). -/
def State.beginHandover (s : State) (bus : Nat) (toSpare : Bool) : State :=
  { s with acq := { s.acq with handover := some { bus := bus, toSpare := toSpare } } }

/-- An ADC calibration is abandoned: the previous corrections stay (R274, R443). -/
def State.abandonAdcCal (s : State) : State :=
  if s.cal.adc.isNone then s else { s with cal := { s.cal with adc := none } }.incF CAL.STAT.ABANDONED

/-- A bus is left unserved (R276). -/
def State.noSpare (s : State) (k : Nat) : State := (s.busDead k).event 0x31 1

/-- The spare takes over the bus of an ADC that has just failed (R274, R276, R290). -/
def State.allocSpare (s : State) (k : Nat) : State :=
  let st := s.f ADC.SPARE.STATE
  let b := s.f ADC.SPARE.BUS
  let away := match s.acq.handover with
    | some h => !h.toSpare
    | none => false
  if st = 0 ∨ (st = 2 ∧ b ≠ k) then
    (({ s.abandonAdcCal with acq := { s.acq with onSpare := none } }.setSpare 1 k).busDead k).beginHandover k true
  else if st = 2 ∨ (st = 1 ∧ b = k ∧ away = true) then
    let s := s.abandonAdcCal.setSpare 1 k
    if s.acq.onSpare = some k then { s with acq := { s.acq with handover := none } } else s.busDead k
  else s.noSpare k

/-- The spare itself has failed (R274, R276). -/
def State.spareLost (s : State) : State :=
  let st := s.f ADC.SPARE.STATE
  let b := s.f ADC.SPARE.BUS
  let s := s.abandonAdcCal.setSpare 7 0
  let s := { s with acq := { s.acq with onSpare := none, handover := none } }
  if st = 1 then (if s.fb (ADC.STAT.FAILED b) then s.noSpare b else s.busAlive b) else s

/-- An ADC is marked failed, for a cause of ADC.STAT, and masked (R275, R276). -/
def State.adcFail (s : State) (a cause : Nat) : State :=
  if s.fb (ADC.STAT.FAILED a) then s else
  let s := ((s.setB (ADC.STAT.FAILED a) true).setF (ADC.STAT.CAUSE a) cause).event 0x31 0
  if a = 8 then s.spareLost else s.allocSpare a

/-- ADC_FAIL (R275, R276). -/
def execAdcFail (adc : Fin 9) (cause : AdcCause) (s : State) : Host.Outcome State Fault Refusal :=
  .next (if s.domOn 4 then s.adcFail adc.val (match cause with | .redundancy => 1 | .timeout => 2) else s)

/-- The spare is free again. -/
def State.freeSpare (s : State) : State := s.setSpare 0 0

/-- The handover under way ends: the output of the bus switches between two samples (R274, R276). -/
def State.handoverDone (s : State) : State :=
  match s.acq.handover with
  | none => s
  | some h =>
    let s := { s with acq := { s.acq with handover := none, onSpare := if h.toSpare then some h.bus else none } }
    let s := (s.busAlive h.bus).event 0x31 2
    if h.toSpare then s else s.freeSpare

/-- SPARE_HANDOVER_DONE (R274). -/
def execSpareHandoverDone (s : State) : Host.Outcome State Fault Refusal := .next (if s.domOn 4 then s.handoverDone else s)

/-- A bus returns to its own ADC (R274, R276): by the handover where the spare drives it. -/
def State.returnBus (s : State) (k : Nat) : State :=
  if s.acq.onSpare = some k then s.beginHandover k false
  else if s.f ADC.SPARE.STATE ≠ 7 ∧ s.f ADC.SPARE.STATE ≠ 0 ∧ s.f ADC.SPARE.BUS = k then
    ({ s with acq := { s.acq with handover := none } }.busAlive k).freeSpare
  else s.busAlive k

/-- A write of GO to ADC.FAIL_CLR (R276, R291). -/
def State.adcFailClr (s : State) (src a : Nat) : State :=
  if !s.fb (ADC.STAT.FAILED a) then s.err 0x05 src ADC.FAIL_CLR
  else { s with acq := { s.acq with retests := if s.acq.retests.contains a then s.acq.retests else s.acq.retests ++ [a] } }

/-- ADC_FAIL_CLR (R276). -/
def execAdcFailClr (src : Port) (adc : Fin 8) (s : State) : Host.Outcome State Fault Refusal :=
  .next (s.adcFailClr (portSrc src) adc.val)

/-- The retest of an ADC ends (R276). -/
def State.adcRetested (s : State) (a : Nat) (pass : Bool) : State :=
  if !s.acq.retests.contains a then s else
  let s := { s with acq := { s.acq with retests := s.acq.retests.filter (· != a) } }
  if pass then ((s.setB (ADC.STAT.FAILED a) false).setF (ADC.STAT.CAUSE a) 0).returnBus a
  else s.setF (ADC.STAT.CAUSE a) 4

/-- ADC_RETEST_DONE (R276). -/
def execAdcRetestDone (adc : Fin 8) (pass : Bool) (s : State) : Host.Outcome State Fault Refusal :=
  .next (if s.domOn 4 then s.adcRetested adc.val pass else s)

/-- A write of 1 to ADC.CNT_CLR (R291). -/
def State.adcCntClr (s : State) : State := (List.range 9).foldl (fun s a => s.setF (ADC.STAT.OR_CNT a) 0) s

/-- ADC_CNT_CLR (R291). -/
def execAdcCntClr (s : State) : Host.Outcome State Fault Refusal := .next s.adcCntClr

/-! ## The engine (R277-R284, R287) -/

/-- The settings that the engine follows: those of the record or set in the making, else those in force (R283). -/
def State.acqCfg (s : State) : State :=
  match s.acq.set with
  | some a => { s with regs := a.cfg }
  | none => s

/-- MODE, 0 while ACQ is disabled (R86, R282). -/
def State.acqMode (s : State) : Nat := if s.enabled 0x32 then s.f ACQ.MODE.MODE else 0

/-- A source of a type may trigger (R278). -/
def State.typeArmed (s : State) (ty : Nat) : Bool :=
  match s.pwr.st with
  | .run => true
  | .ready => decide (3 ≤ ty)
  | _ => false

/-- The bus of a source carries its channel and its ring is full enough (R273, R276, R277, R280). -/
def State.sourceReady (s : State) (n : Nat) : Bool :=
  let c := s.f (ACQ.SRC_CFG.CH n)
  s.busLive (c / 48) && s.f (ADC.MUX.CH (c / 48)) == c % 48 && s.ringHolds (c / 48) (s.f ACQ.REC.PRE)

/-- Every enabled source waits for its ring (R280). -/
def State.acqFilling (s : State) : Bool :=
  let ns := filterRange 8 fun n => s.fb (ACQ.SRC_CFG.EN n)
  !ns.isEmpty && ns.all fun n => !s.ringHolds (s.f (ACQ.SRC_CFG.CH n) / 48) (s.f ACQ.REC.PRE)

/-- ACQ.STATE.STATE (R280). -/
def State.acqState (s : State) : Nat :=
  if s.acq.busy then 3
  else if s.acqCfg.acqMode = 0 then 0
  else if s.acq.done then 5
  else if s.acq.holdoff || decide (2 ≤ s.acq.buffer.length) then 4
  else if s.acqCfg.acqFilling then 1
  else 2

/-- The ring fill, WR - RD modulo 65,536 (R287). -/
def State.ringFill (s : State) : Nat := (s.f ACQ.RING_WR.PTR + 65536 - s.f ACQ.RING_RD.PTR) % 65536

/-- The ring words that a record needs (R285, R286, R289). -/
def State.recordWords (s : State) : Nat :=
  (if s.fb ACQ.OUT.WAVE_EN then 7 + s.f ACQ.REC.LEN / 2 else 0) + (if s.fb ACQ.MEAS.MEAS_EN then 8 else 0)

/-- Ring words that completed records still wait to fill. -/
def State.ringPromised (s : State) : Nat :=
  s.acq.buffer.foldl (fun n r => n + r.entries.foldl (fun n e => n + 1 + e.2.length) 0) 0

/-- A trigger finds the ring full (R285). -/
def State.ringFull (s : State) : Bool := decide (65536 - s.ringFill < s.ringPromised + s.acqCfg.recordWords)

/-- A trigger that finds the engine not armed (R280). -/
def State.missed (s : State) : State := s.incF ACQ.CNT_A.MISSED

/-- HOLDOFF runs from a trigger sample of the settings in force for the record (R280). -/
def State.holdFrom (s : State) : State := { s with acq := { s.acq with holdoff := s.acqCfg.f ACQ.HOLDOFF.HOLDOFF != 0 } }

/-- TIME of a trigger sample, ns: that of a shot is the FIRE edge, 4 TCLK after its fire command (R146, R270, R286). -/
def State.sampleTime (s : State) (shot : Option (Nat × Nat × Nat)) : Nat := if shot.isSome then (s.time + 32) / 10 else s.timeNs

/-- The first capture of a record or set begins (R281, R283, R286). -/
def State.beginRecord (s : State) (n : Nat) (sample : Option Nat) (shot : Option (Nat × Nat × Nat)) : State :=
  let hand := if s.pwr.st = .run then s.deal.cur.map fun h => (h.az, h.count) else none
  let set : AcqSet :=
    { cfg := s.regs, sources := 2 ^ n, primary := n, number := s.acq.record, sample := sample, time := s.sampleTime shot,
      gen := s.gen4, hand := hand, shot := shot, step := s.f ACQ.STATE.STEP, skipped := s.acq.skipped }
  { s with acq := { s.acq with set := some set, busy := true, record := (s.acq.record + 1) % 2 ^ 32, phase := 0, skipped := 0, late := none } }.holdFrom

/-- A trigger of the first capture: taken, or skipped under rate reduction (R287). Triggers of one sample count as one (R281). -/
def State.firstTrigger (s : State) (n : Nat) (sample : Option Nat) (shot : Option (Nat × Nat × Nat)) : State :=
  if sample.isSome && s.acq.skipAt == sample then s
  else if s.acq.phase + 1 < 2 ^ s.f ACQ.STATE.STEP then
    { s with acq := { s.acq with phase := s.acq.phase + 1, skipped := satAdd 17 s.acq.skipped 1, skipAt := sample } }.incF ACQ.CNT_B.SKIPPED
  else s.beginRecord n sample shot

/-- A trigger in the sample of the capture under way: one record, of the lowest source (R281, R284). -/
def State.joinRecord (s : State) (a : AcqSet) (n : Nat) (shot : Option (Nat × Nat × Nat)) : State :=
  let m := if bitOf a.sources n then a.sources else a.sources + 2 ^ n
  let a := if a.done = 0 ∧ n < a.primary then { a with sources := m, primary := n, shot := shot } else { a with sources := m }
  { s with acq := { s.acq with set := some a } }

/-- A trigger of another source while a set waits: MISSED, unless the set's source turns out to share its sample (R284). -/
def State.missedOther (s : State) (n : Nat) (sample : Option Nat) : State :=
  match sample with
  | none => s.missed
  | some t =>
    let new : LateTriggers := { sample := t, sources := 2 ^ n, before := s.f ACQ.CNT_A.MISSED }
    let l : LateTriggers := match s.acq.late with
      | some l => if l.sample = t then { l with sources := l.sources ||| 2 ^ n } else new
      | none => new
    { s with acq := { s.acq with late := some l } }.missed

/-- The next capture of a set begins; the triggers that share its sample go into TRIG_SRC and are no longer MISSED (R284). -/
def State.nextCapture (s : State) (a : AcqSet) (sample : Option Nat) : State :=
  let shared : Nat := match s.acq.late with
    | some l => if sample == some l.sample then l.sources else 0
    | none => 0
  let s := match s.acq.late with
    | some l => if sample == some l.sample then s.setF ACQ.CNT_A.MISSED l.before else s
    | none => s
  { s with acq := { s.acq with
      set := some { a with sample := sample, sources := a.sources ||| shared }, busy := true, late := none } }.holdFrom

/-- A trigger of an enabled source that its type lets trigger (R280, R281, R284, R285). -/
def State.takeTrigger (s : State) (n : Nat) (sample : Option Nat) (shot : Option (Nat × Nat × Nat)) : State :=
  if s.acq.busy then
    match s.acq.set with
    | some a => if sample.isSome && a.sample == sample && s.acqCfg.sourceReady n then s.joinRecord a n shot else s.missed
    | none => s
  else if s.acqState ≠ 2 ∨ !s.acqCfg.sourceReady n then s.missed
  else
    match s.acq.set with
    | some a =>
      if n ≠ a.primary then s.missedOther n sample
      else if s.ringFull then (s.incF ACQ.CNT_B.RING_FULL).event 0x32 2
      else s.nextCapture a sample
    | none =>
      if s.ringFull then (s.incF ACQ.CNT_B.RING_FULL).event 0x32 2
      else s.firstTrigger n sample shot

/-- A trigger of a source, if it is enabled with that type and the device state lets the type trigger (R277, R278). -/
def State.trigger (s : State) (n ty : Nat) (sample : Option Nat) (shot : Option (Nat × Nat × Nat)) : State :=
  if s.acqCfg.fb (ACQ.SRC_CFG.EN n) && s.acqCfg.f (ACQ.SRC_CFG.TYPE n) == ty && s.typeArmed ty then s.takeTrigger n sample shot else s

/-- Triggers of every source of a type, in rising order of source. -/
def State.triggerAll (s : State) (ty : Nat) (sample : Option Nat) : State :=
  (List.range 8).foldl (fun s n => s.trigger n ty sample none) s

/-- A shot-type source matches a shot (R277). -/
def State.shotMatches (s : State) (n count : Nat) (sh : Shot) : Bool :=
  s.f (ACQ.SRC_CFG.GROUP n) == sh.group && (s.f (ACQ.SRC_CFG.SLOT n) == 63 || s.f (ACQ.SRC_CFG.SLOT n) == sh.slot) &&
  count % 2 ^ bitsOf (s.f (ACQ.SRC_PAR.PAR n)) 0 4 == 0

/-- Pulse 1 of a fire command triggers the shot-type sources that name it (R277). -/
def State.shotTrigger (s : State) (sh : Shot) : State :=
  match s.deal.cur with
  | none => s
  | some h =>
    (List.range 8).foldl (fun s n =>
      if s.acqCfg.shotMatches n h.count sh then s.trigger n 0 (some sh.fire) (some (sh.group, sh.slot, sh.tag)) else s) s

/-- LEVEL_TRIGGER (R271, R277): the last sample beyond the hysteresis and the first at the level, as raw codes. -/
def execLevelTrigger (source : Fin 8) (before reached : BitVec 12) (sample : Nat) (s : State) :
    Host.Outcome State Fault Refusal :=
  let n := source.val
  let k := s.acqCfg
  let ty := k.f (ACQ.SRC_CFG.TYPE n)
  let c := k.f (ACQ.SRC_CFG.CH n)
  let a := if s.acq.onSpare = some (c / 48) then 8 else c / 48
  let p := (s.correctCode a c before.toNat).1
  let v := (s.correctCode a c reached.toNat).1
  let level := signed 16 (bitsOf (k.f (ACQ.SRC_PAR.PAR n)) 0 16)
  let hyst : Int := bitsOf (k.f (ACQ.SRC_PAR.PAR n)) 16 12
  let hit := if ty = 1 then decide (p < level - hyst ∧ level ≤ v) else decide (level + hyst < p ∧ v ≤ level)
  .next (if (ty = 1 ∨ ty = 2) ∧ hit ∧ s.busLive (c / 48) then s.trigger n ty (some sample) none else s)

/-- TRIG_IN_EDGE (R277). -/
def execTrigInEdge (rising : Bool) (sample : Nat) (s : State) : Host.Outcome State Fault Refusal :=
  .next (s.triggerAll (if rising then 3 else 4) (some sample))

/-- ACQ_TIMER_TRIGGER (R277). -/
def execAcqTimerTrigger (source : Fin 8) (sample : Nat) (s : State) : Host.Outcome State Fault Refusal :=
  .next (s.trigger source.val 5 (some sample) none)

/-- A write of FORCE (R277): its trigger sample is the first TCLK edge at least 8 PCLK later. -/
def State.acqForce (s : State) : State := { s with acq := { s.acq with forces := s.acq.forces + 1 } }

/-- ACQ_FORCE (R277): the trigger sample of the oldest write of FORCE. -/
def execAcqForce (sample : Nat) (s : State) : Host.Outcome State Fault Refusal :=
  .next (if s.acq.forces = 0 then s
    else { s with acq := { s.acq with forces := s.acq.forces - 1 } }.triggerAll 6 (some sample))

/-- A write of ARM (R282). -/
def State.acqArm (s : State) (src : Nat) : State :=
  if s.f ACQ.MODE.MODE ≠ 2 then s.err 0x05 src ACQ.CMD else { s with acq := { s.acq with done := false } }

/-- ACQ_ARM (R282). -/
def execAcqArm (src : Port) (s : State) : Host.Outcome State Fault Refusal := .next (s.acqArm (portSrc src))

/-- A write of CNT_CLR to ACQ.CMD (R292). -/
def State.acqCntClr (s : State) : State :=
  let late := s.acq.late.map fun l => { l with before := 0 }
  [ACQ.CNT_A, ACQ.CNT_B, ACQ.CNT_C].foldl (fun s a => s.setReg a 0) { s with acq := { s.acq with late := late } }

/-- ACQ_CNT_CLR (R292). -/
def execAcqCntClr (s : State) : Host.Outcome State Fault Refusal := .next s.acqCntClr

/-- HOLDOFF_END (R280): HOLDOFF TCLK have passed since the trigger sample. The engine is armed again once the record has been
taken and the capture buffer has room as well (State.acqState). -/
def execHoldoffEnd (s : State) : Host.Outcome State Fault Refusal := .next { s with acq := { s.acq with holdoff := false } }

/-- The rate step rises while the fill exceeds HI, at most once per 100 µs (R287). -/
def State.stepRise (s : State) : State :=
  let late := match s.acq.stepUp with
    | some t => decide (100 ≤ s.usSince t)
    | none => true
  if s.domOn 4 && s.fb ACQ.RR.RR_EN && decide (s.f ACQ.RR.HI * 64 < s.ringFill) && decide (s.f ACQ.STATE.STEP < 7) && late then
    ({ s with acq := { s.acq with stepUp := some s.mono } }.setF ACQ.STATE.STEP (s.f ACQ.STATE.STEP + 1)).event 0x32 1
  else s

/-- What a commit of ACQ does to the engine (R282, R286, R287). -/
def State.acqChanged (s old : State) : State :=
  let s := if s.acqMode ≠ old.acqMode then { s with acq := { s.acq with done := false, record := 0 } } else s
  if !s.fb ACQ.RR.RR_EN && s.f ACQ.STATE.STEP != 0 then (s.setF ACQ.STATE.STEP 0).event 0x32 1 else s.stepRise

/-! ## Measurements (R289) -/

/-- VALUE of sample index `i`, given that the list begins at index -pre. -/
def smpAt (l : List Smp) (pre : Nat) (i : Int) : Smp := nth l (i + pre).toNat { none_ := true }

/-- The indices of a window. -/
def window (start : Int) (len : Nat) : List Int := (List.range len).map fun (n : Nat) => start + (n : Int)

/-- The largest v of a window and its lowest index. -/
def peakOf (v : Int → Int) (is : List Int) : Int × Int :=
  match is with
  | [] => (0, 0)
  | i :: l => l.foldl (fun b j => if v j > b.1 then (v j, j) else b) (v i, i)

/-- A crossing, in 1/256 sample (R289): missing, without a stated place, or found. -/
inductive Crossing where
  | missing
  | open_
  | at_ (v : Int)
  deriving DecidableEq, Repr

/-- `base` plus num / den of a sample, in 1/256, rounded down. -/
def crossAt (base num den : Int) : Crossing := if den ≤ 0 then .open_ else .at_ (256 * base + 256 * num / den)

/-- The leading crossing of `p` tenths of the peak: the largest j before the peak (R289). -/
def leading (v : Int → Int) (is : List Int) (pk : Int × Int) (p : Int) : Crossing :=
  match (is.filter fun j => decide (j < pk.2) && decide (10 * v j ≤ p * pk.1)).getLast? with
  | none => .missing
  | some j => crossAt j (p * pk.1 - 10 * v j) (10 * (v (j + 1) - v j))

/-- The trailing crossing: the smallest j after the peak (R289). -/
def trailing (v : Int → Int) (is : List Int) (pk : Int × Int) (p : Int) : Crossing :=
  match (is.filter fun j => decide (pk.2 < j) && decide (10 * v j ≤ p * pk.1)).head? with
  | none => .missing
  | some j => crossAt (j - 1) (10 * v (j - 1) - p * pk.1) (10 * (v (j - 1) - v j))

/-- The distance of two crossings, saturating; a free value where one is missing or has no stated place. -/
def crossSpan (free : Nat) (a b : Crossing) : Nat :=
  match a, b with
  | .at_ x, .at_ y => min (2 ^ 18 - 1) (y - x).toNat
  | _, _ => free % 2 ^ 18

/-- A crossing is missing. -/
def Crossing.gone (c : Crossing) : Bool :=
  match c with
  | .missing => true
  | _ => false

/-- The rising crossings of half the peak (R289). -/
def risings (v : Int → Int) (is : List Int) (pk : Int) : List Int :=
  is.filterMap fun j =>
    if is.contains (j + 1) && decide (10 * v j < 5 * pk) && decide (5 * pk ≤ 10 * v (j + 1)) then
      some (256 * j + 256 * (5 * pk - 10 * v j) / (10 * (v (j + 1) - v j)))
    else none

/-- TPEAK: the parabola over the three samples around the peak (R289). -/
def peakTime (v : Int → Int) (is : List Int) (pk : Int × Int) : Int :=
  let i := pk.2
  let den := 2 * v i - v (i - 1) - v (i + 1)
  if is.head? = some i ∨ is.getLast? = some i ∨ den ≤ 0 then 256 * i
  else 256 * i + clip (-128) 128 (128 * (v (i + 1) - v (i - 1)) / den)

/-- A value that must fit a signed field: a free value where the spec states none. -/
def fitSigned (width free : Nat) (v : Int) : Nat :=
  if clipSigned width v = v then unsigned width v else free % 2 ^ width

/-- Words 2 to 6 of a measurement entry (R289), by the settings of the record. -/
def State.measure (k : State) (free : Nat) (l : List Smp) : List Word36 :=
  let pre := k.f ACQ.REC.PRE
  let base := (window (k.fi ACQ.BASE.START) (k.f ACQ.BASE.LENGTH)).filter fun i => !(smpAt l pre i).none_
  let sumOf := fun (is : List Int) (g : Int → Int) => is.foldl (fun n i => n + g i) (0 : Int)
  let b := if base.isEmpty then 0 else roundUp (sumOf base fun i => (smpAt l pre i).value) base.length
  let v := fun i => if k.fb ACQ.MEAS.POL then b - (smpAt l pre i).value else (smpAt l pre i).value - b
  let is := window (k.fi ACQ.MWIN.START) (k.f ACQ.MWIN.LENGTH)
  let used := is.filter fun i => !(smpAt l pre i).none_
  let pk := peakOf v is
  let noPeak := decide (pk.1 < k.f ACQ.MEAS.MIN_AMP)
  let l5 := leading v is pk 5
  let t5 := trailing v is pk 5
  let l1 := leading v is pk 1
  let l9 := leading v is pk 9
  let rs := risings v is pk.1
  let period := if rs.length < 2 then 0 else ((rs.getLastD 0) - (rs.headD 0)) / ((rs.length : Int) - 1)
  let zero := fun (n : Nat) => if noPeak then 0 else n
  let fwhm := crossSpan (Config.freeNat free) l5 t5
  let rise := crossSpan (Config.freeNat (free + 1)) l1 l9
  let peak := fitSigned 16 (Config.freeNat (free + 2)) pk.1
  let area := unsigned 36 (sumOf used v)
  let flags := b2n (used.any fun i => (smpAt l pre i).ovr) * 128 + b2n (used.any fun i => (smpAt l pre i).sat) * 64 +
    b2n (used.length != is.length) * 32 + b2n noPeak * 16 + b2n (l5.gone || t5.gone) * 8 + b2n (l1.gone || l9.gone) * 4 +
    b2n (decide (rs.length < 2)) * 2 + b2n base.isEmpty
  [w36 (unsigned 16 b * 2 ^ 16 + peak), w36 (zero (unsigned 24 (peakTime v is pk))),
   w36 (zero fwhm * 2 ^ 18 + zero rise), w36 area, w36 (zero period.toNat % 2 ^ 24 * 2 ^ 12 + flags)]

/-! ## Records (R284, R286) -/

/-- Words 0 and 1 of a record and of its measurements (R286). -/
def AcqSet.head (a : AcqSet) (k : State) : List Word36 :=
  let az := match a.hand with
    | some (az, _) => az % 2048
    | none => 0
  [w36 (k.f (ACQ.SRC_CFG.CH a.primary) * 2 ^ 27 + az * 2 ^ 16 + a.gen % 16 * 2 ^ 12 + a.sources % 256 * 16 + a.primary * 2),
   w36 (k.f ACQ.MODE.AVG * 2 ^ 32 + a.number % 2 ^ 32)]

/-- SLOT, GROUP and TAG of word 4: a free value for a primary that is not of shot type. -/
def AcqSet.shotBits (a : AcqSet) (free : Nat) : Nat :=
  match a.shot with
  | some (g, sl, tag) => sl % 64 * 2 ^ 7 + g % 4 * 2 ^ 5 + tag % 32
  | none => Config.freeNat free % 2 ^ 13

/-- The payload of a waveform record (R286). -/
def AcqSet.words (a : AcqSet) (s k : State) (free : Nat) (l : List Smp) : List Word36 :=
  let c := k.f (ACQ.SRC_CFG.CH a.primary)
  let r := s.srcOf c
  let used := l.filter fun x => !x.none_
  a.head k ++ halves a.time ++
  [w36 (k.f (ACQ.SRC_CFG.TYPE a.primary) * 2 ^ 33 + a.shotBits free * 2 ^ 20 + a.step % 8 * 2 ^ 17 + a.skipped % 2 ^ 17),
   w36 (b2n (used.any (·.ovr)) * 2 ^ 35 + b2n (used.any (·.sat)) * 2 ^ 34 + b2n a.spare * 2 ^ 33 +
     b2n (l.any (·.none_)) * 2 ^ 32 + b2n a.hand.isNone * 2 ^ 31 + s.f (AFE.CFG.GAIN (r / 48) (r % 48)) * 2 ^ 29 +
     k.f ACQ.REC.LEN * 2 ^ 16 + k.f ACQ.REC.PRE)] ++
  packSamples l

/-- A record goes to the capture buffer (R280, R284, R286, R289). -/
def State.finishRecord (s : State) (a : AcqSet) : State :=
  let k : State := { s with regs := a.cfg }
  let l := a.samples.map (Smp.mean (k.f ACQ.MODE.AVG))
  let free := s.free
  let wave := if k.fb ACQ.OUT.WAVE_EN then [(0x20, a.words s k free l)] else []
  let meas := if k.fb ACQ.MEAS.MEAS_EN then [(0x21, a.head k ++ k.measure (free + 1) l)] else []
  let attach := match a.hand, a.shot with
    | some h, some _ => some (k.f (ACQ.SRC_CFG.CH a.primary), h.2)
    | _, _ => none
  let out : WaveOut := { bank := k.f ACQ.OUT.BANK, entries := wave ++ meas, stamp := a.time, gen := a.gen, attach := attach }
  let single := k.acqMode == 2 && s.acqMode == 2
  let s := { s with
    free := s.free + 4
    acq := { s.acq with
      set := none, busy := false, done := single
      buffer := if out.entries.isEmpty then s.acq.buffer else s.acq.buffer ++ [out] } }
  let s := s.setF ACQ.STATE.AVG_N 0
  let s := if 1 < popCount a.sources 8 then s.incF ACQ.CNT_A.MULTI else s
  (s.eventIf single 0x32 0).eventIf (l.any (·.none_)) 0x32 3

/-- Samples with OR counted, by converter (R291). -/
def State.countOver (s : State) (bus : Nat) (l : List RawSample) : State :=
  let own := l.countP fun r => match r with | .own _ o => o | _ => false
  let spare := l.countP fun r => match r with | .spare _ o => o | _ => false
  let s := if own = 0 then s else s.addF (ADC.STAT.OR_CNT bus) own
  if spare = 0 then s else s.addF (ADC.STAT.OR_CNT 8) spare

/-- A sample came through the spare. -/
def RawSample.isSpare (r : RawSample) : Bool :=
  match r with
  | .spare _ _ => true
  | _ => false

/-- Samples with OR outside the records counted, by converter (R270, R291). -/
def State.countOvers (s : State) (overs : List Nat) : State :=
  if !s.domOn 4 || !s.enabled 0x31 then s else
  (List.range 9).foldl (fun s a => if nth overs a 0 = 0 then s else s.addF (ADC.STAT.OR_CNT a) (nth overs a 0)) s

/-- The last sample of a capture has been taken (R279, R280, R284). -/
def State.captureDone (s : State) (raw : List RawSample) : State :=
  match s.acq.set with
  | none => s
  | some a =>
    let k := s.acqCfg
    if !s.acq.busy || raw.length != k.f ACQ.REC.LEN then s else
    let c := k.f (ACQ.SRC_CFG.CH a.primary)
    let raw := if s.domOn 4 && s.enabled 0x31 then raw else raw.map fun _ => RawSample.missing
    let s := s.countOver (c / 48) raw
    let one := raw.map (s.sampleOf c)
    let a := { a with
      samples := if a.done = 0 then one else List.zipWith Smp.add a.samples one
      done := a.done + 1
      spare := a.spare || raw.any RawSample.isSpare }
    if a.done = 2 ^ k.f ACQ.MODE.AVG then s.finishRecord a
    else { s with acq := { s.acq with set := some a, busy := false } }.setF ACQ.STATE.AVG_N a.done

/-! ## The ring (R285, R287, R288) -/

/-- The oldest entry of the capture buffer is written to the ring (R285). -/
def State.ringWrite (s : State) : State :=
  match s.acq.buffer with
  | [] => s
  | r :: rs =>
    match r.entries with
    | [] => { s with acq := { s.acq with buffer := rs } }
    | (dt, pl) :: es =>
      let wr := s.f ACQ.RING_WR.PTR
      match s.moverWrite 3 r.bank wr (w36 (dt * 2 ^ 28 + pl.length % 65536) :: pl) with
      | (s, false) => s
      | (s, true) =>
        let rest := if es.isEmpty then rs else { r with entries := es } :: rs
        let mark : RingMark := { start := wr, length := pl.length, dt := dt, stamp := r.stamp, gen := r.gen }
        let s := { s with acq := { s.acq with buffer := rest, marks := s.acq.marks.filter (fun (m : RingMark) => m.start != wr) ++ [mark] } }
        let s := s.setF ACQ.RING_WR.PTR (wr + 1 + pl.length)
        let s := if dt = 0x20 then s.incF ACQ.CNT_C.RECORDS else s
        let s := match r.attach with
          | some x => if dt = 0x20 then { s with hist := { s.hist with attached := s.hist.attached ++ [x] } } else s
          | none => s
        s.stepRise

/-- RING_ENTRY_WRITTEN (R285). -/
def execRingEntryWritten (s : State) : Host.Outcome State Fault Refusal := .next (if s.domOn 4 then s.ringWrite else s)

/-- RATE_STEP_DOWN (R287): the fill has stayed below LO for DWELL. -/
def execRateStepDown (s : State) : Host.Outcome State Fault Refusal :=
  .next (if s.fb ACQ.RR.RR_EN && decide (s.ringFill < s.f ACQ.RR.LO * 64) && s.f ACQ.STATE.STEP != 0 then
    (s.setF ACQ.STATE.STEP (s.f ACQ.STATE.STEP - 1)).event 0x32 1
  else s)

/-- A write of ACQ.RING_RD (R285). -/
def State.writeRingRd (s : State) (src d : Nat) : State :=
  if s.fb ACQ.OUT.LINK_EN then s.err 0x16 src ACQ.RING_RD else s.setF ACQ.RING_RD.PTR d

/-- RING_RD_WRITE (R285). -/
def execRingRdWrite (src : Port) (data : BitVec 32) (s : State) : Host.Outcome State Fault Refusal :=
  .next (s.writeRingRd (portSrc src) data.toNat)

/-- The link reads the entry at RD, when its class has room for it whole; none where it cannot (R285, R336, R353). -/
def State.ringSend1 (s : State) : Option State :=
  let b := s.f ACQ.OUT.BANK
  let rd := s.f ACQ.RING_RD.PTR
  if s.ringFill = 0 ∨ !s.moverOk 3 b then none else
  let e := (s.rd (bankAddr b rd)).toNat
  let mark := s.acq.marks.find? (fun (m : RingMark) => m.start == rd)
  let n := match mark with
    | some m => m.length
    | none => e % 65536
  let dt := match mark with
    | some m => m.dt
    | none => e / 2 ^ 28 % 256
  if !s.link.room 3 n then none else
  let (s, ws) := s.moverRead b rd (n + 1)
  let s := { s with acq := { s.acq with marks := s.acq.marks.filter (fun (m : RingMark) => m.start != rd) } }.setF ACQ.RING_RD.PTR (rd + 1 + n)
  match ws with
  | none => some s
  | some ws =>
    let stamp := match mark with
      | some m => m.stamp
      | none => s.timeNs
    let gen := match mark with
      | some m => m.gen
      | none => s.gen4
    some (s.sendPacket dt 0 gen stamp (ws.drop 1))

/-- The link reads entries while LINK_EN is 1 and class D has room (R285). -/
def State.ringSend (s : State) : Nat → State
  | 0 => s
  | n + 1 =>
    if !s.fb ACQ.OUT.LINK_EN ∨ !s.domOn 4 then s else
    match s.ringSend1 with
    | none => s
    | some s => s.ringSend n

/-- The ADC domain is lost: the capture buffer and the pre-trigger rings go with it (R290). -/
def State.acqLost (s : State) : State :=
  { s with acq := { s.acq with
      since := List.replicate 8 none, set := none, busy := false, holdoff := false, buffer := [], handover := none
      retests := [], forces := 0, late := none, skipAt := none } }.setF ACQ.STATE.AVG_N 0

end Sys2Proof.Machine
end

