-- ==== Sys2Proof/Machine/Camera.lean ====
section
/-! DEFINITION. Camera ports (spec/13): reception, stripe buffers, frames and lines, the exposure relay, I2C
transfers and the frame-sync pins. -/

namespace Sys2Proof.Machine

/-! ## Ports (R293-R297) -/

/-- A camera port. -/
def State.port (s : State) (p : Nat) : CamPort := nth s.cam.ports p {}

/-- A camera port changed. -/
def State.updPort (s : State) (p : Nat) (g : CamPort → CamPort) : State :=
  { s with cam := { s.cam with ports := updNth s.cam.ports p g } }

/-- The page of a port. -/
def camPage (p : Nat) : Nat := 0x40 + p

/-- MODE, 0 while the port is disabled (R86, R296). -/
def State.camMode (s : State) (p : Nat) : Nat := if s.enabled (camPage p) then s.f (CAM.STREAM.MODE p) else 0

/-- A port receives (R296). -/
def State.camOn (s : State) (p : Nat) : Bool := s.domOn 6 && s.camMode p != 0

/-- The data type is YUV422 (R293, R306). -/
def State.yuvIn (s : State) (p : Nat) : Bool := s.f (CAM.STREAM.DT p) == 0x1E

/-- WIDTH and HEIGHT (R327). -/
def State.camWidth (s : State) (p : Nat) : Nat := s.f (CAM.GEOM.WIDTH p)
def State.camHeight (s : State) (p : Nat) : Nat := s.f (CAM.GEOM.HEIGHT p)

/-- Bits to shift a RAW pixel left by (R302). -/
def rawShift (dt : Nat) : Nat := 16 - (10 + 2 * (dt - 0x2B))

/-- CSI2_HS_ENTRY (R294): a lane that does not synchronise counts one SOT error. -/
def execCsi2HsEntry (port lane : Fin 4) (synced : Bool) (s : State) : Host.Outcome State Fault Refusal :=
  let p := port.val
  .next (if s.camOn p && lane.val ≤ s.f (CAM.PHY.LANES p) && !synced then (s.incF (CAM.ERR_A.SOT p)).event (camPage p) 3 else s)

/-- CSI2_DESKEW (R294). -/
def execCsi2Deskew (port : Fin 4) (s : State) : Host.Outcome State Fault Refusal :=
  .next (if s.camOn port.val then s.updPort port.val fun c => { c with deskewed := true } else s)

/-! ## Frames (R300, R301) -/

/-- The settings of a frame. -/
def State.asFrame (s : State) (f : CamFrame) : State := { s with regs := f.cfg }

/-- The last frame of a port replaced. -/
def CamPort.setLast (c : CamPort) (f : CamFrame) : CamPort := { c with frames := c.frames.dropLast ++ [f] }

/-- The frame in reception. -/
def CamPort.open? (c : CamPort) : Option CamFrame :=
  match c.frames.getLast? with
  | some f => if f.ended then none else some f
  | none => none

/-- The stamp of the row received last, or that of the frame start. -/
def CamFrame.lastStamp (f : CamFrame) : Nat :=
  match f.rows.reverse.find? fun r => !r.filled with
  | some r => r.stamp
  | none => f.start

/-- A filled row (R301). -/
def CamFrame.filledRow (f : CamFrame) (period : Nat) : CamRow := { stamp := f.lastStamp + period, filled := true }

/-- A line error counted. -/
def State.lineErr (s : State) (p : Nat) : State := (s.incF (CAM.ERR_B.LINE_ERR p)).event (camPage p) 2

/-- A lost line of the frame in reception: it is filled (R301). -/
def State.lostLine (s : State) (p : Nat) : State :=
  let s := s.lineErr p
  let c := s.port p
  match c.open? with
  | none => s
  | some f =>
    if f.rows.length < (s.asFrame f).camHeight p then
      s.updPort p fun c => c.setLast { f with rows := f.rows ++ [f.filledRow c.linePeriod] }
    else s

/-- Lines of a port that the stripe ring holds and the ISP has not processed (R298). -/
def CamPort.held (c : CamPort) : Nat :=
  c.frames.foldl (fun n f => n + ((f.rows.drop f.out).filter fun r => r.slot.isSome).length) 0

/-- Two pixels to a word of the stripe ring: RAW in the halves, YUV422 as four bytes (R298). -/
def packStripe (yuv : Bool) : List Nat → List Word36
  | a :: b :: c :: d :: l =>
    if yuv then w36 (a % 256 * 2 ^ 24 + b % 256 * 2 ^ 16 + c % 256 * 256 + d % 256) :: packStripe yuv l
    else w36 (a % 65536 * 2 ^ 18 + b % 65536) :: w36 (c % 65536 * 2 ^ 18 + d % 65536) :: packStripe yuv l
  | [a, b] => if yuv then [w36 (a % 256 * 2 ^ 24 + b % 256 * 2 ^ 16)] else [w36 (a % 65536 * 2 ^ 18 + b % 65536)]
  | [a, b, c] => if yuv then [w36 (a % 256 * 2 ^ 24 + b % 256 * 2 ^ 16 + c % 256 * 256)]
                 else [w36 (a % 65536 * 2 ^ 18 + b % 65536), w36 (c % 65536 * 2 ^ 18)]
  | [a] => [w36 (if yuv then a % 256 * 2 ^ 24 else a % 65536 * 2 ^ 18)]
  | [] => []

/-- The samples of a word of the stripe ring (R298). -/
def unpackStripe (yuv : Bool) (w : Word36) : List Nat :=
  let n := w.toNat
  if yuv then [n / 2 ^ 24 % 256, n / 2 ^ 16 % 256, n / 256 % 256, n % 256] else [n / 2 ^ 18 % 65536, n % 65536]

/-- Words of a line in the stripe ring (R298). -/
def State.stripeWords (s : State) (p : Nat) : Nat := divUp (s.camWidth p) 2

/-- C, the line capacity (R298). -/
def State.stripeLines (s : State) (p : Nat) : Nat := 65536 / s.stripeWords p

/-- An overflow of the crossing FIFO or the stripe ring (R298, R301). -/
def State.camOverflow (s : State) (p : Nat) : State :=
  ((s.incF (CAM.ERR_B.OVERFLOW p)).event (camPage p) 7).lostLine p

/-- A line of the frame in reception taken in (R298, R301). -/
def State.takeLine (s : State) (p : Nat) (f : CamFrame) (crcOk fifoFull : Bool) (payload : List Nat) : State :=
  let k := s.asFrame f
  let yuv := k.yuvIn p
  let w := k.camWidth p
  let per := if yuv then 2 else 1
  let have_ := payload.length / per
  let used := payload.take (per * w)
  let px := if yuv then used.map (· % 256) else used.map fun v => v * 2 ^ rawShift (k.f (CAM.STREAM.DT p)) % 65536
  let row : CamRow :=
    { stamp := s.timeNs, pad := decide (have_ < w), trunc := decide (w < have_), crc := !crcOk, count := min have_ w, samples := px }
  if !s.enabled 0x44 then s.lostLine p
  else if k.f (CAM.STREAM.MODE p) = 2 then
    let c := s.port p
    if k.stripeLines p ≤ c.held then s.camOverflow p else
    let slot := c.lines % k.stripeLines p
    let black : List Nat := if yuv then (List.replicate (w - have_) [0, 128]).flatten else List.replicate (w - have_) 0
    match s.moverWrite (4 + p) (k.f (CAM.STREAM.BANK p)) (slot * k.stripeWords p) (packStripe yuv (px ++ black)) with
    | (s, false) => s.camOverflow p
    | (s, true) =>
      let s := if row.pad || row.trunc then s.lineErr p else s
      s.updPort p fun c =>
        { c.setLast { f with rows := f.rows ++ [{ row with samples := [], slot := some slot }] } with lines := c.lines + 1 }
  else if fifoFull then s.camOverflow p
  else
    let s := if row.pad || row.trunc then s.lineErr p else s
    s.updPort p fun c => c.setLast { f with rows := f.rows ++ [row] }

/-- A long packet (R294, R295, R301). A YUV422 payload is given in the byte order Y0, U, Y1, V of R298. -/
def State.longPacket (s : State) (p vc dt : Nat) (ecc : HeaderEcc) (crcOk fifoFull : Bool) (payload : List Nat) : State :=
  if !s.camOn p then s else
  match ecc with
  | .uncorrectable => ((s.incF (CAM.ERR_A.ECC_UNC p)).event (camPage p) 3).lostLine p
  | _ =>
    let s := if ecc = .corrected then s.incF (CAM.ERR_A.ECC_CORR p) else s
    if vc ≠ s.f (CAM.STREAM.VC p) then s.incF (CAM.ERR_B.VC_DROP p)
    else if dt ≠ s.f (CAM.STREAM.DT p) then s.incF (CAM.ERR_B.DT_DROP p)
    else
      let s := if crcOk then s else (s.incF (CAM.ERR_A.CRC p)).event (camPage p) 3
      match (s.port p).open? with
      | none => s.lineErr p
      | some f =>
        if (s.asFrame f).camHeight p ≤ f.rows.length then
          (s.lineErr p).updPort p fun c => c.setLast { f with long := true }
        else if 1500 < s.f (CAM.PHY.RATE p) ∧ !(s.port p).deskewed then s.lostLine p
        else s.takeLine p f crcOk fifoFull payload

/-- CSI2_LONG_PACKET (R295). -/
def execCsi2LongPacket (port : Fin 4) (vc : Fin 16) (dt : BitVec 6) (ecc : HeaderEcc) (crcOk fifoFull : Bool)
    (payload : List (BitVec 16)) (s : State) : Host.Outcome State Fault Refusal :=
  .next (s.longPacket port.val vc.val dt.toNat ecc crcOk fifoFull (payload.map (·.toNat)))

/-- The stamps of a complete frame kept for prediction (R318). -/
def keepTimes (old : List (Option (Nat × Nat))) (n : Nat) (rows : List CamRow) : List (Option (Nat × Nat)) :=
  (List.range rows.length).map fun i =>
    match rows[i]? with
    | some r => if r.filled then nth old i none else some (n, r.stamp)
    | none => none

/-- The mean line period of a frame (R301). -/
def meanPeriod (rows : List CamRow) : Option Nat :=
  match rows.head?, rows.getLast? with
  | some a, some b => if rows.length < 2 then none else some ((b.stamp - a.stamp) / (rows.length - 1))
  | _, _ => none

/-- The frame in reception closed: missing lines are filled, the frame is tagged (R301). -/
def State.closeFrame (s : State) (p : Nat) : State :=
  match (s.port p).open? with
  | none => s
  | some f =>
    let h := (s.asFrame f).camHeight p
    let received := (f.rows.filter fun r => !r.filled).length
    let short := decide (f.rows.length < h)
    let fill := f.filledRow (s.port p).linePeriod
    let g := { f with rows := f.rows ++ List.replicate (h - f.rows.length) fill, ended := true, short := short }
    let s := s.updPort p fun c =>
      let c := c.setLast g
      if short then c else
      { c with rowTimes := keepTimes c.rowTimes f.number f.rows, linePeriod := (meanPeriod f.rows).getD c.linePeriod }
    let s := ((s.setB (CAM.LAST.SHORT p) short).setB (CAM.LAST.LONG p) f.long).setF (CAM.LAST.LINES p) received
    let s := if short then (s.incF (CAM.ERR_C.FRAME_SHORT p)).event (camPage p) 0 else s
    if f.long then (s.incF (CAM.ERR_C.FRAME_LONG p)).event (camPage p) 1 else s

/-- SHORT_FRAME_TIMEOUT (R301): no line for 2 ms after the last. -/
def execShortFrameTimeout (port : Fin 4) (s : State) : Host.Outcome State Fault Refusal :=
  let p := port.val
  .next (match (s.port p).open? with
    | some f => if f.rows.isEmpty ∨ (s.asFrame f).camHeight p ≤ f.rows.length then s else s.closeFrame p
    | none => s)

/-! ## Exposure relay and I2C (R311-R315) -/

/-- PENDING: an exposure is to be relayed, being relayed, or awaits its frame. -/
def State.markPending (s : State) (p : Nat) : State :=
  let c := s.port p
  s.setB (CAM.EGEN.PENDING p) (c.need || c.relay.isSome || !c.due.isEmpty)

/-- Address bytes of a transaction: DEV with the write bit, then REG (R312). -/
def i2cHead (dev reg : Nat) (reg16 : Bool) : List Nat := (dev * 2) :: ((if reg16 then [reg / 256 % 256] else []) ++ [reg % 256])

/-- The data bytes that SRC selects (R312). -/
def relayData (src exp gain const : Nat) : List Nat :=
  match src with
  | 0 => [exp / 256 % 256, exp % 256]
  | 1 => [gain / 256 % 16, gain % 256]
  | 2 => [exp / 256 % 256]
  | 3 => [exp % 256]
  | 4 => [gain / 256 % 16]
  | 5 => [gain % 256]
  | 6 => [const % 256]
  | _ => [const / 256 % 256, const % 256]

/-- The bytes of a script entry (R312). -/
def State.scriptBytes (s : State) (p k : Nat) (r : Relay) : List Nat :=
  i2cHead (s.f (CAM.SCRIPT.DEV p k)) (s.f (CAM.SCRIPT.REG p k)) (s.fb (CAM.SCRIPT.REG16 p k)) ++
    relayData (s.f (CAM.SCRIPT.SRC p k)) r.exp r.gain (s.f (CAM.SCRIPT_CONST.CONST p k))

/-- The bytes that a host transfer sends (R315). -/
def State.hostBytes (s : State) (p : Nat) : List Nat :=
  let dev := s.f (CAM.I2C_XFER.DEV p)
  let n := s.f (CAM.I2C_XFER.NBYTES_M1 p) + 1
  let head := i2cHead dev (s.f (CAM.I2C_XFER.REG p)) (s.fb (CAM.I2C_XFER.REG16 p))
  if s.fb (CAM.I2C_XFER.READ p) then head ++ [dev * 2 + 1]
  else head ++ (List.range n).map fun i => s.f (CAM.I2C_DATA.DATA p) / 256 ^ (n - 1 - i) % 256

/-- The frame of a number marked EXP_UNSURE, where it is already in reception (R313). -/
def CamFrame.markUnsure (n : Nat) (f : CamFrame) : CamFrame := if f.number = n then { f with unsure := true } else f

/-- A relay that has completed (R311, R313). -/
def State.relayDone (s : State) (p : Nat) (r : Relay) : State :=
  let late := r.frame < s.f (CAM.FRAME.FRAME p)
  let n := if late then r.frame + 1 else r.frame
  let l := s.f (CAM.RELAY.LAT p)
  let egen := (s.f (CAM.EGEN.EGEN_RELAYED p) + 1) % 256
  let s := s.setF (CAM.EGEN.EGEN_RELAYED p) egen
  let s := s.updPort p fun c => { c with
    relay := none
    due := c.due ++ [{ frame := n + l, egen := egen, exp := r.exp, gain := r.gain }]
    unsure := if late then c.unsure ++ [n + l - 1] else c.unsure
    frames := if late then c.frames.map (CamFrame.markUnsure (n + l - 1)) else c.frames }
  (s.event (camPage p) 8).eventIf late (camPage p) 4

/-- The device is I2C master on CAM_SCLp and CAM_SDAp: in READY and RUN; elsewhere the pins are released (R44). -/
def State.i2cMaster (s : State) : Bool := s.pwr.st == .ready || s.pwr.st == .run

/-- What the bus does next: a due relay goes first, then a waiting host transfer (R315, R326). Both wait while the pins are
released (R44). -/
def State.i2cNext (s : State) (p : Nat) : State :=
  if !s.i2cMaster then s else
  let c := s.port p
  let s :=
    if c.hostRuns then s else
    match c.relay with
    | some r =>
      if r.running then s else
      match r.left with
      | [] => s.relayDone p r
      | k :: _ => s.updPort p fun c => { c with relay := some { r with running := true }, i2c := s.scriptBytes p k r }
    | none => s
  let c := s.port p
  let s := if c.hostWaits && c.relay.isNone then
      s.updPort p fun c => { c with hostWaits := false, hostRuns := true, i2c := s.hostBytes p }
    else s
  s.markPending p

/-- A host transfer ends (R315, R327). -/
def State.hostDone (s : State) (p : Nat) (nack timeout : Bool) (data : Nat) : State :=
  let n := s.f (CAM.I2C_XFER.NBYTES_M1 p) + 1
  let s := if s.fb (CAM.I2C_XFER.READ p) && !nack && !timeout then s.setF (CAM.I2C_DATA.DATA p) (data % 256 ^ n) else s
  let s := (((s.setB (CAM.I2C_XFER.GO p) false).setB (CAM.I2C_STAT.BUSY p) false).setB (CAM.I2C_STAT.NACK p) nack).setB
    (CAM.I2C_STAT.TIMEOUT p) timeout
  let s := (s.setB (CAM.I2C_STAT.DONE p) true).updPort p fun c => { c with hostRuns := false }
  (s.event (camPage p) 6).eventIf (nack || timeout) (camPage p) 5

/-- The transaction on the bus ends (R312, R313). -/
def State.i2cDone (s : State) (p : Nat) (nack timeout : Bool) (data : Nat) : State :=
  let c := s.port p
  if c.hostRuns then (s.hostDone p nack timeout data).i2cNext p
  else
    match c.relay with
    | none => s
    | some r =>
      if !r.running then s
      else if nack || timeout then
        ((s.updPort p fun c => { c with relay := none, need := true }).event (camPage p) 5).i2cNext p
      else
        match r.left.drop 1 with
        | [] => (s.relayDone p r).i2cNext p
        | k :: l => s.updPort p fun c => { c with relay := some { r with left := k :: l }, i2c := s.scriptBytes p k r }

/-- I2C_TRANSACTION_DONE (R312, R315). -/
def execI2cTransactionDone (port : Fin 4) (ack : Bool) (data : BitVec 32) (s : State) : Host.Outcome State Fault Refusal :=
  .next (if s.domOn 6 then s.i2cDone port.val (!ack) false data.toNat else s)

/-- I2C_TIMEOUT (R312). -/
def execI2cTimeout (port : Fin 4) (s : State) : Host.Outcome State Fault Refusal :=
  .next (if s.domOn 6 then s.i2cDone port.val false true 0 else s)

/-- A write of CAM.I2C_XFER (R315, R327): with GO it starts a transfer, or is refused while one is busy. -/
def State.i2cXfer (s : State) (src p d : Nat) : State :=
  let busy := s.fb (CAM.I2C_STAT.BUSY p)
  if bitOf d 31 && busy then s.err 0x17 src (CAM.I2C_XFER p) else
  let s := s.setReg (CAM.I2C_XFER p) (BitVec.ofNat 32 (putBits d 31 1 (b2n (bitOf d 31 || busy))) &&& definedMask (CAM.I2C_XFER p))
  if !bitOf d 31 then s else
  let s := s.setReg (CAM.I2C_STAT p) 1
  (s.updPort p fun c => { c with hostWaits := true }).i2cNext p

/-- I2C_XFER_GO (R315). -/
def execI2cXferGo (src : Port) (port : Fin 4) (data : BitVec 32) (s : State) : Host.Outcome State Fault Refusal :=
  .next (s.i2cXfer (portSrc src) port.val data.toNat)

/-- M of R314: the zone means weighted by AE_W. -/
def State.aeMean (s : State) (p : Nat) (st : CamStats) : Nat :=
  let w := fun z => bitsOf (s.f (ISP.AE_W.AE_W p (z / 16))) (2 * (z % 16)) 2
  let all := (List.range 64).all fun z => w z == 0
  let u := fun z => if all then 1 else w z
  let mean := fun z => let g := nth st.grid z (0, 0); if g.1 = 0 then 0 else g.2 / g.1
  let sumW := (List.range 64).foldl (fun n z => n + u z) 0
  max 1 ((List.range 64).foldl (fun n z => n + u z * mean z) 0 / sumW)

/-- The EXP and GAIN that R314 computes, if it makes a change; `free` numbers the free value of GAIN where EXP is 0. -/
def State.autoExposure (s : State) (p free : Nat) (f : CamFrame) : Option (Nat × Nat) :=
  let m := (s.asFrame f).aeMean p f.stats
  let t := 256 * s.f (CAM.AE.TARGET p)
  let diff := if m ≤ t then t - m else m - t
  if 32 * diff < t then none else
  let c := s.port p
  let q := c.exp * c.gain
  let q := max (q / 2) (min (2 * q) (q * t / m))
  let exp := max (s.f (CAM.AE_LIM.EXP_MIN p)) (min (s.f (CAM.AE_LIM.EXP_MAX p)) (q / 256))
  let ratio := if exp = 0 then Config.freeNat free else q / exp
  some (exp, max 256 (min (s.f (CAM.AE.GAIN_MAX p)) ratio))

/-- EXP and GAIN written to the active settings and the shadow (R314). -/
def State.putExposure (s : State) (p exp gain : Nat) : State :=
  let a := CAM.EXP p
  let put := fun (w : Word) => (CAM.EXP.GAIN p).put ((CAM.EXP.EXP p).put w exp) gain
  (s.setReg a (put (s.reg a))).setShad a (put (s.shad a))

/-- The automatic exposure at a frame end (R314). -/
def State.autoAtEnd (s : State) (p : Nat) (f : CamFrame) : State :=
  let c := s.port p
  let k := s.asFrame f
  if !s.fb (CAM.AE.AUTO p) || c.need || c.relay.isSome || !c.due.isEmpty || f.short || f.long ||
      !k.fb (ISP.CTL.STATS_EN p) || f.out != f.rows.length then s
  else
    match s.autoExposure p s.free f with
    | none => s
    | some (exp, gain) =>
      ({ s with free := s.free + 1 }.putExposure p exp gain).updPort p fun c => { c with need := true }

/-- The vertical blanking begins: the relay of waiting values is due (R311). -/
def State.blanking (s : State) (p n : Nat) : State :=
  let c := s.port p
  if !c.need || c.relay.isSome then s else
  let left := filterRange (min 8 (s.f (CAM.RELAY.NENT p))) fun k => s.fb (CAM.SCRIPT.EN p k)
  let r : Relay := { frame := n, exp := s.f (CAM.EXP.EXP p), gain := s.f (CAM.EXP.GAIN p), left := left }
  (s.updPort p fun c => { c with need := false, relay := some r }).i2cNext p

/-- CSI2_FRAME_END (R301, R311, R314). -/
def execCsi2FrameEnd (port : Fin 4) (vc : Fin 16) (s : State) : Host.Outcome State Fault Refusal :=
  let p := port.val
  .next (
    if !s.camOn p || vc.val != s.f (CAM.STREAM.VC p) then s else
    let s := s.closeFrame p
    let n := s.f (CAM.FRAME.FRAME p)
    let s := match (s.port p).frames.find? fun f => f.number == n with
      | some f => s.autoAtEnd p f
      | none => s
    (s.blanking p n).markPending p)

/-- A commit that changed EXP or GAIN of a port: the values are to be relayed (R311). -/
def State.exposureChanged (s old : State) (p : Nat) : State :=
  if s.reg (CAM.EXP p) = old.reg (CAM.EXP p) then s
  else (s.updPort p fun c => { c with need := true }).markPending p

/-- Exposures that come into force with a frame (R311). -/
def State.egenAtStart (s : State) (p n : Nat) : State :=
  let c := s.port p
  let now := c.due.filter fun d => decide (d.frame ≤ n)
  match now.getLast? with
  | none => s
  | some d =>
    ((s.setF (CAM.EGEN.EGEN_IN_FORCE p) d.egen).updPort p fun c =>
      { c with due := c.due.filter (fun d => decide (n < d.frame)), exp := d.exp, gain := d.gain }).markPending p

/-- A frame begins on a port, after the commits that apply with it (R300, R301). -/
def State.frameBegins (s : State) (p : Nat) : State :=
  let s := s.setF (CAM.FRAME.FRAME p) (s.f (CAM.FRAME.FRAME p) + 1)
  let n := s.f (CAM.FRAME.FRAME p)
  let s := s.egenAtStart p n
  s.updPort p fun c =>
    let f : CamFrame :=
      { number := n, cfg := s.regs, gen := s.f CHIP.GEN.GLOBAL, egen := s.f (CAM.EGEN.EGEN_IN_FORCE p), exp := c.exp
        gain := c.gain, unsure := c.unsure.contains n, start := s.timeNs }
    { c with
      idle := false, frames := c.frames ++ [f], unsure := c.unsure.filter (fun u => decide (n < u))
      period := match c.started with
        | some t => if t ≤ s.timeNs then some (s.timeNs - t) else c.period
        | none => c.period
      started := some s.timeNs }

/-! ## Frame sync and counters (R310, R327) -/

/-- CAM_FSYNC_PULSE (R310): the pin's pulse begins. -/
def execCamFsyncPulse (port : Fin 4) (s : State) : Host.Outcome State Fault Refusal :=
  let p := port.val
  .next (if s.domOn 6 && s.enabled (camPage p) && s.fb (CAM.FSYNC.EN p) && (s.pwr.st == .ready || s.pwr.st == .run) then
    s.updPort p fun c => { c with fsync := some s.mono } else s)

/-- The level of CAM_FSYNCp (R44, R310). -/
def State.camFsync (s : State) (p : Nat) : Bool :=
  if s.domOn 6 && s.enabled (camPage p) && s.fb (CAM.FSYNC.EN p) && (s.pwr.st == .ready || s.pwr.st == .run) then
    let pulse := match (s.port p).fsync with
      | some t => decide (s.usSince t < max 1 (s.f (CAM.FSYNC.WIDTH p)))
      | none => false
    xor pulse (s.fb (CAM.FSYNC.POL p))
  else false

/-- A write of 1 to CAM.CNT_CLR (R327). -/
def State.camCntClr (s : State) (p : Nat) : State :=
  ((s.setReg (CAM.ERR_A p) 0).setReg (CAM.ERR_B p) 0).setReg (CAM.ERR_C p) 0

/-- CAM_CNT_CLR (R327). -/
def execCamCntClr (port : Fin 4) (s : State) : Host.Outcome State Fault Refusal := .next (s.camCntClr port.val)

/-- A port is idle, judged on the settings in force (R471). -/
def State.portIdle (s : State) (p : Nat) : Bool := !s.camOn p || (s.port p).idle

/-- The pins of a port are released (R44): a host transfer ends unreported, and a relay is due again. -/
def State.i2cRelease (s : State) (p : Nat) : State :=
  let c := s.port p
  let s := if c.hostRuns || c.hostWaits then (s.setB (CAM.I2C_XFER.GO p) false).setB (CAM.I2C_STAT.BUSY p) false else s
  s.updPort p fun c => { c with hostRuns := false, hostWaits := false, i2c := [], need := c.need || c.relay.isSome, relay := none }

/-- The pins of every port are released. -/
def State.i2cReleaseAll (s : State) : State := (List.range 4).foldl State.i2cRelease s

/-- The camera domain is lost. -/
def State.camLost (s : State) : State :=
  { s with cam := { s.cam with ports := s.cam.ports.map fun c =>
      { ({} : CamPort) with linePeriod := c.linePeriod, exp := c.exp, gain := c.gain, need := c.need || c.relay.isSome } } }

end Sys2Proof.Machine
end

