-- ==== Sys2Proof/Machine/Isp.lean ====
section
/-! DEFINITION. The image signal processor (spec/13): black level, defect pixels, demosaic, colour, gamma,
overlay, video packets and statistics. -/

namespace Sys2Proof.Machine

/-! ## Pixels of a frame (R302-R305) -/

/-- An index mirrored into 0 to n - 1 (R304). -/
def mirror (n : Nat) (i : Int) : Nat :=
  if i < 0 then (-i).toNat else if (n : Int) ≤ i then (2 * ((n : Int) - 1) - i).toNat else i.toNat

/-- A pixel was received: neither filled nor padded (R301). -/
def CamFrame.isReal (f : CamFrame) (x y : Nat) : Bool :=
  match f.rows[y]? with
  | some r => !r.filled && decide (x < r.count)
  | none => false

/-- A sample of the mosaic, black where none was received (R301). -/
def CamFrame.raw (f : CamFrame) (x y : Nat) : Nat :=
  match f.rows[y]? with
  | some r => if r.filled || decide (r.count ≤ x) then 0 else nth r.samples x 0
  | none => 0

/-- BL_q (R302, R328). -/
def State.blackLevel (k : State) (p q : Nat) : Nat := k.f (if q % 2 = 0 then ISP.BL.BL_LO p (q / 2) else ISP.BL.BL_HI p (q / 2))

/-- Black level removed (R302). -/
def State.levelled (k : State) (p : Nat) (f : CamFrame) (x y : Nat) : Nat :=
  let b := k.blackLevel p (2 * (y % 2) + x % 2)
  min 65535 ((f.raw x y - b) * 65536 / (65536 - b))

/-- The distance of same-colour neighbours (R303). -/
def State.colourStep (k : State) (p : Nat) : Int := if k.fb (CAM.FORMAT.MONO p) then 1 else 2

/-- A pixel is named in the defect table (R303). -/
def State.isDefect (k : State) (p x y : Nat) : Bool :=
  k.fb (ISP.CTL.DPC_STATIC p) && (List.range 128).any fun j =>
    k.fb (ISP.DEFECT.EN p j) && k.f (ISP.DEFECT.ROW p j) == y && k.f (ISP.DEFECT.COL p j) == x

/-- Static defect correction (R303). -/
def State.staticDpc (k : State) (p : Nat) (f : CamFrame) (x y : Nat) : Nat :=
  if k.isDefect p x y then
    let w := k.camWidth p
    (k.levelled p f (mirror w (x - k.colourStep p)) y + k.levelled p f (mirror w (x + k.colourStep p)) y) / 2
  else k.levelled p f x y

/-- A coordinate mirrored into the 5-wide window around a centre (R304). -/
def foldIn (c v : Int) : Int := if v < c - 2 then 2 * (c - 2) - v else if c + 2 < v then 2 * (c + 2) - v else v

/-- A row mirrored at the last row that has arrived when a line leaves (R299). -/
def foldBelow (last v : Int) : Int := if last < v then 2 * last - v else v

/-- The 8 same-colour neighbours (R303), of the rows up to `last`. -/
def State.neighbours (k : State) (p : Nat) (f : CamFrame) (last : Int) (x y : Nat) : List Nat :=
  let d := k.colourStep p
  [(-d, -d), (0, -d), (d, -d), (-d, 0), (d, 0), (-d, d), (0, d), (d, d)].map fun (o : Int × Int) =>
    k.staticDpc p f (mirror (k.camWidth p) (x + o.1)) (mirror (k.camHeight p) (foldBelow last (y + o.2)))

/-- The mosaic after defect correction, in the 5 × 5 window of a pixel with mirrored borders (R303, R304; DEDUCED from the
two-line delay of R299, log entry 109). -/
def State.mosaic (k : State) (p : Nat) (f : CamFrame) (c : Int × Int) (xi yi : Int) : Int :=
  let x := mirror (k.camWidth p) (foldIn c.1 xi)
  let y := mirror (k.camHeight p) (foldIn c.2 yi)
  let v := k.staticDpc p f x y
  if k.fb (ISP.CTL.DPC_DYN p) then
    let ns := k.neighbours p f (c.2 + 2) x y
    let hi := ns.foldl max 0
    let lo := ns.foldl min 65535
    let t := 16 * k.f (ISP.CTL.DYN_THR p)
    ((if hi + t < v then hi else if v + t < lo then lo else v : Nat) : Int)
  else (v : Int)

/-- The colour of a site: 0 red, 1 green, 2 blue (R302, R327). -/
def State.siteColour (k : State) (p : Nat) (xi yi : Int) : Nat :=
  let x := mirror (k.camWidth p) xi
  let y := mirror (k.camHeight p) yi
  let row := match k.f (CAM.FORMAT.CFA p) with
    | 0 => [0, 1, 1, 2]
    | 1 => [1, 0, 2, 1]
    | 2 => [1, 2, 0, 1]
    | _ => [2, 1, 1, 0]
  nth row (2 * (y % 2) + x % 2) 1

/-- An absolute value. -/
def absInt (v : Int) : Int := if v < 0 then -v else v

/-- Green at a site of the window around `c` (R304). -/
def State.greenAt (k : State) (p : Nat) (f : CamFrame) (c : Int × Int) (x y : Int) : Int :=
  let m := k.mosaic p f c
  if k.siteColour p x y = 1 then m x y else
  let c2 := 2 * m x y
  let lap := c2 - m (x - 2) y - m (x + 2) y
  let lapV := c2 - m x (y - 2) - m x (y + 2)
  let gH := absInt (m (x - 1) y - m (x + 1) y) + absInt lap
  let gV := absInt (m x (y - 1) - m x (y + 1)) + absInt lapV
  let eH := (m (x - 1) y + m (x + 1) y) / 2 + lap / 4
  let eV := (m x (y - 1) + m x (y + 1)) / 2 + lapV / 4
  if gH < gV then eH else if gV < gH then eV else (eH + eV) / 2

/-- Red or blue at a site, as a colour difference from the nearest sites of that colour (R304). -/
def State.colourAt (k : State) (p : Nat) (f : CamFrame) (col : Nat) (x y : Int) : Int :=
  let here := k.siteColour p x y
  let c : Int × Int := (x, y)
  let d := fun a b => k.mosaic p f c a b - k.greenAt p f c a b
  if here = col then k.mosaic p f c x y
  else
    let g := k.greenAt p f c x y
    if here = 1 then
      if k.siteColour p (x + 1) y = col then g + (d (x - 1) y + d (x + 1) y) / 2
      else g + (d x (y - 1) + d x (y + 1)) / 2
    else g + (d (x - 1) (y - 1) + d (x + 1) (y - 1) + d (x - 1) (y + 1) + d (x + 1) (y + 1)) / 4

/-- R, G and B of a pixel before white balance (R304). -/
def State.demosaic (k : State) (p : Nat) (f : CamFrame) (x y : Int) : List Int :=
  if k.fb (CAM.FORMAT.MONO p) then List.replicate 3 (k.mosaic p f (x, y) x y)
  else [k.colourAt p f 0 x y, k.greenAt p f (x, y) x y, k.colourAt p f 2 x y]

/-- A coefficient of the colour matrix (R305). -/
def State.matrixAt (k : State) (p i : Nat) : Int :=
  k.fi (match i with
    | 0 => ISP.M0.M p | 1 => ISP.M1.M p | 2 => ISP.M2.M p | 3 => ISP.M3.M p | 4 => ISP.M4.M p
    | 5 => ISP.M5.M p | 6 => ISP.M6.M p | 7 => ISP.M7.M p | _ => ISP.M8.M p)

/-- White balance, colour matrix and clipping (R305). -/
def State.linearRgb (k : State) (p : Nat) (rgb : List Int) : List Nat :=
  let gains := [k.f (ISP.GAIN_GR.GAIN_R p), k.f (ISP.GAIN_GR.GAIN_G p), k.f (ISP.GAIN_B.GAIN_B p)]
  let wb := (List.range 3).map fun i => nth rgb i 0 * (nth gains i 0 : Nat) / 4096
  (List.range 3).map fun r =>
    (clip 0 65535 (((List.range 3).foldl (fun n c => n + k.matrixAt p (3 * r + c) * nth wb c 0) 0) / 4096)).toNat

/-- Gamma (R305). -/
def State.gammaOf (k : State) (p v : Nat) : Nat :=
  let i := v / 1024
  let e := k.f (ISP.GAMMA.ENTRY p i)
  let span := if i = 63 then 1023 else 1024
  let e' := if i = 63 then 4095 else k.f (ISP.GAMMA.ENTRY p (i + 1))
  let num : Int := (e : Int) * span + ((e' : Int) - e) * (v - 1024 * i : Nat)
  min 255 ((2 * num + 16 * span) / (32 * span)).toNat

/-- Full-range BT.601 (R305): Y of a pixel, and U or V summed over `n` pixels. -/
def lumaOf (c : List Nat) : Nat := (299 * nth c 0 0 + 587 * nth c 1 0 + 114 * nth c 2 0 + 500) / 1000
def chromaU (cs : List (List Nat)) : Nat :=
  let sum : Int := cs.foldl (fun n c => n - 168736 * (nth c 0 0 : Nat) - 331264 * (nth c 1 0 : Nat) + 500000 * (nth c 2 0 : Nat)) 0
  (clip 0 255 ((2 * sum + 1000000 * cs.length) / (2000000 * cs.length) + 128)).toNat
def chromaV (cs : List (List Nat)) : Nat :=
  let sum : Int := cs.foldl (fun n c => n + 500000 * (nth c 0 0 : Nat) - 418688 * (nth c 1 0 : Nat) - 81312 * (nth c 2 0 : Nat)) 0
  (clip 0 255 ((2 * sum + 1000000 * cs.length) / (2000000 * cs.length) + 128)).toNat

/-! ## Overlay (R320) -/

/-- The overlay is drawn on a port's video (R320). -/
def State.overlayOn (s : State) (p : Nat) : Bool :=
  s.domOn 5 && s.enabled 0x3B && bitOf (s.f ZONE.OVL.PORTS) p

/-- The band of the raster cell that a pixel falls into, if it is to be blended (R320). -/
def State.bandAt (s : State) (p : Nat) (f : CamFrame) (x y : Nat) : Option Nat :=
  if !s.overlayOn p then none else
  match (s.port p).rasters.find? fun r => r.frame == f.number with
  | none => none
  | some r =>
    match r.cells.find? fun c => c.cell == y / 2 ^ r.dec * r.cols + x / 2 ^ r.dec with
    | none => none
    | some c =>
      match (List.range 16).find? fun b => decide (c.range < 2000 * s.f (ZONE.BAND.LIMIT b)) with
      | none => none
      | some b => some (s.f (ZONE.BAND.COLOUR b))

/-- A channel (0 R, 1 G, 2 B) of a COLOUR, RGB 5:6:5, widened to 8 bits (R320, R329). -/
def colourChannel (colour ch : Nat) : Nat :=
  match ch with
  | 0 => Config.widened 5 (bitsOf colour 11 5) % 256
  | 1 => Config.widened 6 (bitsOf colour 5 6) % 256
  | _ => Config.widened 5 (bitsOf colour 0 5) % 256

/-- A channel blended (R320). -/
def State.blend (s : State) (colour ch v : Nat) : Nat :=
  let a := s.f ZONE.OVL.ALPHA
  (a * colourChannel colour ch + (256 - a) * v) / 256

/-! ## Lines (R299, R307) -/

/-- The video pixels of a line in 8-bit RGB, with the overlay blended, and whether any was (R305, R320). -/
def State.rgbLine (s k : State) (p : Nat) (f : CamFrame) (y : Nat) (linear : List (List Nat)) : List (List Nat) × Bool :=
  let out := (List.range linear.length).map fun x =>
    let c := (nth linear x []).map (k.gammaOf p)
    match s.bandAt p f x y with
    | some b => ([s.blend b 0 (nth c 0 0), s.blend b 1 (nth c 1 0), s.blend b 2 (nth c 2 0)], true)
    | none => (c, false)
  (out.map (·.1), out.any (·.2))

/-- The YUV bytes of a line, Y0, U, Y1, V to a pair (R305). -/
def yuvBytes : List (List Nat) → List Nat
  | a :: b :: l => lumaOf a :: chromaU [a, b] :: lumaOf b :: chromaV [a, b] :: yuvBytes l
  | _ => []

/-- Bytes packed four to a word, the first most significant (R307). -/
def packBytes : List Nat → List Word36
  | a :: b :: c :: d :: l => w36 (a % 256 * 2 ^ 24 + b % 256 * 2 ^ 16 + c % 256 * 256 + d % 256) :: packBytes l
  | [a, b, c] => [w36 (a % 256 * 2 ^ 24 + b % 256 * 2 ^ 16 + c % 256 * 256)]
  | [a, b] => [w36 (a % 256 * 2 ^ 24 + b % 256 * 2 ^ 16)]
  | [a] => [w36 (a % 256 * 2 ^ 24)]
  | [] => []

/-- The bytes of a YUV422 line, black where nothing was received (R301, R306). A pixel pair that the overlay
touches is a free value: the spec states no conversion for it. -/
def State.yuvPass (s k : State) (p : Nat) (f : CamFrame) (y : Nat) : List Nat × Bool :=
  let r := (f.rows[y]?).getD { stamp := 0, filled := true }
  let out := (List.range (k.camWidth p)).map fun x =>
    let ok := !r.filled && decide (x < r.count)
    let raw := if ok then [nth r.samples (2 * x) 0, nth r.samples (2 * x + 1) 0] else [0, 128]
    if (s.bandAt p f x y).isSome then
      ([Config.freeNat (s.free + 2 * x) % 256, Config.freeNat (s.free + 2 * x + 1) % 256], true)
    else (raw, false)
  (out.flatMap (·.1), out.any (·.2))

/-- FLAGS of a video line (R307). -/
def lineFlags (f : CamFrame) (r : CamRow) (overlay : Bool) : Nat :=
  b2n r.filled * 2 ^ 12 + b2n r.pad * 2 ^ 11 + b2n r.trunc * 2 ^ 10 + b2n r.crc * 2 ^ 9 + b2n overlay * 2 ^ 8 +
  b2n (r.filled && f.short) * 2 ^ 7 + b2n f.unsure * 2 ^ 6

/-- The payload of a video line (R307). -/
def videoPayload (p : Nat) (f : CamFrame) (y : Nat) (r : CamRow) (overlay : Bool) (bytes : List Nat) : List Word36 :=
  [w36 (p * 2 ^ 34 + y % 2 ^ 13 * 2 ^ 21 + f.egen % 256 * 2 ^ 13 + lineFlags f r overlay), w36 (f.number % 2 ^ 32),
   w36 (f.gen % 65536)] ++ packBytes bytes

/-- The grid zone of a pixel (R308). -/
def gridZone (w h x y : Nat) : Nat := 8 * (y * 8 / h) + x * 8 / w

/-- A pixel added to the statistics: its luma, the three channels before white balance for the AWB sums, and whether a channel
reaches SAT_THR after the colour matrix (R306, R308). -/
def CamStats.add (t : CamStats) (thr zone luma : Nat) (awb : Option (List Nat)) (hot : Bool) : CamStats :=
  let t := { t with
    grid := updNth t.grid zone fun g => (g.1 + 1, g.2 + luma)
    bins := updNth t.bins (luma / 1024) fun n => satAdd 24 n 1
    sat := if hot then t.sat + 1 else t.sat }
  match awb with
  | some [r, g, b] => if r < thr ∧ g < thr ∧ b < thr then { t with sumR := t.sumR + r, sumG := t.sumG + g, sumB := t.sumB + b } else t
  | _ => t

/-- The statistics of a line (R301, R308). -/
def State.lineStats (k : State) (p : Nat) (f : CamFrame) (y : Nat) (pre : List (List Int)) (linear : List (List Nat)) : CamStats :=
  let w := k.camWidth p
  let thr := k.f (ISP.SAT_THR.SAT_THR p)
  (List.range w).foldl (fun t x =>
    if !f.isReal x y then t else
    let zone := gridZone w (k.camHeight p) x y
    if k.yuvIn p then
      let v := 256 * nth ((f.rows[y]?).getD { stamp := 0 }).samples (2 * x) 0
      t.add thr zone v none (decide (thr ≤ v))
    else
      let c := nth linear x []
      let a := (nth pre x []).map Int.toNat
      t.add thr zone ((77 * nth c 0 0 + 150 * nth c 1 0 + 29 * nth c 2 0) / 256) (some a) (c.any fun v => decide (thr ≤ v))) f.stats

/-- Rows past a line that its pixels depend on (R299, R303, R304): two for the demosaic window. -/
def State.ispReach (k : State) (p : Nat) : Nat :=
  if k.yuvIn p then 0
  else if k.fb (CAM.FORMAT.MONO p) then b2n (k.fb (ISP.CTL.DPC_DYN p))
  else 2

/-- The frame of a port that the ISP is at, when its next line can be processed (R299). -/
def State.ispReady (s : State) (p : Nat) : Option CamFrame :=
  if !s.enabled 0x44 || !s.domOn 6 then none else
  match (s.port p).frames.find? fun f => decide (f.out < (s.asFrame f).camHeight p) with
  | none => none
  | some f =>
    let k := s.asFrame f
    if min (k.camHeight p) (f.out + 1 + k.ispReach p) ≤ f.rows.length &&
       (k.f (CAM.STREAM.MODE p) != 2 || s.moverOk (4 + p) (k.f (CAM.STREAM.BANK p))) then some f else none

/-- The port that the ISP serves next: the in-line port first, then round-robin (R299). -/
def State.ispPick (s : State) : Option Nat :=
  match (List.range 4).find? fun p => match s.ispReady p with
    | some f => (s.asFrame f).f (CAM.STREAM.MODE p) == 1
    | none => false with
  | some p => some p
  | none => ((List.range 4).map fun i => (s.cam.served + 1 + i) % 4).find? fun p => (s.ispReady p).isSome

/-- A frame of a port replaced by its number. -/
def State.putFrame (s : State) (p : Nat) (f : CamFrame) : State :=
  s.updPort p fun c => { c with frames := c.frames.map fun g => if g.number = f.number then f else g }

/-- The stamp of a lost line: that of the received line before it and the mean line period (R301). -/
def CamFrame.lostStamp (f : CamFrame) (y period : Nat) : Nat := { f with rows := f.rows.take y }.lastStamp + period

/-- The ISP reads a row from the stripe ring; one with an uncorrectable word is a lost line (R301, R353). -/
def State.fetchRow (s : State) (p : Nat) (f : CamFrame) (y : Nat) : State × CamFrame :=
  match f.rows[y]? with
  | none => (s, f)
  | some r =>
    match r.slot with
    | none => (s, f)
    | some slot =>
      if !r.samples.isEmpty || r.filled then (s, f) else
      let k := s.asFrame f
      let (s, ws) := s.moverRead (k.f (CAM.STREAM.BANK p)) (slot * k.stripeWords p) (k.stripeWords p)
      match ws with
      | some ws => (s, { f with rows := setNth f.rows y { r with samples := ws.flatMap (unpackStripe (k.yuvIn p)) } })
      | none => (s.lineErr p, { f with rows := setNth f.rows y { r with filled := true, stamp := f.lostStamp y (s.port p).linePeriod } })

/-- Samples that no later line needs are dropped. -/
def CamFrame.forget (f : CamFrame) : CamFrame :=
  { f with rows := (List.range f.rows.length).map fun i =>
      let r := nth f.rows i { stamp := 0 }
      if i + 6 < f.out then { r with samples := [] } else r }

/-- A frame that something still waits for: the last one, one in reception, in the ISP, or with statistics to send. -/
def State.frameInUse (s : State) (p : Nat) (f : CamFrame) : Bool :=
  let stats := (s.asFrame f).fb (ISP.CTL.STATS_EN p)
  (f.number == s.f (CAM.FRAME.FRAME p)) || !f.ended || f.out != f.rows.length || (!f.statsSent && stats)

/-- Frames that nothing waits for leave. -/
def State.dropFrames (s : State) (p : Nat) : State :=
  s.updPort p fun c => { c with frames := c.frames.filter (s.frameInUse p) }

/-- The ISP finishes the next line of a port (R299-R308, R320). -/
def State.ispLine (s : State) (p : Nat) (f : CamFrame) : State :=
  let y := f.out
  let (s, f) := (List.range ((s.asFrame f).ispReach p + 1)).foldl (fun (s, f) i => s.fetchRow p f (y + i)) (s, f)
  let k := s.asFrame f
  let yuv := k.yuvIn p
  let r := (f.rows[y]?).getD { stamp := 0 }
  let fmt := k.f (ISP.CTL.OUT_FMT p)
  let pre := if yuv then [] else (List.range (k.camWidth p)).map fun (x : Nat) => k.demosaic p f x y
  let linear := pre.map (k.linearRgb p)
  let (bytes, overlay) :=
    if yuv then s.yuvPass k p f y
    else
      let (px, o) := s.rgbLine k p f y linear
      (if fmt = 0 then yuvBytes px else px.flatten, o)
  let stats := if k.fb (ISP.CTL.STATS_EN p) then k.lineStats p f y pre linear else f.stats
  let s := if yuv && overlay then { s with free := s.free + 2 * k.camWidth p } else s
  let s := if fmt = 2 then s else
    s.sendPacket (if fmt = 0 then 0x28 else 0x29) p f.gen r.stamp (videoPayload p f y r overlay bytes)
  let served := if k.f (CAM.STREAM.MODE p) = 2 then p else s.cam.served
  (({ s with cam := { s.cam with served := served } }.putFrame p ({ f with out := y + 1, stats := stats }).forget)).dropFrames p

/-- ISP_LINE_DONE (R299). -/
def execIspLineDone (s : State) : Host.Outcome State Fault Refusal :=
  .next (match s.ispPick with
    | none => s
    | some p => match s.ispReady p with
      | some f => s.ispLine p f
      | none => s)

/-! ## Statistics (R308, R309) -/

/-- The payload of a statistics packet (R309). -/
def CamFrame.statsPayload (f : CamFrame) (p : Nat) : List Word36 :=
  let filled := (f.rows.filter (·.filled)).length
  let t := f.stats
  let wide := fun n => [w36 (n / 2 ^ 36 % 2 ^ 36), w36 (n % 2 ^ 36)]
  [w36 (p * 2 ^ 34 + b2n f.short * 2 ^ 33 + b2n f.long * 2 ^ 32 + f.gen % 65536 * 65536 + f.egen % 256 * 256 + b2n f.unsure * 128),
   w36 (f.number % 2 ^ 32), w36 ((f.rows.length - filled) % 65536 * 65536 + filled % 65536),
   w36 (f.gain % 4096 * 65536 + f.exp % 65536)] ++
  t.grid.map (fun g => w36 ((if g.1 = 0 then 0 else g.2 / g.1) % 65536)) ++ t.bins.map (fun n => w36 n) ++
  wide t.sumR ++ wide t.sumG ++ wide t.sumB ++ [w36 (t.sat % 2 ^ 32)]

/-- STATS_PACKET (R309): the ISP has processed the frame's last line. PEAK, a matter of timing, takes a free value. -/
def execStatsPacket (port : Fin 4) (s : State) : Host.Outcome State Fault Refusal :=
  let p := port.val
  .next (
    if !s.enabled 0x44 || !s.domOn 6 then s else
    match (s.port p).frames.find? fun f =>
        f.ended && f.out == f.rows.length && !f.statsSent && (s.asFrame f).fb (ISP.CTL.STATS_EN p) with
    | none => s
    | some f =>
      let stamp := match f.rows.head? with
        | some r => r.stamp
        | none => f.start
      let s := s.sendPacket 0x2B p f.gen stamp (f.statsPayload p)
      let s := { s with free := s.free + 1 }.setF ISP.LOAD.PEAK (Config.freeNat s.free % 101)
      ((s.putFrame p { f with statsSent := true }).event 0x44 0).dropFrames p)

/-- ISP.LOAD.INLINE: the in-line port, 4 for none (R328). -/
def State.inlinePort (s : State) : Nat := ((List.range 4).find? fun p => s.camMode p == 1).getD 4

end Sys2Proof.Machine
end

