-- ==== Sys2Proof/Machine/Hist.lean ====
section
/-! DEFINITION. Coarse histograms and tricks (spec/09): accumulation, peak tracker, trick placement, buffer swap,
readout, dumps, the raw-event dump and drained commits. -/

namespace Sys2Proof.Machine

/-! ## Hands and settings -/

/-- The settings of the hand of a hand count (R26, R236). -/
def State.asHand (s : State) (n : Nat) : State :=
  match s.handOf n with
  | some h => s.asOf h
  | none => s

/-- The open hand of a channel in its slice. -/
def State.hch (s : State) (c : Nat) : HistCh := nth s.hist.chans c {}

/-- The open hand of a channel replaced. -/
def State.setHch (s : State) (c : Nat) (x : HistCh) : State :=
  { s with hist := { s.hist with chans := setNth s.hist.chans c x } }

/-- W, the coarse bin width in LSB (R221). -/
def State.binW (s : State) : Nat := if s.fb HIST.MODE.BIN then 256 else 128

/-- w, the fine bin width in LSB (R226). -/
def State.fineW (s : State) : Nat := 4 * 2 ^ min 2 (s.f HIST.MODE.FINE)

/-- The first coarse bin of a channel's gate (R226). -/
def State.gateFirst (s : State) (c : Nat) : Nat := s.f (TDC.GATE_START.VALUE (c / 48) (c % 48)) / s.binW

/-- The coarse bin behind the gate (R226). -/
def State.gateLast (s : State) (c : Nat) : Nat := divUp (s.f (TDC.GATE_END.VALUE (c / 48) (c % 48))) s.binW

/-- GB, the coarse bins in the gate (R226). -/
def State.gateBins (s : State) (c : Nat) : Nat := s.gateLast c - s.gateFirst c

/-- Tricks per channel (R235). -/
def State.trickCount (s : State) : Nat := s.f HIST.MODE.TRICKS + 1

/-- Channels of the map: a hand of the channel's group has this many opening slots and slots. -/
def Hand.phase (h : Hand) (slot : Nat) : Bool := slot < h.openSlots

/-! ## Slice memory (R219-R221) -/

/-- The address of a coarse word (R219). -/
def coarseAddr (c u k : Nat) : Nat := 0xB00000 + c / 12 * 0x6C00 + u % 2 * 0x3600 + c % 12 * 0x400 + k

/-- The address of a fine word of a trick (R219). -/
def fineAddr (c u q j : Nat) : Nat := 0xB00000 + c / 12 * 0x6C00 + u % 2 * 0x3600 + 0x3000 + c % 12 * 0x80 + q * 0x20 + j

/-- A bin of the word at an address: even bins in [17:0], odd ones in [35:18] (R21). -/
def State.bin (s : State) (a i : Nat) : Nat := s.rdN a (18 * (i % 2)) 18

/-- A coarse bin. -/
def State.coarse (s : State) (c u b : Nat) : Nat := s.bin (coarseAddr c u (b / 2)) b

/-- A fine bin. -/
def State.fineBin (s : State) (c u q i : Nat) : Nat := s.bin (fineAddr c u q (i / 2)) i

/-- A bin counts (R21): at 0x3_FFFF it stays and sets the flag of its slice. Answers the count it reaches. -/
def State.countBin (s : State) (slice a i : Nat) : State × Nat :=
  let v := s.bin a i
  if v = 0x3FFFF then
    ((s.setF HIST.SAT.SLICE (putBits (s.f HIST.SAT.SLICE) slice 1 1)).event 0x38 0, v)
  else (s.wrN a (18 * (i % 2)) 18 (v + 1), v + 1)

/-! ## Peak tracker (R224) -/

/-- Bins apart. -/
def dist (a b : Nat) : Nat := if a ≤ b then b - a else a - b

/-- The candidate with the lowest b that satisfies a test. -/
def firstCand (l : List Cand) (p : Cand → Bool) : Option Cand :=
  (l.filter p).foldl (fun (m : Option Cand) x => match m with
    | some y => if x.b < y.b then some x else m
    | none => some x) none

/-- A candidate of the list replaced. -/
def replCand (l : List Cand) (old new : Cand) : List Cand := l.map fun x => if x.b = old.b then new else x

/-- A neighbour hit recorded. -/
def Cand.neighbour (y : Cand) (x c : Nat) : Cand := if x < y.b then { y with cm := c } else { y with cp := c }

/-- A candidate moved to a neighbour that has overtaken it. -/
def Cand.moved (y : Cand) (x c : Nat) : Cand :=
  if x < y.b then { b := x, cm := 0, c0 := c, cp := y.c0 } else { b := x, cm := y.c0, c0 := c, cp := 0 }

/-- The smallest c0 of a list, the highest b among equals. -/
def weakest (l : List Cand) : Option Cand :=
  l.foldl (fun (m : Option Cand) x => match m with
    | some y => if x.c0 < y.c0 ∨ (x.c0 = y.c0 ∧ y.b < x.b) then some x else m
    | none => some x) none

/-- The tracker acts on coarse bin `x` raised to count `c` (R224). -/
def trackCand (l : List Cand) (x c : Nat) : List Cand :=
  let new : Cand := { b := x, cm := 0, c0 := c, cp := 0 }
  match firstCand l (fun y => y.b == x) with
  | some y => replCand l y { y with c0 := c }
  | none =>
    match firstCand l (fun y => dist x y.b == 1 && c ≤ y.c0) with
    | some y => replCand l y (y.neighbour x c)
    | none =>
      match firstCand l (fun y => dist x y.b == 1) with
      | some y => replCand l y (y.moved x c)
      | none =>
        if l.any (fun y => dist x y.b == 2) then l
        else if l.length < 8 then l ++ [new]
        else match weakest l with
          | some y => if y.c0 < c then replCand l y new else l
          | none => l

/-! ## Trick placement (R226) -/

/-- δ of R226 in 1/64 bin: rounded to the nearest, a half up, then clipped to ±0.5. -/
def delta64 (cm c0 cp : Nat) : Int :=
  let den : Int := ((cm + c0 + cp : Nat) : Int)
  if den = 0 then 0 else clip (-32) 32 ((128 * ((cp : Int) - cm) + den) / (2 * den))

/-- The centre of a candidate, LSB (R226): (b + 0.5 + δ) W. -/
def Cand.centre (y : Cand) (w : Nat) : Int := ((128 * y.b + 64 : Nat) + 2 * delta64 y.cm y.c0 y.cp) * w / 128

/-- T0 of a candidate (R226). -/
def trickStart (centre : Int) (w fw : Nat) (shift : Int) : Nat :=
  let t := (centre - 32 * fw) / fw * fw + shift * fw
  (clip 0 (((2048 * w : Nat) : Int) - 64 * fw) t).toNat

/-- Two tricks overlap. -/
def overlaps (fw a b : Nat) : Bool := a < b + 64 * fw && b < a + 64 * fw

/-- The qualified candidates, largest c0 first, then lowest b (R226). -/
def State.qualified (s : State) (c : Nat) (x : HistCh) : List Cand :=
  let q := x.cands.filter fun y =>
    decide (max 1 (s.f HIST.PLACE.PLACE_MIN) ≤ y.c0) &&
    decide (s.f HIST.PLACE.RATIO * x.totalOpen ≤ 16 * y.c0 * s.gateBins c)
  sortBy (fun a b => if a.c0 ≠ b.c0 then b.c0 < a.c0 else a.b < b.b) q

/-- The tricks of a channel, in order of placement (R226). -/
def State.placeTricks (s : State) (c : Nat) (x : HistCh) : List Nat :=
  (s.qualified c x).foldl (fun ts y =>
    if s.trickCount ≤ ts.length then ts else
    let t := trickStart (y.centre s.binW) s.binW s.fineW (s.fi HIST.PLACE.SHIFT)
    if ts.any (overlaps s.fineW t) then ts else ts ++ [t]) []

/-- Placement begins on the marker of slot OPEN - 1 (R225): not in other modes, not when OPEN is S_eff, and not where the switch
of a drained commit did not precede that slot (R234). -/
def State.beginPlacement (s : State) (h : Hand) (c : Nat) : State :=
  let k := s.asHand h.count
  let x := s.hch c
  let late := s.deal.drain.contains (c / 12) || h.noTricks.contains (k.groupOf (c / 6))
  if k.f HIST.MODE.MODE ≠ 1 ∨ h.openSlots = h.sEff ∨ late then s else
  let ts := k.placeTricks c x
  let s := if (k.qualified c x).isEmpty then s.incF HIST.LATE.NO_TRICK else s
  s.setHch c { x with tricks := ts, placing := true, tots := ts.map fun _ => {} }

/-- TRICK_PLACEMENT_DONE (R225): the tricks of the channel are live, `fclk` FCLK after the gate close. -/
def execTrickPlacementDone (channel : Fin 384) (fclk : Nat) (s : State) : Host.Outcome State Fault Refusal :=
  let x := s.hch channel.val
  if !x.placing ∨ x.placed then .next s
  else .next ((s.setHch channel.val { x with placed := true }).maxF HIST.PLACE_MAX.MAX fclk)

/-- A fire command of a trick shot as a channel's tricks see it (R227): it feeds them when the placement of its hand is
complete, and is counted as late otherwise. -/
def State.feedTricks (s : State) (c : Nat) (sh : Shot) : State :=
  let hand := match s.deal.cur with
    | some h => h.count
    | none => 0
  if sh.opening ∨ s.f HIST.MODE.MODE ≠ 1 ∨ !(s.chan c).armedSlots.contains (hand, sh.slot) then s else
  let x := s.hch c
  if x.placed && x.count == hand then s.setHch c { x with fed := x.fed ++ [sh.slot] }
  else (s.incF HIST.LATE.TRICK_LATE).event 0x38 1

/-! ## Accumulation (R221, R227, R233) -/

/-- The fine bin of an event in the first trick that holds it. -/
def fineHit (ts : List Nat) (fw t : Nat) : Option (Nat × Nat) :=
  ((List.range ts.length).find? fun q => nth ts q 0 ≤ t && t < nth ts q 0 + 64 * fw).map fun q => (q, (t - nth ts q 0) / fw)

/-- An event accumulated in its channel's open buffer (R221, R224, R227, R252). -/
def State.accumulate (s : State) (c : Nat) (w : Word36) (tot : Nat) : State :=
  let x := s.hch c
  let k := s.asHand x.count
  let t := bitsOf w.toNat 0 22
  let b := t / k.binW
  let u := x.count
  let (s, n) := s.countBin (c / 12) (coarseAddr c u (b / 2)) b
  let op := match s.handOf x.count with
    | some h => h.phase x.slot
    | none => true
  let x := { x with
    cands := trackCand x.cands b n, total := x.total + 1, totalOpen := if op then x.totalOpen + 1 else x.totalOpen }
  if x.fed.contains x.slot then
    match fineHit x.tricks k.fineW t with
    | some (q, i) =>
      let (s, _) := s.countBin (c / 12) (fineAddr c u q (i / 2)) i
      let hi := b2n (decide (k.f PNT.SAT.SAT_TOT ≤ tot))
      s.setHch c { x with tots := updNth x.tots q fun y => { n := y.n + 1, sum := y.sum + tot, hi := y.hi + hi } }
    | none => s.setHch c x
  else s.setHch c x

/-- A word written to the raw-event dump (R233), with the settings `k` of its hand. -/
def State.rawWrite (s k : State) (v : Word36) : State :=
  if s.fb HIST.RAW_STAT.FULL then s.incF HIST.RAW_DROP.COUNT else
  let b := k.f HIST.RAW.BANK
  let p := s.f HIST.RAW_STAT.PTR
  match s.moverWrite 2 b p [v] with
  | (s, false) => s.incF HIST.RAW_DROP.COUNT
  | (s, true) =>
    let s := s.setF HIST.RAW_STAT.PTR (p + 1)
    if p = 0xFFFF ∧ k.fb HIST.RAW.STOP then (s.setB HIST.RAW_STAT.FULL true).event 0x38 3 else s

/-- The hand marker word of the raw-event dump (R233). -/
def rawMarker (h : Hand) : Word36 := w36 (0x1FE * 2 ^ 27 + h.az % 2048 * 2 ^ 16 + h.gen % 16 * 2 ^ 12 + h.count % 4096)

/-- A word of the dump stream that belongs to a hand: the hand's marker goes first (R233). -/
def State.rawEvent (s : State) (h : Hand) (v : Word36) : State :=
  let s := if s.hist.rawHand = some h.count then s
    else { s with hist := { s.hist with rawHand := some h.count } }.rawWrite (s.asOf h) (rawMarker h)
  s.rawWrite (s.asOf h) v

/-- An event of a slice retired (R221, R233, R86): nothing is accumulated outside RUN (R220), and an event of the dump whose
hand is gone counts as dropped. -/
def State.retireEvent (s : State) (slice c : Nat) (w : Word36) (tot : Nat) : State :=
  let x := s.hch c
  let k := s.asHand x.count
  if !k.enabled 0x38 then s
  else if k.f HIST.MODE.MODE = 2 then
    if k.f HIST.RAW.SLICE = slice then
      match s.handOf x.count with
      | some h => s.rawEvent h w
      | none => s.incF HIST.RAW_DROP.COUNT
    else s
  else if s.pwr.st = .run then s.accumulate c w tot
  else s

/-- SLICE_EVENT_RETIRE (R221): the slice's oldest item is an event. -/
def execSliceEventRetire (slice : Fin 32) (s : State) : Host.Outcome State Fault Refusal :=
  match s.fifo slice.val with
  | (c, .event w tot _) :: q => .next ((s.setFifo slice.val q).retireEvent slice.val c w tot)
  | _ => .next s

/-! ## Swap, readout and dumps (R223, R228, R231, R232) -/

/-- Channels selected for dumps in a hand (R232). -/
def State.dumpChannels (s : State) (count : Nat) : List Nat :=
  match s.f HIST.DUMP.SEL with
  | 1 => [0, 1].flatMap fun i =>
      (if s.fb (HIST.DUMP_CH.EN_A i) then [s.f (HIST.DUMP_CH.CH_A i)] else []) ++
      (if s.fb (HIST.DUMP_CH.EN_B i) then [s.f (HIST.DUMP_CH.CH_B i)] else [])
  | 2 => [count % 384]
  | _ => []

/-- The dumps of a channel not read in time are cut (R232). -/
def State.cutDumps (s : State) (c : Nat) : State :=
  let n := (s.hist.dumps.filter fun d => d.channel == c).length
  if n = 0 then s else
  ({ s with hist := { s.hist with dumps := s.hist.dumps.filter fun d => d.channel != c } }.addF HIST.DUMP_CNT.CUT n).event 0x38 2

/-- The closed hands of a channel. -/
def State.closedOf (s : State) (c : Nat) : List Closed := nth s.hist.closed c []

/-- The closed hands of a channel replaced. -/
def State.setClosed (s : State) (c : Nat) (l : List Closed) : State :=
  { s with hist := { s.hist with closed := setNth s.hist.closed c l } }

/-- The oldest closed hand of a channel that is at a stage, and the list with it replaced. -/
def stageGet (l : List Closed) (st : Stage) : Option Closed := l.find? fun x => x.stage == st

/-- A closed hand replaced by its hand count. -/
def stagePut (l : List Closed) (x : Closed) : List Closed := l.map fun y => if y.count = x.count then x else y

/-- What an open hand delivers when it closes (R231); none in raw-event dump mode, where no point is built. -/
def HistCh.close (x : HistCh) (off : Bool) : Closed :=
  { count := x.count, stage := if off then .read else .swapped, off := off, openShots := x.openShots, trickShots := x.trickShots
    fineShots := x.fed.length, totalOpen := x.totalOpen, total := x.total, cands := x.cands
    tricks := if x.placed then x.tricks else [], tots := x.tots }

/-- The tile-shots of a channel's tile in a hand: opening and trick phase (R115). -/
def Hand.tileShots (h : Hand) (c : Nat) : Nat × Nat :=
  match h.tiles.find? fun t => t.tile / 128 == c / 6 with
  | some t => (t.spentO, t.spentT)
  | none => (0, 0)

/-- A record with the tile-shots of its hand. -/
def Closed.withShots (x : Closed) (n : Nat × Nat) : Closed := { x with tileOpen := n.1, tileTrick := n.2 }

/-- A channel swaps (R220, R223): its open hand closes, the other buffer opens flash-cleared, and the dumps of the
closed hand wait. Outside RUN no hand follows, and the buffers keep their contents (R220). -/
def State.swap (s : State) (c : Nat) : State :=
  let x := s.hch c
  let k := s.asHand x.count
  let off := !k.enabled 0x38
  let s := s.cutDumps c
  let s := if s.pwr.st = .run then s.flashClear (2 * c + (x.count + 1) % 2) else s
  let s := s.setHch c { count := x.count + 1 }
  if k.f HIST.MODE.MODE = 2 ∧ !off then s else
  match s.handOf x.count with
  | none => s.setClosed c (s.closedOf c ++ [x.close off])
  | some h =>
    let y := (x.close off).withShots (h.tileShots c)
    let s := s.setClosed c (s.closedOf c ++ [y])
    if off ∨ !(k.dumpChannels x.count).contains c then s else
    let dump (t : Bool) : Dump := { channel := c, trick := t, hand := h, record := y }
    { s with hist := { s.hist with dumps := s.hist.dumps ++
        (if k.fb HIST.DUMP.COARSE_EN then [dump false] else []) ++ (if k.fb HIST.DUMP.TRICK_EN then [dump true] else []) } }

/-- A marker of a channel retired (R222, R225): its shot is counted, the slot moves on, placement begins behind the
last opening slot, and the last slot swaps the buffers. -/
def State.retireMarker (s : State) (c : Nat) (armed : Bool) : State :=
  let x := s.hch c
  match s.handOf x.count with
  | none => s
  | some h =>
    let op := h.phase x.slot
    let n := b2n armed
    let s := s.setHch c { x with
      slot := x.slot + 1, openShots := if op then x.openShots + n else x.openShots
      trickShots := if op then x.trickShots else x.trickShots + n }
    let s := if x.slot + 1 = h.openSlots then s.beginPlacement h c else s
    if h.sEff ≤ x.slot + 1 then s.swap c else s

/-- The coarse bins of the automatic readout of a candidate (R228). -/
def readoutBins (b : Nat) : List Nat :=
  (List.range 16).filterMap fun i =>
    let k := 2 * (b / 2) + i
    if 6 ≤ k ∧ k - 6 ≤ 2047 then some (k - 6) else none

/-- A number put into a rising list without repeats. -/
def insertNew (x : Nat) (l : List Nat) : List Nat := if l.contains x then l else insertBy (fun a b => decide (a < b)) x l

/-- AUTO_READOUT_DONE (R228, R231): the readout of the channel's closed buffer ends. An uncorrectable word marks
the record (R402). -/
def State.readout (s : State) (c : Nat) : State :=
  match stageGet (s.closedOf c) .swapped with
  | none => s
  | some x =>
    let bs := x.cands.foldl (fun l y => (readoutBins y.b).foldl (fun l b => insertNew b l) l) []
    let u := x.count
    let as := bs.map (fun b => coarseAddr c u (b / 2)) ++
      (List.range x.tricks.length).flatMap fun q => (List.range 32).map fun j => fineAddr c u q j
    let x := { x with
      stage := .read
      bad := as.any s.eccBad
      bins := bs.map fun b => (b, s.coarse c u b)
      fine := (List.range x.tricks.length).map fun q => (List.range 64).map fun i => s.fineBin c u q i }
    s.setClosed c (stagePut (s.closedOf c) x)

/-- AUTO_READOUT_DONE (R228). -/
def execAutoReadoutDone (channel : Fin 384) (s : State) : Host.Outcome State Fault Refusal := .next (s.readout channel.val)

/-- The payload of a dump (R232). -/
def State.dumpPayload (s k : State) (h : Hand) (c : Nat) (x : Closed) (trick : Bool) : List Word36 :=
  let w0 := c * 2 ^ 27 + h.az % 2048 * 2 ^ 16 + h.gen % 16 * 2 ^ 12 + k.f HIST.MODE.BIN * 2 ^ 11 + k.f HIST.MODE.FINE * 2 ^ 9 +
    x.tricks.length * 2 ^ 6
  let w1 := x.totalOpen % 2 ^ 18 * 2 ^ 18 + x.openShots * 2 ^ 12 + x.fineShots * 2 ^ 6 + x.trickShots
  let body := if trick then
      (List.range x.tricks.length).flatMap fun q => w36 (nth x.tricks q 0) :: (List.range 32).map fun j => s.rd (fineAddr c x.count q j)
    else (List.range 1024).map fun i => s.rd (coarseAddr c x.count i)
  w36 w0 :: w36 w1 :: body

/-- DUMP_READ_DONE (R232): behind the automatic readout; a packet that the link does not take is counted. -/
def State.dumpRead (s : State) (c : Nat) (trick : Bool) : State :=
  match s.hist.dumps.find? fun d => d.channel == c && d.trick == trick with
  | none => s
  | some d =>
    if (s.closedOf c).any fun x => x.count == d.record.count && x.stage == .swapped then s else
    let s := { s with hist := { s.hist with dumps := s.hist.dumps.filter (· != d) } }
    let (s, ok) := s.enqueue (if trick then 0x19 else 0x18) 0 d.hand.gen d.hand.stamp
      (s.dumpPayload (s.asOf d.hand) d.hand c d.record trick)
    if ok then s else ((s.incF TAB.DROP.D).event 0x48 8).incF HIST.DUMP_CNT.DROP

/-- DUMP_READ_DONE (R232). -/
def execDumpReadDone (channel : Fin 384) (trick : Bool) (s : State) : Host.Outcome State Fault Refusal :=
  .next (s.dumpRead channel.val trick)

/-! ## Hand boundaries, RUN and drained commits (R205, R220, R223, R234) -/

/-- A channel has placed no marker in a hand that has ended: its markers go on with the next one. -/
def Chan.leaves (x : Chan) (n : Nat) : Chan := if x.markHand = n then { x with markHand := n + 1, marks := 0 } else x

/-- The summaries of the ended hand pass to the slices, and the channels start the next hand (R205); disabled
channels of a hand that ran swap (R223), and every channel where the hand had no slot. -/
def State.summaries (s : State) (ended : Option Nat) : State :=
  let empty := ended.any fun n => (s.handOf n).any fun h => h.sEff == 0
  (List.range 384).foldl (fun s c =>
    let x := s.chan c
    let on := s.fb (TDC.STAT.ON_KITTY (c / 48) (c % 48))
    let s := s.setChan c { x with
      sum := { disabled := s.chanOff c, cal := s.chanCal c, subst := on } }
    match ended with
    | none => s
    | some n =>
      let l := nth s.hist.sums c []
      let s := { s with hist := { s.hist with sums := setNth s.hist.sums c (l ++ [(n, x.sum)]) } }
      if x.sum.disabled || empty then
        let s := s.updChan c (Chan.leaves · n)
        if (s.hch c).count == n then s.swap c else s
      else s) s

/-- A channel's markers begin with hand 0. -/
def Chan.restarted (x : Chan) : Chan := { x with markHand := 0, marks := 0, armedSlots := [] }

/-- RUN begins (R220): the hand count restarts at 0, buffer 0 is open and flash-cleared, nothing is in flight. -/
def State.histRun (s : State) : State :=
  let s := ((List.range 384).foldl (fun s c => s.flashClear (2 * c)) s).setB HIST.STATUS.DRAINING false
  { s with
    ret := { s.ret with chans := s.ret.chans.map Chan.restarted }
    hist := { s.hist with
      next := 0, fifos := List.replicate 32 [], chans := List.replicate 384 {}, closed := List.replicate 384 []
      sums := List.replicate 384 [], dumps := [], rawHand := none, bidTiles := [], held := List.replicate 384 none, attached := [] }
    deal := { s.deal with past := [], drain := [] } }

/-- The channels of a slice. -/
def sliceChans (k : Nat) : List Nat := (List.range 12).map (12 * k + ·)

/-- The hand in progress when the layout is switched places no tricks in the groups whose slot OPEN - 1 has been arbitrated
(R234). -/
def Hand.switched (h : Hand) : Hand := { h with noTricks := filterRange 4 fun g => decide (h.openSlots ≤ nth h.slots g 0) }

/-- The layout of the drained slices is switched (R234 step 2): unread dumps are cut, both buffers cleared, the
trackers emptied. -/
def State.drainSwitch (s : State) (ns : Nat) : State :=
  if s.deal.drain.isEmpty then s else
  let s := (s.deal.drain.flatMap sliceChans).foldl (fun s c =>
    let s := ((s.cutDumps c).flashClear (2 * c)).flashClear (2 * c + 1)
    let x := s.hch c
    s.setHch c { x with cands := [], totalOpen := 0, total := 0, tricks := [], placing := false, placed := false, fed := [], tots := [] }) s
  let s := { s with deal := { s.deal with drain := [], cur := s.deal.cur.map Hand.switched } }.setB HIST.STATUS.DRAINING false
  ((s.incF HIST.DRAIN.COUNT).setF HIST.DRAIN.LAST (satTo 16 ns)).event 0x38 4

/-- The affected slices have swapped out of the hand before and have been read out (R234). -/
def State.drained (s : State) : Bool :=
  (s.deal.drain.flatMap sliceChans).all fun c =>
    s.deal.cur.all (fun h => !h.snapped || decide (h.count ≤ (s.hch c).count)) && (stageGet (s.closedOf c) .swapped).isNone

/-- A hand ends before the switch of its drained commit (R234): the switch is made at its end. -/
def State.drainEnds (s : State) : State :=
  match s.deal.cur with
  | some h => s.drainSwitch (s.timeNs - h.stamp)
  | none => s

/-- DRAIN_SWITCH (R234): once the readout of the hand before has ended, `darkNs` after the boundary. -/
def execDrainSwitch (darkNs : Nat) (s : State) : Host.Outcome State Fault Refusal :=
  if s.drained then .next (s.drainSwitch darkNs) else .next s

/-- A write of 1 to HIST.CNT_CLR (R235). -/
def State.histCntClr (s : State) : State :=
  [HIST.LATE, HIST.DUMP_CNT, HIST.RAW_DROP, HIST.PLACE_MAX, HIST.DRAIN].foldl (fun s a => s.setReg a 0) s

/-- HIST_CNT_CLR (R235). -/
def execHistCntClr (s : State) : Host.Outcome State Fault Refusal := .next s.histCntClr

end Sys2Proof.Machine
end

