-- ==== Sys2Proof/Machine/Reject.lean ====
section
/-! DEFINITION. Rejection of sun, weather and other lidars (spec/10): background, threshold, burst correlation, the
volumetric test, bloom, and the outcome per return. -/

namespace Sys2Proof.Machine

/-- The integer square root by bits from `n` bits on: r grows by 2^k while its square stays at or below v. -/
def sqrtBits (v : Nat) : Nat → Nat → Nat
  | 0, r => r
  | n + 1, r => if (r + 2 ^ n) * (r + 2 ^ n) ≤ v then sqrtBits v n (r + 2 ^ n) else sqrtBits v n r

/-- The integer square root. -/
def isqrt (v : Nat) : Nat := sqrtBits v (v.log2 / 2 + 1) 0

/-! ## Background (R238-R240) -/

/-- The counts of a summary as its words carry them, saturated (R205). -/
def Summary.sat (m : Summary) : Summary :=
  { m with pre := satTo 18 m.pre, preTime := satTo 18 m.preTime, post := satTo 18 m.post, postTime := satTo 18 m.postTime
           pileup := satTo 16 m.pileup, armed := satTo 6 m.armed, armxSkip := satTo 6 m.armxSkip }

/-- TDC_LOST of a summary (R205). -/
def Summary.lost (m : Summary) : Bool := m.lostMasked || m.lostHard

/-- N, the shots of a channel hand (R238). -/
def Closed.shots (x : Closed) : Nat := x.openShots + x.trickShots

/-- ρ, 1/65,536 events per TCLK (R238); 0 when the windows have no length. -/
def Summary.rho (m : Summary) : Nat := 65536 * (m.pre + m.post) / (m.preTime + m.postTime)

/-- λ_out, when the windows have a length (R238). -/
def lambdaOut (m : Summary) (w n : Nat) : Option Nat :=
  if m.preTime + m.postTime = 0 then none else some (m.rho * (w / 128) * n / 256)

/-- The readout bins inside the gate (R239). -/
def State.gateReadout (s : State) (c : Nat) (x : Closed) : List (Nat × Nat) :=
  x.bins.filter fun e => s.gateFirst c ≤ e.1 && e.1 < s.gateLast c

/-- λ_in, when enough of the gate lies outside the readout (R239). -/
def State.lambdaIn (s : State) (c : Nat) (x : Closed) : Option Nat :=
  let r := s.gateReadout c x
  let rest := s.gateBins c - r.length
  if rest ≤ 16 then none else some (256 * (x.total - r.foldl (fun n e => n + e.2) 0) / rest)

/-- λ_c with its source: 0 out-of-gate, 1 in-gate, 2 none (R239). -/
def chooseLambda (src : Nat) (out inn : Option Nat) : Nat × Nat :=
  match out, inn with
  | none, none => (0, 2)
  | some a, none => (a, 0)
  | none, some b => (b, 1)
  | some a, some b =>
    match src with
    | 0 => (a, 0)
    | 1 => (b, 1)
    | _ => if a < b then (b, 1) else (a, 0)

/-- LOSS (R240). -/
def lossOf (rho dead : Nat) : Nat := min 255 (rho * dead * 5 / 1024)

/-- The background of a channel hand put into its record (R238-R240). -/
def State.background (s : State) (c : Nat) (m : Summary) (x : Closed) : Closed × Nat :=
  let out := lambdaOut m s.binW x.shots
  let (l, src) := chooseLambda (s.f REJ.BG.BG_SRC) out (s.lambdaIn c x)
  let lf := if src = 2 then 0 else if src = 1 then l * s.fineW / s.binW else m.rho * s.fineW * x.fineShots / 32768
  let loss := lossOf m.rho (s.deadNs c)
  ({ x with lambdaC := l, lambdaF := lf, bgNone := src == 2, loss := loss, sun := decide (s.f REJ.SUN.SUN_THR ≤ loss) }, src)

/-! ## Threshold and correlation (R241-R244) -/

/-- A corrected count, 1/256. -/
def corrected (n lam : Nat) : Int := 256 * (n : Int) - lam

/-- The threshold of R241. -/
def State.passes (s : State) (c0 lam : Nat) : Bool :=
  lam + s.f REJ.THR.K * isqrt lam + 256 * max 1 (s.f REJ.THR.ABS_MIN) ≤ 256 * c0

/-- I1 + ... + Im of a group, TCLK (R242). -/
def State.burstSum (s : State) (g m : Nat) : Nat :=
  (if 1 ≤ m then s.f (SHUF.BURST.I1 g) else 0) + (if 2 ≤ m then s.f (SHUF.BURST.I2 g) else 0) +
    (if 3 ≤ m then s.f (SHUF.BURST.I3 g) else 0)

/-- Image m of a primary at bin b is testable (R242). -/
def State.testable (s : State) (c b m : Nat) : Bool :=
  let i := s.burstSum (s.groupOf (c / 6)) m
  10 * s.deadNs c ≤ 8 * i && b + 128 * i / s.binW + 1 < s.gateLast c

/-- The image m of a primary among the candidates: not an image yet, within a bin of its place, and of a fitting
corrected count (R243). -/
def State.findImage (s : State) (c lam : Nat) (cs : List Cand) (images : List (Nat × Nat × Nat)) (p : Cand) (m : Nat) :
    Option Cand :=
  let d := p.b + 128 * s.burstSum (s.groupOf (c / 6)) m / s.binW
  firstCand cs fun x =>
    x.b != p.b && !images.any (·.1 == x.b) && dist x.b d ≤ 1 &&
    s.f REJ.CORR.IMG_LO * corrected p.c0 lam ≤ 16 * corrected x.c0 lam &&
    16 * corrected x.c0 lam ≤ s.f REJ.CORR.IMG_HI * corrected p.c0 lam

/-- The correlation test (R243): the images as (bin, primary's bin, m), and the bins of SUSPECT primaries. -/
def State.correlate (s : State) (c lam : Nat) (cands : List Cand) : List (Nat × Nat × Nat) × List Nat :=
  let n := s.f (SHUF.BURST.PULSES (s.groupOf (c / 6)))
  if !s.fb REJ.CORR.CORR_EN ∨ n = 0 then ([], []) else
  let cs := sortBy (fun a b => decide (a.b < b.b)) cands
  cs.foldl (fun (images, bad) p =>
    if images.any (·.1 == p.b) then (images, bad) else
    let (images, missing) := (List.range n).foldl (fun (im, miss) i =>
      let m := i + 1
      if s.testable c p.b m then
        match s.findImage c lam cs im p m with
        | some x => (im ++ [(x.b, p.b, m)], miss)
        | none => (im, miss + 1)
      else (im, miss)) (images, 0)
    (images, if s.f REJ.CORR.MISS_MAX < missing then bad ++ [p.b] else bad)) (([] : List (Nat × Nat × Nat)), ([] : List Nat))

/-- The trick whose span holds a centre (R244). -/
def State.trickAt (s : State) (x : Closed) (y : Cand) : Option Nat :=
  (List.range x.tricks.length).find? fun q =>
    let t0 : Int := nth x.tricks q 0
    t0 ≤ y.centre s.binW && y.centre s.binW < t0 + 64 * s.fineW

/-- The trick and FSHIFT of a return (R244): its own centre first, then those of its images in order. -/
def State.fineOf (s : State) (c : Nat) (x : Closed) (images : List (Nat × Nat × Nat)) (p : Cand) : Option Nat × Nat :=
  match s.trickAt x p with
  | some q => (some q, 0)
  | none =>
    ((List.range 3).findSome? fun i =>
      (images.find? fun e => e.2.1 == p.b && e.2.2 == i + 1).bind fun e =>
        (x.cands.find? fun y => y.b == e.1).bind fun y =>
          (s.trickAt x y).map fun q => (some q, 128 * s.burstSum (s.groupOf (c / 6)) (i + 1))).getD (none, 0)

/-! ## The volumetric test (R245) -/

/-- The count of a readout bin, none outside the readout of a candidate. -/
def Closed.binOf (x : Closed) (b k : Nat) : Option Nat :=
  if (readoutBins b).contains k then (x.bins.find? (·.1 == k)).map (·.2) else none

/-- Consecutive readout bins from a candidate outwards whose corrected count is at least half the corrected c0. -/
def Closed.run (x : Closed) (b lam : Nat) (half : Int) (up : Bool) : Nat → Nat → Nat
  | 0, _ => 0
  | n + 1, d =>
    if !up ∧ b < d then 0 else
    match x.binOf b (if up then b + d else b - d) with
    | some v => if half ≤ 2 * corrected v lam then x.run b lam half up n (d + 1) + 1 else 0
    | none => 0

/-- WIDTH (R245). -/
def Closed.width (x : Closed) (b lam : Nat) (c0 : Int) : Nat := 1 + x.run b lam c0 true 16 1 + x.run b lam c0 false 16 1

/-- The primary is volumetric (R245); the hit fraction is compared exactly. -/
def State.volumetric (s : State) (x : Closed) (b : Nat) (c0 : Int) : Bool :=
  s.fb REJ.VOL.VOL_EN &&
  (s.f REJ.VOL.VOL_WIDTH ≤ x.width b x.lambdaC c0 ||
   (b ≤ s.f REJ.VOL.VOL_NEAR && 16 * c0 < 256 * (s.f REJ.VOL.VOL_HIT * x.shots : Nat)))

/-! ## A channel hand (R237-R245) -/

/-- Counts handed on (R241): corrected or not, 1/256. -/
def State.handOn (s : State) (n lam : Nat) : Int := if s.fb REJ.BG.SUBTRACT then corrected n lam else 256 * (n : Int)

/-- The readout bins of a primary with their counts as handed on (R248). -/
def State.handBins (s : State) (x : Closed) (b : Nat) : List (Nat × Int) :=
  (x.bins.filter fun e => (readoutBins b).contains e.1).map fun e => (e.1, s.handOn e.2 x.lambdaC)

/-- A primary that passes the threshold, before the bloom pass. -/
def State.primary (s : State) (c : Nat) (x : Closed) (images : List (Nat × Nat × Nat)) (bad : List Nat) (p : Cand) : Echo :=
  let (q, shift) := s.fineOf c x images p
  let co := corrected p.c0 x.lambdaC
  { b := p.b, cm := s.handOn p.cm x.lambdaC, c0 := s.handOn p.c0 x.lambdaC, cp := s.handOn p.cp x.lambdaC, corr := co
    suspect := bad.contains p.b, volumetric := s.volumetric x p.b co, cls := 0, trick := q, fshift := shift
    fine := match q with
      | some i => (nth x.fine i []).map fun v => s.handOn v x.lambdaF
      | none => []
    bins := s.handBins x p.b, width := x.width p.b x.lambdaC co, hit := (16 * co, 256 * x.shots) }

/-- The summary of a channel for a hand count. -/
def State.sumOf (s : State) (c n : Nat) : Option Summary :=
  ((nth s.hist.sums c []).find? fun e => e.1 == n).map fun e => e.2.sat

/-- A closed channel hand through background, correlation, threshold and the volumetric test, with its counts:
images, below, suspect, volumetric, and the source of λ_c. -/
def State.rejectHand (s : State) (c : Nat) (m : Summary) (x : Closed) : Closed × Nat × Nat × Nat × Nat × Nat :=
  let (x, src) := s.background c m x
  let none_ := m.disabled || x.off || !s.enabled 0x39
  let cands := if none_ then [] else sortBy (fun a b => decide (a.b < b.b)) x.cands
  let (images, bad) := s.correlate c x.lambdaC cands
  let prim := cands.filter fun y => !images.any (·.1 == y.b)
  let ok := prim.filter fun y => s.passes y.c0 x.lambdaC
  let es := ok.map (s.primary c x images bad)
  ({ x with stage := .rejected, echoes := es }, images.length, prim.length - ok.length,
   (es.filter (·.suspect)).length, (es.filter (·.volumetric)).length, src)

/-- A rejection of a channel (R237): once its readout and its summary are there. -/
def State.reject (s : State) (c : Nat) : State :=
  match stageGet (s.closedOf c) .read with
  | none => s
  | some x =>
    match s.sumOf c x.count with
    | none => s
    | some m =>
      let (x, im, below, sus, vol, src) := (s.asHand x.count).rejectHand c m x
      let s := s.setClosed c (stagePut (s.closedOf c) x)
      let s := ((s.addF REJ.CNT_A.IMAGES im).addF REJ.CNT_A.BELOW below).addF REJ.CNT_B.VOLUMETRIC vol
      let s := if sus = 0 then s else (s.addF REJ.CNT_B.SUSPECT sus).event 0x39 1
      let s := if x.sun then (s.incF REJ.SUN_CNT.COUNT).event 0x39 0 else s
      let w : Word := BitVec.ofNat 32 (src * 2 ^ 30 + satTo 14 x.lambdaC * 2 ^ 16 + x.loss * 2 ^ 8)
      { s with hist := { s.hist with bg := Cells.set (fun _ => 0) s.hist.bg c w } }

/-- REJECT_CHANNEL (R237). -/
def execRejectChannel (channel : Fin 384) (s : State) : Host.Outcome State Fault Refusal := .next (s.reject channel.val)

/-! ## Bloom and the outcome (R246, R247) -/

/-- The rejected channel hand of a neighbour for a hand count. -/
def State.neighbourHand (s : State) (c n : Nat) : Option Closed :=
  (s.closedOf c).find? fun x => x.count == n && x.stage != .swapped && x.stage != .read

/-- The channels within the bloom span of a channel (R246). -/
def State.bloomSpan (s : State) (c : Nat) : List Nat :=
  let n := max 1 (s.f REJ.BLOOM.SPAN)
  (List.range (2 * n + 1)).filterMap fun i =>
    if n ≤ c + i ∧ c + i - n < 384 ∧ i ≠ n then some (c + i - n) else none

/-- A primary is a bloom source: HIT at SRC or above, compared exactly (R246). -/
def State.bloomSource (s : State) (x : Closed) (e : Echo) : Bool :=
  256 * (s.f REJ.BLOOM.SRC * x.shots : Nat) ≤ 16 * e.corr

/-- A primary is a bloom victim (R246): the strongest source near it is far stronger. -/
def State.bloomVictim (s : State) (c : Nat) (x : Closed) (e : Echo) : Bool :=
  if !s.fb REJ.BLOOM.BLOOM_EN || s.bloomSource x e then false else
  let near := (s.bloomSpan c).flatMap fun d =>
    match s.neighbourHand d x.count with
    | some y => (y.echoes.filter fun g => s.bloomSource y g && dist g.b e.b ≤ 1).map (·.corr)
    | none => []
  match near with
  | [] => false
  | _ => 16 * e.corr ≤ s.f REJ.BLOOM.RATIO * near.foldl max 0

/-- The class of a return (R247). -/
def classOf (e : Echo) (victim : Bool) : Nat := if e.suspect then 2 else if victim then 4 else if e.volumetric then 1 else 0

/-- A return of a class is kept (R247). -/
def State.keeps (s : State) (cls : Nat) : Bool :=
  match cls with
  | 1 => s.fb REJ.OUT.VOL_KEEP
  | 2 => s.fb REJ.OUT.SUSPECT_KEEP
  | 4 => s.fb REJ.OUT.BLOOM_KEEP
  | _ => true

/-- The neighbours within the span have been processed (R246). -/
def State.bloomReady (s : State) (c n : Nat) : Bool :=
  let k := s.asHand n
  !k.fb REJ.BLOOM.BLOOM_EN || (k.bloomSpan c).all fun d => (s.neighbourHand d n).isSome

/-- Every channel has delivered a hand to the point builder (R237). -/
def State.allDelivered (s : State) (n : Nat) : Bool :=
  s.hist.closed.all fun l => l.any fun x => x.count == n && (x.stage == .delivered || x.stage == .built)

/-- The bloom pass of a channel (R246, R247): its returns pass to the point builder in order of b. The primaries
that its neighbours still compare with stay in `echoes` by their own record. -/
def State.bloom (s : State) (c fclk : Nat) : State :=
  match stageGet (s.closedOf c) .rejected with
  | none => s
  | some x =>
    if !s.bloomReady c x.count then s else
    let k := s.asHand x.count
    let es := x.echoes.map fun e => ({ e with cls := classOf e (State.bloomVictim { k with hist := s.hist } c x e) }, State.bloomVictim { k with hist := s.hist } c x e)
    let victims := (es.filter (·.2)).length
    let s := if victims = 0 then s else (s.addF REJ.CNT_C.BLOOM victims).event 0x39 2
    let keep := (es.map (·.1)).filter fun e => k.keeps e.cls
    let out := (sortBy (fun a b => if a.corr ≠ b.corr then decide (b.corr < a.corr) else decide (a.b < b.b)) keep).take (k.f REJ.OUT.MAX_ECHO + 1)
    let passed := sortBy (fun a b => decide (a.b < b.b)) out
    let s := s.addF REJ.CNT_C.ECHO_DROP (es.length - passed.length)
    let s := s.setClosed c (stagePut (s.closedOf c) { x with stage := .delivered, passed := passed })
    let w := (Cells.get (fun _ => 0) s.hist.bg c).toNat
    let s := { s with hist := { s.hist with bg := Cells.set (fun _ => 0) s.hist.bg c (BitVec.ofNat 32 (putBits w 0 3 passed.length)) } }
    if s.allDelivered x.count then s.maxF REJ.LAT.MAX fclk else s

/-- BLOOM_PASS (R246): `fclk` is the time from the last readout of the hand, taken when the pass delivers the last
channel. -/
def execBloomPass (channel : Fin 384) (fclk : Nat) (s : State) : Host.Outcome State Fault Refusal :=
  .next (s.bloom channel.val fclk)

/-- A write of 1 to REJ.CNT_CLR (R249). -/
def State.rejCntClr (s : State) : State :=
  [REJ.CNT_A, REJ.CNT_B, REJ.CNT_C, REJ.SUN_CNT, REJ.LAT].foldl (fun s a => s.setReg a 0) s

/-- REJ_CNT_CLR (R249). -/
def execRejCntClr (s : State) : Host.Outcome State Fault Refusal := .next s.rejCntClr

end Sys2Proof.Machine
end

