-- ==== Sys2Proof/Machine/Points.lean ====
section
/-! DEFINITION. Points (spec/11): echo time, walk, range, class, intensity, confidence, flags, records, bids. -/

namespace Sys2Proof.Machine

/-! ## Temperatures (R257) -/

/-- The mean of the on-die sensors that are not excluded, 1/16 °C, rounded to the nearest. -/
def State.dieMean (s : State) : Int :=
  let ks := (List.range 8).filter fun k => !bitOf (s.f HK.SUSPECT.DIE) k
  if ks.isEmpty then 0 else roundDiv (ks.foldl (fun n k => n + s.fi (HK.SLOT.VALUE (48 + k))) 0) ks.length

/-- T_die and T_las, 1/16 °C, and whether T_las had to be replaced (R257). -/
def State.pointTemps (s : State) : (Int × Int) × Bool :=
  let k := s.f PNT.TEMP.DIE_SRC
  let die := if 8 ≤ k ∨ bitOf (s.f HK.SUSPECT.DIE) k then s.dieMean else s.fi (HK.SLOT.VALUE (48 + k))
  let n := s.f PNT.TEMP.LAS_SRC
  let bad := bitOf (s.f HK.SUSPECT.TH_TD) n
  ((die, if bad then s.fi PNT.TEMP.T_REF else s.fi (HK.SLOT.VALUE (9 + 2 * n))), bad)

/-! ## Echo time (R253-R255), 1/256 LSB -/

/-- The fine bin of largest count, the lowest among equals. -/
def peakBin (l : List Int) : Nat :=
  ((List.range l.length).foldl (fun (m : Nat) i => if nth l m 0 < nth l i 0 then i else m) 0)

/-- The centroid of R253: the sum of (2k + 1) a and the sum of a. -/
def State.centroid (s : State) (l : List Int) : Int × Int :=
  let p := peakBin l
  let n := s.f PNT.OUT.CENT_HALF
  (List.range (2 * n + 1)).foldl (fun (acc : Int × Int) i =>
    if n ≤ p + i ∧ p + i - n ≤ 63 then
      let k := p + i - n
      let a := max 0 (nth l k 0)
      (acc.1 + (2 * k + 1 : Nat) * a, acc.2 + a)
    else acc) (0, 0)

/-- The fine time of a return, when it has fine data (R253). -/
def State.fineTime (s : State) (x : Closed) (e : Echo) : Option Int :=
  match e.trick with
  | none => none
  | some q =>
    let (m, n) := s.centroid e.fine
    if x.fineShots = 0 ∨ n ≤ 0 then none
    else some (256 * (nth x.tricks q 0 : Int) + 256 * (s.fineW : Int) * m / (2 * n) - 256 * (e.fshift : Int))

/-- The coarse time of a return (R254), rounded down to 1/256 LSB. -/
def State.coarseTime (s : State) (e : Echo) : Int :=
  let w : Int := s.binW
  let den := e.cm + e.c0 + e.cp
  let num := e.cp - e.cm
  let mid := 128 * (2 * e.b + 1 : Nat) * w
  if den ≤ 0 then mid
  else if den ≤ 2 * num then mid + 128 * w
  else if 2 * num ≤ -den then mid - 128 * w
  else mid + 256 * w * num / den

/-- The TOT summary of a return's trick, when it has one (R252). -/
def Closed.totOf (x : Closed) (e : Echo) : Option Tot :=
  (e.trick.bind fun q => x.tots[q]?).filter fun t => 0 < t.n

/-- The walk correction, 1/256 LSB (R255). -/
def State.walk (s : State) (c : Nat) (t : Tot) : Int :=
  let g := s.f (AFE.CFG.GAIN (s.srcOf c / 48) (s.srcOf c % 48))
  let m := t.sum / t.n
  let k := min 15 (m / 64)
  let at_ (i : Nat) : Int := s.fi (PNT.WALK.WALK (16 * g + i))
  if k = 15 then 256 * at_ 15 else 256 * at_ k + 4 * (at_ (k + 1) - at_ k) * ((m : Int) - 64 * k)

/-- The corrected time without OFS_c, rounded down to 1/256 LSB (R256, R431). -/
def State.uncalibrated (s : State) (h : Hand) (c : Nat) (tw : Int) : Int :=
  let k := c / 48
  let tref := s.fi PNT.TEMP.T_REF
  let d := s.fi (PNT.TC.TC_DIE k) * (h.temps.1 - tref) + s.fi (PNT.TC.TC_LAS k) * (h.temps.2 - tref)
  (16 * (tw - 256 * s.fi PNT.OFS_G.OFS_G) - d) / 16

/-- RANGE of a corrected time of zero or more, in 1/256 LSB (R256, R258). -/
def State.range (s : State) (t : Int) : Nat := min 0xFFFFF ((s.f PNT.KPROP.KPROP * t.toNat + 2 ^ 27) / 2 ^ 28)

/-! ## Class, intensity, confidence (R259-R261) -/

/-- The return is saturated (R259). -/
def State.saturated (s : State) (e : Echo) (t : Option Tot) : Bool :=
  e.cls == 0 && t.any fun y => max 1 (s.f PNT.SAT.SAT_FRAC) * y.n ≤ 16 * y.hi

/-- S, 1/256 counts (R260). -/
def Echo.signal (e : Echo) : Nat := ((max 0 e.cm) + (max 0 e.c0) + (max 0 e.cp)).toNat

/-- INTENSITY (R260). With S in 1/256, p is S / (N (256 - LOSS)). -/
def State.intensity (s : State) (x : Closed) (e : Echo) (t : Option Tot) : Nat :=
  let ne := x.shots * (256 - x.loss)
  let low := if ne = 0 then 0 else min 127 (128 * e.signal / ne)
  match t with
  | none => low
  | some y =>
    if ne = 0 ∨ 16 * e.signal < max 1 (s.f PNT.INT.P_HI) * ne then low else min 255 (128 + y.sum / y.n / 8)

/-- A cap on the confidence. -/
def capIf (b : Bool) (cap v : Nat) : Nat := if b then min v cap else v

/-- CONF (R261). -/
def State.confidence (s : State) (x : Closed) (e : Echo) (noFine masked uncertain : Bool) (cls : Nat) : Nat :=
  let g := e.signal
  let kk := s.f PNT.CONF.CONF_K
  let v := min 255 (isqrt (kk * kk * g * g / (65536 * (g + 3 * x.lambdaC))))
  let v := capIf noFine (s.f PNT.CAPS.NOFINE) v
  let v := capIf masked (s.f PNT.CAPS.MASK) v
  let v := capIf (cls != 0) (s.f PNT.CAPS.CLASS) v
  let v := capIf uncertain (s.f PNT.CAPS.MIRROR) v
  if x.sun then v * (256 - x.loss) / 256 else v

/-! ## Records (R262-R264) -/

/-- What a channel hand gives every one of its records. -/
def blankPoint (h : Hand) (c : Nat) (x : Closed) (m : Summary) (attached : Bool) : Point :=
  { channel := c, az := h.az, range := 0, intensity := 0, echo := 0, cls := 0, conf := 0, stale := false
    transition := h.drained.contains (c / 12) || m.lost || x.bad, valid := false, sun := x.sun, uncertain := h.uncertain
    waveform := attached, gen := h.gen % 16 }

/-- The record of a return, with u of R431 when it has fine data. -/
def State.pointOf (s : State) (h : Hand) (c : Nat) (x : Closed) (m : Summary) (attached : Bool) (i : Nat) (e : Echo) :
    Point × Option Int :=
  let tot := x.totOf e
  let fine := s.fineTime x e
  let tw := match fine, tot with
    | some t, some y => t - s.walk c y
    | some t, none => t
    | none, _ => s.coarseTime e
  let u := s.uncalibrated h c tw
  let tc := u - 256 * s.fi (PNT.OFS.OFS c)
  let cls := if s.saturated e tot then 3 else e.cls
  ({ blankPoint h c x m attached with
     range := if tc < 0 then 0 else s.range tc, intensity := s.intensity x e tot, echo := i % 4, cls := cls
     conf := s.confidence x e fine.isNone (h.maskedBands.contains (c / 6)) h.uncertain cls, valid := decide (0 ≤ tc) },
   if fine.isSome then some u else none)

/-- The two words of a record (R264). -/
def Point.words (p : Point) : List Word36 :=
  [w36 (p.range % 2 ^ 20 * 2 ^ 16 + p.intensity % 256 * 2 ^ 8 + p.echo % 4 * 2 ^ 6 + p.cls % 8 * 2 ^ 3 + b2n p.stale * 4 +
      b2n p.transition * 2 + b2n p.valid),
   w36 (p.channel % 512 * 2 ^ 27 + p.az % 2048 * 2 ^ 16 + p.conf % 256 * 2 ^ 8 + p.gen % 16 * 2 ^ 4 + b2n p.sun * 8 +
      b2n p.uncertain * 4 + b2n p.waveform * 2)]

/-- Held records as the current hand sends them (R263). -/
def heldPoints (blank : Point) (held : Option (List Point)) : List Point :=
  match held with
  | none => [{ blank with stale := true }]
  | some l => l.map fun p =>
    { blank with range := p.range, intensity := p.intensity, echo := p.echo, cls := p.cls, conf := p.conf, valid := p.valid, stale := true }

/-- The values that an end-of-line run adds up (R431). -/
def State.eolAdd (s k : State) (c : Nat) (ps : List (Point × Option Int)) : State :=
  match s.cal.eol with
  | none => s
  | some r =>
    let lo := 2 * s.f CAL.EOL_REF.D_REF
    let hi := lo + 2 * s.f CAL.EOL_CFG.WIN
    let us := ps.filterMap fun p => p.2.filter fun u =>
      p.1.valid && p.1.cls == 0 && decide (0 ≤ u) && decide (lo ≤ k.range u) && decide (k.range u ≤ hi)
    let sums := updNth r.sums c fun a => (a.1 + us.length, us.foldl (· + ·) a.2)
    { s with cal := { s.cal with eol := some { r with sums := sums } } }

/-- The records of a delivered channel hand, and the state with their counts (R258, R259, R263, R264). -/
def State.buildPoints (s k : State) (h : Hand) (c : Nat) (x : Closed) (m : Summary) : State × List Point :=
  if !k.enabled 0x3A then (s, []) else
  let blank := blankPoint h c x m (s.hist.attached.contains (c, x.count))
  if m.cal && !m.disabled then
    let ps := heldPoints blank (nth s.hist.held c none)
    (s.addF PNT.CNT_B.STALE_CNT ps.length, ps)
  else
    let rs := (List.range x.passed.length).zip x.passed |>.map fun e => k.pointOf h c x m blank.waveform e.1 e.2
    let ps := rs.map (·.1)
    let neg := (ps.filter fun p => !p.valid).length
    let sat := (ps.filter fun p => p.cls == 3).length
    let s := if neg = 0 then s else (s.addF PNT.CNT_B.NEG neg).event 0x3A 0
    let s := if sat = 0 then s else (s.addF PNT.CNT_C.SAT sat).event 0x3A 1
    let s := s.eolAdd k c rs
    let ps := if ps.isEmpty then (if k.fb PNT.OUT.EMPTY then [blank] else []) else ps
    ({ s with hist := { s.hist with held := setNth s.hist.held c (some ps) } }, ps)

/-! ## Bids (R267) -/

/-- A record qualifies its tile for a bid. -/
def State.bidWorthy (s : State) (p : Point) : Bool :=
  p.valid && !p.stale && (p.cls == 0 || p.cls == 3) && p.conf < s.f PNT.BID.CONF && p.range ≤ 2000 * s.f PNT.BID.RANGE_MAX

/-- The record of a channel in a hand, once the lane has built it. -/
def State.builtOf (s : State) (n c : Nat) : Option Closed := (s.closedOf c).find? fun x => x.count == n && x.stage == .built

/-- The point-builder bid of a tile (R267): at most one per tile and hand, raised when the lane completes the last of the tile's
channels, for only then its lowest qualifying channel is known (DEDUCED, log entry 107). -/
def State.pointBid (s k : State) (h : Hand) (c : Nat) : State :=
  let t := 128 * (c / 6) + k.sector h.az
  let cs := (List.range 6).map (6 * (c / 6) + ·)
  if !k.fb PNT.BID.EN || s.hist.bidTiles.contains t || cs.any (fun d => (s.builtOf h.count d).isNone) then s else
  match cs.find? fun d => (s.builtOf h.count d).any fun x => x.points.any k.bidWorthy with
  | none => s
  | some d =>
    let s := { s with hist := { s.hist with bidTiles := s.hist.bidTiles ++ [t] } }.incF PNT.CNT_C.BIDS
    s.bid t 1 1 (k.f PNT.BID.SHOTS) (max 1 (k.f PNT.BID.HANDS)) d

/-- A lane completes a channel of the hand being built, which is the oldest one (R250). -/
def State.buildChannel (s : State) (c : Nat) : State :=
  match s.deal.past.head?, stageGet (s.closedOf c) .delivered with
  | some h, some x =>
    if x.count ≠ h.count then s else
    match s.sumOf c x.count with
    | none => s
    | some m =>
      let k := s.asOf h
      let (s, ps) := s.buildPoints k h c x m
      let s := s.setClosed c (stagePut (s.closedOf c) { x with stage := .built, points := ps })
      s.pointBid k h c
  | _, _ => s

/-- PNT_CHANNEL_DONE (R250). -/
def execPntChannelDone (channel : Fin 384) (s : State) : Host.Outcome State Fault Refusal := .next (s.buildChannel channel.val)

/-! ## Hand completion and frames (R250, R265, R266) -/

/-- Raw-event dump was in force: no point is built (R233). -/
def Hand.raw (h : Hand) : Bool := HIST.MODE.MODE.get (Cells.get resetWord h.cfg HIST.MODE) == 2

/-- Every channel of a hand has been built (R250). -/
def State.handBuilt (s : State) (n : Nat) : Bool :=
  s.hist.closed.all fun l => l.any fun x => x.count == n && x.stage == .built

/-- The records of a hand in order of channel and echo (R265). -/
def State.handPoints (s : State) (n : Nat) : List Point :=
  s.hist.closed.flatMap fun l => match l.find? fun x => x.count == n with
    | some x => x.points
    | none => []

/-- The counts of a frame changed. -/
def State.updFrameCount (s : State) (n : Nat) (g : FrameCount → FrameCount) : State :=
  { s with hist := { s.hist with frames := s.hist.frames.map fun f => if f.number = n then g f else f } }

/-- The counts that a completed hand adds to its frame (R266). -/
def FrameCount.add (f : FrameCount) (h : Hand) (ps : List Point) (suns : Nat) : FrameCount :=
  { f with
    records := f.records + ps.length, done := f.done + 1, uncertain := f.uncertain + b2n h.uncertain
    transition := f.transition + b2n (ps.any (·.transition)), stale := f.stale + (ps.filter (·.stale)).length
    masked := f.masked + b2n (!h.maskedBands.isEmpty), sun := f.sun + suns, gen := h.gen }

/-- WAVEFORM_ATTACHED as the writes complete by the completion of the hand give it (R288). -/
def State.attachWaveforms (s : State) (n : Nat) (ps : List Point) : List Point :=
  ps.map fun p => { p with waveform := s.hist.attached.contains (p.channel, n) }

/-- The oldest hand leaves the point builder (R250, R265): its packet is sent and its channel hands go. Answers the
hand with its records. -/
def State.finishHand (s : State) (fclk : Nat) : State × Option (Hand × List Point) :=
  match s.deal.past with
  | [] => (s, none)
  | h :: rest =>
    if h.raw || !s.handBuilt h.count then (s, none) else
    let ps := s.attachWaveforms h.count (s.handPoints h.count)
    let suns := (s.hist.closed.filter fun l => l.any fun x => x.count == h.count && x.sun).length
    let s := s.updFrameCount h.frame fun f => f.add h ps suns
    let s := (s.addF PNT.CNT_A.RECORDS ps.length).maxF PNT.LAT.MAX fclk
    let s := if ps.isEmpty then s else s.sendPacket 0x10 0 h.gen h.stamp (ps.flatMap Point.words)
    ({ s with
       deal := { s.deal with past := rest }
       hist := { s.hist with
         closed := s.hist.closed.map fun l => l.filter fun x => x.count != h.count
         sums := s.hist.sums.map fun l => l.filter fun e => e.1 != h.count
         attached := s.hist.attached.filter fun e => e.2 != h.count
         bidTiles := [] } }, some (h, ps))

/-- The words common to a frame's header and trailer (R266). -/
def frameWords (kind gen frame : Nat) : List Word36 := [w36 (kind * 2 ^ 28 + gen % 65536), w36 (frame % 2 ^ 32)]

/-- The header of the frame that begins, and its counts (R266). -/
def State.frameHeader (s : State) : State :=
  let f := s.steer.frame
  let t := s.timeNs
  let w4 := f.hands * 2 ^ 12 + b2n s.sweepDown * 2 ^ 11 + s.f DEAL.MODE.MODE * 2 ^ 9 + s.f STEER.LOCK_STAT.STATE * 2 ^ 7
  let s := s.setF PNT.FRAME.FRAME f.number
  let s := { s with hist := { s.hist with frames := s.hist.frames ++ [{ number := f.number, gen := s.f CHIP.GEN.GLOBAL }] } }
  if !s.enabled 0x3A then s else
  s.sendPacket 0x11 0 s.gen4 t (frameWords 0x01 (s.f CHIP.GEN.GLOBAL) f.number ++
    [w36 (t / 2 ^ 32 % 2 ^ 32), w36 (t % 2 ^ 32), w36 w4, w36 (f.length % 2 ^ 27), 0])

/-- The trailer of a frame (R266); its counts saturate. -/
def State.trailerPacket (s : State) (f : FrameCount) (t : Nat) : State :=
  if !s.enabled 0x3A then s else
  let pair (a b : Nat) : Word36 := w36 (satTo 16 a * 2 ^ 16 + satTo 16 b)
  s.sendPacket 0x11 0 f.gen t (frameWords 0x02 f.gen f.number ++
    [w36 (satTo 32 f.records), pair f.done f.skipped, pair f.uncertain f.transition, pair f.stale f.masked,
     pair f.commits f.sun])

/-- The trailers that are due, oldest first: of frames that have ended and whose hands have all left (R266). -/
def State.trailers (s : State) : Nat → State
  | 0 => s
  | n + 1 =>
    match s.hist.frames with
    | [] => s
    | f :: fs =>
      match f.ended with
      | none => s
      | some t =>
        if s.deal.past.any fun h => h.frame == f.number then s
        else ({ s with hist := { s.hist with frames := fs } }.trailerPacket f t).trailers n

/-- Hands of raw-event dump leave when every channel has swapped out of them: no point is built for them (R233). -/
def State.rawHandsLeave (s : State) : State :=
  let gone (h : Hand) : Bool := h.raw && s.hist.chans.all fun x => decide (h.count < x.count)
  let raws := s.deal.past.filter gone
  let s := { s with deal := { s.deal with past := s.deal.past.filter fun h => !gone h } }
  raws.foldl (fun s h => s.updFrameCount h.frame fun f => f.add h [] 0) s

/-- What is due when hands may have left: raw hands and trailers. -/
def State.framesLeave (s : State) : State := s.rawHandsLeave.trailers s.hist.frames.length

/-- MARKER_RETIRE (R222): the slice's oldest item is a marker. -/
def execMarkerRetire (slice : Fin 32) (s : State) : Host.Outcome State Fault Refusal :=
  match s.fifo slice.val with
  | (c, .marker a) :: q => .next ((s.setFifo slice.val q).retireMarker c a).framesLeave
  | _ => .next s

/-- The frame in progress ends at a TIME for its trailer (R266): `skipped` hands of it have not been started (R472). -/
def State.frameStops (s : State) (t skipped : Nat) : State :=
  s.updFrameCount s.steer.frame.number fun f =>
    if f.ended.isSome then f else { f with ended := some t, skipped := f.skipped + skipped }

/-- RUN ends in a STANDBY entry (R266): the frame ends with the last hand, whose records have left. -/
def State.frameStandby (s : State) : State :=
  if s.pwr.st = .run then (s.frameStops (if s.deal.cur.any (·.snapped) then s.timeNs else s.hist.handEnd) 0).framesLeave else s

/-- A write of 1 to PNT.CNT_CLR (R268). -/
def State.pntCntClr (s : State) : State :=
  [PNT.CNT_A, PNT.CNT_B, PNT.CNT_C, PNT.LAT].foldl (fun s a => s.setReg a 0) s

/-- PNT_CNT_CLR (R268). -/
def execPntCntClr (s : State) : Host.Outcome State Fault Refusal := .next s.pntCntClr

end Sys2Proof.Machine
end

