-- ==== Sys2Proof/Machine/Fusion.lean ====
section
/-! DEFINITION. Fusion (spec/13): projection of points, depth rasters and warning zones. -/

namespace Sys2Proof.Machine

/-! ## Geometry (R316) -/

/-- The terms of a sine or cosine series, scaled by 2^48: `t` is the term before, `x` the angle, `i` its power. -/
def series (x : Int) (t : Int) (i : Nat) : Nat → Int
  | 0 => 0
  | n + 1 => t + series x (-(t * x / 2 ^ 48 * x / 2 ^ 48 / ((i + 1) * (i + 2) : Nat))) (i + 2) n

/-- Cosine and sine of an angle within the first quarter, given in 1/2^24 turns, scaled by 2^48. -/
def cosSinQuarter (r : Nat) : Int × Int :=
  let x : Int := r * 442139859501777 / 2 ^ 22
  (series x (2 ^ 48) 0 14, series x x 1 14)

/-- Cosine and sine of an angle in 1/2^24 turns, scaled by 2^48. -/
def cosSin (a : Nat) : Int × Int :=
  let (c, s) := cosSinQuarter (a % 2 ^ 22)
  match a / 2 ^ 22 % 4 with
  | 0 => (c, s)
  | 1 => (-s, c)
  | 2 => (-c, -s)
  | _ => (s, -c)

/-- A point of the lidar frame, 1/65,536 mm. -/
structure Xyz where
  x : Int
  y : Int
  z : Int
  deriving DecidableEq, Repr

/-- Azimuth and elevation of a channel at an azimuth position, in 1/256 angle unit (R316). -/
def State.direction (k : State) (c az : Nat) : Nat × Nat :=
  (unsigned 24 (256 * k.f ZONE.GEOM.AZ0 + az * k.f ZONE.GEOM.AZ_STEP + 256 * k.fi (ZONE.DIR.AZ_OFS c) : Int),
   unsigned 24 (256 * k.fi (ZONE.DIR.EL c)))

/-- The point at an azimuth and an elevation, in 1/256 angle unit, and a range in 0.5 mm (R316). -/
def polar (th ph range : Nat) : Xyz :=
  let (ct, st) := cosSin th
  let (cp, sp) := cosSin ph
  let r : Int := 32768 * range
  { x := r * cp * ct / 2 ^ 96, y := r * cp * st / 2 ^ 96, z := r * sp / 2 ^ 48 }

/-- P of a record (R316). -/
def State.xyz (k : State) (c az range : Nat) : Xyz :=
  let (th, ph) := k.direction c az
  polar th ph range

/-! ## Projection (R317, R318) -/

/-- The pixel of a point in camera p, 1/256 pixel, when it lies before the camera (R317). -/
def State.pixel (k : State) (p : Nat) (q : Xyz) : Option (Int × Int) :=
  let m := fun i => k.fi (ZONE.CM.M p i)
  let t := fun i => 65536 * k.fi (ZONE.CT.T p i)
  let row := fun i => (m (3 * i) * q.x + m (3 * i + 1) * q.y + m (3 * i + 2) * q.z) / 4194304 + t i
  let cz := row 2
  if cz ≤ 100 * 65536 then none else
  let xs := row 0 * 2 ^ 32 / cz
  let ys := row 1 * 2 ^ 32 / cz
  let rho := (xs * xs + ys * ys) / 2 ^ 32
  let d := 2 ^ 32 + k.fi (ZONE.CK.K1 p) * rho / 8192 + k.fi (ZONE.CK.K2 p) * (rho * rho / 2 ^ 32) / 8192
  some ((k.f (ZONE.CF.F p 0) : Int) * (xs * d / 2 ^ 32) / 2 ^ 32 + 16 * k.f (ZONE.CC.CX p),
        (k.f (ZONE.CF.F p 1) : Int) * (ys * d / 2 ^ 32) / 2 ^ 32 + 16 * k.f (ZONE.CC.CY p))

/-- The column and the row of a point in the image of camera p (R317). -/
def State.inImage (s k : State) (p : Nat) (q : Xyz) : Option (Nat × Nat) :=
  match k.pixel p q with
  | none => none
  | some (u, v) =>
    if 0 ≤ u ∧ u < 256 * (s.camWidth p : Int) ∧ 0 ≤ v ∧ v < 256 * (s.camHeight p : Int) then
      some ((u / 256).toNat, (v / 256).toNat)
    else none

/-- The stamp of a received row of a frame. -/
def CamPort.rowStamp (c : CamPort) (n v : Nat) : Option Nat :=
  match c.frames.find? fun f => f.number == n with
  | none => none
  | some f => match f.rows[v]? with
    | some r => if r.filled then none else some r.stamp
    | none => none

/-- E_N(v), actual or predicted, ns (R318). -/
def State.exposureTime (s : State) (p n v : Nat) : Option Int :=
  let c := s.port p
  let ofs : Int := 1000 * s.f (CAM.EXP_OFS.EXP_OFS p)
  match c.rowStamp n v with
  | some t => some (t - ofs)
  | none =>
    match nth c.rowTimes v none, c.period with
    | some (m, t), some per => some (t + ((n : Int) - m) * per - ofs)
    | _, _ => none

/-- The frame of least distance among some frames, the earliest on ties (R318). -/
def nearest (l : List (Nat × Int)) : Option Nat :=
  match l with
  | [] => none
  | x :: l => some (l.foldl (fun (b : Nat × Int) y => if y.2 < b.2 then y else b) x).1

/-! ## Rasters (R318, R319) -/

/-- dt of a cell: 20 µs units to the nearest, saturating (R319). -/
def dtOf (t e : Int) : Int := clip (-127) 127 ((2 * (t - e) + 20000) / 40000)

/-- The word of a cell (R319). -/
def RasterCell.word (c : RasterCell) : Word36 :=
  w36 (c.range % 2 ^ 20 * 65536 + unsigned 8 c.dt * 256 + min 15 c.count * 16 + b2n c.stale * 8 + b2n c.uncertain * 4 + 1)

/-- The bank word of a cell: buffer 1 begins at word 0x8000 (R319). -/
def Raster.place (r : Raster) (cell : Nat) : Nat := r.frame % 2 * 0x8000 + cell

/-- A raster of a port replaced by its frame. -/
def State.putRaster (s : State) (p : Nat) (r : Raster) : State :=
  s.updPort p fun c => { c with rasters := c.rasters.map fun x => if x.frame = r.frame then r else x }

/-- A cell written to the bank; a port without its bank drops it. -/
def State.writeCell (s : State) (p : Nat) (r : Raster) (c : RasterCell) : State :=
  match s.moverWrite (8 + p) r.bank (r.place c.cell) [c.word] with
  | (s, true) => s
  | (s, false) => s.event 0x3B 2

/-- A point counted in a cell: the nearest stays (R319). -/
def RasterCell.add (old : Option RasterCell) (n : RasterCell) : RasterCell :=
  match old with
  | none => n
  | some o =>
    let b := if n.range < o.range then n else o
    { b with count := satAdd 4 o.count 1, stale := o.stale || n.stale, uncertain := o.uncertain || n.uncertain }

/-- A point counted in a raster (R319). -/
def State.rasterAdd (s : State) (p : Nat) (h : Hand) (r : Raster) (n : RasterCell) : State :=
  let c := RasterCell.add (r.cells.find? fun x => x.cell == n.cell) n
  let r := { r with
    cells := (r.cells.filter fun x => x.cell != n.cell) ++ [c]
    lidar := some (r.lidar.getD h.frame)
    unlocked := r.unlocked || !h.locked }
  (s.putRaster p r).writeCell p r c

/-- A point goes into a port's rasters (R318, R319). -/
def State.rasterPoint (s k : State) (h : Hand) (p : Nat) (pt : Point) : State :=
  match (s.port p).rasters with
  | [] => s
  | r0 :: rs =>
    match s.inImage k p (k.xyz pt.channel pt.az pt.range) with
    | none => s
    | some (u, v) =>
      let t : Int := h.stamp + h.period * 2 / 5
      let near := fun n => (s.exposureTime p n v).map fun e => (n, if t ≤ e then e - t else t - e)
      let n0 := r0.frame
      match nearest (((List.range 4).map fun i => n0 + i - 1).filterMap near) with
      | none => s
      | some n =>
        if n < n0 then (s.putRaster p { r0 with late := true }).incF ZONE.DROP.LATE
        else
          match (r0 :: rs).find? fun r => r.frame == n with
          | none => (s.putRaster p { ((r0 :: rs).getLastD r0) with early := true }).incF ZONE.DROP.EARLY
          | some r =>
            let dt := match s.exposureTime p n v with
              | some e => dtOf t e
              | none => -128
            s.rasterAdd p h r
              { cell := v / 2 ^ r.dec * r.cols + u / 2 ^ r.dec, range := pt.range, count := 1, stale := pt.stale
                uncertain := pt.uncertain, time := t, row := v, dt := dt }

/-- The points of a hand projected into the cameras (R316-R319). -/
def State.projectHand (s k : State) (h : Hand) (ps : List Point) : State :=
  if !k.enabled 0x3B then s else
  (ps.filter fun pt => pt.valid && decide (k.f ZONE.PROJ.CONF_MIN ≤ pt.conf)).foldl (fun s pt =>
    (filterRange 4 fun p => bitOf (k.f ZONE.PROJ.CAM_EN) p).foldl (fun s p => s.rasterPoint k h p pt) s) s

/-- A raster opened empty (R319). -/
def State.openRaster (s : State) (p n : Nat) : State :=
  if !(s.domOn 5 && s.enabled 0x3B && bitOf (s.f ZONE.PROJ.RASTER_EN) p) || (s.port p).rasters.any (fun r => r.frame == n) then s else
  let dec := s.f ZONE.PROJ.DEC
  let cols := divUp (s.camWidth p) (2 ^ dec)
  let rows := divUp (s.camHeight p) (2 ^ dec)
  let r : Raster := { frame := n, bank := s.f (rbank p), dec := dec, cols := cols, rows := rows }
  match s.moverWrite (8 + p) r.bank (r.place 0) (List.replicate (cols * rows) 0) with
  | (s, false) => s.event 0x3B 2
  | (s, true) => s.updPort p fun c => { c with rasters := c.rasters ++ [r] }

/-- A cell with the actual stamp of its row (R318). -/
def State.settleCell (s : State) (p n : Nat) (c : RasterCell) : RasterCell :=
  match (s.port p).rowStamp n c.row with
  | some t => { c with dt := dtOf c.time ((t : Int) - 1000 * s.f (CAM.EXP_OFS.EXP_OFS p)) }
  | none => { c with dt := -128 }

/-- A raster closes: its cells are settled and it is sent (R318, R319). -/
def State.closeRaster (s : State) (p : Nat) (r : Raster) : State :=
  let s := r.cells.foldl (fun s c => s.writeCell p r (s.settleCell p r.frame c)) s
  let s := s.updPort p fun c => { c with rasters := c.rasters.filter fun x => x.frame != r.frame }
  if !s.moverOk (8 + p) r.bank then s.event 0x3B 2 else
  let short := (s.port p).frames.any fun f => f.number == r.frame && f.short
  match s.moverRead r.bank (r.place 0) (r.cols * r.rows) with
  | (s, none) => s.event 0x3B 2
  | (s, some ws) =>
    let flags := b2n r.unlocked * 8 + b2n short * 4 + b2n r.late * 2 + b2n r.early
    s.sendPacket 0x2A p s.gen4 s.timeNs
      ([w36 (p * 2 ^ 34 + r.cols % 4096 * 65536 + r.rows % 4096), w36 (r.frame % 2 ^ 32),
        w36 (flags * 2 ^ 32 + (r.lidar.getD 0) % 65536 * 65536 + s.f CHIP.GEN.GLOBAL)] ++ ws)

/-- The rasters of a port at a frame start: older ones close, two are open (R318, R319). -/
def State.rastersAtStart (s : State) (p n : Nat) : State :=
  let s := ((s.port p).rasters.filter fun r => decide (r.frame < n)).foldl (fun s r => s.closeRaster p r) s
  (s.openRaster p n).openRaster p (n + 1)

/-! ## Warning zones (R321-R325) -/

/-- A vertex of a zone, 1/65,536 mm (R321, R329). -/
def State.vertex (k : State) (z i : Nat) : Int × Int :=
  let n := k.f (ZONE.ZA.NVERT_M1 z) + 1
  let v := k.f (ZONE.ZA.FIRST z) + i % n
  (655360 * k.fi (ZONE.VERT.X v), 655360 * k.fi (ZONE.VERT.Y v))

/-- A point on an edge. -/
def onEdge (a b p : Int × Int) : Bool :=
  (b.1 - a.1) * (p.2 - a.2) == (b.2 - a.2) * (p.1 - a.1) &&
  decide (min a.1 b.1 ≤ p.1) && decide (p.1 ≤ max a.1 b.1) && decide (min a.2 b.2 ≤ p.2) && decide (p.2 ≤ max a.2 b.2)

/-- The ray from a point towards larger x crosses an edge. -/
def crosses (a b p : Int × Int) : Bool :=
  if decide (a.2 > p.2) == decide (b.2 > p.2) then false
  else
    let l := (p.1 - a.1) * (b.2 - a.2)
    let r := (p.2 - a.2) * (b.1 - a.1)
    if a.2 < b.2 then decide (l < r) else decide (r < l)

/-- A point lies in a polygon by the even-odd rule, its edges included (R321). -/
def inPolygon (vs : Nat → Int × Int) (n : Nat) (p : Int × Int) : Bool :=
  (List.range n).any (fun i => onEdge (vs i) (vs (i + 1)) p) ||
  ((List.range n).filter fun i => crosses (vs i) (vs (i + 1)) p).length % 2 == 1

/-- A record qualifies for a zone (R321). -/
def State.qualifies (k : State) (z : Nat) (pt : Point) : Bool :=
  pt.valid && decide (k.f ZONE.ZCFG.CONF_MIN ≤ pt.conf) && bitOf (k.f ZONE.ZCFG.CLASS_MASK) pt.cls &&
  (let q := k.xyz pt.channel pt.az pt.range
   decide (655360 * k.fi (ZONE.ZB.ZMIN z) ≤ q.z) && decide (q.z ≤ 655360 * k.fi (ZONE.ZB.ZMAX z)) &&
   inPolygon (k.vertex z) (k.f (ZONE.ZA.NVERT_M1 z) + 1) (q.x, q.y))

/-- Steering is in locked mode with lock state locked (R319, R322). -/
def State.steerLocked (s : State) : Bool := s.steer.mode == 2 && s.f STEER.LOCK_STAT.STATE == 2

/-- A condition of R322 for UNKNOWN holds. -/
def State.zoneBlind (s : State) : Bool :=
  s.pwr.st != .run || !s.enabled 0x3B || !s.steerLocked || decide (s.f ZONE.ZCFG.UNK_MAX < s.zone.bad)

/-- Bits of 32 zones. -/
def zoneBits (l : List Bool) (half : Nat) : Nat :=
  (List.range 32).foldl (fun n i => n + b2n (nth l (32 * half + i) false) * 2 ^ i) 0

/-- OCCUPIED by zone. -/
def Zones.occ (z : Zones) : List Bool := z.zones.map fun x => x.occupied && !z.unknown

/-- ZONE.OCC and ZONE.UNK follow the zones (R329). -/
def State.showZones (s : State) : State :=
  let put := fun (s : State) i =>
    (s.setF (ZONE.OCC.OCC i) (zoneBits s.zone.occ i)).setF (ZONE.UNK.UNK i) (if s.zone.unknown then 2 ^ 32 - 1 else 0)
  put (put s 0) 1

/-- The level of ZONE_OUTk (R44, R324). -/
def State.zoneOut (s : State) (k : Nat) : Bool :=
  let named := fun z => bitOf (s.f (ZONE.OUTMAP.MAP (2 * k + z / 32))) (z % 32)
  s.pwr.st == .run && s.domOn 5 && s.enabled 0x3B && !s.zone.unknown &&
  (List.range 64).any named && (List.range 64).all fun z => !named z || !(nth s.zone.zones z {}).occupied

/-- The zone status packet of a decision in a lidar frame (R324). -/
def State.zonePacket (s : State) (reason frame az : Nat) : State :=
  let unk := if s.zone.unknown then 2 ^ 32 - 1 else 0
  let outs := (List.range 4).foldl (fun n k => n + b2n (s.zoneOut k) * 2 ^ k) 0
  s.sendPacket 0x30 0 s.gen4 s.timeNs
    [w36 (reason * 2 ^ 32 + frame % 2 ^ 32), w36 (zoneBits s.zone.occ 1), w36 (zoneBits s.zone.occ 0), w36 unk, w36 unk,
     w36 (az % 2048 * 65536 + outs)]

/-- Zones replaced. -/
def State.setZones (s : State) (z : Zones) : State := { s with zone := z }

/-- A zone as it enters UNKNOWN. -/
def ZoneSt.blind (z : ZoneSt) : ZoneSt := { z with occupied := false, above := 0, below := 0 }

/-- The zones go UNKNOWN while a condition of R322 holds. -/
def State.zoneCheck (s : State) (frame az : Nat) : State :=
  if !s.domOn 5 || !s.zoneBlind then s
  else
    let was := s.zone.unknown
    let zs := s.zone.zones.map ZoneSt.blind
    let s := (s.setZones { s.zone with unknown := true, dirty := true, zones := zs }).showZones
    if was then s else (s.event 0x3B 1).zonePacket 2 frame az

/-- A hand skipped for droop counts among the hands of its frame (R322). -/
def State.zoneSkipped (s : State) : State :=
  if s.zone.waits.isEmpty then { s with zone := { s.zone with bad := s.zone.bad + 1 } }
  else { s with zone := { s.zone with badNext := s.zone.badNext + 1 } }

/-- The zones at an entry to RUN: counts begin anew (R322). -/
def State.zoneRun (s : State) : State :=
  let zs := s.zone.zones.map fun z => { z with count := 0 }
  let s := s.setZones { s.zone with bad := 0, badNext := 0, waits := [], staleBefore := [], staleNow := [], zones := zs }
  s.setZones { s.zone with dirty := s.zoneBlind }

/-- The records that count for the zones (R323). -/
def State.zonePoints (s : State) (ps : List Point) : List Point :=
  ps.filter fun p => !(p.stale && s.zone.staleBefore.contains (p.channel, p.az))

/-- Enabled zones. -/
def State.zonesOn (k : State) : List Nat := filterRange 64 fun z => k.fb (ZONE.ZA.EN z)

/-- Zone bids: at most one per tile and hand, from the lowest zone (R325). -/
def State.zoneBids (s k : State) (h : Hand) (ps : List Point) : State :=
  if !k.fb ZONE.BID.EN then s else
  let hits := (k.zonesOn.filter fun z => k.fb (ZONE.ZA.BID_EN z)).flatMap fun z =>
    (ps.filter (k.qualifies z)).map fun pt => (128 * (pt.channel / 6) + k.sector h.az, z)
  let firsts := hits.foldl (fun (l : List (Nat × Nat)) x => if l.any (fun y => y.1 == x.1) then l else l ++ [x]) []
  firsts.foldl (fun s x => s.bid x.1 1 2 (k.f ZONE.BID.SHOTS) (k.f ZONE.BID.HANDS) x.2) s

/-- A zone after the points of a hand: its count, and the onset with ONSET 0 (R322). -/
def State.countZone (k : State) (z : Nat) (x : ZoneSt) (unknown : Bool) (ps : List Point) : ZoneSt :=
  if !k.fb (ZONE.ZA.EN z) then x.blind else
  let n := x.count + (ps.filter (k.qualifies z)).length
  let onset := !unknown && k.f (ZONE.ZA.ONSET z) == 0 && decide (k.f (ZONE.ZA.MIN_PTS z) ≤ n)
  { x with count := n, occupied := x.occupied || onset }

/-- The zones after the points of a hand (R322). -/
def State.zoneCount (s k : State) (ps : List Point) : State :=
  let zs := (List.range 64).map fun z => k.countZone z (nth s.zone.zones z {}) s.zone.unknown ps
  s.setZones { s.zone with zones := zs }

/-- A zone judged at the end of a frame (R322); `clean` is the end of UNKNOWN. -/
def State.judgeZone (k : State) (z : Nat) (x : ZoneSt) (unknown clean : Bool) : ZoneSt :=
  if !k.fb (ZONE.ZA.EN z) then {} else
  if unknown && !clean then {} else
  let hit := decide (k.f (ZONE.ZA.MIN_PTS z) ≤ x.count)
  let above := if hit then x.above + 1 else 0
  let below := if hit then 0 else x.below + 1
  let occ :=
    if x.occupied then decide (below < max 1 (k.f (ZONE.ZA.CLEAR z)))
    else hit && decide (k.f (ZONE.ZA.ONSET z) ≤ above)
  { count := 0, above := above, below := below, occupied := occ }

/-- The end of a frame for the zones (R322, R323). -/
def State.zoneFrameEnd (s k : State) : State :=
  let clean := s.zone.unknown && !s.zone.dirty
  let zones := (List.range 64).map fun z => k.judgeZone z (nth s.zone.zones z {}) s.zone.unknown clean
  let z := { s.zone with
    zones := zones, unknown := s.zone.unknown && !clean, bad := s.zone.badNext, badNext := 0
    staleBefore := s.zone.staleNow, staleNow := [] }
  let s := { s with zone := z }
  { s with zone := { s.zone with dirty := s.zoneBlind } }

/-- The frames that have passed are judged once their records are complete, with the settings of their last hand (R322): also
where that hand was skipped, or left no record in raw-event dump. Answers with their last hands. -/
def State.zoneFrames (s : State) : Nat → State × List Hand
  | 0 => (s, [])
  | n + 1 =>
    match s.zone.waits with
    | [] => (s, [])
    | w :: ws =>
      if s.deal.past.any (fun h => h.frame == w.frame && !h.raw) then (s, []) else
      let t := (s.setZones { s.zone with waits := ws }).zoneFrameEnd (s.asOf w)
      let (t, l) := t.zoneFrames n
      (t, w :: l)

/-- What a decision reports (R324, R329): the event of a zone that has become occupied, a packet for a state change and one for
each frame that has ended. -/
def State.zoneReport (s : State) (before : Zones) (frame az : Nat) (ended : List Hand) : State :=
  let s := s.showZones
  let rises := (List.range 64).any fun z => nth s.zone.occ z false && !nth before.occ z false
  let change := s.zone.occ != before.occ || s.zone.unknown != before.unknown
  let s := s.eventIf rises 0x3B 0
  let s := if change then s.zonePacket 2 frame az else s
  ended.foldl (fun s w => s.zonePacket 1 w.frame w.az) s

/-- Frames judged, and reported while ZONE is enabled; a disabled one sends nothing. -/
def State.zoneJudge (s : State) (before : Zones) (frame az : Nat) : State :=
  let (s, ended) := s.zoneFrames s.zone.waits.length
  if s.enabled 0x3B then s.zoneReport before frame az ended else s.showZones

/-- A frame has passed whose last hand was `h` (R322). -/
def State.zoneFrameOver (s : State) (h : Hand) : State :=
  let before := s.zone
  (s.setZones { s.zone with waits := s.zone.waits ++ [h] }).zoneJudge before h.frame h.az

/-- Zone evaluation of a completed hand (R321-R325). -/
def State.zoneHand (s k : State) (h : Hand) (ps : List Point) : State :=
  if !k.enabled 0x3B then (s.zoneCheck h.frame h.az).zoneJudge s.zone h.frame h.az else
  let stale := (ps.filter Point.stale).map fun (p : Point) => (p.channel, p.az)
  let s := s.setZones { s.zone with bad := s.zone.bad + b2n h.uncertain, staleNow := s.zone.staleNow ++ stale }
  let used := s.zonePoints ps
  let s := (s.zoneCheck h.frame h.az).zoneBids k h used
  let before := s.zone
  (s.zoneCount k used).zoneJudge before h.frame h.az

/-- A write of 1 to ZONE.CNT_CLR (R329). -/
def State.zoneCntClr (s : State) : State := s.setReg ZONE.DROP 0

/-- ZONE_CNT_CLR (R329). -/
def execZoneCntClr (s : State) : Host.Outcome State Fault Refusal := .next s.zoneCntClr

end Sys2Proof.Machine
end

