-- ==== Sys2Proof/Machine/Supv.lean ====
section
/-! DEFINITION. The supervisor and what the safety channel shares (spec/16): status packets, diagnostics, the safety
CRC, the change log, the lock and the safety modes. -/

namespace Sys2Proof.Machine

/-! ## The safety status packet (R389) -/

/-- SEQ of the last change-log entry; 0 before the first (R395). -/
def State.logSeq (s : State) : Nat := s.led.logNext - 1

/-- The words of a safety status packet (R389). -/
def State.safeWords (s : State) (reason : Nat) : List Word36 :=
  [w36 (reason * 2 ^ 32 + s.f CHIP.GEN.GLOBAL * 2 ^ 16 + s.f SAFE.STATUS.SET * 2 ^ 8 + s.f SAFE.STATUS.OUT * 2 ^ 6 +
     s.f SAFE.STATUS.MODE * 2 ^ 5 + s.f SAFE.STATUS.RESTART_REQ * 2 ^ 4),
   w36 (s.steer.frame.number % 2 ^ 32), w36 (s.reg FIELD.STAT).toNat, w36 (s.reg SAFE.FSTAT).toNat, w36 (s.reg SUPV.DIAG).toNat,
   w36 (s.reg SAFE.CRC).toNat, w36 (s.logSeq % 2 ^ 32)]

/-- A safety status packet is built (R389): reason 1 periodic, 2 output, 3 set or field, 4 fault, 5 mode. While the
link is down it replaces one that still waits (R336). -/
def State.safePacket (s : State) (reason : Nat) : State :=
  let s := if s.fb TAB.STATUS.LINK_UP then s else
    { s with link := { s.link with qA := s.link.qA.filter fun p => p.dt != 0x31 } }
  s.sendPacket 0x31 0 s.gen4 s.timeNs (s.safeWords reason)

/-- SAFETY_STATUS_TIMER (R389): in READY, RUN and FOLD while the link is up. -/
def execSafetyStatusTimer (s : State) : Host.Outcome State Fault Refusal :=
  if (s.pwr.st = .ready ∨ s.pwr.st = .run ∨ s.pwr.st = .fold) ∧ s.fb TAB.STATUS.LINK_UP then .next (s.safePacket 1) else .next s

/-! ## Diagnostics (R385, R396) -/

/-- A diagnostic is failing. -/
def State.failing (s : State) (d : Nat) : Bool := bitOf (s.f SUPV.DIAG.FAIL) (d - 1)

/-- The failing bit of a diagnostic set or cleared. -/
def State.setFailing (s : State) (d : Nat) (b : Bool) : State :=
  s.setF SUPV.DIAG.FAIL (putBits (s.f SUPV.DIAG.FAIL) (d - 1) 1 (b2n b))

/-- A class S fault that awaits its reset (R402). -/
def State.latch (s : State) (k : Nat) : State :=
  if s.safe.hold.contains k then s else { s with safe := { s.safe with hold := s.safe.hold ++ [k] } }.abandonChange

/-- DETAIL of a diagnostic: the number given, or a free value where the spec names no page, offset or field for it. -/
def State.detail (s : State) : Option Nat → State × Nat
  | some n => (s, n)
  | none => let (n, s) := s.takeFree; (s, Config.freeNat n % 2 ^ 24)

/-- SUPV.LAST records a failing diagnostic; of two in one SAFE cycle the lower number stays (R396). -/
def State.recordDiag (s : State) (d : Nat) (detail : Option Nat) : State :=
  if s.safe.lastDiag.any (fun k => decide (k < d)) then s else
  let (s, n) := s.detail detail
  ({ s with safe := { s.safe with lastDiag := some d } }.setF SUPV.LAST.NUM d).setF SUPV.LAST.DETAIL n

/-- A diagnostic fails (R385): its bit, its latch until a reset (not of 6 and 12, which R402 clears without one), the
event, SUPV.LAST and a status packet. -/
def State.diagFails (s : State) (d : Nat) (detail : Option Nat) : State :=
  let s := if d = 12 then s else if d = 6 then s.abandonChange else s.latch d
  if s.failing d then s else
  (((s.setFailing d true).recordDiag d detail).event 0x07 0).safePacket 4

/-- The selected set is field-bearing: its protective field is enabled (R367). -/
def State.fieldBearing (s : State) : Bool := s.fb (FIELD.FA.EN (3 * s.f SAFE.STATUS.SET))

/-- The faults that keep the supervisor permit away (R365, R385, R402): 8 only while the selected set is field-bearing. -/
def State.supvBlocked (s : State) : Bool :=
  s.failing 6 || [2, 4, 5, 7, 16].any s.safe.hold.contains || (s.safe.hold.contains 8 && s.fieldBearing)

/-- The supervisor permit as the supervisor's confirmations and the faults leave it (R365); it is left alone while a
swap pauses the supervisor (R388). -/
def State.showPermit (s : State) : State :=
  if s.fb SUPV.STATUS.PAUSED then s else s.setB SUPV.STATUS.PERMIT (s.supv.fed && !s.supvBlocked)

/-! ## The safety CRC (R393) -/

/-- The word offsets of a page that the safety CRC covers, in rising order. -/
def coveredOffsets (p : Nat) : List Nat :=
  if p = 0x08 then (List.range 11).map (0x10 + ·) ++ [0x24]
  else if p = 0x09 then
    (List.range 6).map (0x10 + ·) ++ (List.range 12).map (0x18 + ·) ++ (List.range 48).map (0x40 + ·) ++ (List.range 768).map (0x100 + ·)
  else if p = 0x07 then [0x10]
  else sortBy (fun a b => decide (a < b)) (rowOffsets p .rwl)

/-- The words that the safety CRC covers, in rising order of address. -/
def coveredWords : List Nat :=
  (filterRange 0x49 assigned).flatMap fun p => (coveredOffsets p).map (0x400 * p + ·)

/-- A word that the safety CRC covers. -/
def covered (a : Nat) : Bool := assigned (a / 0x400) && (coveredOffsets (a / 0x400)).contains (a % 0x400)

/-- The bits of a word that count in the safety CRC: not RO, WO or reserved. -/
def crcMask (a : Nat) : Nat := fieldMask a fun f => f.acc != .ro && f.acc != .wo

/-- The safety CRC of the active registers. -/
def State.crcNow (s : State) : Word :=
  BitVec.ofNat 32 ((coveredWords.foldl (fun c a => crcBits 32 0x04C11DB7 c ((s.reg a).toNat &&& crcMask a) 32) 0xFFFFFFFF) ^^^ 0xFFFFFFFF)

/-- SAFE.CRC follows the covered words. -/
def State.updateCrc (s : State) : State := s.setReg SAFE.CRC s.crcNow

/-! ## The ledger's words and the change log (R395) -/

/-- A ledger word written by the device, with its wear (R440). -/
def State.ledWrite (s : State) (a : Nat) (v : Word36) : State :=
  let w := s.led.wear
  { s.wr a v with led := { s.led with wear := Cells.set (fun _ => 0) w a (Cells.get (fun _ => 0) w a + 1) } }

/-- The first word of the place of a change-log entry. -/
def logPlace (seq : Nat) : Nat := 0xC50000 + 8 * (seq % 16384)

/-- Word 7 of an entry: the CRC-32 of the words 0 to 6 of the entry before. -/
def State.logChain (s : State) (seq : Nat) : Nat :=
  if seq = 0 then 0 else packetCrc ((List.range 7).map fun i => s.rd (logPlace (seq - 1) + i))

/-- An entry of the change log (R395): `before` is the safety CRC before the event, `a` the register word concerned. -/
def State.logAppend (s : State) (kind : Nat) (before : Word) (a : Nat) : State :=
  let seq := s.led.logNext
  let ws : List Word36 :=
    [w36 (seq % 2 ^ 32), w36 (kind * 2 ^ 28 + (if s.lockOpen then s.safe.user else 0))] ++ halves s.timeNs ++
    [before.setWidth 36, (s.reg SAFE.CRC).setWidth 36, w36 (a % 2 ^ 18), w36 (s.logChain seq)]
  let s := ((List.range 8).zip ws).foldl (fun s x => s.ledWrite (logPlace seq + x.1) x.2) s
  { s with led := { s.led with logNext := seq + 1 } }

/-- An event that leaves the safety CRC as it is, logged (R395). -/
def State.log (s : State) (kind a : Nat) : State := s.logAppend kind (s.reg SAFE.CRC) a

/-! ## Lock and modes (R366, R391-R394) -/

/-- The safety lock opens (R391). -/
def State.lockOpens (s : State) : State :=
  let was := s.lockOpen
  ({ s with lockOpen := true, safe := { s.safe with lockRef := s.mono } }).eventIf (!was) 0x08 5

/-- The safety lock closes (R392). -/
def State.lockClose (s : State) : State := ({ s with lockOpen := false }).eventIf s.lockOpen 0x08 6

/-- The safety mode is ACTIVE. -/
def State.modeActive (s : State) : Bool := s.fb SAFE.STATUS.MODE

/-- A restart request is set (R370). -/
def State.restartRequest (s : State) : State :=
  (s.setB SAFE.STATUS.RESTART_REQ true).eventIf (!s.fb SAFE.STATUS.RESTART_REQ) 0x08 4

/-- The safety mode changes, with its event and packet (R389, R398); an entry to ACTIVE sets a restart request with
START_IL at 1 (R370). -/
def State.setMode (s : State) (active : Bool) : State :=
  if s.modeActive = active then s else
  let s := (s.setB SAFE.STATUS.MODE active).event 0x08 7
  let s := if active && s.fb SAFE.FUNC.START_IL then s.restartRequest else s
  s.safePacket 5

/-- A word that the safety CRC covers has changed by a write (R392-R395): the CRC follows, a changed RWL field is logged
and ends ACTIVE, and LOCK_TMO runs afresh. `before` is the CRC before the write. -/
def State.coveredWritten (s : State) (before : Word) (a : Nat) (rwl : Bool) : State :=
  if !covered a then s else
  let s := { s.updateCrc with safe := { s.safe with lockRef := s.mono } }
  if !rwl then s else
  let s := s.logAppend 0x02 before a
  if s.modeActive then (s.setMode false).log 0x03 a else s

/-- SAFE.CMD COMMISSION (R394): with the lock open; otherwise refused with CMD_REFUSED. -/
def State.commission (s : State) (src : Nat) : State :=
  if s.lockOpen then (s.setMode false).log 0x03 SAFE.CMD else s.err 0x05 src SAFE.CMD

/-- SAFE_CMD_COMMISSION (R394). -/
def execSafeCmdCommission (src : Port) (s : State) : Host.Outcome State Fault Refusal := .next (s.commission (portSrc src))

/-- SAFE_CMD_CLOSE (R392). -/
def execSafeCmdClose (s : State) : Host.Outcome State Fault Refusal := .next s.lockClose

/-- LOCK_TIMEOUT (R392): LOCK_TMO minutes after the opening or the last write to a covered word. -/
def execLockTimeout (s : State) : Host.Outcome State Fault Refusal := .next s.lockClose

/-- The first word of an image slot: 0 and 1 the configuration slots A and B, 2 and 3 the firmware slots (R408). -/
def slotBase (n : Nat) : Nat := 0xC00000 + 0x10000 * n

/-- A write of SAFE.CONFIRM (R394): the value is recorded with the active configuration slot, diagnostic 6 clears
(R402), the mode becomes ACTIVE and the lock closes. Until a valid image has been committed the functions stay in
commissioning, and it is refused (R64; DEDUCED, log entry 44). -/
def State.confirm (s : State) (src v : Nat) : State :=
  let waits := s.commits.any (fun c => c.page == 0x08 || c.page == 0x09) || s.latched.any fun l => l.page == 0x09
  if !s.lockOpen || !s.img.committed || waits || v != (s.reg SAFE.CRC).toNat then s.err 0x15 src SAFE.CONFIRM
  else
    let b := slotBase (s.f BOOT.IMAGE.CFG_ACTIVE)
    let s := (s.ledWrite (b + 3) (w36 (2 ^ 31))).ledWrite (b + 4) (w36 v)
    let s := (s.log 0x04 SAFE.CONFIRM).setFailing 6 false
    ((s.setMode true).lockClose).showPermit

/-- SAFE_CONFIRM (R394). -/
def execSafeConfirm (src : Port) (data : BitVec 32) (s : State) : Host.Outcome State Fault Refusal :=
  .next (s.confirm (portSrc src) data.toNat)

/-! ## The window watchdog (R365) and the firmware diagnostics -/

/-- FOLD with cause FAULT_F is entered by the power manager; what the supervisor does at a watchdog fault (R365,
R402): its permit goes and it is started again. Answers whether this is the second within 1 s. -/
def State.watchdog (s : State) : State × Bool :=
  let second := s.supv.dogAt.any fun t => decide (s.mono ≤ t + 10 ^ 10)
  let s := { s with supv := { s.supv with fed := false, dogAt := some s.mono } }
  (((s.setB SUPV.STATUS.PERMIT false).event 0x07 2).diagFails 2 none, second)

/-- SUPV_COMPARISON_DONE (R384, R402): `differ` names the fields whose tallies differ. -/
def execSupvComparisonDone (differ : BitVec 24) (s : State) : Host.Outcome State Fault Refusal :=
  if !s.supv.comparing then .next s else
  let s := { s with supv := { s.supv with comparing := false } }.incF SUPV.CMP.COMPARED
  match (List.range 24).find? fun f => differ.getLsbD f with
  | some f =>
    let s := { s with supv := { s.supv with passes := 0 } }
    .next ((((s.incF SUPV.CMP.MISMATCH).event 0x07 1).diagFails 4 (some f)).showPermit)
  | none =>
    let n := s.supv.passes + 1
    let s := { s with supv := { s.supv with passes := n } }
    .next (if 16 ≤ n then s.setFailing 4 false else s)

/-- The firmware diagnostics run: the supervisor is not paused for an image swap (R388). -/
def State.firmwareRuns (s : State) : Bool := s.fb SUPV.STATUS.RUNNING && !s.fb SUPV.STATUS.PAUSED

/-- SAFETY_CRC_CHECK (R385, R402): a CRC that differs from SAFE.CRC takes the permit and sets COMMISSIONING. -/
def execSafetyCrcCheck (computed : BitVec 32) (s : State) : Host.Outcome State Fault Refusal :=
  if !s.firmwareRuns ∨ computed = s.reg SAFE.CRC then .next s
  else .next (((s.diagFails 6 (some SAFE.CRC)).setMode false).showPermit)

/-- SUPV_MEMORY_SCRUB (R385): an uncorrectable word in the FIELD tables or the supervisor's memory. -/
def execSupvMemoryScrub (uncorrectable : Bool) (s : State) : Host.Outcome State Fault Refusal :=
  if !s.firmwareRuns ∨ !uncorrectable then .next s else .next ((s.diagFails 5 none).showPermit)

/-- An MPD in use that has seen no light on 256 consecutive armed edges (R385, diagnostic 7): laser off and outputs
off. -/
def State.mpdDark (s : State) (tile : Nat) : State :=
  if s.firmwareRuns && decide (256 ≤ (nth s.emit.mpd tile {}).dark) && !s.failing 7 then
    ((s.diagFails 7 none).hazard 0 tile true).showPermit
  else s

/-- The DUMMY chain (R385, diagnostic 3): what the check of a hand found. -/
inductive DummyResult where
  | pass
  | fail
  | skip
  deriving DecidableEq, Repr

/-- Diagnostic 3 after a DUMMY check or a skipped one (R385, R402): 3 failed in a row, or 16 skipped in a row, fail it;
64 passing ones in a row clear it. -/
def State.dummyDiag (s : State) (r : DummyResult) : State :=
  let v := s.supv
  match r with
  | .pass =>
    let s := { s with supv := { v with dummyFails := 0, dummySkips := 0, dummyPasses := v.dummyPasses + 1 } }
    if 64 ≤ v.dummyPasses + 1 then s.setFailing 3 false else s
  | .fail =>
    let s := { s with supv := { v with dummyFails := v.dummyFails + 1, dummySkips := 0, dummyPasses := 0 } }
    if 3 ≤ v.dummyFails + 1 then s.diagFails 3 none else s
  | .skip =>
    let s := { s with supv := { v with dummySkips := v.dummySkips + 1 } }
    if 16 ≤ v.dummySkips + 1 then { s with supv := { s.supv with dummyPasses := 0 } }.diagFails 3 none else s

/-- ROOT_CLOCK_CHECK (R385, R402): outside ±1 % of SOSC diagnostic 1 takes the outputs and stops the laser; 100 ms within
range, which are 1,000 windows, clear it. -/
def execRootClockCheck (inRange : Bool) (s : State) : Host.Outcome State Fault Refusal :=
  if s.pwr.st = .unpowered ∨ !s.onPll then .next s
  else if inRange then
    let n := s.supv.clockGood + 1
    let s := { s with supv := { s.supv with clockGood := n } }
    .next (if 1000 ≤ n then s.setFailing 1 false else s)
  else
    let s := { s with supv := { s.supv with clockGood := 0 } }
    .next ((s.diagFails 1 none).hazard 0 0 true)

/-- A write of 1 to SUPV.CNT_CLR (R397). -/
def State.supvCntClr (s : State) : State := s.setReg SUPV.CMP 0

/-- SUPV_CNT_CLR (R397). -/
def execSupvCntClr (s : State) : Host.Outcome State Fault Refusal := .next s.supvCntClr

end Sys2Proof.Machine
end

