-- ==== Sys2Proof/Machine/Field.lean ====
section
/-! DEFINITION. FIELD (spec/16): protective and warning fields, blind hands, field sets, safety trumps, and the hands
handed to the supervisor. -/

namespace Sys2Proof.Machine

/-! ## Geometry and qualification (R377, R378) -/

/-- P of a record with FIELD's own geometry (R378). -/
def State.fieldXyz (k : State) (c az range : Nat) : Xyz :=
  polar (unsigned 24 (256 * k.f FIELD.GEOM.AZ0 + az * k.f FIELD.GEOM.AZ_STEP + 256 * k.fi (FIELD.DIR.AZ_OFS c) : Int))
    (unsigned 24 (256 * k.fi (FIELD.DIR.EL c))) range

/-- A vertex of a field, 1/65,536 mm. -/
def State.fieldVertex (k : State) (f i : Nat) : Int × Int :=
  let v := k.f (FIELD.FA.FIRST f) + i % (k.f (FIELD.FA.NVERT_M1 f) + 1)
  (655360 * k.fi (FIELD.VERT.X v), 655360 * k.fi (FIELD.VERT.Y v))

/-- A record qualifies for a field (R378); the double rule for STALE records is applied before. -/
def State.inField (k : State) (f : Nat) (pt : Point) : Bool :=
  k.fb (FIELD.FA.EN f) && pt.valid && decide (k.f FIELD.CFG.CONF_MIN ≤ pt.conf) && bitOf (k.f FIELD.CFG.CLASS_MASK) pt.cls &&
  (let q := k.fieldXyz pt.channel pt.az pt.range
   decide (655360 * k.fi (FIELD.FB.ZMIN f) ≤ q.z) && decide (q.z ≤ 655360 * k.fi (FIELD.FB.ZMAX f)) &&
   inPolygon (k.fieldVertex f) (k.f (FIELD.FA.NVERT_M1 f) + 1) (q.x, q.y))

/-! ## Violation and occupation (R379) -/

/-- The device is in RUN with steering in locked mode and capture complete, and FIELD works (R86, R379). -/
def State.fieldLive (s : State) : Bool :=
  s.pwr.st == .run && s.steer.mode == 2 && !s.steer.capturing && s.domOn 5 && s.enabled 0x09

/-- C_f. -/
def State.fieldCount (s : State) (f : Nat) : Nat := nth s.field.counts f 0

/-- A protective field is violated (R379, R86); a set without one has none to violate. -/
def State.violated (s : State) (set : Nat) : Bool :=
  s.fb (FIELD.FA.EN (3 * set)) && (!s.fieldLive || !s.field.active || decide (s.f FIELD.CFG.N_SCAN ≤ s.fieldCount (3 * set)))

/-- A warning field is occupied (R379, R86). -/
def State.occupiedField (s : State) (f : Nat) : Bool :=
  s.fb (FIELD.FA.EN f) && s.fieldLive && s.field.active && decide (1 ≤ s.fieldCount f)

/-- Bits of the eight sets. -/
def setBits (p : Nat → Bool) : Nat := (List.range 8).foldl (fun n s => n + b2n (p s) * 2 ^ s) 0

/-- FIELD.STAT follows the fields, with the events of R399 and the packet of R389 on a change of a violation bit. -/
def State.showField (s : State) : State :=
  let v := setBits s.violated
  let w1 := setBits fun i => s.occupiedField (3 * i + 1)
  let w2 := setBits fun i => s.occupiedField (3 * i + 2)
  let old := s.f FIELD.STAT.VIOLATED
  let rises (a b : Nat) : Bool := (List.range 8).any fun i => bitOf b i && !bitOf a i
  let warn := rises (s.f FIELD.STAT.WARN1) w1 || rises (s.f FIELD.STAT.WARN2) w2
  let s := ((s.setF FIELD.STAT.VIOLATED v).setF FIELD.STAT.WARN1 w1).setF FIELD.STAT.WARN2 w2
  let s := s.setF FIELD.STAT.C (satTo 5 (s.fieldCount (3 * s.f SAFE.STATUS.SET)))
  let s := (s.eventIf (rises old v) 0x09 0).eventIf warn 0x09 1
  if v = old then s else s.safePacket 3

/-- FIELD replaced. -/
def State.setField (s : State) (x : FieldSt) : State := { s with field := x }

/-- No count is kept across a time outside RUN or outside locked steering with capture complete (R379). -/
def State.fieldCheck (s : State) : State :=
  (if s.fieldLive || !s.field.active then s else s.setField {}).showField

/-! ## Frames (R379, R405) -/

/-- A frame of FIELD changed. -/
def State.updField (s : State) (n : Nat) (g : FieldFrame → FieldFrame) : State :=
  s.setField { s.field with frames := s.field.frames.map fun x => if x.number = n then g x else x }

/-- A frame of FIELD. -/
def State.fieldFrame? (s : State) (n : Nat) : Option FieldFrame := s.field.frames.find? fun x => x.number == n

/-- The first frame that begins in RUN with capture complete starts the counts; a frame begins (R379). -/
def State.fieldBegins (s : State) (n : Nat) : State :=
  if !s.fieldLive then s.fieldCheck else
  let s := if s.field.active then s else s.setField { active := true }
  s.setField { s.field with frames := s.field.frames ++ [{ number := n }] }

/-- A frame becomes intruded for a field: Q_f has reached MIN_PTS, or, for a protective field, B exceeds BLIND_MAX. -/
def State.intrudes (k : State) (x : FieldFrame) (f : Nat) : Bool :=
  k.fb (FIELD.FA.EN f) && (decide (max 1 (k.f (FIELD.FA.MIN_PTS f)) ≤ nth x.q f 0) ||
    (f % 3 == 0 && decide (k.f FIELD.CFG.BLIND_MAX < x.blind)))

/-- C_f increments at the hand at which a frame becomes intruded (R379). -/
def State.fieldIntrude (s k : State) (n : Nat) : State :=
  match s.fieldFrame? n with
  | none => s
  | some x =>
    let new := (List.range 24).map fun f => k.intrudes x f && !nth x.intruded f false
    let counts := (List.range 24).map fun f => s.fieldCount f + b2n (nth new f false)
    let both := (List.range 24).map fun f => nth x.intruded f false || nth new f false
    (s.setField { s.field with counts := counts }).updField n fun x => { x with intruded := both }

/-- The oldest frame closes: C_f of a field for which it was not intruded returns to 0, but for what later frames have
already added; a frame with exempt hands leaves it (R379, R405). -/
def State.fieldClose (s k : State) (x : FieldFrame) (later : List FieldFrame) : State :=
  let added (f : Nat) : Nat := (later.filter fun y => nth y.intruded f false).length
  let counts := (List.range 24).map fun f =>
    if nth x.intruded f false || x.masked then s.fieldCount f else added f
  let s := s.setField { s.field with counts := counts, frames := later, before := some (x.number, x.stale) }
  let s := s.setF FIELD.BLIND.HANDS (satTo 16 x.blind)
  if k.f FIELD.CFG.BLIND_MAX < x.blind then s.incF FIELD.BLIND.FRAMES else s

/-- Frames whose hands have all been evaluated close, oldest first. -/
def State.fieldCloseAll (s k : State) : Nat → State
  | 0 => s
  | n + 1 =>
    match s.field.frames with
    | [] => s
    | x :: later =>
      if !x.ended || s.deal.past.any (fun h => h.frame == x.number && !h.raw) then s
      else (s.fieldClose k x later).fieldCloseAll k n

/-- The last hand of a frame has passed (R379). -/
def State.fieldEnded (s : State) (n : Nat) : State :=
  let s := s.updField n fun x => { x with ended := true }
  (s.fieldCloseAll s s.field.frames.length).showField

/-! ## Blind hands (R379, R387, R405) -/

/-- A required channel (R379). -/
def State.required (k : State) (c : Nat) : Bool := bitOf (k.f (FIELD.REQ.REQ (c / 32))) (c % 32)

/-- The required channels. -/
def State.requiredList (k : State) : List Nat := filterRange 384 k.required

/-- Bands that hold a required channel. -/
def State.requiredBands (k : State) : List Nat := filterRange 64 fun b => (List.range 6).any fun i => k.required (6 * b + i)

/-- The conditions of R379 on a required channel of a completed hand: whether one holds that R405 does not exempt, and
whether one holds that it does. -/
def State.channelBlind (s : State) (h : Hand) (c : Nat) (stale : Bool) : Bool × Bool :=
  let m := (s.sumOf c h.count).getD {}
  let dark := !h.fired.contains (c / 6)
  (m.disabled || m.ovf || m.lostHard || stale || (dark && !h.recovery), m.lostMasked || (dark && h.recovery))

/-- Diagnostic 12 and the supervisor's trump after a hand (R385, R387). -/
def State.blindDiag (s k : State) (blind : Bool) (az : Nat) : State :=
  if !blind then s.setFailing 12 false else
  let s := (s.event 0x09 3).diagFails 12 none
  if !s.firmwareRuns then s else
  k.requiredBands.foldl (fun s b => s.bid (128 * b + k.sector az) 2 4 4 1 12) s

/-- A blind hand counted in its frame, or its frame marked by a hand that R405 exempts. -/
def State.blindCount (s : State) (n : Nat) (hard soft : Bool) : State :=
  s.updField n fun x => { x with blind := x.blind + b2n hard, masked := x.masked || (soft && !hard) }

/-- A hand skipped for droop (R78): blind, but for one whose snapshot fell within 1 ms of the droop's onset (R405). -/
def State.fieldSkipped (s : State) (h : Hand) (n : Nat) : State :=
  if !s.field.active then s else
  let s := (s.blindCount n (!h.early) h.early).blindDiag s (!h.early) h.az
  (s.fieldIntrude s n).showField

/-! ## Completed hands (R378-R384) -/

/-- Channel and position of the records that were STALE in the frame before. -/
def State.staleBefore (s : State) (n : Nat) : List (Nat × Nat) :=
  match s.fieldFrame? (n - 1), s.field.before with
  | some x, _ => x.stale
  | none, some (m, l) => if m + 1 = n then l else []
  | none, none => []

/-- FIELD's trumps (R383): at most one per tile and hand. Warning fields of every set count, and the protective field of the
selected one (DEDUCED, log entry 123). -/
def State.fieldTrumps (s k : State) (h : Hand) (ps : List Point) : State :=
  if !k.fb FIELD.TRUMP.EN then s else
  let set := s.f SAFE.STATUS.SET
  let hit (pt : Point) : Bool := (List.range 24).any fun f => (f % 3 != 0 || f == 3 * set) && k.inField f pt
  let tiles := (ps.filter hit).map fun pt => 128 * (pt.channel / 6) + k.sector h.az
  tiles.eraseDups.foldl (fun s t => s.bid t 2 3 (k.f FIELD.TRUMP.SHOTS) (k.f FIELD.TRUMP.HANDS) set) s

/-- Every COMPARE_DIV-th hand goes to the supervisor (R384). -/
def State.compareHand (s : State) : State :=
  let n := s.supv.hands + 1
  let falls := decide (s.f SUPV.CFG.COMPARE_DIV ≤ n)
  let busy := s.supv.comparing || !s.firmwareRuns
  let s := { s with supv := { s.supv with hands := if falls then 0 else n } }
  if falls && busy then { s with supv := { s.supv with due := true } }.incF SUPV.CMP.DELAYED
  else if !busy && (falls || s.supv.due) then { s with supv := { s.supv with comparing := true, due := false } }
  else s

/-- FIELD's evaluation of a completed hand (R378, R379). `k` holds the settings of the hand, and its summaries are still
in the state that `sums` gives. -/
def State.fieldHand (s sums k : State) (h : Hand) (ps : List Point) : State :=
  if !s.field.active then s.compareHand else
  let n := h.frame
  let old := s.staleBefore n
  let twice (p : Point) : Bool := p.stale && old.contains (p.channel, p.az)
  let used := ps.filter fun p => !twice p
  let s := s.updField n fun x => { x with
    q := (List.range 24).map fun f => nth x.q f 0 + (used.filter (k.inField f)).length
    stale := x.stale ++ (ps.filter Point.stale).map fun (p : Point) => (p.channel, p.az) }
  let chans := k.requiredList.map fun c => sums.channelBlind h c (ps.any fun p => p.channel == c && twice p)
  let hard := h.uncertain || h.plausHeld || chans.any (·.1)
  let soft := chans.any (·.2)
  let s := (((s.blindCount n hard soft).fieldTrumps k h used).blindDiag k (hard || soft) h.az).fieldIntrude k n
  (s.compareHand.fieldCloseAll k s.field.frames.length).showField

/-! ## Diagnostic 8 (R385) -/

/-- Mirror plausibility at the end of a frame: the X sample at the apex against the blended apex of R177, and the hand
count against H. Judged on frames that FIELD counts. -/
def State.mirrorDiag (s : State) : State :=
  if !s.firmwareRuns || !s.field.active then s else
  let f := s.steer.frame
  let x := s.fi (SENSE.SAMPLE.SAMPLE (s.f (STEER.ROLE.POS_A 0)))
  let near := decide ((x - s.trajX f.end_).natAbs ≤ s.f (STEER.TRACK.TOL 0))
  if near && f.index + 1 == f.hands then s.setFailing 8 false else s.diagFails 8 none

end Sys2Proof.Machine
end

