-- ==== Sys2Proof/Machine/Check.lean ====
section
/-! DEFINITION. The check of a commit request (spec/01 R32, spec/04 R88): ranges and mode pairs, page by page, with
the page's own error codes. In every check `o` holds the active settings, `n` the settings that would be in force with
the request and every pending one, and `b` the boundary. -/

namespace Sys2Proof.Machine

/-- A code where a check fails. -/
def failIf (bad : Bool) (code : Nat) : List Nat := if bad then [code] else []

/-- A value lies outside a range. -/
def outside (lo hi v : Nat) : Bool := decide (v < lo) || decide (hi < v)

/-- The classes of the RWS fields of a word that differ between two values. -/
def wordClasses (a : Nat) (old new : Word) : List CommitClass :=
  ((fieldsAt a).1.filter fun f => f.acc == .rws && bitsOf old.toNat f.lo (f.hi - f.lo + 1) != bitsOf new.toNat f.lo (f.hi - f.lo + 1)).map (·.cls)

/-- The classes of the fields of a page that a request changes (R91, R92, R134). -/
def changedClasses (o n : State) (p : Nat) : List CommitClass :=
  (listedIn p n.regs o.regs).flatMap fun a => if n.reg a = o.reg a then [] else wordClasses a (o.reg a) (n.reg a)

/-- A frame-only field changes with boundary 0 or 1 (R134): on FIELD every field is frame-only. -/
def frameOnlyBad (o n : State) (p b : Nat) : Bool :=
  decide (b < 2) && (changedClasses o n p).any fun c => c == .frame || c == .frameDrained || p == 0x09

/-! ## The Dealer and Shuffle (R112, R130, R131, R134, R147) -/

/-- The gate rule of R112. -/
def State.gateRule (n : State) : Bool := decide (n.span + 4 + n.gateG + 8 ≤ n.f DEAL.SPACING.SPACING)

/-- The fit rule of R112. -/
def State.fitRule (n : State) : Bool :=
  let fit := n.sFit (n.fitPeriod / n.handsPerFrame)
  if n.f DEAL.MODE.MODE = 2 then decide (1 ≤ fit) else decide (n.f DEAL.SLOTS.SLOTS ≤ fit)

/-- Two numbers of a list are equal. -/
def hasRepeat : List Nat → Bool
  | [] => false
  | x :: xs => xs.contains x || hasRepeat xs

/-- The burst intervals that a group uses (R127). -/
def State.burstUsed (n : State) (g : Nat) : List Nat :=
  [n.f (SHUF.BURST.I1 g), n.f (SHUF.BURST.I2 g), n.f (SHUF.BURST.I3 g)].take (n.f (SHUF.BURST.PULSES g))

/-- The codes of R130 and R147 on the active groups. -/
def State.seedCodes (n : State) : List Nat :=
  let seeds := n.groups.map fun g => n.f (SHUF.SEED.SEED g)
  failIf (seeds.contains 0) 0x10 ++ failIf (hasRepeat seeds) 0x11 ++
  failIf (n.groups.any fun g => (n.burstUsed g).any fun i => decide (i < 8) || decide (i < n.f LDB.FIRE.PW + 2)) 0x12

/-- MODE, GROUPS, LONG_FACTOR, HANDS, the group map and LEN are inconsistent (R134). -/
def State.dealMode (n : State) : Bool :=
  let m := n.f DEAL.MODE.MODE
  let h := n.f DEAL.HANDS.HANDS
  m == 3 || (m == 0 && n.f DEAL.MODE.GROUPS != 0) || (m == 1 && n.f DEAL.MODE.GROUPS == 0) ||
  decide (1 < n.f DEAL.MODE.LONG_FACTOR) || outside 128 2048 h || h % 128 != 0 ||
  (List.range 64).any (fun b => !n.groups.contains (n.groupOf b)) || decide (8 < n.f DEAL.PAT_CTRL.LEN)

/-- DEAL (R112, R131, R134). A breach of R130 has no code of its own there (DEDUCED: COMMIT_REFUSED). -/
def checkDeal (o n : State) (b : Nat) : List Nat :=
  let hi := n.f DEAL.THROTTLE.THR_HI
  failIf (n.f DEAL.SLOTS.SLOTS == 0 || n.f DEAL.SLOTS.OPEN_SLOTS == 0 || decide (n.f DEAL.SPACING.SPACING < 1250) ||
    !n.gateRule || !n.fitRule) 0x11 ++
  failIf (frameOnlyBad o n 0x10 b) 0x12 ++ failIf n.dealMode 0x13 ++
  failIf (outside 128 896 hi || decide (hi - 128 < n.f DEAL.THROTTLE.THR_LO)) 0x14 ++ failIf (!n.seedCodes.isEmpty) 0x03

/-- SHUF (R130, R135). -/
def checkShuf (n : State) : List Nat := n.seedCodes ++ failIf (!n.gateRule || !n.fitRule) 0x13

/-! ## Emitter and laser bus (R139, R140, R152, R163, R164) -/

/-- EMIT; `late` says that a frame of the request has not ended (R143). -/
def checkEmit (o n : State) (b : Nat) (late : Bool) : List Nat :=
  failIf (n.f EMIT.FF_CTRL.ACTIVE_SEL != o.f EMIT.FF_CTRL.ACTIVE && !o.fb EMIT.FF_CTRL.LOADED) 0x10 ++
  failIf ((List.range 256).any fun l => decide (n.f (EMIT.CLAMP.CLAMP (l / 16)) < n.f (EMIT.LEVEL.VCODE l))) 0x12 ++
  failIf ((List.range 32).any fun i =>
    n.fb (EMIT.SUBST.EN i) && n.f (EMIT.SUBST.MASKED i) / 512 != n.f (EMIT.SUBST.SUBST i) / 512) 0x13 ++
  failIf (frameOnlyBad o n 0x12 b) 0x14 ++ failIf late 0x15 ++ failIf (outside 1 8192 (n.f EMIT.FF_CTRL.FF_SIZE)) 0x16

/-- LDB. -/
def checkLdb (o n : State) (b : Nat) : List Nat :=
  failIf (frameOnlyBad o n 0x13 b) 0x11 ++ failIf (outside 2 6 (n.f LDB.FIRE.PW)) 0x12

/-! ## Steering and sensing (R168-R173, R182, R186) -/

/-- STEER. -/
def checkSteer (o n : State) (b : Nat) : List Nat :=
  let m := n.f STEER.MODE.MODE
  let p := n.f STEER.PERIOD.VALUE
  failIf (frameOnlyBad o n 0x14 b) 0x10 ++
  failIf (n.posChannels.any (fun c => !n.fb (SENSE.CFG.EN c)) || hasRepeat n.posChannels ||
    ((m == 1 || m == 2) && !n.fb (STEER.ROLE.AXIS_EN 0))) 0x11 ++
  failIf (outside 20833334 125000000 p || decide (p ≤ n.f STEER.SYNC_DELAY.VALUE)) 0x12 ++
  failIf (m == 3 || ((m == 1 || m == 2) &&
    (decide (n.fi STEER.X_MAX.VALUE ≤ n.fi STEER.X_MIN.VALUE) || decide (64 < n.f STEER.TURN.TURN) ||
     n.f STEER.RAMP_RATE.VALUE == 0 || [0, 1].any fun a => decide (n.fi (STEER.LIMIT.MAX a) < n.fi (STEER.LIMIT.MIN a))))) 0x13

/-- The base-2 logarithm of a positive number, rounded up. -/
def ceilLog2 (m : Nat) : Nat := if m ≤ 1 then 0 else (m - 1).log2 + 1

/-- The integrators of a channel would overflow, or its sample its 31 bits (R168). -/
def State.senseWidth (n : State) (c : Nat) : Bool :=
  let w := 6 + n.senseOrder c * ceilLog2 (n.f (SENSE.RATIO.RATIO c))
  n.f (SENSE.CFG.ORDER c) == 3 || decide (63 < w) || decide (30 + n.senseShifts c < w)

/-- SENSE. A position channel of an enabled axis is not disabled (DEDUCED from R173: COMMIT_REFUSED). -/
def checkSense (o n : State) : List Nat :=
  let chs := List.range 8
  let srcs := filterRange 8 fun k => n.fb (SENSE.EXC.EN k)
  let tones := filterRange 8 fun k => n.fb (SENSE.TONE.EN k)
  let moved (c : Nat) : Bool :=
    n.f (SENSE.CFG.ORDER c) != o.f (SENSE.CFG.ORDER c) || n.reg (SENSE.RATIO c) != o.reg (SENSE.RATIO c) ||
    n.reg (SENSE.SHIFT c) != o.reg (SENSE.SHIFT c)
  failIf (chs.any n.senseWidth) 0x10 ++
  failIf (chs.any fun c => outside 4 4096 (n.f (SENSE.RATIO.RATIO c)) ||
    decide (n.f (SENSE.RATIO.RATIO c) ≤ n.f (SENSE.RATIO.PHASE c))) 0x11 ++
  failIf (hasRepeat (srcs.map fun k => n.f (SENSE.EXC.PIN k))) 0x12 ++
  failIf ((o.steer.mode == 1 || o.steer.mode == 2) && o.posChannels.any moved) 0x13 ++
  failIf (tones.any (fun k => decide (n.f (SENSE.EXC.CURRENT k) < n.f (SENSE.TONE.AMP k)) ||
      decide (4095 < n.f (SENSE.EXC.CURRENT k) + n.f (SENSE.TONE.AMP k))) ||
    hasRepeat (tones.map fun k => n.f (SENSE.TONE.CH k))) 0x14 ++
  failIf (n.posChannels.any fun c => !n.fb (SENSE.CFG.EN c)) 0x03

/-! ## Return channels, histograms, rejection, points (R189, R194, R196, R207, R233-R236, R249, R268) -/

/-- The owner code of a bank differs from that of a block that would use it (R357). -/
def bankBad (o n : State) (code : Nat) : Bool := (List.range 32).any fun k => n.blockUses code k && o.owner k != code

/-- A gate beyond what 0.8 ns bins hold (R32, R196). -/
def State.gateFar (n : State) (c : Nat) : Bool := decide (262144 < n.f (TDC.GATE_END.VALUE (c / 48) (c % 48)))

/-- AFEk. -/
def checkAfe (n : State) (k : Nat) : List Nat :=
  failIf ((List.range 48).any fun i => outside 4 64 (n.f (AFE.CFG.DEAD k i))) 0x10

/-- TDCk. Code 0x13 looks at the bins in force and pending (R196). -/
def checkTdc (o n : State) (k : Nat) : List Nat :=
  let ms := List.range 48
  let on := filterRange 48 fun m => n.fb (TDC.MAP.EN k m)
  let srcs := on.map fun m => n.f (TDC.MAP.SRC k m)
  failIf (ms.any fun m => decide (n.f (TDC.GATE_START.VALUE k m) < 320) || decide (522667 < n.f (TDC.GATE_END.VALUE k m)) ||
    decide (n.f (TDC.GATE_END.VALUE k m) ≤ n.f (TDC.GATE_START.VALUE k m) + 128)) 0x10 ++
  failIf (hasRepeat srcs || ms.any fun m => decide (48 ≤ n.f (TDC.MAP.SRC k m))) 0x11 ++
  failIf (!n.gateRule || !n.fitRule) 0x12 ++
  failIf ((!o.fb HIST.MODE.BIN || !n.fb HIST.MODE.BIN) && ms.any fun m => n.gateFar (48 * k + m)) 0x13

/-- KITTY. -/
def checkKitty (n : State) : List Nat :=
  let on := filterRange 16 fun i => n.fb (KITTY.HOST.EN i)
  let chs := on.map fun i => n.f (KITTY.HOST.CH i)
  failIf ((List.range 16).any (fun i => decide (384 ≤ n.f (KITTY.HOST.CH i))) || hasRepeat chs ||
    chs.any fun c => !n.fb (TDC.MAP.EN (c / 48) (c % 48))) 0x10

/-- HIST. Code 0x12 looks at the gates in force and pending (R235). -/
def checkHist (o n : State) : List Nat :=
  let raw := n.f HIST.MODE.MODE == 2
  let dump (i : Nat) : Bool :=
    (n.fb (HIST.DUMP_CH.EN_A i) && decide (383 < n.f (HIST.DUMP_CH.CH_A i))) ||
    (n.fb (HIST.DUMP_CH.EN_B i) && decide (383 < n.f (HIST.DUMP_CH.CH_B i)))
  failIf (n.f HIST.MODE.MODE == 3 || n.f HIST.MODE.FINE == 3) 0x10 ++ failIf (raw && o.modeActive) 0x11 ++
  failIf (!n.fb HIST.MODE.BIN && (List.range 384).any fun c => o.gateFar c || n.gateFar c) 0x12 ++ failIf (n.f HIST.DUMP.SEL == 3 || dump 0 || dump 1) 0x13 ++
  failIf (bankBad o n 2) 0x14

/-- REJ. -/
def checkRej (n : State) : List Nat :=
  failIf (n.f REJ.BG.BG_SRC == 3) 0x10 ++ failIf (outside 2 14 (n.f REJ.VOL.VOL_WIDTH)) 0x11

/-- PNT. -/
def checkPnt (n : State) : List Nat := failIf (decide (8 < n.f PNT.TEMP.DIE_SRC)) 0x10

/-! ## Waveforms (R272-R291) -/

/-- Some enabled source names a channel that the mux given does not select (R277). -/
def State.sourceBad (n : State) (selected : Nat → Nat → Bool) : Bool :=
  (List.range 8).any fun i =>
    let c := n.f (ACQ.SRC_CFG.CH i)
    n.fb (ACQ.SRC_CFG.EN i) && !(decide (c < 384) && selected (c / 48) (c % 48))

/-- ADC. -/
def checkAdc (n : State) : List Nat :=
  failIf ((List.range 8).any (fun k => decide (47 < n.f (ADC.MUX.CH k))) ||
    n.sourceBad fun k m => n.f (ADC.MUX.CH k) == m) 0x10

/-- A measurement window lies outside the record (R289). -/
def State.windowBad (n : State) (start : Int) (len : Nat) : Bool :=
  let pre : Int := n.f ACQ.REC.PRE
  let total : Int := n.f ACQ.REC.LEN
  outside 1 4096 len || decide (start < -pre) || decide (total - pre < start + len)

/-- ACQ. -/
def checkAcq (o n : State) : List Nat :=
  let len := n.f ACQ.REC.LEN
  let pre := n.f ACQ.REC.PRE
  let typeBad (i : Nat) : Bool :=
    n.fb (ACQ.SRC_CFG.EN i) && (n.f (ACQ.SRC_CFG.TYPE i) == 7 ||
      (n.f (ACQ.SRC_CFG.TYPE i) == 5 && decide (n.f (ACQ.SRC_PAR.PAR i) < 1024)))
  failIf (outside 16 4096 len || len % 2 == 1 || decide (1024 < pre) || decide (len ≤ pre) || n.f ACQ.MODE.MODE == 3) 0x10 ++
  failIf (n.sourceBad fun k m => o.f (ADC.MUX.CH k) == m || n.f (ADC.MUX.CH k) == m) 0x11 ++
  failIf (decide (8 < n.f ACQ.MODE.AVG)) 0x12 ++
  failIf (n.windowBad (n.fi ACQ.BASE.START) (n.f ACQ.BASE.LENGTH) || n.windowBad (n.fi ACQ.MWIN.START) (n.f ACQ.MWIN.LENGTH)) 0x13 ++
  failIf (bankBad o n 3) 0x14 ++ failIf (decide (n.f ACQ.RR.HI ≤ n.f ACQ.RR.LO)) 0x15 ++
  failIf ((List.range 8).any typeBad) 0x17

/-! ## Cameras and fusion (R293-R329) -/

/-- The bits per pixel of a data type (R293, R296). -/
def bitsPerPixel (dt : Nat) : Nat := if dt = 0x1E then 16 else 2 * dt - 0x4C

/-- The raster of a port has more than 32,768 cells (R319). -/
def State.rasterBig (n : State) (p : Nat) : Bool :=
  let d := 2 ^ n.f ZONE.PROJ.DEC
  bitOf (n.f ZONE.PROJ.RASTER_EN) p && decide (32768 < divUp (n.camWidth p) d * divUp (n.camHeight p) d)

/-- RGB output of a YUV422 input (R306). -/
def State.rgbOfYuv (n : State) (p : Nat) : Bool := n.f (ISP.CTL.OUT_FMT p) == 1 && n.yuvIn p

/-- RGB lines of a WIDTH that is no multiple of 4 (R307). -/
def State.rgbWidth (n : State) (p : Nat) : Bool := n.f (ISP.CTL.OUT_FMT p) == 1 && n.camWidth p % 4 != 0

/-- The enabled static defects of a port, as places in row-major order. -/
def State.defects (n : State) (p : Nat) : List (Nat × Nat) :=
  (filterRange 128 fun i => n.fb (ISP.DEFECT.EN p i)).map fun i => (n.f (ISP.DEFECT.ROW p i), n.f (ISP.DEFECT.COL p i))

/-- Places in strictly rising row-major order. -/
def rising : List (Nat × Nat) → Bool
  | a :: b :: l => (decide (a.1 < b.1) || (a.1 == b.1 && decide (a.2 < b.2))) && rising (b :: l)
  | _ => true

/-- A static defect table of a port breaks R303. -/
def State.defectsBad (n : State) (p : Nat) : Bool :=
  !rising (n.defects p) || (n.defects p).any fun d => decide (n.camHeight p ≤ d.1) || decide (n.camWidth p ≤ d.2)

/-- CAMp. A defect outside the frame is refused here as a common refusal: DEFECT is a code of the ISP page (R303). -/
def checkCam (o n : State) (p : Nat) : List Nat :=
  let dt := n.f (CAM.STREAM.DT p)
  let dtBad := !([0x2B, 0x2C, 0x2D, 0x2E, 0x1E].contains dt)
  let ports := filterRange 4 fun q => n.camMode q != 0
  let load := ports.foldl (fun t q => t + n.camWidth q * n.camHeight q * 60) 0
  let inline := filterRange 4 fun q => n.camMode q == 1
  let w := n.camWidth p
  let geom := outside 80 2500 (n.f (CAM.PHY.RATE p)) || outside 16 4096 w || w % 2 == 1 || outside 16 4096 (n.camHeight p)
  let nent := n.f (CAM.RELAY.NENT p)
  failIf dtBad 0x10 ++ failIf (decide (1125000000 < load)) 0x11 ++
  failIf (decide (1 < inline.length) || n.f (CAM.STREAM.MODE p) == 3 || (n.camMode p == 1 && !dtBad &&
    decide (1250 * bitsPerPixel dt < (n.f (CAM.PHY.LANES p) + 1) * n.f (CAM.PHY.RATE p)))) 0x12 ++
  failIf (geom || (!geom && decide (65536 / divUp w 2 < 8)) || n.rgbWidth p) 0x13 ++ failIf (bankBad o n (4 + p)) 0x14 ++
  failIf (decide (8 < nent) || n.f (CAM.RELAY.SPEED p) == 3 || n.f (CAM.RELAY.LAT p) == 0) 0x15 ++
  failIf (decide (16666 ≤ n.f (CAM.FSYNC.OFS p) + max 1 (n.f (CAM.FSYNC.WIDTH p)))) 0x16 ++
  failIf (n.rgbOfYuv p || n.rasterBig p || n.defectsBad p) 0x03

/-- ISP (R302, R306, R307). -/
def checkIsp (n : State) : List Nat :=
  let ps := List.range 4
  failIf (ps.any fun p => n.f (ISP.CTL.OUT_FMT p) == 3 || n.rgbOfYuv p) 0x10 ++
  failIf (ps.any n.defectsBad) 0x11 ++
  failIf (ps.any n.rgbWidth) 0x03

/-- A polygon of a zone or field is refused: fewer than 3 vertices, one beyond the pool, ZMIN above ZMAX. -/
def polyBad (first verts pool : Nat) (zmin zmax : Int) : Bool :=
  decide (verts < 3) || decide (pool < first + verts) || decide (zmax < zmin)

/-- ZONE (R319, R322, R329). -/
def checkZone (o n : State) (b : Nat) : List Nat :=
  failIf (decide (3 < n.f ZONE.PROJ.DEC) || (List.range 4).any n.rasterBig) 0x10 ++
  failIf ((List.range 64).any fun z => n.fb (ZONE.ZA.EN z) &&
    polyBad (n.f (ZONE.ZA.FIRST z)) (n.f (ZONE.ZA.NVERT_M1 z) + 1) 192 (n.fi (ZONE.ZB.ZMIN z)) (n.fi (ZONE.ZB.ZMAX z))) 0x11 ++
  failIf ((List.range 4).any fun p => bankBad o n (8 + p)) 0x12 ++ failIf (decide (b < 2)) 0x13

/-! ## Safety (R373, R377, R380, R394, R398, R399) -/

/-- Commits of SAFE and FIELD need COMMISSIONING and the open lock (R394). -/
def State.commissioned (o : State) : Bool := !o.modeActive && o.lockOpen

/-- An input function other than unused is named by an input. -/
def State.funcUsed (n : State) (code : Nat) : Bool := (List.range 8).any fun k => n.f (SAFE.SIN.FUNC k) == code

/-- The test source of the input with a function, 4 and above none. -/
def State.funcTest (n : State) (code : Nat) : Nat :=
  match (List.range 8).find? fun k => n.f (SAFE.SIN.FUNC k) == code with
  | some k => n.f (SAFE.SIN.TEST k)
  | none => 4

/-- The assignment of inputs breaks R373. -/
def State.assignBad (n : State) : Bool :=
  let codes := ((List.range 8).map fun k => n.f (SAFE.SIN.FUNC k)).filter (· != 0)
  let used := n.funcUsed
  let tested (c : Nat) : Bool := decide (n.funcTest c < 4)
  codes.any (fun c => decide (13 < c)) || hasRepeat codes ||
  [1, 3, 5, 7].any (fun c => used c != used (c + 1)) ||
  (List.range 3).any (fun i => used (11 + i) && !used (10 + i)) ||
  [7, 8].any (fun c => used c && tested c) ||
  [1, 2, 3, 4, 5, 6].any (fun c => used c && !tested c) ||
  [1, 3].any (fun c => used c && used (c + 1) && n.funcTest c == n.funcTest (c + 1))

/-- A field of SAFE.TIMES or SAFE.PULSE lies outside its range (R398). -/
def State.timesBad (n : State) : Bool :=
  outside 10 1000 (n.f SAFE.TIMES.EDM_T) || outside 10 3000 (n.f SAFE.TIMES.DISC_T) || outside 10 120 (n.f SAFE.TIMES.IN_FILT) ||
  outside 10 250 (n.f SAFE.PULSE.STP_P) || outside 10 100 (n.f SAFE.PULSE.STP_W) || outside 10 250 (n.f SAFE.PULSE.OP_P) ||
  outside 10 40 (n.f SAFE.PULSE.OP_W)

/-- SAFE. -/
def checkSafe (o n : State) : List Nat :=
  failIf (!o.commissioned) 0x10 ++ failIf n.assignBad 0x11 ++ failIf n.timesBad 0x16

/-- FIELD. -/
def checkField (o n : State) (b : Nat) : List Nat :=
  let scan := n.f FIELD.CFG.N_SCAN
  failIf (outside 2 16 scan || scan % 2 == 1) 0x10 ++
  failIf ((List.range 24).any fun f => n.fb (FIELD.FA.EN f) &&
    polyBad (n.f (FIELD.FA.FIRST f)) (n.f (FIELD.FA.NVERT_M1 f) + 1) 384 (n.fi (FIELD.FB.ZMIN f)) (n.fi (FIELD.FB.ZMAX f))) 0x11 ++
  failIf (!o.commissioned) 0x12 ++ failIf (frameOnlyBad o n 0x09 b) 0x13 ++ failIf (outside 10 1000 (n.f FIELD.SW.SW_T)) 0x14

/-! ## The link and calibration (R342, R343, R347, R443) -/

/-- A test pattern on a lane where R347 does not allow it. -/
def prbsBad (o n : State) : Bool :=
  (List.range 9).any fun l =>
    let sel := bitsOf (n.f TAB.PRBS_TX.SEL) (3 * l) 3
    let on := decide (1 ≤ sel) && decide (sel ≤ 4)
    let allowed :=
      match o.pwr.st with
      | .ready => true
      | .run => o.f TAB.TX_STAT.SPARE == l || bitOf (o.f TAB.TX_STAT.RETEST) l
      | _ => false
    on && !allowed

/-- TAB. -/
def checkTab (o n : State) : List Nat :=
  failIf (n.f TAB.CFG.RX_MODE == 3) 0x10 ++ failIf (outside 10 1000 (n.f TAB.HB.HB_INT)) 0x11 ++ failIf (prbsBad o n) 0x12

/-- CAL. -/
def checkCal (n : State) : List Nat :=
  failIf (n.f CAL.INT.ADC_INT == 0 || n.f CAL.INT.AFE_INT == 0 || n.f CAL.INT.TDC_INT == 0) 0x11

/-- The codes of the checks that fail on a page. -/
def pageCodes (o n : State) (p b : Nat) (late : Bool) : List Nat :=
  failIf (heldEnabled p && !n.enabled p) 0x03 ++
  (if 0x20 ≤ p ∧ p ≤ 0x27 then checkAfe n (p - 0x20)
   else if 0x28 ≤ p ∧ p ≤ 0x2F then checkTdc o n (p - 0x28)
   else if 0x40 ≤ p ∧ p ≤ 0x43 then checkCam o n (p - 0x40)
   else match p with
  | 0x08 => checkSafe o n
  | 0x09 => checkField o n b
  | 0x0C => checkCal n
  | 0x10 => checkDeal o n b ++ failIf late 0x03
  | 0x11 => checkShuf n
  | 0x12 => checkEmit o n b late
  | 0x13 => checkLdb o n b
  | 0x14 => checkSteer o n b
  | 0x15 => checkSense o n
  | 0x30 => checkKitty n
  | 0x31 => checkAdc n
  | 0x32 => checkAcq o n
  | 0x38 => checkHist o n
  | 0x39 => checkRej n
  | 0x3A => checkPnt n
  | 0x3B => checkZone o n b
  | 0x44 => checkIsp n
  | 0x48 => checkTab o n
  | _ => [])

/-- The one code of a refusal (R88): the lowest block code, and COMMIT_REFUSED only where no block code applies. -/
def refusalCode (codes : List Nat) : Option Nat :=
  match codes.filter (fun c => decide (0x10 ≤ c)) with
  | [] => codes.head?
  | c :: cs => some (cs.foldl min c)

end Sys2Proof.Machine
end

