-- ==== Sys2Proof/Machine/Safe.lean ====
section
/-! DEFINITION. SAFE (spec/16): the SAFE cycle with its inputs, functions, tests and outputs, and the password. Times
are counted in SAFE cycles of 50 µs, and within a cycle in units of 10 µs. -/

namespace Sys2Proof.Machine

/-! ## Pins (R368, R372) -/

/-- SAFE runs and the test pulses are sent: STANDBY, READY and RUN (R372). -/
def State.safeRuns (s : State) : Bool := s.pwr.st == .standby || s.pwr.st == .ready || s.pwr.st == .run

/-- The period of the test pulses, 10 µs. -/
def State.stpPeriod (s : State) : Nat := 100 * max 1 (s.f SAFE.PULSE.STP_P)

/-- The time since STPj last began a pulse, 10 µs; none before its first one (R372). -/
def State.stpPhase (s : State) (j : Nat) : Option Nat :=
  let t := 5 * s.safe.cycles
  let first := j * s.stpPeriod / 4
  if t < first then none else some ((t - first) % s.stpPeriod)

/-- The level of STPj (R44, R372). -/
def State.stp (s : State) (j : Nat) : Bool :=
  s.safeRuns && !(s.stpPhase j).any fun p => decide (p < s.f SAFE.PULSE.STP_W)

/-- Samples taken now are masked by STPj (R371). -/
def State.stpMasks (s : State) (j : Nat) : Bool := (s.stpPhase j).any fun p => decide (p < s.f SAFE.PULSE.STP_W + 10)

/-- The sample taken now is the last one at least 50 µs before the end of a pulse of STPj (R372). -/
def State.stpChecks (s : State) (j : Nat) : Bool :=
  (s.stpPhase j).any fun p => decide (p + 5 ≤ s.f SAFE.PULSE.STP_W) && decide (s.f SAFE.PULSE.STP_W < p + 10)

/-- The time since an off-pulse of SOUTn began, 10 µs; none before its first one (R368). -/
def State.opPhase (s : State) (n : Nat) : Option Nat :=
  let p := 200 * max 1 (s.f SAFE.PULSE.OP_P)
  let t := 5 * s.safe.since
  let first := p + n * p / 2
  if t < first then none else some ((t - first) % p)

/-- The level that SAFE drives on SOUTn (R363, R368). -/
def State.sout (s : State) (n : Nat) : Bool :=
  s.safe.on && !(s.opPhase n).any fun p => decide (p < s.f SAFE.PULSE.OP_W)

/-- The readback of SOUTn is judged now: the drive has not changed within the last 50 µs (R368). -/
def State.soutJudged (s : State) (n : Nat) : Bool :=
  decide (1 ≤ s.safe.since) &&
  !(s.safe.on && (s.opPhase n).any fun p =>
      decide (p < 5) || (decide (s.f SAFE.PULSE.OP_W ≤ p) && decide (p < s.f SAFE.PULSE.OP_W + 5)))

/-! ## Inputs (R371, R372) -/

/-- SAFE replaced. -/
def State.setSafe (s : State) (x : Safe) : State := { s with safe := x }

/-- The function of input k (R373). -/
def State.sinFunc (s : State) (k : Nat) : Nat := s.f (SAFE.SIN.FUNC k)

/-- The test source of an assigned input (R372). -/
def State.sinTest (s : State) (k : Nat) : Option Nat :=
  if s.sinFunc k ≠ 0 ∧ s.f (SAFE.SIN.TEST k) < 4 then some (s.f (SAFE.SIN.TEST k)) else none

/-- An input after a sample of its ball (R371, R372): the filtered level changes once the new level has held for
IN_FILT, which are IN_FILT cycles after the first sample of it. -/
def State.sampleIn (s : State) (k : Nat) (ball : Bool) : SafeIn :=
  let x := nth s.safe.ins k {}
  let level := ball != s.fb (SAFE.SIN.POL k)
  let bad := match s.sinTest k with
    | none => false
    | some j => if s.stpChecks j then ball else x.bad
  let x := { x with bad := bad }
  if (s.sinTest k).any s.stpMasks then x
  else if level = x.filt then { x with run := 0 }
  else if s.f SAFE.TIMES.IN_FILT < x.run + 1 then { x with filt := level, run := 0 }
  else { x with run := x.run + 1 }

/-- The input that carries a function code (R373). -/
def State.inputOf (s : State) (code : Nat) : Option Nat := (List.range 8).find? fun k => s.sinFunc k == code

/-- A function code is assigned. -/
def State.inUse (s : State) (code : Nat) : Bool := (s.inputOf code).isSome

/-- The filtered level of a function code; low where none is assigned. -/
def State.level (s : State) (code : Nat) : Bool :=
  match s.inputOf code with
  | some k => (nth s.safe.ins k {}).filt
  | none => false

/-- The function of an input, in the order of SAFE.FSTAT: emergency stop, guard door, two-hand, light curtain, field
code. -/
def groupOfCode (code : Nat) : Option Nat :=
  if code = 1 ∨ code = 2 then some 0
  else if code = 3 ∨ code = 4 then some 1
  else if code = 5 ∨ code = 6 then some 2
  else if code = 7 ∨ code = 8 then some 3
  else if 10 ≤ code ∧ code ≤ 13 then some 4
  else none

/-- The first function code of a function. -/
def groupCode (g : Nat) : Nat := nth [1, 3, 5, 7, 10] g 0

/-- A function has an input whose last test failed. -/
def State.testFails (s : State) (g : Nat) : Bool :=
  (List.range 8).any fun k => (nth s.safe.ins k {}).bad && groupOfCode (s.sinFunc k) == some g

/-- Some input fails its test (R367). -/
def State.anyTestFails (s : State) : Bool := s.safe.ins.any (·.bad)

/-- The inputs after the samples of a SAFE cycle, with SAFE.IN and diagnostic 9 (R371, R372, R385). -/
def State.sampleInputs (s : State) (sin sfb : Nat) : State :=
  let ins := (List.range 8).map fun k => s.sampleIn k (bitOf sin k)
  let sampled := (List.range 8).foldl (fun n k => n + b2n (bitOf sin k != s.fb (SAFE.SIN.POL k)) * 2 ^ k) 0
  let filt := (List.range 8).foldl (fun n k => n + b2n (nth ins k {}).filt * 2 ^ k) 0
  let s := s.setSafe { s.safe with ins := ins }
  let s := (((s.setF SAFE.IN.SAMPLED sampled).setF SAFE.IN.FILTERED filt).setB SAFE.IN.SFB0 (bitOf sfb 0)).setB SAFE.IN.SFB1 (bitOf sfb 1)
  let failing := (List.range 5).filter s.testFails
  let s := s.setSafe { s.safe with locked := s.safe.locked ++ failing.filter fun g => !s.safe.locked.contains g }
  match (List.range 8).find? fun k => (nth ins k {}).bad with
  | some k => s.diagFails 9 (some (SAFE.SIN k))
  | none => s.setFailing 9 false

/-! ## Functions (R374, R375, R382) -/

/-- The pair of function codes behind entry p of the pairs. -/
def pairCode (p : Nat) : Nat := nth [1, 3, 7] p 0

/-- The function of entry p of the pairs. -/
def pairGroup (p : Nat) : Nat := nth [0, 1, 3] p 0

/-- A discrepancy after a cycle (R374): a difference held for DISC_T is a fault, which clears once both show demand. -/
def State.pairStep (s : State) (p : Nat) : PairSt :=
  let x := nth s.safe.pairs p {}
  let c := pairCode p
  let a := s.level c
  let b := s.level (c + 1)
  if !s.inUse c then {}
  else
    let n := if a != b then x.cycles + 1 else 0
    { cycles := n, fault := (x.fault || decide (20 * s.f SAFE.TIMES.DISC_T < n)) && (a || b) }

/-- Two-hand control after a cycle (R375). -/
def State.twoStep (s : State) : TwoHand :=
  let x := s.safe.two
  let l := s.level 5
  let r := s.level 6
  if !s.inUse 5 then {}
  else if !l && !r then { cycles := 0, armed := true, permit := false }
  else if l && r then
    { cycles := x.cycles, armed := false, permit := x.permit || (x.armed && decide (x.cycles ≤ 10000)) }
  else { cycles := if x.permit then 10001 else x.cycles + 1, armed := x.armed && !x.permit, permit := false }

/-- The number that the filtered CODE inputs form (R382). -/
def State.fieldCode (s : State) : Nat := (List.range 4).foldl (fun n i => n + b2n (s.level (10 + i)) * 2 ^ i) 0

/-- What FIELD.CODE maps the field code to: 0 to 7 a set, otherwise invalid (R382). -/
def State.codeSet (s : State) : Nat :=
  let c := s.fieldCode
  bitsOf (s.f (if c < 8 then FIELD.CODE0.CODE else FIELD.CODE1.CODE)) (4 * (c % 8)) 4

/-- The field code is valid; with no CODE input assigned there is none to be invalid. -/
def State.codeValid (s : State) : Bool := !s.inUse 10 || decide (s.codeSet < 8)

/-- A set selected (R382), with SET_CHANGE and the packet of R389. -/
def State.selectSet (s : State) (n : Nat) : State :=
  if s.f SAFE.STATUS.SET = n then s else (((s.setF SAFE.STATUS.SET n).event 0x09 2).showField).safePacket 3

/-- The field code of a cycle (R382): a valid code selects its set at the next cycle. -/
def State.codeStep (s : State) : State :=
  let s := match s.safe.setNext with
    | some n => (s.setSafe { s.safe with setNext := none }).selectSet n
    | none => s
  let s := s.setB SAFE.STATUS.CODE_OK s.codeValid
  if !s.inUse 10 then (s.setSafe { s.safe with codeBad := 0 }).selectSet (s.f FIELD.SW.DEFAULT_SET)
  else if s.codeSet < 8 then s.setSafe { s.safe with codeBad := 0, setNext := some s.codeSet }
  else s.setSafe { s.safe with codeBad := s.safe.codeBad + 1 }

/-- The field code is invalid beyond SW_T of the last valid one (R382). -/
def State.codeDemand (s : State) : Bool := s.inUse 10 && decide (20 * s.f FIELD.SW.SW_T < s.safe.codeBad)

/-- The protective field is in demand: the selected set is field-bearing and its field is violated, or the device is not
in RUN with locked steering and capture complete (R367). -/
def State.fieldDemand (s : State) : Bool := s.fieldBearing && s.violated (s.f SAFE.STATUS.SET)

/-- The discrepancy fault of a function. -/
def State.discrepant (s : State) (g : Nat) : Bool :=
  (List.range 3).any fun p => pairGroup p == g && (nth s.safe.pairs p {}).fault

/-- A function is in demand by its levels, its discrepancy or a test that fails now (R372, R374): 0 to 3 as
SAFE.FSTAT, 4 field switching, 5 the protective field. -/
def State.inDemand (s : State) (g : Nat) : Bool :=
  match g with
  | 2 => s.inUse 5 && (!s.safe.two.permit || s.testFails 2)
  | 4 => s.codeDemand || (s.inUse 10 && s.testFails 4)
  | 5 => s.fieldDemand
  | g =>
    let c := groupCode g
    s.inUse c && (!(s.level c && s.level (c + 1)) || s.discrepant g || s.testFails g)

/-- A function's three bits of SAFE.FSTAT (R398). -/
def State.funcStat (s : State) (g : Nat) : Nat :=
  if !s.inUse (groupCode g) then 0
  else if s.safe.locked.contains g then 4
  else if s.discrepant g then 3
  else if s.inDemand g then 2
  else 1

/-- The demands of a cycle: events and counts as they begin, a restart request as they end (R370, R398). -/
def State.demandStep (s : State) : State :=
  let now := (List.range 6).filter s.inDemand
  let old := s.safe.demands
  let s := s.setSafe { s.safe with demands := now }
  let s := (now.filter fun g => !old.contains g).foldl (fun s _ => (s.incF SAFE.CNT.DEMANDS).event 0x08 3) s
  if s.fb SAFE.FUNC.RESTART && old.any (fun g => g != 2 && !now.contains g) then s.restartRequest else s

/-! ## Reset actuation (R370, R402) -/

/-- The cause of a latched class S fault is still present (R402). -/
def State.causePresent (s : State) (k : Nat) : Bool :=
  match k with
  | 1 => s.failing 1 || (s.fb EMIT.FAULT.HAZ && s.emit.hazDiag)
  | 7 => s.failing 7 || (s.fb EMIT.FAULT.HAZ && s.emit.hazDiag)
  | 13 => s.safe.pairs.any (·.fault)
  | 14 => s.fb (AFE.DBIAS_VAL.OUT 0)
  | 15 => s.fb EMIT.FAULT.HAZ
  | 16 => !s.supv.fed
  | k => s.failing k

/-- An accepted reset actuation (R370): the restart request, and the latched faults whose cause has gone. -/
def State.resetAccepted (s : State) : State :=
  let s := s.setB SAFE.STATUS.RESTART_REQ false
  let hold := s.safe.hold.filter s.causePresent
  let locked := s.safe.locked.filter s.testFails
  (s.setSafe { s.safe with hold := hold, locked := locked }).showPermit

/-- The reset input after a cycle (R370, R396): high for 0.1 to 3.0 s, then low, with no demand but of a two-hand control. -/
def State.resetStep (s : State) : State :=
  let n := s.safe.resetHeld
  if s.level 9 then s.setSafe { s.safe with resetHeld := n + 1 }
  else
    let s := s.setSafe { s.safe with resetHeld := 0 }
    if 2000 ≤ n ∧ n ≤ 60000 ∧ s.safe.demands.all (· == 2) then s.resetAccepted else s

/-! ## Outputs (R363-R369) -/

/-- The feedbacks after a cycle (R369). -/
def State.edmStep (s : State) (sfb : Nat) : State :=
  let x := s.safe
  let want := if x.on then 0 else 3
  let changed := sfb != x.sfb
  if !s.fb SAFE.FUNC.EDM_EN then (s.setSafe { x with sfb := sfb, edmWait := false, edmHeld := 0 }).setFailing 11 false
  else if x.edmWait then
    let late := decide (20 * s.f SAFE.TIMES.EDM_T < x.since)
    let s := s.setSafe { x with sfb := sfb, edmWait := sfb != want && !late, edmHeld := 0 }
    if sfb != want && late then s.diagFails 11 none else s
  else
    let n := if sfb = want then 0 else if changed ∨ 0 < x.edmHeld then x.edmHeld + 1 else 0
    let s := s.setSafe { x with sfb := sfb, edmHeld := if 200 < n then 0 else n }
    if 200 < n then s.diagFails 11 none else if sfb = 3 then s.setFailing 11 false else s

/-- The readback of the output balls (R368): a mismatch is an output-test fault, and low lines that read low pass. -/
def State.readback (s : State) (sout : Nat) : State :=
  let wrong (n : Nat) : Bool := s.soutJudged n && bitOf sout n != s.sout n
  if wrong 0 || wrong 1 then s.diagFails 10 none
  else if s.failing 10 && !s.safe.on && s.soutJudged 0 && sout == 0 then s.setFailing 10 false
  else s

/-- Class S faults that take the outputs while the selected set is field-bearing (R402). -/
def State.watchBearing (s : State) : State :=
  let note (s : State) (k : Nat) (b : Bool) : State :=
    if b && !s.safe.hold.contains k then (if s.fieldBearing then (s.latch k).safePacket 4 else s.latch k) else s
  let k := s.f EMIT.FAULT.KIND
  note (note s 14 (s.fb (AFE.DBIAS_VAL.OUT 0))) 15 (s.fb EMIT.FAULT.HAZ && decide (1 ≤ k) && decide (k ≤ 3) && !s.emit.hazDiag)

/-- A latched fault takes SAFE's permit now (R385, R402): 14 and 15 only while the selected set is field-bearing; those
on the supervisor's path take its permit instead. -/
def State.held (s : State) : Bool :=
  s.safe.hold.any fun k => [1, 3, 9, 10, 11, 13].contains k || ((k == 14 || k == 15) && s.fieldBearing)

/-- The output is in lockout: an input-test, output-test or EDM fault that has not been reset (R363, R368, R369, R372). -/
def State.lockout (s : State) : Bool := [9, 10, 11].any s.safe.hold.contains

/-- SAFE's output permit (R367). -/
def State.safePermit (s : State) (sfb : Nat) : Bool :=
  (List.range 5).all (fun g => !s.inDemand g && !s.safe.locked.contains g) && !s.fieldDemand &&
  !s.fb SAFE.STATUS.RESTART_REQ && (!s.fb SAFE.FUNC.EDM_EN || s.safe.on || sfb == 3) && !s.anyTestFails && !s.held

/-- The command on the outputs is set (R363). -/
def State.command (s : State) (on : Bool) : State :=
  if s.safe.on = on then s else
  (s.setSafe { s.safe with on := on, since := 0, edmWait := s.fb SAFE.FUNC.EDM_EN, edmHeld := 0 }).event 0x08 (b2n on)

/-- SAFE.STATUS.OUT follows the outputs, with LOCKOUT and the packet of R389. -/
def State.showOut (s : State) : State :=
  let v := if s.lockout then 2 else b2n s.safe.on
  let old := s.f SAFE.STATUS.OUT
  if v = old then s else
  let s := s.setF SAFE.STATUS.OUT v
  let s := if v = 2 then (s.incF SAFE.CNT.LOCKOUTS).event 0x08 2 else s
  s.safePacket 2

/-- SAFE.FSTAT follows the functions, the EDM and the output test (R398; log entry 31). -/
def State.showFuncs (s : State) : State :=
  let v := (List.range 5).foldl (fun n g => n + s.funcStat g * 8 ^ g) 0
  let edm := if !s.fb SAFE.FUNC.EDM_EN then 0 else if s.safe.hold.contains 11 then 4 else 1
  let out := if s.safe.hold.contains 10 then 4 else 1
  s.setReg SAFE.FSTAT (BitVec.ofNat 32 (v + edm * 2 ^ 15 + out * 2 ^ 18))

/-- The input functions of a cycle (R374, R375), with the latch of a discrepancy fault (R402). -/
def State.functionStep (s : State) : State :=
  let pairs := (List.range 3).map s.pairStep
  let new := (List.range 3).any fun p => (nth pairs p {}).fault && !(nth s.safe.pairs p {}).fault
  let two := s.twoStep
  let s := s.setSafe { s.safe with pairs := pairs, two := two }
  if new then (s.latch 13).safePacket 4 else s

/-- One SAFE cycle (R364): the inputs, the functions, the tests, the permits, and the command. -/
def State.safeCycle (s : State) (sin sfb sout : Nat) : State :=
  let s := s.setSafe { s.safe with cycles := s.safe.cycles + 1, since := s.safe.since + 1, lastDiag := none }
  let s := s.readback sout
  let s := ((s.fieldCheck.watchBearing).sampleInputs sin sfb).functionStep
  let s := ((s.codeStep.demandStep).resetStep).edmStep sfb
  let s := s.showPermit
  let ok := s.safePermit sfb
  let s := (s.setB SAFE.STATUS.PERMIT ok).setB SAFE.STATUS.FIELD_BEARING s.fieldBearing
  let s := s.command (s.modeActive && ok && s.fb SUPV.STATUS.PERMIT && !s.lockout)
  s.showFuncs.showOut

/-- SAFE_CYCLE (R364): the levels of SIN7 to SIN0, SFB1 and SFB0, and the balls SOUT1 and SOUT0, at the sample. -/
def execSafeCycle (sin : BitVec 8) (sfb sout : BitVec 2) (s : State) : Host.Outcome State Fault Refusal :=
  if s.safeRuns then .next (s.safeCycle sin.toNat sfb.toNat sout.toNat) else .next s

/-- SAFE at an entry to FOLD (R46, R32): the outputs go low, and the functions stop. -/
def State.safeFold (s : State) : State :=
  let s := if s.safe.on then (s.setSafe { s.safe with on := false, since := 0 }).event 0x08 0 else s
  (s.setB SAFE.STATUS.PERMIT false).showOut

/-- A write of 1 to SAFE.CNT_CLR (R398). -/
def State.safeCntClr (s : State) : State := s.setReg SAFE.CNT 0

/-- SAFE_CNT_CLR (R398). -/
def execSafeCntClr (s : State) : Host.Outcome State Fault Refusal := .next s.safeCntClr

/-! ## Response times (R376, R381) -/

/-- SAFE.RESP.INPUT_RESP, 0.01 ms (R376). -/
def State.inputResp (s : State) : Nat :=
  let tested := (List.range 8).any fun k => (s.sinTest k).isSome
  15 + 5 * s.f SAFE.TIMES.IN_FILT + (if tested then s.f SAFE.PULSE.STP_W + 10 else 0)

/-- T of R381, TCLK: the longest frame length that the frame timer gives. -/
def State.longestFrame (s : State) : Nat :=
  let f := s.steer.frame
  if f.sync then f.pEst / 65536 + divUp (f.pEst / 65536 * max 1 (s.f STEER.LOCK_CFG.SLEW)) 65536 else f.length

/-- SAFE.RESP.FIELD_RESP, 0.1 ms rounded up (R381): one TCLK is 0.8 ns. -/
def State.fieldResp (s : State) : Nat := divUp (s.f FIELD.CFG.N_SCAN * s.longestFrame * 8 + 60000000) 1000000

/-- SAFE.RESP as it reads (R398). -/
def State.safeResp (s : State) : Nat := satTo 16 s.fieldResp * 2 ^ 16 + satTo 16 s.inputResp

/-! ## The password (R390, R391) -/

/-- The characters entered: `n` of them from SAFE.PW0 on (R390). -/
def State.pwChars (s : State) (n : Nat) : List Nat :=
  (List.range n).map fun i => bitsOf (nth s.safe.pw (i / 4) 0).toNat (24 - 8 * (i % 4)) 8

/-- The format of an entered password (R390). -/
def State.pwFormat (s : State) (n : Nat) : Bool :=
  decide (6 ≤ n) && decide (n ≤ 12) && (s.pwChars n).all fun c => decide (0x21 ≤ c) && decide (c ≤ 0x7E)

/-- The block on OPEN is in force (R391). -/
def State.pwBlocked (s : State) : Bool := s.led.blockEnd.any fun t => decide (s.mono < t)

/-- Seconds of the block left, rounded up (R398). -/
def State.blockLeft (s : State) : Nat :=
  match s.led.blockEnd with
  | some t => divUp (t - s.mono) (10 ^ 10)
  | none => 0

/-- PW_CTRL.OP OPEN (R391): the check starts, or the operation is refused. -/
def State.pwOpen (s : State) (src d : Nat) : State :=
  let n := bitsOf d 8 4
  if s.safe.check.isSome then s.err 0x05 src SAFE.PW_CTRL
  else if !s.pwFormat n then s.err 0x14 src SAFE.PW_CTRL
  else if s.led.password.isNone then s.err 0x13 src SAFE.PW_CTRL
  else if s.pwBlocked then s.err 0x12 src SAFE.PW_CTRL
  else s.setSafe { s.safe with check := some { src := src, user := bitsOf d 16 16, chars := s.pwChars n } }

/-- PW_OPEN (R391): a write of PW_CTRL with OP 1. -/
def execPwOpen (src : Port) (data : BitVec 32) (s : State) : Host.Outcome State Fault Refusal :=
  .next (s.pwOpen (portSrc src) data.toNat)

/-- PW_CHECK_DONE (R391): a match opens the lock; the third wrong attempt in a row blocks OPEN for 60 s. -/
def execPwCheckDone (s : State) : Host.Outcome State Fault Refusal :=
  match s.safe.check with
  | none => .next s
  | some op =>
    let s := s.setSafe { s.safe with check := none }
    if s.led.password = some op.chars then
      let s := (s.setSafe { s.safe with user := op.user }).setF SAFE.PW_STAT.ATTEMPTS 0
      .next (s.lockOpens.log 0x07 SAFE.PW_CTRL)
    else
      let n := s.f SAFE.PW_STAT.ATTEMPTS + 1
      let s := (s.setF SAFE.PW_STAT.ATTEMPTS n).err 0x13 op.src SAFE.PW_CTRL
      if n < 3 then .next s
      else .next ((s.blockWrite { s.led with blockEnd := some (s.mono + 60 * 10 ^ 10) }).log 0x08 SAFE.PW_CTRL)

/-- PW_BLOCK_END (R391): the block ends, and attempts are counted anew. -/
def execPwBlockEnd (s : State) : Host.Outcome State Fault Refusal :=
  if s.led.blockEnd.isNone then .next s
  else .next ((s.blockWrite { s.led with blockEnd := none }).setF SAFE.PW_STAT.ATTEMPTS 0)

/-- PW_CTRL.OP SET (R391): while the lock is open or no password is stored; it opens the lock. -/
def State.pwSet (s : State) (src d : Nat) : State :=
  let n := bitsOf d 8 4
  if s.pwr.st = .unpowered then s
  else if s.safe.check.isSome then s.err 0x05 src SAFE.PW_CTRL
  else if !s.pwFormat n then s.err 0x14 src SAFE.PW_CTRL
  else if !s.lockOpen && s.led.password.isSome then s.err 0x05 src SAFE.PW_CTRL
  else (s.blockWrite { s.led with password := some (s.pwChars n) }).lockOpens.log 0x05 SAFE.PW_CTRL

/-- PW_SET (R391). -/
def execPwSet (src : Port) (data : BitVec 32) (s : State) : Host.Outcome State Fault Refusal :=
  .next (s.pwSet (portSrc src) data.toNat)

/-- The block words of SAFE and FIELD as they are at reset (R391). -/
def State.resetSafety (s : State) : State :=
  let keep (e : Nat × Word) : Bool := !((e.1 / 0x400 == 0x08 || e.1 / 0x400 == 0x09) && decide (0x10 ≤ e.1 % 0x400))
  { s with regs := s.regs.filter keep, shadow := s.shadow.filter keep }

/-- PW_CTRL.OP ERASE (R391): in READY, with the lock open or closed. -/
def State.pwErase (s : State) (src : Nat) : State :=
  if s.safe.check.isSome || s.pwr.st != .ready then s.err 0x05 src SAFE.PW_CTRL
  else
    let before := s.reg SAFE.CRC
    let s := (s.blockWrite { s.led with password := none }).resetSafety.updateCrc
    (s.setMode false).logAppend 0x06 before SAFE.PW_CTRL

/-- PW_ERASE (R391). -/
def execPwErase (src : Port) (s : State) : Host.Outcome State Fault Refusal := .next (s.pwErase (portSrc src))

end Sys2Proof.Machine
end

