-- ==== Sys2Proof/Machine/Commit.lean ====
section
/-! DEFINITION. Commits (spec/01 R23-R28, R471; spec/04 R88-R92, R106): posting, the latch instant of the lidar pages,
commit events and what they bring with them. -/

namespace Sys2Proof.Machine

/-! ## What follows from a change of settings or state -/

/-- An end-of-line run ends with RESULT 3 and nothing is applied (R442). -/
def State.eolAbandon (s : State) : State :=
  match s.cal.eol with
  | none => s
  | some _ =>
    let s := (s.setB CAL.EOL_STAT.BUSY false).setF CAL.EOL_STAT.RESULT 3
    { s with cal := { s.cal with eol := none } }.event 0x0C 3

/-- The azimuth position of the hand in progress, 0 outside a hand. -/
def State.azNow (s : State) : Nat :=
  match s.deal.cur with
  | some h => h.az
  | none => 0

/-- What follows from a change of state, of the blocks that are on or of settings: steering, zones and fields (R182, R322,
R379), and the end-of-line run (R442). -/
def State.settle (s : State) : State :=
  let s := ((s.steerMode).zoneCheck s.steer.frame.number s.azNow).fieldCheck
  if s.pwr.st = .run then s else s.eolAbandon

/-! ## Which pages, which ports, which instants -/

/-- The lidar pages of R23: DEAL to ZONE, FIELD, ADC and ACQ. -/
def lidarPage (p : Nat) : Bool := (decide (0x10 ≤ p) && decide (p ≤ 0x3B)) || p == 0x09

/-- The CAM pages. -/
def camOf (p : Nat) : Option Nat := if 0x40 ≤ p ∧ p ≤ 0x43 then some (p - 0x40) else none

/-- The port whose settings an ISP word holds, none for CTRL (R328). -/
def ispPort (a : Nat) : Option Nat :=
  let o := a % 0x400
  if 0x40 ≤ o ∧ o < 0xC0 then some ((o - 0x40) / 32)
  else if 0x100 ≤ o ∧ o < 0x200 then some ((o - 0x100) / 64)
  else if 0x200 ≤ o then some ((o - 0x200) / 128)
  else none

/-- The ports whose fields an ISP request changes (R471). -/
def State.ispChanges (s : State) : List Nat := filterRange 4 fun p => (s.changes 0x44).any fun w => ispPort w.1 == some p

/-- The pending request of a page. -/
def State.request (s : State) (p : Nat) : Option CommitReq := s.commits.find? fun c => c.page == p

/-- Every field that a request changes is marked immediate (R92). -/
def State.allImmediate (s : State) (p : Nat) : Bool :=
  (s.changes p).all fun w => (wordClasses w.1 (s.reg w.1) w.2).all (· == .imm)

/-- A request of a page other than ISP takes effect at once (R23, R471). -/
def State.dueNow (s : State) (r : CommitReq) : Bool :=
  if lidarPage r.page then r.boundary == 0 && s.allImmediate r.page
  else match camOf r.page with
  | some p => (decide (r.boundary ≤ 1) && s.portIdle p) || (r.boundary == 0 && s.allImmediate r.page)
  | none => r.page != 0x44 && decide (r.boundary ≤ 2)

/-! ## The check (R88, R89) -/

/-- Register words with the RWS fields of a page taken from their shadows. -/
def State.putShadow (s : State) (m : Cells 32) (p : Nat) : Cells 32 :=
  putRws m ((listedIn p s.shadow m).map fun a => (a, s.shad a))

/-- The settings that the check looks at: the active ones with the latched, the pending and the posted requests over them. -/
def State.proposed (s : State) (ps : List Nat) : State :=
  { s with regs := (s.commits.map (·.page) ++ ps).foldl s.putShadow s.asNext.regs }

/-- The code under which a request is refused, if it is (R88); `second` for the check of R89. -/
def State.judgeRequest (s : State) (p b : Nat) (second : Bool) (posted : List Nat) : Option Nat :=
  refusalCode (pageCodes s (s.proposed posted) p b (second && s.ldb.changes.any fun e => e.1 == p))

/-- A request refused (R88): COMMIT.REFUSED, the page's code and COMMIT_REFUSED. -/
def State.commitRefused (s : State) (p code src : Nat) : State :=
  ((s.setF ⟨hdr p 8, 9, 1⟩ 1).errAt p code src p 8).event p 29

/-- A request withdrawn with its frames. -/
def State.dropRequest (s : State) (p : Nat) : State :=
  { s with commits := s.commits.filter fun c => c.page != p }.dropChanges p

/-! ## What a commit event brings with it -/

/-- The slices that a drained commit empties (R234). -/
def affectedSlices (o n : State) : List Nat :=
  let differs (xs : List Fld) : Bool := xs.any fun x => n.f x != o.f x
  if differs ([HIST.MODE.MODE, HIST.MODE.BIN, HIST.MODE.TRICKS, DEAL.MODE.MODE, DEAL.MODE.GROUPS, DEAL.HANDS.HANDS,
      EMIT.FF_CTRL.FF_SIZE] ++ (List.range 4).map DEAL.GROUP_MAP.MAP) then List.range 32
  else (filterRange 8 fun k => (listedIn (0x28 + k) n.regs o.regs).any fun a =>
      a % 16 == 0 && decide (0x40 ≤ a % 0x400) && n.reg a != o.reg a).flatMap fun k => (List.range 4).map (4 * k + ·)

/-- The Dealer's settings have changed: the slices are judged by the new thresholds (R131). -/
def State.dealCommitted (s old : State) : State :=
  if s.reg DEAL.THROTTLE = old.reg DEAL.THROTTLE then s else (List.range 32).foldl (fun s k => s.throttle k) s

/-- Changed seeds are loaded (R127), but for the groups whose slot 0 of the hand that begins has done so. -/
def State.shufCommitted (s old : State) : State :=
  s.loadSeeds s (filterRange 4 fun g => s.f (SHUF.SEED.SEED g) != old.f (SHUF.SEED.SEED g) && !s.seededNext.contains g)

/-- The active buffer follows ACTIVE_SEL (R139), the count of masked cells the masks (R163), and the monitor loops MPD_USE
(R157). -/
def State.emitCommitted (s : State) : State :=
  let a := s.f EMIT.FF_CTRL.ACTIVE_SEL
  let s := if a = s.f EMIT.FF_CTRL.ACTIVE then s else (s.setF EMIT.FF_CTRL.ACTIVE a).setHeld s.ldb.held
  (filterRange 16 fun k => !bitOf (s.f EMIT.MPD_USE.USED) k).foldl (fun s k => s.mpdUnused k) s.countMasked

/-- LDB enabled or disabled (R86, R150). -/
def State.ldbCommitted (s old : State) : State :=
  if s.enabled 0x13 && !old.enabled 0x13 then (if s.pwr.st = .ready ∨ s.pwr.st = .run then s.ldbStart else s)
  else if !s.enabled 0x13 && old.enabled 0x13 then s.ldbDisable
  else s

/-- An axis enabled in locked mode captures (R182). -/
def State.captures (s : State) (a : Nat) (enabled : Bool) : State :=
  if enabled && (s.axis a).mode == .locked then { s with steer := { s.steer with capturing := true } } else s

/-- An axis whose enable or park drive has changed (R173, R182). -/
def State.steerCommitted (s old : State) : State :=
  [0, 1].foldl (fun s a =>
    if s.fb (STEER.ROLE.AXIS_EN a) != old.fb (STEER.ROLE.AXIS_EN a) ||
      (s.steer.mode == 0 && (s.fb STEER.MODE.PARK_CL != old.fb STEER.MODE.PARK_CL ||
        (!s.fb STEER.MODE.PARK_CL && s.parkCode a != old.parkCode a)))
    then (s.axisMode s.steer.mode a).captures a (s.fb (STEER.ROLE.AXIS_EN a) && !old.fb (STEER.ROLE.AXIS_EN a)) else s) s

/-- The SCLK count restarts (R168): a channel's ORDER, RATIO or PHASE has changed. -/
def restartsCount (o n : State) : Bool :=
  (List.range 8).any fun k => n.f (SENSE.CFG.ORDER k) != o.f (SENSE.CFG.ORDER k) || n.reg (SENSE.RATIO k) != o.reg (SENSE.RATIO k)

/-- The SCLK counts after a commit of SENSE (R168): all restarted, or unknown on a channel that has just been enabled. -/
def State.senseCounts (s old : State) : State :=
  (List.range 8).foldl (fun s n =>
    if restartsCount old s then s.setSenseCh n { s.senseCh n with count := some 0 }
    else if s.fb (SENSE.CFG.EN n) && !old.fb (SENSE.CFG.EN n) then s.setSenseCh n { s.senseCh n with count := none }
    else s) s

/-- A range written waits for the channel's next decimation instant (R169). -/
def State.senseCommitted (s old : State) : State :=
  let s := s.senseCounts old
  (filterRange 8 fun n => s.f (SENSE.CFG.RANGE n) != old.f (SENSE.CFG.RANGE n)).foldl (fun s n =>
    s.setSenseCh n { s.senseCh n with newRange := some (s.f (SENSE.CFG.RANGE n)) }) s

/-- Raw-event dump selected: the dump begins at word 0 (R233). -/
def State.histCommitted (s old : State) : State :=
  if s.f HIST.MODE.MODE = 2 ∧ old.f HIST.MODE.MODE ≠ 2 then
    { s.setReg HIST.RAW_STAT 0 with hist := { (s.setReg HIST.RAW_STAT 0).hist with rawHand := none } }
  else s

/-- A camera port's settings: exposures to relay (R311), and a port turned off, whose frame ends. -/
def State.camCommitted (s old : State) (p : Nat) : State :=
  let s := s.exposureChanged old p
  if s.camMode p = 0 ∧ old.camMode p ≠ 0 then s.closeFrame p else s

/-- The safety configuration: SAFE.CRC, the change log, and the supervisor's own copy of FIELD (R384, R393, R395, R402). -/
def State.safetyCommitted (s : State) (pages : List Nat) : State :=
  let before := s.reg SAFE.CRC
  let s := s.updateCrc
  let s := if pages.contains 0x08 then s.logAppend 0x01 before (hdr 0x08 8) else s
  if pages.contains 0x09 then
    let s := (s.logAppend 0x01 before (hdr 0x09 8)).setFailing 5 false
    { s with supv := { s.supv with copy := s.regs.filter fun e => e.1 / 0x400 == 0x09 } }
  else s

/-- The slices whose layout changes drain (R234 step 1). -/
def State.drainBegins (s old : State) : State :=
  match affectedSlices old s with
  | [] => s
  | l =>
    let more := s.deal.drain.filter fun k => !l.contains k
    { s.setB HIST.STATUS.DRAINING true with deal := { s.deal with drain := l ++ more } }

/-- What the blocks do at new settings of some pages. -/
def State.followPages (s old : State) (pages : List Nat) : State :=
  let on := pages.contains
  let s := if on 0x10 then s.dealCommitted old else s
  let s := if on 0x11 then s.shufCommitted old else s
  let s := if on 0x12 then s.emitCommitted else s
  let s := if on 0x13 then s.ldbCommitted old else s
  let s := if on 0x14 then s.steerCommitted old else s
  let s := if on 0x15 then s.senseCommitted old else s
  let s := if on 0x31 then s.adcChanged old else s
  let s := if on 0x32 then s.acqChanged old else s
  let s := if on 0x38 then s.histCommitted old else s
  let s := if on 0x48 then s.tabCommitted old else s
  (pages.filterMap camOf).foldl (fun s p => s.camCommitted old p) s

/-- The pages whose settings lay out the slices (R28). -/
def layoutPage (p : Nat) : Bool := p == 0x10 || p == 0x12 || p == 0x38 || (decide (0x28 ≤ p) && decide (p ≤ 0x2F))

/-- What follows from new settings of some pages. EMIT and PNT hold RWS fields in words that the safety CRC covers (R393). -/
def State.afterCommit (s old : State) (pages : List Nat) : State :=
  let s := s.followPages old pages
  let s := if pages.any layoutPage then s.drainBegins old else s
  let s := if pages.contains 0x08 || pages.contains 0x09 then s.safetyCommitted pages
    else if pages.contains 0x12 || pages.contains 0x3A then s.updateCrc else s
  s.settle

/-! ## Commit events (R25, R89, R471) -/

/-- The headers of a page that commits (R84, R89): GEN.ACTIVE, DIRTY, DRAINED and COMMIT_DONE. -/
def State.pageCommitted (s : State) (p : Nat) (dirty drained : Bool) : State :=
  let g := (s.reg (hdr p 9)).toNat
  let s := s.setReg (hdr p 9) (BitVec.ofNat 32 ((g + 1) % 256 + b2n dirty * 65536))
  (s.setF ⟨hdr p 8, 10, 1⟩ (b2n drained)).event p 30

/-- A field of some words that is marked drained changes (R91). -/
def State.drainedWords (s : State) (ws : Cells 32) : Bool :=
  ws.any fun w => (wordClasses w.1 (s.reg w.1) w.2).any fun c => c == .drained || c == .frameDrained

/-- The global generation increments (R25). -/
def State.nextGeneration (s : State) : State := s.setF CHIP.GEN.GLOBAL (s.f CHIP.GEN.GLOBAL + 1)

/-- The words of an ISP request that take effect at some ports' instants, with CTRL at the first (R471). -/
def State.ispWords (s : State) (r : CommitReq) (ports : List Nat) : Cells 32 :=
  (s.changes 0x44).filter fun w => match ispPort w.1 with
    | some p => ports.contains p
    | none => !r.begun

/-- The ISP request after some ports' instants. -/
def CommitReq.after (r : CommitReq) (ports : List Nat) : CommitReq :=
  { r with begun := true, ports := r.ports.filter fun p => !ports.contains p }

/-- One commit event: the requests given, whose checks have passed and which are no longer pending, and the ISP request at
the instants of some ports. The later instants of an ISP request are part of no event of their own (R471). -/
def State.commitEvent (s : State) (ls : List Latched) (isp : Option (CommitReq × List Nat)) : State :=
  let iw : Cells 32 := match isp with
    | some (r, ports) => s.ispWords r ports
    | none => []
  let fires := !ls.isEmpty || isp.any fun x => !x.1.begun
  let drained := ls.map fun l => s.drainedWords l.words
  let t := { s with regs := putRws (ls.foldl (fun m l => putRws m l.words) s.regs) iw }
  let t := if fires then t.nextGeneration else t
  let t := (ls.zip drained).foldl (fun t x => t.pageCommitted x.1.page x.1.again x.2) t
  let t := match isp with
    | none => t
    | some (r, ports) =>
      let r' := r.after ports
      let rest := t.commits.filter fun c => c.page != 0x44
      if r'.ports.isEmpty then { t with commits := rest }.pageCommitted 0x44 r'.again false
      else { t with commits := rest ++ [r'] }
  if ls.isEmpty && isp.isNone then t else t.afterCommit s (ls.map (·.page))

/-- A commit event within the lidar frame counts in its trailer (R266). -/
def State.countCommit (s old : State) : State :=
  if s.f CHIP.GEN.GLOBAL = old.f CHIP.GEN.GLOBAL then s
  else s.updFrameCount s.steer.frame.number fun f => if f.ended.isNone then { f with commits := f.commits + 1 } else f

/-- The second check of a pending request (R89): one that fails is refused alone. -/
def State.secondCheck (s : State) (p : Nat) : State :=
  match s.request p with
  | none => s
  | some r =>
    if r.begun then s else
    match s.judgeRequest p r.boundary true [] with
    | some code => (s.dropRequest p).commitRefused p code r.src
    | none => s

/-- The requests of some pages after their second check: no longer pending, and what they make active. -/
def State.takeRequests (s : State) (ps : List Nat) : State × List Latched :=
  let s := ps.foldl State.secondCheck s
  ({ s with commits := s.commits.filter fun c => !ps.contains c.page },
   ps.filterMap fun p => (s.request p).map fun r => { page := p, global := r.global, words := s.changes p })

/-- The ISP request has an instant now: at some of its ports, or because it concerns none (R471). -/
def State.ispDue (s : State) (ports : List Nat) : Bool :=
  (s.request 0x44).any fun r => !ports.isEmpty || r.ports.isEmpty

/-- The ISP request at the instants of some ports. -/
def State.takeIsp (s : State) (ports : List Nat) : Option (CommitReq × List Nat) :=
  if s.ispDue ports then (s.request 0x44).map fun r => (r, ports) else none

/-- The ISP request checked again at its first instant (R89). -/
def State.checkIspRequest (s : State) (ports : List Nat) : State := if s.ispDue ports then s.secondCheck 0x44 else s

/-- The requests of some pages, and of ISP on some ports, take effect together. -/
def State.takeEffect (s : State) (ps isp : List Nat) : State :=
  let (s, ls) := (s.checkIspRequest isp).takeRequests ps
  (s.commitEvent ls (s.takeIsp isp)).countCommit s

/-! ## Posting (R24, R88, R106) -/

/-- The ports on which a pending ISP request takes effect at once (R471). -/
def State.ispNow (s : State) : List Nat :=
  match s.request 0x44 with
  | none => []
  | some r => if r.boundary ≤ 1 then r.ports.filter s.portIdle else []

/-- A request accepted (R88): it replaces an earlier one of its page (R24), and its frames are queued (R143). An ISP
request posted while one is taking effect is held (R471). -/
def State.acceptRequest (s : State) (r : CommitReq) : State :=
  if r.page = 0x44 ∧ (s.request 0x44).any (·.begun) then { s with ispHeld := some r } else
  let s := s.dropRequest r.page
  let s := s.setF ⟨hdr r.page 8, 9, 1⟩ 0
  let r := if r.page = 0x44 then { r with ports := s.ispChanges } else r
  { s with commits := s.commits ++ [r] }.changeFrames r.page

/-- Requests accepted together; those whose instant is now take effect in one commit event. -/
def State.acceptAll (s : State) (rs : List CommitReq) : State :=
  let s := rs.foldl (fun s r => s.acceptRequest r) s
  s.takeEffect ((rs.filter s.dueNow).map (·.page)) s.ispNow

/-- A held ISP request is posted once the earlier one has taken effect on every port (R471). -/
def State.postHeld (s : State) : State :=
  match s.ispHeld with
  | none => s
  | some r =>
    if (s.request 0x44).isSome then s else
    let s := { s with ispHeld := none }
    match s.judgeRequest 0x44 r.boundary false [0x44] with
    | some code => s.commitRefused 0x44 code r.src
    | none => s.acceptAll [r]

/-- Requests that wait for a camera port which has become idle take effect (R471). -/
def State.idleCommits (s : State) : State :=
  let ps := (s.commits.filter fun r => decide (r.boundary ≤ 1) && (camOf r.page).any s.portIdle).map (·.page)
  let i := s.ispNow
  if ps.isEmpty && i.isEmpty then s else (s.takeEffect ps i).postHeld

/-- A request posted by a write of COMMIT (R88). -/
def State.post (s : State) (src p b : Nat) : State :=
  let r : CommitReq := { page := p, boundary := b, global := false, armed := false, ports := [], src := src }
  if p = 0x44 ∧ (s.request 0x44).any (·.begun) then s.acceptRequest r else
  match s.judgeRequest p b false [p] with
  | some code => s.commitRefused p code src
  | none => (s.acceptAll [r]).idleCommits.postHeld

/-- A CANCEL (R90): the pending request is withdrawn; an ISP request that has begun to take effect is not. -/
def State.cancel (s : State) (p : Nat) : State :=
  match s.request p with
  | none => s
  | some r => if r.begun then { s with ispHeld := none } else s.dropRequest p

/-- The pages with a shadow written since their last commit (R84). -/
def State.dirtyPages (s : State) : List Nat := filterRange 0x49 fun p => assigned p && bitOf (s.reg (hdr p 9)).toNat 16

/-- A global commit (R106): requests on every dirty page, all or none, each as if written to the page's COMMIT. -/
def State.globalCommit (s : State) (src b : Nat) : State :=
  let ps := s.dirtyPages
  let bad := ps.filterMap fun p => (s.judgeRequest p b false ps).map fun c => (p, c)
  match bad with
  | [] =>
    let s := ps.foldl (fun s p => s.setF ⟨hdr p 8, 0, 2⟩ b) s
    (s.acceptAll (ps.map fun p => { page := p, boundary := b, global := true, armed := false, ports := [], src := src })).idleCommits.postHeld
  | (q, _) :: _ =>
    let s := bad.foldl (fun s x => s.commitRefused x.1 x.2 src) s
    (s.errAt 0x00 0x03 src q 0x012).event 0x00 29

/-! ## The instants -/

/-- The bus that a capture in progress takes its samples from. -/
def State.capturingBus (s : State) : Option Nat :=
  match s.acq.set with
  | some a =>
    if s.acq.busy then some ((ACQ.SRC_CFG.CH a.primary).get (Cells.get resetWord a.cfg (ACQ.SRC_CFG a.primary)) / 48) else none
  | none => none

/-- The buses that a word of the ADC page concerns (R273). -/
def adcBuses (a : Nat) : List Nat :=
  if ADC.MUX 0 ≤ a ∧ a ≤ ADC.MUX 7 then [a - ADC.MUX 0]
  else if ADC.ACORR 0 ≤ a ∧ a ≤ ADC.ACORR 7 then [a - ADC.ACORR 0]
  else if ADC.CCORR 0 ≤ a ∧ a ≤ ADC.CCORR 383 then [(a - ADC.CCORR 0) / 48]
  else List.range 8

/-- A record is being captured from a bus that words of the ADC page concern (R273). -/
def State.adcWaits (s : State) (ws : Cells 32) : Bool :=
  s.capturingBus.any fun k => ws.any fun w => (adcBuses w.1).contains k

/-- A lidar request is due at the boundary of a hand (R23). -/
def CommitReq.dueAt (r : CommitReq) (first : Bool) : Bool :=
  match r.boundary with
  | 0 | 1 => true
  | 2 => first
  | _ => r.armed && first

/-- The latch instant of a boundary (R26, R89): the requests due are checked again and govern the hand from here on. -/
def State.latchCommits (s : State) (first : Bool) : State :=
  let due := s.commits.filter fun r => lidarPage r.page && r.dueAt first
  let (s, ls) := s.takeRequests (due.map (·.page))
  { s with latched := s.latched ++ ls }

/-- The latched request of ADC goes back where a record is being captured at the boundary (R273): from now on any hand boundary
will do, and outside RUN the end of the record. -/
def State.unlatchAdc (s : State) : State :=
  match s.latched.find? fun l => l.page == 0x31 with
  | none => s
  | some l =>
    if !s.adcWaits l.words then s else
    let r : CommitReq := { page := 0x31, boundary := 1, global := l.global, armed := true, ports := [] }
    { s with
      latched := s.latched.filter fun l => l.page != 0x31
      commits := s.commits ++ (if (s.request 0x31).isSome then [] else [r]) }

/-- The camera requests that take effect at a lidar frame boundary (R471). -/
def State.idleAt (s : State) (due : CommitReq → Bool) : List Nat × List Nat :=
  ((s.commits.filter fun r => due r && (camOf r.page).any s.portIdle).map (·.page),
   (s.commits.filter fun r => r.page == 0x44 && due r).flatMap fun r => r.ports.filter s.portIdle)

/-- The commit event of a lidar boundary: what was latched, and at a frame boundary the requests of idle camera ports. That
of a frame boundary counts in the frame that begins with it, whose counts do not stand yet (R266). -/
def State.boundaryCommits (s : State) (first : Bool) : State :=
  let s := s.unlatchAdc
  let (ps, isp) := if first then s.idleAt (fun r => r.boundary == 2) else ([], [])
  let (s, ls) := (s.checkIspRequest isp).takeRequests ps
  let t := { s with latched := [] }.commitEvent (s.latched ++ ls) (s.takeIsp isp)
  ((if first then t else t.countCommit s).idleCommits).postHeld

/-- An edge on SYNC_IN (R23, R24): boundary 3 of the supporting pages and of idle camera ports takes effect, and the other
requests await their frame: the first one whose settings are latched after the edge (DEDUCED, log entry 11). -/
def State.edgeCommits (s : State) : State :=
  let sup := (s.commits.filter fun r => r.boundary == 3 && !lidarPage r.page && (camOf r.page).isNone && r.page != 0x44).map (·.page)
  let (cams, isp) := s.idleAt (fun r => r.boundary == 3)
  let s := (s.takeEffect (sup ++ cams) isp).idleCommits.postHeld
  { s with commits := s.commits.map fun r => if r.boundary = 3 then { r with armed := true } else r }

/-- A camera port's start of frame (R23, R471): its requests take effect, but for boundary 3 before the edge. -/
def State.cameraCommits (s : State) (p : Nat) : State :=
  if s.portIdle p then s else
  let due (r : CommitReq) : Bool := decide (r.boundary < 3) || r.armed
  let ps := (s.commits.filter fun r => camOf r.page == some p && due r).map (·.page)
  let isp := if s.commits.any fun r => r.page == 0x44 && due r && r.ports.contains p then [p] else []
  if ps.isEmpty && isp.isEmpty then s else (s.takeEffect ps isp).idleCommits.postHeld

/-- The end of a record outside RUN lets a waiting ADC request take effect (R273). -/
def State.adcCommits (s : State) : State :=
  match s.request 0x31 with
  | some r => if r.armed && r.boundary == 1 && s.pwr.st != .run && !s.adcWaits (s.changes 0x31) then s.takeEffect [0x31] [] else s
  | none => s

/-- RECORD_CAPTURE_DONE (R273, R280, R291): the samples with OR outside the capture come with it (log entry 108). -/
def execRecordCaptureDone (capture : RecordSamples) (s : State) : Host.Outcome State Fault Refusal :=
  .next ((s.countOvers capture.overs).captureDone capture.samples).adcCommits

/-! ## Writes of shadows (R90) -/

/-- An RWS field of a word has been written: DIRTY, the frames of a pending request (R143), and what has been latched or
has begun to take effect already does not take it in (R90). -/
def State.shadowWritten (s : State) (a : Nat) : State :=
  let p := a / 0x400
  let s := s.setF ⟨hdr p 9, 16, 1⟩ 1
  let s := { s with
    latched := s.latched.map fun l => if l.page = p then { l with again := true } else l
    commits := s.commits.map fun r =>
      if r.page ≠ 0x44 ∨ p ≠ 0x44 then r
      else if !r.begun then { r with ports := s.ispChanges }
      else match ispPort a with
      | some q => if r.ports.contains q then r else { r with again := true }
      | none => { r with again := true } }
  if p = 0x44 then (if s.ispDue [] then (s.takeEffect [] []).postHeld else s)
  else if (s.request p).isSome && (p == 0x10 || p == 0x12) then s.queueChanges p (s.wordFrames a) else s

/-- COMMIT_REQUEST (R88): a write of COMMIT with REQ at 1. -/
def State.commitWrite (s : State) (src p b : Nat) : State :=
  if assigned p then (s.setF ⟨hdr p 8, 0, 2⟩ b).post src p b else s

/-- GLOBAL_COMMIT (R106): a write of CHIP.GCOMMIT with REQ at 1. -/
def State.gcommitWrite (s : State) (src b : Nat) : State := (s.setF CHIP.GCOMMIT.BOUNDARY b).globalCommit src b

end Sys2Proof.Machine
end

