-- ==== Sys2Proof/Machine/Images.lean ====
section
/-! DEFINITION. The image slots of the ledger and the commands on them (spec/17 R408-R418): layouts, checks, STORE,
CHECK, and the firmware commands. -/

namespace Sys2Proof.Machine

/-! ## Reading the ledger -/

/-- An access to a ledger word (R82, R445): a corrected error is counted and written back, an uncorrectable one counted
and latched. -/
def State.ledgerAccess (s : State) (src a : Nat) : State :=
  match s.ecc.find? fun e => e.1 == a with
  | some (_, true) => ((s.addF ⟨LEDGER.ECC, 0, 16⟩ 1).event 0x0A 2).errAt 0x0A 0x07 src 0x0A (a % 1024)
  | some (_, false) =>
    { ((s.addF ⟨LEDGER.ECC, 16, 16⟩ 1).event 0x0A 1) with ecc := s.ecc.filter fun e => e.1 != a }
  | none => s

/-- A span of ledger words read by the device, with the errors that it meets. -/
def State.ledgerScan (s : State) (base n : Nat) : State :=
  ((s.ecc.map Prod.fst).filter fun a => decide (base ≤ a ∧ a < base + n)).foldl (fun s a => s.ledgerAccess 0 a) s

/-- A word in a span is uncorrectable. -/
def State.spanBad (s : State) (base n : Nat) : Bool := s.ecc.any fun e => e.2 && decide (base ≤ e.1 ∧ e.1 < base + n)

/-! ## Configuration images (R409) -/

/-- A record of an image: its first address and its data words. -/
abbrev Record := Nat × List Word36

/-- Words of a memory from an address on. -/
def State.rdSpan (s : State) (a n : Nat) : List Word36 := (List.range n).map fun i => s.rd (a + i)

/-- A record keeps to the rules of R409: register words of one page other than PWR and BOOT with bits [35:32] zero, the
place-0 words of a ring, or firing-frame entries. -/
def recordOk (r : Record) : Bool :=
  let (a, ws) := r
  let last := a + ws.length - 1
  if a < 0x40000 then
    let p := a / 0x400
    decide (last / 0x400 = p) && p != 2 && p != 3 && ws.all fun w => decide (w.toNat < 2 ^ 32)
  else if memRegion a = 1 then memRegion last == 1 && (List.range ws.length).all fun i => decide ((a + i) % 32 < 2)
  else memRegion a == 2 && memRegion last == 2

/-- The records in the words of an image from its word `i` on to its word `n`; none where they do not fill it exactly
or one breaks R409. -/
def State.records (s : State) (base n i : Nat) : Nat → Option (List Record)
  | 0 => if i = n then some [] else none
  | fuel + 1 =>
    if i = n then some []
    else
      let w := s.rd (base + i)
      let len := bitsOf w.toNat 24 12 + 1
      if n < i + 1 + len then none else
      let r : Record := (bitsOf w.toNat 0 24, s.rdSpan (base + i + 1) len)
      if recordOk r then (s.records base n (i + 1 + len) fuel).map (r :: ·) else none

/-- NWORDS of the configuration image in a slot. -/
def State.cfgLength (s : State) (n : Nat) : Nat := s.rdN (slotBase n + 1) 0 32

/-- The header and the CRC of a configuration image are right (R409). -/
def State.cfgCrcOk (s : State) (n : Nat) : Bool :=
  let b := slotBase n
  let len := s.cfgLength n
  let head := (s.rd b).toNat
  bitsOf head 28 8 == 1 && bitsOf head 20 8 == 1 && decide (8 ≤ len) && decide (len ≤ 65536) && !s.spanBad b len &&
  packetCrc (s.rdSpan b 3 ++ s.rdSpan (b + 5) (len - 6)) == s.rdN (b + len - 1) 0 32

/-- The records of a valid configuration image; none for an invalid one (R409). -/
def State.cfgRecords (s : State) (n : Nat) : Option (List Record) :=
  if s.cfgCrcOk n then s.records (slotBase n) (s.cfgLength n - 1) 6 (s.cfgLength n) else none

/-- IMAGE_ID of a slot (R409). -/
def State.imageId (s : State) (n : Nat) : Nat := s.rdN (slotBase n + 2) 0 32

/-- The OK bit of a slot in BOOT.IMAGE. -/
def okBit (n : Nat) : Fld :=
  match n with
  | 0 => BOOT.IMAGE.CFG_A_OK
  | 1 => BOOT.IMAGE.CFG_B_OK
  | 2 => BOOT.IMAGE.FW_A_OK
  | _ => BOOT.IMAGE.FW_B_OK

/-- The active configuration slot is the one that is loaded, which after a fallback is not the one recorded in the ledger
(DEDUCED, log entry 36); this is the other one. -/
def State.cfgInactive (s : State) : Nat := 1 - s.f BOOT.IMAGE.CFG_ACTIVE

/-- The slot of the firmware image that runs, and the other one. -/
def State.fwRunning (s : State) : Nat := 2 + s.f BOOT.IMAGE.FW_ACTIVE

def State.fwInactive (s : State) : Nat := 3 - s.f BOOT.IMAGE.FW_ACTIVE

/-- Both configuration slots checked into BOOT.IMAGE (R63, R418). -/
def State.cfgCheckAll (s : State) : State :=
  [0, 1].foldl (fun s n => (s.setB (okBit n) (s.cfgRecords n).isSome).ledgerScan (slotBase n) (min 65536 (s.cfgLength n))) s

/-! ## Commands of FW_CMD and CFG_CMD (R417) -/

/-- A command of FW_CMD or CFG_CMD is running. -/
def State.changeBusy (s : State) : Bool := s.img.fw.isSome || s.img.cfg.isSome

/-- The slot that holds a firmware or configuration command (R408): the commands work on the inactive slots. -/
def State.slotBusy (s : State) (n : Nat) : Bool := if n < 2 then s.img.cfg.isSome else s.img.fw.isSome

/-- A host write to an image slot (R408); false where it is refused with code SLOT. Words 3 and 4 of a configuration slot
store zero. -/
def State.slotWrite (s : State) (src a : Nat) (v : Word36) : State × Bool :=
  let n := (a - 0xC00000) / 0x10000
  let w := a % 0x10000
  let active := if n < 2 then n != s.cfgInactive else n == s.fwRunning
  if active || s.slotBusy n || (decide (n < 2) && !s.lockOpen) then (s.errAt 0x03 0x10 src 0x03 (a % 1024), false)
  else
    let v : Word36 := if n < 2 ∧ (w = 3 ∨ w = 4) then 0 else v
    ((s.ledWrite a v).setB (okBit n) false, true)

/-! ## STORE and CHECK (R411, R418) -/

/-- The stored fields of a register word: RW, RWS and RWL. -/
def storedMask (a : Nat) : Word := accMask a .rw ||| accMask a .rws ||| accMask a .rwl

/-- The words of a page that STORE writes: those that hold an RW, RWS or RWL field, other than COMMIT and GEN. -/
def storedOffsets (p : Nat) : List Nat :=
  [1, 4, 10] ++ sortBy (fun a b => decide (a < b))
    (rowOffsets p .rw ++ rowOffsets p .rws ++ rowOffsets p .rwl).eraseDups

/-- The value of the stored fields of a register word; OFF_REQ of a PWR word is its domain's bit of PWR.DOMAIN (R84). -/
def State.storedValue (s : State) (a : Nat) : Word :=
  if a % 0x400 = 10 then BitVec.ofNat 32 (bitsOf (s.f PWR.DOMAIN.OFF_REQ) (pageDomain (a / 0x400)) 1) else s.reg a &&& storedMask a

/-- A record of one register word. The bits of other access codes are stored as zero (DESIGN CHOICE, log entry 33: they
are ignored at a load). -/
def State.registerRecord (s : State) (a : Nat) : List Word36 := [w36 a, (s.storedValue a).setWidth 36]

/-- Records of at most 4,096 words from an address on. -/
def State.memoryRecords (s : State) (a n : Nat) : Nat → List Word36
  | 0 => []
  | fuel + 1 =>
    if n = 0 then [] else
    let k := min n 4096
    (w36 ((k - 1) * 2 ^ 24 + a) :: s.rdSpan a k) ++ s.memoryRecords (a + k) (n - k) fuel

/-- The records that STORE writes (R411). -/
def State.storedRecords (s : State) : List Word36 :=
  let pages := filterRange 0x49 fun p => assigned p && p != 2 && p != 3
  let regs := pages.flatMap fun p => (storedOffsets p).flatMap fun o => s.registerRecord (0x400 * p + o)
  let rings := (List.range 8192).flatMap fun t => w36 (2 ^ 24 + (0xA00000 + 32 * t)) :: s.rdSpan (0xA00000 + 32 * t) 2
  regs ++ rings ++ s.memoryRecords (0xA40000 + 0x2000 * s.f EMIT.FF_CTRL.ACTIVE) (s.f EMIT.FF_CTRL.FF_SIZE) 8192

/-- The words of the image that STORE writes, with the CRC last (R409, R411). The integrator chooses IMAGE_ID, and the
spec says of no word that STORE puts there: a free value (log entry 34). -/
def State.storedImage (s : State) (id : Nat) : List Word36 :=
  let recs := s.storedRecords
  let head := [w36 (2 ^ 28 + 2 ^ 20), w36 (recs.length + 7), w36 (id % 2 ^ 32)]
  let conf : List Word36 :=
    if s.modeActive then [w36 (2 ^ 31), (s.reg SAFE.CRC).setWidth 36] else [0, 0]
  let body := (0 : Word36) :: recs
  head ++ conf ++ body ++ [w36 (packetCrc (head ++ body))]

/-- A BOOT command refused. -/
def State.bootRefuse (s : State) (code src a : Nat) : State := s.err code src a

/-- CFG_CMD STORE (R411): with the lock open. -/
def State.cfgStore (s : State) (src : Nat) : State :=
  if s.changeBusy then s.bootRefuse 0x11 src BOOT.CFG_CMD
  else if !s.lockOpen then s.bootRefuse 0x12 src BOOT.CFG_CMD
  else
    let (k, s) := s.takeFree
    let b := slotBase s.cfgInactive
    let ws := s.storedImage (Config.freeNat k)
    let s := ((List.range ws.length).zip ws).foldl (fun s x => s.ledWrite (b + x.1) x.2) s
    let s := (s.setB (okBit s.cfgInactive) false).setB BOOT.CFG_STAT.BUSY true
    { s with img := { s.img with cfg := some .store } }

/-- CFG_STORE (R411). -/
def execCfgStore (src : Port) (s : State) : Host.Outcome State Fault Refusal := .next (s.cfgStore (portSrc src))

/-- CFG_STORE_DONE (R411). -/
def execCfgStoreDone (s : State) : Host.Outcome State Fault Refusal :=
  if s.img.cfg = some .store then .next ((s.setB (okBit s.cfgInactive) true).cfgEnds 1) else .next s

/-- CFG_CMD CHECK (R418): the CRC of both slots into BOOT.IMAGE, with no result of its own. -/
def State.cfgCheck (s : State) (src : Nat) : State :=
  if s.changeBusy then s.bootRefuse 0x11 src BOOT.CFG_CMD else s.cfgCheckAll.cfgEnds 0

/-- CFG_CHECK (R418). -/
def execCfgCheck (src : Port) (s : State) : Host.Outcome State Fault Refusal := .next (s.cfgCheck (portSrc src))

/-! ## Firmware images (R413-R416) -/

/-- Words of a firmware image whose N is `n`: header, code and signature (R413). -/
def fwWords (n : Nat) : Nat := n + 19

/-- The layout of a firmware image is right (R413). -/
def State.fwLayoutOk (s : State) (n : Nat) : Bool :=
  let b := slotBase n
  let k := s.rdN (b + 1) 0 32
  s.rdN b 24 8 == 2 && decide (1 ≤ k) && decide (k ≤ 65517) && !s.spanBad b (fwWords k) &&
  (s.rdSpan b (fwWords k)).all fun w => decide (w.toNat < 2 ^ 32)

/-- VERSION of a firmware slot, 0 while its image is not marked valid (R418). -/
def State.fwVersion (s : State) (n : Nat) : Nat := if s.fb (okBit n) then s.rdN (slotBase n) 0 16 else 0

/-- FW_CMD VERIFY (R413). -/
def State.fwVerify (s : State) (src : Nat) : State :=
  if s.changeBusy then s.bootRefuse 0x11 src BOOT.FW_CMD
  else { s.setB BOOT.FW_STAT.BUSY true with img := { s.img with fw := some .verify } }

/-- FW_VERIFY (R413). -/
def execFwVerify (src : Port) (s : State) : Host.Outcome State Fault Refusal := .next (s.fwVerify (portSrc src))

/-- FW_VERIFY_DONE (R413): `signed` says that the signature is good. Layout is judged first, then the signature, then
the version (DEDUCED, log entry 35). -/
def execFwVerifyDone (signed : Bool) (s : State) : Host.Outcome State Fault Refusal :=
  if s.img.fw ≠ some .verify then .next s else
  let n := s.fwInactive
  let s := s.ledgerScan (slotBase n) (fwWords (min 65517 (s.rdN (slotBase n + 1) 0 32)))
  if !s.fwLayoutOk n then .next (s.fwEnds 4 none)
  else if !signed then .next (s.fwEnds 2 none)
  else if s.rdN (slotBase n) 0 16 < s.led.fwMin then .next (s.fwEnds 3 none)
  else .next ((s.setB (okBit n) true).fwEnds 1 none)

/-- FW_CMD SWAP (R414): in READY and RUN with the lock open and the inactive slot verified; otherwise STATE. -/
def State.fwSwap (s : State) (src : Nat) : State :=
  if s.changeBusy then s.bootRefuse 0x11 src BOOT.FW_CMD
  else if (s.pwr.st = .ready ∨ s.pwr.st = .run) ∧ s.lockOpen ∧ s.fb (okBit s.fwInactive) then
    { s.setB BOOT.FW_STAT.BUSY true with img := { s.img with fw := some .swapWaits } }
  else s.bootRefuse 0x12 src BOOT.FW_CMD

/-- FW_SWAP (R414). -/
def execFwSwap (src : Port) (s : State) : Host.Outcome State Fault Refusal := .next (s.fwSwap (portSrc src))

/-- FW_SWAP_STOP (R414 step 1): the first lidar frame boundary after the command. -/
def execFwSwapStop (s : State) : Host.Outcome State Fault Refusal :=
  if s.img.fw = some .swapWaits then
    .next { s.setB SUPV.STATUS.PAUSED true with img := { s.img with fw := some .stopped } }
  else .next s

/-- The running firmware image changes (R414, R415): BOOT.IMAGE and the ledger's record of it. -/
def State.fwFlip (s : State) : State :=
  let n := s.fwInactive - 2
  (s.setF BOOT.IMAGE.FW_ACTIVE n).blockWrite { s.led with fwActive := n }

/-- FW_IMAGE_START (R414 step 2). -/
def execFwImageStart (s : State) : Host.Outcome State Fault Refusal :=
  if s.img.fw = some .stopped then
    .next (({ s with img := { s.img with fw := some .started } }.fwFlip).log 0x09 BOOT.FW_CMD)
  else .next s

/-- The previous firmware image is restarted after a swap that has not confirmed (R415). -/
def State.swapFails (s : State) (started : Bool) : State :=
  let bad := if started then s.fwRunning else s.fwInactive
  let s := if started then s.fwFlip else s
  let s := (s.setB (okBit bad) false).setB SUPV.STATUS.PAUSED false
  let s := { s with supv := { s.supv with fed := false } }
  let s := ((s.fwEnds 6 none).event 0x03 1).latch 16
  s.showPermit.safePacket 4

/-- FW_SWAP_TIMEOUT (R415, R388): 20 ms after the stop without a confirmed permit. -/
def execFwSwapTimeout (s : State) : Host.Outcome State Fault Refusal :=
  match s.img.fw with
  | some .stopped => .next (s.swapFails false)
  | some .started => .next (s.swapFails true)
  | _ => .next s

/-- FW_CMD RAISE_MIN (R416): with the lock open; otherwise STATE. It ends at once, with the RESULT before it. -/
def State.fwRaiseMin (s : State) (src : Nat) : State :=
  if s.changeBusy then s.bootRefuse 0x11 src BOOT.FW_CMD
  else if !s.lockOpen then s.bootRefuse 0x12 src BOOT.FW_CMD
  else
    let v := s.rdN (slotBase s.fwRunning) 0 16
    let s := s.blockWrite { s.led with fwMin := v }
    s.event 0x03 0

/-- FW_RAISE_MIN (R416). -/
def execFwRaiseMin (src : Port) (s : State) : Host.Outcome State Fault Refusal := .next (s.fwRaiseMin (portSrc src))

end Sys2Proof.Machine
end

