-- ==== Sys2Proof/Machine/Ledger.lean ====
section
/-! DEFINITION. The ledger's blocks and records (spec/18 R432, R439-R445): boot parameters, calibration records, LEDGER.CMD,
and what a cut write leaves. -/

namespace Sys2Proof.Machine

/-! ## Boot parameters (R56, R441) -/

/-- A copy of the boot parameter block can be read (R56, R439); one never written counts as readable (DEDUCED, log entry 25). -/
def State.bootpReadable (s : State) : Bool := !(s.spanBad 0xC40000 16 && s.spanBad 0xC40010 16)

/-- The boot parameters in force from the end of the power-good wait on (R56, R79, R441): the ledger's, or the defaults. -/
def State.loadBootp (s : State) : State :=
  match s.led.bootp with
  | some w =>
    if s.bootpReadable then
      let s := (s.setReg BOOT.PARAM w).setReg LEDGER.BOOTP w
      s.setF CLK.REFSEL.PREF (s.f BOOT.PARAM.REF_PREF)
    else s
  | none => s

/-- Wear of the words of a span that one write of them adds (R440). -/
def State.wearSpan (s : State) (a n : Nat) : State :=
  let zero : Nat → BitVec 32 := fun _ => 0
  { s with led := { s.led with
    wear := (List.range n).foldl (fun w i => Cells.set zero w (a + i) (Cells.get zero w (a + i) + 1)) s.led.wear } }

/-- LEDGER.WEAR (R440, R445): the highest write count of any word, in units of 2^20. Words whose place in their area the
spec does not give are not counted (log entry 37). -/
def State.ledgerWear (s : State) : Nat := s.led.wear.foldl (fun m e => max m e.2.toNat) 0 / 2 ^ 20

/-- Both copies of the boot parameter block written from LEDGER.BOOTP (R441). -/
def State.bootpDone (s : State) : State :=
  let w := s.reg LEDGER.BOOTP
  let s := { s.blockWrite { s.led with bootp := some w } with
    ecc := s.ecc.filter fun e => !decide (0xC40000 ≤ e.1 ∧ e.1 < 0xC40020) }
  (s.wearSpan 0xC40000 32).setReg BOOT.PARAM w

/-! ## Calibration records (R432) -/

/-- The register words that hold the results of an item (R424-R431): none for EOL, whose offsets belong to the
configuration. -/
def calWords (item : Nat) : List Nat :=
  match item with
  | 0 => (List.range 8).flatMap fun p => (List.range 48).flatMap fun m => [TDC.LIN p m, TDC.INL_A p m, TDC.INL_B p m]
  | 1 => (List.range 16).flatMap fun n => [KITTY.LIN n, KITTY.INL_A n, KITTY.INL_B n, KITTY.XOFS_A n, KITTY.XOFS_B n]
  | 2 => (List.range 8).map TDC.DLL
  | 3 => (List.range 8).flatMap fun p => (List.range 48).map fun m => AFE.CAL p m
  | 4 => (List.range 9).map ADC.ACORR
  | 5 => [KITTY.DUMMY_D0]
  | _ => []

/-- The bits of such a word that are results: of TDC.DLL the cell selections alone. -/
def calMask (item a : Nat) : Word := if item = 2 then 0x03FF03FF else definedMask a

/-- Result words put into their registers. -/
def State.putResults (s : State) (item : Nat) (ws : Cells 32) : State :=
  ws.foldl (fun s e => s.setReg e.1 ((s.reg e.1 &&& ~~~(calMask item e.1)) ||| (e.2 &&& calMask item e.1))) s

/-- The record of an item as its registers stand. -/
def State.calRecord (s : State) (item : Nat) : CalRecord :=
  { count := s.f (CAL.COUNT.COUNT item)
    time := s.f (CAL.TIME_HI.TIME_HI item) * 2 ^ 32 + s.f (CAL.TIME_LO.TIME_LO item)
    date := s.reg (CAL.DATE item)
    regs := (calWords item).map fun a => (a, s.reg a &&& calMask item a) }

/-- A calibration record loaded (R432); an input without a usable pair is DEAD (R189). -/
def State.loadCalItem (s : State) (item : Nat) : State :=
  match nth s.led.cal item none with
  | none => s
  | some r =>
    let s := (s.setF (CAL.COUNT.COUNT item) r.count).setReg (CAL.DATE item) r.date
    let s := (s.setF (CAL.TIME_HI.TIME_HI item) (r.time / 2 ^ 32)).setF (CAL.TIME_LO.TIME_LO item) (r.time % 2 ^ 32)
    (afeInputs r.regs).foldl State.judgePairs (s.putResults item r.regs)

/-- The calibration records at the configuration load (R432): CAL_INVALID where an item has none. -/
def State.loadCal (s : State) : State :=
  let s := (List.range 7).foldl (fun s i => s.loadCalItem i) s
  (s.eventIf (s.led.cal.any Option.isNone) 0x0C 2).updateCrc

/-- The records of some items stored (R432, R439). -/
def State.calStored (s : State) (items : List Nat) : State :=
  let cal := items.foldl (fun l i => setNth l i (some (s.calRecord i))) s.led.cal
  s.blockWrite { s.led with cal := cal }

/-! ## Block writes (R441, R445) -/

/-- A block write is queued behind those under way (R442). -/
def State.ledgerQueue (s : State) (op : LedgerOp) : State :=
  { s with led := { s.led with ops := s.led.ops ++ [op] } }.setB LEDGER.STAT.BUSY true

/-- A write of LEDGER.CMD (R445): 1 WRITE_BOOTP, 2 all calibration records. -/
def State.ledgerCmd (s : State) (src cmd : Nat) : State :=
  if s.pwr.st = .unpowered then s
  else if cmd ≠ 1 ∧ cmd ≠ 2 then s.err 0x05 src LEDGER.CMD
  else if !s.led.ops.isEmpty then s.err 0x10 src LEDGER.CMD
  else s.ledgerQueue (if cmd = 1 then .bootp else .cal (List.range 7))

/-- LEDGER_WRITE_BOOTP (R441). -/
def execLedgerWriteBootp (src : Port) (s : State) : Host.Outcome State Fault Refusal := .next (s.ledgerCmd (portSrc src) 1)

/-- LEDGER_STORE_CAL (R445). -/
def execLedgerStoreCal (src : Port) (s : State) : Host.Outcome State Fault Refusal := .next (s.ledgerCmd (portSrc src) 2)

/-- LEDGER_WRITE_DONE (R439, R441, R445): the oldest block write is complete. -/
def execLedgerWriteDone (s : State) : Host.Outcome State Fault Refusal :=
  match s.led.ops with
  | [] => .next s
  | op :: ops =>
    let s := match op with
      | .bootp => s.bootpDone
      | .cal items => s.calStored items
    let s := { s with led := { s.led with ops := ops } }.setB LEDGER.STAT.BUSY (!ops.isEmpty)
    .next (s.event 0x0A 0)

/-- LEDGER.STAT.PENDING (R445): how many words a block write queues is not stated (log entry 32). -/
def State.ledgerPending (s : State) : Nat :=
  if s.led.ops.isEmpty then 0 else Config.ledgerPending s.lost.blocks s.led.ops.length % 256

/-! ## The ledger check and what a cut leaves (R63, R439) -/

/-- The ledger check marks the firmware images (R63): the one recorded as active runs, or the other where it fails. -/
def State.ledgerCheck (s : State) (a b : Bool) : State :=
  let s := ((s.ledgerScan 0xC20000 0x20000).ledgerScan 0xC40000 0x20).ledgerScan 0xC50000 0x20000
  let s := (s.setB BOOT.IMAGE.FW_A_OK a).setB BOOT.IMAGE.FW_B_OK b
  let ok := if s.led.fwActive = 0 then a else b
  s.setF BOOT.IMAGE.FW_ACTIVE (if ok then s.led.fwActive else 1 - s.led.fwActive)

/-- A word replaced by a free value. -/
def State.wrFree (s : State) (a : Nat) : State :=
  let (k, s) := s.takeFree
  s.wr a (w36 (Config.freeNat k))

/-- Writes under way are cut by the loss of power or by a reset (R439): a block keeps its previous copy; how far a STORE
has come is not known, so the words of its image become free values (log entry 38). -/
def State.ledgerCut (s : State) : State :=
  let s := { s with led := { s.led with ops := [] } }
  match s.img.cfg with
  | some .store =>
    let b := slotBase s.cfgInactive
    let n := min 65536 (s.cfgLength s.cfgInactive)
    { (List.range n).foldl (fun s i => s.wrFree (b + i)) s with img := {} }
  | _ => { s with img := {} }

end Sys2Proof.Machine
end

