-- ==== Sys2Proof/Machine/Power.lean ====
section
/-! DEFINITION. Start-up, FOLD, power states, domains, wake and droop (spec/02 R44-R47, spec/03). -/

namespace Sys2Proof.Machine

/-! ## Shared operations -/

/-- PWR.STATE.STATE changes, with STATE_CHANGE; BOOT.TIMING at an entry to READY (R79). -/
def State.enter (s : State) (p : PState) : State :=
  let changed := s.pwr.st != p
  let s := if p = .ready ∧ changed then s.setReg BOOT.TIMING (BitVec.ofNat 32 (satTo 32 (s.usSince s.pwr.seqStart))) else s
  ({ s with pwr := { s.pwr with st := p, target := p } }).eventIf changed 0x02 0

/-- No fire command is issued any more, and no hand is in progress (R46 step 1). -/
def State.stopEmission (s : State) : State :=
  { s.dropFire with deal := { s.dropFire.deal with next := none, cur := none, drain := [] } }

/-- A calibration served by a kitty TDC is given up: the channel returns, or the kitty TDC is free (R442). -/
def State.endKit (s : State) (n : Nat) : State :=
  let c := s.f (KITTY.ASSIGN.CH n)
  if s.kitState n ≠ 2 then s
  else if c < 384 then (s.abandonCal c).decideMove c .own
  else (s.abandonKit n).setKit n 0 0

/-- A delay-cell selection under trial is taken back (R422). -/
def State.restoreCells (s : State) (i cells : Nat) : State :=
  let x := if i % 2 = 0 then TDC.DLL.CELLS_A (i / 2) else TDC.DLL.CELLS_B (i / 2)
  { s.setF x cells with cal := { s.cal with dlls := s.cal.dlls.filter fun e => e.1 != i } }.incF CAL.STAT.ABANDONED

/-- TDC and ADC calibrations under way are abandoned at a STANDBY entry (R442). -/
def State.abandonCals (s : State) : State :=
  let s := (List.range 16).foldl (fun s n => s.endKit n) s
  let s := s.cal.dlls.foldl (fun s e => s.restoreCells e.1 e.2) s
  match s.cal.adc with
  | none => s
  | some a => if a = 8 then s.abandonAdcCal.freeSpare else (s.abandonAdcCal).returnBus a

/-- A channel of the timing stage after its domain has been off: what was in flight is gone (R53). -/
def Chan.dark (x : Chan) : Chan := { move := x.move, noTdc := x.noTdc, stuck := x.stuck, sum := x.sum }

/-- A sense channel after its domain has been off: what its filter held is gone (R53). -/
def SenseCh.dark (c : SenseCh) : SenseCh := { newRange := c.newRange, inWindow := c.inWindow }

/-- The contents of the histogram memory and what is on its way through the slices are lost (R53, R220). -/
def State.histLost (s : State) : State :=
  { (s.loseRegion 3) with hist := { next := s.hist.next, bg := s.hist.bg }, deal := { s.deal with past := [] } }

/-- What a domain loses when it is switched off (R52, R53). -/
def State.domainLoss (s : State) (d : Nat) : State :=
  match d with
  | 1 =>
    { s.stopEmission with
      emit := { s.emit with shots := [none, none, none, none] }
      steer := { s.steer with axes := [{}, {}], clean := 0, sense := s.steer.sense.map SenseCh.dark } }
  | 3 => { s with ret := { s.ret with chans := s.ret.chans.map Chan.dark, dummy := none, retrying := [] } }
  | 4 => s.acqLost
  | 5 => { s.histLost with field := {} }
  | 6 => s.i2cReleaseAll.camLost.idleCommits
  | 7 => s.loseRegion 4
  | _ => s

/-- A packet that waits in class C or D is discarded and counted (R70, R336). -/
def State.discardLow (s : State) : State :=
  let c := s.link.qC.length
  let d := s.link.qD.length
  let s := { s with link := { s.link with qC := [], qD := [] } }
  let s := (s.addF TAB.DROP.C c).addF TAB.DROP.D d
  (s.eventIf (decide (0 < c)) 0x48 7).eventIf (decide (0 < d)) 0x48 8

/-- Every packet of a class leaves. -/
def State.sendAll (s : State) (c : Nat) : Nat → State
  | 0 => s
  | n + 1 => (s.sendHead c).sendAll c n

/-- What the ACK of a page means (R70): PNT has sent the last records of RUN, LDB has sent its broadcast disable, a camera's frame is tagged SHORT, and TAB has
sent its class A and B packets. -/
def State.blockAck (s : State) (p : Nat) : State :=
  if p = 0x13 then s.ldbDisable
  else if 0x40 ≤ p ∧ p ≤ 0x43 then s.closeFrame (p - 0x40)
  else if p = 0x3A then s.frameStandby
  else if p = 0x48 then
    let s := if s.streamRuns then (s.sendAll 0 s.link.qA.length).sendAll 1 s.link.qB.length else s
    s.discardLow
  else s

/-- The unfinished work of a block forced off (R69). -/
def State.blockDiscard (s : State) (p : Nat) : State :=
  if p = 0x48 then { s with link := { s.link with qA := [], qB := [] } } else s

/-- PWR.ENTRY at the end of a transition (R79). -/
def State.recordEntry (s : State) (result cause page : Nat) : State :=
  (((s.setF PWR.ENTRY.RESULT result).setF PWR.ENTRY.CAUSE cause).setF PWR.ENTRY.PAGE page).setF
    PWR.ENTRY.DURATION (satTo 16 (s.usSince s.pwr.transStart))

/-- A PWR.REQ write refused: PWR.ENTRY RESULT 1 with the cause (R68, R72, R79); no duration, for no transition ran. -/
def State.refuseReq (s : State) (cause : Nat) : State :=
  ((s.setF PWR.ENTRY.RESULT 1).setF PWR.ENTRY.CAUSE cause).setF PWR.ENTRY.PAGE 0x02

/-- FOLD with cause THERMAL, which only the loss of VDD_AON ends (R67). -/
def State.thermalFold (s : State) : Bool := s.pwr.st == .fold && s.f BOOT.CAUSE.CODE == 0x20

/-- Whether an automatic retry follows a FOLD code (R65). -/
def retries (code : Nat) : Bool := code < 0x20 && code != 0

/-- The sequence that a FOLD entry ends now (R57, R65): 0 and 1 a start-up, 2 a STANDBY exit, a lost power-good input's
included (DEDUCED, log entry 22), 3 operation. -/
def State.foldPhase (s : State) : Nat :=
  if s.pwr.st = .powerUp then s.pwr.phase else if s.pwr.exit.isSome then 2 else 3

/-- The cause of a FOLD entry recorded (R65, R66): FAULT_F, HOST_CMD and CLK_LOST have phase 3 only, and a retry is due
where the code, the phase and the budget allow one. -/
def State.recordFold (s : State) (code detail : Nat) : State :=
  let ph := if 0x30 ≤ code then 3 else s.pwr.foldFrom
  let retry := retries code && ph < 3 && s.pwr.retriesUsed < s.f BOOT.PARAM.RETRY_MAX
  let s := ((s.setF BOOT.CAUSE.CODE code).setF BOOT.CAUSE.DETAIL detail).setF BOOT.CAUSE.PHASE ph
  { s with pwr := { s.pwr with retryPending := retry } }

/-- A cause met in FOLD replaces the recorded one (R65): SHUT always, and a lower code of the same SOSC cycle, but never
SHUT (DEDUCED, log entry 48). -/
def State.foldReplaced (s : State) (code : Nat) : Bool :=
  let old := s.f BOOT.CAUSE.CODE
  code == 0x20 || (s.mono / 1000 == s.pwr.foldAt / 1000 && decide (code < old) && old != 0x20)

/-- The TX lanes in FOLD (R46 step 8, R47): status packets while the root PLL runs, for which a link that is idle is brought
up, and electrical idle otherwise. -/
def State.foldLanes (s : State) : State :=
  if !s.onPll then s.elecIdle
  else if s.f TAB.STATUS.TX_STATE = 0 then s.bringUp
  else s

/-- FOLD entry (R46, R47, R65): the cause and phase are recorded, and emission and outputs stop. RETRIES keeps the count of the
running budget whatever the cause (R66; DEDUCED, log entry 27). -/
def State.enterFold (s : State) (code detail : Nat) : State :=
  if s.pwr.st = .unpowered then s
  else if s.pwr.st = .fold ∧ s.pwr.exit.isNone then (if s.foldReplaced code then s.recordFold code detail else s)
  else
    let s := { s with pwr := { s.pwr with foldAt := s.mono, foldFrom := s.foldPhase } }
    let s := (s.recordFold code detail).setF BOOT.CAUSE.RETRIES s.pwr.retriesUsed
    let s := s.ldbDisable.lockClose.abandonChange.safeFold.i2cReleaseAll.foldLanes.histLost
    let s := { s with pwr := { s.pwr with
      shakes := [], exit := none, runPending := false, runAfterExit := false, readyPending := false,
      wakeKept := 0, wakeAfter := [] } }
    (s.enter .fold).settle.stopEmission

/-- Power-up is entered (R51, R45, R66, R67): every register takes its reset value but for BOOT.CAUSE, the
volatile memories lose their contents, the domains but AON are off, TIME and the ledger are kept. Where PG_IO has qualified
before, the ledger can be read, and BOOT.PARAM holds its boot parameters at once (R56; DEDUCED, log entry 43). -/
def State.powerUpEntry (s : State) (phase : Nat) (held : Bool) : State :=
  let r := State.reset
  let t : State := { r with
    pending := s.pending
    mem := s.mem.filter fun e => memRegion e.1 == 5
    ecc := s.ecc.filter fun e => memRegion e.1 == 5
    lost := { s.lost with
      ring := s.lost.ring + 1, ff := s.lost.ff + 1, hist := s.lost.hist + 1, bank := s.lost.bank + 1,
      queues := true, cleared := [] }
    mono := s.mono
    time := s.time
    free := s.free
    led := s.led
    emit := { r.emit with aperture := s.emit.aperture }
    link := { r.link with present := s.link.present }
    pwr := { r.pwr with
      phase := phase, nresetLow := held, seqStart := s.mono, transStart := s.mono
      retriesUsed := s.pwr.retriesUsed, wakePin := s.pwr.wakePin, pgIo := s.pwr.pgIo } }
  let t := t.setReg BOOT.CAUSE (s.reg BOOT.CAUSE)
  if s.pwr.pgIo then t.loadBootp else t

/-- READY is reached (R60 step 6, R75 step 6): the retry budget is renewed, LDB_KA toggles and the tiles are
enumerated, and bring-up of the link starts. -/
def State.readyEntry (s : State) : State :=
  let s := { s with pwr := { s.pwr with exit := none, retriesUsed := 0, retryPending := false } }
  let s := (s.enter .ready).recordEntry 0 0 0
  (List.range 4).foldl State.i2cNext s.ldbStart.bringUp.settle

/-! ## Start-up -/

/-- POR_RELEASE (R51, R53, R448): the device enters Power-up with every register at reset and TIME at 0. -/
def execPorRelease (s : State) : Host.Outcome State Fault Refusal :=
  if s.pwr.st ≠ .unpowered then .next s else
  let s := { s with pwr := { s.pwr with pgIo := false } }
  let t := { s.powerUpEntry 0 s.pwr.nresetLow with mono := 0, time := 0 }
  .next { t.setReg BOOT.CAUSE 0 with pwr := { t.pwr with seqStart := 0, transStart := 0, retriesUsed := 0 } }

/-- The time left of a block on OPEN outlasts the loss of power (R391, R439): it goes on from device time 0. -/
def State.keepBlock (s : State) : State :=
  { s with led := { s.led with blockEnd := s.led.blockEnd.map fun t => t - s.mono } }

/-- POR_LOSS (R51, R448): the device is unpowered; only the ledger keeps its contents (R439). -/
def execPorLoss (s : State) : Host.Outcome State Fault Refusal :=
  let s := { s with pwr := { s.pwr with pgIo := false } }
  let t := { s.keepBlock.ledgerCut.powerUpEntry 0 s.pwr.nresetLow with mono := 0, time := 0, link := {} }
  .next { t.setReg BOOT.CAUSE 0 with
    emit := {}, pwr := { t.pwr with st := .unpowered, target := .unpowered, retriesUsed := 0 } }

/-- NRESET_FALL (R45): the device is held in the Power-up condition; in FOLD with cause THERMAL only the level is kept, for
the next power-on. -/
def execNresetFall (s : State) : Host.Outcome State Fault Refusal :=
  if s.pwr.st = .unpowered ∨ s.thermalFold then .next { s with pwr := { s.pwr with nresetLow := true } }
  else .next (s.ledgerCut.powerUpEntry 1 true)

/-- NRESET_RISE (R67): a phase 1 start-up sequence starts, with a fresh retry budget. -/
def execNresetRise (s : State) : Host.Outcome State Fault Refusal :=
  if s.pwr.st = .unpowered ∨ s.thermalFold ∨ !s.pwr.nresetLow then
    .next { s with pwr := { s.pwr with nresetLow := false } }
  else .next { s with pwr := { s.pwr with
    nresetLow := false, phase := 1, step := .pgWait, seqStart := s.mono, transStart := s.mono, retriesUsed := 0 } }

/-- A start-up step is under way (R60). -/
def State.inStep (s : State) (st : StartStep) : Bool := s.pwr.st == .powerUp && !s.pwr.nresetLow && s.pwr.step == st

/-- PG_WAIT_END (R55): the search for a reference begins; the ledger can be read, so BOOT.PARAM holds its
boot parameters from here on (R56). -/
def execPgWaitEnd (s : State) : Host.Outcome State Fault Refusal :=
  if !s.inStep .pgWait then .next s else
  let s := s.loadBootp
  .next { s with pwr := { s.pwr with step := .refSearch, pgIo := true } }

/-- PG_TIMEOUT (R55): FOLD with the code of the lowest-coded low input. With none low the spec names no code:
a free value among the three (log entry 10). -/
def execPgTimeout (core ana io : Bool) (s : State) : Host.Outcome State Fault Refusal :=
  if !s.inStep .pgWait then .next s else
  let s := { s with pwr := { s.pwr with pgIo := s.pwr.pgIo && io } }
  if !core then .next (s.enterFold 1 0xFF)
  else if !ana then .next (s.enterFold 2 0xFF)
  else if !io then .next (s.enterFold 3 0xFF)
  else
    let (n, s) := s.takeFree
    .next (s.enterFold (Config.freeNat n % 3 + 1) 0xFF)

/-- The FOLD code of a power-good input (R65). -/
def pgCode : PgInput → Nat
  | .core => 1
  | .ana => 2
  | .io => 3

/-- PG_LOW_IN_OPERATION (R57). -/
def execPgLowInOperation (input : PgInput) (s : State) : Host.Outcome State Fault Refusal :=
  let s := { s with pwr := { s.pwr with pgIo := s.pwr.pgIo && input != .io } }
  if s.pwr.st = .ready ∨ s.pwr.st = .run ∨ s.pwr.st = .standby then .next (s.enterFold (pgCode input) 0xFF) else .next s

/-- REFCLK_PRESENT (R58, R406): the inputs named have measured in range twice. In the search the preferred one
is selected if present, otherwise the other at once with REFCLK_ALT (DEDUCED, log entry 23). -/
def execRefclkPresent (a b : Bool) (s : State) : Host.Outcome State Fault Refusal :=
  if s.pwr.st = .unpowered ∨ (s.pwr.st = .powerUp ∧ (s.pwr.step = .pgWait ∨ s.pwr.nresetLow)) then .next s else
  let s := if a then s.setB CLK.REFSEL.A_PRESENT true else s
  let s := if b then s.setB CLK.REFSEL.B_PRESENT true else s
  let pa := s.fb CLK.REFSEL.A_PRESENT
  let pb := s.fb CLK.REFSEL.B_PRESENT
  if s.inStep .refSearch ∧ (pa ∨ pb) then
    let pref := s.f BOOT.PARAM.REF_PREF
    let sel := if (if pref = 0 then pa else pb) then pref else 1 - pref
    let s := (s.setF CLK.REFSEL.ACTIVE sel).eventIf (sel != pref) 0x01 0
    .next { s with pwr := { s.pwr with step := .pllWait } }
  else .next s

/-- REFCLK_SEARCH_TIMEOUT (R58). -/
def execRefclkSearchTimeout (s : State) : Host.Outcome State Fault Refusal :=
  if s.inStep .refSearch then .next (s.enterFold 0x04 0xFF) else .next s

/-- PLL_LOCK (R59): the derived clocks start, TIME counts TCLK, self-test starts and SPI answers. All domains are on and ready at
once (R50; DEDUCED, log entry 21). -/
def execPllLock (s : State) : Host.Outcome State Fault Refusal :=
  if !s.inStep .pllWait then .next s else
  let s := s.setB CLK.REFSEL.LOCK true
  let s := { s with pwr := { s.pwr with step := .selfTest, items := 0, testStart := s.mono, domains := List.replicate 9 .on } }
  .next s.govSpent

/-- PLL_LOCK_TIMEOUT (R59). -/
def execPllLockTimeout (s : State) : Host.Outcome State Fault Refusal :=
  if s.inStep .pllWait then .next (s.enterFold 0x05 0xFF) else .next s

/-- SELFTEST_TIMEOUT (R61). -/
def execSelftestTimeout (s : State) : Host.Outcome State Fault Refusal :=
  if s.inStep .selfTest then .next (s.enterFold 0x18 0xFF) else .next s

/-- STANDBY exit from step 2 (R75): the switches of all off domains close. -/
def State.exitFromStep2 (s : State) : State :=
  let doms := s.pwr.domains.map fun d => if d = DomState.off then DomState.waking else d
  let next := if doms.all (· == DomState.on) then ExitStep.checks else ExitStep.switching
  { s with pwr := { s.pwr with domains := doms, exit := some next, target := .ready, accessOn := [] } }

/-- AUTOMATIC_RETRY (R66): phases 0 and 1 pass through Power-up; phase 2 runs the STANDBY exit from FOLD. -/
def execAutomaticRetry (s : State) : Host.Outcome State Fault Refusal :=
  if s.pwr.st ≠ .fold ∨ !s.pwr.retryPending then .next s else
  let s := s.addF BOOT.CAUSE.RETRIES 1
  let s := { s with pwr := { s.pwr with retriesUsed := s.pwr.retriesUsed + 1, retryPending := false, transStart := s.mono } }
  if s.f BOOT.CAUSE.PHASE = 2 then .next s.exitFromStep2
  else
    let t := s.powerUpEntry (s.f BOOT.CAUSE.PHASE) false
    .next { t with pwr := { t.pwr with seqStart := s.pwr.seqStart } }

/-- A host restart, BOOT.CMD 0xA5 (R67). -/
def State.bootRestart (s : State) (src : Nat) : State :=
  if s.pwr.st = .fold ∧ !s.thermalFold then
    let t := s.ledgerCut.powerUpEntry 1 false
    { t with pwr := { t.pwr with retriesUsed := 0 } }
  else s.err 0x05 src BOOT.CMD

/-- BOOT_CMD_RESTART (R67). -/
def execBootCmdRestart (src : Port) (s : State) : Host.Outcome State Fault Refusal := .next (s.bootRestart (portSrc src))

/-- A host FOLD command, BOOT.CMD 0x5A (R65, R79). -/
def State.bootFold (s : State) (src : Nat) : State :=
  if s.pwr.st = .ready ∨ s.pwr.st = .run ∨ s.pwr.st = .standby then s.enterFold 0x31 0xFF else s.err 0x05 src BOOT.CMD

/-- BOOT_CMD_FOLD (R65). -/
def execBootCmdFold (src : Port) (s : State) : Host.Outcome State Fault Refusal := .next (s.bootFold (portSrc src))

/-! ## STANDBY entry and switching domains off -/

/-- The STANDBY entry in progress, if any. -/
def State.standbyShake (s : State) : Option Shake := s.pwr.shakes.find? (·.standby)

/-- Enabled level wake sources that are active, as bits of PWR.WAKE_SRC (R72, R73): WAKE in level mode, a
pending enabled interrupt. -/
def State.levelWakes (s : State) : Nat :=
  (if s.fb PWR.WAKE_CFG.WAKE_EN && s.fb PWR.WAKE_CFG.WAKE_LEVEL && (s.pwr.wakePin != s.fb PWR.WAKE_CFG.WAKE_POL) then 1 else 0) +
  (if s.fb PWR.WAKE_CFG.IRQ_EN && s.intPending then 8 else 0)

/-- Blocks that had answered resume (R69, R73): LDB restarts where it had been disabled. -/
def State.resumeBlocks (s : State) (k : Shake) : State :=
  let s := { s with pwr := { s.pwr with shakes := s.pwr.shakes.filter (· != k), target := if k.standby then k.from_ else s.pwr.target } }
  let restart := k.doms.contains 1 && !k.waiting.contains 0x13 && (s.pwr.st == .ready || s.pwr.st == .run)
  (if restart then s.ldbStart else s).settle

/-- An enabled wake event abandons the STANDBY entry before its commit window (R73). -/
def State.abandonEntry (s : State) : State :=
  match s.standbyShake with
  | some k => (s.resumeBlocks k).recordEntry 2 0 0
  | none => s

/-- The STANDBY exit starts (R75 steps 1 and 2). -/
def State.exitStart (s : State) (src : Nat) : State :=
  let s := s.setF ⟨PWR.WAKE_SRC, 0, 5⟩ (s.f ⟨PWR.WAKE_SRC, 0, 5⟩ ||| src)
  { s with pwr := { s.pwr with transStart := s.mono, shakes := [], wakeAfter := [] } }.exitFromStep2

/-- Accesses that waited for a domain to go off wake it (R76). -/
def State.wakeWaiting (s : State) : State :=
  s.pwr.wakeAfter.foldl (fun s d => s.accessWake d) { s with pwr := { s.pwr with wakeAfter := [] } }

/-- The commit window of an entry is open (R72 step 4): 51.2 ns from the last ACK. -/
def State.inWindow (s : State) (k : Shake) : Bool :=
  match k.stage with
  | .querying => false
  | .window t => s.mono < t + 512

/-- A wake event (R73, R75): `level` for a level-type event, `src` its bit of PWR.WAKE_SRC. -/
def State.wake (s : State) (src : Nat) (level : Bool) : State :=
  match s.standbyShake with
  | some k =>
    if k.stage = .querying then s.abandonEntry
    else if s.inWindow k ∧ !level then s.setB PWR.WAKE_SRC.EDGE_IN_WINDOW true
    else { s with pwr := { s.pwr with wakeKept := s.pwr.wakeKept ||| src } }
  | none => if s.pwr.st = .standby ∧ s.pwr.exit.isNone then s.exitStart src else s

/-- An enabled level source that is active wakes (R73, R75, R103): looked at in every clock period without a command, so
that a source enabled while active is not missed. -/
def State.levelWake (s : State) : State :=
  if (s.pwr.st = .standby ∧ s.pwr.exit.isNone ∨ s.standbyShake.isSome) ∧ s.levelWakes ≠ 0 then s.wake s.levelWakes true else s

/-- PWR.REQ READY (R51, R75). During a STANDBY entry it counts as a level-type wake event (R73; DEDUCED, log entry 39). -/
def State.reqReady (s : State) : State :=
  if s.standbyShake.isSome then s.wake 0x10 true
  else match s.pwr.st with
  | .run => { s with pwr := { s.pwr with readyPending := true, target := .ready, transStart := s.mono } }
  | .ready => { s with pwr := { s.pwr with runPending := false, target := .ready } }
  | .standby => s.wake 0x10 true
  | _ => s.refuseReq 1

/-- PWR_REQ_READY (R51). -/
def execPwrReqReady (s : State) : Host.Outcome State Fault Refusal := .next s.reqReady

/-- A RUN request in READY (R68): refused while a temperature is at CRIT or the laser is held off. -/
def State.acceptRun (s : State) : State :=
  if 2 ≤ s.f HK.STEP.DIE_STEP ∨ 2 ≤ s.f HK.STEP.LAS_STEP then s.refuseReq 4
  else if s.fb EMIT.FAULT.HAZ then s.refuseReq 5
  else { s with pwr := { s.pwr with runPending := true, target := .run, transStart := s.mono } }

/-- PWR.REQ RUN (R51, R68). -/
def State.reqRun (s : State) : State :=
  if s.standbyShake.isSome then
    let s := s.wake 0x10 true
    if s.standbyShake.isSome then { s with pwr := { s.pwr with runAfterExit := true } }
    else if s.pwr.st = .ready then s.acceptRun else s
  else match s.pwr.st with
  | .ready => s.acceptRun
  | .run => { s with pwr := { s.pwr with readyPending := false, target := .run } }
  | .standby => let t := s.wake 0x10 true; { t with pwr := { t.pwr with runAfterExit := true } }
  | _ => s.refuseReq 1

/-- PWR_REQ_RUN (R68). -/
def execPwrReqRun (s : State) : Host.Outcome State Fault Refusal := .next s.reqRun

/-- The off request of a domain, a bit of PWR.DOMAIN.OFF_REQ. -/
def State.offReq (s : State) (d : Nat) : Bool := bitOf (s.f PWR.DOMAIN.OFF_REQ) d

/-- The domains that STANDBY switches off: SCAN to CAM, and BANK when its off request is set (R72), but those off already. -/
def State.standbyDoms (s : State) : List Nat :=
  (List.range 9).filter fun d => ((1 ≤ d && d ≤ 6) || (d == 7 && s.offReq 7)) && s.dom d != .off

/-- PWR.REQ STANDBY (R72): checked, and the queries go out. In RUN the fire commands of the hand in progress are dropped at the
request (R68; DEDUCED, log entry 28), and a lone domain's handshake counts as a transition in progress (DEDUCED, log entry 29). -/
def State.reqStandby (s : State) : State :=
  if (s.pwr.st ≠ .ready ∧ s.pwr.st ≠ .run) ∨ s.pwr.target ≠ s.pwr.st ∨ !s.pwr.shakes.isEmpty then s.refuseReq 1
  else if s.levelWakes ≠ 0 then s.refuseReq 2
  else
    let doms := s.standbyDoms
    let pages := doms.flatMap domainPages ++ [0x48, 0x07]
    let k : Shake := { standby := true, doms := doms, waiting := pages, forced := none, aborted := none, stage := .querying, from_ := s.pwr.st }
    let s := s.dropFire.abandonCals
    { s with pwr := { s.pwr with target := .standby, transStart := s.mono, shakes := [k] } }.settle

/-- PWR_REQ_STANDBY (R72). -/
def execPwrReqStandby (s : State) : Host.Outcome State Fault Refusal := .next s.reqStandby

/-- The handshake that waits for a page. -/
def State.shakeOf (s : State) (p : Nat) : Option Shake := s.pwr.shakes.find? fun k => k.stage == .querying && k.waiting.contains p

/-- A handshake replaced. -/
def State.putShake (s : State) (old new : Shake) : State :=
  { s with pwr := { s.pwr with shakes := s.pwr.shakes.map fun k => if k = old then new else k } }

/-- A transfer aborted at a switch-off (R71): the abort and the address of the descriptor reached are held for the mover's
page, and the descriptor is not open any more. The spec gives the report no word of the page (DESIGN CHOICE, log entry 46). -/
def State.moverAbort (s : State) (p : Nat) (aborted : Option (BitVec 24)) : State :=
  match aborted with
  | none => s
  | some a =>
    let s := { s with pwr := { s.pwr with moverAborts := (p, a.toNat) :: s.pwr.moverAborts.filter fun e => e.1 != p } }
    if memRegion a.toNat = 4 then s.setB (BANK.OWN.OPEN ((a.toNat - 0x400000) / 0x10000)) false else s

/-- A page of a handshake is done (ACK or forced); after the last one the commit window opens (R69, R72). -/
def State.shakeStep (s : State) (k : Shake) (p : Nat) (forced : Bool) (aborted : Option (BitVec 24)) : State :=
  let w := k.waiting.filter (· != p)
  let s := (s.moverAbort p aborted).blockAck p
  s.putShake k { k with
    waiting := w
    forced := if forced then some p else k.forced
    aborted := if aborted.isSome then some p else k.aborted
    stage := if w.isEmpty then .window s.mono else .querying }

/-- STANDBY_BLOCK_ANSWER (R69, R70): SUPV refuses while a firmware swap or an activation is in progress. -/
def execStandbyBlockAnswer (page : Fin 256) (aborted : Option (BitVec 24)) (s : State) : Host.Outcome State Fault Refusal :=
  match s.shakeOf page.val with
  | none => .next s
  | some k =>
    if page.val = 0x07 ∧ (s.img.activating ∨ s.img.swapping) then
      let s := s.resumeBlocks k
      .next (((s.setF PWR.ENTRY.RESULT 1).setF PWR.ENTRY.CAUSE 3).setF PWR.ENTRY.PAGE 0x07)
    else .next (s.shakeStep k page.val false aborted)

/-- STANDBY_BLOCK_FORCED (R69, R71): the block is forced off and its work discarded. -/
def execStandbyBlockForced (page : Fin 256) (aborted : Option (BitVec 24)) (s : State) : Host.Outcome State Fault Refusal :=
  match s.shakeOf page.val with
  | none => .next s
  | some k => .next ((s.blockDiscard page.val).shakeStep k page.val true aborted)

/-- RESULT and PAGE of a completed handshake (R69, R71, R79). -/
def Shake.outcome (k : Shake) : Nat × Nat :=
  match k.forced, k.aborted with
  | some p, _ => (3, p)
  | none, some p => (4, p)
  | none, none => (0, 0)

/-- A domain whose off request was cleared while it was being switched off is switched on again (R74). -/
def State.cleared (s : State) (d : Nat) : State :=
  if (s.pwr.st = .ready ∨ s.pwr.st = .run) ∧ !s.offReq d ∧ s.dom d = .off then s.setDom d .waking else s

/-- STANDBY_SWITCH_OFF_DONE (R72 step 5, R73): the domains are off; kept wake events start the exit. -/
def execStandbySwitchOffDone (s : State) : Host.Outcome State Fault Refusal :=
  match s.pwr.shakes.find? fun k => k.stage != .querying with
  | none => .next s
  | some k =>
    let s := { s with pwr := { s.pwr with shakes := s.pwr.shakes.filter (· != k), accessOn := s.pwr.accessOn.filter fun d => !k.doms.contains d } }
    let s := k.doms.foldl (fun s d => (s.setDom d .off).domainLoss d) s
    let (r, p) := k.outcome
    if k.standby then
      let s := ((s.elecIdle.enter .standby).settle.stopEmission).recordEntry r 0 p
      let kept : Nat := s.pwr.wakeKept ||| s.levelWakes
      let s := { s with pwr := { s.pwr with wakeKept := 0, runPending := false, readyPending := false } }
      if kept ≠ 0 then .next (s.exitStart kept) else .next s.wakeWaiting
    else .next ((k.doms.foldl (fun s d => s.cleared d) (if r ≠ 0 then s.recordEntry r 0 p else s)).wakeWaiting)

/-- A domain starts its switch-off handshake alone (R74, R76). -/
def State.shakeDomain (s : State) (d : Nat) : State :=
  let k : Shake := { standby := false, doms := [d], waiting := domainPages d, forced := none, aborted := none, stage := .querying, from_ := s.pwr.st }
  if s.dom d ≠ .on ∨ s.pwr.shakes.any (fun k => k.doms.contains d) then s
  else { s with pwr := { s.pwr with shakes := s.pwr.shakes ++ [k] } }.settle

/-- A domain is switched on (R74, R76): its switch closes, or its handshake is abandoned while it still queries; one that is
being switched off follows afterwards. -/
def State.switchOn (s : State) (d : Nat) : State :=
  match s.pwr.shakes.find? fun k => !k.standby && k.doms.contains d && k.stage == .querying with
  | some k => s.resumeBlocks k
  | none => if s.dom d = .off then s.setDom d .waking else s

/-- An off request of one domain written (R74): AON and LINK are ignored; in RUN, SCAN, AFE, TDC and HIST are
refused with cause STATE. -/
def State.writeOffReq (s : State) (d : Nat) (b : Bool) : State :=
  if d = 0 ∨ 7 < d ∨ s.offReq d = b then s
  else if b ∧ s.pwr.st = .run ∧ [1, 2, 3, 5].contains d then s.refuseReq 1
  else
    let s := s.setF PWR.DOMAIN.OFF_REQ (putBits (s.f PWR.DOMAIN.OFF_REQ) d 1 (b2n b))
    if s.pwr.st = .ready ∨ s.pwr.st = .run then (if b then s.shakeDomain d else s.switchOn d) else s

/-- A write of off requests by either word (R74, R84). -/
def State.writeOffReqs (s : State) (t : OffReq) : State :=
  match t with
  | .domains bits => (List.range 9).foldl (fun s d => s.writeOffReq d (bits.getLsbD d)) s
  | .page p off => if assigned p.val then s.writeOffReq (pageDomain p.val) off else s

/-- DOMAIN_OFF_REQ_WRITE (R74). -/
def execDomainOffReqWrite (target : OffReq) (s : State) : Host.Outcome State Fault Refusal := .next (s.writeOffReqs target)

/-! ## Waking -/

/-- WAKE_PIN_EVENT (R73, R75): the level on WAKE changes; it wakes by its edge or its level, as WAKE_CFG says. -/
def execWakePinEvent (high : Bool) (s : State) : Host.Outcome State Fault Refusal :=
  let rose := s.pwr.wakePin != high
  let s := { s with pwr := { s.pwr with wakePin := high } }
  if s.fb PWR.WAKE_CFG.WAKE_EN ∧ rose ∧ (high != s.fb PWR.WAKE_CFG.WAKE_POL) then
    .next (s.wake 1 (s.fb PWR.WAKE_CFG.WAKE_LEVEL))
  else .next s

/-- RX_ACTIVITY (R338): an RX lane goes from signal absent to signal present. -/
def execRxActivity (lane : RxLane) (s : State) : Host.Outcome State Fault Refusal :=
  let k := laneNo lane
  if s.link.present.contains k ∨ s.pwr.st = .unpowered then .next s else
  let s := { s with link := { s.link with present := k :: s.link.present } }
  if s.fb PWR.WAKE_CFG.RX_EN then .next (s.wake 2 false) else .next s

/-- SPI_CS_FALL (R95, R75): a frame begins in the mode that the SCK level selects; it wakes when CS_EN is set. -/
def execSpiCsFall (sckHigh : Bool) (s : State) : Host.Outcome State Fault Refusal :=
  if s.pwr.st = .unpowered then .next s else
  let s := { s with host := { s.host with csLow := true, spiMode := if sckHigh then 3 else 0, spiAborted := false } }
  if s.fb PWR.WAKE_CFG.CS_EN then .next (s.wake 4 false) else .next s

/-- A domain that has become ready takes up its work (R52, R150, R155, R270): after SCAN the governor starts as spent, and
in READY and RUN the tiles are enumerated again. -/
def State.domainUp (s : State) (d : Nat) : State :=
  match d with
  | 1 => if s.pwr.st = .ready ∨ s.pwr.st = .run then s.govSpent.ldbStart.settle else s.govSpent
  | 4 => if s.enabled 0x31 then s.startRings else s
  | 5 => { s with zone := { s.zone with unknown := true, dirty := true } }.showZones
  | _ => s

/-- A domain becomes ready (R52, R75, R76): the last domain of a STANDBY exit opens the wake checks, and an off request set
meanwhile switches it off again (R74). -/
def State.domainReady (s : State) (d : Nat) : State :=
  if s.dom d ≠ .waking then s else
  let s := (s.setDom d .on).domainUp d
  if s.pwr.exit = some .switching ∧ s.pwr.domains.all (· == DomState.on) then
    { s with pwr := { s.pwr with exit := some .checks } }
  else if (s.pwr.st = .ready ∨ s.pwr.st = .run) ∧ s.offReq d then s.shakeDomain d
  else s

/-- DOMAIN_WAKE_TIMEOUT (R75): a domain not ready within twice its ready time during the STANDBY exit. -/
def execDomainWakeTimeout (d : Fin 9) (s : State) : Host.Outcome State Fault Refusal :=
  if s.pwr.exit = some .switching ∧ s.dom d.val = .waking then
    .next (s.enterFold 0x19 (nth (domainPages d.val) 0 0xFF))
  else .next s

/-- ACCESS_IDLE_TIMEOUT (R76): a domain woken by access in STANDBY is switched off again. -/
def execAccessIdleTimeout (d : Fin 9) (s : State) : Host.Outcome State Fault Refusal :=
  if s.pwr.st = .standby ∧ s.pwr.accessOn.contains d.val ∧ s.pwr.exit.isNone then .next (s.shakeDomain d.val) else .next s

/-! ## Droop (R77, R78) -/

/-- DROOP_ONSET (R77, R79): `sensors` are those that read below the threshold now; FCLK slows, if it does not run slowed
already. -/
def execDroopOnset (sensors : BitVec 8) (s : State) : Host.Outcome State Fault Refusal :=
  if (sensors = 0 ∧ !s.fb CLK.DROOP.SLOWED) ∨ !s.onPll then .next s else
  let s := s.setF CLK.DROOP.BELOW sensors.toNat
  if s.fb CLK.DROOP.SLOWED then .next s else
  let s := (s.setB CLK.DROOP.SLOWED true).incF CLK.DROOP.EVENTS
  .next { s with pwr := { s.pwr with droopStart := some s.mono, droopLong := false } }

/-- DROOP_RECOVERY (R77): FCLK returns, and the slowed interval ends. -/
def execDroopRecovery (s : State) : Host.Outcome State Fault Refusal :=
  match s.pwr.droopStart with
  | none => .next s
  | some t =>
    let s := ((s.setF CLK.DROOP.BELOW 0).setB CLK.DROOP.SLOWED false).setB CLK.DROOP.HANDS_HELD false
    let s := s.maxF CLK.DROOP_STAT.LONGEST ((s.mono - t) / 1000)
    .next { s with pwr := { s.pwr with droopStart := none, droopLong := false } }

/-- DROOP_HANDS_HELD (R78). -/
def execDroopHandsHeld (s : State) : Host.Outcome State Fault Refusal :=
  if s.fb CLK.DROOP.SLOWED then .next (s.setB CLK.DROOP.HANDS_HELD true) else .next s

/-- DROOP_LONG is raised for the droop in progress (R78). -/
def State.droopLongEvent (s : State) : State := { s with pwr := { s.pwr with droopLong := true } }.event 0x01 3

/-- DROOP_LONG (R78): continuous droop passes 1 ms. -/
def execDroopLong (s : State) : Host.Outcome State Fault Refusal :=
  if s.fb CLK.DROOP.SLOWED then .next s.droopLongEvent else .next s

/-- A write of 1 to CLK.DROOP_CLR.CLEAR (R79, R419). -/
def State.droopClr (s : State) : State :=
  s.clearFs [CLK.DROOP.EVENTS, CLK.DROOP_STAT.HANDS_SKIPPED, CLK.DROOP_STAT.LONGEST, CLK.REFSTAT.SWITCHES]

/-- CLK_DROOP_CLR (R79). -/
def execClkDroopClr (s : State) : Host.Outcome State Fault Refusal := .next s.droopClr

/-! ## TIME.CMD (R107) -/

/-- SET of TIME.SET_HI and TIME.SET_LO, ns. -/
def State.timeSetValue (s : State) : Nat := (s.reg TIME.SET_HI).toNat * 2 ^ 32 + (s.reg TIME.SET_LO).toNat

/-- A write of TIME.CMD (R107). -/
def State.timeCmd (s : State) (cmd : Nat) : State :=
  match cmd with
  | 1 => s.setTime (10 * s.timeSetValue) none
  | 2 => { s with timeSet := some { value := s.timeSetValue, packet := false } }
  | 3 => s.setTime (s.timePlus s.timeSetValue) none
  | _ => s

/-- TIME_CMD_SET (R107). -/
def execTimeCmdSet (s : State) : Host.Outcome State Fault Refusal := .next (s.timeCmd 1)

/-- TIME_CMD_SET_AT_SYNC (R107). -/
def execTimeCmdSetAtSync (s : State) : Host.Outcome State Fault Refusal := .next (s.timeCmd 2)

/-- TIME_CMD_OFFSET (R107). -/
def execTimeCmdOffset (s : State) : Host.Outcome State Fault Refusal := .next (s.timeCmd 3)

end Sys2Proof.Machine
end

