-- ==== Sys2Proof/Machine/Clock.lean ====
section
/-! DEFINITION. Reference clock switchover (spec/17 R406, R407, R419). -/

namespace Sys2Proof.Machine

/-- The PRESENT bit of a reference input: 0 A, 1 B. -/
def refPresent (i : Nat) : Fld := if i = 0 then CLK.REFSEL.A_PRESENT else CLK.REFSEL.B_PRESENT

/-- The active reference is lost (R406 step 1): the root PLL enters holdover. -/
def State.refLost (s : State) : State :=
  if !s.fb CLK.REFSEL.LOCK then s else
  let s := s.setB (refPresent (s.f CLK.REFSEL.ACTIVE)) false
  let s := (s.setB CLK.REFSEL.LOCK false).setB CLK.REFSEL.HOLDOVER true
  { s with pwr := { s.pwr with holdStart := some s.mono, switchStart := none } }.event 0x01 2

/-- REFCLK_LOST (R406). -/
def execRefclkLost (s : State) : Host.Outcome State Fault Refusal := .next s.refLost

/-- The input that the PLL has relocked to is the active one from now on (R406 step 3): a change of input raises REF_SWITCH
and is recorded, with its duration since `t0`. -/
def State.refSwitched (s : State) (i t0 : Nat) : State :=
  if s.f CLK.REFSEL.ACTIVE = i then s else
  let s := (s.setF CLK.REFSEL.ACTIVE i).incF CLK.REFSTAT.SWITCHES
  (s.setF CLK.REFSTAT.LAST_US (satTo 16 (s.usSince t0))).event 0x01 1

/-- In holdover the PLL may relock to an input (R406, R407): one that is present; the lost one alone with AUTO at 0; and the
lost one when it is PREF and has returned. -/
def State.mayRelock (s : State) (i : Nat) : Bool :=
  let lost := s.f CLK.REFSEL.ACTIVE
  s.fb (refPresent i) &&
  (i == lost || (s.fb CLK.REFSEL.AUTO && !(s.fb (refPresent lost) && s.f CLK.REFSEL.PREF == lost)))

/-- PLL_RELOCK (R406, R407): the end of holdover, or of a switch that a write of PREF began. -/
def execPllRelock (toB : Bool) (s : State) : Host.Outcome State Fault Refusal :=
  let i := b2n toB
  match s.pwr.holdStart, s.pwr.switchStart with
  | some t, _ =>
    if !s.mayRelock i then .next s else
    let s := { s with pwr := { s.pwr with holdStart := none } }
    let s := (s.setB CLK.REFSEL.HOLDOVER false).setB CLK.REFSEL.LOCK true
    .next (s.refSwitched i t)
  | none, some t =>
    if i = s.f CLK.REFSEL.ACTIVE ∨ !s.fb (refPresent i) then .next s else
    .next ({ s with pwr := { s.pwr with switchStart := none } }.refSwitched i t)
  | none, none => .next s

/-- HOLDOVER_EXPIRED (R407): no input that the PLL may relock to has come in 50 ms. The clocks stop, and the device enters
FOLD with cause CLK_LOST; the TX lanes are idle (R46 step 8). -/
def execHoldoverExpired (s : State) : Host.Outcome State Fault Refusal :=
  if s.pwr.holdStart.isNone ∨ s.mayRelock 0 ∨ s.mayRelock 1 then .next s else
  let s := { s with pwr := { s.pwr with holdStart := none } }
  .next ((s.setB CLK.REFSEL.HOLDOVER false).enterFold 0x32 0xFF).foldLanes

/-- What follows a write of CLK.REFSEL.PREF (R407). -/
def State.prefWritten (s : State) : State :=
  let i := s.f CLK.REFSEL.PREF
  if (s.pwr.st = .ready ∨ s.pwr.st = .run) ∧ s.fb CLK.REFSEL.LOCK ∧ i ≠ s.f CLK.REFSEL.ACTIVE ∧ s.fb (refPresent i) then
    { s with pwr := { s.pwr with switchStart := some s.mono } }
  else s

/-- CLK_PREF_WRITE (R407). -/
def execClkPrefWrite (pref : Bool) (s : State) : Host.Outcome State Fault Refusal :=
  .next (s.setB CLK.REFSEL.PREF pref).prefWritten

/-- REFCLK_INACTIVE_LOST (R406): the inactive input is no switchover target any more. -/
def execRefclkInactiveLost (s : State) : Host.Outcome State Fault Refusal :=
  if s.pwr.st = .unpowered then .next s else
  let s := s.setB (refPresent (1 - s.f CLK.REFSEL.ACTIVE)) false
  .next { s with pwr := { s.pwr with switchStart := none } }

end Sys2Proof.Machine
end

