-- ==== Sys2Proof/Machine/Calibration.lean ====
section
/-! DEFINITION. Calibration in service (spec/18 R422-R432, R443): the scheduler's items and the end-of-line run. -/

namespace Sys2Proof.Machine

/-! ## The schedule (R423, R432) -/

/-- The elements of an item that a pass has to reach: those out of service are left out. -/
def State.calElements (s : State) (item : Nat) : List Nat :=
  match item with
  | 0 => filterRange 384 fun c => !s.fb (TDC.STAT.FAILED (c / 48) (c % 48)) &&
      !((s.kitOf c).any fun n => s.kitState n != 2)
  | 1 => filterRange 16 fun n => !([1, 4, 7].contains (s.kitState n))
  | 2 => filterRange 16 fun i => s.fb (lockField (i / 2) 0) && s.fb (lockField (i / 2) 1)
  | 3 => filterRange 384 fun r => !s.fb (AFE.STAT.DEAD (r / 48) (r % 48))
  | 4 => filterRange 9 fun a => !s.fb (ADC.STAT.FAILED a)
  | _ => [0]

/-- An item may start an element: CAL runs and the item is enabled; DUMMY goes with KITTY (R423, R443). -/
def State.calMay (s : State) (item : Nat) : Bool :=
  (s.pwr.st == .ready || s.pwr.st == .run) && s.domOn 1 && s.enabled 0x0C &&
  bitOf (s.f CAL.CFG.EN) (if item = 5 then 1 else item)

/-- KITS (R443): values other than 1 to 4 act as 4. -/
def State.calKits (s : State) : Nat :=
  let k := s.f CAL.CFG.KITS
  if 1 ≤ k ∧ k ≤ 4 then k else 4

/-- One more kitty TDC may serve calibration (R423). -/
def State.kitsLeft (s : State) : Bool :=
  s.domOn 3 && s.enabled 0x30 && decide (((List.range 16).filter fun n => s.kitState n == 2).length < s.calKits)

/-- CAL.STAT names the item and the element started. -/
def State.calShow (s : State) (item element : Nat) : State := (s.setF CAL.STAT.ITEM item).setF CAL.STAT.ELEMENT element

/-- The results of an item are stored in the ledger, at most once per 60 s (R432). -/
def State.calStore (s : State) (item : Nat) : State :=
  let soon := match nth s.cal.stored item none with
    | some t => decide (s.mono < t + 600000000000)
    | none => false
  if soon then s
  else { s with cal := { s.cal with stored := setNth s.cal.stored item (some s.mono) } }.ledgerQueue (.cal [item])

/-- The count and the TIME of an item after one more completion (R432). -/
def State.calCount (s : State) (item : Nat) : State :=
  let s := s.setF (CAL.COUNT.COUNT item) (s.f (CAL.COUNT.COUNT item) + 1)
  (s.setF (CAL.TIME_HI.TIME_HI item) (s.timeNs / 2 ^ 32)).setF (CAL.TIME_LO.TIME_LO item) (s.timeNs % 2 ^ 32)

/-- An element of an item is done: counted where it succeeded, CAL_FAIL where it did not; the last one of a pass raises
ITEM_DONE and stores the results (R432, R443). -/
def State.calElementDone (s : State) (item element : Nat) (ok : Bool) : State :=
  let s := if ok then s.calCount item else s.event 0x0C 1
  let done := nth s.cal.passes item []
  let done := if done.contains element then done else done ++ [element]
  if (s.calElements item).all done.contains then
    ({ s with cal := { s.cal with passes := setNth s.cal.passes item [] } }.event 0x0C 0).calStore item
  else { s with cal := { s.cal with passes := setNth s.cal.passes item done } }

/-! ## TDC and KITTY (R424-R426) -/

/-- The calibration of an own TDC starts (R424 step 1): a free kitty TDC takes the channel at its gap. -/
def State.calTdcStart (s : State) (c : Nat) : State :=
  match s.lowestKit 0 with
  | none => s
  | some n =>
    if s.fb (TDC.STAT.FAILED (c / 48) (c % 48)) ∨ (s.chan c).noTdc ∨ (s.kitOf c).isSome ∨ !s.kitsLeft then s else
    let s := ((s.setKit n 2 c).decideMove c (.kitty n)).calShow 0 c
    { s with cal := { s.cal with tdcs := s.cal.tdcs ++ [c] } }

/-- The limits of R425 hold. -/
def linearOk (lo hi : Nat) (cs : List Int) : Bool :=
  decide (lo + 560 ≤ hi ∧ hi ≤ lo + 720) && cs.all fun c => decide (c.natAbs ≤ 16)

/-- Signed bytes as a word, the first in [7:0]. -/
def bytesWord (bs : List Int) : Word :=
  BitVec.ofNat 32 ((List.range 4).foldl (fun n i => n + unsigned 8 (nth bs i 0) * 2 ^ (8 * i)) 0)

/-- RAW_LO and RAW_HI as a word. -/
def linWord (lo hi : Nat) : Word := BitVec.ofNat 32 (hi * 2 ^ 16 + lo)

/-- An own TDC has been measured (R424 step 3, R425). -/
def State.calTdcDone (s : State) (c lo hi : Nat) (cs : List Int) : State :=
  let k := c / 48
  let m := c % 48
  if !s.cal.tdcs.contains c ∨ !s.fb (TDC.STAT.ON_KITTY k m) then s else
  let s := { s with cal := { s.cal with tdcs := s.cal.tdcs.filter (· != c) } }
  if linearOk lo hi cs then
    let s := ((s.setReg (TDC.LIN k m) (linWord lo hi)).setReg (TDC.INL_A k m) (bytesWord cs)).setReg (TDC.INL_B k m)
      (bytesWord (cs.drop 4))
    (s.decideMove c .own).calElementDone 0 c true
  else (s.ownFails c 5).calElementDone 0 c false

/-- TDC_CAL_MEASURE_DONE (R424, R425): RAW_LO, RAW_HI and C1 to C7. -/
def execTdcCalMeasureDone (channel : Fin 384) (lo hi : Fin 1024) (corrections : List Int) (s : State) :
    Host.Outcome State Fault Refusal := .next (s.calTdcDone channel.val lo.val hi.val corrections)

/-- A free kitty TDC is calibrated in place (R426). -/
def State.calKittyStart (s : State) (n : Nat) : State :=
  if s.kitState n ≠ 0 ∨ !s.kitsLeft then s else
  let s := (s.setKit n 2 0x1FF).calShow 1 n
  { s with cal := { s.cal with kitties := s.cal.kitties ++ [n] } }

/-- A kitty TDC has been measured (R426): crossbar offsets beyond 24 LSB or a bad linearity mark it failed. -/
def State.calKittyDone (s : State) (n lo hi : Nat) (cs xofs : List Int) : State :=
  if !s.cal.kitties.contains n then s else
  let s := { s with cal := { s.cal with kitties := s.cal.kitties.filter (· != n) } }
  if linearOk lo hi cs && xofs.all fun x => decide (x.natAbs ≤ 24) then
    let s := ((s.setReg (KITTY.LIN n) (linWord lo hi)).setReg (KITTY.INL_A n) (bytesWord cs)).setReg (KITTY.INL_B n)
      (bytesWord (cs.drop 4))
    let s := (s.setReg (KITTY.XOFS_A n) (bytesWord xofs)).setReg (KITTY.XOFS_B n) (bytesWord (xofs.drop 4))
    (s.setKit n 0 0).calElementDone 1 n true
  else (s.setKit n 7 0).calElementDone 1 n false

/-- KITTY_CAL_DONE (R426). -/
def execKittyCalDone (kitty : Fin 16) (lo hi : Fin 1024) (corrections xofs : List Int) (s : State) :
    Host.Outcome State Fault Refusal := .next (s.calKittyDone kitty.val lo.val hi.val corrections xofs)

/-! ## Delay-locked loops (R422) -/

/-- The cell selection of a loop (2 * page + loop). -/
def cellsField (i : Nat) : Fld := if i % 2 = 0 then TDC.DLL.CELLS_A (i / 2) else TDC.DLL.CELLS_B (i / 2)

/-- A standby loop relocks with a new selection (R422). -/
def State.calDllStart (s : State) (i : Nat) : State :=
  let k := i / 2
  if 16 ≤ i ∨ s.f (TDC.DLL.ACTIVE k) = i % 2 ∨ !s.fb (lockField k 0) ∨ !s.fb (lockField k 1) ∨ !s.domOn 3 then s else
  let s := (s.setB (lockField k (i % 2)) false).calShow 2 i
  { s with cal := { s.cal with dlls := s.cal.dlls ++ [(i, s.f (cellsField i))] } }

/-- The trial of a selection ends (R422): the loops change roles, or the previous selection is restored. With the active
loop lost meanwhile there is nothing to compare with, and the trial is given up. -/
def State.calDllDone (s : State) (k : Nat) (matched : Bool) (cells : Nat) : State :=
  match s.cal.dlls.find? fun e => e.1 / 2 == k with
  | none => s
  | some (i, before) =>
    let l := i % 2
    if !s.fb (lockField k (1 - l)) then s.restoreCells i before else
    let s := { s with cal := { s.cal with dlls := s.cal.dlls.filter fun e => e.1 != i } }
    if matched then
      (((s.setF (cellsField i) cells).setB (lockField k l) true).setF (TDC.DLL.ACTIVE k) l).calElementDone 2 i true
    else ((s.setF (cellsField i) before).setB (lockField k l) true).calElementDone 2 i false

/-- DLL_CAL_DONE (R422): the outcome of the comparison, and the selection that was on trial. -/
def execDllCalDone (page : Fin 8) (matched : Bool) (cells : BitVec 10) (s : State) : Host.Outcome State Fault Refusal :=
  .next (s.calDllDone page.val matched cells.toNat)

/-! ## AFE (R427, R428) -/

/-- Step 3 of a calibration that starts at the hand boundary just passed ends more than a hand period before the next frame
boundary (R428). -/
def State.afeInTime (s : State) : Bool :=
  let f := s.steer.frame
  decide (f.handAt f.index + 187500 + f.length / max 1 f.hands ≤ f.end_)

/-- An input goes off-line (R427 step 1): one of its page at a time (R428). -/
def State.calAfeStart (s : State) (r : Nat) : State :=
  if s.fb (AFE.STAT.DEAD (r / 48) (r % 48)) ∨ s.cal.afes.any (fun q => q / 48 == r / 48) ∨ !s.afeInTime ∨ !s.domOn 2 then s else
  let s := (s.setB (AFE.STAT.CAL (r / 48) (r % 48)) true).calShow 3 r
  let s := { s with cal := { s.cal with afes := s.cal.afes ++ [r], afeEnding := s.cal.afeEnding.filter (· != r) } }
  match s.channelOf r with
  | some c => s.updSum c fun m => { m with cal := true }
  | none => s

/-- The pair with the lowest offset among those within 31 codes (R189, R427), with its offset. -/
def bestPair (offsets : List Int) : Option (Nat × Int) :=
  ((List.range offsets.length).zip offsets).foldl (fun best p =>
    if 31 < p.2.natAbs then best
    else match best with
    | none => some p
    | some b => if p.2.natAbs < b.2.natAbs then some p else some b) none

/-- A pair and its residual offset put into their fields. Where no pair is usable the spec names neither: free values. -/
def State.putPair (s : State) (pair ofs : Fld) (best : Option (Nat × Int)) : State :=
  match best with
  | some (p, o) => (s.setF pair p).setI ofs o
  | none =>
    let (n, s) := s.takeFree
    let (m, s) := s.takeFree
    (s.setF pair (Config.freeNat n)).setF ofs (Config.freeNat m)

/-- The sweep of an input ends (R427 steps 2 and 3): pairs, offsets and PAIR_OK follow, and the input is reconnected. -/
def State.calAfeDone (s : State) (r : Nat) (offsets : List (Int × Int)) : State :=
  if !s.cal.afes.contains r then s else
  let k := r / 48
  let i := r % 48
  let le := offsets.map (·.1)
  let ok : Nat := ((List.range 4).zip le).foldl (fun n p => if 31 < p.2.natAbs then n else n + 2 ^ p.1) 0
  let s := { s with cal := { s.cal with afes := s.cal.afes.filter (· != r), afeEnding := s.cal.afeEnding ++ [r] } }
  let s := (s.setF (AFE.CAL.PAIR_OK k i) ok).putPair (AFE.CAL.LE_PAIR k i) (AFE.CAL.LE_OFS k i) (bestPair le)
  let s := s.putPair (AFE.CAL.TOT_PAIR k i) (AFE.CAL.TOT_OFS k i) (bestPair (offsets.map (·.2)))
  let s := if ok = 0 then s.judgePairs r else s
  s.calElementDone 3 r true

/-- AFE_CAL_DONE (R427): the offsets of the four pairs, leading-edge and time-over-threshold. -/
def execAfeCalDone (input : Fin 384) (offsets : List (Int × Int)) (s : State) : Host.Outcome State Fault Refusal :=
  .next (s.calAfeDone input.val offsets)

/-- CAL clears at the hand boundary after the reconnection (R427 step 3). -/
def State.afeBoundary (s : State) : State :=
  let s := s.cal.afeEnding.foldl (fun s r => s.setB (AFE.STAT.CAL (r / 48) (r % 48)) false) s
  { s with cal := { s.cal with afeEnding := [] } }

/-! ## ADC and DUMMY (R429, R430) -/

/-- The calibration of an ADC starts (R429): the spare takes its bus; the spare itself is calibrated while it is free. -/
def State.calAdcStart (s : State) (a : Nat) : State :=
  if 9 ≤ a ∨ s.cal.adc.isSome ∨ s.fb (ADC.STAT.FAILED a) ∨ s.f ADC.SPARE.STATE ≠ 0 ∨ s.acq.handover.isSome ∨ !s.domOn 4 then s
  else
    let s := { s with cal := { s.cal with adc := some a } }.calShow 4 a
    if a = 8 then s else (s.setSpare 2 a).beginHandover a true

/-- An ADC has been measured (R429): its corrections follow, and its bus returns. -/
def State.calAdcDone (s : State) (a offset gain : Nat) : State :=
  if s.cal.adc ≠ some a ∨ (a ≠ 8 ∧ s.acq.onSpare ≠ some a) then s else
  let s := { s with cal := { s.cal with adc := none } }
  let s := (s.setF (ADC.ACORR.AOFS a) offset).setF (ADC.ACORR.AGAIN a) gain
  (if a = 8 then s else s.returnBus a).calElementDone 4 a true

/-- ADC_CAL_DONE (R429). -/
def execAdcCalDone (adc : Fin 9) (offset gain : BitVec 16) (s : State) : Host.Outcome State Fault Refusal :=
  .next (s.calAdcDone adc.val offset.toNat gain.toNat)

/-- The measurement of D0 starts on a free kitty TDC (R430). -/
def State.calDummyStart (s : State) : State :=
  match s.lowestKit 0 with
  | none => s
  | some n =>
    if s.cal.dummy.isSome ∨ !s.kitsLeft then s else
    let s := (s.setKit n 2 0x1FF).calShow 5 0
    { s with cal := { s.cal with dummy := some n } }

/-- DUMMY_D0_DONE (R430). -/
def execDummyD0Done (d0 : BitVec 16) (s : State) : Host.Outcome State Fault Refusal :=
  match s.cal.dummy with
  | none => .next s
  | some n =>
    let s := { s with cal := { s.cal with dummy := none } }
    .next (((s.setF KITTY.DUMMY_D0.D0 d0.toNat).setKit n 0 0).calElementDone 5 0 true)

/-- CAL_ITEM_START (R423): the interval of the item is due; it starts when its spare is free. -/
def execCalItemStart (item : Fin 6) (element : Fin 384) (s : State) : Host.Outcome State Fault Refusal :=
  if !s.calMay item.val then .next s else
  .next (match item.val with
  | 0 => s.calTdcStart element.val
  | 1 => if element.val < 16 then s.calKittyStart element.val else s
  | 2 => s.calDllStart element.val
  | 3 => s.calAfeStart element.val
  | 4 => s.calAdcStart element.val
  | _ => s.calDummyStart)

/-! ## The end-of-line run (R431) -/

/-- A write of CAL.EOL_CMD (R431). -/
def State.eolCmd (s : State) (src : Nat) (go apply_ : Bool) : State :=
  if !go then s
  else if s.pwr.st = .run ∧ s.enabled 0x0C ∧ s.steer.mode = 2 ∧ !s.steer.capturing ∧ !s.modeActive ∧ s.lockOpen ∧ s.cal.eol.isNone then
    { s with cal := { s.cal with eol := some { apply_ := apply_ } } }.setB CAL.EOL_STAT.BUSY true
  else s.err 0x10 src CAL.EOL_CMD

/-- EOL_GO (R431). -/
def execEolGo (src : Port) (apply_ : Bool) (s : State) : Host.Outcome State Fault Refusal :=
  .next (s.eolCmd (portSrc src) true apply_)

/-- OFS_c of R431 from the number of values and their sum in 1/256 LSB; none where KPROP is 0. -/
def State.eolOffset (s : State) (n : Nat) (sum : Int) : Option Int :=
  let k := s.f PNT.KPROP.KPROP
  if k = 0 ∨ n = 0 then none
  else
    let v := roundDiv (sum * k - 512 * n * s.f CAL.EOL_REF.D_REF * 2 ^ 20) (256 * n * k)
    if clipSigned 20 v = v then some v else none

/-- A result written into PNT.OFSc: a changed word is logged (R395, R431). A result that the spec does not state (KPROP 0), or
that does not fit the field, is a free value. -/
def State.eolWrite (s : State) (c : Nat) (v : Option Int) : State :=
  let (w, s) := match v with
    | some x => (unsigned 20 x, s)
    | none =>
      let (n, s) := s.takeFree
      (Config.freeNat n % 2 ^ 20, s)
  if s.f (PNT.OFS.OFS c) = w then s else
  let before := s.reg SAFE.CRC
  (s.setF (PNT.OFS.OFS c) w).coveredWritten before (PNT.OFS c) true

/-- The end of an end-of-line run (R431). -/
def State.eolEnd (s : State) : State :=
  match s.cal.eol with
  | none => s
  | some r =>
    let need := s.f CAL.EOL_CFG.MIN_N
    let good := filterRange 384 fun c => decide (max 1 need ≤ (nth r.sums c (0, 0)).1)
    let bad := filterRange 384 fun c => !good.contains c
    let s := (List.range 12).foldl (fun s w =>
      s.setReg (CAL.EOL_FAIL w) (BitVec.ofNat 32 (bad.foldl (fun n c => if c / 32 = w then n + 2 ^ (c % 32) else n) 0))) s
    let s := ((s.setF CAL.EOL_STAT.DONE good.length).setF CAL.EOL_STAT.FAILED bad.length).setB CAL.EOL_STAT.BUSY false
    let s := s.setF CAL.EOL_STAT.RESULT (if r.apply_ then 2 else 1)
    let s := if r.apply_ then good.foldl (fun s c =>
        let v := nth r.sums c (0, 0)
        s.eolWrite c (s.eolOffset v.1 v.2)) s
      else s
    let s := { s with cal := { s.cal with eol := none } }
    ((s.calCount 6).calStore 6).event 0x0C 3

/-- EOL_RUN_END (R431): FRAMES frames have passed. -/
def execEolRunEnd (s : State) : Host.Outcome State Fault Refusal := .next s.eolEnd

end Sys2Proof.Machine
end

