-- ==== Sys2Proof/Machine/Housekeeping.lean ====
section
/-! DEFINITION. Housekeeping and the thermal steps (spec/18 R433-R438, R444). -/

namespace Sys2Proof.Machine

/-! ## Temperature conversions (R434) -/

/-- The binary logarithm of m / 2^40 in [1, 2), by repeated squaring: `n` fraction bits appended to `acc`. -/
def logBits (m acc : Nat) : Nat → Nat
  | 0 => acc
  | n + 1 =>
    let q := m * m / 2 ^ 40
    if 2 ^ 41 ≤ q then logBits (q / 2) (2 * acc + 1) n else logBits q (2 * acc) n

/-- ln(a / b) in units of 2^-36, for positive a and b. -/
def lnRatio (a b : Nat) : Int :=
  let e : Int := (Nat.log2 a : Int) - Nat.log2 b
  let m := if 0 ≤ e then a * 2 ^ 40 / (b * 2 ^ e.toNat) else a * 2 ^ (40 + (-e).toNat) / b
  let (m, e) := if m < 2 ^ 40 then (2 * m, e - 1) else (m, e)
  (e * 2 ^ 36 + logBits m 0 36) * 47632711549 / 2 ^ 36

/-- A remote diode (R434), 1/16 °C, from the difference of its two voltages in µV; none with an ideality of 0. -/
def State.diodeTemp (s : State) (n : Nat) (dv : Int) : Option Int :=
  let eta : Int := s.f (HK.TD.IDEAL n)
  if eta = 0 then none
  else some (roundDiv (16 * 50398 * 16384 * dv - 43704 * 10 ^ 6 * eta) (10 ^ 7 * eta) + s.fi (HK.TD.OFS n))

/-- A thermistor (R434), 1/16 °C, from its voltage in µV; none where the formula has no value. -/
def State.thermTemp (s : State) (n v : Nat) : Option Int :=
  let r25 := s.f (HK.TH.R25 n)
  let b : Int := s.f (HK.TH.B n)
  if v = 0 ∨ 1200000 ≤ v ∨ r25 = 0 then none
  else
    let den : Int := 100 * b * 2 ^ 36 + 29815 * lnRatio (1000 * v) ((1200000 - v) * r25)
    let num : Int := b * 29815 * 2 ^ 36
    if den ≤ 0 then none else some (roundDiv (160 * num - 43704 * den) (10 * den))

/-- A thermistor reads above 1 MΩ or below 100 Ω (R434). -/
def thermRange (v : Nat) : Bool := decide (1200000 ≤ v) || decide (100 * (1200000 - v) < v) || decide (100 * v < 1200000 - v)

/-- A remote reading outside -55 °C to 175 °C (R434). -/
def remoteRange (t : Int) : Bool := decide (t < -880) || decide (2800 < t)

/-! ## The slots (R433) -/

/-- A slot takes a value and its suspect flag. -/
def State.putSlot (s : State) (n v : Nat) (suspect : Bool) : State :=
  (s.setF (HK.SLOT.VALUE n) v).setB (HK.SLOT.SUSPECT n) suspect

/-- A remote input's temperature as its slot holds it: a free value where the spec gives none or it does not fit. Answers the
temperature in 1/16 °C. -/
def State.slotTemp (s : State) (t : Option Int) : State × Int :=
  match t.filter fun x => clipSigned 16 x == x with
  | some x => (s, x)
  | none =>
    let (k, s) := s.takeFree
    (s, signed 16 (Config.freeNat k))

/-- A remote input is suspect or not (R434); becoming suspect raises SENSOR (R401, R402). -/
def State.remoteSuspect (s : State) (bit : Nat) (b : Bool) : State :=
  let v := s.f HK.SUSPECT.TH_TD
  (s.setF HK.SUSPECT.TH_TD (putBits v bit 1 (b2n b))).eventIf (b && !bitOf v bit) 0x0B 3

/-- The two slots of a remote diode (R433, R434): what the first slot holds is not stated. -/
def State.readDiode (s : State) (n : Nat) (v : Nat × Nat) : State :=
  let (s, t) := s.slotTemp (s.diodeTemp n ((v.2 : Int) - v.1))
  let bad := remoteRange t
  let (k, s) := s.takeFree
  ((s.putSlot (8 + 2 * n) (Config.freeNat k) bad).putSlot (9 + 2 * n) (unsigned 16 t) bad).remoteSuspect n bad

/-- The slot of a thermistor (R433, R434). -/
def State.readTherm (s : State) (n v : Nat) : State :=
  let (s, t) := s.slotTemp (s.thermTemp n v)
  let bad := thermRange v || remoteRange t
  (s.putSlot (16 + n) (unsigned 16 t) bad).remoteSuspect (4 + n) bad

/-- A supply value and its minimum and maximum since the last clear (R433); a cleared word takes the first value. -/
def State.readSupply (s : State) (n v : Nat) : State :=
  let fresh := s.reg (HK.SUP n) = 0
  let s := s.putSlot (20 + n) v false
  let s := if fresh ∨ s.f (HK.SUP.MAX n) < v then s.setF (HK.SUP.MAX n) v else s
  if fresh ∨ v < s.f (HK.SUP.MIN n) then s.setF (HK.SUP.MIN n) v else s

/-! ## On-die sensors (R435) -/

/-- A reading differs by more than 6 K from both its neighbours in the ring. -/
def deviates (l : List Int) (k : Nat) : Bool :=
  let d (j : Nat) : Bool := decide (96 < (nth l k 0 - nth l (j % 8) 0).natAbs)
  d (k + 7) && d (k + 1)

/-- An excluded sensor after one more round: readmitted after 1,000 rounds within 6 K of a neighbour. -/
def State.readmit (s : State) (k : Nat) (bad : Bool) : State :=
  if !bitOf (s.f HK.SUSPECT.DIE) k then s else
  let n := if bad then 0 else nth s.hk.near k 0 + 1
  if n < 1000 then { s with hk := { s.hk with near := setNth s.hk.near k n } }
  else { s with hk := { s.hk with near := setNth s.hk.near k 0 } }.setF HK.SUSPECT.DIE (putBits (s.f HK.SUSPECT.DIE) k 1 0)

/-- A deviating sensor is excluded, with SENSOR; with two excluded already it is kept and shown. -/
def State.exclude (s : State) (k : Nat) : State :=
  let v := s.f HK.SUSPECT.DIE
  if bitOf v k then s
  else if popCount v 8 < 2 then
    ({ s with hk := { s.hk with near := setNth s.hk.near k 0 } }.setF HK.SUSPECT.DIE (v + 2 ^ k)).event 0x0B 3
  else s.setF HK.SUSPECT.DEVIATE (putBits (s.f HK.SUSPECT.DEVIATE) k 1 1)

/-- The cross-check of the on-die sensors in one round (R435). -/
def State.checkDie (s : State) (a b : List Int) : State :=
  let bad (k : Nat) : Bool := deviates a k || deviates b k
  let s := s.setF HK.SUSPECT.DEVIATE 0
  let s := (List.range 8).foldl (fun s k => s.readmit k (bad k)) s
  (filterRange 8 bad).foldl (fun s k => s.exclude k) s

/-- The slots of the on-die sensors. -/
def State.readDie (s : State) (first : Nat) (l : List Int) : State :=
  (List.range 8).foldl (fun s k => s.putSlot (first + k) (unsigned 16 (nth l k 0)) (bitOf (s.f HK.SUSPECT.DIE) k)) s

/-- The largest value of the on-die sensors that are not excluded (R437). -/
def State.dieMax (s : State) (l : List Int) : Int :=
  let vs := (filterRange 8 fun k => !bitOf (s.f HK.SUSPECT.DIE) k).map fun k => nth l k 0
  vs.tail.foldl max (vs.headD 0)

/-! ## Thermal steps (R437, R438) -/

/-- The thermal steps of the die or of the laser. -/
def State.thermal (s : State) (laser : Bool) : Thermal := if laser then s.hk.laser else s.hk.die

/-- The thermal steps of the die or of the laser replaced; THROTTLE_REQ and SCALE follow, and CLEAR is raised when
THROTTLE_REQ clears (R438, R444). -/
def State.setThermal (s : State) (laser : Bool) (t : Thermal) : State :=
  let was := s.fb HK.STEP.THROTTLE_REQ
  let s := { s with hk := if laser then { s.hk with laser := t } else { s.hk with die := t } }
  let req := s.hk.die.req || s.hk.laser.req
  let s := (s.setF HK.STEP.SCALE (max s.hk.die.scale s.hk.laser.scale)).setB HK.STEP.THROTTLE_REQ req
  s.eventIf (was && !req) 0x0B 4

/-- DIE_STEP or LAS_STEP. -/
def stepField (laser : Bool) : Fld := if laser then HK.STEP.LAS_STEP else HK.STEP.DIE_STEP

/-- The thresholds WARN and CRIT, 1/16 °C. -/
def State.thermalLimits (s : State) (laser : Bool) : Int × Int :=
  if laser then (s.f HK.THR_LAS.LWARN, s.f HK.THR_LAS.LCRIT) else (s.f HK.THR_DIE.WARN, s.f HK.THR_DIE.CRIT)

/-- What GRACE runs for after a value (R437, R438): hot at WARN or above, cool below WARN less HYST; at CRIT the scale is
kept (R442). -/
def graceOf (step warn : Nat) (req : Bool) (v limit hyst : Int) : Grace :=
  if step = 2 then .idle
  else if step = 1 ∧ 2 ≤ warn then .hot
  else if req ∧ v < limit - hyst then .cool
  else .idle

/-- A value of T_d or T_l drives the steps (R437, R438). -/
def State.thermalValue (s : State) (laser : Bool) (v : Int) : State :=
  let (w, c) := s.thermalLimits laser
  let hyst : Int := s.f HK.GRACE.HYST
  let t := s.thermal laser
  let warn := if v < w then 0 else t.warn + 1
  let crit := if v < c then 0 else t.crit + 1
  let old := s.f (stepField laser)
  let step :=
    if 2 ≤ crit ∨ (old = 2 ∧ c - hyst ≤ v) then 2
    else if 2 ≤ warn ∨ (1 ≤ old ∧ w - hyst ≤ v) then 1 else 0
  let s := (s.setF (stepField laser) step).eventIf (old = 0 && step != 0) 0x0B 0
  let req := t.req || step != 0
  let s := s.setThermal laser { t with warn := warn, crit := crit, req := req, grace := graceOf step warn req v w hyst }
  if step = 2 ∧ old ≠ 2 then (s.event 0x0B 2).hazard 0 0 false else s

/-- The remote inputs that serve T_l and are not suspect (R437), as their slots. -/
def State.laserSlots (s : State) : List Nat :=
  let bad := s.f HK.SUSPECT.TH_TD
  (filterRange 4 fun n => bitOf (s.f HK.CFG.LAS_SRC) n && !bitOf bad n).map (fun n => 9 + 2 * n) ++
  (filterRange 4 fun n => bitOf (s.f HK.CFG.LAS_TH) n && !bitOf bad (4 + n)).map (16 + ·)

/-- T_l (R437): at LWARN when no selected input remains. -/
def State.laserTemp (s : State) : Int :=
  let vs := s.laserSlots.map fun n => s.fi (HK.SLOT.VALUE n)
  if vs.isEmpty then s.f HK.THR_LAS.LWARN else vs.tail.foldl max (vs.headD 0)

/-- The laser SHUT step (R438): at least two inputs at or above LSHUT in two consecutive rounds. -/
def State.laserShut (s : State) : State :=
  let n := (s.laserSlots.filter fun n => decide ((s.f HK.SHUT_LAS.LSHUT : Int) ≤ s.fi (HK.SLOT.VALUE n))).length
  let k := if 2 ≤ n then s.hk.laser.shut + 1 else 0
  let s := { s with hk := { s.hk with laser := { s.hk.laser with shut := k } } }
  if 2 ≤ k then s.enterFold 0x20 0x0B else s

/-- The housekeeping packet, DT 0x38 (R436). -/
def State.hkPacket (s : State) : State :=
  let div := s.f HK.CFG.HK_DIV
  if div = 0 ∨ s.hk.rounds % div ≠ 0 then s
  else s.sendPacket 0x38 0 s.gen4 s.timeNs
    ([w36 (s.hk.rounds % 2 ^ 32), w36 (s.reg HK.STEP).toNat] ++ (List.range 64).map fun n => w36 (s.f ⟨HK.SLOT n, 0, 17⟩))

/-- A housekeeping round (R433-R438). -/
def State.hkRound (s : State) (r : HkRaw) : State :=
  let s := { s with hk := { s.hk with rounds := s.hk.rounds + 1 } }
  let s := s.checkDie r.die r.again
  let s := (s.readDie 0 r.die).readDie 48 r.again
  let s := (List.range 4).foldl (fun s n => s.readDiode n (nth r.diode n (0, 0))) s
  let s := (List.range 4).foldl (fun s n => s.readTherm n (nth r.therm n 0)) s
  let s := (List.range 10).foldl (fun s n => s.readSupply n (nth r.supply n 0)) s
  let s := (List.range 16).foldl (fun s n => s.putSlot (30 + n) (nth r.mpd n 0) false) s
  let s := ((s.putSlot 46 r.bias false).putSlot 47 r.reference false).putSlot 56 r.zero false
  let s := s.putSlot 57 r.full false
  let l := s.laserTemp
  let s := (s.setI HK.TEMPS.T_D (s.dieMax r.again)).setI HK.TEMPS.T_L l
  let s := ((s.thermalValue false (s.dieMax r.die)).thermalValue false (s.dieMax r.again)).thermalValue true l
  s.hkPacket.laserShut

/-- HK_ROUND (R433): in READY, RUN and STANDBY. -/
def execHkRound (raw : HkRaw) (s : State) : Host.Outcome State Fault Refusal :=
  if s.pwr.st = .ready ∨ s.pwr.st = .run ∨ s.pwr.st = .standby then .next (s.hkRound raw) else .next s

/-- GRACE has passed at or above WARN, or below WARN less HYST (R437, R438). -/
def State.graceEnds (s : State) (laser : Bool) : State :=
  let t := s.thermal laser
  match t.grace with
  | .idle => s
  | .hot => (s.setThermal laser { t with scale := min 2 (t.scale + 1) }).eventIf (decide (t.scale < 2)) 0x0B 1
  | .cool =>
    let k := t.scale - 1
    s.setThermal laser { t with scale := k, req := decide (0 < k), grace := if k = 0 then .idle else .cool }

/-- THERMAL_GRACE_EXPIRY (R437, R438). -/
def execThermalGraceExpiry (laser : Bool) (s : State) : Host.Outcome State Fault Refusal := .next (s.graceEnds laser)

/-- DEAL.HAND_STAT.SCALE at a hand boundary (R438). -/
def State.scaleBoundary (s : State) : State := s.setF DEAL.HAND_STAT.SCALE (s.f HK.STEP.SCALE)

/-- DIE_SHUT_COMPARATOR (R438): from step 1 of the start-up sequence on, at two sensors or more. -/
def execDieShutComparator (sensors : BitVec 8) (s : State) : Host.Outcome State Fault Refusal :=
  if popCount sensors.toNat 8 < 2 ∨ (s.pwr.st = .powerUp ∧ s.pwr.nresetLow) then .next s else .next (s.enterFold 0x20 0x0B)

/-- A write of 1 to HK.CNT_CLR (R444). -/
def State.hkCntClr (s : State) : State := (List.range 10).foldl (fun s n => s.setReg (HK.SUP n) 0) s

/-- HK_CNT_CLR (R444). -/
def execHkCntClr (s : State) : Host.Outcome State Fault Refusal := .next s.hkCntClr

end Sys2Proof.Machine
end

