-- ==== Sys2Proof/Machine/Change.lean ====
section
/-! DEFINITION. Configuration images put to use: the configuration load of self-test (spec/03 R64, spec/17 R410) and
ACTIVATE (spec/17 R412), with the end of a firing-frame load that it waits for (spec/06 R139). -/

namespace Sys2Proof.Machine

/-! ## Stored values (R409-R412) -/

/-- The bits of a register word that an image sets: RW, RWS and RWL, but for an ENABLE that is held at 1 (R86). -/
def imageMask (a : Nat) : Word :=
  storedMask a &&& ~~~(if a % 0x400 = 1 ∧ heldEnabled (a / 0x400) then (1 : Word) else 0)

/-- A word with the bits of a mask taken from another. -/
def mergeBits (m old new : Word) : Word := (old &&& ~~~m) ||| (new &&& m)

/-- The register words of the records of an image, in image order (R409). -/
def registerWords (rs : List Record) : List (Nat × Word) :=
  rs.flatMap fun r => if r.1 < 0x40000 then ((List.range r.2.length).zip r.2).map fun x => (r.1 + x.1, x.2.setWidth 32) else []

/-- The memory words of the records of an image that lie in a region. -/
def memoryWords (region : Nat) (rs : List Record) : List (Nat × Word36) :=
  rs.flatMap fun r => if memRegion r.1 = region then ((List.range r.2.length).zip r.2).map fun x => (r.1 + x.1, memBits (r.1 + x.1) x.2) else []

/-- OFF_REQ of a PWR word stands for its domain's bit of PWR.DOMAIN (R84); AON and LINK have none (R74). -/
def State.putOffReq (s : State) (a : Nat) (v : Word) : State :=
  let d := pageDomain (a / 0x400)
  if d = 0 ∨ 7 < d then s else s.setF PWR.DOMAIN.OFF_REQ (putBits (s.f PWR.DOMAIN.OFF_REQ) d 1 (v.toNat % 2))

/-- The shadows of the RWS fields of a word set. -/
def State.putShadowWord (s : State) (a : Nat) (v : Word) : State := s.setShad a (mergeBits (rwsMask a &&& imageMask a) (s.shad a) v)

/-- A register word of an image loaded into active settings and shadows (R64). -/
def State.putRegister (s : State) (a : Nat) (v : Word) : State :=
  if a % 0x400 = 10 then s.putOffReq a v
  else (s.setReg a (mergeBits (imageMask a) (s.reg a) v)).putShadowWord a v

/-- What follows from a write of RW or RWL fields of a word, whose value was `before`: an interrupt enable may raise the
summary bit (R103), a clamp goes to its tile (R148), PREF may switch the reference (R407). -/
def State.storedWritten (s : State) (a : Nat) (before : Word) : State :=
  if s.reg a = before then s
  else if a % 0x400 = 4 then
    (if before &&& s.reg (a - 1) = 0 ∧ s.summary (a / 0x400) then s.summaryRose (a / 0x400) else s)
  else if EMIT.CLAMP 0 ≤ a ∧ a ≤ EMIT.CLAMP 15 then s.levelDue (a - EMIT.CLAMP 0)
  else if a = CLK.REFSEL ∧ CLK.REFSEL.PREF.get before ≠ s.f CLK.REFSEL.PREF then s.prefWritten
  else s

/-- The code under which a value of a word is refused by the word's own rule (R397, R444): COMPARE_DIV and the
temperature steps. -/
def State.ruleBroken (s : State) (a : Nat) : Option Nat :=
  let crit := s.f HK.THR_DIE.CRIT
  let lcrit := s.f HK.THR_LAS.LCRIT
  let bad :=
    if a = SUPV.CFG then s.f SUPV.CFG.COMPARE_DIV == 0 || decide (2048 < s.f SUPV.CFG.COMPARE_DIV)
    else if a = HK.THR_DIE then decide (2000 < crit) || decide (crit ≤ s.f HK.THR_DIE.WARN)
    else if a = HK.THR_LAS then
      decide (2000 < lcrit) || decide (lcrit ≤ s.f HK.THR_LAS.LWARN) || decide (s.f HK.SHUT_LAS.LSHUT ≤ lcrit)
    else if a = HK.SHUT_LAS then decide (s.f HK.SHUT_LAS.LSHUT ≤ lcrit)
    else false
  if bad then some 0x10 else none

/-- The words that such a rule concerns. -/
def ruledWords : List Nat := [SUPV.CFG, HK.THR_DIE, HK.THR_LAS, HK.SHUT_LAS]

/-- The RW and RWL fields of a word written, by the rules of the word: off requests (R74), bank owners (R358) and the ring
pointer (R285) have rules of their own. -/
def State.writeStored (s : State) (src a : Nat) (v : Word) : State :=
  if a % 0x400 = 10 then
    (if assigned (a / 0x400) then s.writeOffReq (pageDomain (a / 0x400)) (v.getLsbD 0) else s)
  else if a = PWR.DOMAIN then s.writeOffReqs (.domains (v.extractLsb' 16 9))
  else if BANK.OWN 0 ≤ a ∧ a ≤ BANK.OWN 31 then s.ownerWrite src (a - BANK.OWN 0) (v.toNat % 16)
  else if a = ACQ.RING_RD then s.writeRingRd src (v &&& definedMask a).toNat
  else (s.setReg a (mergeBits (imageMask a &&& ~~~rwsMask a) (s.reg a) v)).storedWritten a (s.reg a)

/-! ## The configuration load (R64, R410) -/

/-- The slot that the load takes (R410): the one recorded as active when it is valid, otherwise the other one. -/
def State.loadSlot (s : State) : Option Nat :=
  let n := s.led.cfgActive
  if s.fb (okBit n) then some n else if s.fb (okBit (1 - n)) then some (1 - n) else none

/-- The pages that an image commits: those with a record of a word that holds an RWS field. -/
def imagePages (ws : List (Nat × Word)) : List Nat := ((ws.filter fun w => rwsMask w.1 != 0).map fun w => w.1 / 0x400).eraseDups

/-- The firing frames of an image in buffer 0, which becomes active (R410). -/
def State.loadFrames (s : State) (ws : List (Nat × Word36)) : State :=
  if ws.isEmpty then s else
  let s := ws.foldl (fun s w => s.wr (0xA40000 + (w.1 - 0xA40000) % 0x2000) w.2) s
  let x := EMIT.FF_CTRL.ACTIVE_SEL
  ((s.setF x 0).setShad x.addr (x.put (s.shad x.addr) 0)).setF EMIT.FF_CTRL.ACTIVE 0

/-- The records of an image applied as one commit event (R64, R410). -/
def State.loadRecords (s : State) (rs : List Record) : State :=
  let old := s
  let ws := registerWords rs
  let ps := imagePages ws
  let s := ws.foldl (fun s w => (s.putRegister w.1 w.2).storedWritten w.1 (s.reg w.1)) s
  let s := (memoryWords 1 rs).foldl (fun s w => s.wr w.1 w.2) (s.loadFrames (memoryWords 2 rs))
  let s := if ps.isEmpty then s else s.nextGeneration
  (ps.foldl (fun s p => s.pageCommitted p false false) s).followPages old ps

/-- The supervisor starts, with its own copy of the field configuration (R64, R384). -/
def State.supvStarts (s : State) : State :=
  { s.setB SUPV.STATUS.RUNNING true with supv := { s.supv with copy := s.regs.filter fun e => e.1 / 0x400 == 0x09 } }.showPermit

/-- With START_IL at 1 a restart request is set at each configuration load (R370). -/
def State.loadRestart (s : State) : State := if s.fb SAFE.FUNC.START_IL then s.restartRequest else s

/-- The configuration load (R64, R366, R370, R410, R432): the image, the calibration records, the supervisor and the safety
mode. -/
def State.configLoad (s : State) : State :=
  let s := s.cfgCheckAll
  match s.loadSlot with
  | none => ((s.setF BOOT.IMAGE.CFG_ACTIVE s.led.cfgActive).loadCal.supvStarts.loadRestart).event 0x03 4
  | some n =>
    let s := (s.setF BOOT.IMAGE.CFG_ACTIVE n).eventIf (n != s.led.cfgActive) 0x03 3
    let s := (s.loadRecords ((s.cfgRecords n).getD [])).loadCal
    let s := { s with img := { s.img with committed := true } }
    let b := slotBase n
    let confirmed := bitOf (s.rd (b + 3)).toNat 31 && s.rdN (b + 4) 0 32 == (s.reg SAFE.CRC).toNat
    s.supvStarts.loadRestart.setMode confirmed

/-! ## ACTIVATE (R412) -/

/-- The records of the image in the inactive slot, which no write reaches while the command runs (R408). -/
def State.changeRecords (s : State) : List Record := (s.cfgRecords s.cfgInactive).getD []

/-- CFG_CMD ACTIVATE (R412, R417). -/
def State.cfgActivate (s : State) (src b : Nat) : State :=
  if b < 2 then s.bootRefuse 0x05 src BOOT.CFG_CMD
  else if s.changeBusy then s.bootRefuse 0x11 src BOOT.CFG_CMD
  else { s.setB BOOT.CFG_STAT.BUSY true with img := { s.img with cfg := some (.checking b) } }

/-- CFG_ACTIVATE (R412). -/
def execCfgActivate (src : Port) (boundary : Fin 4) (s : State) : Host.Outcome State Fault Refusal :=
  .next (s.cfgActivate (portSrc src) boundary.val)

/-- An image would change a word that the safety CRC covers (R412 step 2). -/
def State.changesCovered (s : State) (ws : List (Nat × Word)) : Bool :=
  let t := (ws.filter fun w => covered w.1).foldl (fun t w => t.putRegister w.1 w.2) s
  coveredWords.any fun a => t.reg a != s.reg a

/-- The address in REC_ADDR (R412 step 4): the first record on the page that refuses, and its COMMIT word where the image
has none there. -/
def refusedRecord (rs : List Record) (p : Nat) : Nat :=
  match rs.find? fun r => decide (r.1 / 0x400 = p) with
  | some r => r.1
  | none => hdr p 8

/-- Place-0 words pass through the forward queue (R145, R412); those that find it full wait behind it (DESIGN CHOICE). -/
def State.forward (s : State) (w : Nat × Word36) : State :=
  let t := (w.1 - 0xA00000) / 0x20
  if w.1 % 2 = 0 ∧ s.fb LDB.STATUS.ENUMERATED ∧ 64 ≤ s.ldb.fwd.length then
    { s with ldb := { s.ldb with fwd := s.ldb.fwd ++ [(t, w.2)] } }
  else (s.writePlace0 0 t (w.1 % 2 = 1) w.2).1

/-- Step 4 of an activation (R412): ACTIVE_SEL joins where firing frames were written, and requests are posted on every
dirty page, or none. Place-0 words are forwarded once nothing has been refused. -/
def State.changePost (s : State) (b : Nat) (held : List (Nat × Word)) : State :=
  let rs := s.changeRecords
  let x := EMIT.FF_CTRL.ACTIVE_SEL
  let s := if (memoryWords 2 rs).isEmpty then s
    else (s.setShad x.addr (x.put (s.shad x.addr) (1 - s.f EMIT.FF_CTRL.ACTIVE))).shadowWritten x.addr
  let ps := s.dirtyPages
  let t := held.foldl (fun t w => t.putRegister w.1 w.2) s
  match ruledWords.find? fun a => held.any (fun w => w.1 == a) && (t.ruleBroken a).isSome with
  | some a => ((s.err ((t.ruleBroken a).getD 0x10) 0 a).setF BOOT.CFG_STAT.REC_ADDR (refusedRecord rs (a / 0x400))).cfgEnds 4
  | none =>
  match ps.find? fun p => (s.judgeRequest p b false ps).isSome with
  | some p => ((s.globalCommit 0 b).setF BOOT.CFG_STAT.REC_ADDR (refusedRecord rs p)).cfgEnds 4
  | none =>
    let s := (memoryWords 1 rs).foldl (fun s w => s.forward w) (s.globalCommit 0 b)
    { s with img := { s.img with cfg := some (.posted { boundary := b, armed := false, latched := false, pages := ps, held := held }) } }

/-- Step 3 of an activation (R412): shadows, values held aside, and firing frames into the inactive buffer. -/
def State.changeApply (s : State) (b : Nat) (rs : List Record) : State :=
  let ws := registerWords rs
  let s := ws.foldl (fun s w => if rwsMask w.1 &&& imageMask w.1 = 0 then s else (s.putShadowWord w.1 w.2).shadowWritten w.1) s
  let held := ws.filter fun w => storedMask w.1 &&& ~~~rwsMask w.1 != 0
  let ff := memoryWords 2 rs
  if ff.isEmpty then s.changePost b held else
  let i := 1 - s.f EMIT.FF_CTRL.ACTIVE
  let s := ff.foldl (fun s w => s.wr (0xA40000 + 0x2000 * i + (w.1 - 0xA40000) % 0x2000) w.2) s
  let s := (s.setHeld (setNth s.ldb.held i false)).ffLoad
  if s.fb EMIT.FF_CTRL.LOADING || s.ldb.loadWaits then { s with img := { s.img with cfg := some (.loading b held) } }
  else s.changePost b held

/-- CFG_ACTIVATE_CRC_DONE (R412 steps 1 to 4). -/
def execCfgActivateCrcDone (s : State) : Host.Outcome State Fault Refusal :=
  match s.img.cfg with
  | some (.checking b) =>
    let n := s.cfgInactive
    let s := s.ledgerScan (slotBase n) (min 65536 (s.cfgLength n))
    let rs := s.cfgRecords n
    let s := s.setB (okBit n) rs.isSome
    match rs with
    | none => .next (s.cfgEnds 3)
    | some rs =>
      if s.changesCovered (registerWords rs) ∧ (s.modeActive ∨ !s.lockOpen) then .next (s.cfgEnds 5)
      else .next (s.changeApply b rs)
  | _ => .next s

/-- FF_LOAD_DONE (R139): the copy of a LOAD ends; an activation that waits for it goes on. -/
def execFfLoadDone (s : State) : Host.Outcome State Fault Refusal :=
  if !s.fb EMIT.FF_CTRL.LOADING then .next s else
  let (s, _) := s.ffLoadDone
  match s.img.cfg with
  | some (.loading b held) => .next (s.changePost b held)
  | _ => .next s

/-- An edge on SYNC_IN arms an activation with boundary 3. -/
def State.changeArmed (s : State) : State :=
  match s.img.cfg with
  | some (.posted p) => { s with img := { s.img with cfg := some (.posted { p with armed := true }) } }
  | _ => s

/-- The latch instant of a frame boundary takes an activation with it. -/
def State.changeLatched (s : State) : State :=
  match s.img.cfg with
  | some (.posted p) =>
    if p.boundary = 2 ∨ p.armed then { s with img := { s.img with cfg := some (.posted { p with latched := true }) } } else s
  | _ => s

/-- Step 5 of an activation (R412), at its frame boundary; `before` is the safety CRC before the commit event. -/
def State.changeDone (s : State) (before : Word) : State :=
  match s.img.cfg with
  | some (.posted p) =>
    if !p.latched then s else
    let s := (p.held.foldl (fun s w => s.writeStored 0 w.1 w.2) s).updateCrc
    let n := s.cfgInactive
    let s := (s.setF BOOT.IMAGE.CFG_ACTIVE n).blockWrite { s.led with cfgActive := n }
    let s := { s with img := { s.img with committed := true } }
    ((s.logAppend 0x0A before BOOT.CFG_CMD).cfgEnds 2).eolAbandon
  | _ => s

end Sys2Proof.Machine
end

