-- ==== Sys2Proof/Machine/View.lean ====
section
/-! DEFINITION. What a read of a register word returns (spec/04 R82-R84): the active value, shadows for RWS fields, and
the fields that show other state. -/

namespace Sys2Proof.Machine

/-! ## The common header (R84) -/

/-- A page is active: its ENABLE is 1 and its domain is on and ready; TAB, whose domain nothing switches off, always. -/
def State.pageActive (s : State) (p : Nat) : Bool := s.enabled p && (p == 0x48 || s.domOn (pageDomain p))

/-- ID of a page. -/
def idWord (p : Nat) : Word := BitVec.ofNat 32 (p * 2 ^ 24 + (p - pageInstance p) * 2 ^ 16 + pageInstance p * 2 ^ 8 + 0xB0)

/-- A request of a page is pending (R88). -/
def State.pendingOn (s : State) (p : Nat) : Bool :=
  (s.request p).isSome || s.latched.any (fun l => l.page == p) || (p == 0x44 && s.ispHeld.isSome)

/-- A request that a global commit posted is pending (R105). -/
def State.globalPending (s : State) : Bool := s.commits.any (·.global) || s.latched.any (·.global) || s.ispHeld.any (·.global)

/-- GEN of a page: PENDING is ACTIVE + 1 while a request is pending. -/
def State.genView (s : State) (p : Nat) : Word :=
  let g := (s.reg (hdr p 9)).toNat
  BitVec.ofNat 32 (putBits g 8 8 (g % 256 + b2n (s.pendingOn p)))

/-- PWR of a page. -/
def State.pwrView (s : State) (p : Nat) : Word :=
  let d := pageDomain p
  BitVec.ofNat 32 (d * 2 ^ 8 + b2n (s.domOn d) * 2 + bitsOf (s.f PWR.DOMAIN.OFF_REQ) d 1)

/-- LOCK of a page. -/
def State.lockView (s : State) (p : Nat) : Word :=
  BitVec.ofNat 32 (b2n (!(rowOffsets p .rwl).isEmpty) * 2 + b2n s.lockOpen)

/-! ## The block words -/

/-- A field shown in a word. -/
def Fld.show (x : Fld) (v : Nat) (w : Word) : Word := x.put w v

/-- PWR.STATE's code of a state (R79); unpowered reads nothing. -/
def stateCode : PState → Nat
  | .unpowered => 0
  | .powerUp => 0
  | .ready => 1
  | .run => 2
  | .standby => 3
  | .fold => 8

/-- INTC.SUM (R103). -/
def State.sumView (s : State) (w : Nat) : Nat :=
  (List.range 32).foldl (fun n k => n + b2n (assigned (32 * w + k) && s.summary (32 * w + k)) * 2 ^ k) 0

/-- INTC.FIRST (R105). -/
def State.firstView (s : State) : Nat :=
  match (List.range 0x49).find? fun p => assigned p && s.summary p && s.intMasked p with
  | some p => p
  | none => 0x100

/-- TAB.QFILL (R349): the fill of the four queues, rounded up. -/
def State.fillView (s : State) : Nat :=
  let fill (c u : Nat) : Nat := satTo 8 (divUp (queueWords (s.link.queue c)) u)
  fill 0 64 * 2 ^ 24 + fill 1 256 * 2 ^ 16 + fill 2 256 * 2 ^ 8 + fill 3 64

/-- BANK.REPAIR with the fused repairs, at most 4 (R355). -/
def repairView (w : Nat) (v : Word) : Word :=
  (List.range 4).foldl (fun v k => (⟨BANK.REPAIR w, 8 * k, 3⟩ : Fld).put v (Config.fusedRepairs (4 * w + k) % 5)) v

/-- A word of the AON and SCAN pages as read: fields that show other state put over its stored value `v`. -/
def State.viewLow (s : State) (a : Nat) (v : Word) : Word :=
  if a = PWR.STATE then
    PWR.STATE.TARGET.show (stateCode s.pwr.target) (PWR.STATE.STATE.show (stateCode s.pwr.st) v)
  else if a = PWR.DOMAIN then
    PWR.DOMAIN.ON.show ((List.range 9).foldl (fun n d => n + b2n (s.domOn d) * 2 ^ d) 0) v
  else if a = BOOT.FW_STAT then BOOT.FW_STAT.FW_MIN.show s.led.fwMin v
  else if a = BOOT.FW_VER then BitVec.ofNat 32 (s.fwVersion 3 * 2 ^ 16 + s.fwVersion 2)
  else if a = BOOT.CFG_ID then BitVec.ofNat 32 (s.imageId (s.f BOOT.IMAGE.CFG_ACTIVE))
  else if a = CHIP.DEVID then CHIP.DEVID.GRADE.show (if Config.gradeI then 2 else 1) v
  else if a = CHIP.GCOMMIT then CHIP.GCOMMIT.REQ.show (b2n s.globalPending) v
  else if INTC.SUM 0 ≤ a ∧ a ≤ INTC.SUM 7 then BitVec.ofNat 32 (s.sumView (a - INTC.SUM 0))
  else if a = INTC.FIRST then BitVec.ofNat 32 s.firstView
  else if a = TIME.NOW_HI then BitVec.ofNat 32 (s.timeNs / 2 ^ 32)
  else if a = TIME.NOW_LO then BitVec.ofNat 32 s.timeNs
  else if a = TIME.STAT then TIME.STAT.PENDING.show (b2n s.timeSet.isSome) (TIME.STAT.SRC.show (b2n s.onPll) v)
  else if a = SAFE.PW_STAT then
    SAFE.PW_STAT.STORED.show (b2n s.led.password.isSome)
      (SAFE.PW_STAT.BUSY.show (b2n s.safe.check.isSome) (SAFE.PW_STAT.BLOCK_S.show s.blockLeft v))
  else if a = SAFE.LOG then BitVec.ofNat 32 s.logSeq
  else if a = SAFE.RESP then BitVec.ofNat 32 s.safeResp
  else if a = LEDGER.STAT then LEDGER.STAT.PENDING.show s.ledgerPending v
  else if a = LEDGER.WEAR then BitVec.ofNat 32 s.ledgerWear
  else if BANK.REPAIR 0 ≤ a ∧ a ≤ BANK.REPAIR 7 then repairView (a - BANK.REPAIR 0) v
  else if a = DEAL.RING_STATE then BitVec.ofNat 32 (s.ringTab (s.f DEAL.RING_SEL.TILE))
  else if a = LDB.QUEUE then LDB.QUEUE.FILL.show (min 64 s.ldb.fwd.length) v
  else if a / 0x400 = 0x15 ∧ 0x18 ≤ a % 0x400 ∧ a % 0x400 < 0x90 ∧ a % 16 = 8 then
    (SENSE.STAT.OPEN ((a % 0x400 - 0x18) / 16)).show (b2n (s.senseOpen ((a % 0x400 - 0x18) / 16))) v
  else if a = STEER.DRIVE 0 then (STEER.DRIVE.VALUE 0).show (unsigned 16 (s.dacCode 0)) v
  else if a = STEER.DRIVE 1 then (STEER.DRIVE.VALUE 1).show (unsigned 16 (s.dacCode 1)) v
  else v

/-- A word of the other pages as read. -/
def State.viewHigh (s : State) (a : Nat) (v : Word) : Word :=
  let p := a / 0x400
  let o := a % 0x400
  if 0x20 ≤ p ∧ p ≤ 0x27 ∧ 0x40 ≤ o ∧ o < 0x100 ∧ o % 4 = 3 then
    let r := 48 * (p - 0x20) + (o - 0x40) / 4
    (AFE.STAT.ACTIVE (p - 0x20) ((o - 0x40) / 4)).show
      (b2n (s.domOn 2 && !s.inputOff r && !s.fb (AFE.STAT.CAL (r / 48) (r % 48)) && !s.fb (AFE.STAT.STUCK (r / 48) (r % 48)))) v
  else if a = REJ.BG_STAT then Cells.get (fun _ => 0) s.hist.bg (s.f REJ.BG_SEL.CH)
  else if a = ACQ.STATE then ACQ.STATE.STATE.show s.acqState v
  else if a = ACQ.RING_WR then ACQ.RING_WR.FILL.show s.ringFill v
  else if a = ISP.LOAD then ISP.LOAD.INLINE.show s.inlinePort v
  else if a = TAB.QFILL then BitVec.ofNat 32 s.fillView
  else v

/-- What a read of a register word returns (R8, R9, R82). -/
def State.view (s : State) (a : Nat) : Word :=
  let p := a / 0x400
  let v := s.merged a &&& definedMask a
  if !assigned p then 0 else
  match a % 0x400 with
  | 0 => idWord p
  | 2 => (⟨a, 31, 1⟩ : Fld).show (b2n (s.pageActive p)) v
  | 8 => (⟨a, 4, 1⟩ : Fld).show (b2n (s.pendingOn p)) v
  | 9 => s.genView p
  | 10 => s.pwrView p
  | 11 => s.lockView p
  | _ => if p ≤ 0x15 then s.viewLow a v else s.viewHigh a v

/-! ## Parity (R83) -/

/-- A register word with its parity bits. -/
def withParity (v : Word) : Word36 :=
  w36 ((List.range 4).foldl (fun n k => n + b2n (evenOnes (bitsOf v.toNat (8 * k) 8) 8) * 2 ^ (32 + k)) v.toNat)

/-- The parity of a register word is right. -/
def parityOk (d : Word36) : Bool := withParity (d.setWidth 32) == d

end Sys2Proof.Machine
end

