-- ==== Sys2Proof/Machine/Write.lean ====
section
/-! DEFINITION. What a write of a register word does (spec/04 R83-R90, R93, R104-R106): the fields by their access codes,
the commands of WO and W1S fields, soft reset, forced events and merged event packets. -/

namespace Sys2Proof.Machine

/-! ## Interrupt words (R84, R104) -/

/-- How many events a page defines, from INT_STAT bit 0 on. -/
def eventCount (p : Nat) : Nat :=
  if 0x20 ≤ p ∧ p ≤ 0x27 then (if p = 0x20 then 3 else 2)
  else if 0x28 ≤ p ∧ p ≤ 0x2F then 3
  else if 0x40 ≤ p ∧ p ≤ 0x43 then 9
  else match p with
  | 0x01 => 4 | 0x02 => 1 | 0x03 => 5 | 0x06 => 1 | 0x07 => 3 | 0x08 => 8 | 0x09 => 4 | 0x0A => 3 | 0x0B => 5 | 0x0C => 4
  | 0x0D => 4 | 0x10 => 7 | 0x12 => 5 | 0x13 => 4 | 0x14 => 7 | 0x15 => 5 | 0x30 => 5 | 0x31 => 3 | 0x32 => 4 | 0x38 => 5
  | 0x39 => 3 | 0x3A => 3 | 0x3B => 3 | 0x44 => 1 | 0x48 => 10
  | _ => 0

/-- The INT_STAT bits that a page defines; the others are reserved (R9). -/
def eventMask (p : Nat) : Nat := 7 * 2 ^ 29 + (2 ^ eventCount p - 1)

/-- A write of INT_FORCE (R84): the events named occur; forcing ERR latches code FORCED. -/
def State.intForce (s : State) (src p bits : Nat) : State :=
  if !assigned p then s else
  let b := bits &&& eventMask p
  let s := s.setIntStat p (s.reg (hdr p 3) ||| BitVec.ofNat 32 (b &&& 0x7FFFFFFF))
  if bitOf b 31 then s.errAt p 0x0F src p 5 else s

/-- A write of INT_STAT (R84): ones clear; clearing ERR clears ERR_CAUSE. -/
def State.intClear (s : State) (p : Nat) (v : Word) : State :=
  let s := if v.getLsbD 31 then s.setReg (hdr p 6) 0 else s
  s.setReg (hdr p 3) (s.reg (hdr p 3) &&& ~~~v)

/-- ERR_COUNT.CLEAR (R84). -/
def State.errCountClear (s : State) (p : Nat) : State := if assigned p then s.setReg (hdr p 7) 0 else s

/-- INT_FORCE (R84). -/
def execIntForce (src : Port) (page : Fin 256) (bits : BitVec 32) (s : State) : Host.Outcome State Fault Refusal :=
  .next (s.intForce (portSrc src) page.val bits.toNat)

/-- ERR_COUNT_CLEAR (R84). -/
def execErrCountClear (page : Fin 256) (s : State) : Host.Outcome State Fault Refusal := .next (s.errCountClear page.val)

/-- The merge periods of event packets replaced. -/
def State.setMerges (s : State) (ms : List EvtMerge) : State := { s with host := { s.host with merges := ms } }

/-- EVENT_PACKET_MERGE_END (R104): risings merged in the 100 µs since a packet are sent in one more, from which the next
100 µs run; without any, the period ends. -/
def execEventPacketMergeEnd (page : Fin 256) (s : State) : Host.Outcome State Fault Refusal :=
  let p := page.val
  match s.host.merges.find? fun m => m.page == p with
  | none => .next s
  | some m =>
    let rest := s.host.merges.filter fun m => m.page != p
    match m.first with
    | none => .next (s.setMerges rest)
    | some t =>
      let again : EvtMerge := { page := p, first := none }
      .next ((s.setMerges (rest ++ [again])).intEventPacket p t)

/-! ## Soft reset (R85) -/

/-- A channel of a TDC page after its soft reset. -/
def Chan.fresh (page c : Nat) (x : Chan) : Chan :=
  if c / 48 = page then { markHand := x.markHand, sum := { disabled := x.sum.disabled } } else x

/-- A channel of a slice after the soft reset of HIST: what it has counted is gone. -/
def HistCh.fresh (x : HistCh) : HistCh := { count := x.count, slot := x.slot }

/-- A camera port after its soft reset. -/
def CamPort.fresh (c : CamPort) : CamPort := { linePeriod := c.linePeriod, exp := c.exp, gain := c.gain }

/-- An axis after the soft reset of STEER: integrator, notch history and observer at zero; its move to zero goes on (R86). -/
def Axis.restarted (x : Axis) : Axis := { mode := x.mode }

/-- What a block holds beside its registers: FIFOs and pipeline. -/
def State.blockReset (s : State) (p : Nat) : State :=
  if 0x28 ≤ p ∧ p ≤ 0x2F then
    { s with ret := { s.ret with
      chans := s.ret.chans.mapIdx (Chan.fresh (p - 0x28))
      retrying := s.ret.retrying.filter fun i => i / 2 != p - 0x28 } }
  else match camOf p with
  | some k => (s.i2cRelease k).updPort k CamPort.fresh
  | none =>
    if 0x20 ≤ p ∧ p ≤ 0x27 then (if p = 0x20 then { s with ret := { s.ret with biasOut := 0, biasIn := 0 } } else s)
    else match p with
    | 0x09 => { s with field := {} }
    | 0x0D => { s with scrub := List.replicate 32 0 }
    | 0x0C => { s.abandonCals.eolAbandon with cal := { s.abandonCals.eolAbandon.cal with passes := [[], [], [], [], [], []], dummy := none } }
    | 0x10 => s.dropFire
    | 0x11 => { s with deal := { s.deal with lfsr := (List.range 4).map fun g => s.f (SHUF.SEED.SEED g) } }
    | 0x12 => { s with emit := { s.emit with mpd := List.replicate 16 {}, shots := [none, none, none, none] } }
    | 0x13 => s.flushBus
    | 0x14 => { s with steer := { s.steer with axes := s.steer.axes.map Axis.restarted, clean := 0, yBefore := 0 } }
    | 0x15 => { s with steer := { s.steer with sense := List.replicate 8 {} } }
    | 0x30 => { s with ret := { s.ret with dummy := none } }
    | 0x31 => { s with acq := { s.acq with onSpare := none, handover := none, dead := [], retests := [] } }
    | 0x32 => { s.acqLost with acq := { s.acqLost.acq with done := false, phase := 0, skipped := 0, stepUp := none } }
    | 0x38 => { s with hist := { s.hist with
        fifos := List.replicate 32 [], chans := s.hist.chans.map HistCh.fresh, dumps := [], rawHand := none } }
    | 0x39 => { s with hist := { s.hist with closed := List.replicate 384 [], bg := [] } }
    | 0x3A => { s with hist := { s.hist with held := List.replicate 384 none, attached := [], bidTiles := [], frames := [] } }
    | 0x3B => { s with zone := {} }
    | 0x44 => { s with cam := { s.cam with served := 3 } }
    | _ => s

/-- The bits of a word that a soft reset clears: RO fields of the block. -/
def softMask (a : Nat) : Word := if a % 0x400 = 2 ∨ 0x10 ≤ a % 0x400 then accMask a .ro else 0

/-- The RO fields of a block at their reset values; a shut-off that stands stays with its kind and tile, for only R161 ends it
(log entry 106). -/
def State.clearRo (s : State) (p : Nat) : State :=
  let as := (s.regs.filter fun e => e.1 / 0x400 == p && !(e.1 == EMIT.FAULT && s.fb EMIT.FAULT.HAZ)).map (·.1)
  as.foldl (fun s a => s.setReg a (mergeBits (softMask a) (s.reg a) (resetWord a))) s

/-- A soft reset (R85). -/
def State.softReset (s : State) (src p : Nat) : State :=
  if !assigned p then s
  else if heldEnabled p || s.enabled p || !s.domOn (pageDomain p) then s.errAt p 0x04 src p 1
  else
    let s := (s.clearRo p).blockReset p
    let s := [3, 6, 7].foldl (fun s o => s.setReg (hdr p o) 0) s
    if p = 0x12 then s.emitCommitted.staticNow else s

/-- SOFT_RESET (R85). -/
def execSoftReset (src : Port) (page : Fin 256) (s : State) : Host.Outcome State Fault Refusal :=
  .next (s.softReset (portSrc src) page.val)

/-! ## Commands of register fields -/

/-- A write of 1 to HOST.CNT_CLR (R105). -/
def State.hostCntClr (s : State) : State := (s.setReg HOST.SPI_ERR 0).setReg HOST.IB_ERR 0

/-- HOST_CNT_CLR (R105). -/
def execHostCntClr (s : State) : Host.Outcome State Fault Refusal := .next s.hostCntClr

/-- A command that bit `k` of a word gives. -/
def State.onBit (s : State) (d k : Nat) (f : State → State) : State := if bitOf d k then f s else s

/-- A write of PWR.REQ (R79). -/
def State.pwrReq (s : State) (v : Nat) : State :=
  match v with
  | 1 => s.reqReady
  | 2 => s.reqRun
  | 3 => s.reqStandby
  | _ => s.refuseReq 1

/-- A write of BOOT.CMD (R79). -/
def State.bootCmd (s : State) (src v : Nat) : State :=
  if v = 0xA5 then s.bootRestart src else if v = 0x5A then s.bootFold src else s.err 0x05 src BOOT.CMD

/-- A write of BOOT.FW_CMD (R418). -/
def State.fwCmd (s : State) (src v : Nat) : State :=
  match v with
  | 1 => s.fwVerify src
  | 2 => s.fwSwap src
  | 3 => s.fwRaiseMin src
  | _ => s.err 0x05 src BOOT.FW_CMD

/-- A write of BOOT.CFG_CMD (R418). -/
def State.cfgCmd (s : State) (src d : Nat) : State :=
  match bitsOf d 0 4 with
  | 1 => s.cfgStore src
  | 2 => s.cfgActivate src (bitsOf d 4 2)
  | 3 => s.cfgCheck src
  | _ => s.err 0x05 src BOOT.CFG_CMD

/-- A write of SAFE.CMD (R398). -/
def State.safeCmd (s : State) (src v : Nat) : State :=
  match v with
  | 1 => s.commission src
  | 2 => s.lockClose
  | _ => s.err 0x05 src SAFE.CMD

/-- A write of SAFE.PW_CTRL (R390, R391). -/
def State.pwCtrl (s : State) (src d : Nat) : State :=
  match bitsOf d 0 2 with
  | 1 => s.pwOpen src d
  | 2 => s.pwSet src d
  | 3 => s.pwErase src
  | _ => if s.safe.check.isSome then s.err 0x05 src SAFE.PW_CTRL else s

/-- A write of SAFE.PW0 to SAFE.PW2 (R390). -/
def State.pwWord (s : State) (src i d : Nat) : State :=
  if s.safe.check.isSome then s.err 0x05 src (SAFE.PW i)
  else { s with safe := { s.safe with pw := setNth s.safe.pw i (BitVec.ofNat 32 d) } }

/-- A write of HAZ_CLR in a register write, which does not say whether a hazard condition is present: a free value. -/
def State.hazWrite (s : State) (src : Nat) : State :=
  let (k, s) := s.takeFree
  s.hazClr src (Config.freeNat k % 2 == 1)

/-- A write of TAB.TX_CTRL (R340, R349): a forced failure is handled before a retest. -/
def State.txCtrl (s : State) (src d : Nat) : State :=
  (s.onBit d 13 fun s => s.txForce src (bitsOf d 9 4)).txClr src (bitsOf d 0 9)

/-- A write of TAB.INJECT (R347). -/
def State.injectWrite (s : State) (d : Nat) : State :=
  ((s.injectBit (bitsOf d 0 9)).onBit d 10 State.injectSyncErr).onBit d 11 fun s => s.injectCrcErr (bitsOf d 12 2)

/-- A write of ACQ.CMD (R292); a software trigger names no sample. -/
def State.acqCmd (s : State) (src d : Nat) : State :=
  ((s.onBit d 2 State.acqCntClr).onBit d 0 fun s => s.acqArm src).onBit d 1 State.acqForce

/-- The commands of the AON and SCAN pages. -/
def State.commandLow (s : State) (src a d : Nat) : State :=
  if a = CLK.DROOP_CLR then s.onBit d 0 State.droopClr
  else if a = PWR.REQ then s.pwrReq (bitsOf d 0 4)
  else if a = BOOT.CMD then s.bootCmd src (bitsOf d 0 8)
  else if a = BOOT.FW_CMD then s.fwCmd src (bitsOf d 0 8)
  else if a = BOOT.CFG_CMD then s.cfgCmd src d
  else if a = CHIP.GCOMMIT then s.onBit d 4 fun s => s.gcommitWrite src (bitsOf d 0 2)
  else if a = HOST.CNT_CLR then s.onBit d 0 State.hostCntClr
  else if a = TIME.CMD then s.timeCmd (bitsOf d 0 2)
  else if a = SUPV.CNT_CLR then s.onBit d 0 State.supvCntClr
  else if a = SAFE.CONFIRM then s.confirm src d
  else if a = SAFE.CMD then s.safeCmd src (bitsOf d 0 2)
  else if SAFE.PW 0 ≤ a ∧ a ≤ SAFE.PW 2 then s.pwWord src (a - SAFE.PW 0) d
  else if a = SAFE.PW_CTRL then s.pwCtrl src d
  else if a = SAFE.CNT_CLR then s.onBit d 0 State.safeCntClr
  else if a = LEDGER.CMD then s.ledgerCmd src (bitsOf d 0 2)
  else if a = HK.CNT_CLR then s.onBit d 0 State.hkCntClr
  else if a = CAL.EOL_CMD then s.eolCmd src (bitOf d 0) (bitOf d 1)
  else if a = BANK.CNT_CLR then s.onBit d 0 State.bankCntClr
  else if a = DEAL.BID then s.hostBid src d
  else if a = DEAL.CNT_CLR then s.onBit d 0 State.dealCntClr
  else if a = EMIT.FF_CTRL then s.onBit d 4 State.ffLoad
  else if a = EMIT.CNT_CLR then s.onBit d 0 State.emitCntClr
  else if a = EMIT.FAULT_CLR then s.onBit d 0 fun s => s.hazWrite src
  else if a = LDB.CMD then (s.onBit d 1 State.ldbCntClr).onBit d 0 fun s => s.reenum src
  else if a = STEER.CNT_CLR then s.onBit d 0 State.steerCntClr
  else s

/-- The commands of the other pages. -/
def State.commandHigh (s : State) (src a d : Nat) : State :=
  let p := a / 0x400
  if 0x20 ≤ p ∧ p ≤ 0x27 then (if a = AFE.CNT_CLR (p - 0x20) then s.onBit d 0 fun s => s.afeCntClr (p - 0x20) else s)
  else if 0x28 ≤ p ∧ p ≤ 0x2F then
    (if a = TDC.FAIL_CLR (p - 0x28) then s.onBit d 6 fun s => s.failClr src (p - 0x28) (bitsOf d 0 6)
     else if a = TDC.CNT_CLR (p - 0x28) then s.onBit d 0 fun s => s.tdcCntClr (p - 0x28) else s)
  else if 0x40 ≤ p ∧ p ≤ 0x43 then (if a = CAM.CNT_CLR (p - 0x40) then s.onBit d 0 fun s => s.camCntClr (p - 0x40) else s)
  else if a = KITTY.CNT_CLR then s.onBit d 0 State.kittyCntClr
  else if a = ADC.FAIL_CLR then s.onBit d 4 fun s => s.adcFailClr src (bitsOf d 0 3)
  else if a = ADC.CNT_CLR then s.onBit d 0 State.adcCntClr
  else if a = ACQ.CMD then s.acqCmd src d
  else if a = HIST.CNT_CLR then s.onBit d 0 State.histCntClr
  else if a = REJ.CNT_CLR then s.onBit d 0 State.rejCntClr
  else if a = PNT.CNT_CLR then s.onBit d 0 State.pntCntClr
  else if a = ZONE.CNT_CLR then s.onBit d 0 State.zoneCntClr
  else if a = TAB.TX_CTRL then s.txCtrl src d
  else if a = TAB.INJECT then s.injectWrite d
  else if a = TAB.CNT_CLR then s.onBit d 0 State.tabCntClr
  else s

/-- The WO and W1S fields of a word written (R11, R84). -/
def State.commands (s : State) (src a d : Nat) : State :=
  let p := a / 0x400
  match a % 0x400 with
  | 1 => s.onBit d 1 fun s => s.softReset src p
  | 5 => s.intForce src p d
  | 7 => s.onBit d 31 fun s => s.errCountClear p
  | 8 => (s.onBit d 5 fun s => s.cancel p).onBit d 4 fun s => s.commitWrite src p (bitsOf d 0 2)
  | _ => if p ≤ 0x15 then s.commandLow src a d else s.commandHigh src a d

/-! ## The fields of a word by their access codes (R11, R90, R93) -/

/-- W1C fields: ones clear. A mask bit cleared goes to its tile (R143, R159). -/
def State.clearBits (s : State) (a : Nat) (v : Word) : State :=
  let m := v &&& accMask a .w1c
  if m = 0 then s
  else if a % 0x400 = 3 then s.intClear (a / 0x400) m
  else
    let t := s.setReg a (s.reg a &&& ~~~m)
    if EMIT.MASK_AUTO 0 ≤ a ∧ a ≤ EMIT.MASK_AUTO 255 ∧ t.reg a ≠ s.reg a then t.countMasked.maskDue ((a - EMIT.MASK_AUTO 0) / 16)
    else t

/-- The RW, RWL, W1C and RWS fields of a word written. -/
def State.writeFields (s : State) (src a : Nat) (v : Word) : State :=
  let before := s.reg SAFE.CRC
  let rwl := (s.reg a ^^^ v) &&& accMask a .rwl != 0
  let s := if storedMask a &&& ~~~rwsMask a = 0 then s else s.writeStored src a v
  let s := s.clearBits a v
  let s := if rwsMask a = 0 then s else (s.setShad a (mergeBits (rwsMask a) (s.shad a) v)).shadowWritten a
  s.coveredWritten before a rwl

/-- The code under which a word is refused whole (R93, R397, R444). -/
def State.wordRefused (s : State) (a : Nat) (v : Word) : Option Nat :=
  if (s.reg a ^^^ v) &&& accMask a .rwl = 0 then none
  else if !s.lockOpen then some 0x02
  else (s.setReg a (mergeBits (accMask a .rwl) (s.reg a) v)).ruleBroken a

/-- A register word written, its parity right (R84, R93); true where it is refused. CAM.I2C_XFER is written by the rule
of its transfer (R315). -/
def State.writeWord (s : State) (src a : Nat) (v : Word) : State × Bool :=
  let p := a / 0x400
  if !assigned p then (s, false)
  else match s.wordRefused a v with
  | some code => (s.err code src a, true)
  | none =>
    match camOf p with
    | some k => if a = CAM.I2C_XFER k then (s.i2cXfer src k v.toNat, false)
        else ((s.writeFields src a v).commands src a v.toNat, false)
    | none => ((s.writeFields src a v).commands src a v.toNat, false)

/-- The count of words refused for parity, by port (R83, R105). -/
def parityCount (src : Nat) : Fld := if src = 1 then HOST.SPI_ERR.PARITY else HOST.IB_ERR.PARITY

/-- A register word with its parity bits written through a port (R83). On an unassigned page the parity is neither checked nor
counted (DEDUCED, log entry 40). -/
def State.writeRegister (s : State) (src a : Nat) (d : Word36) : State × Bool :=
  let p := a / 0x400
  if !assigned p then (s, false)
  else if !parityOk d then ((s.incF (parityCount src)).errAt p 0x01 src p (a % 0x400), true)
  else s.writeWord src a (d.setWidth 32)

/-! ## The commands of this chapter -/

/-- A page can be reached: its domain is on and ready (R52). -/
def State.reachable (s : State) (p : Nat) : Bool := s.pwr.st != .unpowered && s.domOn (pageDomain p)

/-- REGISTER_WRITE (R11). -/
def execRegisterWrite (src : Port) (addr : BitVec 24) (data : BitVec 36) (s : State) : Host.Outcome State Fault Refusal :=
  let a := addr.toNat
  if a < 0x40000 ∧ s.reachable (a / 0x400) then .next (s.writeRegister (portSrc src) a data).1 else .next s

/-- COMMIT_REQUEST (R88). -/
def execCommitRequest (src : Port) (page : Fin 256) (boundary : Fin 4) (s : State) : Host.Outcome State Fault Refusal :=
  .next (s.commitWrite (portSrc src) page.val boundary.val)

/-- COMMIT_CANCEL (R90). -/
def execCommitCancel (_ : Port) (page : Fin 256) (s : State) : Host.Outcome State Fault Refusal := .next (s.cancel page.val)

/-- GLOBAL_COMMIT (R106). -/
def execGlobalCommit (src : Port) (boundary : Fin 4) (s : State) : Host.Outcome State Fault Refusal :=
  .next (s.gcommitWrite (portSrc src) boundary.val)

end Sys2Proof.Machine
end

