-- ==== Sys2Proof/Machine/HostPort.lean ====
section
/-! DEFINITION. The host port (spec/04 R80-R102, spec/14 R346): regions, memory accesses, SPI frames and in-band
transactions. -/

namespace Sys2Proof.Machine

/-! ## Regions (R80, R81) -/

/-- The kind of region of an address: 1 rings, 2 firing frames, 3 histogram window, 4 banks, 5 ledger, 6 and 7 the
bit-set and bit-clear aliases of the banks, 8 register pages, 0 unmapped. -/
def regionOf (a : Nat) : Nat :=
  if a < 0x40000 then 8
  else if 0x600000 ≤ a ∧ a < 0x800000 then 6
  else if 0x800000 ≤ a ∧ a < 0xA00000 then 7
  else memRegion a

/-- The address after the last one of the region of an address; of register space, of its page. -/
def regionEnd (a : Nat) : Nat :=
  match regionOf a with
  | 1 => 0xA40000
  | 2 => 0xA44000
  | 3 => 0xBD8000
  | 4 => 0x600000
  | 5 => 0xC70000
  | 6 => 0x800000
  | 7 => 0xA00000
  | 8 => (a / 0x400 + 1) * 0x400
  | _ => 0

/-- The domain of a region; an unassigned page needs none. -/
def regionDomain (a : Nat) : Nat :=
  match regionOf a with
  | 1 => 1
  | 2 => 1
  | 3 => 5
  | 4 => 7
  | 6 => 7
  | 7 => 7
  | 8 => if assigned (a / 0x400) then pageDomain (a / 0x400) else 0
  | _ => 0

/-- The plain bank word of an alias (R350). -/
def plainAddr (a : Nat) : Nat :=
  match regionOf a with
  | 6 => a - 0x200000
  | 7 => a - 0x400000
  | _ => a

/-! ## Memory words (R82, R118, R138, R230, R351, R352, R359, R441) -/

/-- What the read of a memory word does beside returning it (R82, R352): its error, if any, is handled. -/
def State.touchWord (s : State) (src a : Nat) : State :=
  let r := memRegion a
  if r = 5 then s.ledgerAccess src a
  else
    let bad := s.eccBad a
    let s := s.eccRead a
    if bad then s.errAt (regionPage r) 0x07 src (regionPage r) (a % 1024) else s

/-- A word refused by the rule of its region (R82). -/
def State.regionRefused (s : State) (src r a : Nat) : State × Bool := (s.errAt (regionPage r) 0x06 src (regionPage r) (a % 1024), true)

/-- A bank takes host writes while its owner is free or the host (R359). -/
def State.bankOpen (s : State) (a : Nat) : Bool := decide (s.owner ((a - 0x400000) / 0x10000) < 2)

/-- A write through an alias (R351, R352): an uncorrectable word stays as it is. -/
def State.aliasWrite (s : State) (src a : Nat) (set : Bool) (d : Word36) : State × Bool :=
  if !s.bankOpen a then s.regionRefused src 4 a
  else if s.eccBad a then (s.bankRead a).regionRefused src 4 a
  else
    let s := s.bankRead a
    (s.wr a (if set then s.rd a ||| d else s.rd a &&& ~~~d), false)

/-- A write of a firing-frame word (R138, R139): only of the inactive buffer, which is then not loaded; reserved
bits are zero (R9, R138). -/
def State.frameWrite (s : State) (src a : Nat) (d : Word36) : State × Bool :=
  let b := (a - 0xA40000) / 0x2000
  if b = s.f EMIT.FF_CTRL.ACTIVE ∨ s.fb EMIT.FF_CTRL.LOADING then s.regionRefused src 2 a
  else ((s.wr a (memBits a d)).setHeld (setNth s.ldb.held b false), false)

/-- A memory word written by the host; true where it is refused. -/
def State.writeMemory (s : State) (src a : Nat) (d : Word36) : State × Bool :=
  match regionOf a with
  | 1 =>
    if a % 0x20 < 2 then let (s, ok) := s.writePlace0 src ((a - 0xA00000) / 0x20) (a % 2 = 1) d; (s, !ok)
    else s.regionRefused src 1 a
  | 2 => s.frameWrite src a d
  | 3 => if s.pwr.st = .ready then (s.wr a d, false) else s.regionRefused src 3 a
  | 4 => if s.bankOpen a then (s.wr a d, false) else s.regionRefused src 4 a
  | 5 =>
    if a < 0xC40000 then let (s, ok) := s.slotWrite src a d; (s, !ok) else s.regionRefused src 5 a
  | 6 => s.aliasWrite src (plainAddr a) true d
  | _ => s.aliasWrite src (plainAddr a) false d

/-! ## Words of an access -/

/-- What an access has met so far: words refused, uncorrectable words, words read. -/
structure Met where
  refused : Bool := false
  unc : Bool := false
  words : List Word36 := []

/-- The device has left the state in which it serves accesses: a restart within the access ends it. -/
def State.gone (s : State) : Bool := s.pwr.st == .unpowered || (s.pwr.st == .powerUp && (s.pwr.nresetLow || s.pwr.step != .selfTest))

/-- The words of a write, in address order (R97, R101). -/
def State.writeWords (s : State) (src a : Nat) : List Word36 → State × Met
  | [] => (s, {})
  | d :: ds =>
    if s.gone then (s, {}) else
    let (s, no) := if a < 0x40000 then s.writeRegister src a d else s.writeMemory src a d
    let (s, m) := s.writeWords src (a + 1) ds
    (s, { m with refused := no || m.refused })

/-- One word read (R8, R82, R83). -/
def State.readWord (s : State) (src a : Nat) : State × Word36 × Bool :=
  if a < 0x40000 then (s, withParity (s.view a), false)
  else
    let b := plainAddr a
    let v := s.rd b
    let bad := s.eccBad b
    (s.touchWord src b, v, bad)

/-- The words of a read, in address order. -/
def State.readWords (s : State) (src a : Nat) : Nat → State × Met
  | 0 => (s, {})
  | n + 1 =>
    let (s, v, bad) := s.readWord src a
    let (s, m) := s.readWords src (a + 1) n
    (s, { m with unc := bad || m.unc, words := v :: m.words })

/-! ## What stands before the words (R76, R81, R98) -/

/-- An address range that an access may not have (R81). -/
def badRange (a n : Nat) : Bool := regionOf a == 0 || decide (regionEnd a < a + n)

/-- In FOLD only the AON pages are reached (R67). -/
def State.foldRefuses (s : State) (a : Nat) : Bool :=
  s.pwr.st == .fold && !(regionOf a == 8 && assigned (a / 0x400) && pageDomain (a / 0x400) == 0)

/-- The domain of an access is off, or going off, and has to be woken (R76). -/
def State.mustWait (s : State) (a : Nat) : Bool := !s.domOn (regionDomain a) || s.goingOff (regionDomain a)

/-- The status that keeps an access from its words, if one does (R98): the highest of the table that applies. -/
def State.barrier (s : State) (a n : Nat) (cmdOk : Bool) : Option Nat :=
  if !cmdOk then some 0x83
  else if badRange a n then some 0x84
  else if s.foldRefuses a then some 0x86
  else if s.mustWait a then some 0x81
  else none

/-! ## SPI (R95-R100) -/

/-- SPI answers (R50, R67): from the start of self-test on, and in every later state. -/
def State.spiAnswers (s : State) : Bool := !s.gone

/-- SPI_CS_N rises: the frame is over, and an aborted port accepts frames again (R95, R100). -/
def State.csRise (s : State) : State := { s with host := { s.host with csLow := false, spiAborted := false } }

/-- A frame is taken: the port answers and has not aborted (R100). -/
def State.spiTaken (s : State) : Bool := s.spiAnswers && !(s.host.csLow && s.host.spiAborted)

/-- The final status of a complete frame (R105). -/
def State.spiStatus (s : State) (st : Nat) : State := if s.gone then s else s.setF HOST.LAST.SPI_STATUS st

/-- OP and N of a command byte (R95). -/
def spiOp (cmd : BitVec 8) : Nat := bitsOf cmd.toNat 6 2

def spiCount (cmd : BitVec 8) : Nat := bitsOf cmd.toNat 0 6 + 1

/-- CMD, ADDR and DATA as the CRC-8 takes them (R97). -/
def crcHead (cmd : BitVec 8) (addr : BitVec 24) : List (Nat × Nat) := [(cmd.toNat, 8), (addr.toNat, 24)]

def crcData (ws : List Word36) : List (Nat × Nat) := ws.map fun w => (w.toNat, 36)

/-- An access that has to wait wakes the domain (R76). -/
def State.waits (s : State) (a : Nat) (st : Nat) : State := if st = 0x81 then s.accessWake (regionDomain a) else s

/-- A write frame whose CRC phase is complete (R97, R98). A bad CRC counts also where a higher row's status is answered (DEDUCED,
log entry 41). -/
def State.spiWrite (s : State) (cmd : BitVec 8) (addr : BitVec 24) (ws : List Word36) (crc : Nat) : State :=
  let a := addr.toNat
  let good := crc8 (crcHead cmd addr ++ crcData ws) == crc
  let s := if good then s else s.incF HOST.SPI_ERR.CRC
  match s.barrier a (spiCount cmd) (spiOp cmd == 1) with
  | some st => (s.waits a st).spiStatus st
  | none =>
    if !good then s.spiStatus 0x82 else
    let (s, m) := s.writeWords 1 a ws
    s.spiStatus (if m.refused then 0x85 else 0x80)

/-- SPI_WRITE_FRAME (R96, R97): `crc` is none where the frame ends before its CRC phase is complete. Of a frame that a timeout
has aborted, the command holds what came before: it is written where its CRC phase was complete (R100). -/
def execSpiWriteFrame (cmd : BitVec 8) (addr : BitVec 24) (words : List (BitVec 36)) (crc : Option (BitVec 8)) (s : State) :
    Host.Outcome State Fault Refusal :=
  if !s.spiAnswers then .next s
  else
    let cut := if s.spiTaken then s.csRise.incF HOST.SPI_ERR.TRUNC else s.csRise
    match crc with
    | none => .next cut
    | some c =>
      if words.length < spiCount cmd then .next cut
      else .next ((s.spiWrite cmd addr (words.take (spiCount cmd)) c.toNat).csRise)

/-- Words that are not ready by their first bit are sent as zero (R98); only the histogram window and the ledger have
such words (R99). -/
def lateWords (a : Nat) (late : List Nat) (ws : List Word36) : List Word36 :=
  if regionOf a = 3 ∨ regionOf a = 5 then ws.mapIdx fun i w => if late.contains i then 0 else w else ws

/-- What a read frame returns on MISO. -/
def State.spiReturn (s : State) (cmd : BitVec 8) (addr : BitVec 24) (early st : Nat) (ws : List Word36) : State :=
  { s.spiStatus st with host := { s.host with
      spiData := ws
      spiEarly := early
      spiCrc := crc8 (crcHead cmd addr ++ [(early, 8)] ++ crcData ws) } }

/-- A read frame (R96-R98). -/
def State.spiRead (s : State) (cmd : BitVec 8) (addr : BitVec 24) (late : List Nat) : State :=
  let a := addr.toNat
  let n := spiCount cmd
  match s.barrier a n (spiOp cmd == 2) with
  | some st => (s.waits a st).spiReturn cmd addr st st (List.replicate n 0)
  | none =>
    let (s, m) := s.readWords 1 a n
    let isLate := (regionOf a == 3 || regionOf a == 5) && late.any fun i => decide (i < n)
    s.spiReturn cmd addr 0x80 (if m.unc then 0x88 else if isLate then 0x87 else 0x80) (lateWords a late m.words)

/-- SPI_READ_FRAME (R96): `late` names the words that were not ready in time (R99). -/
def execSpiReadFrame (cmd : BitVec 8) (addr : BitVec 24) (late : List Nat) (s : State) : Host.Outcome State Fault Refusal :=
  if !s.spiAnswers then .next s
  else if !s.spiTaken then .next s.csRise
  else .next (s.spiRead cmd addr late).csRise

/-- SPI_TIMEOUT (R100): the transaction is aborted and counted, and the port ignores SCK until SPI_CS_N rises. -/
def execSpiTimeout (s : State) : Host.Outcome State Fault Refusal :=
  if !s.spiAnswers ∨ !s.host.csLow ∨ s.host.spiAborted then .next s
  else .next { s.incF HOST.SPI_ERR.TIMEOUT with host := { s.host with spiAborted := true } }

/-! ## In-band transactions (R101, R102, R346) -/

/-- The number of words of a request. -/
def IbRequest.length (r : IbRequest) : Nat := if r.dt = 0x41 then r.count else r.words.length

/-- A request whose length its packet type allows (R101, R346). -/
def IbRequest.lengthOk (r : IbRequest) : Bool :=
  if r.dt = 0x44 then r.length % 16 == 0 && decide (16 ≤ r.length) && decide (r.length ≤ 4096)
  else decide (1 ≤ r.length) && decide (r.length ≤ 256)

/-- A bulk write is allowed to the banks and their aliases, the rings, the firing frames and the ledger (R346). -/
def bulkRegion (a : Nat) : Bool := regionOf a != 8 && regionOf a != 3

/-- The status that answers a request without any of its words (R98, R102, R346). -/
def State.ibRefused (s : State) (r : IbRequest) : Option Nat :=
  if !r.lengthOk then some 0x83
  else if badRange r.addr r.length then some 0x84
  else if !s.fb HOST.IB_CFG.IB_EN || (r.dt != 0x41 && !s.fb HOST.IB_CFG.IB_WRITE_EN) || s.foldRefuses r.addr ||
    (r.dt == 0x44 && !bulkRegion r.addr) then some 0x86
  else none

/-- The response packet (R101, R346), with the counts of R105. -/
def State.ibRespond (s : State) (r : IbRequest) (st done : Nat) (data : List Word36) : State :=
  if s.gone then s else
  let write := b2n (r.dt != 0x41)
  let bulk := b2n (r.dt == 0x44)
  let n := if r.dt = 0x44 then done / 16 else done
  let s := if st = 0x89 then s.incF HOST.IB_ERR.RETRY else if st = 0x8A then s.incF HOST.IB_ERR.BUSY
    else if st = 0x84 then s.incF HOST.IB_ERR.ADDR else s
  (s.setF HOST.LAST.IB_STATUS st).sendPacket 0x3E 0 s.gen4 s.timeNs
    ([w36 (r.tag * 2 ^ 28 + st * 2 ^ 20 + write * 2 ^ 16 + bulk * 2 ^ 15 + n), w36 r.addr] ++ data)

/-- The words of a request that are executed: up to the one that SPI takes (R94, R101). -/
def IbRequest.done (r : IbRequest) : Nat :=
  match r.taken with
  | some i => min i r.length
  | none => r.length

/-- A request executed and answered. -/
def State.ibExecute (s : State) (r : IbRequest) : State :=
  let n := r.done
  let retry := decide (n < r.length)
  if r.dt = 0x41 then
    let (s, m) := s.readWords 2 r.addr n
    s.ibRespond r (if retry then 0x89 else if m.unc then 0x88 else 0x80) n m.words
  else
    let (s, m) := s.writeWords 2 r.addr (r.words.take n)
    s.ibRespond r (if retry then 0x89 else if m.refused then 0x85 else 0x80) n []

/-- The requests at the front of the queue that need not wait are served (R101); the first that must wait wakes its
domain (R76). -/
def State.ibServe (s : State) : Nat → State
  | 0 => s
  | n + 1 =>
    match s.host.queue with
    | [] => s
    | r :: rest =>
      let pop : State := { s with host := { s.host with queue := rest } }
      match s.ibRefused r with
      | some st => (pop.ibRespond r st 0 []).ibServe n
      | none =>
        if s.mustWait r.addr then s.accessWake (regionDomain r.addr)
        else (pop.ibExecute r).ibServe n

/-- The queue holds at most 32 requests (R101). -/
def ibDepth : Nat := 32

/-- The in-band queue served. -/
def State.serveInband (s : State) : State := s.ibServe (ibDepth + 1)

/-- A request has arrived (R101): at a full queue it is answered at once. -/
def State.ibArrive (s : State) (rx : RxInfo) (r : IbRequest) : State :=
  let (s, ok) := s.accept rx
  if !ok then s
  else if ibDepth ≤ s.host.queue.length then s.ibRespond r ((s.ibRefused r).getD 0x8A) 0 []
  else { s with host := { s.host with queue := s.host.queue ++ [r] } }.serveInband

/-- INBAND_WRITE_REQUEST (R101): `taken` names the word that SPI takes in the same cycle (R94). -/
def execInbandWriteRequest (rx : RxInfo) (tag : BitVec 8) (addr : BitVec 24) (words : List (BitVec 36)) (taken : Option Nat)
    (s : State) : Host.Outcome State Fault Refusal :=
  .next (s.ibArrive rx { dt := 0x40, tag := tag.toNat, addr := addr.toNat, words := words, count := 0, taken := taken })

/-- INBAND_READ_REQUEST (R101): `count` is COUNT, N - 1. -/
def execInbandReadRequest (rx : RxInfo) (tag : BitVec 8) (addr : BitVec 24) (count : Fin 256) (taken : Option Nat) (s : State) :
    Host.Outcome State Fault Refusal :=
  .next (s.ibArrive rx { dt := 0x41, tag := tag.toNat, addr := addr.toNat, words := [], count := count.val + 1, taken := taken })

/-- BULK_WRITE (R346). -/
def execBulkWrite (rx : RxInfo) (tag : BitVec 8) (addr : BitVec 24) (words : List (BitVec 36)) (taken : Option Nat) (s : State) :
    Host.Outcome State Fault Refusal :=
  .next (s.ibArrive rx { dt := 0x44, tag := tag.toNat, addr := addr.toNat, words := words, count := 0, taken := taken })

/-- DOMAIN_READY (R52, R75, R76): in-band requests that waited for the domain are served. -/
def execDomainReady (d : Fin 9) (s : State) : Host.Outcome State Fault Refusal := .next (s.domainReady d.val).serveInband

/-- What one clock period does while no command waits (log entry 3): time passes, a pending enabled interrupt may wake the
device, and waiting in-band requests are looked at. An unpowered device has no clock. -/
def State.idle (s : State) : State := if s.pwr.st = .unpowered then s else s.tick.stepRise.levelWake.serveInband

end Sys2Proof.Machine
end

