-- ==== Sys2Proof/Machine/Startup.lean ====
section
/-! DEFINITION. Self-test and the wake checks (spec/03 R61-R64, R75): the items judged, failing elements replaced, and the
entry to READY. -/

namespace Sys2Proof.Machine

/-! ## Replacement (R62, R75, R207, R276) -/

/-- A channel whose own TDC has failed is put on the lowest free kitty TDC, reported with the event of R207; false with
none left (R62). -/
def State.giveSpare (s : State) (c : Nat) : State × Bool :=
  match s.kitOf c with
  | some n => (((s.abandonCal c).setKit n 1 c).decideMove c (.kitty n), true)
  | none =>
    match s.lowestKit 0 with
    | some n => (((s.setKit n 1 c).decideMove c (.kitty n)).event 0x30 0, true)
    | none => (s.updChan c fun x => { x with noTdc := true }, false)

/-- An own TDC that fails its loop test or calibration (R61, R62): cause 4 of TDC.STAT. -/
def State.loopFails (s : State) (c : Nat) : State × Bool :=
  let x := TDC.STAT.FAILED (c / 48) (c % 48)
  (((s.setB x true).setF (TDC.STAT.CAUSE (c / 48) (c % 48)) 4).setFailedBit c true).giveSpare c

/-- A kitty TDC that fails: one in spare state leaves its channel without a TDC, one in another state is given up. -/
def State.kittyTestFails (s : State) (n : Nat) : State × Bool :=
  if s.kitState n = 1 then (s.setKit n 7 0).giveSpare (s.f (KITTY.ASSIGN.CH n))
  else if s.kitState n = 2 ∨ s.kitState n = 4 then (s.kittyFails n, true)
  else (s.setKit n 7 0, true)

/-- What failed earlier and passes now is back in service (R212, R276, R402). -/
def State.passedAgain (s : State) (f : Spares) : State :=
  let kit := f.kitties.map Fin.val
  let own := f.tdcs.map Fin.val
  let adc := f.adcs.map Fin.val
  let s := (filterRange 16 fun n => s.kitState n == 7 && !kit.contains n).foldl (fun s n => s.setKit n 0 0) s
  let s := (filterRange 384 fun c => s.fb (TDC.STAT.FAILED (c / 48) (c % 48)) && !own.contains c).foldl (fun s c => s.ownClears c) s
  (filterRange 9 fun a => s.fb (ADC.STAT.FAILED a) && !adc.contains a).foldl (fun s a =>
    let s := (s.setB (ADC.STAT.FAILED a) false).setF (ADC.STAT.CAUSE a) 0
    if a = 8 then s.freeSpare else s.returnBus a) s

/-- A bus whose own ADC has failed has the spare (R274). -/
def State.adcServed (s : State) (a : Nat) : Bool := a == 8 || (s.f ADC.SPARE.STATE == 1 && s.f ADC.SPARE.BUS == a)

/-- A step over some elements that answers whether each found a replacement. -/
def State.eachOk (s : State) (xs : List Nat) (f : State → Nat → State × Bool) : State × Bool :=
  xs.foldl (fun x c => let y := f x.1 c; (y.1, x.2 && y.2)) (s, true)

/-- The failing elements of a test or calibration (R61, R62, R75), whatever KITTY.CTRL.ENABLE says; answers whether every
TDC and every ADC in use is sound or has its spare. -/
def State.replaceAll (s : State) (f : Spares) : State × Bool × Bool :=
  let (s, k) := s.eachOk (f.kitties.map Fin.val) State.kittyTestFails
  let (s, t) := s.eachOk (f.tdcs.map Fin.val) State.loopFails
  let adcs := f.adcs.map Fin.val
  let s := (sortBy (fun a b => decide (b < a)) adcs).foldl (fun s a => s.adcFail a 3) s
  (s, k && t, adcs.all s.adcServed)

/-! ## Items (R61) -/

/-- The words that the calibration of start-up measures (R61): those of items 0 to 5; the loops are in lock, and an AFE
input with a usable pair is alive again (R402). -/
def State.startCal (s : State) (ws : List (Nat × BitVec 32)) : State :=
  let s := (List.range 6).foldl (fun s i => s.putResults i (ws.filter fun w => (calWords i).contains w.1)) s
  let s := (List.range 8).foldl (fun s k => (s.setB (TDC.DLL.A_LOCK k) true).setB (TDC.DLL.B_LOCK k) true) s
  (afeInputs ws).foldl State.judgePairs s

/-- Soft repairs of the bank BIST (R355): SOFT of the banks named, at most 4, each with SOFT_REPAIR. -/
def State.softRepairs (s : State) (banks : List Nat) : State :=
  banks.foldl (fun s b =>
    let x : Fld := ⟨BANK.REPAIR (b / 4), 8 * (b % 4) + 4, 3⟩
    (s.setF x (min 4 (s.f x + 1))).event 0x0D 3) s

/-- Single correctable cells found by BIST (R62): logged for the page of their memory, of which the spec names no word
(DESIGN CHOICE, log entry 47). -/
def State.logCells (s : State) (cells : List (BitVec 24)) : State :=
  { s with pwr := { s.pwr with bistLog := s.pwr.bistLog ++ cells.map fun a => (regionPage (memRegion a.toNat), a.toNat) } }

/-- A self-test item passed: its PASS bit, and the item marked as done (R61, R79). -/
def State.passed (s : State) (item : Nat) (bit : Option Nat) : State :=
  let s := { s with pwr := { s.pwr with items := s.pwr.items ||| 2 ^ item } }
  match bit with
  | some b => s.setF BOOT.SELFTEST.PASS (s.f BOOT.SELFTEST.PASS ||| 2 ^ b)
  | none => s

/-- An item judged by a plain outcome. -/
def State.judge (s : State) (ok : Bool) (item bit code page : Nat) : State :=
  if ok then s.passed item (some bit) else s.enterFold code page

/-- An item whose failing elements are replaced by spares (R62); FOLD when a spare is lacking. -/
def State.judgeSpares (s : State) (f : Spares) (item : Nat) (bit : Option Nat) : State :=
  let (s, tdcOk, adcOk) := s.replaceAll f
  if !tdcOk then s.enterFold 0x13 0x30 else if !adcOk then s.enterFold 0x14 0x31 else s.passed item bit

/-- SELFTEST_ITEM_DONE (R60-R64): the item is judged; after the last one READY follows. The configuration load comes after
the ledger check, and the collection of results after all other items. -/
def execSelftestItemDone (result : SelfTest) (s : State) : Host.Outcome State Fault Refusal :=
  if !s.inStep .selfTest then .next s else
  match result with
  | .bankBist ok soft cells => .next (((s.logCells cells).softRepairs (soft.map Fin.val)).judge ok 0 0 0x10 0x0D)
  | .histBist ok cells => .next ((s.logCells cells).judge ok 1 1 0x11 0x38)
  | .ringBist ok cells => .next ((s.logCells cells).judge ok 2 2 0x12 0x10)
  | .tdcLoop f => .next (s.judgeSpares { f with adcs := [] } 3 (some 3))
  | .adcRamp f => .next (s.judgeSpares { tdcs := [], kitties := [], adcs := f.adcs } 4 (some 4))
  | .ldbLoop ok => .next (s.judge ok 5 5 0x15 0x13)
  | .safetyOutputs ok => .next (s.judge ok 6 6 0x16 0x08)
  | .calibration f results => .next ((s.startCal results).judgeSpares f 9 none)
  | .ledger a b chain =>
    let s := s.ledgerCheck a b
    .next (s.judge (s.bootpReadable && (a || b) && chain) 7 7 0x17 0x0A)
  | .configLoad =>
    if s.pwr.items.testBit 7 then .next ((s.configLoad).passed 8 (some 8)) else .next s
  | .collect =>
    if s.pwr.items % 1024 ≠ 1023 then .next s else
    let s := s.setF BOOT.SELFTEST.DURATION (satTo 12 (s.usSince s.pwr.testStart / 1000))
    .next (s.readyEntry)

/-- WAKE_CHECKS_DONE (R75 steps 4 to 6): failing elements are replaced, then READY, and RUN where requested. -/
def execWakeChecksDone (fails : Spares) (results : List (Nat × BitVec 32)) (s : State) : Host.Outcome State Fault Refusal :=
  if s.pwr.exit ≠ some .checks then .next s else
  let (s, tdcOk, adcOk) := ((s.passedAgain fails).startCal results).replaceAll fails
  if !tdcOk then .next (s.enterFold 0x13 0x30)
  else if !adcOk then .next (s.enterFold 0x14 0x31)
  else
    let run := s.pwr.runAfterExit
    let s := s.readyEntry
    let s := { s with pwr := { s.pwr with runAfterExit := false } }
    .next (if run then s.acceptRun else s)

end Sys2Proof.Machine
end

