-- ==== Sys2Proof/Machine/Hands.lean ====
section
/-! DEFINITION. The commands in which several blocks take part at one instant: the announcement and the boundary of a
hand, the boundary of a frame, the entry to RUN and its end (spec/01 R26-R30, spec/03 R68, spec/07 R174, R176, R472), a fire
command, an edge on SYNC_IN, a conversion, a completed hand, a camera frame, the link's next packet and the window
watchdog. -/

namespace Sys2Proof.Machine

/-! ## Hands -/

/-- Frames and hands pass in READY and RUN while SCAN is on (R68, R176). -/
def State.handsPass (s : State) : Bool := (s.pwr.st == .ready || s.pwr.st == .run) && s.domOn 1

/-- The slices that the latched requests will drain at the boundary announced (R28, R234). -/
def Hand.withDrained (h : Hand) (l : List Nat) : Hand := { h with drained := l }

/-- The announcement of a hand: the latch instant of its boundary (R26), the fit of its slots (R113). -/
def State.announceHand (s : State) : State :=
  let first := s.nextHand.first
  let s := s.latchCommits first
  let s := (if first then s.changeLatched else s).announce
  let l := affectedSlices s s.asNext
  { s with deal := { s.deal with next := s.deal.next.map (Hand.withDrained · l) } }

/-- HAND_ANNOUNCE (R176, R26). -/
def execHandAnnounce (s : State) : Host.Outcome State Fault Refusal :=
  if s.handsPass && s.deal.next.isNone then .next s.announceHand else .next s

/-- The hand as it begins: outside RUN it fires nothing and gives no records (R68). -/
def Hand.begins (h : Hand) (run : Bool) : Hand :=
  { h with
    entry := h.entry && run, snapped := h.snapped && run, skipped := h.skipped && run
    decided := if run then h.decided else [none, none, none, none]
    tiles := if run then h.tiles else [], served := if run then h.served else [] }

/-- The temperatures of a hand taken (R251, R257). -/
def Hand.withTemps (h : Hand) (t : Int × Int) : Hand := { h with temps := t }

/-- The temperatures at the start of a hand of RUN (R251); the SENSOR event where T_las is replaced (R257). -/
def State.takeTemps (s : State) : State :=
  let (t, bad) := s.pointTemps
  ({ s with deal := { s.deal with cur := s.deal.cur.map (Hand.withTemps · t) } }).eventIf (bad && s.enabled 0x3A) 0x3A 2

/-- What ends with a frame, by its own settings: diagnostic 8 and the frame of FIELD (R379, R385), the counts of the
trailer. -/
def State.frameEnds (s : State) : State :=
  let f := s.steer.frame
  let s := s.mirrorDiag.fieldEnded f.number
  let s := s.frameStops s.timeNs (f.hands - 1 - f.index)
  { s with steer := { s.steer with yBefore := s.yOf (s.f DEAL.HAND_STAT.PAT_STEP) } }

/-- What begins with a frame of RUN: its header, with the commit event of its boundary, and the frame of FIELD. -/
def State.frameBegun (s : State) (genBefore : Nat) : State :=
  if s.pwr.st != .run then s else
  let n := s.steer.frame.number
  let s := s.frameHeader
  let events := (s.f CHIP.GEN.GLOBAL + 65536 - genBefore) % 65536
  (s.updFrameCount n fun f => { f with commits := f.commits + events }).fieldBegins n

/-- A hand that is not started for droop (R78): counted in its frame, by the zones and by FIELD. -/
def State.handSkipped (s : State) (h : Hand) : State :=
  let n := s.steer.frame.number
  ((s.updFrameCount n fun f => { f with skipped := f.skipped + 1 }).zoneSkipped).fieldSkipped h n

/-- The DUMMY edge of a boundary (R214, R385). -/
def State.dummyBoundary (s : State) : State :=
  let (s, skipped) := s.dummyInject
  if skipped then s.dummyDiag .skip else s

/-- HIST.STATUS.PAR follows the hand (R235). -/
def State.showParity (s : State) : State :=
  match s.deal.cur with
  | some h => if h.snapped then s.setF HIST.STATUS.PAR (h.count % 2) else s
  | none => s

/-- The hand announced begins at its boundary, after the commits (R26, R176). -/
def State.handBegins (s : State) (h : Hand) (pat : Nat × Nat) (ended : Option Nat) : State :=
  let s := if h.first then s.frameStart h.entry else s.handPassed h.index
  let s := s.beginHand pat
  let s := if h.snapped then s.takeTemps else s
  ((((s.kittyBoundary.dummyBoundary).afeBoundary).scaleBoundary).summaries ended).showParity

/-- A hand boundary (R176): the hand in progress ends, the commits take effect, the hand announced begins. -/
def State.boundary (s : State) (first : Bool) : State :=
  match s.deal.next with
  | none => s
  | some h =>
    if h.first != first || !s.handsPass then s else
    let h := h.begins (s.pwr.st == .run)
    let s := { s with deal := { s.deal with next := some h } }
    let pat := s.patternFor h
    let last := s.deal.cur.filter fun c => c.snapped || c.skipped
    let ended : Option Nat := match s.deal.cur with
      | some c => if c.snapped then some c.count else none
      | none => none
    let s := s.drainEnds.endHand
    let s := if last.isSome then { s with hist := { s.hist with handEnd := s.timeNs } } else s
    let s := if first then s.frameEnds else s
    let s := match last with
      | some c => if first then s.zoneFrameOver c else s
      | none => s
    let gen := s.f CHIP.GEN.GLOBAL
    let crc := s.reg SAFE.CRC
    let s := s.boundaryCommits first
    let s := if first then s.changeDone crc else s
    let s := s.handBegins h pat ended
    let s := if first then s.frameBegun gen else s
    let s := if h.skipped then s.handSkipped h else s
    let s := if ended.isNone then { s with hist := { s.hist with rawHand := none } } else s
    s.framesLeave.settle

/-- HAND_BOUNDARY (R176): the boundary of a hand that begins no frame. -/
def execHandBoundary (s : State) : Host.Outcome State Fault Refusal := .next (s.boundary false)

/-- FRAME_BOUNDARY (R174, R176): the boundary of the hand that begins a frame. -/
def execFrameBoundary (s : State) : Host.Outcome State Fault Refusal := .next (s.boundary true)

/-! ## RUN (R68) -/

/-- RUN begins (R68, R116, R121, R129, R220): at the boundary of the hand that was announced for it. -/
def State.runBegins (s : State) : State :=
  let s := { s with pwr := { s.pwr with runPending := false } }
  let s := (s.enter .run).recordEntry 0 0 0
  let s := (s.runCounts.histRun).zoneRun
  s.framesLeave.settle

/-- RUN_ENTRY (R68): just before the frame boundary. -/
def execRunEntry (s : State) : Host.Outcome State Fault Refusal :=
  if s.pwr.st == .ready && s.pwr.runPending && s.deal.next.any (fun h => h.entry && h.first) then .next s.runBegins else .next s

/-- RUN ends at a hand boundary (R68): nothing is fired from here on, the frame ends with the hand in progress (R266), DISABLE
is broadcast (R150), and the mirror goes to park. -/
def State.runEnds (s : State) : State :=
  let s := { s with pwr := { s.pwr with readyPending := false } }
  let s := ((s.enter .ready).recordEntry 0 0 0).frameStops s.timeNs 0
  let s := if s.fb LDB.STATUS.KA then s.putBus none 0x03 [] else s
  s.dropFire.settle

/-- RUN_EXIT (R68): just before the boundary of the hand announced. -/
def execRunExit (s : State) : Host.Outcome State Fault Refusal :=
  if s.pwr.st == .run && s.pwr.readyPending then .next s.runEnds else .next s

/-! ## Firing and light (R146, R157) -/

/-- FIRE_COMMAND (R146, R195, R227, R277): the shot is issued, its channels armed, its tricks fed, its triggers given. -/
def execFireCommand (group : Fin 4) (armExt : Bool) (s : State) : Host.Outcome State Fault Refusal :=
  match s.fireCommand group.val with
  | (s, none) => .next s
  | (s, some sh) =>
    let s := s.armShot sh armExt
    let cs := sh.bands.flatMap fun b => (List.range 6).map (6 * b + ·)
    .next ((cs.foldl (fun s c => s.feedTricks c sh) s).shotTrigger sh)

/-- MPD_PULSE_MEASURED (R157, R385). -/
def execMpdPulseMeasured (tile : Fin 16) (group : Fin 4) (charge : Nat) (excluded : Bool) (s : State) :
    Host.Outcome State Fault Refusal :=
  .next ((s.mpdPulse tile.val group.val charge excluded).mpdDark tile.val)

/-! ## SYNC_IN (R24, R107, R174, R412) -/

/-- SYNC_IN_EDGE: an edge that the frame timer ignores as a glitch does nothing else. -/
def execSyncInEdge (edge : Nat) (s : State) : Host.Outcome State Fault Refusal :=
  match s.syncEdge edge with
  | (s, false) => .next s
  | (s, true) => .next (s.timeAtEdge.edgeCommits).changeArmed

/-! ## Conversions (R210, R214, R215) -/

/-- The word of a DUMMY edge goes to the raw-event dump with RAW.DUMMY set (R214, R233). -/
def State.dummyDump (s : State) (t : Nat) : State :=
  match s.deal.cur with
  | some h =>
    if s.enabled 0x38 && s.f HIST.MODE.MODE == 2 && s.fb HIST.RAW.DUMMY then s.rawEvent h (eventWord 0x1FF 0 t) else s
  | none => s

/-- TDC_CONVERSION (R210, R214). -/
def execTdcConversion (target : ConvTarget) (raw : Fin 1024) (copyDiff : Nat) (tot : TotEdges) (s : State) :
    Host.Outcome State Fault Refusal :=
  match target with
  | .channel c => .next (s.convert c.val raw.val copyDiff (totCode tot.rise tot.fall))
  | .dummy n =>
    match s.dummyTimed n raw.val copyDiff with
    | (s, some (t, ok)) => .next ((s.dummyDump t).dummyDiag (if ok then .pass else .fail))
    | (s, none) => .next s

/-- TDC_CONVERSION_TIMEOUT (R210): of the DUMMY edge, its kitty TDC fails and the event will be missing. -/
def execTdcConversionTimeout (target : ConvTarget) (s : State) : Host.Outcome State Fault Refusal :=
  match target with
  | .channel c => .next (s.convertTimeout c.val)
  | .dummy _ =>
    match s.ret.dummy with
    | some d => .next (s.kittyFails d.kitty)
    | none => .next s

/-- DUMMY_MISSING (R215, R385). -/
def execDummyMissing (s : State) : Host.Outcome State Fault Refusal :=
  if s.ret.dummy.isNone then .next s else
  .next (({ s with ret := { s.ret with dummy := none } }.dummyFails).dummyDiag .fail)

/-! ## Completed hands (R250) -/

/-- HAND_COMPLETE (R250, R265, R316, R322, R379): the oldest hand, `fclk` FCLK after its delivery. The trumps of FIELD and of
the supervisor enter the rings before the bids of the zones (R119). -/
def execHandComplete (fclk : Nat) (s : State) : Host.Outcome State Fault Refusal :=
  match s.finishHand fclk with
  | (t, none) => .next t
  | (t, some (h, ps)) =>
    let k := s.asOf h
    let t := ((t.projectHand k h ps).fieldHand s k h ps).zoneHand k h ps
    .next t.framesLeave

/-! ## Digitiser settings (R273) -/

/-- MUX_CHANGE_APPLY (R273): outside RUN, with no record in capture from the buses concerned. -/
def execMuxChangeApply (s : State) : Host.Outcome State Fault Refusal := .next s.adcCommits

/-! ## Cameras (R300, R471) -/

/-- A port that is idle no more. -/
def CamPort.notIdle (c : CamPort) : CamPort := { c with idle := false }

/-- A frame start of the selected virtual channel (R300, R301, R318): a frame still open ends short, the commits of the
port's instant come first. -/
def State.cameraFrame (s : State) (p : Nat) : State :=
  let s := ((s.closeFrame p).updPort p CamPort.notIdle).cameraCommits p
  if !s.camOn p then s else
  let s := s.frameBegins p
  s.rastersAtStart p (s.f (CAM.FRAME.FRAME p))

/-- CSI2_FRAME_START (R300). -/
def execCsi2FrameStart (port : Fin 4) (vc : Fin 16) (s : State) : Host.Outcome State Fault Refusal :=
  let p := port.val
  if s.camOn p && vc.val == s.f (CAM.STREAM.VC p) then .next (s.cameraFrame p) else .next s

/-- A port shown idle. -/
def CamPort.setIdle (c : CamPort) : CamPort := { c with idle := true }

/-- PORT_IDLE (R471): no frame start for two lidar frame periods. On a port that is off the periods are not counted (DEDUCED,
log entry 20). -/
def execPortIdle (port : Fin 4) (s : State) : Host.Outcome State Fault Refusal :=
  if s.camOn port.val then .next (s.updPort port.val CamPort.setIdle).idleCommits else .next s

/-! ## The link (R285, R336) -/

/-- PACKET_SENT (R336): entries of the waveform ring move to class D while it has room (R285), and the next packet is taken
from the highest class that has one. -/
def execPacketSent (s : State) : Host.Outcome State Fault Refusal :=
  if !s.streamRuns then .next s else
  let s := s.ringSend 256
  match s.link.nextClass with
  | some c => .next (s.sendHead c)
  | none => .next s

/-! ## The window watchdog (R365, R388, R414) -/

/-- The supervisor permit is lost to the watchdog; the second time within 1 s is class F (R402). -/
def State.watchdogFault (s : State) : State :=
  let (s, second) := s.watchdog
  if second then s.enterFold 0x30 0x07 else s.showPermit

/-- The supervisor confirms its permit (R365, R402): diagnostic 2 passes again. -/
def State.confirmed (s : State) : State :=
  ({ s with supv := { s.supv with fed := true } }.setFailing 2 false).showPermit

/-- SUPV_PERMIT_CONFIRM (R365): `us` after the confirmation before. The first of a supervisor that has started has none
before it; that of a new image ends its swap (R414). -/
def execSupvPermitConfirm (us : Nat) (s : State) : Host.Outcome State Fault Refusal :=
  if !s.fb SUPV.STATUS.RUNNING then .next s
  else if s.fb SUPV.STATUS.PAUSED then
    (if s.img.fw = some .started then .next ((s.setB SUPV.STATUS.PAUSED false).confirmed.fwEnds 5 none) else .next s)
  else if s.supv.fed ∧ (us < 500 ∨ 1500 < us) then .next s.watchdogFault
  else .next s.confirmed

/-- WATCHDOG_EXPIRY (R365, R388): 1.5 ms without a confirmation; suspended while a swap pauses the supervisor. -/
def execWatchdogExpiry (s : State) : Host.Outcome State Fault Refusal :=
  if s.firmwareRuns && s.supv.fed then .next s.watchdogFault else .next s

end Sys2Proof.Machine
end

