-- ==== Sys2Proof/Machine/Dispatch.lean ====
section
/-! DEFINITION. exec: one arm for each command, each a direct call of its meaning. -/

namespace Sys2Proof.Machine

/-- The effect of a command on everything but the queue. -/
def exec (i : Instr) (s : State) : Host.Outcome State Fault Refusal :=
  match i with
  | .porRelease => Sys2Proof.Machine.execPorRelease s
  | .porLoss => Sys2Proof.Machine.execPorLoss s
  | .nresetFall => Sys2Proof.Machine.execNresetFall s
  | .nresetRise => Sys2Proof.Machine.execNresetRise s
  | .pgWaitEnd => Sys2Proof.Machine.execPgWaitEnd s
  | .pgTimeout core ana io => Sys2Proof.Machine.execPgTimeout core ana io s
  | .pgLowInOperation input => Sys2Proof.Machine.execPgLowInOperation input s
  | .refclkPresent a b => Sys2Proof.Machine.execRefclkPresent a b s
  | .refclkSearchTimeout => Sys2Proof.Machine.execRefclkSearchTimeout s
  | .pllLock => Sys2Proof.Machine.execPllLock s
  | .pllLockTimeout => Sys2Proof.Machine.execPllLockTimeout s
  | .selftestItemDone result => Sys2Proof.Machine.execSelftestItemDone result s
  | .selftestTimeout => Sys2Proof.Machine.execSelftestTimeout s
  | .automaticRetry => Sys2Proof.Machine.execAutomaticRetry s
  | .bootCmdRestart src => Sys2Proof.Machine.execBootCmdRestart src s
  | .bootCmdFold src => Sys2Proof.Machine.execBootCmdFold src s
  | .pwrReqReady => Sys2Proof.Machine.execPwrReqReady s
  | .pwrReqRun => Sys2Proof.Machine.execPwrReqRun s
  | .pwrReqStandby => Sys2Proof.Machine.execPwrReqStandby s
  | .runEntry => Sys2Proof.Machine.execRunEntry s
  | .runExit => Sys2Proof.Machine.execRunExit s
  | .standbyBlockAnswer page aborted => Sys2Proof.Machine.execStandbyBlockAnswer page aborted s
  | .standbyBlockForced page aborted => Sys2Proof.Machine.execStandbyBlockForced page aborted s
  | .standbySwitchOffDone => Sys2Proof.Machine.execStandbySwitchOffDone s
  | .domainOffReqWrite target => Sys2Proof.Machine.execDomainOffReqWrite target s
  | .wakePinEvent high => Sys2Proof.Machine.execWakePinEvent high s
  | .rxActivity lane => Sys2Proof.Machine.execRxActivity lane s
  | .spiCsFall sckHigh => Sys2Proof.Machine.execSpiCsFall sckHigh s
  | .domainReady d => Sys2Proof.Machine.execDomainReady d s
  | .domainWakeTimeout d => Sys2Proof.Machine.execDomainWakeTimeout d s
  | .wakeChecksDone fails results => Sys2Proof.Machine.execWakeChecksDone fails results s
  | .accessIdleTimeout d => Sys2Proof.Machine.execAccessIdleTimeout d s
  | .droopOnset sensors => Sys2Proof.Machine.execDroopOnset sensors s
  | .droopRecovery => Sys2Proof.Machine.execDroopRecovery s
  | .droopHandsHeld => Sys2Proof.Machine.execDroopHandsHeld s
  | .droopLong => Sys2Proof.Machine.execDroopLong s
  | .clkDroopClr => Sys2Proof.Machine.execClkDroopClr s
  | .refclkLost => Sys2Proof.Machine.execRefclkLost s
  | .pllRelock toB => Sys2Proof.Machine.execPllRelock toB s
  | .holdoverExpired => Sys2Proof.Machine.execHoldoverExpired s
  | .clkPrefWrite pref => Sys2Proof.Machine.execClkPrefWrite pref s
  | .spiWriteFrame cmd addr words crc => Sys2Proof.Machine.execSpiWriteFrame cmd addr words crc s
  | .spiReadFrame cmd addr late => Sys2Proof.Machine.execSpiReadFrame cmd addr late s
  | .spiTimeout => Sys2Proof.Machine.execSpiTimeout s
  | .inbandWriteRequest rx tag addr words taken => Sys2Proof.Machine.execInbandWriteRequest rx tag addr words taken s
  | .inbandReadRequest rx tag addr count taken => Sys2Proof.Machine.execInbandReadRequest rx tag addr count taken s
  | .bulkWrite rx tag addr words taken => Sys2Proof.Machine.execBulkWrite rx tag addr words taken s
  | .registerWrite src addr data => Sys2Proof.Machine.execRegisterWrite src addr data s
  | .commitRequest src page boundary => Sys2Proof.Machine.execCommitRequest src page boundary s
  | .commitCancel src page => Sys2Proof.Machine.execCommitCancel src page s
  | .globalCommit src boundary => Sys2Proof.Machine.execGlobalCommit src boundary s
  | .softReset src page => Sys2Proof.Machine.execSoftReset src page s
  | .intForce src page bits => Sys2Proof.Machine.execIntForce src page bits s
  | .errCountClear page => Sys2Proof.Machine.execErrCountClear page s
  | .eventPacketMergeEnd page => Sys2Proof.Machine.execEventPacketMergeEnd page s
  | .hostCntClr => Sys2Proof.Machine.execHostCntClr s
  | .timeCmdSet => Sys2Proof.Machine.execTimeCmdSet s
  | .timeCmdSetAtSync => Sys2Proof.Machine.execTimeCmdSetAtSync s
  | .timeCmdOffset => Sys2Proof.Machine.execTimeCmdOffset s
  | .handAnnounce => Sys2Proof.Machine.execHandAnnounce s
  | .ringSnapshot => Sys2Proof.Machine.execRingSnapshot s
  | .slotArbitration group slot => Sys2Proof.Machine.execSlotArbitration group slot s
  | .fireCommand group armExt => Sys2Proof.Machine.execFireCommand group armExt s
  | .handBoundary => Sys2Proof.Machine.execHandBoundary s
  | .frameBoundary => Sys2Proof.Machine.execFrameBoundary s
  | .hostBid src data => Sys2Proof.Machine.execHostBid src data s
  | .ringPlace0Write src tile second data => Sys2Proof.Machine.execRingPlace0Write src tile second data s
  | .dealCntClr => Sys2Proof.Machine.execDealCntClr s
  | .ffLoad => Sys2Proof.Machine.execFfLoad s
  | .ffLoadDone => Sys2Proof.Machine.execFfLoadDone s
  | .ldbMaintFrameEnd => Sys2Proof.Machine.execLdbMaintFrameEnd s
  | .ldbReenum src => Sys2Proof.Machine.execLdbReenum src s
  | .enumerationDone present => Sys2Proof.Machine.execEnumerationDone present s
  | .pollTimer => Sys2Proof.Machine.execPollTimer s
  | .tileReply tile reply => Sys2Proof.Machine.execTileReply tile reply s
  | .lightNoFire tile => Sys2Proof.Machine.execLightNoFire tile s
  | .hazardFlag tile => Sys2Proof.Machine.execHazardFlag tile s
  | .busHeld => Sys2Proof.Machine.execBusHeld s
  | .busRecoveryRestart held => Sys2Proof.Machine.execBusRecoveryRestart held s
  | .hazClr src present => Sys2Proof.Machine.execHazClr src present s
  | .emitCntClr => Sys2Proof.Machine.execEmitCntClr s
  | .ldbCntClr => Sys2Proof.Machine.execLdbCntClr s
  | .mpdPulseMeasured tile group charge excluded => Sys2Proof.Machine.execMpdPulseMeasured tile group charge excluded s
  | .mpdLoopUpdate => Sys2Proof.Machine.execMpdLoopUpdate s
  | .govSubintervalEnd window => Sys2Proof.Machine.execGovSubintervalEnd window s
  | .staticHoldEnd => Sys2Proof.Machine.execStaticHoldEnd s
  | .decimation channel bits instant => Sys2Proof.Machine.execDecimation channel bits instant s
  | .dacUpdate axis late => Sys2Proof.Machine.execDacUpdate axis late s
  | .senseOpen channel => Sys2Proof.Machine.execSenseOpen channel s
  | .testToneCheckEnd source microvolt offRail => Sys2Proof.Machine.execTestToneCheckEnd source microvolt offRail s
  | .steerCntClr => Sys2Proof.Machine.execSteerCntClr s
  | .syncInEdge edge => Sys2Proof.Machine.execSyncInEdge edge s
  | .syncLost => Sys2Proof.Machine.execSyncLost s
  | .leadingEdge ret at_ armExt => Sys2Proof.Machine.execLeadingEdge ret at_ armExt s
  | .tdcConversion target raw copyDiff tot => Sys2Proof.Machine.execTdcConversion target raw copyDiff tot s
  | .kittyMove move => Sys2Proof.Machine.execKittyMove move s
  | .collectionVisit channel => Sys2Proof.Machine.execCollectionVisit channel s
  | .shotMarker channel stuckHigh => Sys2Proof.Machine.execShotMarker channel stuckHigh s
  | .dllLockLoss page loopB => Sys2Proof.Machine.execDllLockLoss page loopB s
  | .dllRetry page => Sys2Proof.Machine.execDllRetry page s
  | .dllRelock page loopB => Sys2Proof.Machine.execDllRelock page loopB s
  | .tdcFailClr src page ch => Sys2Proof.Machine.execTdcFailClr src page ch s
  | .tdcRetestDone channel pass => Sys2Proof.Machine.execTdcRetestDone channel pass s
  | .dummyMissing => Sys2Proof.Machine.execDummyMissing s
  | .dbiasConversion millivolt => Sys2Proof.Machine.execDbiasConversion millivolt s
  | .afeCntClr page => Sys2Proof.Machine.execAfeCntClr page s
  | .tdcCntClr page => Sys2Proof.Machine.execTdcCntClr page s
  | .kittyCntClr => Sys2Proof.Machine.execKittyCntClr s
  | .sliceEventRetire slice => Sys2Proof.Machine.execSliceEventRetire slice s
  | .markerRetire slice => Sys2Proof.Machine.execMarkerRetire slice s
  | .trickPlacementDone channel fclk => Sys2Proof.Machine.execTrickPlacementDone channel fclk s
  | .autoReadoutDone channel => Sys2Proof.Machine.execAutoReadoutDone channel s
  | .dumpReadDone channel trick => Sys2Proof.Machine.execDumpReadDone channel trick s
  | .drainSwitch darkNs => Sys2Proof.Machine.execDrainSwitch darkNs s
  | .histCntClr => Sys2Proof.Machine.execHistCntClr s
  | .rejectChannel channel => Sys2Proof.Machine.execRejectChannel channel s
  | .bloomPass channel fclk => Sys2Proof.Machine.execBloomPass channel fclk s
  | .rejCntClr => Sys2Proof.Machine.execRejCntClr s
  | .pntChannelDone channel => Sys2Proof.Machine.execPntChannelDone channel s
  | .handComplete fclk => Sys2Proof.Machine.execHandComplete fclk s
  | .pntCntClr => Sys2Proof.Machine.execPntCntClr s
  | .levelTrigger source before reached sample => Sys2Proof.Machine.execLevelTrigger source before reached sample s
  | .trigInEdge rising sample => Sys2Proof.Machine.execTrigInEdge rising sample s
  | .acqTimerTrigger source sample => Sys2Proof.Machine.execAcqTimerTrigger source sample s
  | .acqForce sample => Sys2Proof.Machine.execAcqForce sample s
  | .acqArm src => Sys2Proof.Machine.execAcqArm src s
  | .acqCntClr => Sys2Proof.Machine.execAcqCntClr s
  | .recordCaptureDone capture => Sys2Proof.Machine.execRecordCaptureDone capture s
  | .holdoffEnd => Sys2Proof.Machine.execHoldoffEnd s
  | .ringEntryWritten => Sys2Proof.Machine.execRingEntryWritten s
  | .rateStepDown => Sys2Proof.Machine.execRateStepDown s
  | .ringRdWrite src data => Sys2Proof.Machine.execRingRdWrite src data s
  | .muxChangeApply => Sys2Proof.Machine.execMuxChangeApply s
  | .adcFail adc cause => Sys2Proof.Machine.execAdcFail adc cause s
  | .spareHandoverDone => Sys2Proof.Machine.execSpareHandoverDone s
  | .adcFailClr src adc => Sys2Proof.Machine.execAdcFailClr src adc s
  | .adcRetestDone adc pass => Sys2Proof.Machine.execAdcRetestDone adc pass s
  | .adcCntClr => Sys2Proof.Machine.execAdcCntClr s
  | .csi2HsEntry port lane synced => Sys2Proof.Machine.execCsi2HsEntry port lane synced s
  | .csi2Deskew port => Sys2Proof.Machine.execCsi2Deskew port s
  | .csi2LongPacket port vc dt ecc crcOk fifoFull payload => Sys2Proof.Machine.execCsi2LongPacket port vc dt ecc crcOk fifoFull payload s
  | .csi2FrameStart port vc => Sys2Proof.Machine.execCsi2FrameStart port vc s
  | .csi2FrameEnd port vc => Sys2Proof.Machine.execCsi2FrameEnd port vc s
  | .shortFrameTimeout port => Sys2Proof.Machine.execShortFrameTimeout port s
  | .portIdle port => Sys2Proof.Machine.execPortIdle port s
  | .ispLineDone => Sys2Proof.Machine.execIspLineDone s
  | .statsPacket port => Sys2Proof.Machine.execStatsPacket port s
  | .i2cTransactionDone port ack data => Sys2Proof.Machine.execI2cTransactionDone port ack data s
  | .i2cTimeout port => Sys2Proof.Machine.execI2cTimeout port s
  | .i2cXferGo src port data => Sys2Proof.Machine.execI2cXferGo src port data s
  | .camFsyncPulse port => Sys2Proof.Machine.execCamFsyncPulse port s
  | .camCntClr port => Sys2Proof.Machine.execCamCntClr port s
  | .zoneCntClr => Sys2Proof.Machine.execZoneCntClr s
  | .rxCdrLock lane => Sys2Proof.Machine.execRxCdrLock lane s
  | .rxBlockLock lane swapped inverted => Sys2Proof.Machine.execRxBlockLock lane swapped inverted s
  | .hostTsReady lane => Sys2Proof.Machine.execHostTsReady lane s
  | .linkTimeout => Sys2Proof.Machine.execLinkTimeout s
  | .txLaneFault lane => Sys2Proof.Machine.execTxLaneFault lane s
  | .alignmentMarker => Sys2Proof.Machine.execAlignmentMarker s
  | .txClr src lanes => Sys2Proof.Machine.execTxClr src lanes s
  | .txRetestDone lane pass => Sys2Proof.Machine.execTxRetestDone lane pass s
  | .txForceFail src lane => Sys2Proof.Machine.execTxForceFail src lane s
  | .rxLos lane => Sys2Proof.Machine.execRxLos lane s
  | .rxLol lane => Sys2Proof.Machine.execRxLol lane s
  | .rxBadPacket kind => Sys2Proof.Machine.execRxBadPacket kind s
  | .hostHeartbeat rx count txBad => Sys2Proof.Machine.execHostHeartbeat rx count txBad s
  | .hostLost => Sys2Proof.Machine.execHostLost s
  | .deviceHeartbeatTimer => Sys2Proof.Machine.execDeviceHeartbeatTimer s
  | .timeSetNow rx value elapsed => Sys2Proof.Machine.execTimeSetNow rx value elapsed s
  | .timeSetAtSyncPacket rx value => Sys2Proof.Machine.execTimeSetAtSyncPacket rx value s
  | .timeOffsetPacket rx value => Sys2Proof.Machine.execTimeOffsetPacket rx value s
  | .timeSetInvalid rx => Sys2Proof.Machine.execTimeSetInvalid rx s
  | .packetSent => Sys2Proof.Machine.execPacketSent s
  | .packetAgeDiscard => Sys2Proof.Machine.execPacketAgeDiscard s
  | .injectBit lanes => Sys2Proof.Machine.execInjectBit lanes s
  | .injectSync => Sys2Proof.Machine.execInjectSync s
  | .injectCrc cls => Sys2Proof.Machine.execInjectCrc cls s
  | .tabCntClr => Sys2Proof.Machine.execTabCntClr s
  | .scrubRead bank => Sys2Proof.Machine.execScrubRead bank s
  | .bankOwnerWrite src bank data => Sys2Proof.Machine.execBankOwnerWrite src bank data s
  | .moverDescriptorEnd bank => Sys2Proof.Machine.execMoverDescriptorEnd bank s
  | .ownerReclaim bank discarded => Sys2Proof.Machine.execOwnerReclaim bank discarded s
  | .bankCntClr => Sys2Proof.Machine.execBankCntClr s
  | .safeCycle sin sfb sout => Sys2Proof.Machine.execSafeCycle sin sfb sout s
  | .safetyStatusTimer => Sys2Proof.Machine.execSafetyStatusTimer s
  | .supvPermitConfirm us => Sys2Proof.Machine.execSupvPermitConfirm us s
  | .watchdogExpiry => Sys2Proof.Machine.execWatchdogExpiry s
  | .supvComparisonDone differ => Sys2Proof.Machine.execSupvComparisonDone differ s
  | .safetyCrcCheck computed => Sys2Proof.Machine.execSafetyCrcCheck computed s
  | .supvMemoryScrub uncorrectable => Sys2Proof.Machine.execSupvMemoryScrub uncorrectable s
  | .pwOpen src data => Sys2Proof.Machine.execPwOpen src data s
  | .pwSet src data => Sys2Proof.Machine.execPwSet src data s
  | .pwErase src => Sys2Proof.Machine.execPwErase src s
  | .pwCheckDone => Sys2Proof.Machine.execPwCheckDone s
  | .pwBlockEnd => Sys2Proof.Machine.execPwBlockEnd s
  | .safeCmdCommission src => Sys2Proof.Machine.execSafeCmdCommission src s
  | .safeCmdClose => Sys2Proof.Machine.execSafeCmdClose s
  | .safeConfirm src data => Sys2Proof.Machine.execSafeConfirm src data s
  | .lockTimeout => Sys2Proof.Machine.execLockTimeout s
  | .supvCntClr => Sys2Proof.Machine.execSupvCntClr s
  | .safeCntClr => Sys2Proof.Machine.execSafeCntClr s
  | .fwVerify src => Sys2Proof.Machine.execFwVerify src s
  | .fwVerifyDone signed => Sys2Proof.Machine.execFwVerifyDone signed s
  | .fwSwap src => Sys2Proof.Machine.execFwSwap src s
  | .fwSwapStop => Sys2Proof.Machine.execFwSwapStop s
  | .fwImageStart => Sys2Proof.Machine.execFwImageStart s
  | .fwSwapTimeout => Sys2Proof.Machine.execFwSwapTimeout s
  | .fwRaiseMin src => Sys2Proof.Machine.execFwRaiseMin src s
  | .cfgStore src => Sys2Proof.Machine.execCfgStore src s
  | .cfgStoreDone => Sys2Proof.Machine.execCfgStoreDone s
  | .cfgActivate src boundary => Sys2Proof.Machine.execCfgActivate src boundary s
  | .cfgActivateCrcDone => Sys2Proof.Machine.execCfgActivateCrcDone s
  | .cfgCheck src => Sys2Proof.Machine.execCfgCheck src s
  | .ledgerWriteBootp src => Sys2Proof.Machine.execLedgerWriteBootp src s
  | .ledgerStoreCal src => Sys2Proof.Machine.execLedgerStoreCal src s
  | .ledgerWriteDone => Sys2Proof.Machine.execLedgerWriteDone s
  | .calItemStart item element => Sys2Proof.Machine.execCalItemStart item element s
  | .tdcCalMeasureDone channel lo hi corrections => Sys2Proof.Machine.execTdcCalMeasureDone channel lo hi corrections s
  | .kittyCalDone kitty lo hi corrections xofs => Sys2Proof.Machine.execKittyCalDone kitty lo hi corrections xofs s
  | .dllCalDone page matched cells => Sys2Proof.Machine.execDllCalDone page matched cells s
  | .afeCalDone input offsets => Sys2Proof.Machine.execAfeCalDone input offsets s
  | .adcCalDone adc offset gain => Sys2Proof.Machine.execAdcCalDone adc offset gain s
  | .dummyD0Done d0 => Sys2Proof.Machine.execDummyD0Done d0 s
  | .eolGo src apply_ => Sys2Proof.Machine.execEolGo src apply_ s
  | .eolRunEnd => Sys2Proof.Machine.execEolRunEnd s
  | .hkRound raw => Sys2Proof.Machine.execHkRound raw s
  | .thermalGraceExpiry laser => Sys2Proof.Machine.execThermalGraceExpiry laser s
  | .dieShutComparator sensors => Sys2Proof.Machine.execDieShutComparator sensors s
  | .hkCntClr => Sys2Proof.Machine.execHkCntClr s
  | .rootClockCheck inRange => Sys2Proof.Machine.execRootClockCheck inRange s
  | .refclkInactiveLost => Sys2Proof.Machine.execRefclkInactiveLost s
  | .rxTsWhileLinkUp lane => Sys2Proof.Machine.execRxTsWhileLinkUp lane s
  | .rxControlBlockBad => Sys2Proof.Machine.execRxControlBlockBad s
  | .prbsCheckerLock lane errors => Sys2Proof.Machine.execPrbsCheckerLock lane errors s
  | .tdcConversionTimeout target => Sys2Proof.Machine.execTdcConversionTimeout target s
  | .senseOpenCleared channel => Sys2Proof.Machine.execSenseOpenCleared channel s
  | .testToneCheckStart source => Sys2Proof.Machine.execTestToneCheckStart source s

end Sys2Proof.Machine
end

