-- ==== Sys2Proof/Safety.lean ====
section
/-! DEFINITION. What counts as a safe run of the block, in the terms that claims use: the canonical form of a state, and
what a command leaves alone. -/

namespace Sys2Proof.Machine

/-! ## The canonical form -/

/-- What the canonical form of a state asks of its registers, shadows, memories and TIME. -/
def Canon (regs shadow : Cells 32) (mem : Cells 36) (lost : Lost) (time : Nat) : Prop :=
  Cells.wf resetWord regs = true ∧ Cells.wf resetWord shadow = true ∧
  Cells.wf (memDefault lost) mem = true ∧ time < timeModulus

/-- The canonical form of a state: registers, shadows and memories list their words in rising order of address and
list no word that reads as an unlisted one does, so that equal contents are equal data; TIME is below 2^64 ns (R107). -/
def State.wf (s : State) : Prop := Canon s.regs s.shadow s.mem s.lost s.time

/-- What holds of the next state of a step that goes on. -/
def afterNext (p : State → Prop) (o : Host.Outcome State Fault Refusal) : Prop := ∀ t, o = .next t → p t

/-! ## Frames -/

/-- Every register word but those listed reads in `t` as in `s`. -/
def SameWords (s t : State) (ws : List Nat) : Prop := ∀ a, a ∉ ws → t.reg a = s.reg a

/-- Every memory word reads in `t` as in `s`. -/
def SameMemory (s t : State) : Prop := ∀ a, t.rd a = s.rd a

/-- Every memory word reads in `t` as in `s`, but that a place-0 word of a ring whose write waits for the bus in `s` may have
taken it (R145). -/
def SameMemoryButQueued (s t : State) : Prop := ∀ a, (∀ e ∈ s.ldb.fwd, a ≠ 0xA00000 + 0x20 * e.1) → t.rd a = s.rd a

/-- Nothing but register words differs between `s` and `t`. -/
def OnlyRegs (s t : State) : Prop := t = { s with regs := t.regs }

/-- Nothing differs but register words and what a risen interrupt summary sends (R104): packets in the class B queue with
their SEQ, and the merge periods. -/
def OnlyEvents (s t : State) : Prop :=
  t = { s with
    regs := t.regs
    host := { s.host with merges := t.host.merges }
    link := { s.link with qB := t.link.qB, seqs := t.link.seqs } }

/-- Nothing differs but register words, queued packets with their SEQ, and the merge periods. -/
def OnlyPackets (s t : State) : Prop :=
  t = { s with
    regs := t.regs
    host := { s.host with merges := t.host.merges }
    link := { s.link with qA := t.link.qA, qB := t.link.qB, qC := t.link.qC, qD := t.link.qD, seqs := t.link.seqs } }

/-- An event bit of a page is set, and its INT_STAT word is otherwise as before (R84). -/
def Raised (s t : State) (p bit : Nat) : Prop := t.reg (hdr p 3) = s.reg (hdr p 3) ||| BitVec.ofNat 32 (2 ^ bit)

/-- An error of a page: ERR is set, ERR_COUNT goes up and stays at its largest value, and ERR_CAUSE holds the first error
since ERR was clear (R84, R87). -/
def ErrorRaised (s t : State) (code src a : Nat) : Prop :=
  let p := a / 0x400
  Raised s t p 31 ∧
  t.f ⟨hdr p 7, 0, 16⟩ = satAdd 16 (s.f ⟨hdr p 7, 0, 16⟩) 1 ∧
  t.reg (hdr p 6) = (if (s.reg (hdr p 3)).getLsbD 31 then s.reg (hdr p 6) else errWord code src p (a % 0x400)) ∧
  SameWords s t [hdr p 3, hdr p 6, hdr p 7] ∧ OnlyEvents s t

/-- FOLD has been entered with a cause (R46, R47, R65, R220): the cause and the phase are recorded, nothing is fired and no hand
is in progress, LDB_KA has stopped, the outputs of SAFE are off and the safety lock is closed. Memory is as before but for the
histogram memory, which loses its contents, and place-0 words that waited. -/
def FoldEntered (s t : State) (code detail : Nat) : Prop :=
  t.pwr.st = .fold ∧ t.f BOOT.CAUSE.CODE = code ∧ t.f BOOT.CAUSE.DETAIL = detail ∧ t.f BOOT.CAUSE.PHASE = (if 0x30 ≤ code then 3 else s.foldPhase % 4) ∧
  t.deal.cur = none ∧ t.deal.next = none ∧ t.fb LDB.STATUS.KA = false ∧ t.safe.on = false ∧ t.lockOpen = false ∧
  t.faultLow = true ∧ t.time = s.time ∧ t.shadow = s.shadow ∧ t.pending = s.pending ∧
  ∀ a, memRegion a ≠ 3 → (∀ e ∈ s.ldb.fwd, a ≠ 0xA00000 + 0x20 * e.1) → t.rd a = s.rd a

end Sys2Proof.Machine
end

