-- ==== Sys2Proof/Certificates/Slice0/Obligations.lean ====
section
/-! DEFINITION. The statements for the provers: what the commands do, what they leave alone, and what holds of every step. -/

open Sys2Proof Sys2Proof.Machine

/-- A step runs the command at the front of the queue. For every command c and every state whose queue begins with c,
one step is exec of c on the state with the rest of the queue. -/
def Obligations.StepRunsFrontCommand : Prop :=
  ∀ (c : Instr) (rest : List Instr) (s : State), s.pending = c :: rest → step s = exec c { s with pending := rest }

/-- With no command waiting a step passes one clock period and goes on. On an empty queue a step answers a next state.
An unpowered device, which has no clock, stays as it is; a powered one outside STANDBY, with no in-band request
waiting and no more in ACQ's record ring than rate adaptation allows, answers a state that differs from the one before
only in the two clocks: the device time and TIME advance by 0.8 ns on the root PLL and by 10 ns on SOSC, TIME modulo
2^64 ns. With the ring above the limit HI in a running capture domain, and no rise of the rate step yet, it raises the
step by one with its event. That a step without a command is one clock period is the model's choice (log entry 3); the
two period lengths are R107's. -/
def Obligations.IdleStepPassesOneClock : Prop :=
  ∀ s : State, s.pending = [] → (∃ t, step s = .next t) ∧
    (s.pwr.st = .unpowered → step s = .next s) ∧
    (s.pwr.st ≠ .unpowered → s.pwr.st ≠ .standby → s.standbyShake = none → s.host.queue = [] →
      (s.fb ACQ.RR.RR_EN = true → s.ringFill ≤ s.f ACQ.RR.HI * 64) →
      step s = .next { s with
        mono := s.mono + (if s.fb CLK.REFSEL.LOCK || s.fb CLK.REFSEL.HOLDOVER then 8 else 100)
        time := (s.time + (if s.fb CLK.REFSEL.LOCK || s.fb CLK.REFSEL.HOLDOVER then 8 else 100)) % (10 * 2 ^ 64) }) ∧
    (s.pwr.st = .ready ∨ s.pwr.st = .run → s.standbyShake = none → s.host.queue = [] → s.dom 4 = .on →
      s.fb ACQ.RR.RR_EN = true → s.f ACQ.RR.HI * 64 < s.ringFill → s.f ACQ.STATE.STEP < 7 → s.acq.stepUp = none →
      ∃ t, step s = .next t ∧ t.f ACQ.STATE.STEP = s.f ACQ.STATE.STEP + 1 ∧ Raised s t 0x32 1 ∧
        SameWords s t [ACQ.STATE, hdr 0x32 3] ∧ SameMemory s t)

/-- The state right after power-on reset. After POR release the device is in Power-up at the power-good wait, every
register word and every shadow reads its reset value, TIME is 0, the safety lock is closed, no commit is pending, all
packet queues, in-band requests, slice FIFOs and the command queue are empty, no hand is in progress, SAFE's outputs
are off, and FAULT_N is low. That a memory word which nothing has written reads 0 outside the ledger's blocks is the
model's choice (log entry 7). -/
def Obligations.ResetState : Prop :=
  let s := State.reset
  s.pwr.st = .powerUp ∧ s.pwr.step = .pgWait ∧ (∀ a, s.reg a = resetWord a) ∧ (∀ a, s.shad a = resetWord a) ∧
  s.time = 0 ∧ s.lockOpen = false ∧ s.commits = [] ∧ s.pending = [] ∧ s.host.queue = [] ∧
  s.link.qA = [] ∧ s.link.qB = [] ∧ s.link.qC = [] ∧ s.link.qD = [] ∧ s.deal.cur = none ∧ s.deal.next = none ∧
  (∀ f ∈ s.hist.fifos, f = []) ∧ s.safe.on = false ∧ s.faultLow = true ∧ ∀ a, blockWord a = false → s.rd a = 0

/-- The state after reset is in canonical form. At reset the registers, the shadows and the memories are in canonical
form and TIME is below 2^64 ns. -/
def Obligations.ResetIsCanonical : Prop := State.reset.wf

/-- Every step keeps registers, shadows and memories in canonical form and TIME in range. For every state in canonical
form, whatever command is at the front of its queue or if none is, the state after a step is in canonical form:
register words, shadows and memory words are listed in rising order of address, none is listed that reads as an
unlisted one does (also after a loss of contents, a flash clear or a write of a ledger block changes what unlisted
words read), so equal contents stay equal data; and TIME stays below 2^64 ns. -/
def Obligations.EveryStepKeepsCanonicalForm : Prop :=
  ∀ s t : State, s.wf → step s = .next t → t.wf

/-- Every command answers a next state and leaves the queue of waiting commands as it is. No command stops the block:
for every command and every state, exec answers a next state in which the commands that wait behind it stay waiting,
in their order; so every step with a command at the front of the queue goes on and takes exactly that command off. (An
event whose precondition does not hold leaves the state as it is, which is the model's reading, log entry 4.) -/
def Obligations.EveryCommandGoesOn : Prop :=
  (∀ (c : Instr) (s : State), ∃ t, exec c s = .next t ∧ t.pending = s.pending) ∧
  ∀ (c : Instr) (rest : List Instr) (s : State), s.pending = c :: rest → ∃ t, step s = .next t ∧ t.pending = rest

/-- POR release, POR loss and nRESET. POR_RELEASE of an unpowered device and NRESET_FALL of a powered one enter Power-
up with every register and every shadow at its reset value, but that BOOT.CAUSE outlasts nRESET and that BOOT.PARAM,
LEDGER.BOOTP and PREF hold the ledger's readable boot parameters at once where PG_IO has qualified since POR (the
model's choice, log entry 43); POR_LOSS makes the device unpowered in every state. TIME is 0 after the first and the
last and kept by nRESET. FAULT_N is low and the safety lock closed after all three. The ledger is kept: its blocks by
POR_RELEASE as they are and by the others but for block writes under way, which are cut; its words by all three unless
a STORE was running. In FOLD with cause THERMAL the fall of nRESET is only noted. NRESET_RISE in the Power-up that
NRESET_FALL holds starts a phase 1 sequence with a fresh retry budget and changes nothing else. Under hypotheses on
the state and the operands alone it concludes that exec answers a next state (each command completes) for: porRelease,
porLoss, nresetFall, nresetRise. -/
def Obligations.PowerOnAndReset : Prop :=
  let restored (s t : State) : Prop :=
    (∀ a, a ∉ [BOOT.CAUSE, BOOT.PARAM, LEDGER.BOOTP, CLK.REFSEL] → t.reg a = resetWord a) ∧
    (∀ w, s.pwr.pgIo = true → s.led.bootp = some w → t.bootpReadable = true → t.reg BOOT.PARAM = w ∧ t.reg LEDGER.BOOTP = w) ∧
    (s.pwr.pgIo = false ∨ s.led.bootp = none ∨ t.bootpReadable = false → ∀ a, a ≠ BOOT.CAUSE → t.reg a = resetWord a)
  (∀ s : State, s.pwr.st = .unpowered → ∃ t, exec .porRelease s = .next t ∧
    t.pwr.st = .powerUp ∧ t.pwr.step = .pgWait ∧ t.pwr.phase = 0 ∧ t.pwr.retriesUsed = 0 ∧
    (∀ a, t.reg a = resetWord a) ∧ (∀ a, t.shad a = resetWord a) ∧ t.time = 0 ∧ t.lockOpen = false ∧ t.faultLow = true ∧
    t.led = s.led ∧ (∀ a, memRegion a = 5 → t.rd a = s.rd a) ∧ t.pending = s.pending) ∧
  (∀ s : State, ∃ t, exec .porLoss s = .next t ∧ t.pwr.st = .unpowered ∧
    (∀ a, t.reg a = resetWord a) ∧ (∀ a, t.shad a = resetWord a) ∧ t.time = 0 ∧ t.lockOpen = false ∧ t.faultLow = true ∧
    t.led.password = s.led.password ∧ t.led.bootp = s.led.bootp ∧ t.led.cal = s.led.cal ∧ t.led.logNext = s.led.logNext ∧ t.led.ops = [] ∧
    (s.img.cfg ≠ some .store → ∀ a, memRegion a = 5 → t.rd a = s.rd a) ∧ t.pending = s.pending) ∧
  (∀ s : State, s.pwr.st ≠ .unpowered → ¬(s.pwr.st = .fold ∧ s.f BOOT.CAUSE.CODE = 0x20) → ∃ t, exec .nresetFall s = .next t ∧
    t.pwr.st = .powerUp ∧ t.pwr.nresetLow = true ∧ t.pwr.phase = 1 ∧
    restored s t ∧ t.reg BOOT.CAUSE = s.reg BOOT.CAUSE ∧ (∀ a, t.shad a = resetWord a) ∧
    t.time = s.time ∧ t.lockOpen = false ∧ t.faultLow = true ∧ t.led = { s.led with wear := t.led.wear, ops := [] } ∧
    (s.img.cfg ≠ some .store → ∀ a, memRegion a = 5 → t.rd a = s.rd a) ∧ t.pending = s.pending) ∧
  (∀ s : State, s.pwr.st = .fold → s.f BOOT.CAUSE.CODE = 0x20 → exec .nresetFall s = .next { s with pwr := { s.pwr with nresetLow := true } }) ∧
  ∀ s : State, s.pwr.st = .powerUp → s.pwr.nresetLow = true → exec .nresetRise s = .next { s with pwr := { s.pwr with
    nresetLow := false, phase := 1, step := .pgWait, seqStart := s.mono, transStart := s.mono, retriesUsed := 0 } }

/-- The power-good wait, the reference search and the PLL lock of start-up. In Power-up with nRESET high: the end of
the power-good wait begins the reference search and lets BOOT.PARAM hold the ledger's boot parameters where it has
readable ones; in the search, a present reference is selected, the one that BOOT.PARAM.REF_PREF names if it is present
and otherwise the other with REFCLK_ALT, and locking begins; the lock of the root PLL starts self-test with no item
done and every domain on. In operation REFCLK_PRESENT sets the PRESENT bits of the inputs named and nothing else.
Under hypotheses on the state and the operands alone it concludes that exec answers a next state (each command
completes) for: pgWaitEnd, refclkPresent, pllLock. -/
def Obligations.StartupClockSteps : Prop :=
  (∀ s : State, s.inStep .pgWait = true → ∃ t, exec .pgWaitEnd s = .next t ∧
    t.reg BOOT.PARAM = (match s.led.bootp with
      | some w => if s.bootpReadable then w else s.reg BOOT.PARAM
      | none => s.reg BOOT.PARAM) ∧
    SameWords s t [BOOT.PARAM, LEDGER.BOOTP, CLK.REFSEL] ∧
    t = { s with regs := t.regs, pwr := { s.pwr with step := .refSearch, pgIo := true } }) ∧
  (∀ (a b : Bool) (s : State), s.inStep .refSearch = true → (a || b) = true → ∃ t, exec (.refclkPresent a b) s = .next t ∧
    t.fb CLK.REFSEL.A_PRESENT = (a || s.fb CLK.REFSEL.A_PRESENT) ∧ t.fb CLK.REFSEL.B_PRESENT = (b || s.fb CLK.REFSEL.B_PRESENT) ∧
    t.pwr = { s.pwr with step := .pllWait } ∧
    (let pref := s.f BOOT.PARAM.REF_PREF
     let there := if pref = 0 then t.fb CLK.REFSEL.A_PRESENT else t.fb CLK.REFSEL.B_PRESENT
     t.f CLK.REFSEL.ACTIVE = (if there then pref else 1 - pref) ∧ (there = false → Raised s t 0x01 0) ∧
     (there = true → t.reg (hdr 0x01 3) = s.reg (hdr 0x01 3))) ∧
    SameWords s t [CLK.REFSEL, hdr 0x01 3] ∧ SameMemory s t ∧ t.shadow = s.shadow ∧ t.time = s.time) ∧
  (∀ s : State, s.inStep .pllWait = true → ∃ t, exec .pllLock s = .next t ∧
    t.fb CLK.REFSEL.LOCK = true ∧ t.pwr = { s.pwr with
      step := .selfTest, items := 0, testStart := s.mono, domains := List.replicate 9 .on } ∧
    SameWords s t [CLK.REFSEL] ∧ SameMemory s t ∧ t.shadow = s.shadow ∧ t.time = s.time) ∧
  ∀ (a b : Bool) (s : State), s.pwr.st = .ready ∨ s.pwr.st = .run ∨ s.pwr.st = .standby →
    ∃ t, exec (.refclkPresent a b) s = .next t ∧
      t.fb CLK.REFSEL.A_PRESENT = (a || s.fb CLK.REFSEL.A_PRESENT) ∧ t.fb CLK.REFSEL.B_PRESENT = (b || s.fb CLK.REFSEL.B_PRESENT) ∧
      t.f CLK.REFSEL.ACTIVE = s.f CLK.REFSEL.ACTIVE ∧ t.fb CLK.REFSEL.LOCK = s.fb CLK.REFSEL.LOCK ∧
      SameWords s t [CLK.REFSEL] ∧ OnlyRegs s t

/-- What puts the device in FOLD, and with which cause. Each of these enters FOLD with its cause, its detail, and the
phase of the sequence in progress: the power-good time-out with the code of the lowest-coded low input, a power-good
input low in operation, no reference found, no PLL lock, self-test overdue, the host's FOLD command, a domain not
ready during the STANDBY exit (with the first page of the domain), holdover exhausted with no input that the PLL may
relock to, and two on-die sensors above the SHUT limit outside FOLD. In FOLD nothing is fired, no hand is in progress,
LDB_KA has stopped, SAFE's outputs are off, the lock is closed, FAULT_N is low, and memory other than the histogram
memory is unchanged (queued place-0 words of rings complete). For a time-out with no input low the spec names no code:
the model's is free among the three (log entry 10). Under hypotheses on the state and the operands alone it concludes
that exec answers a next state (each command completes) for: pgTimeout, pgLowInOperation, refclkSearchTimeout,
pllLockTimeout, selftestTimeout, bootCmdFold, domainWakeTimeout, holdoverExpired, dieShutComparator. -/
def Obligations.FoldEntries : Prop :=
  (∀ (core ana io : Bool) (s : State), s.inStep .pgWait = true → (core && ana && io) = false →
    ∃ t, exec (.pgTimeout core ana io) s = .next t ∧ FoldEntered s t (if !core then 1 else if !ana then 2 else 3) 0xFF) ∧
  (∀ s : State, s.inStep .pgWait = true → ∃ t c, exec (.pgTimeout true true true) s = .next t ∧ 1 ≤ c ∧ c ≤ 3 ∧ FoldEntered s t c 0xFF) ∧
  (∀ (i : PgInput) (s : State), s.pwr.st = .ready ∨ s.pwr.st = .run ∨ s.pwr.st = .standby →
    ∃ t, exec (.pgLowInOperation i) s = .next t ∧
      FoldEntered s t (match i with | .core => 1 | .ana => 2 | .io => 3) 0xFF) ∧
  (∀ s : State, s.inStep .refSearch = true → ∃ t, exec .refclkSearchTimeout s = .next t ∧ FoldEntered s t 0x04 0xFF) ∧
  (∀ s : State, s.inStep .pllWait = true → ∃ t, exec .pllLockTimeout s = .next t ∧ FoldEntered s t 0x05 0xFF) ∧
  (∀ s : State, s.inStep .selfTest = true → ∃ t, exec .selftestTimeout s = .next t ∧ FoldEntered s t 0x18 0xFF) ∧
  (∀ (src : Port) (s : State), s.pwr.st = .ready ∨ s.pwr.st = .run ∨ s.pwr.st = .standby →
    ∃ t, exec (.bootCmdFold src) s = .next t ∧ FoldEntered s t 0x31 0xFF) ∧
  (∀ (d : Fin 9) (s : State), s.pwr.st = .standby → s.pwr.exit = some .switching → s.dom d.val = .waking →
    ∃ t p, exec (.domainWakeTimeout d) s = .next t ∧ (domainPages d.val).head? = some p ∧ FoldEntered s t 0x19 p) ∧
  (∀ s : State, s.pwr.st = .ready ∨ s.pwr.st = .run ∨ s.pwr.st = .standby → s.pwr.holdStart.isSome = true →
    s.mayRelock 0 = false → s.mayRelock 1 = false →
    ∃ t, exec .holdoverExpired s = .next t ∧ FoldEntered s t 0x32 0xFF) ∧
  ∀ (sensors : BitVec 8) (s : State), 2 ≤ popCount sensors.toNat 8 → s.pwr.st ≠ .unpowered → s.pwr.st ≠ .fold →
    ¬(s.pwr.st = .powerUp ∧ s.pwr.nresetLow = true) →
    ∃ t, exec (.dieShutComparator sensors) s = .next t ∧ FoldEntered s t 0x20 0x0B

/-- Self-test items that pass, items that fail, and READY after the last. In self-test, a bank, histogram, ring, bus-
loopback or safety-output item that passes sets its bit of BOOT.SELFTEST.PASS and is marked as done; one that fails
enters FOLD with its cause and page. TDC and ADC items whose elements all pass do the same as a passing item. When all
items but the collection are done, the collection of results makes the device READY, with LDB_KA toggling where the
bus is enabled and no hazardous fault holds it. Under hypotheses on the state and the operands alone it concludes that
exec answers a next state (each command completes) for: selftestItemDone. -/
def Obligations.SelfTestItems : Prop :=
  let passes (s t : State) (item bit : Nat) : Prop :=
    t.pwr = { s.pwr with items := s.pwr.items ||| 2 ^ item } ∧
    t.f BOOT.SELFTEST.PASS = s.f BOOT.SELFTEST.PASS ||| 2 ^ bit ∧ SameWords s t [BOOT.SELFTEST] ∧
    t = { s with regs := t.regs, pwr := t.pwr }
  (∀ s : State, s.inStep .selfTest = true →
    (∃ t, exec (.selftestItemDone (.bankBist true [] [])) s = .next t ∧ passes s t 0 0) ∧
    (∃ t, exec (.selftestItemDone (.histBist true [])) s = .next t ∧ passes s t 1 1) ∧
    (∃ t, exec (.selftestItemDone (.ringBist true [])) s = .next t ∧ passes s t 2 2) ∧
    (∃ t, exec (.selftestItemDone (.tdcLoop ⟨[], [], []⟩)) s = .next t ∧ passes s t 3 3) ∧
    (∃ t, exec (.selftestItemDone (.adcRamp ⟨[], [], []⟩)) s = .next t ∧ passes s t 4 4) ∧
    (∃ t, exec (.selftestItemDone (.ldbLoop true)) s = .next t ∧ passes s t 5 5) ∧
    ∃ t, exec (.selftestItemDone (.safetyOutputs true)) s = .next t ∧ passes s t 6 6) ∧
  (∀ s : State, s.inStep .selfTest = true →
    (∃ t, exec (.selftestItemDone (.bankBist false [] [])) s = .next t ∧ FoldEntered s t 0x10 0x0D) ∧
    (∃ t, exec (.selftestItemDone (.histBist false [])) s = .next t ∧ FoldEntered s t 0x11 0x38) ∧
    (∃ t, exec (.selftestItemDone (.ringBist false [])) s = .next t ∧ FoldEntered s t 0x12 0x10) ∧
    (∃ t, exec (.selftestItemDone (.ldbLoop false)) s = .next t ∧ FoldEntered s t 0x15 0x13) ∧
    ∃ t, exec (.selftestItemDone (.safetyOutputs false)) s = .next t ∧ FoldEntered s t 0x16 0x08) ∧
  ∀ s : State, s.inStep .selfTest = true → s.pwr.items % 1024 = 1023 → ∃ t, exec (.selftestItemDone .collect) s = .next t ∧
    t.pwr.st = .ready ∧ t.pwr.target = .ready ∧ t.pwr.retriesUsed = 0 ∧ t.link.train ≠ .no ∧
    (s.enabled 0x13 = true → s.fb EMIT.FAULT.HAZ = false → t.fb LDB.STATUS.KA = true) ∧
    SameMemoryButQueued s t ∧ t.shadow = s.shadow ∧ t.time = s.time

/-- Automatic retry, host restart and the end of the STANDBY exit. A due retry in phase 0 or 1 passes through Power-
up: registers and shadows take their reset values but for BOOT.CAUSE, whose RETRIES is one higher, and for the words
of the ledger's boot parameters (log entry 43), and the phase is kept. One in phase 2 stays in FOLD, keeps every
register but RETRIES, and runs the STANDBY exit with TARGET at READY. BOOT.CMD restart in FOLD, other than THERMAL,
enters Power-up in phase 1 with the registers restored likewise, BOOT.CAUSE kept and a fresh budget; elsewhere it is
an error of BOOT and changes nothing else. The wake checks of a STANDBY exit, with nothing failing, make the device
READY. Under hypotheses on the state and the operands alone it concludes that exec answers a next state (each command
completes) for: automaticRetry, bootCmdRestart, wakeChecksDone. -/
def Obligations.RetriesAndRestart : Prop :=
  let restored (s t : State) : Prop :=
    (∀ a, a ∉ [BOOT.CAUSE, BOOT.PARAM, LEDGER.BOOTP, CLK.REFSEL] → t.reg a = resetWord a) ∧
    (∀ w, s.pwr.pgIo = true → s.led.bootp = some w → t.bootpReadable = true → t.reg BOOT.PARAM = w ∧ t.reg LEDGER.BOOTP = w) ∧
    (s.pwr.pgIo = false ∨ s.led.bootp = none ∨ t.bootpReadable = false → ∀ a, a ≠ BOOT.CAUSE → t.reg a = resetWord a)
  (∀ s : State, s.pwr.st = .fold → s.pwr.retryPending = true → s.f BOOT.CAUSE.PHASE ≠ 2 → ∃ t, exec .automaticRetry s = .next t ∧
    t.pwr.st = .powerUp ∧ t.pwr.step = .pgWait ∧ t.pwr.phase = s.f BOOT.CAUSE.PHASE ∧ t.pwr.retriesUsed = s.pwr.retriesUsed + 1 ∧
    t.f BOOT.CAUSE.RETRIES = satAdd 4 (s.f BOOT.CAUSE.RETRIES) 1 ∧ t.f BOOT.CAUSE.CODE = s.f BOOT.CAUSE.CODE ∧
    restored s t ∧ (∀ a, t.shad a = resetWord a) ∧ t.time = s.time ∧ t.led = s.led ∧
    (∀ a, memRegion a = 5 → t.rd a = s.rd a) ∧ t.pending = s.pending) ∧
  (∀ s : State, s.pwr.st = .fold → s.pwr.retryPending = true → s.f BOOT.CAUSE.PHASE = 2 → ∃ t, exec .automaticRetry s = .next t ∧
    t.pwr.st = .fold ∧ t.pwr.target = .ready ∧ t.pwr.exit.isSome = true ∧ (∀ d ∈ t.pwr.domains, d ≠ .off) ∧
    t.f BOOT.CAUSE.RETRIES = satAdd 4 (s.f BOOT.CAUSE.RETRIES) 1 ∧ SameWords s t [BOOT.CAUSE] ∧
    t = { s with regs := t.regs, pwr := t.pwr }) ∧
  (∀ (src : Port) (s : State), s.pwr.st = .fold → s.f BOOT.CAUSE.CODE ≠ 0x20 → ∃ t, exec (.bootCmdRestart src) s = .next t ∧
    t.pwr.st = .powerUp ∧ t.pwr.step = .pgWait ∧ t.pwr.phase = 1 ∧ t.pwr.retriesUsed = 0 ∧
    restored s t ∧ t.reg BOOT.CAUSE = s.reg BOOT.CAUSE ∧ (∀ a, t.shad a = resetWord a) ∧
    t.time = s.time ∧ t.pending = s.pending) ∧
  (∀ (src : Port) (s : State), s.pwr.st ≠ .fold → ∃ t, exec (.bootCmdRestart src) s = .next t ∧ ErrorRaised s t 0x05 (portSrc src) BOOT.CMD) ∧
  ∀ s : State, s.pwr.exit = some .checks → s.pwr.runAfterExit = false → s.pwr.st = .standby → s.enabled 0x13 = true →
    s.fb EMIT.FAULT.HAZ = false →
    (∀ n < 16, s.kitState n ≠ 7) → (∀ c < 384, s.fb (TDC.STAT.FAILED (c / 48) (c % 48)) = false) →
    (∀ a < 9, s.fb (ADC.STAT.FAILED a) = false) →
    ∃ t, exec (.wakeChecksDone ⟨[], [], []⟩ []) s = .next t ∧ t.pwr.st = .ready ∧ t.pwr.exit = none ∧ t.pwr.target = .ready ∧
      t.fb LDB.STATUS.KA = true ∧ t.f PWR.ENTRY.RESULT = 0 ∧ SameMemoryButQueued s t ∧ t.shadow = s.shadow ∧ t.time = s.time

/-- The requests READY, RUN and STANDBY. READY in RUN is taken for the next hand boundary, in READY it withdraws a RUN
request that waits, in STANDBY it starts the STANDBY exit as a host wake. RUN in READY, with both temperature steps
below CRIT and the laser not held off, waits for the first hand of the next frame; with a temperature at CRIT or the
laser held off it is refused with cause 4 or 5 in PWR.ENTRY and nothing else changes. STANDBY in READY or RUN, with no
transition under way and no level wake source active, queries the pages of the domains that go off, TAB and SUPV; in
Power-up or FOLD it is refused with cause 1. Under hypotheses on the state and the operands alone it concludes that
exec answers a next state (each command completes) for: pwrReqReady, pwrReqRun, pwrReqStandby. -/
def Obligations.PowerRequests : Prop :=
  (∀ s : State, s.pwr.st = .run → s.standbyShake = none → exec .pwrReqReady s = .next
    { s with pwr := { s.pwr with readyPending := true, target := .ready, transStart := s.mono } }) ∧
  (∀ s : State, s.pwr.st = .ready → s.standbyShake = none → exec .pwrReqReady s = .next
    { s with pwr := { s.pwr with runPending := false, target := .ready } }) ∧
  (∀ s : State, s.pwr.st = .standby → s.standbyShake = none → s.pwr.exit = none → ∃ t, exec .pwrReqReady s = .next t ∧
    t.pwr.st = .standby ∧ t.pwr.target = .ready ∧ t.pwr.exit.isSome = true ∧ (∀ d ∈ t.pwr.domains, d ≠ .off) ∧
    t.fb PWR.WAKE_SRC.HOST = true ∧ SameWords s t [PWR.WAKE_SRC] ∧ t = { s with regs := t.regs, pwr := t.pwr }) ∧
  (∀ s : State, s.pwr.st = .ready → s.standbyShake = none → s.f HK.STEP.DIE_STEP < 2 → s.f HK.STEP.LAS_STEP < 2 →
    s.fb EMIT.FAULT.HAZ = false →
    exec .pwrReqRun s = .next { s with pwr := { s.pwr with runPending := true, target := .run, transStart := s.mono } }) ∧
  (∀ s : State, s.pwr.st = .ready → s.standbyShake = none →
    2 ≤ s.f HK.STEP.DIE_STEP ∨ 2 ≤ s.f HK.STEP.LAS_STEP ∨ s.fb EMIT.FAULT.HAZ = true → ∃ t, exec .pwrReqRun s = .next t ∧
      t.f PWR.ENTRY.RESULT = 1 ∧ t.f PWR.ENTRY.PAGE = 0x02 ∧
      t.f PWR.ENTRY.CAUSE = (if 2 ≤ s.f HK.STEP.DIE_STEP ∨ 2 ≤ s.f HK.STEP.LAS_STEP then 4 else 5) ∧
      SameWords s t [PWR.ENTRY] ∧ OnlyRegs s t) ∧
  (∀ s : State, s.pwr.st = .ready ∨ s.pwr.st = .run → s.pwr.target = s.pwr.st → s.pwr.shakes = [] → s.levelWakes = 0 →
    ∃ t k, exec .pwrReqStandby s = .next t ∧ t.pwr.shakes = [k] ∧ k.standby = true ∧ k.stage = .querying ∧ k.from_ = s.pwr.st ∧
      k.doms = s.standbyDoms ∧ k.waiting = s.standbyDoms.flatMap domainPages ++ [0x48, 0x07] ∧
      t.pwr.target = .standby ∧ t.pwr.st = s.pwr.st ∧ t.time = s.time ∧ SameMemoryButQueued s t) ∧
  ∀ s : State, s.pwr.st = .powerUp ∨ s.pwr.st = .fold → ∃ t, exec .pwrReqStandby s = .next t ∧
    t.f PWR.ENTRY.RESULT = 1 ∧ t.f PWR.ENTRY.PAGE = 0x02 ∧ t.f PWR.ENTRY.CAUSE = 1 ∧ SameWords s t [PWR.ENTRY] ∧ OnlyRegs s t

/-- The switch-off handshake of domains. Setting the off request of one of SCAN to BANK in READY, with the domain on
and in no handshake, queries the pages of that domain; in RUN it is refused for SCAN, AFE, TDC and HIST with cause
STATE. The answer of the last queried page opens the commit window; SUPV refuses a STANDBY entry while an image swap
or an activation is in progress, and the blocks resume. A page forced off is recorded, and so is an aborted transfer
with the address it had reached. When the window has passed, a lone domain is off, and after a STANDBY entry that
nothing has woken meanwhile the device is in STANDBY with its domains off and TX in electrical idle. A domain that an
access woke in STANDBY is queried again when it has been idle. Under hypotheses on the state and the operands alone it
concludes that exec answers a next state (each command completes) for: standbyBlockAnswer, standbyBlockForced,
standbySwitchOffDone, domainOffReqWrite, accessIdleTimeout. -/
def Obligations.SwitchOffHandshake : Prop :=
  (∀ (d : Fin 9) (s : State), 1 ≤ d.val → d.val ≤ 7 → s.pwr.st = .ready → s.f PWR.DOMAIN.OFF_REQ = 0 → s.dom d.val = .on →
    s.pwr.shakes = [] → ∃ t k, exec (.domainOffReqWrite (.domains (BitVec.ofNat 9 (2 ^ d.val)))) s = .next t ∧
      t.f PWR.DOMAIN.OFF_REQ = 2 ^ d.val ∧ t.pwr.shakes = [k] ∧ k.standby = false ∧ k.doms = [d.val] ∧
      k.waiting = domainPages d.val ∧ k.stage = .querying ∧ t.pwr.st = .ready ∧ t.time = s.time ∧ SameMemoryButQueued s t) ∧
  (∀ (d : Nat) (p : Fin 256) (s : State), d ∈ [1, 2, 3, 5] → assigned p.val = true → pageDomain p.val = d → s.pwr.st = .run →
    s.offReq d = false → ∃ t, exec (.domainOffReqWrite (.page p true)) s = .next t ∧ t.f PWR.ENTRY.RESULT = 1 ∧
      t.f PWR.ENTRY.CAUSE = 1 ∧ SameWords s t [PWR.ENTRY] ∧ OnlyRegs s t) ∧
  (∀ (p : Fin 256) (k : Shake) (s : State), s.pwr.shakes = [k] → k.stage = .querying → k.waiting = [p.val] →
    p.val ∉ [0x07, 0x13, 0x3A, 0x40, 0x41, 0x42, 0x43, 0x48] →
    ∃ t, exec (.standbyBlockAnswer p none) s = .next t ∧
      t = { s with pwr := { s.pwr with shakes := [{ k with waiting := [], stage := .window s.mono }] } }) ∧
  (∀ (p : Fin 256) (k : Shake) (s : State), s.pwr.shakes = [k] → k.stage = .querying → k.waiting = [p.val] →
    p.val ∉ [0x13, 0x3A, 0x40, 0x41, 0x42, 0x43, 0x48] →
    ∃ t, exec (.standbyBlockForced p none) s = .next t ∧
      t = { s with pwr := { s.pwr with shakes := [{ k with waiting := [], forced := some p.val, stage := .window s.mono }] } }) ∧
  (∀ (p : Fin 256) (a : BitVec 24) (k : Shake) (s : State), s.pwr.shakes = [k] → k.stage = .querying → k.waiting = [p.val] →
    p.val ∉ [0x07, 0x13, 0x3A, 0x40, 0x41, 0x42, 0x43, 0x48] →
    ∃ t, exec (.standbyBlockAnswer p (some a)) s = .next t ∧
      t.pwr.shakes = [{ k with waiting := [], aborted := some p.val, stage := .window s.mono }] ∧
      (p.val, a.toNat) ∈ t.pwr.moverAborts ∧ (memRegion a.toNat ≠ 4 → t.regs = s.regs) ∧ t.pwr.st = s.pwr.st ∧
      (memRegion a.toNat = 4 → t.fb (BANK.OWN.OPEN ((a.toNat - 0x400000) / 0x10000)) = false ∧
        SameWords s t [BANK.OWN ((a.toNat - 0x400000) / 0x10000)]) ∧ t = { s with regs := t.regs, pwr := t.pwr }) ∧
  (∀ (ab : Option (BitVec 24)) (k : Shake) (s : State), s.pwr.shakes = [k] → k.stage = .querying → 0x07 ∈ k.waiting →
    k.standby = true → s.img.activating = true ∨ s.img.swapping = true → ∃ t, exec (.standbyBlockAnswer 0x07 ab) s = .next t ∧
      t.pwr.shakes = [] ∧ t.pwr.target = k.from_ ∧ t.pwr.st = s.pwr.st ∧ t.f PWR.ENTRY.RESULT = 1 ∧
      t.f PWR.ENTRY.CAUSE = 3 ∧ t.f PWR.ENTRY.PAGE = 0x07 ∧ t.time = s.time ∧ SameMemoryButQueued s t) ∧
  (∀ (k : Shake) (n d : Nat) (s : State), s.pwr.shakes = [k] → k.stage = .window n → k.standby = false → k.doms = [d] →
    d ∈ [2, 3] → s.offReq d = true → d < s.pwr.domains.length → k.forced = none → k.aborted = none → s.pwr.wakeAfter = [] →
    ∃ t, exec .standbySwitchOffDone s = .next t ∧ t.dom d = .off ∧ t.pwr.shakes = [] ∧ t.pwr.st = s.pwr.st ∧ t.time = s.time ∧
      SameMemory s t ∧ SameWords s t [] ∧ ∀ e, e ≠ d → t.dom e = s.dom e) ∧
  (∀ (k : Shake) (n : Nat) (s : State), s.pwr.shakes = [k] → k.stage = .window n → k.standby = true → (∀ d ∈ k.doms, d < 9) →
    s.pwr.domains.length = 9 → s.pwr.wakeKept = 0 → s.levelWakes = 0 → s.pwr.wakeAfter = [] →
    s.pwr.st = .ready ∨ s.pwr.st = .run → s.fb PWR.WAKE_CFG.IRQ_EN = false → ∃ t, exec .standbySwitchOffDone s = .next t ∧
      t.pwr.st = .standby ∧ t.pwr.target = .standby ∧ t.pwr.shakes = [] ∧ (∀ d ∈ k.doms, t.dom d = .off) ∧
      (∀ d, d ∉ k.doms → t.dom d = s.dom d) ∧ t.link.train = .no ∧ t.fb TAB.STATUS.LINK_UP = false ∧ t.deal.cur = none ∧
      t.time = s.time ∧ ∀ a, memRegion a ∉ [3, 4] → (∀ e ∈ s.ldb.fwd, a ≠ 0xA00000 + 0x20 * e.1) → t.rd a = s.rd a) ∧
  ∀ (d : Fin 9) (s : State), s.pwr.st = .standby → s.pwr.exit = none → s.pwr.accessOn.contains d.val = true → s.dom d.val = .on →
    s.pwr.shakes = [] → ∃ t k, exec (.accessIdleTimeout d) s = .next t ∧ t.pwr.shakes = [k] ∧ k.doms = [d.val] ∧
      k.waiting = domainPages d.val ∧ k.stage = .querying ∧ t.pwr.st = .standby ∧ t.time = s.time ∧ SameMemoryButQueued s t

/-- Wake sources and domains that become ready. In STANDBY with no exit under way, a change of WAKE to its active
level with WAKE_EN set, RX activity with RX_EN set and a falling SPI_CS_N with CS_EN set each start the STANDBY exit:
the source is recorded in PWR.WAKE_SRC, TARGET reads READY and the switches of all off domains close. Each also has
its own effect where it wakes nothing: the level of WAKE and the lane's signal are noted, and SPI_CS_N begins a frame
in the mode of the SCK level. A waking domain becomes ready, and stays on where no off request for it waits in READY
or RUN; the last one of an exit opens its wake checks. One whose off request was set while it woke is queried at once.
Under hypotheses on the state and the operands alone it concludes that exec answers a next state (each command
completes) for: wakePinEvent, rxActivity, spiCsFall, domainReady. -/
def Obligations.WakeSources : Prop :=
  let exits (s t : State) (bit : Fld) : Prop :=
    t.pwr.st = .standby ∧ t.pwr.target = .ready ∧ t.pwr.exit.isSome = true ∧ (∀ d ∈ t.pwr.domains, d ≠ .off) ∧
    t.fb bit = true ∧ SameWords s t [PWR.WAKE_SRC] ∧
    t = { s with regs := t.regs, pwr := t.pwr, link := t.link, host := t.host } ∧
    t.link = { s.link with present := t.link.present } ∧
    t.host = { s.host with csLow := t.host.csLow, spiMode := t.host.spiMode, spiAborted := t.host.spiAborted }
  (∀ (high : Bool) (s : State), s.pwr.st = .standby → s.pwr.exit = none → s.standbyShake = none →
    s.fb PWR.WAKE_CFG.WAKE_EN = true → s.pwr.wakePin = !high → s.fb PWR.WAKE_CFG.WAKE_POL = !high →
    ∃ t, exec (.wakePinEvent high) s = .next t ∧ t.pwr.wakePin = high ∧ exits s t PWR.WAKE_SRC.WAKE) ∧
  (∀ (high : Bool) (s : State), s.fb PWR.WAKE_CFG.WAKE_EN = false →
    exec (.wakePinEvent high) s = .next { s with pwr := { s.pwr with wakePin := high } }) ∧
  (∀ (lane : RxLane) (s : State), s.pwr.st = .standby → s.pwr.exit = none → s.standbyShake = none →
    s.fb PWR.WAKE_CFG.RX_EN = true → s.link.present.contains (laneNo lane) = false →
    ∃ t, exec (.rxActivity lane) s = .next t ∧ t.link.present = laneNo lane :: s.link.present ∧ exits s t PWR.WAKE_SRC.RX) ∧
  (∀ (lane : RxLane) (s : State), s.pwr.st ≠ .unpowered → s.fb PWR.WAKE_CFG.RX_EN = false → s.link.present.contains (laneNo lane) = false →
    exec (.rxActivity lane) s = .next { s with link := { s.link with present := laneNo lane :: s.link.present } }) ∧
  (∀ (sck : Bool) (s : State), s.pwr.st = .standby → s.pwr.exit = none → s.standbyShake = none →
    s.fb PWR.WAKE_CFG.CS_EN = true → ∃ t, exec (.spiCsFall sck) s = .next t ∧ t.host.csLow = true ∧
      t.host.spiMode = (if sck then 3 else 0) ∧ exits s t PWR.WAKE_SRC.CS) ∧
  (∀ (sck : Bool) (s : State), s.pwr.st ≠ .unpowered → s.fb PWR.WAKE_CFG.CS_EN = false → exec (.spiCsFall sck) s = .next
    { s with host := { s.host with csLow := true, spiMode := if sck then 3 else 0, spiAborted := false } }) ∧
  (∀ (d : Fin 9) (s : State), d.val ∈ [2, 3, 6, 7] → s.dom d.val = .waking → d.val < s.pwr.domains.length →
    s.host.queue = [] → s.offReq d.val = false ∨ (s.pwr.st ≠ .ready ∧ s.pwr.st ≠ .run) →
    ∃ t, exec (.domainReady d) s = .next t ∧ t.dom d.val = .on ∧
      t.pwr.exit = (if s.pwr.exit = some .switching ∧ t.pwr.domains.all (· == DomState.on) = true then some .checks else s.pwr.exit) ∧
      t = { s with pwr := t.pwr } ∧ ∀ e, e ≠ d.val → t.dom e = s.dom e) ∧
  ∀ (d : Fin 9) (s : State), d.val ∈ [2, 3, 6, 7] → s.dom d.val = .waking → d.val < s.pwr.domains.length → s.host.queue = [] →
    s.pwr.exit = none → s.pwr.shakes = [] → s.pwr.st = .ready ∨ s.pwr.st = .run → s.offReq d.val = true →
    ∃ t k, exec (.domainReady d) s = .next t ∧ t.dom d.val = .on ∧ t.pwr.shakes = [k] ∧ k.standby = false ∧ k.doms = [d.val] ∧
      k.waiting = domainPages d.val ∧ k.stage = .querying ∧ t.pwr.st = s.pwr.st ∧ SameMemoryButQueued s t

/-- Droop slowing, and loss, holdover, relock and preference of the reference clock. On the PLL, the first sensor
below the threshold slows FCLK and counts; with it slowed, BELOW follows the sensors that read below now. With FCLK
slowed, 8 µs hold further hands and 1 ms raises DROOP_LONG. Recovery ends both and keeps the longest time. CLEAR
zeroes the counts. With the PLL locked, the loss of the active reference clears its PRESENT bit and LOCK, sets
HOLDOVER and raises its event. In holdover a relock to an input that the PLL may take locks again; one to the other
input makes it active, counts a switchover with its duration and raises REF_SWITCH. A write of PREF that names the
other, present input while locked in READY or RUN starts a switch. The loss of the inactive reference clears its
PRESENT bit and calls off such a switch. Under hypotheses on the state and the operands alone it concludes that exec
answers a next state (each command completes) for: droopOnset, droopRecovery, droopHandsHeld, droopLong, clkDroopClr,
refclkLost, pllRelock, clkPrefWrite, refclkInactiveLost. -/
def Obligations.ClockDisturbances : Prop :=
  let present (s : State) (i : Nat) : Bool := if i = 0 then s.fb CLK.REFSEL.A_PRESENT else s.fb CLK.REFSEL.B_PRESENT
  (∀ (sensors : BitVec 8) (s : State), sensors ≠ 0 → s.onPll = true → s.fb CLK.DROOP.SLOWED = false →
    ∃ t, exec (.droopOnset sensors) s = .next t ∧ t.fb CLK.DROOP.SLOWED = true ∧
      t.f CLK.DROOP.EVENTS = satAdd 16 (s.f CLK.DROOP.EVENTS) 1 ∧ t.f CLK.DROOP.BELOW = sensors.toNat ∧
      t.fb CLK.DROOP.HANDS_HELD = s.fb CLK.DROOP.HANDS_HELD ∧ SameWords s t [CLK.DROOP] ∧
      t = { s with regs := t.regs, pwr := { s.pwr with droopStart := some s.mono, droopLong := false } }) ∧
  (∀ (sensors : BitVec 8) (s : State), s.onPll = true → s.fb CLK.DROOP.SLOWED = true →
    ∃ t, exec (.droopOnset sensors) s = .next t ∧ t.fb CLK.DROOP.SLOWED = true ∧ t.f CLK.DROOP.EVENTS = s.f CLK.DROOP.EVENTS ∧
      t.f CLK.DROOP.BELOW = sensors.toNat ∧ SameWords s t [CLK.DROOP] ∧ OnlyRegs s t) ∧
  (∀ s : State, s.fb CLK.DROOP.SLOWED = true → ∃ t, exec .droopHandsHeld s = .next t ∧ t.fb CLK.DROOP.HANDS_HELD = true ∧
      t.fb CLK.DROOP.SLOWED = true ∧ t.f CLK.DROOP.EVENTS = s.f CLK.DROOP.EVENTS ∧ t.f CLK.DROOP.BELOW = s.f CLK.DROOP.BELOW ∧
      SameWords s t [CLK.DROOP] ∧ OnlyRegs s t) ∧
  (∀ s : State, s.fb CLK.DROOP.SLOWED = true → ∃ t, exec .droopLong s = .next t ∧ Raised s t 0x01 3 ∧ t.pwr.droopLong = true ∧
      SameWords s t [hdr 0x01 3] ∧ t = { s with regs := t.regs, pwr := { s.pwr with droopLong := true }, host := t.host, link := t.link } ∧
      t.host = { s.host with merges := t.host.merges } ∧ t.link = { s.link with qB := t.link.qB, seqs := t.link.seqs }) ∧
  (∀ (n : Nat) (s : State), s.pwr.droopStart = some n → ∃ t, exec .droopRecovery s = .next t ∧
      t.fb CLK.DROOP.SLOWED = false ∧ t.fb CLK.DROOP.HANDS_HELD = false ∧ t.f CLK.DROOP.BELOW = 0 ∧
      t.f CLK.DROOP.EVENTS = s.f CLK.DROOP.EVENTS ∧
      t.f CLK.DROOP_STAT.LONGEST = max (s.f CLK.DROOP_STAT.LONGEST) (min ((s.mono - n) / 1000) 0xFFFF) ∧
      t.f CLK.DROOP_STAT.HANDS_SKIPPED = s.f CLK.DROOP_STAT.HANDS_SKIPPED ∧ SameWords s t [CLK.DROOP, CLK.DROOP_STAT] ∧
      t = { s with regs := t.regs, pwr := { s.pwr with droopStart := none, droopLong := false } }) ∧
  (∀ s : State, ∃ t, exec .clkDroopClr s = .next t ∧ t.f CLK.DROOP.EVENTS = 0 ∧ t.f CLK.DROOP_STAT.HANDS_SKIPPED = 0 ∧
      t.f CLK.DROOP_STAT.LONGEST = 0 ∧ t.f CLK.REFSTAT.SWITCHES = 0 ∧ t.f CLK.REFSTAT.LAST_US = s.f CLK.REFSTAT.LAST_US ∧
      t.fb CLK.DROOP.SLOWED = s.fb CLK.DROOP.SLOWED ∧ t.fb CLK.DROOP.HANDS_HELD = s.fb CLK.DROOP.HANDS_HELD ∧
      t.f CLK.DROOP.BELOW = s.f CLK.DROOP.BELOW ∧ SameWords s t [CLK.DROOP, CLK.DROOP_STAT, CLK.REFSTAT] ∧ OnlyRegs s t) ∧
  (∀ s : State, s.fb CLK.REFSEL.LOCK = true → ∃ t, exec .refclkLost s = .next t ∧ t.fb CLK.REFSEL.LOCK = false ∧
    t.fb CLK.REFSEL.HOLDOVER = true ∧ t.f CLK.REFSEL.ACTIVE = s.f CLK.REFSEL.ACTIVE ∧ present t (s.f CLK.REFSEL.ACTIVE) = false ∧
    present t (1 - s.f CLK.REFSEL.ACTIVE) = present s (1 - s.f CLK.REFSEL.ACTIVE) ∧ Raised s t 0x01 2 ∧
    t.pwr = { s.pwr with holdStart := some s.mono, switchStart := none } ∧ SameWords s t [CLK.REFSEL, hdr 0x01 3] ∧
    SameMemory s t ∧ t.shadow = s.shadow ∧ t.time = s.time) ∧
  (∀ (toB : Bool) (n : Nat) (s : State), s.pwr.holdStart = some n → s.mayRelock (if toB then 1 else 0) = true →
    ∃ t, exec (.pllRelock toB) s = .next t ∧ t.fb CLK.REFSEL.LOCK = true ∧ t.fb CLK.REFSEL.HOLDOVER = false ∧
      t.f CLK.REFSEL.ACTIVE = (if toB then 1 else 0) ∧ t.pwr = { s.pwr with holdStart := none } ∧
      (s.f CLK.REFSEL.ACTIVE = (if toB then 1 else 0) → SameWords s t [CLK.REFSEL]) ∧
      (s.f CLK.REFSEL.ACTIVE ≠ (if toB then 1 else 0) → Raised s t 0x01 1 ∧
        t.f CLK.REFSTAT.SWITCHES = satAdd 16 (s.f CLK.REFSTAT.SWITCHES) 1 ∧
        t.f CLK.REFSTAT.LAST_US = min ((s.mono - n) / 10000) 0xFFFF ∧ SameWords s t [CLK.REFSEL, CLK.REFSTAT, hdr 0x01 3]) ∧
      SameMemory s t ∧ t.shadow = s.shadow ∧ t.time = s.time) ∧
  (∀ (pref : Bool) (s : State), s.pwr.st = .ready ∨ s.pwr.st = .run → s.fb CLK.REFSEL.LOCK = true →
    (if pref then 1 else 0) ≠ s.f CLK.REFSEL.ACTIVE → present s (if pref then 1 else 0) = true →
    ∃ t, exec (.clkPrefWrite pref) s = .next t ∧ t.fb CLK.REFSEL.PREF = pref ∧ t.fb CLK.REFSEL.LOCK = true ∧
      t.f CLK.REFSEL.ACTIVE = s.f CLK.REFSEL.ACTIVE ∧ SameWords s t [CLK.REFSEL] ∧
      t = { s with regs := t.regs, pwr := { s.pwr with switchStart := some s.mono } }) ∧
  ∀ s : State, s.pwr.st ≠ .unpowered → ∃ t, exec .refclkInactiveLost s = .next t ∧
    present t (1 - s.f CLK.REFSEL.ACTIVE) = false ∧ present t (s.f CLK.REFSEL.ACTIVE) = present s (s.f CLK.REFSEL.ACTIVE) ∧
    t.f CLK.REFSEL.ACTIVE = s.f CLK.REFSEL.ACTIVE ∧ t.fb CLK.REFSEL.LOCK = s.fb CLK.REFSEL.LOCK ∧ SameWords s t [CLK.REFSEL] ∧
    t = { s with regs := t.regs, pwr := { s.pwr with switchStart := none } }

/-- Some register words read 0, the others as before, and nothing else has changed. -/
def WordsZeroed (s t : State) (ws : List Nat) : Prop := (∀ a, t.reg a = if a ∈ ws then 0 else s.reg a) ∧ OnlyRegs s t

/-- Some fields read 0, every bit outside them as before, and nothing else has changed. -/
def FieldsZeroed (s t : State) (xs : List Fld) : Prop :=
  (∀ x ∈ xs, t.f x = 0) ∧
  (∀ a lo w, (∀ x ∈ xs, x.addr ≠ a ∨ lo + w ≤ x.lo ∨ x.lo + x.width ≤ lo) → t.f ⟨a, lo, w⟩ = s.f ⟨a, lo, w⟩) ∧ OnlyRegs s t

/-- Every counter clear clears its counts and nothing else. Each CNT_CLR command, and ERR_COUNT.CLEAR of an assigned
page, clears exactly the counts of its page that the register tables name: all other register words, or the other bits
of the words, stay, and so does everything else. Under hypotheses on the state and the operands alone it concludes
that exec answers a next state (each command completes) for: errCountClear, hostCntClr, dealCntClr, emitCntClr,
ldbCntClr, steerCntClr, afeCntClr, tdcCntClr, kittyCntClr, histCntClr, rejCntClr, pntCntClr, acqCntClr, adcCntClr,
camCntClr, zoneCntClr, tabCntClr, bankCntClr, supvCntClr, safeCntClr, hkCntClr. -/
def Obligations.CounterClears : Prop :=
  (∀ s : State,
    (∃ t, exec .hostCntClr s = .next t ∧ WordsZeroed s t [HOST.SPI_ERR, HOST.IB_ERR]) ∧
    (∃ t, exec .dealCntClr s = .next t ∧
      WordsZeroed s t [DEAL.FIRED, DEAL.DENIED, DEAL.THROTTLED, DEAL.LOST, DEAL.BIDS, DEAL.SHORT]) ∧
    (∃ t, exec .emitCntClr s = .next t ∧ WordsZeroed s t [EMIT.DENY]) ∧
    (∃ t, exec .ldbCntClr s = .next t ∧ WordsZeroed s t [LDB.ERR_CNT]) ∧
    (∃ t, exec .steerCntClr s = .next t ∧ FieldsZeroed s t [STEER.SYNC_CNT.GLITCH, STEER.SYNC_CNT.LOST,
      STEER.PLAUS_CNT.CLEARS, STEER.PLAUS_CNT.UNCERTAINS, STEER.STAT.MISSES 0, STEER.STAT.MISSES 1]) ∧
    (∃ t, exec .kittyCntClr s = .next t ∧ WordsZeroed s t [KITTY.DUMMY_CNT]) ∧
    (∃ t, exec .histCntClr s = .next t ∧
      WordsZeroed s t [HIST.LATE, HIST.DUMP_CNT, HIST.RAW_DROP, HIST.PLACE_MAX, HIST.DRAIN]) ∧
    (∃ t, exec .rejCntClr s = .next t ∧ WordsZeroed s t [REJ.CNT_A, REJ.CNT_B, REJ.CNT_C, REJ.SUN_CNT, REJ.LAT]) ∧
    (∃ t, exec .pntCntClr s = .next t ∧ WordsZeroed s t [PNT.CNT_A, PNT.CNT_B, PNT.CNT_C, PNT.LAT]) ∧
    (∃ t, exec .acqCntClr s = .next t ∧ (∀ a, t.reg a = if a ∈ [ACQ.CNT_A, ACQ.CNT_B, ACQ.CNT_C] then 0 else s.reg a) ∧
      (s.acq.late = none → t.acq = s.acq) ∧ t.acq = { s.acq with late := t.acq.late } ∧ t = { s with regs := t.regs, acq := t.acq }) ∧
    (∃ t, exec .adcCntClr s = .next t ∧ FieldsZeroed s t ((List.range 9).map ADC.STAT.OR_CNT)) ∧
    (∃ t, exec .zoneCntClr s = .next t ∧ WordsZeroed s t [ZONE.DROP]) ∧
    (∃ t, exec .tabCntClr s = .next t ∧
      WordsZeroed s t [TAB.PRBS_ERR 0, TAB.PRBS_ERR 1, TAB.DROP, TAB.RX_CNT, TAB.LINK_CNT]) ∧
    (∃ t, exec .bankCntClr s = .next t ∧ (∀ a, a ≠ BANK.RECLAIM → t.reg a = if a ∈ [BANK.ECC_CNT, BANK.DROP] then 0 else s.reg a) ∧
      t.f BANK.RECLAIM.COUNT = 0 ∧ t.f BANK.RECLAIM.DISCARDED = s.f BANK.RECLAIM.DISCARDED ∧ OnlyRegs s t) ∧
    (∃ t, exec .supvCntClr s = .next t ∧ WordsZeroed s t [SUPV.CMP]) ∧
    (∃ t, exec .safeCntClr s = .next t ∧ WordsZeroed s t [SAFE.CNT]) ∧
    ∃ t, exec .hkCntClr s = .next t ∧ WordsZeroed s t ((List.range 10).map HK.SUP)) ∧
  (∀ (k : Fin 8) (s : State),
    (∃ t, exec (.afeCntClr k) s = .next t ∧ FieldsZeroed s t ((List.range 48).map (AFE.STAT.EDGES k.val))) ∧
    ∃ t, exec (.tdcCntClr k) s = .next t ∧
      WordsZeroed s t (TDC.ARMX_CNT k.val :: ((List.range 48).map (TDC.CNT k.val) ++ (List.range 48).map (TDC.EVENTS k.val)))) ∧
  (∀ (k : Fin 4) (s : State), ∃ t, exec (.camCntClr k) s = .next t ∧
    WordsZeroed s t [CAM.ERR_A k.val, CAM.ERR_B k.val, CAM.ERR_C k.val]) ∧
  (∀ (p : Fin 256) (s : State), assigned p.val = true → ∃ t, exec (.errCountClear p) s = .next t ∧ WordsZeroed s t [hdr p.val 7]) ∧
  ∀ (p : Fin 256) (s : State), assigned p.val = false → exec (.errCountClear p) s = .next s

/-- A device heartbeat stamped with the TIME of `t` has been queued last in class A where the link is up in `s`, and nothing
otherwise (R333, R343). -/
def HeartbeatQueued (s t : State) : Prop :=
  (s.fb TAB.STATUS.LINK_UP = true → ∃ p, t.link.qA = s.link.qA ++ [p] ∧ p.dt = 0x3F ∧ p.vc = 10 ∧ p.stamp = t.time / 10) ∧
  (s.fb TAB.STATUS.LINK_UP = false → t.link.qA = s.link.qA)

/-- TIME has been set to `v` tenths of ns (R107): SETS and the TIME SET event, no set waits, a heartbeat where the link is up. -/
def TimeSetTo (s t : State) (v : Nat) : Prop :=
  t.time = v % (10 * 2 ^ 64) ∧ t.timeSet = none ∧ t.f TIME.STAT.SETS = satAdd 16 (s.f TIME.STAT.SETS) 1 ∧
  Raised s t 0x06 0 ∧ HeartbeatQueued s t ∧ t.mono = s.mono ∧ t.shadow = s.shadow ∧ SameMemory s t ∧ t.pwr = s.pwr ∧ t.deal = s.deal

/-- TIME set and offset by register and by packet. TIME.CMD 1 makes TIME the value of SET_HI and SET_LO in ns, 3 adds
it as a signed number modulo 2^64 ns, 2 keeps it for a SYNC_IN edge in place of a set that waits; a time-set packet
that is accepted does the same with its VALUE, MODE 0 adding the time since its SOP. Each set that takes effect counts
in TIME.STAT.SETS, raises TIME SET and queues a heartbeat with the new TIME where the link is up; one by packet also
raises bit 9 of TAB and queues a KIND 0x02 event packet stamped with the TIME before. An accepted packet with MODE 3
counts in BAD_DT, and one that is not accepted has no effect. Under hypotheses on the state and the operands alone it
concludes that exec answers a next state (each command completes) for: timeCmdSet, timeCmdSetAtSync, timeCmdOffset,
timeSetNow, timeSetAtSyncPacket, timeOffsetPacket, timeSetInvalid. -/
def Obligations.TimeCommands : Prop :=
  (∀ s : State, ∃ t, exec .timeCmdSet s = .next t ∧
    TimeSetTo s t (10 * (s.f TIME.SET_HI.VALUE * 2 ^ 32 + s.f TIME.SET_LO.VALUE)) ∧ SameWords s t [TIME.STAT, hdr 0x06 3]) ∧
  (∀ s : State, ∃ t, exec .timeCmdOffset s = .next t ∧
    TimeSetTo s t (s.time + 10 * (s.f TIME.SET_HI.VALUE * 2 ^ 32 + s.f TIME.SET_LO.VALUE)) ∧ SameWords s t [TIME.STAT, hdr 0x06 3]) ∧
  (∀ s : State, exec .timeCmdSetAtSync s = .next
    { s with timeSet := some { value := s.f TIME.SET_HI.VALUE * 2 ^ 32 + s.f TIME.SET_LO.VALUE, packet := false } }) ∧
  (∀ (rx : RxInfo) (v : BitVec 64) (el : Nat) (s : State), (s.accept rx).2 = true → ∃ t e,
    exec (.timeSetNow rx v el) s = .next t ∧ TimeSetTo (s.accept rx).1 t (10 * v.toNat + el) ∧ e ∈ t.link.qB ∧
    e.dt = 0x39 ∧ e.stamp = s.time / 10 ∧ e.payload = [w36 (0x02 * 2 ^ 24)] ++ halves (s.time / 10) ++ halves (t.time / 10) ∧
    Raised (s.accept rx).1 t 0x48 9 ∧ SameWords (s.accept rx).1 t [TIME.STAT, hdr 0x06 3, hdr 0x48 3]) ∧
  (∀ (rx : RxInfo) (v : BitVec 64) (s : State), (s.accept rx).2 = true → ∃ t e,
    exec (.timeOffsetPacket rx v) s = .next t ∧ TimeSetTo (s.accept rx).1 t (s.time + 10 * v.toNat) ∧ e ∈ t.link.qB ∧
    e.dt = 0x39 ∧ e.stamp = s.time / 10 ∧ e.payload = [w36 (0x02 * 2 ^ 24 + 2)] ++ halves (s.time / 10) ++ halves (t.time / 10) ∧
    Raised (s.accept rx).1 t 0x48 9 ∧ SameWords (s.accept rx).1 t [TIME.STAT, hdr 0x06 3, hdr 0x48 3]) ∧
  (∀ (rx : RxInfo) (v : BitVec 64) (s : State), (s.accept rx).2 = true → exec (.timeSetAtSyncPacket rx v) s = .next
    { (s.accept rx).1 with timeSet := some { value := v.toNat, packet := true } }) ∧
  (∀ (rx : RxInfo) (s : State), (s.accept rx).2 = true → ∃ t, exec (.timeSetInvalid rx) s = .next t ∧
    t.f TAB.RX_CNT.BAD_DT = satAdd 8 ((s.accept rx).1.f TAB.RX_CNT.BAD_DT) 1 ∧ SameWords (s.accept rx).1 t [TAB.RX_CNT] ∧
    OnlyRegs (s.accept rx).1 t) ∧
  ∀ (rx : RxInfo) (v : BitVec 64) (el : Nat) (s : State), (s.accept rx).2 = false →
    exec (.timeSetNow rx v el) s = .next s ∧ exec (.timeSetAtSyncPacket rx v) s = .next s ∧
    exec (.timeOffsetPacket rx v) s = .next s ∧ exec (.timeSetInvalid rx) s = .next s

/-- SPI write and read frames. In a state in which SPI answers and has not aborted: a complete write frame with the
right CRC-8, WRITE in OP and words within banks whose owner is free or the host writes exactly those words and ends
with OK in HOST.LAST; a read frame of words of one register page returns their values with parity, OK and the CRC-8
over command, address, early status and words, and changes nothing but HOST.LAST and what the port holds. A write
frame with a wrong CRC-8 counts and ends with CRC_ERR; with a good one, a wrong OP, an address range that R81 forbids,
or an address that FOLD does not serve end with their status; none of these writes a word. An access to a domain that
is off in READY or RUN ends with WAIT and switches it on. A frame cut short counts in TRUNC, and 1 ms without a clock
edge in TIMEOUT, after which the port ignores SCK until SPI_CS_N rises. Under hypotheses on the state and the operands
alone it concludes that exec answers a next state (each command completes) for: spiWriteFrame, spiReadFrame,
spiTimeout. -/
def Obligations.SpiFrames : Prop :=
  (∀ (cmd : BitVec 8) (addr : BitVec 24) (ws : List Word36) (crc : BitVec 8) (s : State), s.spiTaken = true → cmd.toNat / 64 = 1 →
    ws.length = cmd.toNat % 64 + 1 → crc.toNat = crc8 (crcHead cmd addr ++ crcData ws) →
    (∀ i < ws.length, memRegion (addr.toNat + i) = 4 ∧ s.owner ((addr.toNat + i - 0x400000) / 0x10000) < 2) →
    s.pwr.st ≠ .fold → s.mustWait addr.toNat = false →
    ∃ t, exec (.spiWriteFrame cmd addr ws (some crc)) s = .next t ∧ t.f HOST.LAST.SPI_STATUS = 0x80 ∧
      (∀ i < ws.length, t.rd (addr.toNat + i) = ws.getD i 0) ∧
      (∀ b, b < addr.toNat ∨ addr.toNat + ws.length ≤ b → t.rd b = s.rd b) ∧
      SameWords s t [HOST.LAST] ∧ t.shadow = s.shadow ∧ t.time = s.time ∧ t.pwr = s.pwr ∧ t.host.csLow = false) ∧
  (∀ (cmd : BitVec 8) (addr : BitVec 24) (late : List Nat) (s : State), s.spiTaken = true → cmd.toNat / 64 = 2 → addr.toNat < 0x40000 →
    addr.toNat % 0x400 + cmd.toNat % 64 < 0x400 →
    (s.pwr.st = .fold → assigned (addr.toNat / 0x400) = true ∧ pageDomain (addr.toNat / 0x400) = 0) → s.mustWait addr.toNat = false →
    ∃ t, exec (.spiReadFrame cmd addr late) s = .next t ∧ t.f HOST.LAST.SPI_STATUS = 0x80 ∧
      t.host.spiData = (List.range (cmd.toNat % 64 + 1)).map (fun i => withParity (s.view (addr.toNat + i))) ∧ t.host.spiEarly = 0x80 ∧
      t.host.spiCrc = crc8 (crcHead cmd addr ++ [(0x80, 8)] ++ crcData t.host.spiData) ∧
      SameWords s t [HOST.LAST] ∧ t = { s with regs := t.regs, host := t.host }) ∧
  (∀ (cmd : BitVec 8) (addr : BitVec 24) (ws : List Word36) (crc : BitVec 8) (s : State), s.spiTaken = true → cmd.toNat / 64 = 1 →
    ws.length = cmd.toNat % 64 + 1 → crc.toNat ≠ crc8 (crcHead cmd addr ++ crcData ws) → badRange addr.toNat ws.length = false →
    s.foldRefuses addr.toNat = false → s.mustWait addr.toNat = false →
    ∃ t, exec (.spiWriteFrame cmd addr ws (some crc)) s = .next t ∧ t.f HOST.LAST.SPI_STATUS = 0x82 ∧
      t.f HOST.SPI_ERR.CRC = satAdd 8 (s.f HOST.SPI_ERR.CRC) 1 ∧ SameWords s t [HOST.LAST, HOST.SPI_ERR] ∧
      t = { s with regs := t.regs, host := { s.host with csLow := false, spiAborted := false } }) ∧
  (∀ (cmd : BitVec 8) (addr : BitVec 24) (ws : List Word36) (crc : BitVec 8) (s : State), s.spiTaken = true →
    ws.length = cmd.toNat % 64 + 1 → crc.toNat = crc8 (crcHead cmd addr ++ crcData ws) →
    cmd.toNat / 64 ≠ 1 ∨ badRange addr.toNat ws.length = true ∨ s.foldRefuses addr.toNat = true →
    ∃ t, exec (.spiWriteFrame cmd addr ws (some crc)) s = .next t ∧
      t.f HOST.LAST.SPI_STATUS = (if cmd.toNat / 64 ≠ 1 then 0x83 else if badRange addr.toNat ws.length then 0x84 else 0x86) ∧
      SameWords s t [HOST.LAST] ∧ t = { s with regs := t.regs, host := { s.host with csLow := false, spiAborted := false } }) ∧
  (∀ (cmd : BitVec 8) (addr : BitVec 24) (late : List Nat) (s : State), s.spiTaken = true → cmd.toNat / 64 = 2 →
    badRange addr.toNat (cmd.toNat % 64 + 1) = false → s.pwr.st = .ready ∨ s.pwr.st = .run → s.pwr.domains.length = 9 →
    s.dom (regionDomain addr.toNat) = .off → s.goingOff (regionDomain addr.toNat) = false →
    ∃ t, exec (.spiReadFrame cmd addr late) s = .next t ∧ t.f HOST.LAST.SPI_STATUS = 0x81 ∧ t.host.spiEarly = 0x81 ∧
      t.host.spiData = List.replicate (cmd.toNat % 64 + 1) 0 ∧ t.dom (regionDomain addr.toNat) = .waking ∧
      bitOf (t.f PWR.DOMAIN.OFF_REQ) (regionDomain addr.toNat) = false ∧ SameWords s t [HOST.LAST, PWR.DOMAIN] ∧ SameMemory s t ∧
      t.shadow = s.shadow ∧ t.time = s.time) ∧
  (∀ (cmd : BitVec 8) (addr : BitVec 24) (ws : List Word36) (s : State), s.spiTaken = true →
    ∃ t, exec (.spiWriteFrame cmd addr ws none) s = .next t ∧ t.f HOST.SPI_ERR.TRUNC = satAdd 8 (s.f HOST.SPI_ERR.TRUNC) 1 ∧
      SameWords s t [HOST.SPI_ERR] ∧ t = { s with regs := t.regs, host := { s.host with csLow := false, spiAborted := false } }) ∧
  ∀ s : State, s.spiAnswers = true → s.host.csLow = true → s.host.spiAborted = false →
    ∃ t, exec .spiTimeout s = .next t ∧ t.f HOST.SPI_ERR.TIMEOUT = satAdd 8 (s.f HOST.SPI_ERR.TIMEOUT) 1 ∧
      SameWords s t [HOST.SPI_ERR] ∧ t = { s with regs := t.regs, host := { s.host with spiAborted := true } } ∧
      ∀ (cmd : BitVec 8) (addr : BitVec 24) (late : List Nat), exec (.spiReadFrame cmd addr late) t =
        .next { t with host := { t.host with csLow := false, spiAborted := false } }

/-- Word 0 of a response packet (R101, R346). -/
def responseHead (tag st write bulk n : Nat) : Word36 := w36 (tag * 2 ^ 28 + st * 2 ^ 20 + write * 2 ^ 16 + bulk * 2 ^ 15 + n)

/-- The request of `rx` has been answered with a response packet of this payload and status, queued last in class B. -/
def Answered (s t : State) (st : Nat) (payload : List Word36) : Prop :=
  (∃ p, t.link.qB = s.link.qB ++ [p] ∧ p.dt = 0x3E ∧ p.vc = 9 ∧ p.payload = payload) ∧ t.f HOST.LAST.IB_STATUS = st ∧
  t.shadow = s.shadow ∧ t.time = s.time ∧ t.pwr = s.pwr ∧ t.host.queue = s.host.queue

/-- Register requests and bulk writes in band. An accepted request that need not wait, with in-band access enabled and
no other waiting, is executed and answered at once. A read of words of one register page returns their values with
parity; a write, and a bulk write of 16 to 4,096 words in steps of 16, of words within banks whose owner is free or
the host write exactly those words; each response carries TAG, OK, the number of words (of 16-word groups for bulk)
and the address. With IB_EN at 0 the answer is DENIED and no word is read or written; with 32 requests waiting one
that is allowed is answered BUSY and counted, and the queue stays. A packet that is not accepted has no effect. Under
hypotheses on the state and the operands alone it concludes that exec answers a next state (each command completes)
for: inbandWriteRequest, inbandReadRequest, bulkWrite. -/
def Obligations.InbandRequests : Prop :=
  (∀ (rx : RxInfo) (tag : BitVec 8) (addr : BitVec 24) (count : Fin 256) (s : State), (s.accept rx).2 = true → s.gone = false →
    s.host.queue = [] → s.fb HOST.IB_CFG.IB_EN = true → addr.toNat < 0x40000 → addr.toNat % 0x400 + count.val < 0x400 →
    (s.pwr.st = .fold → assigned (addr.toNat / 0x400) = true ∧ pageDomain (addr.toNat / 0x400) = 0) → s.mustWait addr.toNat = false →
    ∃ t, exec (.inbandReadRequest rx tag addr count none) s = .next t ∧
      Answered (s.accept rx).1 t 0x80 ([responseHead tag.toNat 0x80 0 0 (count.val + 1), w36 addr.toNat] ++
        (List.range (count.val + 1)).map fun i => withParity ((s.accept rx).1.view (addr.toNat + i))) ∧
      SameWords (s.accept rx).1 t [HOST.LAST] ∧ SameMemory s t) ∧
  (∀ (rx : RxInfo) (tag : BitVec 8) (addr : BitVec 24) (ws : List Word36) (bulk : Bool) (s : State), (s.accept rx).2 = true →
    s.gone = false → s.host.queue = [] → s.fb HOST.IB_CFG.IB_EN = true → s.fb HOST.IB_CFG.IB_WRITE_EN = true →
    (if bulk then ws.length % 16 = 0 ∧ 16 ≤ ws.length ∧ ws.length ≤ 4096 else 1 ≤ ws.length ∧ ws.length ≤ 256) →
    (∀ i < ws.length, memRegion (addr.toNat + i) = 4 ∧ s.owner ((addr.toNat + i - 0x400000) / 0x10000) < 2) →
    s.pwr.st ≠ .fold → s.mustWait addr.toNat = false →
    ∃ t, exec (if bulk then .bulkWrite rx tag addr ws none else .inbandWriteRequest rx tag addr ws none) s = .next t ∧
      Answered (s.accept rx).1 t 0x80 [responseHead tag.toNat 0x80 1 (b2n bulk) (if bulk then ws.length / 16 else ws.length), w36 addr.toNat] ∧
      (∀ i < ws.length, t.rd (addr.toNat + i) = ws.getD i 0) ∧
      (∀ b, b < addr.toNat ∨ addr.toNat + ws.length ≤ b → t.rd b = s.rd b) ∧
      SameWords (s.accept rx).1 t [HOST.LAST]) ∧
  (∀ (rx : RxInfo) (tag : BitVec 8) (addr : BitVec 24) (count : Fin 256) (s : State), (s.accept rx).2 = true → s.gone = false →
    s.host.queue = [] → s.fb HOST.IB_CFG.IB_EN = false → badRange addr.toNat (count.val + 1) = false →
    ∃ t, exec (.inbandReadRequest rx tag addr count none) s = .next t ∧
      Answered (s.accept rx).1 t 0x86 [responseHead tag.toNat 0x86 0 0 0, w36 addr.toNat] ∧
      SameWords (s.accept rx).1 t [HOST.LAST] ∧ SameMemory s t) ∧
  (∀ (rx : RxInfo) (tag : BitVec 8) (addr : BitVec 24) (count : Fin 256) (s : State), (s.accept rx).2 = true → s.gone = false →
    32 ≤ s.host.queue.length → s.fb HOST.IB_CFG.IB_EN = true → badRange addr.toNat (count.val + 1) = false →
    s.foldRefuses addr.toNat = false →
    ∃ t, exec (.inbandReadRequest rx tag addr count none) s = .next t ∧
      Answered (s.accept rx).1 t 0x8A [responseHead tag.toNat 0x8A 0 0 0, w36 addr.toNat] ∧
      t.f HOST.IB_ERR.BUSY = satAdd 8 (s.f HOST.IB_ERR.BUSY) 1 ∧
      SameWords (s.accept rx).1 t [HOST.LAST, HOST.IB_ERR] ∧ SameMemory s t) ∧
  ∀ (rx : RxInfo) (tag : BitVec 8) (addr : BitVec 24) (ws : List Word36) (count : Fin 256) (taken : Option Nat) (s : State),
    (s.accept rx).2 = false → exec (.inbandReadRequest rx tag addr count taken) s = .next s ∧
      exec (.inbandWriteRequest rx tag addr ws taken) s = .next s ∧ exec (.bulkWrite rx tag addr ws taken) s = .next s

/-- Writes of register words: refusals, shadows and interrupt enables. A word with wrong parity is refused and counted
on its port, and raises error 0x01 of its page; with the lock closed a word that would change an RWL bit is refused
with 0x02. A word whose fields are RWS or RO sets its shadow and DIRTY while no request is pending; active settings
stay, but that the safety CRC follows the covered words. A write of INT_EN replaces it. An address outside the
register space, or of a page whose domain is not on, is left alone. Under hypotheses on the state and the operands
alone it concludes that exec answers a next state (each command completes) for: registerWrite. -/
def Obligations.RegisterWrites : Prop :=
  (∀ (src : Port) (a : BitVec 24) (d : Word36) (s : State), a.toNat < 0x40000 → assigned (a.toNat / 0x400) = true →
    s.reachable (a.toNat / 0x400) = true → parityOk d = false →
    ∃ t, exec (.registerWrite src a d) s = .next t ∧
      ErrorRaised (s.incF (match src with | .spi => HOST.SPI_ERR.PARITY | .inband => HOST.IB_ERR.PARITY)) t 0x01 (portSrc src) a.toNat) ∧
  (∀ (src : Port) (a : BitVec 24) (d : Word36) (s : State), a.toNat < 0x40000 → assigned (a.toNat / 0x400) = true →
    s.reachable (a.toNat / 0x400) = true → parityOk d = true → s.lockOpen = false →
    (s.reg a.toNat ^^^ d.setWidth 32) &&& accMask a.toNat .rwl ≠ 0 →
    ∃ t, exec (.registerWrite src a d) s = .next t ∧ ErrorRaised s t 0x02 (portSrc src) a.toNat) ∧
  (∀ (src : Port) (a : BitVec 24) (d : Word36) (s : State), a.toNat < 0x40000 → assigned (a.toNat / 0x400) = true →
    s.reachable (a.toNat / 0x400) = true → parityOk d = true → s.commits = [] → rwsMask a.toNat ≠ 0 →
    (∀ f ∈ (fieldsAt a.toNat).1, f.acc = .rws ∨ f.acc = .ro) →
    ∃ t, exec (.registerWrite src a d) s = .next t ∧
      t.shad a.toNat = (s.shad a.toNat &&& ~~~rwsMask a.toNat) ||| (d.setWidth 32 &&& rwsMask a.toNat) ∧
      (∀ b, b ≠ a.toNat → t.shad b = s.shad b) ∧ t.f ⟨hdr (a.toNat / 0x400) 9, 16, 1⟩ = 1 ∧
      t.f ⟨hdr (a.toNat / 0x400) 9, 0, 8⟩ = s.f ⟨hdr (a.toNat / 0x400) 9, 0, 8⟩ ∧
      SameWords s t [hdr (a.toNat / 0x400) 9, SAFE.CRC] ∧ SameMemory s t ∧ t.time = s.time ∧ t.commits = [] ∧ t.pwr = s.pwr ∧
      t.link = s.link) ∧
  (∀ (src : Port) (p : Nat) (d : Word36) (s : State), assigned p = true → s.reachable p = true → parityOk d = true →
    ∃ t, exec (.registerWrite src (BitVec.ofNat 24 (hdr p 4)) d) s = .next t ∧ t.reg (hdr p 4) = d.setWidth 32 ∧
      SameWords s t [hdr p 4] ∧ OnlyEvents s t) ∧
  ∀ (src : Port) (a : BitVec 24) (d : Word36) (s : State),
    0x40000 ≤ a.toNat ∨ s.reachable (a.toNat / 0x400) = false ∨ assigned (a.toNat / 0x400) = false →
    exec (.registerWrite src a d) s = .next s

/-- INT_FORCE and the merging of event packets. INT_FORCE sets the event bits named that the page defines, ERR among
them with code FORCED; on an unassigned page it does nothing. At the end of the 100 µs since an event packet of a
page, risings merged in between are sent in one packet, stamped with the first of them, from which the next 100 µs
run; without any the period ends. Under hypotheses on the state and the operands alone it concludes that exec answers
a next state (each command completes) for: intForce, eventPacketMergeEnd. -/
def Obligations.InterruptWords : Prop :=
  (∀ (src : Port) (p : Fin 256) (bits : BitVec 32) (s : State), assigned p.val = true → bits.getLsbD 31 = false →
    ∃ t, exec (.intForce src p bits) s = .next t ∧
      t.reg (hdr p.val 3) = s.reg (hdr p.val 3) ||| (bits &&& BitVec.ofNat 32 (eventMask p.val)) ∧
      SameWords s t [hdr p.val 3] ∧ OnlyEvents s t) ∧
  (∀ (src : Port) (p : Fin 256) (s : State), assigned p.val = true →
    ∃ t, exec (.intForce src p 0x80000000) s = .next t ∧ ErrorRaised s t 0x0F (portSrc src) (hdr p.val 5)) ∧
  (∀ (src : Port) (p : Fin 256) (bits : BitVec 32) (s : State), assigned p.val = false → exec (.intForce src p bits) s = .next s) ∧
  (∀ (p : Fin 256) (s : State), (∀ m ∈ s.host.merges, m.page = p.val → m.first = none) →
    exec (.eventPacketMergeEnd p) s = .next { s with host := { s.host with merges := s.host.merges.filter fun m => m.page != p.val } }) ∧
  ∀ (p : Fin 256) (first : Nat) (s : State), (∃ m ∈ s.host.merges, m.page = p.val) →
    (∀ m ∈ s.host.merges, m.page = p.val → m.first = some first) →
    ∃ t e, exec (.eventPacketMergeEnd p) s = .next t ∧ t.link.qB = s.link.qB ++ [e] ∧ e.dt = 0x39 ∧ e.vc = 8 ∧ e.stamp = s.time / 10 ∧
      e.payload = [w36 (0x01 * 2 ^ 24 + p.val), w36 (s.reg (hdr p.val 3)).toNat] ++ halves first ∧
      t.host.merges = (s.host.merges.filter fun m => m.page != p.val) ++ [{ page := p.val, first := none }] ∧
      t = { s with
        host := { s.host with merges := t.host.merges }
        link := { s.link with qB := t.link.qB, seqs := t.link.seqs } }

/-- Soft reset of a page. A soft reset is refused with code 0x04 on a page that is held enabled or whose ENABLE is 1,
and where its domain is off. Otherwise INT_STAT, ERR_CAUSE and ERR_COUNT of the page read 0 (the re-check that follows
on EMIT may raise its event again) and the RO fields of its block words their reset values, while every other field of
them, every shadow, all memory but place-0 words that wait for the bus, and the words of every other page stay. The
shut-off latched in EMIT.FAULT stays. Under hypotheses on the state and the operands alone it concludes that exec
answers a next state (each command completes) for: softReset. -/
def Obligations.SoftResets : Prop :=
  (∀ (src : Port) (p : Fin 256) (s : State), assigned p.val = true →
    heldEnabled p.val = true ∨ s.enabled p.val = true ∨ s.domOn (pageDomain p.val) = false →
    ∃ t, exec (.softReset src p) s = .next t ∧ ErrorRaised s t 0x04 (portSrc src) (hdr p.val 1)) ∧
  (∀ (src : Port) (p : Fin 256) (s : State), assigned p.val = true → heldEnabled p.val = false → s.enabled p.val = false →
    s.domOn (pageDomain p.val) = true →
    ∃ t, exec (.softReset src p) s = .next t ∧ t.reg (hdr p.val 6) = 0 ∧ t.reg (hdr p.val 7) = 0 ∧
      (p.val ≠ 0x12 → t.reg (hdr p.val 3) = 0 ∧
        ∀ a, a / 0x400 = p.val → 0x10 ≤ a % 0x400 →
          t.reg a = (s.reg a &&& ~~~accMask a .ro) ||| (resetWord a &&& accMask a .ro)) ∧
      t.fb EMIT.FAULT.HAZ = s.fb EMIT.FAULT.HAZ ∧ (∀ a, a / 0x400 ≠ p.val → t.reg a = s.reg a) ∧ t.shadow = s.shadow ∧
      SameMemoryButQueued s t ∧ t.time = s.time ∧ t.pwr = s.pwr ∧ t.commits = s.commits ∧ t.led = s.led) ∧
  ∀ (src : Port) (p : Fin 256) (s : State), assigned p.val = false → exec (.softReset src p) s = .next s

/-- Commit requests that wait, that take effect at once, that are refused and that are cancelled. With no other
request pending: a request of a lidar page that its check passes and that is not immediate waits with its boundary,
and no setting changes; one of a supporting page with boundary 0 to 2 is one commit event: every RWS field of the page
takes its shadow, GEN.ACTIVE of the page and the global generation increment, DIRTY clears and COMMIT_DONE is set. A
request that the check refuses sets COMMIT.REFUSED and COMMIT_REFUSED and raises the page's own error, and no setting
changes. CANCEL withdraws a pending request. Under hypotheses on the state and the operands alone it concludes that
exec answers a next state (each command completes) for: commitRequest, commitCancel. -/
def Obligations.CommitRequests : Prop :=
  (∀ (src : Port) (p : Fin 256) (b : Fin 4) (s : State), assigned p.val = true → lidarPage p.val = true → b.val ≠ 0 → s.commits = [] →
    s.ispHeld = none → (s.setF ⟨hdr p.val 8, 0, 2⟩ b.val).judgeRequest p.val b.val false [p.val] = none →
    ∃ t, exec (.commitRequest src p b) s = .next t ∧
      t.commits = [{ page := p.val, boundary := b.val, global := false, armed := false, ports := [], src := portSrc src }] ∧
      t.f ⟨hdr p.val 8, 0, 2⟩ = b.val ∧ t.f ⟨hdr p.val 8, 9, 1⟩ = 0 ∧ SameWords s t [hdr p.val 8] ∧ SameMemory s t ∧
      t.shadow = s.shadow ∧ t.latched = s.latched ∧ t.time = s.time) ∧
  (∀ (src : Port) (p : Fin 256) (b : Fin 4) (s : State), assigned p.val = true → lidarPage p.val = false → camOf p.val = none →
    p.val ≠ 0x44 → b.val ≠ 3 → s.commits = [] → s.ispHeld = none →
    (s.setF ⟨hdr p.val 8, 0, 2⟩ b.val).judgeRequest p.val b.val false [p.val] = none →
    ∃ t, exec (.commitRequest src p b) s = .next t ∧ t.commits = [] ∧
      (∀ a, a / 0x400 = p.val → t.reg a &&& rwsMask a = s.shad a &&& rwsMask a) ∧
      t.f ⟨hdr p.val 9, 0, 8⟩ = (s.f ⟨hdr p.val 9, 0, 8⟩ + 1) % 256 ∧ t.f ⟨hdr p.val 9, 16, 1⟩ = 0 ∧
      (t.reg (hdr p.val 3)).getLsbD 30 = true ∧ t.f CHIP.GEN.GLOBAL = (s.f CHIP.GEN.GLOBAL + 1) % 65536 ∧
      t.shadow = s.shadow ∧ t.time = s.time ∧ t.lockOpen = s.lockOpen) ∧
  (∀ (src : Port) (p : Fin 256) (b : Fin 4) (c : Nat) (s : State), assigned p.val = true →
    (p.val = 0x44 → ∀ r ∈ s.commits, r.begun = false) →
    (s.setF ⟨hdr p.val 8, 0, 2⟩ b.val).judgeRequest p.val b.val false [p.val] = some c →
    ∃ t, exec (.commitRequest src p b) s = .next t ∧ t.f ⟨hdr p.val 8, 9, 1⟩ = 1 ∧
      t.reg (hdr p.val 3) = s.reg (hdr p.val 3) ||| 0xA0000000 ∧ t.f ⟨hdr p.val 7, 0, 16⟩ = satAdd 16 (s.f ⟨hdr p.val 7, 0, 16⟩) 1 ∧
      t.reg (hdr p.val 6) = (if (s.reg (hdr p.val 3)).getLsbD 31 then s.reg (hdr p.val 6) else errWord c (portSrc src) p.val 8) ∧
      SameWords s t [hdr p.val 3, hdr p.val 6, hdr p.val 7, hdr p.val 8] ∧ OnlyEvents s t) ∧
  ∀ (src : Port) (p : Fin 256) (s : State), (∀ r ∈ s.commits, r.page = p.val → r.begun = false) →
    ∃ t, exec (.commitCancel src p) s = .next t ∧ (∀ r ∈ t.commits, r.page ≠ p.val) ∧ (∀ r ∈ s.commits, r.page ≠ p.val → r ∈ t.commits) ∧
      t.regs = s.regs ∧ t.shadow = s.shadow ∧ SameMemory s t ∧ t.time = s.time ∧ t.latched = s.latched

/-- A global commit posts requests on every dirty page, or on none. With no request pending and every dirty page a
lidar page: where every page's check passes and the boundary is not 0, the global commit leaves one request per dirty
page, in rising order of page, each with the boundary written, and changes no setting. Where a check fails, no request
is posted, COMMIT.REFUSED and COMMIT_REFUSED are set on CHIP's header or the failing pages', and no setting changes.
Under hypotheses on the state and the operands alone it concludes that exec answers a next state (each command
completes) for: globalCommit. -/
def Obligations.GlobalCommits : Prop :=
  (∀ (src : Port) (b : Fin 4) (s : State), s.commits = [] → s.ispHeld = none → b.val ≠ 0 → (∀ p ∈ s.dirtyPages, lidarPage p = true) →
    (∀ p ∈ s.dirtyPages, (s.setF CHIP.GCOMMIT.BOUNDARY b.val).judgeRequest p b.val false s.dirtyPages = none) →
    ∃ t, exec (.globalCommit src b) s = .next t ∧
      t.commits = s.dirtyPages.map (fun p =>
        { page := p, boundary := b.val, global := true, armed := false, ports := [], src := portSrc src }) ∧
      t.f CHIP.GCOMMIT.BOUNDARY = b.val ∧ SameWords s t (CHIP.GCOMMIT :: s.dirtyPages.map fun p => hdr p 8) ∧ SameMemory s t ∧
      t.shadow = s.shadow ∧ t.latched = s.latched ∧ t.time = s.time) ∧
  ∀ (src : Port) (b : Fin 4) (q c : Nat) (s : State), q ∈ s.dirtyPages →
    (s.setF CHIP.GCOMMIT.BOUNDARY b.val).judgeRequest q b.val false s.dirtyPages = some c →
    ∃ t, exec (.globalCommit src b) s = .next t ∧ t.commits = s.commits ∧ t.f ⟨hdr q 8, 9, 1⟩ = 1 ∧
      (t.reg (hdr q 3)).getLsbD 29 = true ∧ (t.reg (hdr 0 3)).getLsbD 31 = true ∧
      (∀ a, 0x10 ≤ a % 0x400 → a ≠ CHIP.GCOMMIT → t.reg a = s.reg a) ∧ OnlyEvents s t

/-- A hand in progress is the hand `h` as it was announced (R26, R176). -/
def SameHand (h h' : Hand) : Prop :=
  h'.first = h.first ∧ h'.index = h.index ∧ h'.az = h.az ∧ h'.start = h.start ∧ h'.period = h.period ∧ h'.sEff = h.sEff ∧
  h'.openSlots = h.openSlots ∧ h'.last = h.last

/-- Announcement and boundaries of hands, and the entry to RUN and its end. In READY or RUN with SCAN on and nothing
announced or pending, the announcement gives the next hand: hand j + 1 of the frame at its boundary, with its azimuth
position by the direction of the sweep, or the first hand of the next frame at the frame's end; S_eff and OPEN follow
R113 and R114, and no setting changes. A hand boundary, or for a first hand the frame boundary, makes the announced
hand the one in progress, shows its AZ, and moves the frame timer on: a frame begins where the one before ends,
numbered one higher. An accepted RUN request is carried out just before the first hand announced for it: every ring
queue is empty and reads 0, place 0 is kept, the shot counts are 0. A RUN that is to end ends before the next boundary
with no fire command pending. Under hypotheses on the state and the operands alone it concludes that exec answers a
next state (each command completes) for: runEntry, runExit, handAnnounce, handBoundary, frameBoundary. -/
def Obligations.HandsAndRun : Prop :=
  (∀ s : State, s.pwr.st = .ready ∨ s.pwr.st = .run → s.domOn 1 = true → s.deal.next = none → s.commits = [] → s.latched = [] →
    s.img.cfg = none →
    ∃ t h, exec .handAnnounce s = .next t ∧ t.deal.next = some h ∧ h.snapped = false ∧
      (let f := s.steer.frame
       let j := f.index + 1
       let down := (if j < f.hands ∧ f.handAt j < f.end_ then f.number else if h.entry then 0 else f.number + 1) % 2 = 1
       (if j < f.hands ∧ f.handAt j < f.end_ then h.first = false ∧ h.index = j ∧ h.start = f.handAt j ∧ h.entry = false
        else h.first = true ∧ h.index = 0 ∧ h.start = f.end_ ∧ h.entry = (s.pwr.runPending && s.pwr.st == .ready)) ∧
       h.az = (if down then s.f DEAL.HANDS.HANDS - 1 - h.index * s.longFactor else h.index * s.longFactor)) ∧
      h.sEff = min (s.f DEAL.SLOTS.SLOTS) (s.sFit h.period) ∧
      h.openSlots = (if 2 ≤ h.sEff then min (s.f DEAL.SLOTS.OPEN_SLOTS) (h.sEff - 1) else h.sEff) ∧
      t.deal.cur = s.deal.cur ∧ SameWords s t [DEAL.LOST, hdr 0x10 3] ∧ SameMemory s t ∧ t.shadow = s.shadow ∧ t.time = s.time ∧
      t.steer = s.steer ∧ t.pwr = s.pwr) ∧
  (∀ (h : Hand) (s : State), s.pwr.st = .ready ∨ s.pwr.st = .run → s.domOn 1 = true → s.deal.next = some h → h.first = false →
    ∃ t h', exec .handBoundary s = .next t ∧ t.deal.next = none ∧ t.deal.cur = some h' ∧ SameHand h h' ∧
      t.f DEAL.HAND_STAT.AZ = h.az % 2 ^ 11 ∧ t.steer.frame.index = h.index ∧ t.steer.frame.start = s.steer.frame.start ∧
      t.steer.frame.number = s.steer.frame.number ∧ t.pwr.st = s.pwr.st ∧ t.shadow = s.shadow ∧ t.time = s.time ∧ t.mono = s.mono) ∧
  (∀ (h : Hand) (s : State), s.pwr.st = .ready ∨ s.pwr.st = .run → s.domOn 1 = true → s.deal.next = some h → h.first = true →
    ∃ t h', exec .frameBoundary s = .next t ∧ t.deal.next = none ∧ t.deal.cur = some h' ∧ SameHand h h' ∧
      t.f DEAL.HAND_STAT.AZ = h.az % 2 ^ 11 ∧ t.steer.frame.index = 0 ∧ t.steer.frame.start = s.steer.frame.end_ ∧
      t.steer.frame.number = (if h.entry = true ∧ s.pwr.st = .run then 0 else s.steer.frame.number + 1) ∧
      t.pwr.st = s.pwr.st ∧ t.time = s.time ∧ t.mono = s.mono) ∧
  (∀ s : State, s.deal.next = none → exec .handBoundary s = .next s ∧ exec .frameBoundary s = .next s) ∧
  (∀ (h : Hand) (s : State), s.pwr.st = .ready → s.pwr.runPending = true → s.deal.next = some h → h.entry = true → h.first = true →
    ∃ t, exec .runEntry s = .next t ∧ t.pwr.st = .run ∧ t.pwr.target = .run ∧ t.pwr.runPending = false ∧
      (∀ tile, t.ringCount tile = 0 ∧ t.ringHead tile = 1) ∧ (∀ a, queuePlace a = true → t.rd a = 0) ∧
      (∀ a, memRegion a = 1 → queuePlace a = false → t.rd a = s.rd a) ∧ (∀ g < 4, t.reg (SHUF.COUNT g) = 0) ∧
      t.f PWR.ENTRY.RESULT = 0 ∧ t.shadow = s.shadow ∧ t.time = s.time) ∧
  ∀ s : State, s.pwr.st = .run → s.pwr.readyPending = true →
    ∃ t, exec .runExit s = .next t ∧ t.pwr.st = .ready ∧ t.pwr.target = .ready ∧ t.pwr.readyPending = false ∧
      (∀ h, t.deal.cur = some h ∨ t.deal.next = some h → h.decided = [none, none, none, none]) ∧
      t.f PWR.ENTRY.RESULT = 0 ∧ t.shadow = s.shadow ∧ t.time = s.time

/-- The ring snapshot of a hand. For the hand announced in RUN, or for RUN, with no request latched and the Dealer on:
each of the 64 tiles of its sector is visited once, in the group of its band. Its budget is min(S_eff, trumps + (ante
+ bids) / 2^SCALE) for a live tile whose firing-frame index is in range and whose ring has no uncorrectable word, and
0 otherwise; for the hand with which RUN begins bids and trumps are 0 and no memory changes. Otherwise only queue
places of rings may change. With the Dealer off no tile is visited. In a droop that holds hands back the hand is
skipped and counted, and nothing is snapped. Under hypotheses on the state and the operands alone it concludes that
exec answers a next state (each command completes) for: ringSnapshot. -/
def Obligations.RingSnapshots : Prop :=
  (∀ (h : Hand) (s : State), s.deal.next = some h → h.snapped = false → h.skipped = false →
    (s.pwr.st = .run ∧ s.pwr.readyPending = false ∧ s.pwr.target = .run) ∨ h.entry = true → s.fb CLK.DROOP.HANDS_HELD = false →
    s.latched = [] → s.dealerOn = true →
    ∃ t h', exec .ringSnapshot s = .next t ∧ t.deal.next = some h' ∧ SameHand h h' ∧ h'.snapped = true ∧ h'.tiles.length = 64 ∧
      (∀ b < 64, ∃ x ∈ h'.tiles, x.tile = 128 * b + s.sector h.az ∧ x.group = s.groupOf (x.tile / 128) ∧
        x.spentO = 0 ∧ x.spentT = 0 ∧
        (let w := s.rd (ringAddr x.tile 0)
         let live := placeLive w ∧ x.entry < s.f EMIT.FF_CTRL.FF_SIZE ∧ ∀ i < 32, s.eccBad (ringAddr x.tile 0 + i) = false
         let sums := if h.entry then (0, 0) else s.descSums x.tile
         x.entry = s.patBase (s.patternFor h).1 + bitsOf w.toNat 0 13 ∧
         (live → x.budget = min h.sEff (sums.2 + (dShots w + sums.1) / 2 ^ s.f DEAL.HAND_STAT.SCALE) ∧ x.trump = sums.2) ∧
         (¬live → x.budget = 0 ∧ x.trump = 0) ∧
         x.opening = (if h.sEff = 0 then 0 else (x.budget * h.openSlots + h.sEff - 1) / h.sEff))) ∧
      (∀ a, queuePlace a = false ∨ h.entry = true → t.rd a = s.rd a) ∧
      SameWords s t [DEAL.SHORT, hdr 0x10 3, hdr 0x10 6, hdr 0x10 7, BANK.ECC_CNT, hdr 0x0D 3] ∧ t.deal.cur = s.deal.cur ∧ t.shadow = s.shadow ∧
      t.time = s.time ∧ t.pwr = s.pwr) ∧
  (∀ (h : Hand) (s : State), s.deal.next = some h → h.snapped = false → h.skipped = false →
    (s.pwr.st = .run ∧ s.pwr.readyPending = false ∧ s.pwr.target = .run) ∨ h.entry = true → s.fb CLK.DROOP.HANDS_HELD = false →
    s.latched = [] → s.dealerOn = false →
    ∃ t h', exec .ringSnapshot s = .next t ∧ t.deal.next = some h' ∧ SameHand h h' ∧ h'.snapped = true ∧ h'.tiles = [] ∧
      t = { s with deal := { s.deal with next := some h' } }) ∧
  (∀ (h : Hand) (s : State), s.deal.next = some h → h.snapped = false → h.skipped = false →
    (s.pwr.st = .run ∧ s.pwr.readyPending = false ∧ s.pwr.target = .run) ∨ h.entry = true → s.fb CLK.DROOP.HANDS_HELD = true →
    ∃ t h', exec .ringSnapshot s = .next t ∧ t.deal.next = some h' ∧ SameHand h h' ∧ h'.skipped = true ∧ h'.snapped = h.snapped ∧
      t.f CLK.DROOP_STAT.HANDS_SKIPPED = satAdd 16 (s.f CLK.DROOP_STAT.HANDS_SKIPPED) 1 ∧
      SameWords s t [CLK.DROOP_STAT, hdr 0x01 3] ∧ SameMemory s t ∧ t.shadow = s.shadow ∧ t.time = s.time) ∧
  ∀ s : State, s.deal.next = none → exec .ringSnapshot s = .next s

/-- Slot arbitration and fire commands. With the Dealer on in RUN the next slot of a group closes: the group's slot
moves on; at most SLOT_TILES tiles of its group are decided, each of which was a visited tile that is owed shots in
the phase of the slot, and their FIRE edge is the hand's boundary plus the slot's spacing, the dither within SPAN and
4 TCLK. With plausibility lost, or the laser not ready, no shot of the group is decided, and the first is counted in
PLAUS_HELD. A fire command that is decided is issued where the Dealer is on, the laser ready, its gate closes before a
moved boundary, and plausibility holds: the shot count of the group and FIRED grow and the shot carries the count
before as its tag. Where plausibility has been lost since, it is withheld and its tile-shots count in DENIED; with the
Dealer or the laser off, or a gate that would close too late, no shot is fired. Under hypotheses on the state and the
operands alone it concludes that exec answers a next state (each command completes) for: slotArbitration, fireCommand.
-/
def Obligations.SlotsAndShots : Prop :=
  (∀ (g : Fin 4) (j : Fin 64) (h : Hand) (s : State), s.dealerOn = true → j.val ≠ 0 → s.deal.cur = some h → h.snapped = true →
    nth h.slots g.val 0 = j.val → j.val < h.sEff → s.pwr.st = .run → s.pwr.target ≠ .standby → s.groups.contains g.val = true →
    ∃ t h', exec (.slotArbitration g j) s = .next t ∧ t.deal.cur = some h' ∧ SameHand h h' ∧ nth h'.slots g.val 0 = j.val + 1 ∧
      (∀ d, nth h'.decided g.val none = some d → nth h.decided g.val none = some d ∨
        (d.slot = j.val ∧ d.opening = decide (j.val < h.openSlots) ∧ d.tiles.length ≤ s.slotTiles ∧
          (∀ x ∈ d.tiles, ∃ y ∈ h.tiles, y.tile = x.1 ∧ y.group = g.val ∧ 0 < y.owed d.opening) ∧
          h.start + j.val * s.f DEAL.SPACING.SPACING + 4 ≤ d.fire ∧
          d.fire ≤ h.start + j.val * s.f DEAL.SPACING.SPACING + 4 + s.f (SHUF.DITHER.SPAN g.val))) ∧
      (s.fb STEER.PLAUS.PLAUSIBLE = false ∨ s.laserReady = false → h'.decided = h.decided ∧ h'.tiles = h.tiles) ∧
      (s.fb STEER.PLAUS.PLAUSIBLE = false → s.steer.frame.moved = none →
        t.f DEAL.LOST.PLAUS_HELD = satAdd 16 (s.f DEAL.LOST.PLAUS_HELD) 1 ∧ h'.plausHeld = true) ∧
      SameWords s t [DEAL.THROTTLED, DEAL.DENIED, DEAL.LOST, EMIT.DENY, hdr 0x10 3, hdr 0x12 3, hdr 0x12 6, hdr 0x12 7] ∧
      SameMemory s t ∧ t.shadow = s.shadow ∧ t.time = s.time ∧ t.pwr = s.pwr ∧ t.deal.next = s.deal.next) ∧
  (∀ (g : Fin 4) (ext : Bool) (h : Hand) (d : Decision) (s : State), s.deal.cur = some h → nth h.decided g.val none = some d →
    s.dealerOn = true → s.laserReady = true → s.pwr.st = .run → State.closesInTime s s h d.fire = true → s.fb STEER.PLAUS.PLAUSIBLE = true → s.static = d.static → s.emit.shots.length = 4 →
    s.ldb.darkFrom = none →
    ∃ t h' sh, exec (.fireCommand g ext) s = .next t ∧ t.deal.cur = some h' ∧ nth h'.decided g.val none = none ∧
      nth t.emit.shots g.val none = some sh ∧ sh.slot = d.slot ∧ sh.fire = d.fire ∧ sh.opening = d.opening ∧
      sh.tag = (s.reg (SHUF.COUNT g.val)).toNat % 32 ∧ sh.cells = d.tiles.flatMap (·.2) ∧ sh.bands = d.tiles.map (fun x => x.1 / 128) ∧
      t.reg (SHUF.COUNT g.val) = s.reg (SHUF.COUNT g.val) + 1 ∧
      t.f DEAL.FIRED.COUNT = satAdd 32 (s.f DEAL.FIRED.COUNT) d.tiles.length ∧
      SameMemory s t ∧ t.shadow = s.shadow ∧ t.time = s.time ∧ t.pwr = s.pwr) ∧
  (∀ (g : Fin 4) (ext : Bool) (h : Hand) (d : Decision) (s : State), s.deal.cur = some h → nth h.decided g.val none = some d →
    s.dealerOn = true → s.laserReady = true → s.pwr.st = .run → State.closesInTime s s h d.fire = true → s.fb STEER.PLAUS.PLAUSIBLE = false → d.tiles ≠ [] →
    ∃ t h', exec (.fireCommand g ext) s = .next t ∧ t.deal.cur = some h' ∧ nth h'.decided g.val none = none ∧
      t.emit.shots = s.emit.shots ∧ t.f DEAL.DENIED.COUNT = satAdd 32 (s.f DEAL.DENIED.COUNT) d.tiles.length ∧
      Raised s t 0x10 6 ∧ SameWords s t [DEAL.DENIED, hdr 0x10 3] ∧ SameMemory s t ∧ t.shadow = s.shadow ∧ t.time = s.time) ∧
  (∀ (g : Fin 4) (ext : Bool) (h : Hand) (d : Decision) (s : State), s.deal.cur = some h → nth h.decided g.val none = some d →
    s.dealerOn = false ∨ s.laserReady = false ∨ s.pwr.st ≠ .run →
    ∃ t h', exec (.fireCommand g ext) s = .next t ∧ nth h'.decided g.val none = none ∧ h'.tiles = h.tiles ∧
      t = { s with deal := { s.deal with cur := some h' } }) ∧
  (∀ (g : Fin 4) (ext : Bool) (h : Hand) (d : Decision) (s : State), s.deal.cur = some h → nth h.decided g.val none = some d →
    State.closesInTime s s h d.fire = false →
    ∃ t h', exec (.fireCommand g ext) s = .next t ∧ t.deal.cur = some h' ∧ nth h'.decided g.val none = none ∧ t.emit.shots = s.emit.shots ∧
      SameWords s t [DEAL.DENIED, DEAL.LOST, DEAL.THROTTLED, hdr 0x10 3] ∧ SameMemory s t ∧ t.shadow = s.shadow ∧ t.time = s.time) ∧
  ∀ (g : Fin 4) (ext : Bool) (s : State), s.deal.cur = none → exec (.fireCommand g ext) s = .next s

/-- Host bids and writes of place 0. A host bid with HANDS 0 is an error of DEAL. With the Dealer and HOST_EN on, a
bid on a live tile without a host bid and with fewer than 15 descriptors is appended at TAIL, with SHOTS no higher
than BID_CAP and with origin, azimuth, frame and generation of the moment; on a tile that is not live it is dropped
and counted. A write of the second word of place 0, or of the first while the tiles are not enumerated, changes
exactly that word, its reserved bits staying 0. While they are, a changed FF_INDEX waits in the forward queue and
memory stays; with 64 waiting it is refused with code 0x06 and counted. Under hypotheses on the state and the operands
alone it concludes that exec answers a next state (each command completes) for: hostBid, ringPlace0Write. -/
def Obligations.HostBidsAndPlaceZero : Prop :=
  (∀ (src : Port) (d : BitVec 32) (s : State), bitsOf d.toNat 9 4 = 0 →
    ∃ t, exec (.hostBid src d) s = .next t ∧ ErrorRaised s t 0x05 (portSrc src) DEAL.BID) ∧
  (∀ (src : Port) (d : BitVec 32) (s : State), bitsOf d.toNat 9 4 ≠ 0 → bitsOf d.toNat 13 6 ≠ 0 → s.enabled 0x10 = true →
    s.enabled 0x11 = true → s.fb DEAL.BID_CFG.HOST_EN = true → placeLive (s.rd (ringAddr (bitsOf d.toNat 19 13) 0)) = true →
    s.ringCount (bitsOf d.toNat 19 13) < 15 →
    (∀ i < s.ringCount (bitsOf d.toNat 19 13), ¬(dClass (s.desc (bitsOf d.toNat 19 13) i).1 = 1 ∧ dSource (s.desc (bitsOf d.toNat 19 13) i).1 = 0)) →
    ∃ t, exec (.hostBid src d) s = .next t ∧
      (let tile := bitsOf d.toNat 19 13
       let n := s.ringCount tile
       let a := ringAddr tile (queuePos (s.ringHead tile) n)
       t.ringCount tile = n + 1 ∧ t.ringHead tile = s.ringHead tile ∧
       t.desc tile n = (descWord0 1 0 (min (bitsOf d.toNat 13 6) (s.f DEAL.BID_CFG.BID_CAP)) (bitsOf d.toNat 9 4)
         (bitsOf (s.rd (ringAddr tile 0)).toNat 0 13), s.descWord1 (bitsOf d.toNat 0 9)) ∧
       (∀ b, b ≠ a → b ≠ a + 1 → t.rd b = s.rd b) ∧ ∀ k, k ≠ tile → t.ringTab k = s.ringTab k) ∧
      t.regs = s.regs ∧ t.shadow = s.shadow ∧ t.time = s.time ∧ t.pwr = s.pwr) ∧
  (∀ (src : Port) (d : BitVec 32) (s : State), bitsOf d.toNat 9 4 ≠ 0 → bitsOf d.toNat 13 6 ≠ 0 → s.enabled 0x10 = true →
    s.enabled 0x11 = true → s.fb DEAL.BID_CFG.HOST_EN = true → placeLive (s.rd (ringAddr (bitsOf d.toNat 19 13) 0)) = false →
    ∃ t, exec (.hostBid src d) s = .next t ∧ t.f DEAL.BIDS.BID_DROPPED = satAdd 16 (s.f DEAL.BIDS.BID_DROPPED) 1 ∧ Raised s t 0x10 1 ∧
      SameWords s t [DEAL.BIDS, hdr 0x10 3] ∧ OnlyEvents s t) ∧
  (∀ (src : Port) (tile : Fin 8192) (second : Bool) (d : Word36) (s : State), second = true ∨ s.fb LDB.STATUS.ENUMERATED = false →
    ∃ t, exec (.ringPlace0Write src tile second d) s = .next t ∧ t.rd (0xA00000 + 0x20 * tile.val + b2n second) = (if second then d else d &&& 0xFFFF01FFF) ∧
      (∀ b, b ≠ 0xA00000 + 0x20 * tile.val + b2n second → t.rd b = s.rd b) ∧ t = { s with mem := t.mem, ecc := t.ecc }) ∧
  (∀ (src : Port) (tile : Fin 8192) (d : Word36) (s : State), s.fb LDB.STATUS.ENUMERATED = true →
    bitsOf d.toNat 0 13 ≠ bitsOf (s.placeZero tile.val).toNat 0 13 → s.ldb.fwd.length < 64 →
    ∃ t, exec (.ringPlace0Write src tile false d) s = .next t ∧ t.ldb.fwd = s.ldb.fwd ++ [(tile.val, d &&& 0xFFFF01FFF)] ∧
      t = { s with ldb := t.ldb }) ∧
  ∀ (src : Port) (tile : Fin 8192) (d : Word36) (s : State), s.fb LDB.STATUS.ENUMERATED = true →
    bitsOf d.toNat 0 13 ≠ bitsOf (s.placeZero tile.val).toNat 0 13 → 64 ≤ s.ldb.fwd.length →
    ∃ t, exec (.ringPlace0Write src tile false d) s = .next t ∧ t.f LDB.ERR_CNT.QUEUE_FULL = satAdd 8 (s.f LDB.ERR_CNT.QUEUE_FULL) 1 ∧
      (t.reg (hdr 0x10 3)).getLsbD 31 = true ∧ t.f ⟨hdr 0x10 7, 0, 16⟩ = satAdd 16 (s.f ⟨hdr 0x10 7, 0, 16⟩) 1 ∧
      SameWords s t [LDB.ERR_CNT, hdr 0x10 3, hdr 0x10 6, hdr 0x10 7] ∧ OnlyEvents s t ∧ t.ldb = s.ldb

/-- LOAD of firing frames and the ends of maintenance frames. LOAD does nothing while a copy runs, waits while
enumeration runs, starts the copy of the inactive buffer to enumerated tiles, and without enumerated tiles only checks
the buffer. At the end of the check or copy a buffer whose entries are all valid is shown LOADED with its event;
otherwise FF_ENTRY is raised with the lowest invalid entry. When a maintenance frame ends, the place-0 word that an
INDEX frame carries is written, a trim or mask frame is no longer due, and a frame of a committed change leaves the
queue. Under hypotheses on the state and the operands alone it concludes that exec answers a next state (each command
completes) for: ffLoad, ffLoadDone, ldbMaintFrameEnd. -/
def Obligations.FiringFrameLoads : Prop :=
  (∀ s : State, s.fb EMIT.FF_CTRL.LOADING = true → exec .ffLoad s = .next s) ∧
  (∀ s : State, s.fb EMIT.FF_CTRL.LOADING = false → s.ldb.enumerating = true →
    exec .ffLoad s = .next { s with ldb := { s.ldb with loadWaits := true } }) ∧
  (∀ s : State, s.fb EMIT.FF_CTRL.LOADING = false → s.ldb.enumerating = false → s.fb LDB.STATUS.ENUMERATED = true →
    ∃ t, exec .ffLoad s = .next t ∧ t.fb EMIT.FF_CTRL.LOADING = true ∧ t.ldb.load = some 0 ∧ t.f EMIT.FF_CTRL.ACTIVE = s.f EMIT.FF_CTRL.ACTIVE ∧
      t.fb EMIT.FF_CTRL.LOADED = s.fb EMIT.FF_CTRL.LOADED ∧ SameWords s t [EMIT.FF_CTRL] ∧ t = { s with regs := t.regs, ldb := t.ldb }) ∧
  (∀ s : State, s.fb EMIT.FF_CTRL.LOADING = false → s.ldb.enumerating = false → s.fb LDB.STATUS.ENUMERATED = false → s.ldb.held.length = 2 →
    s.ffLowestBad (1 - s.f EMIT.FF_CTRL.ACTIVE) = none →
    ∃ t, exec .ffLoad s = .next t ∧ t.fb EMIT.FF_CTRL.LOADED = true ∧ Raised s t 0x12 4 ∧ SameWords s t [EMIT.FF_CTRL, hdr 0x12 3] ∧
      SameMemory s t ∧ t.shadow = s.shadow ∧ t.time = s.time) ∧
  (∀ (e : Nat) (s : State), s.fb EMIT.FF_CTRL.LOADING = false → s.ldb.enumerating = false → s.fb LDB.STATUS.ENUMERATED = false →
    s.ffLowestBad (1 - s.f EMIT.FF_CTRL.ACTIVE) = some e →
    ∃ t, exec .ffLoad s = .next t ∧ ErrorRaised s t 0x11 0 (hdr 0x12 (e % 0x400))) ∧
  (∀ s : State, s.fb EMIT.FF_CTRL.LOADING = true → s.img.cfg = none → s.ldb.held.length = 2 →
    s.ffLowestBad (1 - s.f EMIT.FF_CTRL.ACTIVE) = none →
    ∃ t, exec .ffLoadDone s = .next t ∧ t.fb EMIT.FF_CTRL.LOADING = false ∧ t.fb EMIT.FF_CTRL.LOADED = true ∧ t.ldb.load = none ∧
      Raised s t 0x12 4 ∧ SameWords s t [EMIT.FF_CTRL, hdr 0x12 3] ∧ SameMemory s t ∧ t.shadow = s.shadow ∧ t.time = s.time) ∧
  (∀ (e : Nat) (s : State), s.fb EMIT.FF_CTRL.LOADING = true → s.img.cfg = none →
    s.ffLowestBad (1 - s.f EMIT.FF_CTRL.ACTIVE) = some e →
    ∃ t, exec .ffLoadDone s = .next t ∧ t.fb EMIT.FF_CTRL.LOADING = false ∧ t.ldb.load = none ∧ Raised s t 0x12 31 ∧
      t.fb EMIT.FF_CTRL.LOADED = s.fb EMIT.FF_CTRL.LOADED ∧
      SameWords s t [EMIT.FF_CTRL, hdr 0x12 3, hdr 0x12 6, hdr 0x12 7] ∧ SameMemory s t ∧ t.shadow = s.shadow ∧ t.time = s.time) ∧
  (∀ (tile : Nat) (w : Word36) (rest : List (Nat × Word36)) (s : State), s.ldb.frame = some (.index tile w) → s.ldb.changing = false →
    s.ldb.fwd = (tile, w) :: rest →
    ∃ t, exec .ldbMaintFrameEnd s = .next t ∧ t.rd (0xA00000 + 0x20 * tile) = w ∧ (∀ a, a ≠ 0xA00000 + 0x20 * tile → t.rd a = s.rd a) ∧
      t.ldb.fwd = rest ∧ t = { s with mem := t.mem, ecc := t.ecc, ldb := t.ldb }) ∧
  (∀ (p : Nat) (f : MaintFrame) (rest : List (Nat × MaintFrame)) (s : State), s.ldb.frame = some f → s.ldb.changing = true →
    s.ldb.changes = (p, f) :: rest →
    ∃ t, exec .ldbMaintFrameEnd s = .next t ∧ t.ldb.changes = rest ∧ t.ldb.fwd = s.ldb.fwd ∧ t = { s with ldb := t.ldb }) ∧
  (∀ (tile : Fin 16) (s : State), s.ldb.changing = false →
    (s.ldb.frame = some (.level tile.val) → ∃ t, exec .ldbMaintFrameEnd s = .next t ∧ MaintFrame.level tile.val ∉ t.ldb.loopDue ∧
      t = { s with ldb := t.ldb }) ∧
    (s.ldb.frame = some (.mask tile.val) → ∃ t, exec .ldbMaintFrameEnd s = .next t ∧ MaintFrame.mask tile.val ∉ t.ldb.loopDue ∧
      t = { s with ldb := t.ldb })) ∧
  ∀ s : State, s.ldb.frame = none → exec .ldbMaintFrameEnd s = .next s

/-- Re-enumeration, the end of enumeration, polls and tile replies. REENUM in READY, with LDB enabled and no shut-off,
starts LDB_KA and enumeration with RESET, queued place-0 writes being complete; outside READY it is an error of LDB.
At its end PRESENT shows the tiles that answered, every cell of an enabled tile that did not is masked, and firing is
possible. A poll puts POLL on the bus while LDB_KA toggles. A good reply without flags sets PRESENT of the tile and
ends its absence; one with a cell flag also masks its cell; a missing or bad reply counts and clears PRESENT, and the
third in a row masks the tile. PRESENT follows the replies of a tile that is not enabled too, which have no other
effect. Under hypotheses on the state and the operands alone it concludes that exec answers a next state (each command
completes) for: ldbReenum, enumerationDone, pollTimer, tileReply. -/
def Obligations.TileBus : Prop :=
  (∀ (src : Port) (s : State), s.pwr.st = .ready → s.enabled 0x13 = true → s.fb EMIT.FAULT.HAZ = false →
    ∃ t, exec (.ldbReenum src) s = .next t ∧ t.fb LDB.STATUS.KA = true ∧ t.fb LDB.STATUS.ENUMERATED = false ∧ t.ldb.enumerating = true ∧
      t.fb EMIT.FF_CTRL.LOADED = false ∧ t.fb EMIT.FF_CTRL.LOADING = false ∧ t.ldb.fwd = [] ∧ t.ldb.absent = [] ∧ t.ldb.frame = none ∧
      t.ldb.bus = busFrame none 0x01 [] ∧ (∀ e, s.ldb.fwd.getLast? = some e → t.rd (0xA00000 + 0x20 * e.1) = e.2) ∧
      SameWords s t [LDB.STATUS, EMIT.FF_CTRL] ∧ SameMemoryButQueued s t ∧ t.shadow = s.shadow ∧ t.time = s.time ∧ t.pwr = s.pwr) ∧
  (∀ (src : Port) (s : State), s.pwr.st ≠ .ready → ∃ t, exec (.ldbReenum src) s = .next t ∧ ErrorRaised s t 0x10 (portSrc src) LDB.CMD) ∧
  (∀ (present : BitVec 16) (s : State), s.ldb.enumerating = true → s.ldb.loadWaits = false → s.commits = [] → s.ldb.absent = [] →
    ∃ t, exec (.enumerationDone present) s = .next t ∧ t.fb LDB.STATUS.ENUMERATED = true ∧ t.fb LDB.STATUS.RECOVERING = false ∧
      t.ldb.enumerating = false ∧ t.f LDB.TILE_EN.PRESENT = present.toNat ∧ t.f LDB.TILE_EN.EN = s.f LDB.TILE_EN.EN ∧
      (∀ k < 16, bitOf (s.f LDB.TILE_EN.EN) k = true → bitOf present.toNat k = false →
        ∀ i < 16, t.reg (EMIT.MASK_AUTO (16 * k + i)) = 0xFFFFFFFF) ∧
      (∀ k < 16, bitOf (s.f LDB.TILE_EN.EN) k = false ∨ bitOf present.toNat k = true →
        ∀ i < 16, t.reg (EMIT.MASK_AUTO (16 * k + i)) = s.reg (EMIT.MASK_AUTO (16 * k + i))) ∧
      t.f LDB.ERR_CNT.RECOVERIES = satAdd 8 (s.f LDB.ERR_CNT.RECOVERIES) (b2n (s.fb LDB.STATUS.RECOVERING)) ∧
      SameMemory s t ∧ t.shadow = s.shadow ∧ t.time = s.time ∧ t.pwr = s.pwr) ∧
  (∀ (present : BitVec 16) (s : State), s.ldb.enumerating = false → exec (.enumerationDone present) s = .next s) ∧
  (∀ s : State, s.fb LDB.STATUS.KA = true → s.enabled 0x13 = true →
    exec .pollTimer s = .next { s with ldb := { s.ldb with bus := busFrame none 0x04 [] } }) ∧
  (∀ s : State, s.fb LDB.STATUS.KA = false → exec .pollTimer s = .next s) ∧
  (∀ (k : Fin 16) (v : BitVec 48) (s : State), s.fb LDB.STATUS.KA = true → bitOf (s.f LDB.TILE_EN.EN) k.val = true →
    replyGood k.val v.toNat = true → bitsOf v.toNat 37 3 = 0 → bitsOf v.toNat 10 10 ≤ s.f (EMIT.CLAMP.CLAMP k.val) →
    ∃ t, exec (.tileReply k (some v)) s = .next t ∧ bitOf (t.f LDB.TILE_EN.PRESENT) k.val = true ∧ t.f LDB.TILE_EN.EN = s.f LDB.TILE_EN.EN ∧
      t.ldb = { s.ldb with missing := s.ldb.missing.set k.val 0, absent := s.ldb.absent.filter (· != k.val) } ∧ SameWords s t [LDB.TILE_EN] ∧
      t = { s with regs := t.regs, ldb := t.ldb }) ∧
  (∀ (k : Fin 16) (v : BitVec 48) (s : State), s.fb LDB.STATUS.KA = true → bitOf (s.f LDB.TILE_EN.EN) k.val = true →
    replyGood k.val v.toNat = true → bitOf v.toNat 39 = true → bitOf v.toNat 38 = false → bitOf v.toNat 37 = false →
    bitsOf v.toNat 10 10 ≤ s.f (EMIT.CLAMP.CLAMP k.val) →
    ∃ t, exec (.tileReply k (some v)) s = .next t ∧
      (let cell := 512 * k.val + bitsOf v.toNat 23 9
       t.reg (EMIT.MASK_AUTO (cell / 32)) = s.reg (EMIT.MASK_AUTO (cell / 32)) ||| BitVec.ofNat 32 (2 ^ (cell % 32)) ∧
       t.f EMIT.CELLFLT.KIND = 1 ∧ t.f EMIT.CELLFLT.CELL = cell ∧ Raised s t 0x12 1 ∧
       SameWords s t [EMIT.MASK_AUTO (cell / 32), EMIT.CELLFLT, EMIT.FAULT, LDB.TILE_EN, hdr 0x12 3]) ∧
      t.fb EMIT.FAULT.HAZ = s.fb EMIT.FAULT.HAZ ∧ SameMemory s t ∧ t.shadow = s.shadow ∧ t.time = s.time) ∧
  (∀ (k : Fin 16) (r : Option (BitVec 48)) (s : State), s.fb LDB.STATUS.KA = true → bitOf (s.f LDB.TILE_EN.EN) k.val = true →
    s.ldb.missing.length = 16 → r.any (fun v => replyGood k.val v.toNat) = false →
    ∃ t, exec (.tileReply k r) s = .next t ∧ t.f LDB.ERR_CNT.REPLY_BAD = satAdd 8 (s.f LDB.ERR_CNT.REPLY_BAD) 1 ∧
      bitOf (t.f LDB.TILE_EN.PRESENT) k.val = false ∧ nth t.ldb.missing k.val 0 = nth s.ldb.missing k.val 0 + 1 ∧
      (2 ≤ nth s.ldb.missing k.val 0 → k.val ∈ t.ldb.absent ∧
        (k.val ∉ s.ldb.absent → ∀ i < 16, t.reg (EMIT.MASK_AUTO (16 * k.val + i)) = 0xFFFFFFFF)) ∧
      (nth s.ldb.missing k.val 0 < 2 → SameWords s t [LDB.ERR_CNT, LDB.TILE_EN, hdr 0x13 3]) ∧
      SameMemory s t ∧ t.shadow = s.shadow ∧ t.time = s.time) ∧
  (∀ (k : Fin 16) (r : Option (BitVec 48)) (s : State), s.fb LDB.STATUS.KA = true → bitOf (s.f LDB.TILE_EN.EN) k.val = false →
    ∃ t, exec (.tileReply k r) s = .next t ∧ bitOf (t.f LDB.TILE_EN.PRESENT) k.val = r.any (fun v => replyGood k.val v.toNat) ∧
      (∀ i < 16, i ≠ k.val → bitOf (t.f LDB.TILE_EN.PRESENT) i = bitOf (s.f LDB.TILE_EN.PRESENT) i) ∧
      t.f LDB.TILE_EN.EN = s.f LDB.TILE_EN.EN ∧ SameWords s t [LDB.TILE_EN] ∧ OnlyRegs s t) ∧
  ∀ (k : Fin 16) (r : Option (BitVec 48)) (s : State), s.fb LDB.STATUS.KA = false → exec (.tileReply k r) s = .next s

/-- The hazardous shut-off (R160, R161): the kind and the tile are shown, LDB_KA stops, no fire command is pending, RUN is to
end, an activation or swap is given up, and FAULT_N is low. -/
def ShutOff (s t : State) (kind tile : Nat) : Prop :=
  t.fb EMIT.FAULT.HAZ = true ∧ t.f EMIT.FAULT.KIND = kind ∧ t.f EMIT.FAULT.TILE = tile ∧ Raised s t 0x12 0 ∧
  t.fb LDB.STATUS.KA = false ∧ t.fb LDB.STATUS.RECOVERING = false ∧ t.laserReady = false ∧ t.faultLow = true ∧
  (∀ h, t.deal.cur = some h ∨ t.deal.next = some h → h.decided = [none, none, none, none]) ∧
  (s.pwr.st = .run → t.pwr.readyPending = true ∧ t.pwr.target = .ready) ∧ (s.pwr.st ≠ .run → t.pwr.runPending = false) ∧
  t.pwr.st = s.pwr.st ∧ t.img.activating = false ∧ SameMemoryButQueued s t ∧ t.shadow = s.shadow ∧ t.time = s.time ∧
  SameWords s t [EMIT.FAULT, hdr 0x12 3, hdr 0x13 3, hdr 0x03 3, LDB.STATUS, LDB.ERR_CNT, EMIT.FF_CTRL, BOOT.CFG_STAT, BOOT.FW_STAT, SUPV.STATUS]

/-- Hazardous emitter faults, held-bus recovery and their clearing. With the laser working and not shut off: light
without a fire command on an MPD in use, a hazard flag outside the reply window, and the third detection of a held bus
within 1 s each shut the laser off, with kinds 1, 2 and 4. A first or second held bus starts a recovery: LDB_KA stops,
RECOVERING is set, no fire command is pending, and the dark time is counted from the moment. Its restart re-
enumerates, or shuts off with kind 4 while the bus is still held. HAZ_CLR in READY with no condition present clears
the latch and diagnostic 7 and restarts the bus; otherwise it is an error of EMIT. Under hypotheses on the state and
the operands alone it concludes that exec answers a next state (each command completes) for: lightNoFire, hazardFlag,
busHeld, busRecoveryRestart, hazClr. -/
def Obligations.HazardousFaults : Prop :=
  (∀ (k : Fin 16) (s : State), s.laserOn = true → bitOf (s.f EMIT.MPD_USE.USED) k.val = true → s.fb EMIT.FAULT.HAZ = false →
    ∃ t, exec (.lightNoFire k) s = .next t ∧ ShutOff s t 1 k.val) ∧
  (∀ (k : Fin 16) (s : State), s.laserOn = true → s.fb EMIT.FAULT.HAZ = false →
    ∃ t, exec (.hazardFlag k) s = .next t ∧ ShutOff s t 2 k.val) ∧
  (∀ s : State, s.laserOn = true → s.fb LDB.STATUS.KA = true → s.fb LDB.STATUS.RECOVERING = false → s.fb EMIT.FAULT.HAZ = false →
    2 ≤ (s.ldb.heldAt.filter fun t => s.mono < t + 10 ^ 10).length →
    ∃ t, exec .busHeld s = .next t ∧ ShutOff s t 4 0 ∧ t.f LDB.ERR_CNT.HELD = satAdd 8 (s.f LDB.ERR_CNT.HELD) 1) ∧
  (∀ s : State, s.laserOn = true → s.fb LDB.STATUS.KA = true → s.fb LDB.STATUS.RECOVERING = false →
    (s.ldb.heldAt.filter fun t => s.mono < t + 10 ^ 10).length < 2 →
    ∃ t, exec .busHeld s = .next t ∧ t.fb LDB.STATUS.RECOVERING = true ∧ t.fb LDB.STATUS.KA = false ∧
      t.fb LDB.STATUS.ENUMERATED = false ∧ t.f LDB.ERR_CNT.HELD = satAdd 8 (s.f LDB.ERR_CNT.HELD) 1 ∧ Raised s t 0x13 0 ∧
      t.ldb.darkFrom = some s.mono ∧ t.fb EMIT.FAULT.HAZ = s.fb EMIT.FAULT.HAZ ∧
      (∀ h, t.deal.cur = some h ∨ t.deal.next = some h → h.decided = [none, none, none, none] ∧ h.recovery = true) ∧
      SameWords s t [LDB.STATUS, LDB.ERR_CNT, hdr 0x13 3, EMIT.FF_CTRL] ∧ SameMemoryButQueued s t ∧ t.shadow = s.shadow ∧
      t.time = s.time ∧ t.pwr = s.pwr) ∧
  (∀ s : State, s.fb LDB.STATUS.RECOVERING = true → s.fb EMIT.FAULT.HAZ = false →
    (∃ t, exec (.busRecoveryRestart true) s = .next t ∧ ShutOff s t 4 0) ∧
    (s.enabled 0x13 = true → ∃ t, exec (.busRecoveryRestart false) s = .next t ∧ t.fb LDB.STATUS.KA = true ∧ t.ldb.enumerating = true ∧
      t.fb LDB.STATUS.RECOVERING = true ∧ t.ldb.bus = busFrame none 0x01 [] ∧ SameWords s t [LDB.STATUS, EMIT.FF_CTRL] ∧
      SameMemoryButQueued s t ∧ t.shadow = s.shadow ∧ t.time = s.time ∧ t.pwr = s.pwr)) ∧
  (∀ (src : Port) (s : State), s.pwr.st = .ready → bitOf (s.f SUPV.DIAG.FAIL) 0 = false → s.f HK.STEP.DIE_STEP < 2 →
    s.f HK.STEP.LAS_STEP < 2 → s.enabled 0x13 = true →
    ∃ t, exec (.hazClr src false) s = .next t ∧ t.fb EMIT.FAULT.HAZ = false ∧ bitOf (t.f SUPV.DIAG.FAIL) 6 = false ∧
      t.fb LDB.STATUS.KA = true ∧ t.ldb.enumerating = true ∧ SameWords s t [EMIT.FAULT, SUPV.DIAG, LDB.STATUS, EMIT.FF_CTRL] ∧
      SameMemoryButQueued s t ∧ t.shadow = s.shadow ∧ t.time = s.time ∧ t.pwr = s.pwr) ∧
  ∀ (src : Port) (present : Bool) (s : State), s.pwr.st ≠ .ready ∨ present = true →
    ∃ t, exec (.hazClr src present) s = .next t ∧ ErrorRaised s t 0x05 (portSrc src) EMIT.FAULT_CLR

/-- The energy windows, the static set and the monitor-photodiode loop. The end of a sub-interval begins a new one in
its window, whose sum then covers the new one and the 16 before it. The static set is released once the mirror is
plausible and certain, and stays otherwise. An included pulse with light, of a fire command that lit cells with energy
on an MPD in use, adds its ratio to the tile's mean; the 256th sets Q to the mean. A loop update steps TRIM of each
MPD in use by at most one code towards 1, within TRIM_MAX, and leaves Q alone. Under hypotheses on the state and the
operands alone it concludes that exec answers a next state (each command completes) for: mpdPulseMeasured,
mpdLoopUpdate, govSubintervalEnd, staticHoldEnd. -/
def Obligations.GovernorAndMonitor : Prop :=
  (∀ s : State,
    exec (.govSubintervalEnd .us100) s = .next { s with emit := { s.emit with
      us100 := { sums := ([] :: s.emit.us100.sums).take 17, full := s.emit.us100.full - 1, ends := s.emit.us100.ends + 1 } } } ∧
    exec (.govSubintervalEnd .ms10) s = .next { s with emit := { s.emit with
      ms10 := { sums := ([] :: s.emit.ms10.sums).take 17, full := s.emit.ms10.full - 1, ends := s.emit.ms10.ends + 1 } } } ∧
    exec (.govSubintervalEnd .s10) s = .next { s with emit := { s.emit with
      aperture := (0 :: s.emit.aperture).take 17, apertureEnds := s.emit.apertureEnds + 1 } }) ∧
  (∀ s : State, s.fb STEER.PLAUS.PLAUSIBLE = true → s.fb STEER.PLAUS.UNCERTAIN = false →
    ∃ t, exec .staticHoldEnd s = .next t ∧ t.fb EMIT.GOV_CTRL.STATIC = false ∧ t.f EMIT.GOV_CTRL.STATIC_HOLD = s.f EMIT.GOV_CTRL.STATIC_HOLD ∧
      SameWords s t [EMIT.GOV_CTRL] ∧ OnlyRegs s t) ∧
  (∀ s : State, s.fb STEER.PLAUS.PLAUSIBLE = false ∨ s.fb STEER.PLAUS.UNCERTAIN = true → exec .staticHoldEnd s = .next s) ∧
  (∀ (k : Fin 16) (g : Fin 4) (charge : Nat) (s : State), s.shotCells g.val k.val ≠ [] → bitOf (s.f EMIT.MPD_USE.USED) k.val = true →
    charge ≠ 0 → (s.shotCells g.val k.val).foldl (fun n c => n + c.nominal) 0 ≠ 0 → s.emit.mpd.length = 16 →
    ∃ t, exec (.mpdPulseMeasured k g charge false) s = .next t ∧
      (let m := nth s.emit.mpd k.val {}
       let r := s.f (EMIT.MPD_K.K k.val) * charge * 4096 / (2560000 * (s.shotCells g.val k.val).foldl (fun n c => n + c.nominal) 0)
       (m.count + 1 < 256 → nth t.emit.mpd k.val {} = { count := m.count + 1, sum := m.sum + r, dark := 0 } ∧
         t = { s with emit := { s.emit with mpd := t.emit.mpd } }) ∧
       (256 ≤ m.count + 1 → nth t.emit.mpd k.val {} = { count := 0, sum := 0, dark := 0 } ∧
         t.f (EMIT.LOOP.Q k.val) = min 65535 ((m.sum + r) / 256) ∧ t.fi (EMIT.LOOP.TRIM k.val) = s.fi (EMIT.LOOP.TRIM k.val) ∧
         (6144 < t.f (EMIT.LOOP.Q k.val) → Raised s t 0x12 3) ∧ SameWords s t [EMIT.LOOP k.val, hdr 0x12 3]) ∧
       (∀ i, i ≠ k.val → nth t.emit.mpd i {} = nth s.emit.mpd i {}) ∧ SameMemory s t ∧ t.shadow = s.shadow ∧ t.time = s.time)) ∧
  (∀ (k : Fin 16) (g : Fin 4) (charge : Nat) (excluded : Bool) (s : State), s.shotCells g.val k.val = [] →
    (nth s.emit.mpd k.val {}).dark < 256 → exec (.mpdPulseMeasured k g charge excluded) s = .next s) ∧
  (∀ s : State, s.fb EMIT.MPD_CFG.LOOP_EN = true → s.laserOn = true → s.f EMIT.MPD_CFG.TRIM_MAX ≤ 63 →
    ∃ t, exec .mpdLoopUpdate s = .next t ∧
      (∀ k < 16, t.f (EMIT.LOOP.Q k) = s.f (EMIT.LOOP.Q k) ∧
        (bitOf (s.f EMIT.MPD_USE.USED) k = false → t.reg (EMIT.LOOP k) = s.reg (EMIT.LOOP k)) ∧
        (bitOf (s.f EMIT.MPD_USE.USED) k = true → t.fi (EMIT.LOOP.TRIM k) = clip (-(s.f EMIT.MPD_CFG.TRIM_MAX : Int)) (s.f EMIT.MPD_CFG.TRIM_MAX)
          (s.fi (EMIT.LOOP.TRIM k) + (if 4096 * 102 < s.f (EMIT.LOOP.Q k) * 100 then -1 else if s.f (EMIT.LOOP.Q k) * 100 < 4096 * 98 then 1 else 0)))) ∧
      SameWords s t ((List.range 16).map EMIT.LOOP) ∧ t = { s with regs := t.regs, ldb := t.ldb }) ∧
  ∀ s : State, s.fb EMIT.MPD_CFG.LOOP_EN = false → exec .mpdLoopUpdate s = .next s

/-- Outside the STEER page and these words no register has changed, nor memory, shadows, clocks or the power state: what an
event of the mirror may touch besides are the static set of the governor and the hands that become uncertain (R156, R184). -/
def MirrorFrame (s t : State) (ws : List Nat) : Prop :=
  (∀ a, a / 0x400 ≠ 0x14 → a ∉ ws → a ≠ EMIT.GOV_CTRL → a ≠ hdr 0x12 3 → t.reg a = s.reg a) ∧
  SameMemory s t ∧ t.shadow = s.shadow ∧ t.time = s.time ∧ t.pwr = s.pwr ∧ t.lockOpen = s.lockOpen ∧ t.commits = s.commits

/-- Decimation, open detection and test-tone checks of the sense channels. At a decimation instant of an enabled
channel the sample is the filter's output less OFFSET times GAIN over 2^22, rounded down and clipped to 32 bits, with
SAT where it was clipped, SETTLING while samples settle, and HI and LO by the thresholds; no word of another channel
changes. Open detection sets OPEN, the impedance 0xFFFF and the event; while a channel carries no tone its end clears
OPEN. A tone check that starts marks the channel; at its end, with AMP not 0, the impedance is twice the amplitude in
µV over AMP, at most 65,535, outside the window it sets DRIFT with the event, and an OPEN channel that left the rail
within the window is cleared. Under hypotheses on the state and the operands alone it concludes that exec answers a
next state (each command completes) for: decimation, senseOpen, testToneCheckEnd, senseOpenCleared,
testToneCheckStart. -/
def Obligations.SenseChannels : Prop :=
  (∀ (n : Fin 8) (bits : List Bool) (at_ : Nat) (s : State), s.enabled 0x15 = true → s.fb (SENSE.CFG.EN n.val) = true → s.domOn 1 = true →
    ∃ t, exec (.decimation n bits at_) s = .next t ∧
      (let v := (((s.filter n.val bits).1.toInt - s.fi (SENSE.OFFSET.VALUE n.val)) * s.f (SENSE.GAIN.VALUE n.val)) / 4194304
       t.fi (SENSE.SAMPLE.SAMPLE n.val) = clipSigned 32 v ∧ t.fb (SENSE.STAT.SAT n.val) = (clipSigned 32 v != v) ∧
       t.fb (SENSE.STAT.SETTLING n.val) = decide (0 < (s.senseCh n.val).settle) ∧
       t.fb (SENSE.STAT.HI n.val) = decide (s.fi (SENSE.THR_HI.VALUE n.val) < clipSigned 32 v) ∧
       t.fb (SENSE.STAT.LO n.val) = decide (clipSigned 32 v < s.fi (SENSE.THR_LO.VALUE n.val)) ∧
       t.fb (SENSE.STAT.OPEN n.val) = s.fb (SENSE.STAT.OPEN n.val)) ∧
      MirrorFrame s t [SENSE.SAMPLE n.val, SENSE.STAT n.val, hdr 0x15 3]) ∧
  (∀ (n : Fin 8) (bits : List Bool) (at_ : Nat) (s : State), s.enabled 0x15 = false ∨ s.fb (SENSE.CFG.EN n.val) = false →
    exec (.decimation n bits at_) s = .next s) ∧
  (∀ (n : Fin 8) (s : State), s.enabled 0x15 = true → s.fb (SENSE.CFG.EN n.val) = true →
    ∃ t, exec (.senseOpen n) s = .next t ∧ t.fb (SENSE.STAT.OPEN n.val) = true ∧ t.f (SENSE.IMP.VALUE n.val) = 0xFFFF ∧ Raised s t 0x15 0 ∧
      t.fb (SENSE.STAT.DRIFT n.val) = s.fb (SENSE.STAT.DRIFT n.val) ∧ MirrorFrame s t [SENSE.STAT n.val, SENSE.IMP n.val, hdr 0x15 3]) ∧
  (∀ (n : Fin 8) (s : State), s.enabled 0x15 = true → s.fb (SENSE.CFG.EN n.val) = true → s.fb (SENSE.STAT.OPEN n.val) = true →
    (∀ k < 8, s.fb (SENSE.TONE.EN k) = true → s.f (SENSE.TONE.CH k) ≠ n.val) →
    ∃ t, exec (.senseOpenCleared n) s = .next t ∧ t.fb (SENSE.STAT.OPEN n.val) = false ∧
      t.fb (SENSE.STAT.DRIFT n.val) = s.fb (SENSE.STAT.DRIFT n.val) ∧ MirrorFrame s t [SENSE.STAT n.val]) ∧
  (∀ (k : Fin 8) (s : State), s.enabled 0x15 = true → s.fb (SENSE.TONE.EN k.val) = true →
    s.fb (SENSE.CFG.EN (s.f (SENSE.TONE.CH k.val))) = true → s.steer.sense.length = 8 →
    ∃ t, exec (.testToneCheckStart k) s = .next t ∧ (t.senseCh (s.f (SENSE.TONE.CH k.val))).checking = true ∧
      (∀ i, i ≠ s.f (SENSE.TONE.CH k.val) → t.senseCh i = s.senseCh i) ∧ t = { s with steer := { s.steer with sense := t.steer.sense } }) ∧
  (∀ (k : Fin 8) (uv : Nat) (off : Bool) (s : State), (s.senseCh (s.f (SENSE.TONE.CH k.val))).checking = true →
    s.f (SENSE.TONE.AMP k.val) ≠ 0 → s.fb (SENSE.STAT.OPEN (s.f (SENSE.TONE.CH k.val))) = false →
    ∃ t, exec (.testToneCheckEnd k uv off) s = .next t ∧
      (let n := s.f (SENSE.TONE.CH k.val)
       let z := min 65535 (2 * uv / s.f (SENSE.TONE.AMP k.val))
       t.f (SENSE.IMP.VALUE n) = z ∧
       (z < s.f (SENSE.IMP_WIN.IMP_MIN n) ∨ s.f (SENSE.IMP_WIN.IMP_MAX n) < z → t.fb (SENSE.STAT.DRIFT n) = true ∧ Raised s t 0x15 1) ∧
       t.fb (SENSE.STAT.OPEN n) = false ∧ MirrorFrame s t [SENSE.IMP n, SENSE.STAT n, hdr 0x15 3])) ∧
  (∀ (k : Fin 8) (uv : Nat) (s : State), (s.senseCh (s.f (SENSE.TONE.CH k.val))).checking = true →
    s.f (SENSE.TONE.AMP k.val) ≠ 0 → s.fb (SENSE.STAT.OPEN (s.f (SENSE.TONE.CH k.val))) = true →
    s.f (SENSE.IMP_WIN.IMP_MIN (s.f (SENSE.TONE.CH k.val))) ≤ min 65535 (2 * uv / s.f (SENSE.TONE.AMP k.val)) →
    min 65535 (2 * uv / s.f (SENSE.TONE.AMP k.val)) ≤ s.f (SENSE.IMP_WIN.IMP_MAX (s.f (SENSE.TONE.CH k.val))) →
    ∃ t, exec (.testToneCheckEnd k uv true) s = .next t ∧ t.fb (SENSE.STAT.OPEN (s.f (SENSE.TONE.CH k.val))) = false ∧
      t.f (SENSE.IMP.VALUE (s.f (SENSE.TONE.CH k.val))) = min 65535 (2 * uv / s.f (SENSE.TONE.AMP k.val)) ∧
      MirrorFrame s t [SENSE.IMP (s.f (SENSE.TONE.CH k.val)), SENSE.STAT (s.f (SENSE.TONE.CH k.val)), hdr 0x15 3]) ∧
  ∀ (k : Fin 8) (uv : Nat) (off : Bool) (s : State), (s.senseCh (s.f (SENSE.TONE.CH k.val))).checking = false →
    exec (.testToneCheckEnd k uv off) s = .next s

/-- DAC updates and edges on SYNC_IN. The oldest code that is due goes to the DAC in time, or is missed and counted
where it comes late with DAC_LAT below 80. An edge on SYNC_IN makes a waiting time set take effect and arms a waiting
request with boundary 3. With SYNC_IN as the source in force, an edge within half a period of the last one is counted
as a glitch and does nothing else; an accepted one clears SYNC_LOST, is kept, and either moves the period estimate by
at most a quarter of the slew and shows the phase, or, after a loss outside locked RUN, moves the next frame boundary
to the target. Its loss sets SYNC_LOST and the unlocked state, counts, and makes the next edge restart the loop. Under
hypotheses on the state and the operands alone it concludes that exec answers a next state (each command completes)
for: dacUpdate, syncInEdge, syncLost. -/
def Obligations.MirrorDriveAndSync : Prop :=
  (∀ (a : Fin 2) (late : Bool) (code : Int) (rest : List Int) (s : State), (s.axis a.val).due = code :: rest → s.steer.axes.length = 2 →
    late = false ∨ 80 ≤ s.f STEER.PLAUS_CFG.DAC_LAT →
    ∃ t, exec (.dacUpdate a late) s = .next t ∧ t.f (STEER.DRIVE.VALUE a.val) = unsigned 16 code ∧ (t.axis a.val).due = rest ∧
      (t.axis a.val).missed = 0 ∧ t.f (STEER.STAT.MISSES a.val) = s.f (STEER.STAT.MISSES a.val) ∧ MirrorFrame s t []) ∧
  (∀ (a : Fin 2) (code : Int) (rest : List Int) (s : State), (s.axis a.val).due = code :: rest → s.steer.axes.length = 2 →
    s.f STEER.PLAUS_CFG.DAC_LAT < 80 →
    ∃ t, exec (.dacUpdate a true) s = .next t ∧ t.reg (STEER.DRIVE a.val) = s.reg (STEER.DRIVE a.val) ∧ (t.axis a.val).due = rest ∧
      (t.axis a.val).missed = (s.axis a.val).missed + 1 ∧
      t.f (STEER.STAT.MISSES a.val) = satAdd (STEER.STAT.MISSES a.val).width (s.f (STEER.STAT.MISSES a.val)) 1 ∧
      (t.reg (hdr 0x14 3)).getLsbD 4 = true ∧
      (3 ≤ (s.axis a.val).missed → t.cause 8 = true ∧ t.fb STEER.PLAUS.PLAUSIBLE = false) ∧ MirrorFrame s t []) ∧
  (∀ (a : Fin 2) (late : Bool) (s : State), (s.axis a.val).due = [] → exec (.dacUpdate a late) s = .next s) ∧
  (∀ (edge : Nat) (s : State), s.steer.frame.sync = false → s.timeSet = none → s.commits = [] → s.ispHeld = none → s.img.cfg = none →
    exec (.syncInEdge edge) s = .next s) ∧
  (∀ (edge : Nat) (v : TimeSet) (s : State), s.steer.frame.sync = false → s.timeSet = some v → s.commits = [] → s.ispHeld = none →
    s.img.cfg = none → ∃ t, exec (.syncInEdge edge) s = .next t ∧ TimeSetTo s t (10 * v.value) ∧
      SameWords s t (if v.packet then [TIME.STAT, hdr 0x06 3, hdr 0x48 3] else [TIME.STAT, hdr 0x06 3])) ∧
  (∀ (edge : Nat) (r : CommitReq) (s : State), s.steer.frame.sync = false → s.timeSet = none → s.commits = [r] → r.boundary = 3 →
    lidarPage r.page = true → s.ispHeld = none → s.img.cfg = none →
    exec (.syncInEdge edge) s = .next { s with commits := [{ r with armed := true }] }) ∧
  (∀ (edge last : Nat) (s : State), s.steer.frame.sync = true → s.steer.frame.lastEdge = some last →
    edge < last + s.steer.frame.pEst / 131072 →
    ∃ t, exec (.syncInEdge edge) s = .next t ∧ t.f STEER.SYNC_CNT.GLITCH = satAdd 16 (s.f STEER.SYNC_CNT.GLITCH) 1 ∧ Raised s t 0x14 6 ∧
      SameWords s t [STEER.SYNC_CNT, hdr 0x14 3] ∧ OnlyEvents s t) ∧
  (∀ (edge : Nat) (s : State), s.steer.frame.sync = true → (∀ last, s.steer.frame.lastEdge = some last → last + s.steer.frame.pEst / 131072 ≤ edge) →
    s.timeSet = none → s.commits = [] → s.ispHeld = none → s.img.cfg = none → s.steer.frame.restart = false →
    20833334 * 65536 ≤ s.steer.frame.pEst → s.steer.frame.pEst ≤ 125000000 * 65536 →
    ∃ t, exec (.syncInEdge edge) s = .next t ∧ t.steer.frame.lastEdge = some edge ∧ t.fb STEER.LOCK_STAT.SYNC_LOST = false ∧
      (let slew := s.steer.frame.pEst * max 1 (s.f STEER.LOCK_CFG.SLEW) / 65536
       t.steer.frame.pEst ≤ s.steer.frame.pEst + slew / 4 ∧ s.steer.frame.pEst ≤ t.steer.frame.pEst + slew / 4 ∧
       20833334 * 65536 ≤ t.steer.frame.pEst ∧ t.steer.frame.pEst ≤ 125000000 * 65536) ∧
      t.f STEER.PHASE_ERR.VALUE = unsigned 32 (s.syncPhase (edge + s.f STEER.SYNC_DELAY.VALUE)) ∧
      (s.f STEER.LOCK_CFG.LOCK_TOL < (s.syncPhase (edge + s.f STEER.SYNC_DELAY.VALUE)).natAbs → t.f STEER.LOCK_STAT.STATE = 1) ∧
      t.steer.frame.start = s.steer.frame.start ∧ t.steer.frame.length = s.steer.frame.length ∧
      SameWords s t [STEER.LOCK_STAT, STEER.PHASE_ERR, STEER.PERIOD_EST, hdr 0x14 3] ∧ SameMemory s t ∧ t.shadow = s.shadow ∧
      t.time = s.time ∧ t.deal = s.deal ∧ t.pwr = s.pwr) ∧
  (∀ (edge : Nat) (s : State), s.steer.frame.sync = true → s.steer.frame.lastEdge = none → s.timeSet = none → s.commits = [] →
    s.ispHeld = none → s.img.cfg = none → s.steer.frame.restart = true → ¬(s.pwr.st = .run ∧ s.steer.mode = 2) →
    ∃ t, exec (.syncInEdge edge) s = .next t ∧ t.steer.frame.lastEdge = some edge ∧ t.steer.frame.restart = false ∧
      t.steer.frame.moved = some (if s.f STEER.SYNC_DELAY.VALUE < 2500 then edge + s.f STEER.SYNC_DELAY.VALUE + s.steer.frame.pEst / 65536
        else edge + s.f STEER.SYNC_DELAY.VALUE) ∧
      t.f STEER.LOCK_STAT.STATE = 1 ∧ t.fb STEER.LOCK_STAT.SYNC_LOST = false ∧ SameWords s t [STEER.LOCK_STAT, STEER.PHASE_ERR] ∧
      SameMemory s t ∧ t.shadow = s.shadow ∧ t.time = s.time ∧ t.pwr = s.pwr) ∧
  (∀ (last : Nat) (s : State), s.steer.frame.sync = true → s.steer.frame.lastEdge = some last → s.fb STEER.LOCK_STAT.SYNC_LOST = false →
    ∃ t, exec .syncLost s = .next t ∧ t.fb STEER.LOCK_STAT.SYNC_LOST = true ∧ t.f STEER.LOCK_STAT.STATE = 0 ∧
      t.f STEER.SYNC_CNT.LOST = satAdd 16 (s.f STEER.SYNC_CNT.LOST) 1 ∧ t.steer.frame.restart = true ∧ t.steer.frame.adjusts = [] ∧
      t.steer.frame.pEst = s.steer.frame.pEst ∧ Raised s t 0x14 0 ∧ SameWords s t [STEER.LOCK_STAT, STEER.SYNC_CNT, hdr 0x14 3] ∧
      SameMemory s t ∧ t.shadow = s.shadow ∧ t.time = s.time ∧ t.deal = s.deal ∧ t.pwr = s.pwr) ∧
  ∀ s : State, s.steer.frame.sync = false → exec .syncLost s = .next s

/-- Outside these words no register has changed, and nothing else but the timing stage and what an event sends (R84, R104). -/
def RetFrame (s t : State) (ws : List Nat) : Prop :=
  SameWords s t ws ∧ SameMemory s t ∧ t.shadow = s.shadow ∧ t.time = s.time ∧ t.deal = s.deal ∧ t.hist = s.hist ∧ t.pwr = s.pwr ∧
  t.safe = s.safe ∧ t.pending = s.pending

/-- Leading edges, conversions, collection visits, shot markers and the DUMMY event. An edge of a usable channel in
its armed window, past the dead time and 25 TCLK after the last timed one, is counted in EDGES and waits for its
conversion; a closer one is counted as pile-up; an edge in the dead time, or of an unusable channel, does nothing. A
good conversion inside the gate goes to the output path as R20's word. A visit moves one event, which it counts, or
one marker when nothing else waits, to the slice. A marker is placed behind the channel's events, and the 64th armed
window with the comparator high sets STUCK. A DUMMY conversion shows its TIME with VALID, and ERR when it is off by
more than TOL; a missing one sets ERR and is counted. Under hypotheses on the state and the operands alone it
concludes that exec answers a next state (each command completes) for: leadingEdge, tdcConversion, collectionVisit,
shotMarker, dummyMissing. -/
def Obligations.EdgesAndConversions : Prop :=
  (∀ (r c : Fin 384) (at_ : Nat) (arm : Bool) (a : Armed) (s : State), s.channelOf r.val = some c.val → s.chanOff c.val = false →
    s.chanCal c.val = false → s.ret.chans.length = 384 → (s.chan c.val).shot = some a → a.open_ ≤ at_ → at_ < a.close →
    (∀ l, (s.chan c.val).lastEdge = some l → l + 160 * s.f (AFE.CFG.DEAD (r.val / 48) (r.val % 48)) ≤ at_) →
    (∀ l, (s.chan c.val).lastTimed = some l → l + 3200 ≤ at_) →
    s.fb (TDC.STAT.ON_KITTY (c.val / 48) (c.val % 48)) = false → s.fb (TDC.STAT.FAILED (c.val / 48) (c.val % 48)) = false →
    s.f (TDC.WIN.ARMX (c.val / 48)) ≠ 2 →
    ∃ t, exec (.leadingEdge r at_ arm) s = .next t ∧
      (t.chan c.val).edges = (s.chan c.val).edges ++ [⟨a.tag, at_ / 128 - a.fire, a.start, a.stop, false, none⟩] ∧
      (t.chan c.val).lastEdge = some at_ ∧ (t.chan c.val).lastTimed = some at_ ∧ (t.chan c.val).out = (s.chan c.val).out ∧
      t.f (AFE.STAT.EDGES (r.val / 48) (r.val % 48)) = satAdd 16 (s.f (AFE.STAT.EDGES (r.val / 48) (r.val % 48))) 1 ∧
      t.fb (AFE.STAT.STUCK (r.val / 48) (r.val % 48)) = false ∧ (∀ d, d ≠ c.val → t.chan d = s.chan d) ∧
      SameWords s t [AFE.STAT (r.val / 48) (r.val % 48)] ∧ t = { s with regs := t.regs, ret := t.ret }) ∧
  (∀ (r c : Fin 384) (at_ l : Nat) (arm : Bool) (a : Armed) (s : State), s.channelOf r.val = some c.val → s.chanOff c.val = false →
    s.chanCal c.val = false → s.ret.chans.length = 384 → (s.chan c.val).shot = some a → a.open_ ≤ at_ → at_ < a.close →
    (∀ l, (s.chan c.val).lastEdge = some l → l + 160 * s.f (AFE.CFG.DEAD (r.val / 48) (r.val % 48)) ≤ at_) →
    (s.chan c.val).lastTimed = some l → at_ < l + 3200 →
    ∃ t, exec (.leadingEdge r at_ arm) s = .next t ∧ (t.chan c.val).edges = (s.chan c.val).edges ∧
      t.f (TDC.CNT.PILEUP (r.val / 48) (c.val % 48)) = satAdd 16 (s.f (TDC.CNT.PILEUP (r.val / 48) (c.val % 48))) 1 ∧
      (t.chan c.val).sum.pileup = (s.chan c.val).sum.pileup + 1 ∧ (t.chan c.val).lastTimed = some l ∧
      SameWords s t [AFE.STAT (r.val / 48) (r.val % 48), TDC.CNT (r.val / 48) (c.val % 48)] ∧
      t = { s with regs := t.regs, ret := t.ret }) ∧
  (∀ (r : Fin 384) (at_ : Nat) (arm : Bool) (s : State),
    (s.channelOf r.val = none → exec (.leadingEdge r at_ arm) s = .next s) ∧
    (∀ c, s.channelOf r.val = some c → (s.chanOff c = true ∨ s.chanCal c = true ∨
      ∃ l, (s.chan c).lastEdge = some l ∧ at_ < l + 160 * s.f (AFE.CFG.DEAD (r.val / 48) (r.val % 48))) →
      exec (.leadingEdge r at_ arm) s = .next s)) ∧
  (∀ (c : Fin 384) (raw : Fin 1024) (tot : TotEdges) (diff : Nat) (e : Capture) (es : List Capture) (s : State), s.ret.chans.length = 384 →
    (s.chan c.val).edges = e :: es → e.kitty = none → e.drop = false → (s.chan c.val).loopLost = false →
    healthCause (s.f (TDC.LIN.RAW_LO (c.val / 48) (c.val % 48))) (s.f (TDC.LIN.RAW_HI (c.val / 48) (c.val % 48))) raw.val diff = none →
    ∃ t, exec (.tdcConversion (.channel c) raw diff tot) s = .next t ∧ (t.chan c.val).edges = es ∧
      (let time := s.timeOf c.val none e.n raw.val
       ((e.start ≤ time ∧ time < e.stop) → bufferFill (s.chan c.val).out none < 40 →
         (t.chan c.val).out = (s.chan c.val).out ++ [.event (eventWord c.val e.tag time.toNat) (totCode tot.rise tot.fall) none] ∧
         t.regs = s.regs) ∧
       ((e.start ≤ time ∧ time < e.stop) → 40 ≤ bufferFill (s.chan c.val).out none →
         (t.chan c.val).out = (s.chan c.val).out ∧ Raised s t (0x28 + c.val / 48) 1 ∧ (t.chan c.val).sum.ovf = true ∧
         t.f (TDC.CNT.OVF (c.val / 48) (c.val % 48)) = satAdd 16 (s.f (TDC.CNT.OVF (c.val / 48) (c.val % 48))) 1 ∧
         SameWords s t [TDC.CNT (c.val / 48) (c.val % 48), hdr (0x28 + c.val / 48) 3]) ∧
       (time < e.start ∨ (e.stop : Int) ≤ time → (t.chan c.val).out = (s.chan c.val).out ∧ t.regs = s.regs)) ∧
      (∀ d, d ≠ c.val → t.chan d = s.chan d) ∧ SameMemory s t ∧ t.shadow = s.shadow ∧ t.time = s.time ∧ t.deal = s.deal ∧ t.hist = s.hist) ∧
  (∀ (c : Fin 384) (w : Word36) (tot : Nat) (q : Option Nat) (r : List OutItem) (s : State), (s.chan c.val).out = .event w tot q :: r →
    fifoFill (s.fifo (c.val / 12)) < 2048 → s.ret.chans.length = 384 → s.hist.fifos.length = 32 →
    ∃ t, exec (.collectionVisit c) s = .next t ∧ (t.chan c.val).out = r ∧
      t.fifo (c.val / 12) = s.fifo (c.val / 12) ++ [(c.val, .event w tot q)] ∧ (∀ d, d ≠ c.val → t.chan d = s.chan d) ∧
      t.f (TDC.EVENTS.VALUE (c.val / 48) (c.val % 48)) = satAdd 32 (s.f (TDC.EVENTS.VALUE (c.val / 48) (c.val % 48))) 1 ∧
      (∀ k, k ≠ c.val / 12 → t.fifo k = s.fifo k) ∧
      SameWords s t [DEAL.THROTTLE_STAT, hdr 0x10 3, TDC.EVENTS (c.val / 48) (c.val % 48)] ∧ SameMemory s t ∧ t.time = s.time) ∧
  (∀ (c : Fin 384) (m : Bool) (r : List OutItem) (s : State), (s.chan c.val).out = .marker m :: r → (∀ i ∈ r, ∃ b, i = .marker b) →
    fifoFill (s.fifo (c.val / 12)) < 2048 → s.ret.chans.length = 384 → s.hist.fifos.length = 32 →
    ∃ t, exec (.collectionVisit c) s = .next t ∧ (t.chan c.val).out = r ∧
      t.fifo (c.val / 12) = s.fifo (c.val / 12) ++ [(c.val, .marker m)] ∧ (∀ d, d ≠ c.val → t.chan d = s.chan d) ∧
      (∀ k, k ≠ c.val / 12 → t.fifo k = s.fifo k) ∧ SameWords s t [DEAL.THROTTLE_STAT, hdr 0x10 3] ∧ SameMemory s t ∧ t.time = s.time) ∧
  (∀ (c : Fin 384) (s : State), 2048 ≤ fifoFill (s.fifo (c.val / 12)) → exec (.collectionVisit c) s = .next s) ∧
  (∀ (c : Fin 384) (high : Bool) (h : Hand) (s : State), s.handOf (s.chan c.val).markHand = some h → s.ret.chans.length = 384 →
    (s.chan c.val).sum.disabled = false → (s.chan c.val).marks < h.sEff →
    ∃ t, exec (.shotMarker c high) s = .next t ∧
      (t.chan c.val).out = (s.chan c.val).out ++ [.marker ((s.chan c.val).armedSlots.contains (h.count, (s.chan c.val).marks))] ∧
      (t.chan c.val).armedSlots = (s.chan c.val).armedSlots.filter (· != (h.count, (s.chan c.val).marks)) ∧
      (t.chan c.val).gap = (t.chan c.val).armedSlots.isEmpty ∧
      ((s.chan c.val).marks + 1 < h.sEff →
        (t.chan c.val).marks = (s.chan c.val).marks + 1 ∧ (t.chan c.val).markHand = (s.chan c.val).markHand) ∧
      (h.sEff ≤ (s.chan c.val).marks + 1 → (t.chan c.val).marks = 0 ∧ (t.chan c.val).markHand = (s.chan c.val).markHand + 1) ∧
      ((s.chan c.val).armedSlots.contains (h.count, (s.chan c.val).marks) = true → high = true → (s.chan c.val).stuck = 63 →
        t.fb (AFE.STAT.STUCK (s.srcOf c.val / 48) (s.srcOf c.val % 48)) = true ∧ Raised s t (0x20 + s.srcOf c.val / 48) 0) ∧
      (∀ d, d ≠ c.val → t.chan d = s.chan d) ∧
      RetFrame s t [AFE.STAT (s.srcOf c.val / 48) (s.srcOf c.val % 48), hdr (0x20 + s.srcOf c.val / 48) 3]) ∧
  (∀ (n : Nat) (raw : Fin 1024) (tot : TotEdges) (diff : Nat) (d : DummyEdge) (s : State), s.ret.dummy = some d → s.f HIST.MODE.MODE ≠ 2 →
    s.supv.dummyFails < 2 → s.supv.dummyPasses < 63 →
    healthCause (s.f (KITTY.LIN.RAW_LO d.kitty)) (s.f (KITTY.LIN.RAW_HI d.kitty)) raw.val diff = none →
    ∃ t, exec (.tdcConversion (.dummy n) raw diff tot) s = .next t ∧ t.ret.dummy = none ∧ t.fb KITTY.DUMMY_LAST.VALID = true ∧
      (let time := 128 * ((n : Int) + 1) - fineCode (s.f (KITTY.LIN.RAW_LO d.kitty)) (s.f (KITTY.LIN.RAW_HI d.kitty))
         (s.f (KITTY.INL_A.INL d.kitty)) (s.f (KITTY.INL_B.INL d.kitty)) raw.val
       t.f KITTY.DUMMY_LAST.TIME = time.toNat % 2 ^ 22 ∧
       ((time - s.dummyExpected).natAbs ≤ s.f KITTY.DUMMY_CFG.TOL → t.fb KITTY.DUMMY_LAST.ERR = false ∧ SameWords s t [KITTY.DUMMY_LAST]) ∧
       (s.f KITTY.DUMMY_CFG.TOL < (time - s.dummyExpected).natAbs → t.fb KITTY.DUMMY_LAST.ERR = true ∧ Raised s t 0x30 2 ∧
         t.f KITTY.DUMMY_CNT.FAIL = satAdd 16 (s.f KITTY.DUMMY_CNT.FAIL) 1)) ∧
      RetFrame s t [KITTY.DUMMY_LAST, KITTY.DUMMY_CNT, hdr 0x30 3]) ∧
  (∀ (d : DummyEdge) (s : State), s.ret.dummy = some d → s.supv.dummyFails < 2 →
    ∃ t, exec .dummyMissing s = .next t ∧ t.ret.dummy = none ∧ t.fb KITTY.DUMMY_LAST.ERR = true ∧ Raised s t 0x30 2 ∧
      t.f KITTY.DUMMY_CNT.FAIL = satAdd 16 (s.f KITTY.DUMMY_CNT.FAIL) 1 ∧ t.supv.dummyFails = s.supv.dummyFails + 1 ∧
      RetFrame s t [KITTY.DUMMY_LAST, KITTY.DUMMY_CNT, hdr 0x30 3]) ∧
  ∀ s : State, s.ret.dummy = none → exec .dummyMissing s = .next s

/-- The own TDC of channel `c` has been marked failed with a cause, and kitty TDC `n`, the lowest free one, is spare for the
channel, which moves at its next gap (R207, R208, R210). -/
def TdcReplaced (s t : State) (c n cause : Nat) : Prop :=
  t.fb (TDC.STAT.FAILED (c / 48) (c % 48)) = true ∧ t.f (TDC.STAT.CAUSE (c / 48) (c % 48)) = cause ∧ t.kitState n = 1 ∧
  t.f (KITTY.ASSIGN.CH n) = c ∧ (t.chan c).move = some (.kitty n) ∧ Raised s t (0x28 + c / 48) 0 ∧ Raised s t 0x30 0 ∧
  (∀ d, d ≠ c → t.chan d = s.chan d) ∧
  RetFrame s t [TDC.STAT (c / 48) (c % 48), TDC.FAILED0 (c / 48), TDC.FAILED1 (c / 48), KITTY.ASSIGN n, KITTY.SUMMARY,
    hdr (0x28 + c / 48) 3, hdr 0x30 3]

/-- Failed TDCs, moves to and from the kitty, delay-locked loops, retests and the detector bias. With a kitty TDC
free, a conversion outside the health limits or not complete in time marks the own TDC failed, with causes 1, 3 or 2,
and makes the lowest free kitty TDC spare for the channel. A move at an instant in the channel’s gap with 4 TCLK of it
left puts the channel on that TDC, or back on its own with the kitty TDC free again. The active loop's loss hands over
to the locked other one; with neither locked every TDC of the page is failed with cause 6; a lost loop is retried and
locks again as the standby. FAIL_CLR of a failed TDC starts a retest, any other is an error; a passed retest clears
FAILED and returns the channel, a failed one gives cause 5. A second DBIAS conversion in a row outside the window sets
OUT, a second one inside clears it. Under hypotheses on the state and the operands alone it concludes that exec
answers a next state (each command completes) for: tdcConversion, kittyMove, dllLockLoss, dllRetry, dllRelock,
tdcFailClr, tdcRetestDone, dbiasConversion, tdcConversionTimeout. -/
def Obligations.TdcFaultsAndKitty : Prop :=
  (∀ (c : Fin 384) (raw : Fin 1024) (tot : TotEdges) (diff n cause : Nat) (e : Capture) (es : List Capture) (s : State), s.ret.chans.length = 384 →
    (s.chan c.val).edges = e :: es → e.kitty = none → s.fb (TDC.STAT.FAILED (c.val / 48) (c.val % 48)) = false →
    s.kitOf c.val = none → s.enabled 0x30 = true → s.lowestKit 0 = some n →
    ((s.chan c.val).loopLost = false →
      healthCause (s.f (TDC.LIN.RAW_LO (c.val / 48) (c.val % 48))) (s.f (TDC.LIN.RAW_HI (c.val / 48) (c.val % 48))) raw.val diff = some cause →
      ∃ t, exec (.tdcConversion (.channel c) raw diff tot) s = .next t ∧ TdcReplaced s t c.val n cause) ∧
    ∃ t, exec (.tdcConversionTimeout (.channel c)) s = .next t ∧ TdcReplaced s t c.val n 2) ∧
  (∀ (c : Fin 384) (s : State), (s.chan c.val).edges = [] → exec (.tdcConversionTimeout (.channel c)) s = .next s) ∧
  (∀ (n : Nat) (d : DummyEdge) (s : State), s.ret.dummy = some d → d.kitty < 16 → s.kitState d.kitty = 3 →
    ∃ t, exec (.tdcConversionTimeout (.dummy n)) s = .next t ∧ t.kitState d.kitty = 7 ∧ t.f (KITTY.ASSIGN.CH d.kitty) = 0 ∧
      t.ret = s.ret ∧ (∃ k < 8, Raised s t (0x28 + k) 0 ∧
        SameWords s t [KITTY.ASSIGN d.kitty, KITTY.SUMMARY, hdr (0x28 + k) 3]) ∧
      t.shadow = s.shadow ∧ t.time = s.time ∧ t.deal = s.deal ∧ t.hist = s.hist ∧ t.pwr = s.pwr) ∧
  (∀ (c : Fin 384) (at_ n : Nat) (s : State), (s.chan c.val).move = some (.kitty n) → n < 16 → s.ret.chans.length = 384 →
    s.inGap c.val at_ = true →
    (∀ d < 384, d ≠ c.val → s.fb (TDC.STAT.ON_KITTY (d / 48) (d % 48)) = true → s.f (TDC.STAT.KIT (d / 48) (d % 48)) ≠ n) →
    ∃ t, exec (.kittyMove ⟨c, at_⟩) s = .next t ∧ t.fb (TDC.STAT.ON_KITTY (c.val / 48) (c.val % 48)) = true ∧
      t.f (TDC.STAT.KIT (c.val / 48) (c.val % 48)) = n ∧ (t.chan c.val).move = none ∧ (t.chan c.val).sum.subst = true ∧
      (∀ d, d ≠ c.val → t.chan d = s.chan d) ∧ SameWords s t [TDC.STAT (c.val / 48) (c.val % 48)] ∧
      t = { s with regs := t.regs, ret := t.ret }) ∧
  (∀ (c : Fin 384) (at_ : Nat) (s : State), (s.chan c.val).move = some .own → s.ret.chans.length = 384 → s.inGap c.val at_ = true →
    ∃ t, exec (.kittyMove ⟨c, at_⟩) s = .next t ∧ t.fb (TDC.STAT.ON_KITTY (c.val / 48) (c.val % 48)) = false ∧ (t.chan c.val).move = none ∧
      (let n := s.f (TDC.STAT.KIT (c.val / 48) (c.val % 48))
       (s.fb (TDC.STAT.ON_KITTY (c.val / 48) (c.val % 48)) = true → s.kitState n ∈ [1, 2, 4] → s.f (KITTY.ASSIGN.CH n) = c.val →
         t.kitState n = 0) ∧
       SameWords s t [TDC.STAT (c.val / 48) (c.val % 48), KITTY.ASSIGN n, KITTY.SUMMARY]) ∧
      t = { s with regs := t.regs, ret := t.ret }) ∧
  (∀ (c : Fin 384) (at_ : Nat) (s : State), (s.chan c.val).move = none ∨ s.inGap c.val at_ = false → exec (.kittyMove ⟨c, at_⟩) s = .next s) ∧
  (∀ (k : Fin 8) (b : Bool) (s : State), s.fb (lockField k.val (b2n b)) = true → s.fb (lockField k.val (1 - b2n b)) = true →
    s.f (TDC.DLL.ACTIVE k.val) = b2n b → s.ret.chans.length = 384 →
    ∃ t, exec (.dllLockLoss k b) s = .next t ∧ t.fb (lockField k.val (b2n b)) = false ∧ t.fb (lockField k.val (1 - b2n b)) = true ∧
      t.f (TDC.DLL.ACTIVE k.val) = 1 - b2n b ∧ Raised s t (0x28 + k.val) 2 ∧ 2 * k.val + b2n b ∈ t.ret.retrying ∧
      (∀ m < 48, (t.chan (48 * k.val + m)).loopLost = true ∨
        ((s.chan (48 * k.val + m)).gap = true ∧ (s.chan (48 * k.val + m)).edges = [])) ∧
      RetFrame s t [TDC.DLL k.val, hdr (0x28 + k.val) 3]) ∧
  (∀ (k : Fin 8) (b : Bool) (s : State), s.fb (lockField k.val (b2n b)) = true → s.fb (lockField k.val (1 - b2n b)) = false →
    ∃ t, exec (.dllLockLoss k b) s = .next t ∧ t.fb (lockField k.val (b2n b)) = false ∧
      (∀ m < 48, t.fb (TDC.STAT.FAILED k.val m) = true ∧ t.f (TDC.STAT.CAUSE k.val m) = 6) ∧
      (∀ p < 8, p ≠ k.val → ∀ m < 48, t.reg (TDC.STAT p m) = s.reg (TDC.STAT p m)) ∧ SameMemory s t ∧ t.shadow = s.shadow ∧ t.time = s.time) ∧
  (∀ (k : Fin 8) (b : Bool) (s : State), s.fb (lockField k.val (b2n b)) = false → exec (.dllLockLoss k b) s = .next s) ∧
  (∀ (k : Fin 8) (b : Bool) (s : State), s.fb (lockField k.val (b2n b)) = false → s.fb (lockField k.val (1 - b2n b)) = true →
    (∀ e ∈ s.cal.dlls, e.1 ≠ 2 * k.val + b2n b) →
    ∃ t, exec (.dllRetry k) s = .next t ∧ 2 * k.val + b2n b ∈ t.ret.retrying ∧ t = { s with ret := { s.ret with retrying := t.ret.retrying } }) ∧
  (∀ (k : Fin 8) (b : Bool) (s : State), 2 * k.val + b2n b ∈ s.ret.retrying →
    ∃ t, exec (.dllRelock k b) s = .next t ∧ t.fb (lockField k.val (b2n b)) = true ∧ 2 * k.val + b2n b ∉ t.ret.retrying ∧
      t.f (TDC.DLL.ACTIVE k.val) = s.f (TDC.DLL.ACTIVE k.val) ∧ SameWords s t [TDC.DLL k.val] ∧ t = { s with regs := t.regs, ret := t.ret }) ∧
  (∀ (src : Port) (k : Fin 8) (m : Fin 64) (s : State), m.val < 48 → s.fb (TDC.STAT.FAILED k.val m.val) = true → s.ret.chans.length = 384 →
    ∃ t, exec (.tdcFailClr src k m) s = .next t ∧ (t.chan (48 * k.val + m.val)).retest = true ∧ t = { s with ret := t.ret }) ∧
  (∀ (src : Port) (k : Fin 8) (m : Fin 64) (s : State), 48 ≤ m.val ∨ s.fb (TDC.STAT.FAILED k.val m.val) = false →
    ∃ t, exec (.tdcFailClr src k m) s = .next t ∧ ErrorRaised s t 0x05 (portSrc src) (TDC.FAIL_CLR k.val)) ∧
  (∀ (c : Fin 384) (s : State), (s.chan c.val).retest = true → s.ret.chans.length = 384 →
    (∃ t, exec (.tdcRetestDone c false) s = .next t ∧ t.f (TDC.STAT.CAUSE (c.val / 48) (c.val % 48)) = 5 ∧
      t.fb (TDC.STAT.FAILED (c.val / 48) (c.val % 48)) = s.fb (TDC.STAT.FAILED (c.val / 48) (c.val % 48)) ∧ (t.chan c.val).retest = false ∧
      SameWords s t [TDC.STAT (c.val / 48) (c.val % 48)] ∧ t = { s with regs := t.regs, ret := t.ret }) ∧
    ∃ t, exec (.tdcRetestDone c true) s = .next t ∧ t.fb (TDC.STAT.FAILED (c.val / 48) (c.val % 48)) = false ∧
      t.f (TDC.STAT.CAUSE (c.val / 48) (c.val % 48)) = 0 ∧ (t.chan c.val).retest = false ∧ (t.chan c.val).noTdc = false ∧
      (∀ n, s.kitOf c.val = some n → s.hostNames c.val = false → (t.chan c.val).move = some .own) ∧
      t = { s with regs := t.regs, ret := t.ret }) ∧
  (∀ (c : Fin 384) (pass : Bool) (s : State), (s.chan c.val).retest = false → exec (.tdcRetestDone c pass) s = .next s) ∧
  (∀ (v : Fin 2048) (s : State), nth s.pwr.domains 2 .off = .on → s.img.activating = false → s.img.fw = none →
    v.val < s.f (AFE.DBIAS_WIN.DBIAS_LO 0) ∨ s.f (AFE.DBIAS_WIN.DBIAS_HI 0) < v.val →
    ∃ t, exec (.dbiasConversion v) s = .next t ∧ t.f (AFE.DBIAS_VAL.VALUE 0) = v.val ∧ t.ret.biasOut = s.ret.biasOut + 1 ∧
      t.ret.biasIn = 0 ∧ (s.ret.biasOut = 1 → t.fb (AFE.DBIAS_VAL.OUT 0) = true ∧ Raised s t 0x20 2) ∧
      (s.ret.biasOut ≠ 1 → t.fb (AFE.DBIAS_VAL.OUT 0) = s.fb (AFE.DBIAS_VAL.OUT 0)) ∧ RetFrame s t [AFE.DBIAS_VAL 0, hdr 0x20 3]) ∧
  ∀ (v : Fin 2048) (s : State), nth s.pwr.domains 2 .off = .on → s.f (AFE.DBIAS_WIN.DBIAS_LO 0) ≤ v.val →
    v.val ≤ s.f (AFE.DBIAS_WIN.DBIAS_HI 0) →
    ∃ t, exec (.dbiasConversion v) s = .next t ∧ t.f (AFE.DBIAS_VAL.VALUE 0) = v.val ∧ t.ret.biasOut = 0 ∧
      (1 ≤ s.ret.biasIn → t.fb (AFE.DBIAS_VAL.OUT 0) = false) ∧ RetFrame s t [AFE.DBIAS_VAL 0]

/-- Events and markers retired by a slice, and the end of trick placement. In RUN, with HIST enabled in the hand and
another mode than raw dump, an event retired raises its coarse bin by one, or at 0x3_FFFF leaves it and sets the
slice's SAT bit; it acts on the peak tracker and adds to the totals; where its shot feeds the tricks, the fine bin
that holds it rises with it; every other word of memory is left. A marker moves its channel to the next slot and
counts its shot; that of the last slot closes the hand and opens the other buffer, which then reads zero. Placement
that ends makes the tricks live and records the longest time. A slice whose oldest item is of the other kind, or that
has none, does nothing. Under hypotheses on the state and the operands alone it concludes that exec answers a next
state (each command completes) for: sliceEventRetire, markerRetire, trickPlacementDone. -/
def Obligations.SliceWork : Prop :=
  (∀ (k : Fin 32) (c tot : Nat) (w : Word36) (q : Option Nat) (rest : List (Nat × OutItem)) (s : State),
    s.fifo k.val = (c, .event w tot q) :: rest → c < 384 → s.hist.fifos.length = 32 → s.hist.chans.length = 384 →
    (s.asHand (s.hch c).count).enabled 0x38 = true → (s.asHand (s.hch c).count).f HIST.MODE.MODE ≠ 2 →
    bitsOf w.toNat 0 22 / (s.asHand (s.hch c).count).binW < 2048 → (s.hch c).tricks.length ≤ 4 → s.pwr.st = .run →
    ∃ t, exec (.sliceEventRetire k) s = .next t ∧ t.fifo k.val = rest ∧
      (let x := s.hch c
       let n := s.asHand x.count
       let b := bitsOf w.toNat 0 22 / n.binW
       (s.coarse c x.count b ≠ 0x3FFFF → t.coarse c x.count b = s.coarse c x.count b + 1 ∧
         (t.hch c).cands = trackCand x.cands b (s.coarse c x.count b + 1)) ∧
       (s.coarse c x.count b = 0x3FFFF → t.coarse c x.count b = 0x3FFFF ∧ bitOf (t.f HIST.SAT.SLICE) (c / 12) = true) ∧
       (t.hch c).total = x.total + 1 ∧ (t.hch c).count = x.count ∧ (t.hch c).slot = x.slot ∧ (t.hch c).tricks = x.tricks ∧
       (∀ j i, x.slot ∈ x.fed → fineHit x.tricks n.fineW (bitsOf w.toNat 0 22) = some (j, i) → s.fineBin c x.count j i ≠ 0x3FFFF →
         t.fineBin c x.count j i = s.fineBin c x.count j i + 1) ∧
       (∀ a, a ≠ coarseAddr c x.count (b / 2) →
         (∀ e ∈ (fineHit x.tricks n.fineW (bitsOf w.toNat 0 22)).toList, x.slot ∈ x.fed → a ≠ fineAddr c x.count e.1 (e.2 / 2)) →
         t.rd a = s.rd a)) ∧
      (∀ d, d ≠ c → t.hch d = s.hch d) ∧ SameWords s t [HIST.SAT, hdr 0x38 3, DEAL.THROTTLE_STAT, hdr 0x10 3] ∧ t.time = s.time ∧
      t.ret = s.ret ∧ t.deal = s.deal) ∧
  (∀ (k : Fin 32) (c : Nat) (m : Bool) (rest : List (Nat × OutItem)) (h : Hand) (s : State), s.fifo k.val = (c, .marker m) :: rest →
    c < 384 → s.hist.fifos.length = 32 → s.hist.chans.length = 384 → s.handOf (s.hch c).count = some h →
    (s.hch c).slot + 1 ≠ h.openSlots → (s.hch c).slot + 1 < h.sEff →
    ∃ t, exec (.markerRetire k) s = .next t ∧ t.fifo k.val = rest ∧
      t.hch c = { s.hch c with
        slot := (s.hch c).slot + 1
        openShots := (s.hch c).openShots + (if (s.hch c).slot < h.openSlots then b2n m else 0)
        trickShots := (s.hch c).trickShots + (if (s.hch c).slot < h.openSlots then 0 else b2n m) } ∧
      (∀ d, d ≠ c → t.hch d = s.hch d) ∧ SameWords s t [DEAL.THROTTLE_STAT, hdr 0x10 3] ∧ SameMemory s t ∧ t.time = s.time ∧
      t.hist.closed = s.hist.closed) ∧
  (∀ (k : Fin 32) (c : Nat) (m : Bool) (rest : List (Nat × OutItem)) (h : Hand) (s : State), s.fifo k.val = (c, .marker m) :: rest →
    c < 384 → s.hist.fifos.length = 32 → s.hist.chans.length = 384 → s.hist.closed.length = 384 → s.handOf (s.hch c).count = some h →
    (s.hch c).slot + 1 ≠ h.openSlots → h.sEff ≤ (s.hch c).slot + 1 → (s.asHand (s.hch c).count).enabled 0x38 = true →
    (s.asHand (s.hch c).count).f HIST.MODE.MODE ≠ 2 → s.pwr.st = .run →
    ∃ t, exec (.markerRetire k) s = .next t ∧ t.fifo k.val = rest ∧ t.hch c = { count := (s.hch c).count + 1 } ∧
      (∃ y, t.closedOf c = s.closedOf c ++ [y] ∧ y.count = (s.hch c).count ∧ y.stage = .swapped ∧ y.off = false ∧
        y.total = (s.hch c).total ∧ y.cands = (s.hch c).cands) ∧
      (∀ b < 2048, t.coarse c ((s.hch c).count + 1) b = 0) ∧ (∀ b < 2048, t.coarse c (s.hch c).count b = s.coarse c (s.hch c).count b) ∧
      (∀ d, d ≠ c → t.hch d = s.hch d ∧ t.closedOf d = s.closedOf d) ∧ t.time = s.time) ∧
  (∀ (k : Fin 32) (s : State), s.fifo k.val = [] → exec (.sliceEventRetire k) s = .next s ∧ exec (.markerRetire k) s = .next s) ∧
  (∀ (k : Fin 32) (c : Nat) (m : Bool) (rest : List (Nat × OutItem)) (s : State), s.fifo k.val = (c, .marker m) :: rest →
    exec (.sliceEventRetire k) s = .next s) ∧
  (∀ (k : Fin 32) (c tot : Nat) (w : Word36) (q : Option Nat) (rest : List (Nat × OutItem)) (s : State),
    s.fifo k.val = (c, .event w tot q) :: rest → exec (.markerRetire k) s = .next s) ∧
  (∀ (c : Fin 384) (fclk : Nat) (s : State), (s.hch c.val).placing = true → (s.hch c.val).placed = false → s.hist.chans.length = 384 →
    ∃ t, exec (.trickPlacementDone c fclk) s = .next t ∧ t.hch c.val = { s.hch c.val with placed := true } ∧
      t.f HIST.PLACE_MAX.MAX = max (s.f HIST.PLACE_MAX.MAX) (min fclk 65535) ∧ (∀ d, d ≠ c.val → t.hch d = s.hch d) ∧
      SameWords s t [HIST.PLACE_MAX] ∧ SameMemory s t ∧ t.time = s.time) ∧
  ∀ (c : Fin 384) (fclk : Nat) (s : State), (s.hch c.val).placing = false ∨ (s.hch c.val).placed = true →
    exec (.trickPlacementDone c fclk) s = .next s

/-- The automatic readout, dumps and the layout switch of a drained commit. The readout of the oldest closed hand of a
channel takes the counts of coarse bins around its candidates and of all fine bins of its tricks, and passes the hand
on. A dump that waits behind it is read once, and is then gone; one whose readout has not ended stays. Once the
drained slices are read out, DRAIN_SWITCH empties the trackers of their channels, clears both their buffers, records
the dark time with its event, and ends DRAINING; it leaves the other channels alone. Under hypotheses on the state and
the operands alone it concludes that exec answers a next state (each command completes) for: autoReadoutDone,
dumpReadDone, drainSwitch. -/
def Obligations.ReadoutAndDrain : Prop :=
  (∀ (c : Fin 384) (x : Closed) (s : State), stageGet (s.closedOf c.val) .swapped = some x → s.hist.closed.length = 384 →
    ∃ t, exec (.autoReadoutDone c) s = .next t ∧
      (∃ y ∈ t.closedOf c.val, y.count = x.count ∧ y.stage = .read ∧ y.cands = x.cands ∧ y.total = x.total ∧
        (∀ e ∈ y.bins, e.2 = s.coarse c.val x.count e.1 ∧ e.1 < 2048 ∧ ∃ p ∈ x.cands, 2 * (p.b / 2) ≤ e.1 + 6 ∧ e.1 ≤ 2 * (p.b / 2) + 9) ∧
        (∀ p ∈ x.cands, ∀ b < 2048, 2 * (p.b / 2) ≤ b + 6 → b ≤ 2 * (p.b / 2) + 9 → (b, s.coarse c.val x.count b) ∈ y.bins) ∧
        y.fine.length = x.tricks.length ∧ (∀ q < x.tricks.length, ∀ i < 64, nth (nth y.fine q []) i 0 = s.fineBin c.val x.count q i)) ∧
      (∀ d, d ≠ c.val → t.closedOf d = s.closedOf d) ∧ t = { s with hist := { s.hist with closed := t.hist.closed } }) ∧
  (∀ (c : Fin 384) (s : State), stageGet (s.closedOf c.val) .swapped = none → exec (.autoReadoutDone c) s = .next s) ∧
  (∀ (c : Fin 384) (trick : Bool) (d : Dump) (s : State),
    s.hist.dumps.find? (fun e => e.channel == c.val && e.trick == trick) = some d →
    (∀ x ∈ s.closedOf c.val, x.count = d.record.count → x.stage ≠ .swapped) →
    ∃ t, exec (.dumpReadDone c trick) s = .next t ∧ t.hist.dumps = s.hist.dumps.filter (· != d) ∧
      SameWords s t [TAB.DROP, hdr 0x48 3, HIST.DUMP_CNT] ∧ SameMemory s t ∧ t.time = s.time ∧
      t.hist = { s.hist with dumps := t.hist.dumps } ∧
      (t.f HIST.DUMP_CNT.DROP = s.f HIST.DUMP_CNT.DROP → t.f HIST.DUMP_CNT.DROP < 65535 →
        t.link.qD.length = s.link.qD.length + 1 ∧ t.regs = s.regs)) ∧
  (∀ (c : Fin 384) (trick : Bool) (s : State), (∀ d ∈ s.hist.dumps, d.channel ≠ c.val ∨ d.trick ≠ trick) →
    exec (.dumpReadDone c trick) s = .next s) ∧
  (∀ (c : Fin 384) (trick : Bool) (d : Dump) (x : Closed) (s : State),
    s.hist.dumps.find? (fun e => e.channel == c.val && e.trick == trick) = some d → x ∈ s.closedOf c.val → x.count = d.record.count →
    x.stage = .swapped → exec (.dumpReadDone c trick) s = .next s) ∧
  (∀ (ns : Nat) (s : State), s.deal.drain ≠ [] → (∀ k ∈ s.deal.drain, k < 32) → s.drained = true → s.hist.chans.length = 384 →
    ∃ t, exec (.drainSwitch ns) s = .next t ∧ t.deal.drain = [] ∧ t.fb HIST.STATUS.DRAINING = false ∧
      (t.reg (hdr 0x38 3)).getLsbD 4 = true ∧ t.f HIST.DRAIN.COUNT = satAdd 16 (s.f HIST.DRAIN.COUNT) 1 ∧
      t.f HIST.DRAIN.LAST = min ns 65535 ∧
      (∀ c, c / 12 ∈ s.deal.drain → (t.hch c).cands = [] ∧ (t.hch c).total = 0 ∧ (t.hch c).tricks = [] ∧
        (∀ u < 2, ∀ b < 2048, t.coarse c u b = 0) ∧ (∀ u < 2, ∀ q < 4, ∀ i < 64, t.fineBin c u q i = 0)) ∧
      (∀ c, c / 12 ∉ s.deal.drain → t.hch c = s.hch c) ∧ (∀ a, memRegion a ≠ 3 → t.rd a = s.rd a) ∧
      SameWords s t [HIST.STATUS, HIST.DRAIN, HIST.DUMP_CNT, hdr 0x38 3] ∧ t.time = s.time ∧ t.shadow = s.shadow) ∧
  ∀ (ns : Nat) (s : State), s.deal.drain = [] ∨ s.drained = false → exec (.drainSwitch ns) s = .next s

/-- The peak tracker keeps at most 8 candidates of distinct bins, and tricks never overlap. One action of the peak
tracker on a list of at most 8 candidates with distinct centre bins gives such a list again, which holds the bin just
raised or a neighbour of it, or is full or has a candidate two bins away. Trick placement gives at most TRICKS + 1
starts, each a multiple of the fine bin width that leaves the whole trick inside the histogram, and no two tricks
overlap. The square root of the threshold is the whole one. -/
def Obligations.TrackerAndPlacementLaws : Prop :=
  (∀ (l : List Cand) (x n : Nat), l.length ≤ 8 → (l.map (·.b)).Nodup →
    (trackCand l x n).length ≤ 8 ∧ ((trackCand l x n).map (·.b)).Nodup ∧
    ((∃ y ∈ trackCand l x n, Machine.dist x y.b ≤ 1) ∨ (trackCand l x n = l ∧ (l.length = 8 ∨ ∃ y ∈ l, Machine.dist x y.b = 2)))) ∧
  (∀ (c : Nat) (x : HistCh) (s : State),
    (s.placeTricks c x).length ≤ s.f HIST.MODE.TRICKS + 1 ∧
    (∀ a ∈ s.placeTricks c x, a + 64 * s.fineW ≤ 2048 * s.binW ∧ a % s.fineW = 0) ∧
    (s.placeTricks c x).Pairwise fun a b => a + 64 * s.fineW ≤ b ∨ b + 64 * s.fineW ≤ a) ∧
  ∀ v : Nat, isqrt v * isqrt v ≤ v ∧ v < (isqrt v + 1) * (isqrt v + 1)

/-- Rejection of a channel hand and the bloom pass. A channel hand whose readout and summary are there passes to the
next stage; a disabled one yields no return, every return of another passed the threshold on its corrected count, and
the counters of images and of candidates below the threshold rise. Its background shows the out-of-gate rate's LOSS,
and SUN_HIGH is counted where LOSS reaches SUN_THR. The bloom pass, once the neighbours are rejected, delivers at most
MAX_ECHO + 1 returns in order of bin, each of a class that REJ.OUT keeps. Under hypotheses on the state and the
operands alone it concludes that exec answers a next state (each command completes) for: rejectChannel, bloomPass. -/
def Obligations.RejectionAndBloom : Prop :=
  (∀ (c : Fin 384) (x : Closed) (m : Summary) (s : State), stageGet (s.closedOf c.val) .read = some x → s.sumOf c.val x.count = some m →
    s.hist.closed.length = 384 →
    ∃ t, exec (.rejectChannel c) s = .next t ∧
      (∃ y ∈ t.closedOf c.val, y.count = x.count ∧ y.stage = .rejected ∧
        y.loss = lossOf m.rho ((s.asHand x.count).deadNs c.val) ∧
        y.sun = decide ((s.asHand x.count).f REJ.SUN.SUN_THR ≤ y.loss) ∧
        (m.disabled = true ∨ x.off = true ∨ (s.asHand x.count).enabled 0x39 = false → y.echoes = []) ∧
        (∀ e ∈ y.echoes, ∃ p ∈ x.cands, e.b = p.b ∧ e.corr = 256 * (p.c0 : Int) - y.lambdaC ∧
          (s.asHand x.count).passes p.c0 y.lambdaC = true) ∧
        (y.sun = true → t.f REJ.SUN_CNT.COUNT = satAdd REJ.SUN_CNT.COUNT.width (s.f REJ.SUN_CNT.COUNT) 1 ∧
          (t.reg (hdr 0x39 3)).getLsbD 0 = true) ∧
        (y.sun = false → t.reg REJ.SUN_CNT = s.reg REJ.SUN_CNT)) ∧
      (∀ d, d ≠ c.val → t.closedOf d = s.closedOf d) ∧ SameWords s t [REJ.CNT_A, REJ.CNT_B, REJ.SUN_CNT, hdr 0x39 3] ∧
      SameMemory s t ∧ t.time = s.time ∧ t.deal = s.deal) ∧
  (∀ (c : Fin 384) (s : State), (∀ x, stageGet (s.closedOf c.val) .read = some x → s.sumOf c.val x.count = none) →
    exec (.rejectChannel c) s = .next s) ∧
  (∀ (c : Fin 384) (fclk : Nat) (x : Closed) (s : State), stageGet (s.closedOf c.val) .rejected = some x →
    s.bloomReady c.val x.count = true → s.hist.closed.length = 384 →
    ∃ t, exec (.bloomPass c fclk) s = .next t ∧
      (∃ y ∈ t.closedOf c.val, y.count = x.count ∧ y.stage = .delivered ∧ y.echoes = x.echoes ∧
        y.passed.length ≤ (s.asHand x.count).f REJ.OUT.MAX_ECHO + 1 ∧ (y.passed.Pairwise fun a b => a.b ≤ b.b) ∧
        (∀ e ∈ y.passed, (∃ o ∈ x.echoes, e = { o with cls := e.cls } ∧ (o.suspect = true → e.cls = 2) ∧
          (o.suspect = false → o.volumetric = false → e.cls = 0 ∨ e.cls = 4)) ∧
          (e.cls = 1 → (s.asHand x.count).fb REJ.OUT.VOL_KEEP = true) ∧ (e.cls = 2 → (s.asHand x.count).fb REJ.OUT.SUSPECT_KEEP = true) ∧
          (e.cls = 4 → (s.asHand x.count).fb REJ.OUT.BLOOM_KEEP = true)) ∧
        t.f REJ.CNT_C.ECHO_DROP = satAdd REJ.CNT_C.ECHO_DROP.width (s.f REJ.CNT_C.ECHO_DROP) (x.echoes.length - y.passed.length)) ∧
      (∀ d, d ≠ c.val → t.closedOf d = s.closedOf d) ∧ SameWords s t [REJ.CNT_C, REJ.LAT, hdr 0x39 3] ∧ SameMemory s t ∧
      t.time = s.time ∧ t.deal = s.deal) ∧
  ∀ (c : Fin 384) (fclk : Nat) (s : State),
    (∀ x, stageGet (s.closedOf c.val) .rejected = some x → s.bloomReady c.val x.count = false) → exec (.bloomPass c fclk) s = .next s

/-- Point records of a channel, and completion of a hand. A lane builds the delivered channel of the oldest hand:
without PNT no record; under calibration the held records with STALE, or one invalid stale record where none is held;
otherwise one record for each return, in order, with its echo number, the channel, the position and generation of the
hand and RANGE 0 where it is not valid, or, without returns, one invalid record where EMPTY asks for it. When every
channel of the oldest hand is built, the hand leaves with its channel hands and its records are counted; a hand that
is not complete stays. Under hypotheses on the state and the operands alone it concludes that exec answers a next
state (each command completes) for: pntChannelDone, handComplete. -/
def Obligations.PointRecords : Prop :=
  (∀ (c : Fin 384) (h : Hand) (x : Closed) (m : Summary) (s : State), s.deal.past.head? = some h →
    stageGet (s.closedOf c.val) .delivered = some x → x.count = h.count → s.sumOf c.val x.count = some m → s.hist.closed.length = 384 →
    s.hist.held.length = 384 →
    ∃ t, exec (.pntChannelDone c) s = .next t ∧
      (∃ y ∈ t.closedOf c.val, y.count = x.count ∧ y.stage = .built ∧
        ((s.asOf h).enabled 0x3A = false → y.points = []) ∧
        ((s.asOf h).enabled 0x3A = true → m.cal = true → m.disabled = false →
          (∀ p ∈ y.points, p.stale = true ∧ p.channel = c.val ∧ p.az = h.az) ∧
          (nth s.hist.held c.val none = none → ∃ p, y.points = [p] ∧ p.valid = false) ∧
          t.f PNT.CNT_B.STALE_CNT = satAdd PNT.CNT_B.STALE_CNT.width (s.f PNT.CNT_B.STALE_CNT) y.points.length ∧
          nth t.hist.held c.val none = nth s.hist.held c.val none) ∧
        ((s.asOf h).enabled 0x3A = true → m.cal = false ∨ m.disabled = true →
          (x.passed ≠ [] → y.points.length = x.passed.length ∧
            ∀ i < x.passed.length, ∀ p, y.points[i]? = some p → p.channel = c.val ∧ p.az = h.az ∧ p.echo = i % 4 ∧ p.stale = false ∧
              p.sun = x.sun ∧ p.uncertain = h.uncertain ∧ p.gen = h.gen % 16 ∧ p.range < 2 ^ 20 ∧ (p.valid = false → p.range = 0)) ∧
          (x.passed = [] → (s.asOf h).fb PNT.OUT.EMPTY = false → y.points = []) ∧
          (x.passed = [] → (s.asOf h).fb PNT.OUT.EMPTY = true → ∃ p, y.points = [p] ∧ p.valid = false ∧ p.range = 0 ∧ p.intensity = 0 ∧
            p.echo = 0 ∧ p.cls = 0 ∧ p.conf = 0) ∧
          nth t.hist.held c.val none = some y.points)) ∧
      (∀ d, d ≠ c.val → t.closedOf d = s.closedOf d) ∧ t.time = s.time ∧ t.deal.past = s.deal.past ∧ t.shadow = s.shadow ∧ t.pwr = s.pwr) ∧
  (∀ (c : Fin 384) (s : State), s.deal.past = [] ∨ stageGet (s.closedOf c.val) .delivered = none → exec (.pntChannelDone c) s = .next s) ∧
  (∀ (fclk : Nat) (h : Hand) (rest : List Hand) (s : State), s.deal.past = h :: rest → h.raw = false → s.handBuilt h.count = true →
    ∃ t, exec (.handComplete fclk) s = .next t ∧ t.deal.past = rest ∧
      t.f PNT.CNT_A.RECORDS = satAdd PNT.CNT_A.RECORDS.width (s.f PNT.CNT_A.RECORDS) (s.handPoints h.count).length ∧
      t.hist.closed = s.hist.closed.map (fun l => l.filter fun x => x.count != h.count) ∧
      t.hist.sums = s.hist.sums.map (fun l => l.filter fun e => e.1 != h.count) ∧ t.time = s.time ∧ t.shadow = s.shadow) ∧
  ∀ (fclk : Nat) (s : State), (∀ h, s.deal.past.head? = some h → h.raw = true ∨ s.handBuilt h.count = false) →
    exec (.handComplete fclk) s = .next s

/-- The engine is armed for source `n`, of type `ty`: nothing else is being captured, the source is enabled with that type, the
device state lets the type trigger, its ring is full enough, the acquisition ring has room, and rate reduction takes this
trigger, having skipped none of its sample (R277, R278, R280, R285, R287). -/
def TriggerReady (s : State) (n ty sample : Nat) : Prop :=
  s.acq.busy = false ∧ s.acq.set = none ∧ s.acqState = 2 ∧ s.fb (ACQ.SRC_CFG.EN n) = true ∧ s.f (ACQ.SRC_CFG.TYPE n) = ty ∧
  s.typeArmed ty = true ∧ s.sourceReady n = true ∧ s.ringFull = false ∧ 2 ^ s.f ACQ.STATE.STEP ≤ s.acq.phase + 1 ∧
  s.acq.skipAt ≠ some sample

/-- A record has begun, of source `n` with its trigger in a sample (R281, R283, R286); nothing else has changed. -/
def RecordBegun (s t : State) (n sample : Nat) : Prop :=
  t.acq.busy = true ∧ t.acq.record = (s.acq.record + 1) % 2 ^ 32 ∧ t.acq.skipped = 0 ∧ t.acq.phase = 0 ∧
  t.acq.holdoff = (s.f ACQ.HOLDOFF.HOLDOFF != 0) ∧
  (∃ a, t.acq.set = some a ∧ a.cfg = s.regs ∧ a.primary = n ∧ a.sources = 2 ^ n ∧ a.number = s.acq.record ∧ a.sample = some sample ∧
    a.time = s.timeNs ∧ a.skipped = s.acq.skipped ∧ a.done = 0 ∧ a.samples = []) ∧
  t = { s with acq := t.acq }

/-- Triggers of the acquisition sources, arming and the end of holdoff. With the engine armed for one source, a level
crossing of its corrected samples beyond the hysteresis, an edge on TRIG_IN of its type, its timer or FORCE begins a
record of that source: the settings in force, TIME, and RECORD, which then increments. A trigger that finds a capture
of another sample under way is counted as missed; one that finds the ring full is counted and raises RING_FULL; one of
a source that is not enabled does nothing. ARM in single mode arms again, in another mode it is an error. At the end
of the holdoff the engine is armed where the record has been taken and the capture buffer has room for another; a
trigger of FORCE is the sample of a write of it that waits. Under hypotheses on the state and the operands alone it
concludes that exec answers a next state (each command completes) for: levelTrigger, trigInEdge, acqTimerTrigger,
acqForce, acqArm, holdoffEnd. -/
def Obligations.TriggersAndArming : Prop :=
  (∀ (n : Fin 8) (before reached : BitVec 12) (sample : Nat) (s : State), TriggerReady s n.val 1 sample →
    s.busLive (s.f (ACQ.SRC_CFG.CH n.val) / 48) = true → s.acq.onSpare = none →
    (s.correctCode (s.f (ACQ.SRC_CFG.CH n.val) / 48) (s.f (ACQ.SRC_CFG.CH n.val)) before.toNat).1 <
      signed 16 (s.f (ACQ.SRC_PAR.PAR n.val) % 65536) - (s.f (ACQ.SRC_PAR.PAR n.val) / 65536 % 4096 : Nat) →
    signed 16 (s.f (ACQ.SRC_PAR.PAR n.val) % 65536) ≤
      (s.correctCode (s.f (ACQ.SRC_CFG.CH n.val) / 48) (s.f (ACQ.SRC_CFG.CH n.val)) reached.toNat).1 →
    ∃ t, exec (.levelTrigger n before reached sample) s = .next t ∧ RecordBegun s t n.val sample) ∧
  (∀ (n : Fin 8) (before reached : BitVec 12) (sample : Nat) (s : State), TriggerReady s n.val 2 sample →
    s.busLive (s.f (ACQ.SRC_CFG.CH n.val) / 48) = true → s.acq.onSpare = none →
    signed 16 (s.f (ACQ.SRC_PAR.PAR n.val) % 65536) + (s.f (ACQ.SRC_PAR.PAR n.val) / 65536 % 4096 : Nat) <
      (s.correctCode (s.f (ACQ.SRC_CFG.CH n.val) / 48) (s.f (ACQ.SRC_CFG.CH n.val)) before.toNat).1 →
    (s.correctCode (s.f (ACQ.SRC_CFG.CH n.val) / 48) (s.f (ACQ.SRC_CFG.CH n.val)) reached.toNat).1 ≤
      signed 16 (s.f (ACQ.SRC_PAR.PAR n.val) % 65536) →
    ∃ t, exec (.levelTrigger n before reached sample) s = .next t ∧ RecordBegun s t n.val sample) ∧
  (∀ (n : Fin 8) (rising : Bool) (sample : Nat) (s : State), TriggerReady s n.val (if rising then 3 else 4) sample →
    (∀ m < 8, m ≠ n.val → s.fb (ACQ.SRC_CFG.EN m) = false ∨ s.f (ACQ.SRC_CFG.TYPE m) ≠ if rising then 3 else 4) →
    ∃ t, exec (.trigInEdge rising sample) s = .next t ∧ RecordBegun s t n.val sample) ∧
  (∀ (n : Fin 8) (sample : Nat) (s : State), TriggerReady s n.val 5 sample →
    ∃ t, exec (.acqTimerTrigger n sample) s = .next t ∧ RecordBegun s t n.val sample) ∧
  (∀ (n : Fin 8) (sample : Nat) (s : State), TriggerReady s n.val 6 sample → s.acq.forces ≠ 0 →
    (∀ m < 8, m ≠ n.val → s.fb (ACQ.SRC_CFG.EN m) = false ∨ s.f (ACQ.SRC_CFG.TYPE m) ≠ 6) →
    ∃ t, exec (.acqForce sample) s = .next t ∧ RecordBegun s t n.val sample ∧ t.acq.forces = s.acq.forces - 1) ∧
  (∀ (sample : Nat) (s : State), s.acq.forces = 0 → exec (.acqForce sample) s = .next s) ∧
  (∀ (n : Fin 8) (sample : Nat) (a : AcqSet) (s : State), s.acq.busy = true → s.acq.set = some a → a.sample ≠ some sample →
    s.acqCfg.fb (ACQ.SRC_CFG.EN n.val) = true → s.acqCfg.f (ACQ.SRC_CFG.TYPE n.val) = 5 → s.typeArmed 5 = true →
    ∃ t, exec (.acqTimerTrigger n sample) s = .next t ∧ t.f ACQ.CNT_A.MISSED = satAdd 16 (s.f ACQ.CNT_A.MISSED) 1 ∧
      SameWords s t [ACQ.CNT_A] ∧ OnlyRegs s t) ∧
  (∀ (n : Fin 8) (sample : Nat) (s : State), s.acq.busy = false → s.acq.set = none → s.acqState = 2 →
    s.fb (ACQ.SRC_CFG.EN n.val) = true → s.f (ACQ.SRC_CFG.TYPE n.val) = 5 → s.typeArmed 5 = true → s.sourceReady n.val = true →
    s.ringFull = true →
    ∃ t, exec (.acqTimerTrigger n sample) s = .next t ∧ t.f ACQ.CNT_B.RING_FULL = satAdd 16 (s.f ACQ.CNT_B.RING_FULL) 1 ∧
      Raised s t 0x32 2 ∧ SameWords s t [ACQ.CNT_B, hdr 0x32 3] ∧ OnlyEvents s t) ∧
  (∀ (n : Fin 8) (sample : Nat) (s : State), s.acqCfg.fb (ACQ.SRC_CFG.EN n.val) = false →
    exec (.acqTimerTrigger n sample) s = .next s) ∧
  (∀ (src : Port) (s : State), s.f ACQ.MODE.MODE = 2 →
    exec (.acqArm src) s = .next { s with acq := { s.acq with done := false } }) ∧
  (∀ (src : Port) (s : State), s.f ACQ.MODE.MODE ≠ 2 →
    ∃ t, exec (.acqArm src) s = .next t ∧ ErrorRaised s t 0x05 (portSrc src) ACQ.CMD) ∧
  ∀ s : State, ∃ t, exec .holdoffEnd s = .next t ∧ t = { s with acq := { s.acq with holdoff := false } } ∧
    (s.acq.busy = false → s.acqCfg.acqMode ≠ 0 → s.acq.done = false → 2 ≤ s.acq.buffer.length → t.acqState = 4) ∧
    (s.acq.busy = false → s.acqCfg.acqMode ≠ 0 → s.acq.done = false → s.acq.buffer.length < 2 → s.acqCfg.acqFilling = false →
      t.acqState = 2)

/-- Captures, records and the acquisition ring. A capture of the full length of a set that needs more is summed and
the engine waits in holdoff; the last one puts the record, with its numbers, times and samples packed two to a word,
into the capture buffer. A ring entry is written from WR on and WR advances past it; no other word of memory changes.
The rate step falls while the fill is below LO. RING_RD is written while the link does not read the ring, and is an
error otherwise. A waiting ADC request outside RUN takes effect when no record is in capture from its buses. Under
hypotheses on the state and the operands alone it concludes that exec answers a next state (each command completes)
for: recordCaptureDone, ringEntryWritten, rateStepDown, ringRdWrite, muxChangeApply. -/
def Obligations.RecordsAndRing : Prop :=
  (∀ (raw : List RawSample) (a : AcqSet) (s : State), s.acq.set = some a → s.acq.busy = true → raw.length = s.acqCfg.f ACQ.REC.LEN →
    s.domOn 4 = true → s.enabled 0x31 = true → s.commits = [] → a.done + 1 ≠ 2 ^ s.acqCfg.f ACQ.MODE.AVG →
    ∃ t, exec (.recordCaptureDone ⟨raw, []⟩) s = .next t ∧ t.acq.busy = false ∧ t.acq.holdoff = s.acq.holdoff ∧ t.acq.buffer = s.acq.buffer ∧
      t.f ACQ.STATE.AVG_N = (a.done + 1) % 512 ∧
      (∃ b, t.acq.set = some b ∧ b.done = a.done + 1 ∧ b.cfg = a.cfg ∧ b.number = a.number ∧ b.time = a.time) ∧
      SameWords s t [ACQ.STATE, ADC.STAT (s.acqCfg.f (ACQ.SRC_CFG.CH a.primary) / 48), ADC.STAT 8] ∧
      t = { s with regs := t.regs, acq := t.acq }) ∧
  (∀ (raw : List RawSample) (a : AcqSet) (s : State), s.acq.set = some a → s.acq.busy = true → raw.length = s.acqCfg.f ACQ.REC.LEN →
    s.domOn 4 = true → s.enabled 0x31 = true → s.commits = [] → a.done = 0 → s.acqCfg.f ACQ.MODE.AVG = 0 →
    s.acqCfg.fb ACQ.OUT.WAVE_EN = true → s.acqCfg.fb ACQ.MEAS.MEAS_EN = false →
    ∃ t, exec (.recordCaptureDone ⟨raw, []⟩) s = .next t ∧ t.acq.busy = false ∧ t.acq.holdoff = s.acq.holdoff ∧ t.acq.set = none ∧
      t.f ACQ.STATE.AVG_N = 0 ∧
      (∃ o p, t.acq.buffer = s.acq.buffer ++ [o] ∧ o.entries = [(0x20, p)] ∧ o.bank = s.acqCfg.f ACQ.OUT.BANK ∧ o.stamp = a.time ∧
        o.gen = a.gen ∧ p[1]? = some (w36 (a.number % 2 ^ 32)) ∧ p[2]? = some (w36 (a.time / 2 ^ 32 % 2 ^ 32)) ∧
        p[3]? = some (w36 (a.time % 2 ^ 32)) ∧
        p.drop 6 = packSamples (raw.map fun r => (s.sampleOf (s.acqCfg.f (ACQ.SRC_CFG.CH a.primary)) r).mean 0)) ∧
      (s.acqCfg.f ACQ.MODE.MODE = 2 → s.acqCfg.enabled 0x32 = true → s.acqMode = 2 → t.acq.done = true ∧
        (t.reg (hdr 0x32 3)).getLsbD 0 = true) ∧
      SameWords s t [ACQ.STATE, ACQ.CNT_A, hdr 0x32 3, ADC.STAT (s.acqCfg.f (ACQ.SRC_CFG.CH a.primary) / 48), ADC.STAT 8] ∧
      SameMemory s t ∧ t.time = s.time ∧ t.shadow = s.shadow) ∧
  (∀ (raw : List RawSample) (s : State), s.commits = [] →
    s.acq.busy = false ∨ s.acq.set = none ∨ raw.length ≠ s.acqCfg.f ACQ.REC.LEN → exec (.recordCaptureDone ⟨raw, []⟩) s = .next s) ∧
  (∀ (ovs : List Nat) (s : State), s.commits = [] → s.acq.busy = false → s.domOn 4 = true → s.enabled 0x31 = true →
    ∃ t, exec (.recordCaptureDone ⟨[], ovs⟩) s = .next t ∧
      (∀ a < 9, t.f (ADC.STAT.OR_CNT a) = min 65535 (s.f (ADC.STAT.OR_CNT a) + nth ovs a 0) ∧
        t.fb (ADC.STAT.FAILED a) = s.fb (ADC.STAT.FAILED a) ∧ t.f (ADC.STAT.CAUSE a) = s.f (ADC.STAT.CAUSE a)) ∧
      SameWords s t ((List.range 9).map ADC.STAT) ∧ OnlyRegs s t) ∧
  (∀ (r : WaveOut) (rs : List WaveOut) (dt : Nat) (p : List Word36) (es : List (Nat × List Word36)) (s : State), s.domOn 4 = true →
    s.acq.buffer = r :: rs → r.entries = (dt, p) :: es → r.bank < 32 → s.moverOk 3 r.bank = true → p.length < 65536 →
    s.fb ACQ.RR.RR_EN = false →
    ∃ t, exec .ringEntryWritten s = .next t ∧
      (let wr := s.f ACQ.RING_WR.PTR
       t.rd (bankAddr r.bank wr) = w36 (dt * 2 ^ 28 + p.length) ∧
       (∀ i < p.length, t.rd (bankAddr r.bank (wr + 1 + i)) = nth p i 0) ∧
       (∀ a, (∀ i ≤ p.length, a ≠ bankAddr r.bank (wr + i)) → t.rd a = s.rd a) ∧
       t.f ACQ.RING_WR.PTR = (wr + 1 + p.length) % 65536) ∧
      t.acq.buffer = (if es = [] then rs else { r with entries := es } :: rs) ∧
      t.f ACQ.CNT_C.RECORDS = (if dt = 0x20 then satAdd 32 (s.f ACQ.CNT_C.RECORDS) 1 else s.f ACQ.CNT_C.RECORDS) ∧
      SameWords s t [BANK.OWN r.bank, ACQ.RING_WR, ACQ.CNT_C] ∧ t.time = s.time ∧ t.shadow = s.shadow ∧ t.link = s.link) ∧
  (∀ s : State, s.domOn 4 = false ∨ s.acq.buffer = [] → exec .ringEntryWritten s = .next s) ∧
  (∀ s : State, s.fb ACQ.RR.RR_EN = true → s.ringFill < s.f ACQ.RR.LO * 64 → s.f ACQ.STATE.STEP ≠ 0 →
    ∃ t, exec .rateStepDown s = .next t ∧ t.f ACQ.STATE.STEP = s.f ACQ.STATE.STEP - 1 ∧ Raised s t 0x32 1 ∧
      SameWords s t [ACQ.STATE, hdr 0x32 3] ∧ OnlyEvents s t) ∧
  (∀ s : State, s.fb ACQ.RR.RR_EN = false ∨ s.f ACQ.RR.LO * 64 ≤ s.ringFill ∨ s.f ACQ.STATE.STEP = 0 → exec .rateStepDown s = .next s) ∧
  (∀ (src : Port) (d : BitVec 32) (s : State), s.fb ACQ.OUT.LINK_EN = false →
    ∃ t, exec (.ringRdWrite src d) s = .next t ∧ t.f ACQ.RING_RD.PTR = d.toNat % 65536 ∧ SameWords s t [ACQ.RING_RD] ∧ OnlyRegs s t) ∧
  (∀ (src : Port) (d : BitVec 32) (s : State), s.fb ACQ.OUT.LINK_EN = true →
    ∃ t, exec (.ringRdWrite src d) s = .next t ∧ ErrorRaised s t 0x16 (portSrc src) ACQ.RING_RD) ∧
  (∀ (r : CommitReq) (s : State), s.commits = [r] → r.page = 0x31 → r.armed = true → r.boundary = 1 → r.begun = false → s.ispHeld = none →
    s.pwr.st ≠ .run → s.adcWaits (s.changes 0x31) = false → s.judgeRequest 0x31 1 true [] = none →
    ∃ t, exec .muxChangeApply s = .next t ∧ t.commits = [] ∧
      (∀ a, a / 0x400 = 0x31 → t.reg a &&& rwsMask a = s.shad a &&& rwsMask a) ∧ t.f ⟨hdr 0x31 9, 16, 1⟩ = 0 ∧
      t.f ⟨hdr 0x31 9, 0, 8⟩ = (s.f ⟨hdr 0x31 9, 0, 8⟩ + 1) % 256 ∧ t.f CHIP.GEN.GLOBAL = (s.f CHIP.GEN.GLOBAL + 1) % 65536 ∧
      t.shadow = s.shadow ∧ t.time = s.time) ∧
  ∀ s : State, (∀ r ∈ s.commits, r.page ≠ 0x31) ∨ s.pwr.st = .run → exec .muxChangeApply s = .next s

/-- Failed converters, the handover to the spare and back, and retests. With the ADC domain on: a converter that fails
is marked with its cause and event; a free spare takes over its bus, which has no sample until the handover ends; with
the spare serving another bus or failed the bus is left unserved with NO_SPARE; a failed spare that serves none is
shown failed. A handover ends with its event and the bus has samples again; one back to the own converter frees the
spare. FAIL_CLR of a failed converter starts a retest, any other is an error. A passed retest clears FAILED and begins
the handover back; a failed one gives cause 4. Under hypotheses on the state and the operands alone it concludes that
exec answers a next state (each command completes) for: adcFail, spareHandoverDone, adcFailClr, adcRetestDone. -/
def Obligations.SpareConverter : Prop :=
  (∀ (k : Fin 8) (cause : AdcCause) (s : State), s.domOn 4 = true → s.fb (ADC.STAT.FAILED k.val) = false → s.f ADC.SPARE.STATE = 0 →
    s.cal.adc = none →
    ∃ t, exec (.adcFail (k.castLE (by decide)) cause) s = .next t ∧ t.fb (ADC.STAT.FAILED k.val) = true ∧
      t.f (ADC.STAT.CAUSE k.val) = (match cause with | .redundancy => 1 | .timeout => 2) ∧ t.f ADC.SPARE.STATE = 1 ∧
      t.f ADC.SPARE.BUS = k.val ∧ t.fb ADC.STATUS.CAL_SUSPENDED = true ∧ k.val ∈ t.acq.dead ∧
      t.acq.handover = some { bus := k.val, toSpare := true } ∧ t.acq.onSpare = none ∧ Raised s t 0x31 0 ∧
      SameWords s t [ADC.STAT k.val, ADC.SPARE, ADC.STATUS, hdr 0x31 3] ∧ SameMemory s t ∧ t.time = s.time) ∧
  (∀ (k : Fin 8) (cause : AdcCause) (s : State), s.domOn 4 = true → s.fb (ADC.STAT.FAILED k.val) = false →
    s.f ADC.SPARE.STATE = 7 ∨ (s.f ADC.SPARE.STATE = 1 ∧ s.f ADC.SPARE.BUS ≠ k.val) →
    ∃ t, exec (.adcFail (k.castLE (by decide)) cause) s = .next t ∧ t.fb (ADC.STAT.FAILED k.val) = true ∧ k.val ∈ t.acq.dead ∧
      t.reg (hdr 0x31 3) = s.reg (hdr 0x31 3) ||| 3 ∧ t.reg ADC.SPARE = s.reg ADC.SPARE ∧
      SameWords s t [ADC.STAT k.val, hdr 0x31 3] ∧ SameMemory s t ∧ t.time = s.time) ∧
  (∀ (cause : AdcCause) (s : State), s.domOn 4 = true → s.fb (ADC.STAT.FAILED 8) = false → s.f ADC.SPARE.STATE = 0 → s.cal.adc = none →
    ∃ t, exec (.adcFail 8 cause) s = .next t ∧ t.fb (ADC.STAT.FAILED 8) = true ∧ t.f ADC.SPARE.STATE = 7 ∧ t.f ADC.SPARE.BUS = 0 ∧
      Raised s t 0x31 0 ∧ SameWords s t [ADC.STAT 8, ADC.SPARE, ADC.STATUS, hdr 0x31 3] ∧ t.acq.dead = s.acq.dead) ∧
  (∀ (a : Fin 9) (cause : AdcCause) (s : State), s.domOn 4 = false ∨ s.fb (ADC.STAT.FAILED a.val) = true →
    exec (.adcFail a cause) s = .next s) ∧
  (∀ (h : Handover) (s : State), s.domOn 4 = true → s.acq.handover = some h →
    ∃ t, exec .spareHandoverDone s = .next t ∧ t.acq.handover = none ∧ t.acq.onSpare = (if h.toSpare then some h.bus else none) ∧
      h.bus ∉ t.acq.dead ∧ Raised s t 0x31 2 ∧ (h.toSpare = true → SameWords s t [hdr 0x31 3]) ∧
      (h.toSpare = false → t.f ADC.SPARE.STATE = 0 ∧ t.f ADC.SPARE.BUS = 0) ∧
      SameWords s t [ADC.SPARE, ADC.STATUS, hdr 0x31 3] ∧ SameMemory s t ∧ t.time = s.time) ∧
  (∀ s : State, s.domOn 4 = false ∨ s.acq.handover = none → exec .spareHandoverDone s = .next s) ∧
  (∀ (src : Port) (a : Fin 8) (s : State), s.fb (ADC.STAT.FAILED a.val) = true →
    ∃ t, exec (.adcFailClr src a) s = .next t ∧ a.val ∈ t.acq.retests ∧ t = { s with acq := { s.acq with retests := t.acq.retests } }) ∧
  (∀ (src : Port) (a : Fin 8) (s : State), s.fb (ADC.STAT.FAILED a.val) = false →
    ∃ t, exec (.adcFailClr src a) s = .next t ∧ ErrorRaised s t 0x05 (portSrc src) ADC.FAIL_CLR) ∧
  (∀ (a : Fin 8) (s : State), s.domOn 4 = true → a.val ∈ s.acq.retests →
    (∃ t, exec (.adcRetestDone a false) s = .next t ∧ t.f (ADC.STAT.CAUSE a.val) = 4 ∧
      t.fb (ADC.STAT.FAILED a.val) = s.fb (ADC.STAT.FAILED a.val) ∧ a.val ∉ t.acq.retests ∧ SameWords s t [ADC.STAT a.val] ∧
      t = { s with regs := t.regs, acq := { s.acq with retests := t.acq.retests } }) ∧
    (s.acq.onSpare = some a.val →
      ∃ t, exec (.adcRetestDone a true) s = .next t ∧ t.fb (ADC.STAT.FAILED a.val) = false ∧ t.f (ADC.STAT.CAUSE a.val) = 0 ∧
        t.acq.handover = some { bus := a.val, toSpare := false } ∧ a.val ∉ t.acq.retests ∧ SameWords s t [ADC.STAT a.val] ∧
        t = { s with regs := t.regs, acq := t.acq })) ∧
  ∀ (a : Fin 8) (pass : Bool) (s : State), s.domOn 4 = false ∨ a.val ∉ s.acq.retests → exec (.adcRetestDone a pass) s = .next s

/-- Nothing outside these words, the camera ports and what an event sends has changed. -/
def CamOnly (s t : State) (ws : List Nat) : Prop :=
  SameWords s t ws ∧ SameMemory s t ∧ t.shadow = s.shadow ∧ t.time = s.time ∧ t.pwr = s.pwr ∧ t.deal = s.deal ∧ t.hist = s.hist

/-- Camera reception: entries, packets, lines, frame starts and frame ends. On a port that receives: an unsynchronised
lane counts SOT, a deskew completes, a frame start opens the next frame with no rows, a line of its channel and type
in an in-line frame is kept as its next row with RAW pixels left-justified; another channel or type is dropped and
counted; an uncorrectable header is counted and its line is lost. The end of a full frame tags it without error; a
frame with rows missing, at its end or 2 ms after its last line, is filled to HEIGHT, tagged SHORT and counted, and
values waiting for the relay go to the sensor in the blanking. Idle marks the port. A port that is off does nothing.
Under hypotheses on the state and the operands alone it concludes that exec answers a next state (each command
completes) for: csi2HsEntry, csi2Deskew, csi2LongPacket, csi2FrameStart, csi2FrameEnd, shortFrameTimeout, portIdle. -/
def Obligations.CameraReception : Prop :=
  (∀ (p lane : Fin 4) (s : State), s.camOn p.val = true → lane.val ≤ s.f (CAM.PHY.LANES p.val) →
    exec (.csi2HsEntry p lane true) s = .next s ∧
    ∃ t, exec (.csi2HsEntry p lane false) s = .next t ∧ t.f (CAM.ERR_A.SOT p.val) = satAdd 8 (s.f (CAM.ERR_A.SOT p.val)) 1 ∧
      Raised s t (0x40 + p.val) 3 ∧ SameWords s t [CAM.ERR_A p.val, hdr (0x40 + p.val) 3] ∧ OnlyEvents s t) ∧
  (∀ (p : Fin 4) (s : State), s.camOn p.val = true → s.cam.ports.length = 4 →
    ∃ t, exec (.csi2Deskew p) s = .next t ∧ t.port p.val = { s.port p.val with deskewed := true } ∧
      (∀ q, q ≠ p.val → t.port q = s.port q) ∧ t = { s with cam := { s.cam with ports := t.cam.ports } }) ∧
  (∀ (p : Fin 4) (vc : Fin 16) (s : State), s.camOn p.val = true → vc.val = s.f (CAM.STREAM.VC p.val) → s.cam.ports.length = 4 →
    (s.port p.val).open? = none → s.commits = [] → bitOf (s.f ZONE.PROJ.RASTER_EN) p.val = false → (s.port p.val).rasters = [] →
    ∃ t, exec (.csi2FrameStart p vc) s = .next t ∧ t.f (CAM.FRAME.FRAME p.val) = (s.f (CAM.FRAME.FRAME p.val) + 1) % 2 ^ 32 ∧
      (∃ f, (t.port p.val).open? = some f ∧ f.number = t.f (CAM.FRAME.FRAME p.val) ∧ f.rows = [] ∧ f.start = s.timeNs ∧
        f.gen = s.f CHIP.GEN.GLOBAL ∧ f.out = 0) ∧
      (t.port p.val).idle = false ∧ (t.port p.val).started = some s.timeNs ∧ (∀ q, q ≠ p.val → t.port q = s.port q) ∧
      CamOnly s t [CAM.FRAME p.val, CAM.EGEN p.val]) ∧
  (∀ (p : Fin 4) (vc : Fin 16) (payload : List (BitVec 16)) (f : CamFrame) (s : State), s.camOn p.val = true →
    vc.val = s.f (CAM.STREAM.VC p.val) → s.cam.ports.length = 4 → (s.port p.val).open? = some f → s.enabled 0x44 = true →
    s.yuvIn p.val = false → (s.asFrame f).yuvIn p.val = false → (s.asFrame f).f (CAM.STREAM.MODE p.val) ≠ 2 →
    f.rows.length < (s.asFrame f).camHeight p.val → payload.length = (s.asFrame f).camWidth p.val →
    s.f (CAM.PHY.RATE p.val) ≤ 1500 ∨ (s.port p.val).deskewed = true →
    ∃ t, exec (.csi2LongPacket p vc (BitVec.ofNat 6 (s.f (CAM.STREAM.DT p.val))) .clean true false payload) s = .next t ∧
      (∃ g r, (t.port p.val).open? = some g ∧ g.rows = f.rows ++ [r] ∧ g.number = f.number ∧ r.stamp = s.timeNs ∧ r.pad = false ∧
        r.trunc = false ∧ r.crc = false ∧ r.filled = false ∧
        r.samples = payload.map fun v => v.toNat * 2 ^ rawShift ((s.asFrame f).f (CAM.STREAM.DT p.val)) % 65536) ∧
      (∀ q, q ≠ p.val → t.port q = s.port q) ∧ t = { s with cam := { s.cam with ports := t.cam.ports } }) ∧
  (∀ (p : Fin 4) (vc : Fin 16) (dt : BitVec 6) (crcOk full : Bool) (payload : List (BitVec 16)) (s : State), s.camOn p.val = true →
    vc.val ≠ s.f (CAM.STREAM.VC p.val) →
    ∃ t, exec (.csi2LongPacket p vc dt .clean crcOk full payload) s = .next t ∧
      t.f (CAM.ERR_B.VC_DROP p.val) = satAdd 8 (s.f (CAM.ERR_B.VC_DROP p.val)) 1 ∧ SameWords s t [CAM.ERR_B p.val] ∧ OnlyRegs s t) ∧
  (∀ (p : Fin 4) (vc : Fin 16) (dt : BitVec 6) (crcOk full : Bool) (payload : List (BitVec 16)) (s : State), s.camOn p.val = true →
    vc.val = s.f (CAM.STREAM.VC p.val) → dt.toNat ≠ s.f (CAM.STREAM.DT p.val) →
    ∃ t, exec (.csi2LongPacket p vc dt .clean crcOk full payload) s = .next t ∧
      t.f (CAM.ERR_B.DT_DROP p.val) = satAdd 8 (s.f (CAM.ERR_B.DT_DROP p.val)) 1 ∧ SameWords s t [CAM.ERR_B p.val] ∧ OnlyRegs s t) ∧
  (∀ (p : Fin 4) (vc : Fin 16) (dt : BitVec 6) (crcOk full : Bool) (payload : List (BitVec 16)) (s : State), s.camOn p.val = true →
    ∃ t, exec (.csi2LongPacket p vc dt .uncorrectable crcOk full payload) s = .next t ∧
      t.f (CAM.ERR_A.ECC_UNC p.val) = satAdd 8 (s.f (CAM.ERR_A.ECC_UNC p.val)) 1 ∧
      t.f (CAM.ERR_B.LINE_ERR p.val) = satAdd 8 (s.f (CAM.ERR_B.LINE_ERR p.val)) 1 ∧
      t.reg (hdr (0x40 + p.val) 3) = s.reg (hdr (0x40 + p.val) 3) ||| 0xC ∧
      CamOnly s t [CAM.ERR_A p.val, CAM.ERR_B p.val, hdr (0x40 + p.val) 3]) ∧
  (∀ (p : Fin 4) (vc : Fin 16) (f : CamFrame) (s : State), s.camOn p.val = true → vc.val = s.f (CAM.STREAM.VC p.val) →
    s.cam.ports.length = 4 → (s.port p.val).open? = some f → f.long = false → s.fb (CAM.AE.AUTO p.val) = false → (s.port p.val).need = false →
    ∃ t, exec (.csi2FrameEnd p vc) s = .next t ∧ (t.port p.val).open? = none ∧ t.fb (CAM.LAST.LONG p.val) = false ∧
      t.f (CAM.LAST.LINES p.val) = (f.rows.filter fun r => !r.filled).length % 65536 ∧
      (f.rows.length = (s.asFrame f).camHeight p.val → t.fb (CAM.LAST.SHORT p.val) = false ∧
        t.reg (CAM.ERR_C p.val) = s.reg (CAM.ERR_C p.val) ∧ t.reg (hdr (0x40 + p.val) 3) = s.reg (hdr (0x40 + p.val) 3)) ∧
      (f.rows.length < (s.asFrame f).camHeight p.val → t.fb (CAM.LAST.SHORT p.val) = true ∧ Raised s t (0x40 + p.val) 0 ∧
        t.f (CAM.ERR_C.FRAME_SHORT p.val) = satAdd 16 (s.f (CAM.ERR_C.FRAME_SHORT p.val)) 1) ∧
      CamOnly s t [CAM.LAST p.val, CAM.ERR_C p.val, CAM.EGEN p.val, hdr (0x40 + p.val) 3]) ∧
  (∀ (p : Fin 4) (vc : Fin 16) (k : Nat) (ks : List Nat) (s : State), s.camOn p.val = true → vc.val = s.f (CAM.STREAM.VC p.val) →
    s.cam.ports.length = 4 → (s.port p.val).open? = none → s.fb (CAM.AE.AUTO p.val) = false → (s.port p.val).need = true →
    (s.port p.val).relay = none → (s.port p.val).hostRuns = false → s.i2cMaster = true →
    filterRange (min 8 (s.f (CAM.RELAY.NENT p.val))) (fun k => s.fb (CAM.SCRIPT.EN p.val k)) = k :: ks →
    ∃ t, exec (.csi2FrameEnd p vc) s = .next t ∧ (t.port p.val).need = false ∧ t.fb (CAM.EGEN.PENDING p.val) = true ∧
      (∃ r, (t.port p.val).relay = some r ∧ r.frame = s.f (CAM.FRAME.FRAME p.val) ∧ r.exp = s.f (CAM.EXP.EXP p.val) ∧
        r.gain = s.f (CAM.EXP.GAIN p.val) ∧ r.left = k :: ks ∧ r.running = true ∧ (t.port p.val).i2c = s.scriptBytes p.val k r) ∧
      CamOnly s t [CAM.EGEN p.val]) ∧
  (∀ (p : Fin 4) (f : CamFrame) (s : State), s.cam.ports.length = 4 → (s.port p.val).open? = some f → f.rows ≠ [] → f.long = false →
    f.rows.length < (s.asFrame f).camHeight p.val →
    ∃ t, exec (.shortFrameTimeout p) s = .next t ∧ (t.port p.val).open? = none ∧
      (∃ g, (t.port p.val).frames.getLast? = some g ∧ g.ended = true ∧ g.short = true ∧ g.rows.length = (s.asFrame f).camHeight p.val ∧
        g.rows.take f.rows.length = f.rows ∧ ∀ r ∈ g.rows.drop f.rows.length, r.filled = true) ∧
      t.fb (CAM.LAST.SHORT p.val) = true ∧ Raised s t (0x40 + p.val) 0 ∧
      t.f (CAM.ERR_C.FRAME_SHORT p.val) = satAdd 16 (s.f (CAM.ERR_C.FRAME_SHORT p.val)) 1 ∧
      CamOnly s t [CAM.LAST p.val, CAM.ERR_C p.val, hdr (0x40 + p.val) 3]) ∧
  (∀ (p : Fin 4) (s : State), (s.port p.val).open? = none → exec (.shortFrameTimeout p) s = .next s) ∧
  (∀ (p : Fin 4) (s : State), s.camOn p.val = true → s.commits = [] → s.cam.ports.length = 4 →
    ∃ t, exec (.portIdle p) s = .next t ∧ t.port p.val = { s.port p.val with idle := true } ∧ (∀ q, q ≠ p.val → t.port q = s.port q) ∧
      t = { s with cam := { s.cam with ports := t.cam.ports } }) ∧
  ∀ (p lane : Fin 4) (vc : Fin 16) (dt : BitVec 6) (e : HeaderEcc) (a b : Bool) (payload : List (BitVec 16)) (s : State),
    s.camOn p.val = false → exec (.csi2HsEntry p lane a) s = .next s ∧ exec (.csi2Deskew p) s = .next s ∧
      exec (.csi2LongPacket p vc dt e a b payload) s = .next s ∧ exec (.csi2FrameStart p vc) s = .next s ∧
      exec (.csi2FrameEnd p vc) s = .next s ∧ exec (.portIdle p) s = .next s

/-- ISP lines and statistics, I2C transactions, host transfers and frame-sync pulses. The ISP finishes the next line
of the port it picks; without one it does nothing. A finished frame with statistics sends its packet once, with its
event. GO starts a host transfer, its bytes go on the bus and BUSY is set; while BUSY it is an error. At its end BUSY
and GO clear, DONE is set with its event, read data is shown, and NACK or TIMEOUT raises I2C_ERR. The last
acknowledged transaction of a relay increments EGEN_RELAYED; one not acknowledged or timed out leaves the values to be
relayed again. A frame-sync pulse in READY or RUN puts the pin at its active level. Under hypotheses on the state and
the operands alone it concludes that exec answers a next state (each command completes) for: ispLineDone, statsPacket,
i2cTransactionDone, i2cTimeout, i2cXferGo, camFsyncPulse. -/
def Obligations.IspAndSensorBus : Prop :=
  (∀ (p : Nat) (f : CamFrame) (s : State), s.ispPick = some p → s.ispReady p = some f → p < 4 → s.cam.ports.length = 4 →
    ∃ t, exec .ispLineDone s = .next t ∧ (∀ g ∈ (t.port p).frames, g.number = f.number → g.out = f.out + 1) ∧
      (∀ q, q ≠ p → t.port q = s.port q) ∧
      CamOnly s t [BANK.OWN ((s.asFrame f).f (CAM.STREAM.BANK p)), BANK.ECC_LAST, BANK.ECC_CNT, BANK.DROP, hdr 0x0D 3, CAM.ERR_B p,
        hdr (0x40 + p) 3, TAB.DROP, hdr 0x48 3]) ∧
  (∀ s : State, s.ispPick = none → exec .ispLineDone s = .next s) ∧
  (∀ (p : Fin 4) (f : CamFrame) (s : State), s.enabled 0x44 = true → s.domOn 6 = true → s.cam.ports.length = 4 →
    (s.port p.val).frames = [f] → f.ended = true → f.out = f.rows.length → f.statsSent = false →
    (s.asFrame f).fb (ISP.CTL.STATS_EN p.val) = true →
    ∃ t, exec (.statsPacket p) s = .next t ∧ (∀ g ∈ (t.port p.val).frames, g.statsSent = true) ∧ (t.reg (hdr 0x44 3)).getLsbD 0 = true ∧
      t.f ISP.LOAD.PEAK ≤ 100 ∧ CamOnly s t [ISP.LOAD, hdr 0x44 3, TAB.DROP, hdr 0x48 3]) ∧
  (∀ (p : Fin 4) (s : State), s.enabled 0x44 = false ∨ s.domOn 6 = false ∨ (s.port p.val).frames = [] → exec (.statsPacket p) s = .next s) ∧
  (∀ (src : Port) (p : Fin 4) (d : BitVec 32) (s : State), d.getLsbD 31 = true → s.fb (CAM.I2C_STAT.BUSY p.val) = true →
    ∃ t, exec (.i2cXferGo src p d) s = .next t ∧ ErrorRaised s t 0x17 (portSrc src) (CAM.I2C_XFER p.val)) ∧
  (∀ (src : Port) (p : Fin 4) (d : BitVec 32) (s : State), d.getLsbD 31 = true → s.fb (CAM.I2C_STAT.BUSY p.val) = false →
    s.cam.ports.length = 4 → (s.port p.val).relay = none → (s.port p.val).hostRuns = false →
    ∃ t, exec (.i2cXferGo src p d) s = .next t ∧ t.fb (CAM.I2C_STAT.BUSY p.val) = true ∧ t.fb (CAM.I2C_STAT.DONE p.val) = false ∧
      t.reg (CAM.I2C_XFER p.val) = d &&& definedMask (CAM.I2C_XFER p.val) ∧ (t.port p.val).hostRuns = true ∧
      (t.port p.val).i2c = t.hostBytes p.val ∧ (t.port p.val).i2c.head? = some (2 * t.f (CAM.I2C_XFER.DEV p.val)) ∧
      CamOnly s t [CAM.I2C_XFER p.val, CAM.I2C_STAT p.val, CAM.EGEN p.val]) ∧
  (∀ (p : Fin 4) (ack : Bool) (data : BitVec 32) (s : State), s.domOn 6 = true → s.cam.ports.length = 4 → (s.port p.val).hostRuns = true →
    (s.port p.val).hostWaits = false → (s.port p.val).relay = none →
    ∃ t, exec (.i2cTransactionDone p ack data) s = .next t ∧ t.fb (CAM.I2C_XFER.GO p.val) = false ∧
      t.fb (CAM.I2C_STAT.BUSY p.val) = false ∧ t.fb (CAM.I2C_STAT.DONE p.val) = true ∧ t.fb (CAM.I2C_STAT.NACK p.val) = !ack ∧
      t.fb (CAM.I2C_STAT.TIMEOUT p.val) = false ∧ (t.port p.val).hostRuns = false ∧
      t.reg (hdr (0x40 + p.val) 3) = s.reg (hdr (0x40 + p.val) 3) ||| (if ack then 0x40 else 0x60) ∧
      (s.fb (CAM.I2C_XFER.READ p.val) = true → ack = true →
        t.f (CAM.I2C_DATA.DATA p.val) = data.toNat % 256 ^ (s.f (CAM.I2C_XFER.NBYTES_M1 p.val) + 1)) ∧
      (s.fb (CAM.I2C_XFER.READ p.val) = false ∨ ack = false → t.reg (CAM.I2C_DATA p.val) = s.reg (CAM.I2C_DATA p.val)) ∧
      CamOnly s t [CAM.I2C_XFER p.val, CAM.I2C_STAT p.val, CAM.I2C_DATA p.val, CAM.EGEN p.val, hdr (0x40 + p.val) 3]) ∧
  (∀ (p : Fin 4) (s : State), s.domOn 6 = true → s.cam.ports.length = 4 → (s.port p.val).hostRuns = true →
    (s.port p.val).hostWaits = false → (s.port p.val).relay = none →
    ∃ t, exec (.i2cTimeout p) s = .next t ∧ t.fb (CAM.I2C_STAT.TIMEOUT p.val) = true ∧ t.fb (CAM.I2C_STAT.NACK p.val) = false ∧
      t.fb (CAM.I2C_STAT.BUSY p.val) = false ∧ t.fb (CAM.I2C_STAT.DONE p.val) = true ∧
      t.reg (hdr (0x40 + p.val) 3) = s.reg (hdr (0x40 + p.val) 3) ||| 0x60 ∧
      CamOnly s t [CAM.I2C_XFER p.val, CAM.I2C_STAT p.val, CAM.EGEN p.val, hdr (0x40 + p.val) 3]) ∧
  (∀ (p : Fin 4) (data : BitVec 32) (r : Relay) (k : Nat) (s : State), s.domOn 6 = true → s.cam.ports.length = 4 →
    (s.port p.val).hostRuns = false → (s.port p.val).hostWaits = false → (s.port p.val).relay = some r → r.running = true → r.left = [k] →
    (∃ t, exec (.i2cTransactionDone p true data) s = .next t ∧
      t.f (CAM.EGEN.EGEN_RELAYED p.val) = (s.f (CAM.EGEN.EGEN_RELAYED p.val) + 1) % 256 ∧ (t.port p.val).relay = none ∧
      (t.reg (hdr (0x40 + p.val) 3)).getLsbD 8 = true ∧
      (r.frame = s.f (CAM.FRAME.FRAME p.val) → (t.port p.val).due = (s.port p.val).due ++
        [⟨r.frame + s.f (CAM.RELAY.LAT p.val), (s.f (CAM.EGEN.EGEN_RELAYED p.val) + 1) % 256, r.exp, r.gain⟩]) ∧
      CamOnly s t [CAM.EGEN p.val, hdr (0x40 + p.val) 3]) ∧
    (∃ t, exec (.i2cTransactionDone p false data) s = .next t ∧ (t.port p.val).relay = none ∧ (t.port p.val).need = true ∧
      t.f (CAM.EGEN.EGEN_RELAYED p.val) = s.f (CAM.EGEN.EGEN_RELAYED p.val) ∧ Raised s t (0x40 + p.val) 5 ∧
      CamOnly s t [CAM.EGEN p.val, hdr (0x40 + p.val) 3]) ∧
    ∃ t, exec (.i2cTimeout p) s = .next t ∧ (t.port p.val).relay = none ∧ (t.port p.val).need = true ∧ Raised s t (0x40 + p.val) 5 ∧
      CamOnly s t [CAM.EGEN p.val, hdr (0x40 + p.val) 3]) ∧
  (∀ (p : Fin 4) (ack : Bool) (data : BitVec 32) (s : State), s.domOn 6 = false →
    exec (.i2cTransactionDone p ack data) s = .next s ∧ exec (.i2cTimeout p) s = .next s) ∧
  (∀ (p : Fin 4) (s : State), s.domOn 6 = true → s.enabled (0x40 + p.val) = true → s.fb (CAM.FSYNC.EN p.val) = true →
    s.pwr.st = .ready ∨ s.pwr.st = .run → s.cam.ports.length = 4 →
    ∃ t, exec (.camFsyncPulse p) s = .next t ∧ t.port p.val = { s.port p.val with fsync := some s.mono } ∧
      t.camFsync p.val = !s.fb (CAM.FSYNC.POL p.val) ∧ (∀ q, q ≠ p.val → t.port q = s.port q) ∧
      t = { s with cam := { s.cam with ports := t.cam.ports } }) ∧
  ∀ (p : Fin 4) (s : State), s.domOn 6 = false ∨ s.enabled (0x40 + p.val) = false ∨ s.fb (CAM.FSYNC.EN p.val) = false ∨
    (s.pwr.st ≠ .ready ∧ s.pwr.st ≠ .run) → exec (.camFsyncPulse p) s = .next s

/-- Bring-up of the link, receive lanes, heartbeats and the loss of the host. A CDR lock, then block lock with the
lane's identity and polarity, let the block answer READY; the host's READY brings the link up with a heartbeat before
everything queued. Without it LINK_FAIL is raised once. TS blocks on a used lane start bring-up again. Loss of signal
or lock on a lane clears its lock and counts. Bad packets and control blocks are counted. A checker with a pattern
selected locks and counts its errors. A valid host heartbeat shows its COUNT and ends HOST_LOST; one with the last
COUNT changes nothing more. HOST_LOST is raised once, in READY and RUN with a time-out set, and REACT ends RUN. While
the link is up the device sends its heartbeats. Under hypotheses on the state and the operands alone it concludes that
exec answers a next state (each command completes) for: rxCdrLock, rxBlockLock, hostTsReady, linkTimeout, rxLos,
rxLol, rxBadPacket, hostHeartbeat, hostLost, deviceHeartbeatTimer, rxTsWhileLinkUp, rxControlBlockBad,
prbsCheckerLock. -/
def Obligations.LinkBringUpAndHeartbeats : Prop :=
  (∀ (l : RxLane) (s : State), s.pwr.st ≠ .unpowered →
    ∃ t, exec (.rxCdrLock l) s = .next t ∧ laneNo l ∈ t.link.cdr ∧ laneNo l ∈ t.link.present ∧ bitOf (t.f (rxStat l)) 0 = false ∧
      (∀ b, b ≠ 0 → bitOf (t.f (rxStat l)) b = bitOf (s.f (rxStat l)) b) ∧ SameWords s t [TAB.RX_STAT] ∧
      t = { s with regs := t.regs, link := { s.link with cdr := t.link.cdr, present := t.link.present } }) ∧
  (∀ (l : RxLane) (swapped inverted : Bool) (s : State), laneNo l ∈ s.link.cdr →
    ∃ t, exec (.rxBlockLock l swapped inverted) s = .next t ∧ bitOf (t.f (rxStat l)) 1 = true ∧ bitOf (t.f (rxStat l)) 2 = inverted ∧
      bitOf (t.f (rxStat l)) 3 = swapped ∧ t.link.train = (if s.link.train = .training ∧ s.laneUsed l = true then .readySent else s.link.train) ∧
      SameWords s t [TAB.RX_STAT] ∧ t = { s with regs := t.regs, link := { s.link with train := t.link.train } }) ∧
  (∀ (l : RxLane) (swapped inverted : Bool) (s : State), laneNo l ∉ s.link.cdr → exec (.rxBlockLock l swapped inverted) s = .next s) ∧
  (∀ (l : RxLane) (s : State), s.link.train = .readySent → bitOf (s.f (rxStat l)) 1 = true → s.laneUsed l = true → 4 ≤ s.healthyLanes.length →
    ∃ t, exec (.hostTsReady l) s = .next t ∧ t.fb TAB.STATUS.LINK_UP = true ∧ t.f TAB.STATUS.TX_STATE = 2 ∧ t.link.train = .finishing ∧
      (∃ p, t.link.qA = p :: s.link.qA ∧ p.dt = 0x3F) ∧ Raised s t 0x48 0 ∧ SameWords s t [TAB.STATUS, hdr 0x48 3] ∧ SameMemory s t ∧
      t.time = s.time ∧ t.pwr = s.pwr) ∧
  (∀ (l : RxLane) (s : State), s.link.train ≠ .readySent ∨ bitOf (s.f (rxStat l)) 1 = false ∨ s.laneUsed l = false →
    exec (.hostTsReady l) s = .next s) ∧
  (∀ s : State, s.link.train = .training ∨ s.link.train = .readySent →
    (s.link.failRaised = true → exec .linkTimeout s = .next s) ∧
    (s.link.failRaised = false → ∃ t, exec .linkTimeout s = .next t ∧ t.link.failRaised = true ∧ Raised s t 0x48 1 ∧
      t.link.train = s.link.train ∧ SameWords s t [hdr 0x48 3])) ∧
  (∀ (l : RxLane) (s : State), s.fb TAB.STATUS.LINK_UP = true → s.laneServes l = true →
    ∃ t, exec (.rxTsWhileLinkUp l) s = .next t ∧ t.fb TAB.STATUS.LINK_UP = false ∧ t.f TAB.STATUS.TX_STATE = 1 ∧
      (t.link.train = .training ∨ t.link.train = .readySent) ∧ t.link.failing = s.link.failing ∧ t.link.qA = s.link.qA ∧ t.link.qB = s.link.qB ∧
      SameWords s t [TAB.STATUS] ∧ t = { s with regs := t.regs, link := t.link }) ∧
  (∀ (l : RxLane) (s : State), s.fb TAB.STATUS.LINK_UP = false ∨ s.laneServes l = false → exec (.rxTsWhileLinkUp l) s = .next s) ∧
  (∀ (l : RxLane) (s : State), (s.pwr.st ≠ .unpowered →
      ∃ t, exec (.rxLos l) s = .next t ∧ bitOf (t.f (rxStat l)) 0 = true ∧ bitOf (t.f (rxStat l)) 1 = false ∧
        bitOf (t.f (rxStat l)) 4 = false ∧ laneNo l ∉ t.link.cdr ∧ laneNo l ∉ t.link.present ∧ t.f (lolCount l) = satAdd 8 (s.f (lolCount l)) 1 ∧
        SameWords s t [TAB.RX_STAT, TAB.LINK_CNT] ∧ t = { s with regs := t.regs, link := t.link }) ∧
    (laneNo l ∈ s.link.cdr →
      ∃ t, exec (.rxLol l) s = .next t ∧ bitOf (t.f (rxStat l)) 0 = false ∧ bitOf (t.f (rxStat l)) 1 = false ∧ laneNo l ∉ t.link.cdr ∧
        t.link.present = s.link.present ∧ t.f (lolCount l) = satAdd 8 (s.f (lolCount l)) 1 ∧ SameWords s t [TAB.RX_STAT, TAB.LINK_CNT] ∧
        t = { s with regs := t.regs, link := t.link }) ∧
    (laneNo l ∉ s.link.cdr → exec (.rxLol l) s = .next s)) ∧
  (∀ s : State, (∃ t, exec (.rxBadPacket .crc) s = .next t ∧ t.f TAB.RX_CNT.CRC = satAdd 8 (s.f TAB.RX_CNT.CRC) 1 ∧
      SameWords s t [TAB.RX_CNT] ∧ OnlyRegs s t) ∧
    (∃ t, exec (.rxBadPacket .dataType) s = .next t ∧ t.f TAB.RX_CNT.BAD_DT = satAdd 8 (s.f TAB.RX_CNT.BAD_DT) 1 ∧
      SameWords s t [TAB.RX_CNT] ∧ OnlyRegs s t) ∧
    ∃ t, exec .rxControlBlockBad s = .next t ∧ t.f TAB.RX_CNT.CTRL_BAD = satAdd 8 (s.f TAB.RX_CNT.CTRL_BAD) 1 ∧
      SameWords s t [TAB.RX_CNT] ∧ OnlyRegs s t) ∧
  (∀ (l : RxLane) (n : Nat) (s : State), 1 ≤ s.f (prbsSel l) → s.f (prbsSel l) ≤ 4 →
    ∃ t, exec (.prbsCheckerLock l n) s = .next t ∧ t.fb (prbsLock l) = true ∧
      t.f (TAB.PRBS_ERR.COUNT (laneNo l)) = satAdd 32 (s.f (TAB.PRBS_ERR.COUNT (laneNo l))) n ∧
      SameWords s t [TAB.PRBS_RX, TAB.PRBS_ERR (laneNo l)] ∧ OnlyRegs s t) ∧
  (∀ (l : RxLane) (n : Nat) (s : State), s.f (prbsSel l) = 0 → exec (.prbsCheckerLock l n) s = .next s) ∧
  (∀ (rx : RxInfo) (count : BitVec 32) (bad : BitVec 9) (s : State), (s.accept rx).2 = true →
    ((s.accept rx).1.link.hostSeen = true → (s.accept rx).1.reg TAB.HOST_COUNT ≠ count) → s.fb TAB.CFG.HOSTREP_EN = false →
    ∃ t, exec (.hostHeartbeat rx count bad) s = .next t ∧ t.reg TAB.HOST_COUNT = count ∧ t.fb TAB.HOST.HOST_LOST = false ∧
      t.link.hostSeen = true ∧ t.link.lastBad = bad.toNat ∧ (s.fb TAB.HOST.HOST_LOST = true → (t.reg (hdr 0x48 3)).getLsbD 6 = true) ∧
      SameWords (s.accept rx).1 t [TAB.HOST_COUNT, TAB.HOST, hdr 0x48 3] ∧ SameMemory s t ∧ t.time = s.time ∧ t.pwr = s.pwr) ∧
  (∀ (rx : RxInfo) (count : BitVec 32) (bad : BitVec 9) (s : State),
    (s.accept rx).2 = false ∨ ((s.accept rx).1.link.hostSeen = true ∧ (s.accept rx).1.reg TAB.HOST_COUNT = count) →
    exec (.hostHeartbeat rx count bad) s = .next (s.accept rx).1) ∧
  (∀ s : State, s.pwr.st = .ready ∨ s.pwr.st = .run → s.f TAB.HB.HB_TMO ≠ 0 → s.fb TAB.HOST.HOST_LOST = false → s.img.activating = false →
    s.img.fw = none →
    ∃ t, exec .hostLost s = .next t ∧ t.fb TAB.HOST.HOST_LOST = true ∧ t.f TAB.LINK_CNT.HOST_LOST = satAdd 8 (s.f TAB.LINK_CNT.HOST_LOST) 1 ∧
      Raised s t 0x48 5 ∧ (s.f TAB.HOST.REACT = 0 → t.pwr = s.pwr) ∧
      (s.f TAB.HOST.REACT ≠ 0 → s.pwr.st = .run → t.pwr = { s.pwr with readyPending := true, target := .ready }) ∧
      SameWords s t [TAB.HOST, TAB.LINK_CNT, hdr 0x48 3] ∧ SameMemory s t ∧ t.time = s.time) ∧
  (∀ s : State, (s.pwr.st ≠ .ready ∧ s.pwr.st ≠ .run) ∨ s.f TAB.HB.HB_TMO = 0 ∨ s.fb TAB.HOST.HOST_LOST = true →
    exec .hostLost s = .next s) ∧
  ∀ s : State, s.pwr.st = .ready ∨ s.pwr.st = .run ∨ s.pwr.st = .fold →
    (s.fb TAB.STATUS.LINK_UP = false → exec .deviceHeartbeatTimer s = .next s) ∧
    (s.fb TAB.STATUS.LINK_UP = true → ∃ t, exec .deviceHeartbeatTimer s = .next t ∧ t.link.hbCount = (s.link.hbCount + 1) % 2 ^ 32 ∧
      (∃ p, t.link.qA = s.link.qA ++ [p] ∧ p.dt = 0x3F ∧ p.stamp = s.timeNs ∧ p.payload.head? = some (w36 t.link.hbCount)) ∧
      t.regs = s.regs ∧ t.link.qB = s.link.qB ∧ t = { s with link := t.link })

/-- Failed transmit lanes, failover, retests, packets that leave or grow old, and injected errors. A fault or FORCE on
a lane in use, with a spare left, marks it failed and stops the stream until its failover; FORCE of another lane is an
error. At an alignment marker the spare takes the lowest failed logical lane, the failover is counted with its event,
and the stream resumes once none is pending. TX_CLR starts the retest of a failed lane, any other is an error; a lane
that passes becomes the spare, or is kept in reserve. The next packet to leave is the oldest of the highest class,
behind its time reference where one is due, and one CRC injection corrupts it. Packets of classes C and D 4 ms old are
discarded and counted. Injections are counted on their lanes. Under hypotheses on the state and the operands alone it
concludes that exec answers a next state (each command completes) for: txLaneFault, alignmentMarker, txClr,
txRetestDone, txForceFail, packetSent, packetAgeDiscard, injectBit, injectSync, injectCrc. -/
def Obligations.LinkLanesAndPackets : Prop :=
  (∀ (n : Fin 9) (l : Nat) (s : State), s.pwr.st ≠ .unpowered → s.f TAB.STATUS.TX_STATE ≠ 0 → s.laneFailed n.val = false →
    s.logicalOf n.val = some l → s.f TAB.TX_STAT.SPARE ≠ n.val → n.val ∉ s.link.reserve → s.link.failing.length < s.spares.length →
    ∃ t, exec (.txLaneFault n) s = .next t ∧ exec (.txForceFail .spi (n.castLE (by decide))) s = .next t ∧ t.laneFailed n.val = true ∧
      (∀ m, m ≠ n.val → t.laneFailed m = s.laneFailed m) ∧ t.link.failing = s.link.failing ++ [l] ∧
      t.f TAB.STATUS.TX_STATE = (if s.f TAB.STATUS.TX_STATE = 2 then 3 else s.f TAB.STATUS.TX_STATE) ∧
      t.f TAB.TX_STAT.SPARE = s.f TAB.TX_STAT.SPARE ∧ SameWords s t [TAB.TX_STAT, TAB.STATUS] ∧
      t = { s with regs := t.regs, link := t.link }) ∧
  (∀ (n : Fin 9) (s : State), s.laneFailed n.val = true ∨ s.f TAB.STATUS.TX_STATE = 0 → exec (.txLaneFault n) s = .next s) ∧
  (∀ (src : Port) (n : Fin 16) (s : State), s.logicalOf n.val = none ∨ 9 ≤ n.val →
    ∃ t, exec (.txForceFail src n) s = .next t ∧ ErrorRaised s t 0x13 (portSrc src) TAB.TX_CTRL) ∧
  (∀ s : State, s.f TAB.STATUS.TX_STATE ≠ 0 → s.link.failing = [] →
    exec .alignmentMarker s = .next { s with link := { s.link with
      amCount := (s.link.amCount + 1) % 2 ^ 16
      train := if s.link.train = .finishing then .no else s.link.train } }) ∧
  (∀ (l n : Nat) (s : State), s.f TAB.STATUS.TX_STATE = 3 → s.link.failing = [l] → l < 8 → s.f TAB.TX_STAT.SPARE = n → n < 9 →
    s.link.reserve = [] →
    ∃ t, exec .alignmentMarker s = .next t ∧ t.laneOf l = n ∧ (∀ k < 8, k ≠ l → t.laneOf k = s.laneOf k) ∧ t.f TAB.TX_STAT.SPARE = 0xF ∧
      t.f TAB.TX_STAT.FAILED = s.f TAB.TX_STAT.FAILED ∧ t.link.failing = [] ∧ t.f TAB.STATUS.TX_STATE = 2 ∧
      t.f TAB.LINK_CNT.FAILOVERS = satAdd 8 (s.f TAB.LINK_CNT.FAILOVERS) 1 ∧ Raised s t 0x48 2 ∧
      SameWords s t [TAB.TX_MAP, TAB.TX_STAT, TAB.PRBS_TX, TAB.STATUS, TAB.LINK_CNT, hdr 0x48 3] ∧ SameMemory s t ∧ t.time = s.time) ∧
  (∀ s : State, s.f TAB.STATUS.TX_STATE = 0 → exec .alignmentMarker s = .next s) ∧
  (∀ (src : Port) (n : Fin 9) (s : State),
    (s.laneFailed n.val = true → ∃ t, exec (.txClr src (BitVec.ofNat 9 (2 ^ n.val))) s = .next t ∧
      bitOf (t.f TAB.TX_STAT.RETEST) n.val = true ∧ t.f TAB.TX_STAT.FAILED = s.f TAB.TX_STAT.FAILED ∧ SameWords s t [TAB.TX_STAT] ∧
      OnlyRegs s t) ∧
    (s.laneFailed n.val = false → ∃ t, exec (.txClr src (BitVec.ofNat 9 (2 ^ n.val))) s = .next t ∧
      ErrorRaised s t 0x13 (portSrc src) TAB.TX_CTRL)) ∧
  (∀ (n : Fin 9) (s : State), bitOf (s.f TAB.TX_STAT.RETEST) n.val = true →
    (∃ t, exec (.txRetestDone n false) s = .next t ∧ bitOf (t.f TAB.TX_STAT.RETEST) n.val = false ∧
      t.laneFailed n.val = s.laneFailed n.val ∧ t.f TAB.TX_STAT.SPARE = s.f TAB.TX_STAT.SPARE ∧ SameWords s t [TAB.TX_STAT] ∧ OnlyRegs s t) ∧
    ∃ t, exec (.txRetestDone n true) s = .next t ∧ bitOf (t.f TAB.TX_STAT.RETEST) n.val = false ∧ t.laneFailed n.val = false ∧
      (s.f TAB.TX_STAT.SPARE = 0xF → t.f TAB.TX_STAT.SPARE = n.val ∧ t.link.reserve = s.link.reserve) ∧
      (s.f TAB.TX_STAT.SPARE ≠ 0xF → t.f TAB.TX_STAT.SPARE = s.f TAB.TX_STAT.SPARE ∧ t.link.reserve = s.link.reserve ++ [n.val]) ∧
      SameWords s t [TAB.TX_STAT] ∧ t = { s with regs := t.regs, link := { s.link with reserve := t.link.reserve } }) ∧
  (∀ (n : Fin 9) (pass : Bool) (s : State), bitOf (s.f TAB.TX_STAT.RETEST) n.val = false → exec (.txRetestDone n pass) s = .next s) ∧
  (∀ (c : Nat) (p : Packet) (rest : List Packet) (s : State), s.streamRuns = true → s.fb ACQ.OUT.LINK_EN = false →
    s.link.nextClass = some c → s.link.queue c = p :: rest →
    ∃ t, exec .packetSent s = .next t ∧ t.link.queue c = rest ∧ (∀ d < 4, d ≠ c → t.link.queue d = s.link.queue d) ∧
      (∃ pre, t.link.sent = pre ++ [{ p with badCrc := decide (c ∈ s.link.injectCrc) }] ∧
        ((p.dt = 0x3F ∨ s.link.farFrom p.stamp = false) → pre = []) ∧
        (p.dt ≠ 0x3F → s.link.farFrom p.stamp = true → ∃ e, pre = [e] ∧ e.dt = 0x39 ∧ e.stamp = p.stamp)) ∧
      (∀ d < c, s.link.queue d = []) ∧ c ∉ t.link.injectCrc ∧ t = { s with link := t.link }) ∧
  (∀ s : State, s.streamRuns = false → exec .packetSent s = .next s) ∧
  (∀ s : State, s.streamRuns = true → s.fb ACQ.OUT.LINK_EN = false → s.link.nextClass = none → exec .packetSent s = .next s) ∧
  (∀ s : State, ∃ t, exec .packetAgeDiscard s = .next t ∧ t.link.qC = s.link.qC.filter (fun p => decide (s.timeNs < p.stamp + 4000000)) ∧
    t.link.qD = s.link.qD.filter (fun p => decide (s.timeNs < p.stamp + 4000000)) ∧ t.link.qA = s.link.qA ∧
    t.f TAB.DROP.C = satAdd 16 (s.f TAB.DROP.C) (s.link.qC.filter (fun p => decide (p.stamp + 4000000 ≤ s.timeNs))).length ∧
    t.f TAB.DROP.D = satAdd 16 (s.f TAB.DROP.D) (s.link.qD.filter (fun p => decide (p.stamp + 4000000 ≤ s.timeNs))).length ∧
    SameWords s t [TAB.DROP, hdr 0x48 3] ∧ SameMemory s t ∧ t.time = s.time ∧ t.shadow = s.shadow) ∧
  (∀ (lanes : BitVec 9) (s : State), ∃ t, exec (.injectBit lanes) s = .next t ∧
    (∀ n < s.link.injectBits.length, nth t.link.injectBits n 0 = nth s.link.injectBits n 0 + b2n (lanes.getLsbD n)) ∧
    t = { s with link := { s.link with injectBits := t.link.injectBits } }) ∧
  (∀ s : State, exec .injectSync s = .next { s with link := { s.link with injectSync := s.link.injectSync + 1 } }) ∧
  ∀ (c : Fin 4) (s : State), ∃ t, exec (.injectCrc c) s = .next t ∧ c.val ∈ t.link.injectCrc ∧
    (∀ d, d ≠ c.val → (d ∈ t.link.injectCrc ↔ d ∈ s.link.injectCrc)) ∧ t = { s with link := { s.link with injectCrc := t.link.injectCrc } }

/-- Bank ownership, mover descriptors, reclaimed banks and the scrub. The scrub reads the next word of a bank in turn:
a sound word changes nothing else, a correctable error is written back and counted with its event, an uncorrectable
one stays and is counted with its event. A write of OWNER moves a free bank to a valid owner, clears RECLAIMED by a 1,
and is an error for an owner above 0xB or a bank in use. A descriptor that ends clears OPEN; one open too long loses
the bank: OWNER goes to RECLAIMED's code, PREV names the owner, the loss is counted with its event, and the owner's
page gets BANK_LOST. Under hypotheses on the state and the operands alone it concludes that exec answers a next state
(each command completes) for: scrubRead, bankOwnerWrite, moverDescriptorEnd, ownerReclaim. -/
def Obligations.BankOwnershipAndScrub : Prop :=
  (∀ (b : Fin 32) (s : State), s.fb BANK.CFG.SCRUB_EN = true → s.enabled 0x0D = true → s.domOn 7 = true → s.scrub.length = 32 →
    ∃ t, exec (.scrubRead b) s = .next t ∧ nth t.scrub b.val 0 = (nth s.scrub b.val 0 + 1) % 65536 ∧
      (∀ c, c ≠ b.val → nth t.scrub c 0 = nth s.scrub c 0) ∧
      (let a := bankAddr b.val (nth s.scrub b.val 0)
       ((∀ e ∈ s.ecc, e.1 ≠ a) → t = { s with scrub := t.scrub }) ∧
       (s.ecc.find? (·.1 == a) = some (a, false) → (∀ e ∈ t.ecc, e.1 ≠ a) ∧ Raised s t 0x0D 0 ∧ t.fb BANK.ECC_LAST.UNC = false ∧
         t.f BANK.ECC_CNT.CORR = satAdd BANK.ECC_CNT.CORR.width (s.f BANK.ECC_CNT.CORR) 1) ∧
       (s.ecc.find? (·.1 == a) = some (a, true) → t.ecc = s.ecc ∧ Raised s t 0x0D 1 ∧ t.fb BANK.ECC_LAST.UNC = true ∧
         t.f BANK.ECC_CNT.UNC = satAdd BANK.ECC_CNT.UNC.width (s.f BANK.ECC_CNT.UNC) 1) ∧
       ((∃ e ∈ s.ecc, e.1 = a) → t.f BANK.ECC_LAST.BANK = b.val ∧ t.f BANK.ECC_LAST.WORD = nth s.scrub b.val 0 % 65536)) ∧
      SameWords s t [BANK.ECC_LAST, BANK.ECC_CNT, hdr 0x0D 3] ∧ SameMemory s t ∧ t.time = s.time ∧ t.shadow = s.shadow) ∧
  (∀ (b : Fin 32) (s : State), s.fb BANK.CFG.SCRUB_EN = false ∨ s.enabled 0x0D = false ∨ s.domOn 7 = false →
    exec (.scrubRead b) s = .next s) ∧
  (∀ (src : Port) (b : Fin 32) (d : BitVec 32) (s : State), d.toNat % 16 < 0xC → s.bankFree b.val = true →
    ∃ t, exec (.bankOwnerWrite src b d) s = .next t ∧ t.f (BANK.OWN.OWNER b.val) = d.toNat % 16 ∧
      t.fb (BANK.OWN.RECLAIMED b.val) = (s.fb (BANK.OWN.RECLAIMED b.val) && !d.getLsbD 9) ∧
      t.f (BANK.OWN.PREV b.val) = s.f (BANK.OWN.PREV b.val) ∧ SameWords s t [BANK.OWN b.val] ∧ OnlyRegs s t) ∧
  (∀ (src : Port) (b : Fin 32) (d : BitVec 32) (s : State), d.getLsbD 9 = false →
    (0xC ≤ d.toNat % 16 → ∃ t, exec (.bankOwnerWrite src b d) s = .next t ∧ ErrorRaised s t 0x11 (portSrc src) (BANK.OWN b.val)) ∧
    (d.toNat % 16 < 0xC → s.bankFree b.val = false →
      ∃ t, exec (.bankOwnerWrite src b d) s = .next t ∧ ErrorRaised s t 0x10 (portSrc src) (BANK.OWN b.val))) ∧
  (∀ (b : Fin 32) (s : State), ∃ t, exec (.moverDescriptorEnd b) s = .next t ∧ t.fb (BANK.OWN.OPEN b.val) = false ∧
    t.f (BANK.OWN.OWNER b.val) = s.f (BANK.OWN.OWNER b.val) ∧ SameWords s t [BANK.OWN b.val] ∧ OnlyRegs s t) ∧
  (∀ (b : Fin 32) (n : Nat) (s : State), s.fb (BANK.OWN.OPEN b.val) = true → 2 ≤ s.owner b.val → s.owner b.val < 0xC → s.domOn 7 = true →
    ∃ t, exec (.ownerReclaim b n) s = .next t ∧ t.owner b.val = 0xE ∧ t.f (BANK.OWN.PREV b.val) = s.owner b.val ∧
      t.fb (BANK.OWN.RECLAIMED b.val) = true ∧ t.fb (BANK.OWN.OPEN b.val) = false ∧ t.f BANK.RECLAIM.DISCARDED = min n 65535 ∧
      t.f BANK.RECLAIM.COUNT = satAdd 16 (s.f BANK.RECLAIM.COUNT) 1 ∧ (t.reg (hdr 0x0D 3)).getLsbD 2 = true ∧
      (let o := ownerPage (s.owner b.val)
       (t.reg (hdr o 3)).getLsbD 31 = true ∧
       t.reg (hdr o 6) = (if (s.reg (hdr o 3)).getLsbD 31 then s.reg (hdr o 6) else errWord (bankCode (s.owner b.val)) 0 0x0D (0x10 + b.val)) ∧
       SameWords s t [BANK.OWN b.val, BANK.RECLAIM, hdr 0x0D 3, hdr o 3, hdr o 6, hdr o 7]) ∧ SameMemory s t ∧ t.time = s.time) ∧
  ∀ (b : Fin 32) (n : Nat) (s : State), s.fb (BANK.OWN.OPEN b.val) = false ∨ s.owner b.val < 2 ∨ 0xC ≤ s.owner b.val ∨ s.domOn 7 = false →
    exec (.ownerReclaim b n) s = .next s

/-- After a SAFE cycle the outputs are on only where every permit holds. In STANDBY, READY and RUN a SAFE cycle
counts, and shows the input samples with their polarity. Whatever the state and the levels, after the cycle the
outputs are on only when the mode is ACTIVE, SAFE's permit and the supervisor's permit are shown, no restart is
requested, no input function and no protective field is in demand, and no latched fault on SAFE's path is held; OUT
then shows 1. In other states a cycle does nothing. The status timer sends the safety status packet in READY, RUN and
FOLD while the link is up. Under hypotheses on the state and the operands alone it concludes that exec answers a next
state (each command completes) for: safeCycle, safetyStatusTimer. -/
def Obligations.SafeCycleAndStatus : Prop :=
  (∀ (sin : BitVec 8) (sfb sout : BitVec 2) (s : State), s.pwr.st = .standby ∨ s.pwr.st = .ready ∨ s.pwr.st = .run →
    ∃ t, exec (.safeCycle sin sfb sout) s = .next t ∧ t.safe.cycles = s.safe.cycles + 1 ∧
      (∀ k < 8, bitOf (t.f SAFE.IN.SAMPLED) k = (sin.getLsbD k != s.fb (SAFE.SIN.POL k))) ∧
      t.fb SAFE.IN.SFB0 = sfb.getLsbD 0 ∧ t.fb SAFE.IN.SFB1 = sfb.getLsbD 1 ∧
      (t.safe.on = true → t.fb SAFE.STATUS.MODE = true ∧ t.fb SAFE.STATUS.PERMIT = true ∧ t.fb SUPV.STATUS.PERMIT = true ∧
        t.fb SAFE.STATUS.RESTART_REQ = false ∧ (∀ g < 6, t.inDemand g = false) ∧ (∀ k ∈ t.safe.hold, k ∉ [1, 3, 9, 10, 11, 13]) ∧
        t.f SAFE.STATUS.OUT = 1) ∧
      (s.fb SAFE.STATUS.MODE = false → t.safe.on = false) ∧
      SameMemory s t ∧ t.time = s.time ∧ t.pwr.st = s.pwr.st ∧ t.lockOpen = s.lockOpen ∧ t.deal.cur = s.deal.cur ∧ t.led = s.led) ∧
  (∀ (sin : BitVec 8) (sfb sout : BitVec 2) (s : State), s.pwr.st ≠ .standby → s.pwr.st ≠ .ready → s.pwr.st ≠ .run →
    exec (.safeCycle sin sfb sout) s = .next s) ∧
  (∀ s : State, s.pwr.st = .ready ∨ s.pwr.st = .run ∨ s.pwr.st = .fold → s.fb TAB.STATUS.LINK_UP = true →
    ∃ t, exec .safetyStatusTimer s = .next t ∧
      (∃ p, t.link.qA = s.link.qA ++ [p] ∧ p.dt = 0x31 ∧ p.payload = s.safeWords 1 ∧ p.stamp = s.timeNs) ∧
      t.regs = s.regs ∧ t = { s with link := t.link }) ∧
  ∀ s : State, (s.pwr.st ≠ .ready ∧ s.pwr.st ≠ .run ∧ s.pwr.st ≠ .fold) ∨ s.fb TAB.STATUS.LINK_UP = false →
    exec .safetyStatusTimer s = .next s

/-- A diagnostic is shown failing, its event has been raised, and the supervisor permit is off (R365, R385). -/
def DiagnosticTaken (s t : State) (d : Nat) : Prop :=
  bitOf (t.f SUPV.DIAG.FAIL) (d - 1) = true ∧ t.fb SUPV.STATUS.PERMIT = false ∧
  (bitOf (s.f SUPV.DIAG.FAIL) (d - 1) = false → (t.reg (hdr 0x07 3)).getLsbD 0 = true ∧ (s.safe.lastDiag = none → t.f SUPV.LAST.NUM = d)) ∧
  SameMemory s t ∧ t.time = s.time ∧ t.lockOpen = s.lockOpen

/-- The window watchdog, the hand comparison and the diagnostics of the supervisor. A confirmation of a running
supervisor, the first or 0.5 to 1.5 ms after the one before, clears diagnostic 2 and gives the permit where no fault
keeps it away. One outside the window, or none in 1.5 ms, takes the permit with the watchdog event and fails
diagnostic 2; a second within 1 s enters FOLD with code 0x30. A comparison counts; a mismatch counts, fails diagnostic
4 and takes the permit; 16 passing ones clear it. A differing safety CRC fails 6 and leaves ACTIVE; an uncorrectable
word fails 5. A root clock out of range fails 1 and shuts the laser off; 1,000 windows within range clear it. Under
hypotheses on the state and the operands alone it concludes that exec answers a next state (each command completes)
for: supvPermitConfirm, watchdogExpiry, supvComparisonDone, safetyCrcCheck, supvMemoryScrub, rootClockCheck. -/
def Obligations.SupervisorDiagnostics : Prop :=
  (∀ (us : Nat) (s : State), s.fb SUPV.STATUS.RUNNING = true → s.fb SUPV.STATUS.PAUSED = false →
    s.supv.fed = false ∨ (500 ≤ us ∧ us ≤ 1500) →
    ∃ t, exec (.supvPermitConfirm us) s = .next t ∧ t.supv = { s.supv with fed := true } ∧ bitOf (t.f SUPV.DIAG.FAIL) 1 = false ∧
      t.fb SUPV.STATUS.PERMIT = !t.supvBlocked ∧ (s.safe.hold = [] → bitOf (s.f SUPV.DIAG.FAIL) 5 = false → t.fb SUPV.STATUS.PERMIT = true) ∧
      SameWords s t [SUPV.DIAG, SUPV.STATUS] ∧ t = { s with regs := t.regs, supv := t.supv }) ∧
  (∀ (us : Nat) (s : State), s.fb SUPV.STATUS.RUNNING = true → s.fb SUPV.STATUS.PAUSED = false → s.supv.fed = true →
    (∀ d, s.supv.dogAt = some d → d + 10 ^ 10 < s.mono) → s.img.activating = false → s.img.fw = none →
    (us < 500 ∨ 1500 < us → ∃ t, exec (.supvPermitConfirm us) s = .next t ∧ DiagnosticTaken s t 2 ∧ t.supv.fed = false ∧
      t.supv.dogAt = some s.mono ∧ (t.reg (hdr 0x07 3)).getLsbD 2 = true ∧ t.pwr = s.pwr) ∧
    ∃ t, exec .watchdogExpiry s = .next t ∧ DiagnosticTaken s t 2 ∧ t.supv.fed = false ∧ t.supv.dogAt = some s.mono ∧
      (t.reg (hdr 0x07 3)).getLsbD 2 = true ∧ t.pwr = s.pwr) ∧
  (∀ (d : Nat) (s : State), s.fb SUPV.STATUS.RUNNING = true → s.fb SUPV.STATUS.PAUSED = false → s.supv.fed = true →
    s.supv.dogAt = some d → s.mono ≤ d + 10 ^ 10 → s.pwr.st ≠ .fold → s.pwr.st ≠ .unpowered →
    ∃ t, exec .watchdogExpiry s = .next t ∧ t.pwr.st = .fold ∧ t.f BOOT.CAUSE.CODE = 0x30 ∧ t.f BOOT.CAUSE.DETAIL = 0x07 ∧
      t.safe.on = false ∧ t.faultLow = true ∧ t.deal.cur = none ∧ t.time = s.time) ∧
  (∀ (us : Nat) (s : State), s.fb SUPV.STATUS.RUNNING = false →
    exec (.supvPermitConfirm us) s = .next s ∧ exec .watchdogExpiry s = .next s) ∧
  (∀ s : State, s.supv.comparing = true →
    ∃ t, exec (.supvComparisonDone 0) s = .next t ∧ t.supv = { s.supv with comparing := false, passes := s.supv.passes + 1 } ∧
      t.f SUPV.CMP.COMPARED = satAdd SUPV.CMP.COMPARED.width (s.f SUPV.CMP.COMPARED) 1 ∧
      (15 ≤ s.supv.passes → bitOf (t.f SUPV.DIAG.FAIL) 3 = false) ∧ (s.supv.passes < 15 → t.f SUPV.DIAG.FAIL = s.f SUPV.DIAG.FAIL) ∧
      SameWords s t [SUPV.CMP, SUPV.DIAG] ∧ t = { s with regs := t.regs, supv := t.supv }) ∧
  (∀ (differ : BitVec 24) (s : State), s.supv.comparing = true → differ ≠ 0 → s.fb SUPV.STATUS.PAUSED = false → s.img.activating = false →
    s.img.fw = none →
    ∃ t, exec (.supvComparisonDone differ) s = .next t ∧ DiagnosticTaken s t 4 ∧ t.supv.comparing = false ∧ t.supv.passes = 0 ∧
      t.f SUPV.CMP.MISMATCH = satAdd SUPV.CMP.MISMATCH.width (s.f SUPV.CMP.MISMATCH) 1 ∧ (t.reg (hdr 0x07 3)).getLsbD 1 = true ∧
      SameWords s t [SUPV.CMP, SUPV.DIAG, SUPV.LAST, SUPV.STATUS, hdr 0x07 3]) ∧
  (∀ (differ : BitVec 24) (s : State), s.supv.comparing = false → exec (.supvComparisonDone differ) s = .next s) ∧
  (∀ (computed : BitVec 32) (s : State), s.firmwareRuns = true → computed ≠ s.reg SAFE.CRC → s.img.activating = false → s.img.fw = none →
    ∃ t, exec (.safetyCrcCheck computed) s = .next t ∧ DiagnosticTaken s t 6 ∧ t.fb SAFE.STATUS.MODE = false ∧
      (s.fb SAFE.STATUS.MODE = true → Raised s t 0x08 7) ∧
      SameWords s t [SUPV.DIAG, SUPV.LAST, SUPV.STATUS, SAFE.STATUS, hdr 0x07 3, hdr 0x08 3]) ∧
  (∀ s : State, exec (.safetyCrcCheck (s.reg SAFE.CRC)) s = .next s) ∧
  (∀ s : State, s.firmwareRuns = true → s.img.activating = false → s.img.fw = none →
    ∃ t, exec (.supvMemoryScrub true) s = .next t ∧ DiagnosticTaken s t 5 ∧ 5 ∈ t.safe.hold ∧
      SameWords s t [SUPV.DIAG, SUPV.LAST, SUPV.STATUS, hdr 0x07 3]) ∧
  (∀ (u : Bool) (s : State), u = false ∨ s.firmwareRuns = false → exec (.supvMemoryScrub u) s = .next s) ∧
  (∀ s : State, s.pwr.st ≠ .unpowered → s.onPll = true →
    (∃ t, exec (.rootClockCheck true) s = .next t ∧ t.supv = { s.supv with clockGood := s.supv.clockGood + 1 } ∧
      (999 ≤ s.supv.clockGood → bitOf (t.f SUPV.DIAG.FAIL) 0 = false) ∧ (s.supv.clockGood < 999 → t.regs = s.regs) ∧
      SameWords s t [SUPV.DIAG] ∧ t = { s with regs := t.regs, supv := t.supv }) ∧
    ∃ t, exec (.rootClockCheck false) s = .next t ∧ bitOf (t.f SUPV.DIAG.FAIL) 0 = true ∧ 1 ∈ t.safe.hold ∧ t.supv.clockGood = 0 ∧
      t.fb EMIT.FAULT.HAZ = true ∧ (s.fb EMIT.FAULT.HAZ = false → t.laserReady = false ∧ t.fb LDB.STATUS.KA = false) ∧ t.time = s.time) ∧
  ∀ (ok : Bool) (s : State), s.onPll = false → exec (.rootClockCheck ok) s = .next s

/-- The password, the safety lock, commissioning and confirmation. OPEN of a well-formed password, with one stored and
no block, starts a check; otherwise it is an error with code 0x14, 0x13 or 0x12. The check's end opens the lock on a
match, logs it and clears ATTEMPTS; a mismatch counts as an attempt with code 0x13, and the third blocks OPEN for 60
s, whose end clears both. SET stores the password and opens the lock; ERASE in READY removes it, resets the block
words of SAFE and FIELD and leaves ACTIVE. COMMISSION with the lock open leaves ACTIVE. CLOSE and the lock timeout
close the lock. CONFIRM with the lock open and the safety CRC makes the mode ACTIVE and closes the lock; any other
value is an error. Under hypotheses on the state and the operands alone it concludes that exec answers a next state
(each command completes) for: pwOpen, pwSet, pwErase, pwCheckDone, pwBlockEnd, safeCmdCommission, safeCmdClose,
safeConfirm, lockTimeout. -/
def Obligations.LockPasswordAndMode : Prop :=
  (∀ (src : Port) (d : BitVec 32) (s : State), s.safe.check = none →
    (s.pwFormat (d.toNat / 256 % 16) = true → s.led.password.isSome = true → s.pwBlocked = false →
      ∃ op, op.chars = s.pwChars (d.toNat / 256 % 16) ∧ op.user = d.toNat / 65536 ∧
        exec (.pwOpen src d) s = .next { s with safe := { s.safe with check := some op } }) ∧
    (s.pwFormat (d.toNat / 256 % 16) = false → ∃ t, exec (.pwOpen src d) s = .next t ∧ ErrorRaised s t 0x14 (portSrc src) SAFE.PW_CTRL) ∧
    (s.pwFormat (d.toNat / 256 % 16) = true → s.led.password = none →
      ∃ t, exec (.pwOpen src d) s = .next t ∧ ErrorRaised s t 0x13 (portSrc src) SAFE.PW_CTRL) ∧
    (s.pwFormat (d.toNat / 256 % 16) = true → s.led.password.isSome = true → s.pwBlocked = true →
      ∃ t, exec (.pwOpen src d) s = .next t ∧ ErrorRaised s t 0x12 (portSrc src) SAFE.PW_CTRL)) ∧
  (∀ (op : PwOp) (s : State), s.safe.check = some op → s.led.password = some op.chars →
    ∃ t, exec .pwCheckDone s = .next t ∧ t.lockOpen = true ∧ t.f SAFE.PW_STAT.ATTEMPTS = 0 ∧ t.safe.check = none ∧ t.safe.user = op.user ∧
      t.safe.lockRef = s.mono ∧ t.led.logNext = s.led.logNext + 1 ∧ (s.lockOpen = false → Raised s t 0x08 5) ∧
      SameWords s t [SAFE.PW_STAT, hdr 0x08 3] ∧ t.time = s.time) ∧
  (∀ (op : PwOp) (s : State), s.safe.check = some op → s.led.password ≠ some op.chars → s.f SAFE.PW_STAT.ATTEMPTS < 2 →
    ∃ t, exec .pwCheckDone s = .next t ∧ t.lockOpen = s.lockOpen ∧ t.f SAFE.PW_STAT.ATTEMPTS = s.f SAFE.PW_STAT.ATTEMPTS + 1 ∧
      t.safe.check = none ∧ Raised s t 0x08 31 ∧ t.led = s.led ∧ SameMemory s t ∧ t.time = s.time ∧
      SameWords s t [SAFE.PW_STAT, hdr 0x08 3, hdr 0x08 6, hdr 0x08 7]) ∧
  (∀ (op : PwOp) (s : State), s.safe.check = some op → s.led.password ≠ some op.chars → s.f SAFE.PW_STAT.ATTEMPTS = 2 →
    ∃ t, exec .pwCheckDone s = .next t ∧ t.lockOpen = s.lockOpen ∧ t.led.blockEnd = some (s.mono + 60 * 10 ^ 10) ∧
      t.led.logNext = s.led.logNext + 1 ∧ t.pwBlocked = true ∧ t.time = s.time) ∧
  (∀ s : State, s.safe.check = none → exec .pwCheckDone s = .next s) ∧
  (∀ (e : Nat) (s : State), s.led.blockEnd = some e →
    ∃ t, exec .pwBlockEnd s = .next t ∧ t.led.blockEnd = none ∧ t.pwBlocked = false ∧ t.f SAFE.PW_STAT.ATTEMPTS = 0 ∧
      SameWords s t [SAFE.PW_STAT] ∧ (∀ a, blockWord a = false → t.rd a = s.rd a) ∧ t.time = s.time) ∧
  (∀ s : State, s.led.blockEnd = none → exec .pwBlockEnd s = .next s) ∧
  (∀ (src : Port) (d : BitVec 32) (s : State), s.pwr.st ≠ .unpowered → s.safe.check = none →
    (s.pwFormat (d.toNat / 256 % 16) = true → s.lockOpen = true ∨ s.led.password = none →
      ∃ t, exec (.pwSet src d) s = .next t ∧ t.led.password = some (s.pwChars (d.toNat / 256 % 16)) ∧ t.lockOpen = true ∧
        t.led.logNext = s.led.logNext + 1 ∧ SameWords s t [hdr 0x08 3] ∧ t.time = s.time) ∧
    (s.pwFormat (d.toNat / 256 % 16) = false → ∃ t, exec (.pwSet src d) s = .next t ∧ ErrorRaised s t 0x14 (portSrc src) SAFE.PW_CTRL) ∧
    (s.pwFormat (d.toNat / 256 % 16) = true → s.lockOpen = false → s.led.password.isSome = true →
      ∃ t, exec (.pwSet src d) s = .next t ∧ ErrorRaised s t 0x05 (portSrc src) SAFE.PW_CTRL)) ∧
  (∀ (src : Port) (s : State), s.safe.check = none → s.pwr.st = .ready →
    ∃ t, exec (.pwErase src) s = .next t ∧ t.led.password = none ∧ t.fb SAFE.STATUS.MODE = false ∧ t.lockOpen = s.lockOpen ∧
      t.led.logNext = s.led.logNext + 1 ∧
      (∀ a, a / 0x400 = 0x08 ∨ a / 0x400 = 0x09 → 0x10 ≤ a % 0x400 → a ≠ SAFE.CRC → t.reg a = resetWord a) ∧
      (∀ a, a / 0x400 ≠ 0x08 → a / 0x400 ≠ 0x09 → t.reg a = s.reg a) ∧ t.time = s.time) ∧
  (∀ (src : Port) (s : State), s.safe.check.isSome = true ∨ s.pwr.st ≠ .ready →
    ∃ t, exec (.pwErase src) s = .next t ∧ ErrorRaised s t 0x05 (portSrc src) SAFE.PW_CTRL) ∧
  (∀ (src : Port) (s : State), (s.lockOpen = true →
      ∃ t, exec (.safeCmdCommission src) s = .next t ∧ t.fb SAFE.STATUS.MODE = false ∧ t.lockOpen = true ∧
        t.led.logNext = s.led.logNext + 1 ∧ (s.fb SAFE.STATUS.MODE = true → Raised s t 0x08 7) ∧
        SameWords s t [SAFE.STATUS, hdr 0x08 3] ∧ t.time = s.time) ∧
    (s.lockOpen = false → ∃ t, exec (.safeCmdCommission src) s = .next t ∧ ErrorRaised s t 0x05 (portSrc src) SAFE.CMD)) ∧
  (∀ s : State, ∃ t, exec .safeCmdClose s = .next t ∧ exec .lockTimeout s = .next t ∧ t.lockOpen = false ∧
    (s.lockOpen = true → Raised s t 0x08 6 ∧ SameWords s t [hdr 0x08 3]) ∧ (s.lockOpen = false → t = s) ∧ SameMemory s t ∧
    t.time = s.time ∧ t.led = s.led ∧ t.safe = s.safe) ∧
  (∀ (src : Port) (s : State), s.lockOpen = true → s.img.committed = true → s.commits = [] → s.latched = [] →
    ∃ t, exec (.safeConfirm src (s.reg SAFE.CRC)) s = .next t ∧ t.fb SAFE.STATUS.MODE = true ∧ t.lockOpen = false ∧
      bitOf (t.f SUPV.DIAG.FAIL) 5 = false ∧ t.led.logNext = s.led.logNext + 1 ∧
      t.rd (slotBase (s.f BOOT.IMAGE.CFG_ACTIVE) + 4) = w36 (s.reg SAFE.CRC).toNat ∧ t.reg SAFE.CRC = s.reg SAFE.CRC ∧
      (s.fb SAFE.STATUS.MODE = false → s.fb SAFE.FUNC.START_IL = true → t.fb SAFE.STATUS.RESTART_REQ = true) ∧
      SameWords s t [SAFE.STATUS, SUPV.DIAG, SUPV.STATUS, hdr 0x08 3] ∧ t.time = s.time) ∧
  ∀ (src : Port) (d : BitVec 32) (s : State), s.lockOpen = false ∨ s.img.committed = false ∨ d ≠ s.reg SAFE.CRC →
    ∃ t, exec (.safeConfirm src d) s = .next t ∧ ErrorRaised s t 0x15 (portSrc src) SAFE.CONFIRM

/-- A command of FW_CMD or CFG_CMD refused while another one runs (R417), and any other refusal: nothing but the error. -/
def CommandTurnedAway (s : State) (c : Instr) (code src a : Nat) : Prop := ∃ t, exec c s = .next t ∧ ErrorRaised s t code src a

/-- A command of CFG_CMD has ended with a result, raising CFG_DONE (R411, R412, R418). -/
def CfgEnded (s t : State) (result : Nat) : Prop :=
  t.fb BOOT.CFG_STAT.BUSY = false ∧ t.f BOOT.CFG_STAT.RESULT = result ∧ t.img = { s.img with cfg := none } ∧ (t.reg (hdr 0x03 3)).getLsbD 2 = true

/-- A command of FW_CMD has ended with a result, raising FW_DONE (R413-R415, R418). -/
def FwEnded (s t : State) (result : Nat) : Prop :=
  t.fb BOOT.FW_STAT.BUSY = false ∧ t.f BOOT.FW_STAT.RESULT = result ∧ t.img = { s.img with fw := none } ∧ (t.reg (hdr 0x03 3)).getLsbD 0 = true

/-- Verifying, swapping and ratcheting supervisor firmware. FW_CMD is refused with BUSY while a change runs. VERIFY
starts a check of the inactive slot; its end gives RESULT 4, 2, 3 or 1 for a bad layout, a bad signature, a VERSION
below FW_MIN or success, which alone sets the slot's OK bit. SWAP needs READY or RUN, the lock open and the slot
verified, else STATE. The supervisor stops at the frame boundary with PAUSED 1; the image start changes FW_ACTIVE and
logs KIND 0x09; the time-out ends the swap with RESULT 6, FW_SWAP_FAIL and the previous image. RAISE_MIN with the lock
open sets FW_MIN to the running VERSION. Under hypotheses on the state and the operands alone it concludes that exec
answers a next state (each command completes) for: fwVerify, fwVerifyDone, fwSwap, fwSwapStop, fwImageStart,
fwSwapTimeout, fwRaiseMin. -/
def Obligations.FirmwareImages : Prop :=
  (∀ (src : Port) (s : State), s.img.fw.isSome = true ∨ s.img.cfg.isSome = true →
    CommandTurnedAway s (.fwVerify src) 0x11 (portSrc src) BOOT.FW_CMD ∧ CommandTurnedAway s (.fwSwap src) 0x11 (portSrc src) BOOT.FW_CMD ∧
    CommandTurnedAway s (.fwRaiseMin src) 0x11 (portSrc src) BOOT.FW_CMD) ∧
  (∀ (src : Port) (s : State), s.img = {} →
    (∃ t, exec (.fwVerify src) s = .next t ∧ t.fb BOOT.FW_STAT.BUSY = true ∧ t.img = { fw := some .verify } ∧
      SameWords s t [BOOT.FW_STAT] ∧ t = { s with regs := t.regs, img := t.img }) ∧
    (s.pwr.st = .ready ∨ s.pwr.st = .run → s.lockOpen = true → s.fb (okBit s.fwInactive) = true →
      ∃ t, exec (.fwSwap src) s = .next t ∧ t.fb BOOT.FW_STAT.BUSY = true ∧ t.img = { fw := some .swapWaits } ∧
        SameWords s t [BOOT.FW_STAT] ∧ t = { s with regs := t.regs, img := t.img }) ∧
    ((s.pwr.st ≠ .ready ∧ s.pwr.st ≠ .run) ∨ s.lockOpen = false ∨ s.fb (okBit s.fwInactive) = false →
      CommandTurnedAway s (.fwSwap src) 0x12 (portSrc src) BOOT.FW_CMD) ∧
    (s.lockOpen = true → ∃ t, exec (.fwRaiseMin src) s = .next t ∧ t.led = { s.led with fwMin := s.rdN (slotBase s.fwRunning) 0 16 } ∧
      (t.reg (hdr 0x03 3)).getLsbD 0 = true ∧ SameWords s t [hdr 0x03 3] ∧ t.img = s.img ∧ (∀ a, blockWord a = false → t.rd a = s.rd a)) ∧
    (s.lockOpen = false → CommandTurnedAway s (.fwRaiseMin src) 0x12 (portSrc src) BOOT.FW_CMD)) ∧
  (∀ (signed : Bool) (s : State), s.img.fw = some .verify →
    let n := s.fwInactive
    let u := s.ledgerScan (slotBase n) (fwWords (min 65517 (s.rdN (slotBase n + 1) 0 32)))
    ∃ t, exec (.fwVerifyDone signed) s = .next t ∧
      (u.fwLayoutOk n = false → FwEnded s t 4) ∧
      (u.fwLayoutOk n = true → signed = false → FwEnded s t 2) ∧
      (u.fwLayoutOk n = true → signed = true → s.rdN (slotBase n) 0 16 < s.led.fwMin → FwEnded s t 3) ∧
      (u.fwLayoutOk n = true → signed = true → s.led.fwMin ≤ s.rdN (slotBase n) 0 16 → FwEnded s t 1 ∧ t.fb (okBit n) = true) ∧
      (u.fwLayoutOk n = false ∨ signed = false ∨ s.rdN (slotBase n) 0 16 < s.led.fwMin → t.reg BOOT.IMAGE = s.reg BOOT.IMAGE) ∧
      SameWords s t [BOOT.IMAGE, BOOT.FW_STAT, hdr 0x03 3, LEDGER.ECC, hdr 0x0A 3, hdr 0x0A 6, hdr 0x0A 7] ∧ SameMemory s t ∧
      t.led = s.led ∧ t.time = s.time ∧ t.lockOpen = s.lockOpen) ∧
  (∀ (signed : Bool) (s : State), s.img.fw ≠ some .verify → exec (.fwVerifyDone signed) s = .next s) ∧
  (∀ s : State, s.img.fw = some .swapWaits →
    ∃ t, exec .fwSwapStop s = .next t ∧ t.fb SUPV.STATUS.PAUSED = true ∧ t.img = { s.img with fw := some .stopped } ∧
      SameWords s t [SUPV.STATUS] ∧ t = { s with regs := t.regs, img := t.img }) ∧
  (∀ s : State, s.img.fw ≠ some .swapWaits → exec .fwSwapStop s = .next s) ∧
  (∀ s : State, s.img.fw = some .stopped →
    (∃ t, exec .fwImageStart s = .next t ∧ t.f BOOT.IMAGE.FW_ACTIVE = 1 - s.f BOOT.IMAGE.FW_ACTIVE ∧
      t.led.fwActive = 1 - s.f BOOT.IMAGE.FW_ACTIVE ∧ t.img = { s.img with fw := some .started } ∧ t.led.logNext = s.led.logNext + 1 ∧
      t.rd (logPlace s.led.logNext) = w36 (s.led.logNext % 2 ^ 32) ∧ t.rd (logPlace s.led.logNext + 1) = w36 (9 * 2 ^ 28 + if s.lockOpen then s.safe.user else 0) ∧
      SameWords s t [BOOT.IMAGE] ∧ t.time = s.time ∧ t.lockOpen = s.lockOpen) ∧
    (s.img.cfg = none → ∃ t, exec .fwSwapTimeout s = .next t ∧ FwEnded s t 6 ∧ (t.reg (hdr 0x03 3)).getLsbD 1 = true ∧
      t.fb (okBit s.fwInactive) = false ∧ t.f BOOT.IMAGE.FW_ACTIVE = s.f BOOT.IMAGE.FW_ACTIVE ∧ t.fb SUPV.STATUS.PAUSED = false ∧ t.fb SUPV.STATUS.PERMIT = false ∧
      16 ∈ t.safe.hold ∧ t.led = s.led ∧ t.time = s.time)) ∧
  (∀ s : State, s.img.fw = some .started → s.img.cfg = none →
    ∃ t, exec .fwSwapTimeout s = .next t ∧ FwEnded s t 6 ∧ (t.reg (hdr 0x03 3)).getLsbD 1 = true ∧ t.fb (okBit s.fwRunning) = false ∧
      t.f BOOT.IMAGE.FW_ACTIVE = 1 - s.f BOOT.IMAGE.FW_ACTIVE ∧ t.led = { s.led with fwActive := 1 - s.f BOOT.IMAGE.FW_ACTIVE } ∧
      t.fb SUPV.STATUS.PAUSED = false ∧ t.fb SUPV.STATUS.PERMIT = false ∧ 16 ∈ t.safe.hold ∧ t.faultLow = true ∧ t.time = s.time) ∧
  ∀ s : State, (s.img.fw ≠ some .stopped → exec .fwImageStart s = .next s) ∧
    (s.img.fw ≠ some .stopped → s.img.fw ≠ some .started → exec .fwSwapTimeout s = .next s)

/-- The inactive configuration slot has been read, its errors counted (R82, R445). -/
def SlotRead (s : State) : State := s.ledgerScan (slotBase s.cfgInactive) (min 65536 (s.cfgLength s.cfgInactive))

/-- Storing, checking and activating configuration images, and block writes of the ledger. CFG_CMD is refused with
BUSY while a change runs. STORE with the lock open writes the image into the inactive slot and ends with RESULT 1 and
its OK bit set. CHECK marks both slots by their layout and CRC. ACTIVATE with BOUNDARY 2 or 3 starts the check; an
invalid slot ends it with RESULT 3, and a change of a safety word with the mode ACTIVE or the lock closed with RESULT
5. Otherwise the requests of the dirty pages are posted, or one is refused with RESULT 4 and no active setting
changes. LEDGER.CMD queues a block write, refused with BUSY while one runs; its end writes the boot parameters or
calibration records and raises WRITE_DONE. Under hypotheses on the state and the operands alone it concludes that exec
answers a next state (each command completes) for: cfgStore, cfgStoreDone, cfgActivate, cfgActivateCrcDone, cfgCheck,
ledgerWriteBootp, ledgerStoreCal, ledgerWriteDone. -/
def Obligations.ConfigurationImages : Prop :=
  (∀ (src : Port) (b : Fin 4) (s : State), s.img.fw.isSome = true ∨ s.img.cfg.isSome = true →
    CommandTurnedAway s (.cfgStore src) 0x11 (portSrc src) BOOT.CFG_CMD ∧ CommandTurnedAway s (.cfgCheck src) 0x11 (portSrc src) BOOT.CFG_CMD ∧
    (2 ≤ b.val → CommandTurnedAway s (.cfgActivate src b) 0x11 (portSrc src) BOOT.CFG_CMD)) ∧
  (∀ (src : Port) (s : State), s.img = {} →
    (s.lockOpen = true → ∃ t, exec (.cfgStore src) s = .next t ∧ t.fb BOOT.CFG_STAT.BUSY = true ∧ t.fb (okBit s.cfgInactive) = false ∧
      t.img = { cfg := some .store } ∧
      (∃ id, ∀ (i : Nat) (w : Word36), (s.storedImage id)[i]? = some w → t.rd (slotBase s.cfgInactive + i) = w) ∧
      (∀ a, a < slotBase s.cfgInactive → t.rd a = s.rd a) ∧
      SameWords s t [BOOT.IMAGE, BOOT.CFG_STAT] ∧ t.time = s.time ∧ t.lockOpen = s.lockOpen) ∧
    (s.lockOpen = false → CommandTurnedAway s (.cfgStore src) 0x12 (portSrc src) BOOT.CFG_CMD) ∧
    (∃ t, exec (.cfgCheck src) s = .next t ∧ CfgEnded s t 0 ∧ (∀ n < 2, t.fb (okBit n) = (s.cfgRecords n).isSome) ∧
      SameWords s t [BOOT.IMAGE, BOOT.CFG_STAT, hdr 0x03 3, LEDGER.ECC, hdr 0x0A 3, hdr 0x0A 6, hdr 0x0A 7] ∧ SameMemory s t ∧
      t.led = s.led ∧ t.time = s.time) ∧
    ∀ b : Fin 4, 2 ≤ b.val → ∃ t, exec (.cfgActivate src b) s = .next t ∧ t.fb BOOT.CFG_STAT.BUSY = true ∧
      t.img = { cfg := some (.checking b.val) } ∧ SameWords s t [BOOT.CFG_STAT] ∧ t = { s with regs := t.regs, img := t.img }) ∧
  (∀ (src : Port) (b : Fin 4) (s : State), b.val < 2 → CommandTurnedAway s (.cfgActivate src b) 0x05 (portSrc src) BOOT.CFG_CMD) ∧
  (∀ s : State, s.img.cfg = some .store →
    ∃ t, exec .cfgStoreDone s = .next t ∧ CfgEnded s t 1 ∧ t.fb (okBit s.cfgInactive) = true ∧
      SameWords s t [BOOT.IMAGE, BOOT.CFG_STAT, hdr 0x03 3] ∧ SameMemory s t ∧ t.led = s.led ∧ t.time = s.time) ∧
  (∀ s : State, s.img.cfg ≠ some .store → exec .cfgStoreDone s = .next s) ∧
  (∀ (b : Nat) (s : State), s.img.cfg = some (.checking b) → (SlotRead s).cfgRecords s.cfgInactive = none →
    ∃ t, exec .cfgActivateCrcDone s = .next t ∧ CfgEnded s t 3 ∧ t.fb (okBit s.cfgInactive) = false ∧
      SameWords s t [BOOT.IMAGE, BOOT.CFG_STAT, hdr 0x03 3, LEDGER.ECC, hdr 0x0A 3, hdr 0x0A 6, hdr 0x0A 7] ∧ SameMemory s t ∧
      t.shadow = s.shadow ∧ t.led = s.led ∧ t.time = s.time) ∧
  (∀ (b : Nat) (rs : List Record) (s : State), s.img.cfg = some (.checking b) → (SlotRead s).cfgRecords s.cfgInactive = some rs →
    ((SlotRead s).setB (okBit s.cfgInactive) true).changesCovered (registerWords rs) = true → s.fb SAFE.STATUS.MODE = true ∨ s.lockOpen = false →
    ∃ t, exec .cfgActivateCrcDone s = .next t ∧ CfgEnded s t 5 ∧ t.fb (okBit s.cfgInactive) = true ∧
      SameWords s t [BOOT.IMAGE, BOOT.CFG_STAT, hdr 0x03 3, LEDGER.ECC, hdr 0x0A 3, hdr 0x0A 6, hdr 0x0A 7] ∧ SameMemory s t ∧
      t.shadow = s.shadow ∧ t.led = s.led ∧ t.time = s.time) ∧
  (∀ (b : Nat) (rs : List Record) (s : State), s.img.cfg = some (.checking b) → (SlotRead s).cfgRecords s.cfgInactive = some rs →
    ((SlotRead s).setB (okBit s.cfgInactive) true).changesCovered (registerWords rs) = false ∨ (s.fb SAFE.STATUS.MODE = false ∧ s.lockOpen = true) →
    memoryWords 1 rs = [] → memoryWords 2 rs = [] → s.commits = [] →
    ∃ t, exec .cfgActivateCrcDone s = .next t ∧
      ((∃ p, t.img.cfg = some (.posted p) ∧ p.boundary = b ∧ p.latched = false ∧
          p.held = (registerWords rs).filter fun w => storedMask w.1 &&& ~~~rwsMask w.1 != 0) ∨
       (CfgEnded s t 4 ∧ (∀ a, 0x10 ≤ a % 0x400 → a ∉ [BOOT.CFG_STAT, BOOT.IMAGE, LEDGER.ECC] → t.reg a = s.reg a) ∧
          t.commits = [] ∧ SameMemory s t ∧ t.led = s.led ∧ t.time = s.time))) ∧
  (∀ s : State, (∀ b, s.img.cfg ≠ some (.checking b)) → exec .cfgActivateCrcDone s = .next s) ∧
  (∀ (src : Port) (s : State), s.pwr.st ≠ .unpowered →
    (s.led.ops = [] → (∃ t, exec (.ledgerWriteBootp src) s = .next t ∧ t.led = { s.led with ops := [.bootp] } ∧
        t.fb LEDGER.STAT.BUSY = true ∧ SameWords s t [LEDGER.STAT] ∧ t = { s with regs := t.regs, led := t.led }) ∧
      ∃ t, exec (.ledgerStoreCal src) s = .next t ∧ t.led = { s.led with ops := [.cal [0, 1, 2, 3, 4, 5, 6]] } ∧
        t.fb LEDGER.STAT.BUSY = true ∧ SameWords s t [LEDGER.STAT] ∧ t = { s with regs := t.regs, led := t.led }) ∧
    (s.led.ops ≠ [] → CommandTurnedAway s (.ledgerWriteBootp src) 0x10 (portSrc src) LEDGER.CMD ∧
      CommandTurnedAway s (.ledgerStoreCal src) 0x10 (portSrc src) LEDGER.CMD)) ∧
  (∀ (ops : List LedgerOp) (s : State), s.led.ops = .bootp :: ops →
    ∃ t, exec .ledgerWriteDone s = .next t ∧ t.led.bootp = some (s.reg LEDGER.BOOTP) ∧ t.reg BOOT.PARAM = s.reg LEDGER.BOOTP ∧
      t.led.ops = ops ∧ t.fb LEDGER.STAT.BUSY = !ops.isEmpty ∧ Raised s t 0x0A 0 ∧ t.led.cal = s.led.cal ∧
      SameWords s t [BOOT.PARAM, LEDGER.STAT, hdr 0x0A 3] ∧ (∀ a, blockWord a = false → t.rd a = s.rd a) ∧ t.time = s.time) ∧
  (∀ (items : List Nat) (ops : List LedgerOp) (s : State), s.led.ops = .cal items :: ops → s.led.cal.length = 7 →
    ∃ t, exec .ledgerWriteDone s = .next t ∧
      (∀ i < 7, nth t.led.cal i none = if i ∈ items then some (s.calRecord i) else nth s.led.cal i none) ∧
      t.led.ops = ops ∧ t.fb LEDGER.STAT.BUSY = !ops.isEmpty ∧ Raised s t 0x0A 0 ∧ t.led.bootp = s.led.bootp ∧
      SameWords s t [LEDGER.STAT, hdr 0x0A 3] ∧ (∀ a, blockWord a = false → t.rd a = s.rd a) ∧ t.time = s.time) ∧
  ∀ s : State, s.led.ops = [] → exec .ledgerWriteDone s = .next s

/-- RAISE_MIN sets the least firmware version, and VERIFY refuses any older image. With no change running, FW_CMD
RAISE_MIN is accepted with the lock open, and FW_MIN is the VERSION of the running image afterwards; with the lock
closed it is refused and FW_MIN stays. In every state whose FW_MIN is above the VERSION of the inactive image, the end
of a VERIFY does not mark that image as verified, and with a good layout and signature its RESULT is 3. VERIFY itself
leaves FW_MIN as it is. Under hypotheses on the state and the operands alone it concludes that exec answers a next
state (each command completes) for: fwVerifyDone, fwRaiseMin. -/
def Obligations.FirmwareRatchet : Prop :=
  (∀ (src : Port) (s : State), s.img = {} →
    (s.lockOpen = true → ∃ t, exec (.fwRaiseMin src) s = .next t ∧ t.led.fwMin = s.rdN (slotBase s.fwRunning) 0 16) ∧
    (s.lockOpen = false → ∃ t, exec (.fwRaiseMin src) s = .next t ∧ t.led.fwMin = s.led.fwMin ∧ ErrorRaised s t 0x12 (portSrc src) BOOT.FW_CMD)) ∧
  ∀ (signed : Bool) (s : State), s.img.fw = some .verify → s.rdN (slotBase s.fwInactive) 0 16 < s.led.fwMin →
    ∃ t, exec (.fwVerifyDone signed) s = .next t ∧ t.reg BOOT.IMAGE = s.reg BOOT.IMAGE ∧ t.led.fwMin = s.led.fwMin ∧
      (signed = true → (s.ledgerScan (slotBase s.fwInactive)
          (fwWords (min 65517 (s.rdN (slotBase s.fwInactive + 1) 0 32)))).fwLayoutOk s.fwInactive = true → t.f BOOT.FW_STAT.RESULT = 3) ∧
      t.f BOOT.FW_STAT.RESULT ≠ 1

/-- An element of an item has been completed: its count goes up, its TIME is kept, and where it ends the pass the results of the
item wait to be stored (R432). -/
def Counted (s t : State) (item : Nat) : Prop :=
  t.f (CAL.COUNT.COUNT item) = (s.f (CAL.COUNT.COUNT item) + 1) % 2 ^ 32 ∧
  t.f (CAL.TIME_LO.TIME_LO item) = s.timeNs % 2 ^ 32 ∧ t.f (CAL.TIME_HI.TIME_HI item) = s.timeNs / 2 ^ 32 % 2 ^ 32 ∧
  (t.led.ops = s.led.ops ∨ (t.led.ops = s.led.ops ++ [.cal [item]] ∧ t.fb LEDGER.STAT.BUSY = true))

/-- An element of an item has failed: CAL_FAIL is raised, and its count stays (R432, R443). -/
def CalFailed (s t : State) (item : Nat) : Prop :=
  (t.reg (hdr 0x0C 3)).getLsbD 1 = true ∧ t.f (CAL.COUNT.COUNT item) = s.f (CAL.COUNT.COUNT item)

/-- The words that the end of an element may change beside its results: the item's count and TIME, the CAL events and the ledger's
BUSY. -/
def calBooks (item : Nat) : List Nat := [CAL.COUNT item, CAL.TIME_HI item, CAL.TIME_LO item, hdr 0x0C 3, LEDGER.STAT]

/-- The start of a calibration item takes its spare resource. With CAL running and the item enabled, an element of
item 0 takes the lowest free kitty TDC into calibration state and moves the channel to it; items 1 and 5 take a free
kitty TDC; item 2 takes the lock of the standby loop for a new selection; item 3 takes an input off-line with CAL 1,
one of its page at a time; item 4 puts the spare on the bus of the ADC. CAL.STAT names item and element. Where the
scheduler does not run, or the resource is not free, nothing changes. Under hypotheses on the state and the operands
alone it concludes that exec answers a next state (each command completes) for: calItemStart. -/
def Obligations.CalibrationStarts : Prop :=
  (∀ (c : Fin 384) (n : Nat) (s : State), s.calMay 0 = true → s.lowestKit 0 = some n → s.kitsLeft = true →
    s.fb (TDC.STAT.FAILED (c.val / 48) (c.val % 48)) = false → (s.chan c.val).noTdc = false → s.kitOf c.val = none → s.ret.chans.length = 384 →
    ∃ t, exec (.calItemStart 0 c) s = .next t ∧ t.kitState n = 2 ∧ t.f (KITTY.ASSIGN.CH n) = c.val ∧ (t.chan c.val).move = some (.kitty n) ∧
      t.f CAL.STAT.ITEM = 0 ∧ t.f CAL.STAT.ELEMENT = c.val ∧ t.cal.tdcs = s.cal.tdcs ++ [c.val] ∧
      SameWords s t [KITTY.ASSIGN n, KITTY.SUMMARY, CAL.STAT] ∧ t = { s with regs := t.regs, ret := t.ret, cal := t.cal }) ∧
  (∀ (c : Fin 384) (s : State), s.calMay 0 = false ∨ s.lowestKit 0 = none ∨ s.kitsLeft = false ∨
      s.fb (TDC.STAT.FAILED (c.val / 48) (c.val % 48)) = true → exec (.calItemStart 0 c) s = .next s) ∧
  (∀ (e : Fin 384) (s : State), s.calMay 1 = true → e.val < 16 →
    (s.kitState e.val = 0 → s.kitsLeft = true →
      ∃ t, exec (.calItemStart 1 e) s = .next t ∧ t.kitState e.val = 2 ∧ t.f (KITTY.ASSIGN.CH e.val) = 0x1FF ∧
        t.f CAL.STAT.ITEM = 1 ∧ t.f CAL.STAT.ELEMENT = e.val ∧ t.cal.kitties = s.cal.kitties ++ [e.val] ∧
        SameWords s t [KITTY.ASSIGN e.val, KITTY.SUMMARY, CAL.STAT] ∧ t = { s with regs := t.regs, cal := t.cal }) ∧
    (s.kitState e.val ≠ 0 ∨ s.kitsLeft = false → exec (.calItemStart 1 e) s = .next s)) ∧
  (∀ (e : Fin 384) (s : State), s.calMay 2 = true → e.val < 16 → s.domOn 3 = true → s.fb (lockField (e.val / 2) 0) = true →
    s.fb (lockField (e.val / 2) 1) = true →
    (s.f (TDC.DLL.ACTIVE (e.val / 2)) ≠ e.val % 2 →
      ∃ t, exec (.calItemStart 2 e) s = .next t ∧ t.fb (lockField (e.val / 2) (e.val % 2)) = false ∧
        t.fb (lockField (e.val / 2) (1 - e.val % 2)) = true ∧ t.f (TDC.DLL.ACTIVE (e.val / 2)) = s.f (TDC.DLL.ACTIVE (e.val / 2)) ∧
        t.f CAL.STAT.ITEM = 2 ∧ t.f CAL.STAT.ELEMENT = e.val ∧ t.cal.dlls = s.cal.dlls ++ [(e.val, s.f (cellsField e.val))] ∧
        SameWords s t [TDC.DLL (e.val / 2), CAL.STAT] ∧ t = { s with regs := t.regs, cal := t.cal }) ∧
    (s.f (TDC.DLL.ACTIVE (e.val / 2)) = e.val % 2 → exec (.calItemStart 2 e) s = .next s)) ∧
  (∀ (r : Fin 384) (s : State), s.calMay 3 = true → s.domOn 2 = true →
    (s.afeInTime = true → s.fb (AFE.STAT.DEAD (r.val / 48) (r.val % 48)) = false → (∀ q ∈ s.cal.afes, q / 48 ≠ r.val / 48) →
      ∃ t, exec (.calItemStart 3 r) s = .next t ∧ t.fb (AFE.STAT.CAL (r.val / 48) (r.val % 48)) = true ∧ t.cal.afes = s.cal.afes ++ [r.val] ∧
        t.f CAL.STAT.ITEM = 3 ∧ t.f CAL.STAT.ELEMENT = r.val ∧
        (∀ c, s.channelOf r.val = some c → s.ret.chans.length = 384 → c < 384 → (t.chan c).sum.cal = true) ∧
        SameWords s t [(AFE.STAT.CAL (r.val / 48) (r.val % 48)).addr, CAL.STAT] ∧ t = { s with regs := t.regs, ret := t.ret, cal := t.cal }) ∧
    (s.afeInTime = false ∨ s.fb (AFE.STAT.DEAD (r.val / 48) (r.val % 48)) = true ∨ (∃ q ∈ s.cal.afes, q / 48 = r.val / 48) →
      exec (.calItemStart 3 r) s = .next s)) ∧
  (∀ (a : Fin 384) (s : State), s.calMay 4 = true → a.val < 9 → s.domOn 4 = true →
    (s.cal.adc = none → s.fb (ADC.STAT.FAILED a.val) = false → s.f ADC.SPARE.STATE = 0 → s.acq.handover = none →
      ∃ t, exec (.calItemStart 4 a) s = .next t ∧ t.cal.adc = some a.val ∧ t.f CAL.STAT.ITEM = 4 ∧ t.f CAL.STAT.ELEMENT = a.val ∧
        (a.val < 8 → t.f ADC.SPARE.STATE = 2 ∧ t.f ADC.SPARE.BUS = a.val ∧ t.acq.handover = some { bus := a.val, toSpare := true }) ∧
        (a.val = 8 → t.acq = s.acq ∧ t.f ADC.SPARE.STATE = 0) ∧
        SameWords s t [ADC.SPARE, ADC.STATUS, CAL.STAT] ∧ t = { s with regs := t.regs, acq := t.acq, cal := t.cal }) ∧
    (s.cal.adc.isSome = true ∨ s.fb (ADC.STAT.FAILED a.val) = true ∨ s.f ADC.SPARE.STATE ≠ 0 → exec (.calItemStart 4 a) s = .next s)) ∧
  (∀ (e : Fin 384) (n : Nat) (s : State), s.calMay 5 = true → s.lowestKit 0 = some n →
    (s.cal.dummy = none → s.kitsLeft = true →
      ∃ t, exec (.calItemStart 5 e) s = .next t ∧ t.kitState n = 2 ∧ t.cal.dummy = some n ∧ t.f CAL.STAT.ITEM = 5 ∧
        SameWords s t [KITTY.ASSIGN n, KITTY.SUMMARY, CAL.STAT] ∧ t = { s with regs := t.regs, cal := t.cal }) ∧
    (s.cal.dummy.isSome = true ∨ s.kitsLeft = false → exec (.calItemStart 5 e) s = .next s)) ∧
  ∀ (item : Fin 6) (e : Fin 384) (s : State), s.calMay item.val = false → exec (.calItemStart item e) s = .next s

/-- What each calibration item writes at its end, and what its failure leaves. A measured own TDC within the limits
takes its values and returns to its channel; outside them it keeps its values and is marked failed with RETEST, and
the kitty TDC stays as a spare. A kitty TDC takes its values and is free, or is marked failed. A matching delay-cell
selection stays and the loops change roles; otherwise the one before is restored. An input takes the pair of lowest
offset within 31 codes of each comparator and PAIR_OK; with none it is DEAD. An ADC takes AOFS and AGAIN and gets its
bus back. D0 is written. A success is counted with its TIME, a failure raises CAL_FAIL. Under hypotheses on the state
and the operands alone it concludes that exec answers a next state (each command completes) for: tdcCalMeasureDone,
kittyCalDone, dllCalDone, afeCalDone, adcCalDone, dummyD0Done. -/
def Obligations.CalibrationResults : Prop :=
  (∀ (c : Fin 384) (lo hi : Fin 1024) (cs : List Int) (s : State), c.val ∈ s.cal.tdcs → s.fb (TDC.STAT.ON_KITTY (c.val / 48) (c.val % 48)) = true →
    s.ret.chans.length = 384 →
    (linearOk lo.val hi.val cs = true →
      ∃ t, exec (.tdcCalMeasureDone c lo hi cs) s = .next t ∧ t.f (TDC.LIN.RAW_LO (c.val / 48) (c.val % 48)) = lo.val ∧
        t.f (TDC.LIN.RAW_HI (c.val / 48) (c.val % 48)) = hi.val ∧ t.reg (TDC.INL_A (c.val / 48) (c.val % 48)) = bytesWord cs ∧
        t.reg (TDC.INL_B (c.val / 48) (c.val % 48)) = bytesWord (cs.drop 4) ∧ (t.chan c.val).move = some .own ∧ c.val ∉ t.cal.tdcs ∧ Counted s t 0 ∧
        SameWords s t ([TDC.LIN (c.val / 48) (c.val % 48), TDC.INL_A (c.val / 48) (c.val % 48), TDC.INL_B (c.val / 48) (c.val % 48)] ++ calBooks 0) ∧
        SameMemory s t ∧ t.time = s.time) ∧
    ∀ n, linearOk lo.val hi.val cs = false → s.fb (TDC.STAT.FAILED (c.val / 48) (c.val % 48)) = false → s.kitOf c.val = some n →
      ∃ t, exec (.tdcCalMeasureDone c lo hi cs) s = .next t ∧ t.fb (TDC.STAT.FAILED (c.val / 48) (c.val % 48)) = true ∧
        t.f (TDC.STAT.CAUSE (c.val / 48) (c.val % 48)) = 5 ∧ t.kitState n = 1 ∧ t.f (KITTY.ASSIGN.CH n) = c.val ∧
        (t.chan c.val).move = some (.kitty n) ∧ c.val ∉ t.cal.tdcs ∧
        (∀ a ∈ [TDC.LIN (c.val / 48) (c.val % 48), TDC.INL_A (c.val / 48) (c.val % 48), TDC.INL_B (c.val / 48) (c.val % 48)], t.reg a = s.reg a) ∧
        CalFailed s t 0 ∧ SameMemory s t ∧ t.time = s.time) ∧
  (∀ (c : Fin 384) (lo hi : Fin 1024) (cs : List Int) (s : State), c.val ∉ s.cal.tdcs → exec (.tdcCalMeasureDone c lo hi cs) s = .next s) ∧
  (∀ (n : Fin 16) (lo hi : Fin 1024) (cs xofs : List Int) (s : State), n.val ∈ s.cal.kitties →
    (linearOk lo.val hi.val cs = true → (∀ x ∈ xofs, x.natAbs ≤ 24) →
      ∃ t, exec (.kittyCalDone n lo hi cs xofs) s = .next t ∧ t.f (KITTY.LIN.RAW_LO n.val) = lo.val ∧ t.f (KITTY.LIN.RAW_HI n.val) = hi.val ∧
        t.reg (KITTY.INL_A n.val) = bytesWord cs ∧ t.reg (KITTY.INL_B n.val) = bytesWord (cs.drop 4) ∧
        t.reg (KITTY.XOFS_A n.val) = bytesWord xofs ∧ t.reg (KITTY.XOFS_B n.val) = bytesWord (xofs.drop 4) ∧ t.kitState n.val = 0 ∧
        n.val ∉ t.cal.kitties ∧ Counted s t 1 ∧
        SameWords s t ([KITTY.LIN n.val, KITTY.INL_A n.val, KITTY.INL_B n.val, KITTY.XOFS_A n.val, KITTY.XOFS_B n.val, KITTY.ASSIGN n.val,
          KITTY.SUMMARY] ++ calBooks 1) ∧ SameMemory s t ∧ t.time = s.time) ∧
    (linearOk lo.val hi.val cs = false ∨ (∃ x ∈ xofs, 24 < x.natAbs) →
      ∃ t, exec (.kittyCalDone n lo hi cs xofs) s = .next t ∧ t.kitState n.val = 7 ∧ n.val ∉ t.cal.kitties ∧ CalFailed s t 1 ∧
        SameWords s t ([KITTY.ASSIGN n.val, KITTY.SUMMARY] ++ calBooks 1) ∧ SameMemory s t ∧ t.time = s.time)) ∧
  (∀ (n : Fin 16) (lo hi : Fin 1024) (cs xofs : List Int) (s : State), n.val ∉ s.cal.kitties → exec (.kittyCalDone n lo hi cs xofs) s = .next s) ∧
  (∀ (k : Fin 8) (cells : BitVec 10) (i before : Nat) (s : State), s.cal.dlls.find? (fun e => e.1 / 2 == k.val) = some (i, before) →
    s.fb (lockField k.val (1 - i % 2)) = true →
    (∃ t, exec (.dllCalDone k true cells) s = .next t ∧ t.f (cellsField i) = cells.toNat ∧ t.fb (lockField k.val (i % 2)) = true ∧
      t.f (TDC.DLL.ACTIVE k.val) = i % 2 ∧ (∀ e ∈ t.cal.dlls, e.1 ≠ i) ∧ Counted s t 2 ∧ SameWords s t (TDC.DLL k.val :: calBooks 2) ∧
      SameMemory s t ∧ t.time = s.time) ∧
    ∃ t, exec (.dllCalDone k false cells) s = .next t ∧ t.f (cellsField i) = before % 2 ^ 10 ∧ t.fb (lockField k.val (i % 2)) = true ∧
      t.f (TDC.DLL.ACTIVE k.val) = s.f (TDC.DLL.ACTIVE k.val) ∧ (∀ e ∈ t.cal.dlls, e.1 ≠ i) ∧ CalFailed s t 2 ∧
      SameWords s t (TDC.DLL k.val :: calBooks 2) ∧ SameMemory s t ∧ t.time = s.time) ∧
  (∀ (k : Fin 8) (matched : Bool) (cells : BitVec 10) (s : State), (∀ e ∈ s.cal.dlls, e.1 / 2 ≠ k.val) →
    exec (.dllCalDone k matched cells) s = .next s) ∧
  (∀ (r : Fin 384) (offsets : List (Int × Int)) (s : State), r.val ∈ s.cal.afes → offsets.length = 4 →
    ∃ t, exec (.afeCalDone r offsets) s = .next t ∧ r.val ∉ t.cal.afes ∧ r.val ∈ t.cal.afeEnding ∧
      (∀ q < 4, bitOf (t.f (AFE.CAL.PAIR_OK (r.val / 48) (r.val % 48))) q = decide ((nth offsets q (0, 0)).1.natAbs ≤ 31)) ∧
      ((∃ q < 4, (nth offsets q (0, 0)).1.natAbs ≤ 31) →
        (∃ p < 4, t.f (AFE.CAL.LE_PAIR (r.val / 48) (r.val % 48)) = p ∧ t.fi (AFE.CAL.LE_OFS (r.val / 48) (r.val % 48)) = (nth offsets p (0, 0)).1 ∧
          ∀ q < 4, (nth offsets p (0, 0)).1.natAbs ≤ (nth offsets q (0, 0)).1.natAbs) ∧
        t.fb (AFE.STAT.DEAD (r.val / 48) (r.val % 48)) = s.fb (AFE.STAT.DEAD (r.val / 48) (r.val % 48))) ∧
      ((∃ q < 4, (nth offsets q (0, 0)).2.natAbs ≤ 31) →
        ∃ p < 4, t.f (AFE.CAL.TOT_PAIR (r.val / 48) (r.val % 48)) = p ∧ t.fi (AFE.CAL.TOT_OFS (r.val / 48) (r.val % 48)) = (nth offsets p (0, 0)).2 ∧
          ∀ q < 4, (nth offsets p (0, 0)).2.natAbs ≤ (nth offsets q (0, 0)).2.natAbs) ∧
      ((∀ q < 4, 31 < (nth offsets q (0, 0)).1.natAbs) → t.fb (AFE.STAT.DEAD (r.val / 48) (r.val % 48)) = true ∧
        (t.reg (hdr (0x20 + r.val / 48) 3)).getLsbD 1 = true) ∧
      Counted s t 3 ∧ SameMemory s t ∧ t.time = s.time) ∧
  (∀ (r : Fin 384) (offsets : List (Int × Int)) (s : State), r.val ∉ s.cal.afes → exec (.afeCalDone r offsets) s = .next s) ∧
  (∀ (a : Fin 9) (offset gain : BitVec 16) (s : State), s.cal.adc = some a.val → a.val = 8 ∨ s.acq.onSpare = some a.val →
    ∃ t, exec (.adcCalDone a offset gain) s = .next t ∧ t.f (ADC.ACORR.AOFS a.val) = offset.toNat ∧ t.f (ADC.ACORR.AGAIN a.val) = gain.toNat ∧
      t.cal.adc = none ∧ (a.val < 8 → t.acq = { s.acq with handover := some { bus := a.val, toSpare := false } }) ∧ (a.val = 8 → t.acq = s.acq) ∧
      Counted s t 4 ∧ SameWords s t (ADC.ACORR a.val :: calBooks 4) ∧ SameMemory s t ∧ t.time = s.time) ∧
  (∀ (a : Fin 9) (offset gain : BitVec 16) (s : State), s.cal.adc ≠ some a.val → exec (.adcCalDone a offset gain) s = .next s) ∧
  (∀ (d0 : BitVec 16) (n : Nat) (s : State), s.cal.dummy = some n → n < 16 →
    ∃ t, exec (.dummyD0Done d0) s = .next t ∧ t.f KITTY.DUMMY_D0.D0 = d0.toNat ∧ t.kitState n = 0 ∧ t.cal.dummy = none ∧ Counted s t 5 ∧
      SameWords s t ([KITTY.DUMMY_D0, KITTY.ASSIGN n, KITTY.SUMMARY] ++ calBooks 5) ∧ SameMemory s t ∧ t.time = s.time) ∧
  ∀ (d0 : BitVec 16) (s : State), s.cal.dummy = none → exec (.dummyD0Done d0) s = .next s

/-- The end-of-line run of the range offsets. EOL_GO in RUN with steering locked, capture complete, the mode
COMMISSIONING, the lock open, CAL enabled and no run under way starts a run with BUSY 1; otherwise it is an error with
code STATE (the last two conditions are the model's, log entry 49). At its end the channels with fewer than MIN_N
values are marked in EOL_FAIL, DONE and FAILED count them, BUSY is 0, the run is counted and EOL_DONE raised. Without
APPLY the RESULT is 1 and no offset changes; with APPLY it is 2 and PNT.OFS of each channel with a result holds it.
Under hypotheses on the state and the operands alone it concludes that exec answers a next state (each command
completes) for: eolGo, eolRunEnd. -/
def Obligations.EndOfLineRun : Prop :=
  (∀ (src : Port) (apply_ : Bool) (s : State), s.enabled 0x0C = true → s.cal.eol = none →
    (s.pwr.st = .run → s.steer.mode = 2 → s.steer.capturing = false → s.fb SAFE.STATUS.MODE = false → s.lockOpen = true →
      ∃ t, exec (.eolGo src apply_) s = .next t ∧ t.fb CAL.EOL_STAT.BUSY = true ∧ t.cal = { s.cal with eol := some { apply_ := apply_ } } ∧
        SameWords s t [CAL.EOL_STAT] ∧ t = { s with regs := t.regs, cal := t.cal }) ∧
    (s.pwr.st ≠ .run ∨ s.steer.mode ≠ 2 ∨ s.steer.capturing = true ∨ s.fb SAFE.STATUS.MODE = true ∨ s.lockOpen = false →
      ∃ t, exec (.eolGo src apply_) s = .next t ∧ ErrorRaised s t 0x10 (portSrc src) CAL.EOL_CMD)) ∧
  (∀ (src : Port) (apply_ : Bool) (s : State), s.enabled 0x0C = false ∨ s.cal.eol.isSome = true →
    ∃ t, exec (.eolGo src apply_) s = .next t ∧ ErrorRaised s t 0x10 (portSrc src) CAL.EOL_CMD) ∧
  (∀ (r : EolRun) (s : State), s.cal.eol = some r →
    ∃ t, exec .eolRunEnd s = .next t ∧ t.cal.eol = none ∧ t.fb CAL.EOL_STAT.BUSY = false ∧ t.f CAL.EOL_STAT.RESULT = (if r.apply_ then 2 else 1) ∧
      (∀ c < 384, (t.reg (CAL.EOL_FAIL (c / 32))).getLsbD (c % 32) =
        decide ((nth r.sums c (0, 0)).1 < max 1 (s.f CAL.EOL_CFG.MIN_N))) ∧
      t.f CAL.EOL_STAT.DONE + t.f CAL.EOL_STAT.FAILED = 384 ∧ Counted s t 6 ∧ (t.reg (hdr 0x0C 3)).getLsbD 3 = true ∧
      (r.apply_ = false → SameWords s t ((List.range 12).map CAL.EOL_FAIL ++ [CAL.EOL_STAT] ++ calBooks 6) ∧ SameMemory s t ∧
        t.led.logNext = s.led.logNext) ∧
      (r.apply_ = true → ∀ c < 384,
        ((nth r.sums c (0, 0)).1 < max 1 (s.f CAL.EOL_CFG.MIN_N) → t.f (PNT.OFS.OFS c) = s.f (PNT.OFS.OFS c)) ∧
        ∀ x, max 1 (s.f CAL.EOL_CFG.MIN_N) ≤ (nth r.sums c (0, 0)).1 →
          s.eolOffset (nth r.sums c (0, 0)).1 (nth r.sums c (0, 0)).2 = some x → t.f (PNT.OFS.OFS c) = unsigned 20 x) ∧
      t.time = s.time ∧ t.lockOpen = s.lockOpen) ∧
  ∀ s : State, s.cal.eol = none → exec .eolRunEnd s = .next s

/-- The housekeeping packet. In a housekeeping round of READY, RUN or STANDBY that does not shut the device down:
where HK_DIV is not 0 and divides the round count, a DT 0x38 packet is put into the class D queue (or, with no room
there, discarded and counted), with the round count, HK.STEP and the slots with their suspect flags; in every other
round, and always with HK_DIV 0, no packet is sent. Under hypotheses on the state and the operands alone it concludes
that exec answers a next state (each command completes) for: hkRound. -/
def Obligations.HousekeepingPacket : Prop :=
  ∀ (raw : HkRaw) (s : State), s.pwr.st = .ready ∨ s.pwr.st = .run ∨ s.pwr.st = .standby → s.hk.laser.shut = 0 →
    ∃ t, exec (.hkRound raw) s = .next t ∧ t.hk.rounds = s.hk.rounds + 1 ∧
      (s.f HK.CFG.HK_DIV ≠ 0 → (s.hk.rounds + 1) % s.f HK.CFG.HK_DIV = 0 →
        (s.link.room 3 66 = true → ∃ p, t.link.qD = s.link.qD ++ [p] ∧ p.dt = 0x38 ∧ p.payload.length = 66 ∧
          p.payload[0]? = some (w36 ((s.hk.rounds + 1) % 2 ^ 32)) ∧ p.payload[1]? = some (w36 (t.reg HK.STEP).toNat) ∧
          ∀ n < 64, p.payload[n + 2]? = some (w36 (t.f (HK.SLOT.VALUE n) + 2 ^ 16 * (t.f (HK.SLOT.SUSPECT n))))) ∧
        (s.link.room 3 66 = false → t.link.qD = s.link.qD ∧ t.f TAB.DROP.D = satAdd TAB.DROP.D.width (s.f TAB.DROP.D) 1)) ∧
      (s.f HK.CFG.HK_DIV = 0 ∨ (s.hk.rounds + 1) % s.f HK.CFG.HK_DIV ≠ 0 → t.link.qD = s.link.qD ∧ t.f TAB.DROP.D = s.f TAB.DROP.D)

/-- No on-die sensor is excluded, and none differs by more than 6 K from both its neighbours in a round (R435). -/
def DieQuiet (raw : HkRaw) (s : State) : Prop :=
  raw.die.length = 8 ∧ raw.again.length = 8 ∧ s.f HK.SUSPECT.DIE = 0 ∧ ∀ k < 8, deviates raw.die k = false ∧ deviates raw.again k = false

/-- The largest reading of the on-die sensors. -/
def Hottest (l : List Int) (m : Int) : Prop := m ∈ l ∧ ∀ x ∈ l, x ≤ m

/-- What a housekeeping round holds, and how its temperatures drive the thermal steps. A round of READY, RUN or
STANDBY without a laser shut-down puts each supply, photocurrent and reference value into its slot, widens the minima
and maxima of the supplies, and converts the remote diodes. A single deviating on-die sensor is excluded with SENSOR.
With two values of T_d at or above WARN DIE_STEP reads WARN, with THROTTLE_REQ and GRACE running; at CRIT the laser is
shut off; below both less HYST the step is 0. T_l reads LWARN with no input selected. Two inputs at LSHUT in a second
round enter FOLD THERMAL. After GRACE the scale goes down by a step while hot and up by a step while cool, where
THROTTLE_REQ clears at 100 %. In other states a round does nothing. Under hypotheses on the state and the operands
alone it concludes that exec answers a next state (each command completes) for: hkRound, thermalGraceExpiry. -/
def Obligations.HousekeepingRounds : Prop :=
  (∀ (raw : HkRaw) (s : State), s.pwr.st = .ready ∨ s.pwr.st = .run ∨ s.pwr.st = .standby → s.hk.laser.shut = 0 →
    ∃ t, exec (.hkRound raw) s = .next t ∧ t.time = s.time ∧ t.f (HK.SLOT.VALUE 46) = raw.bias % 2 ^ 16 ∧
      t.f (HK.SLOT.VALUE 47) = raw.reference % 2 ^ 16 ∧ t.f (HK.SLOT.VALUE 56) = raw.zero % 2 ^ 16 ∧ t.f (HK.SLOT.VALUE 57) = raw.full % 2 ^ 16 ∧
      (∀ n < 16, t.f (HK.SLOT.VALUE (30 + n)) = nth raw.mpd n 0 % 2 ^ 16) ∧
      (∀ n < 8, t.f (HK.SLOT.VALUE n) = unsigned 16 (nth raw.die n 0) ∧ t.f (HK.SLOT.VALUE (48 + n)) = unsigned 16 (nth raw.again n 0)) ∧
      (∀ n < 10, nth raw.supply n 0 < 2 ^ 16 → t.f (HK.SLOT.VALUE (20 + n)) = nth raw.supply n 0 ∧
        (s.reg (HK.SUP n) = 0 → t.f (HK.SUP.MAX n) = nth raw.supply n 0 ∧ t.f (HK.SUP.MIN n) = nth raw.supply n 0) ∧
        (s.reg (HK.SUP n) ≠ 0 → t.f (HK.SUP.MAX n) = max (s.f (HK.SUP.MAX n)) (nth raw.supply n 0) ∧
          t.f (HK.SUP.MIN n) = min (s.f (HK.SUP.MIN n)) (nth raw.supply n 0))) ∧
      (∀ n < 4, ∀ x, s.diodeTemp n (((nth raw.diode n (0, 0)).2 : Int) - (nth raw.diode n (0, 0)).1) = some x → clipSigned 16 x = x →
        t.f (HK.SLOT.VALUE (9 + 2 * n)) = unsigned 16 x ∧ t.fb (HK.SLOT.SUSPECT (9 + 2 * n)) = (decide (x < -880) || decide (2800 < x)) ∧
        bitOf (t.f HK.SUSPECT.TH_TD) n = (decide (x < -880) || decide (2800 < x))) ∧
      (∀ m, DieQuiet raw s → Hottest raw.again m → clipSigned 16 m = m → t.fi HK.TEMPS.T_D = m ∧ t.f HK.SUSPECT.DIE = 0) ∧
      (∀ k < 8, s.f HK.SUSPECT.DIE = 0 → (∀ j < 8, (deviates raw.die j || deviates raw.again j) = (j == k)) →
        t.f HK.SUSPECT.DIE = 2 ^ k ∧ (t.reg (hdr 0x0B 3)).getLsbD 3 = true ∧ t.fb (HK.SLOT.SUSPECT k) = true) ∧
      (s.f HK.CFG.LAS_SRC = 0 → s.f HK.CFG.LAS_TH = 0 → t.f HK.TEMPS.T_L = s.f HK.THR_LAS.LWARN) ∧
      (∀ a b, DieQuiet raw s → Hottest raw.die a → Hottest raw.again b →
        ((s.f HK.THR_DIE.WARN : Int) ≤ min a b → max a b < s.f HK.THR_DIE.CRIT → s.f HK.STEP.DIE_STEP = 0 →
          t.f HK.STEP.DIE_STEP = 1 ∧ t.fb HK.STEP.THROTTLE_REQ = true ∧ (t.reg (hdr 0x0B 3)).getLsbD 0 = true ∧ t.hk.die.grace = .hot ∧
          t.hk.die.scale = s.hk.die.scale) ∧
        ((s.f HK.THR_DIE.CRIT : Int) ≤ min a b → t.f HK.STEP.DIE_STEP = 2 ∧
          (s.f HK.STEP.DIE_STEP ≠ 2 → t.fb EMIT.FAULT.HAZ = true ∧ t.faultLow = true ∧ (t.reg (hdr 0x0B 3)).getLsbD 2 = true)) ∧
        (max a b < s.f HK.THR_DIE.WARN - s.f HK.GRACE.HYST → max a b < s.f HK.THR_DIE.CRIT - s.f HK.GRACE.HYST →
          t.f HK.STEP.DIE_STEP = 0 ∧ t.hk.die.scale = s.hk.die.scale ∧ (s.hk.die.req = true → t.hk.die.grace = .cool) ∧
          (s.hk.die.req = false → t.hk.die.grace = .idle)))) ∧
  (∀ (raw : HkRaw) (x y : Int) (s : State), s.pwr.st = .ready ∨ s.pwr.st = .run ∨ s.pwr.st = .standby → s.hk.laser.shut = 1 →
    s.f HK.CFG.LAS_SRC = 3 → s.f HK.CFG.LAS_TH = 0 →
    s.diodeTemp 0 (((nth raw.diode 0 (0, 0)).2 : Int) - (nth raw.diode 0 (0, 0)).1) = some x →
    s.diodeTemp 1 (((nth raw.diode 1 (0, 0)).2 : Int) - (nth raw.diode 1 (0, 0)).1) = some y →
    (s.f HK.SHUT_LAS.LSHUT : Int) ≤ min x y → max x y ≤ 2800 →
    ∃ t, exec (.hkRound raw) s = .next t ∧ t.pwr.st = .fold ∧ t.f BOOT.CAUSE.CODE = 0x20 ∧ t.f BOOT.CAUSE.DETAIL = 0x0B ∧
      t.faultLow = true ∧ t.safe.on = false ∧ t.time = s.time) ∧
  (∀ (raw : HkRaw) (s : State), s.pwr.st ≠ .ready → s.pwr.st ≠ .run → s.pwr.st ≠ .standby → exec (.hkRound raw) s = .next s) ∧
  ∀ (laser : Bool) (s : State),
    ((s.thermal laser).grace = .idle → exec (.thermalGraceExpiry laser) s = .next s) ∧
    ((s.thermal laser).grace = .hot → ∃ t, exec (.thermalGraceExpiry laser) s = .next t ∧
      t.thermal laser = { s.thermal laser with scale := min 2 ((s.thermal laser).scale + 1) } ∧ t.thermal (!laser) = s.thermal (!laser) ∧
      t.f HK.STEP.SCALE = max t.hk.die.scale t.hk.laser.scale % 4 ∧ ((s.thermal laser).scale < 2 → (t.reg (hdr 0x0B 3)).getLsbD 1 = true) ∧
      SameWords s t [HK.STEP, hdr 0x0B 3] ∧ SameMemory s t ∧ t.time = s.time) ∧
    ((s.thermal laser).grace = .cool → ∃ t, exec (.thermalGraceExpiry laser) s = .next t ∧
      (t.thermal laser).scale = (s.thermal laser).scale - 1 ∧ ((t.thermal laser).req = true ↔ 1 < (s.thermal laser).scale) ∧
      t.thermal (!laser) = s.thermal (!laser) ∧ t.f HK.STEP.SCALE = max t.hk.die.scale t.hk.laser.scale % 4 ∧
      t.fb HK.STEP.THROTTLE_REQ = (t.hk.die.req || t.hk.laser.req) ∧
      (s.fb HK.STEP.THROTTLE_REQ = true → t.fb HK.STEP.THROTTLE_REQ = false → (t.reg (hdr 0x0B 3)).getLsbD 4 = true) ∧
      SameWords s t [HK.STEP, hdr 0x0B 3] ∧ SameMemory s t ∧ t.time = s.time)
end

