-- ==== Sys2Proof/Laws/Cells.lean ====
section
/-! SUPPORT. Laws of the sparse lists that hold registers and memory: what a read answers after a write, and
that every operation keeps the canonical form. -/

namespace Sys2Proof.Machine

variable {w : Nat} {d : Nat → BitVec w}

/-! ## Reads after writes -/

theorem Cells.get_erase_self (m : Cells w) (a : Nat) : Cells.get d (Cells.erase m a) a = d a := by
  induction m with
  | nil => rfl
  | cons e m ih =>
    obtain ⟨k, v⟩ := e
    by_cases h : k = a <;> simp_all [Cells.erase, Cells.get]

theorem Cells.get_erase_ne (m : Cells w) {a b : Nat} (h : b ≠ a) : Cells.get d (Cells.erase m a) b = Cells.get d m b := by
  induction m with
  | nil => rfl
  | cons e m ih =>
    obtain ⟨k, v⟩ := e
    by_cases hk : k = a
    · subst hk
      simp_all [Cells.erase, Cells.get, Ne.symm h]
    · simp_all [Cells.erase, Cells.get]

theorem Cells.get_insert_self (m : Cells w) (a : Nat) (v : BitVec w) : Cells.get d (Cells.insert m a v) a = v := by
  induction m with
  | nil => simp [Cells.insert, Cells.get]
  | cons e m ih =>
    obtain ⟨k, x⟩ := e
    by_cases hk : k < a
    · simp [Cells.insert, hk, Cells.get, Nat.ne_of_lt hk, ih]
    · simp [Cells.insert, hk, Cells.get]

theorem Cells.get_insert_ne (m : Cells w) {a b : Nat} (v : BitVec w) (h : b ≠ a) :
    Cells.get d (Cells.insert m a v) b = Cells.get d m b := by
  induction m with
  | nil => simp [Cells.insert, Cells.get, Ne.symm h]
  | cons e m ih =>
    obtain ⟨k, x⟩ := e
    by_cases hk : k < a
    · simp [Cells.insert, hk, Cells.get, ih]
    · simp [Cells.insert, hk, Cells.get, Ne.symm h]

/-- A word written reads as written. -/
@[simp] theorem Cells.get_set_self (m : Cells w) (a : Nat) (v : BitVec w) : Cells.get d (Cells.set d m a v) a = v := by
  unfold Cells.set
  split
  · next h => rw [Cells.get_erase_self, h]
  · exact Cells.get_insert_self _ _ _

/-- A write leaves every other word alone. -/
theorem Cells.get_set_ne (m : Cells w) {a b : Nat} (v : BitVec w) (h : b ≠ a) :
    Cells.get d (Cells.set d m a v) b = Cells.get d m b := by
  unfold Cells.set
  split
  · exact Cells.get_erase_ne m h
  · rw [Cells.get_insert_ne _ v h, Cells.get_erase_ne m h]

/-- What a read answers after a write. -/
theorem Cells.get_set (m : Cells w) (a b : Nat) (v : BitVec w) :
    Cells.get d (Cells.set d m a v) b = if b = a then v else Cells.get d m b := by
  split
  · next h => rw [h, Cells.get_set_self]
  · next h => exact Cells.get_set_ne m v h

@[simp] theorem Cells.get_nil (a : Nat) : Cells.get d [] a = d a := rfl

/-! ## The canonical form -/

/-- The canonical form read off the entries. -/
theorem Cells.wf_iff (m : Cells w) :
    Cells.wf d m = true ↔ m.Pairwise (fun a b => a.1 < b.1) ∧ ∀ e ∈ m, e.2 ≠ d e.1 := by
  induction m with
  | nil => simp [Cells.wf]
  | cons e m ih =>
    obtain ⟨k, v⟩ := e
    simp only [Cells.wf, Bool.and_eq_true, bne_iff_ne, ne_eq, List.all_eq_true, decide_eq_true_eq, ih,
      List.pairwise_cons, List.mem_cons, forall_eq_or_imp]
    tauto

@[simp] theorem Cells.wf_nil : Cells.wf d [] = true := rfl

/-- Entries left out leave the form as it is, also where the words left out would read differently. -/
theorem Cells.wf_filter_of {d' : Nat → BitVec w} {m : Cells w} (h : Cells.wf d m = true) (p : Nat × BitVec w → Bool)
    (hd : ∀ e ∈ m, p e = true → d' e.1 = d e.1) : Cells.wf d' (m.filter p) = true := by
  rw [Cells.wf_iff] at *
  refine ⟨h.1.filter p, fun e he => ?_⟩
  obtain ⟨hm, hp⟩ := List.mem_filter.1 he
  rw [hd e hm hp]
  exact h.2 e hm

theorem Cells.wf_filter {m : Cells w} (h : Cells.wf d m = true) (p : Nat × BitVec w → Bool) :
    Cells.wf d (m.filter p) = true := Cells.wf_filter_of h p fun _ _ _ => rfl

theorem Cells.wf_erase {m : Cells w} (h : Cells.wf d m = true) (a : Nat) : Cells.wf d (Cells.erase m a) = true :=
  Cells.wf_filter h _

theorem Cells.mem_insert {m : Cells w} {a : Nat} {v : BitVec w} {e : Nat × BitVec w} :
    e ∈ Cells.insert m a v ↔ e = (a, v) ∨ e ∈ m := by
  induction m with
  | nil => simp [Cells.insert]
  | cons x m ih =>
    unfold Cells.insert
    split
    · simp only [List.mem_cons, ih]; tauto
    · simp

theorem Cells.pairwise_insert {m : Cells w} (h : m.Pairwise fun a b => a.1 < b.1) {a : Nat} (v : BitVec w)
    (ha : ∀ e ∈ m, e.1 ≠ a) : (Cells.insert m a v).Pairwise fun a b => a.1 < b.1 := by
  induction m with
  | nil => simp [Cells.insert]
  | cons x m ih =>
    rw [List.pairwise_cons] at h
    unfold Cells.insert
    split
    · next hx =>
      refine List.pairwise_cons.2 ⟨fun e he => ?_, ih h.2 fun e he => ha e (List.mem_cons_of_mem _ he)⟩
      rcases Cells.mem_insert.1 he with rfl | he
      · exact hx
      · exact h.1 e he
    · next hx =>
      have h0 := ha x (List.mem_cons_self ..)
      refine List.pairwise_cons.2 ⟨fun e he => ?_, List.pairwise_cons.2 h⟩
      rcases List.mem_cons.1 he with rfl | he
      · simp only; omega
      · have := h.1 e he; simp only; omega

/-- A write keeps the canonical form. -/
@[simp] theorem Cells.wf_set {m : Cells w} (h : Cells.wf d m = true) (a : Nat) (v : BitVec w) :
    Cells.wf d (Cells.set d m a v) = true := by
  unfold Cells.set
  split
  · exact Cells.wf_erase h a
  · next hv =>
    have he := (Cells.wf_iff _).1 (Cells.wf_erase h a)
    refine (Cells.wf_iff _).2 ⟨Cells.pairwise_insert he.1 v fun e hm => ?_, fun e hm => ?_⟩
    · simpa using (List.mem_filter.1 hm).2
    · rcases Cells.mem_insert.1 hm with rfl | hm
      · exact hv
      · exact he.2 e hm

/-- Two lists in canonical form that read alike are the same list. -/
theorem Cells.ext_get {m n : Cells w} (hm : Cells.wf d m = true) (hn : Cells.wf d n = true)
    (h : ∀ a, Cells.get d m a = Cells.get d n a) : m = n := by
  induction m generalizing n with
  | nil =>
    cases n with
    | nil => rfl
    | cons e n =>
      have := h e.1
      have hv := ((Cells.wf_iff _).1 hn).2 e (List.mem_cons_self ..)
      simp [Cells.get] at this
      exact absurd this.symm hv
  | cons x m ih =>
    cases n with
    | nil =>
      have := h x.1
      have hv := ((Cells.wf_iff _).1 hm).2 x (List.mem_cons_self ..)
      simp [Cells.get] at this
      exact absurd this hv
    | cons y n =>
      have hm' := (Cells.wf_iff _).1 hm
      have hn' := (Cells.wf_iff _).1 hn
      have hmp := List.pairwise_cons.1 hm'.1
      have hnp := List.pairwise_cons.1 hn'.1
      have out : ∀ (l : Cells w) (a : Nat), (∀ e ∈ l, a < e.1) → Cells.get d l a = d a := by
        intro l a hl
        induction l with
        | nil => rfl
        | cons e l ihl =>
          have := hl e (List.mem_cons_self ..)
          simp [Cells.get, Nat.ne_of_gt this, ihl fun e he => hl e (List.mem_cons_of_mem _ he)]
      have hxv := hm'.2 x (List.mem_cons_self ..)
      have hyv := hn'.2 y (List.mem_cons_self ..)
      have hkey : x.1 = y.1 := by
        rcases Nat.lt_trichotomy x.1 y.1 with hlt | heq | hgt
        · have h1 := h x.1
          rw [out (y :: n) x.1 (fun e he => by
            rcases List.mem_cons.1 he with rfl | he
            · exact hlt
            · exact Nat.lt_trans hlt (hnp.1 e he))] at h1
          simp [Cells.get] at h1
          exact absurd h1 hxv
        · exact heq
        · have h1 := h y.1
          rw [out (x :: m) y.1 (fun e he => by
            rcases List.mem_cons.1 he with rfl | he
            · exact hgt
            · exact Nat.lt_trans hgt (hmp.1 e he))] at h1
          simp [Cells.get] at h1
          exact absurd h1.symm hyv
      have hval : x.2 = y.2 := by
        have h1 := h x.1
        simpa [Cells.get, hkey] using h1
      have hxy : x = y := Prod.ext hkey hval
      subst hxy
      congr 1
      refine ih ((Cells.wf_iff _).2 ⟨hmp.2, fun e he => hm'.2 e (List.mem_cons_of_mem _ he)⟩)
        ((Cells.wf_iff _).2 ⟨hnp.2, fun e he => hn'.2 e (List.mem_cons_of_mem _ he)⟩) fun a => ?_
      by_cases ha : x.1 = a
      · subst ha
        rw [out m x.1 hmp.1, out n x.1 hnp.1]
      · have h1 := h a
        simpa [Cells.get, ha] using h1

/-- RWS fields put over a list keep its form. -/
theorem putRws_wf {m : Cells 32} (h : Cells.wf resetWord m = true) (ws : Cells 32) :
    Cells.wf resetWord (putRws m ws) = true := by
  unfold putRws
  induction ws generalizing m with
  | nil => exact h
  | cons e ws ih => exact ih (Cells.wf_set h _ _)

end Sys2Proof.Machine
end

