-- ==== Sys2Proof/Laws/Canon.lean ====
section
/-! SUPPORT. The canonical form of a state: that the operations which write registers and memory keep it, and the
shapes through which the meanings are built from them. -/

namespace Sys2Proof.Machine

/-- An update that leaves registers, shadows, memories and TIME alone keeps the form. -/
theorem wf_mk_iff {s : State} {x0 : List Instr} {x5 : List (Nat × Bool)} {x6 : Nat} {x8 : Option TimeSet} {x9 : Nat}
    {x10 : Bool} {x11 : List CommitReq} {x12 : Option CommitReq} {x13 : List Latched} {x14 : Power} {x15 : HostPort}
    {x16 : Link} {x17 : Deal} {x18 : Ldb} {x19 : Emit} {x20 : Steer} {x21 : Ret} {x22 : Hist} {x23 : Acq} {x24 : Cams}
    {x25 : Zones} {x26 : Cal} {x27 : Safe} {x28 : FieldSt} {x29 : Supv} {x30 : Images} {x31 : Ledger} {x32 : House}
    {x33 : List Nat} :
    State.wf (State.mk x0 s.regs s.shadow s.mem s.lost x5 x6 s.time x8 x9 x10 x11 x12 x13 x14 x15 x16 x17 x18 x19
    x20 x21 x22 x23 x24 x25 x26 x27 x28 x29 x30 x31 x32 x33) ↔ s.wf := Iff.rfl

theorem reset_wf : State.reset.wf := by
  unfold State.wf Canon; refine ⟨rfl, rfl, rfl, ?_⟩; decide

theorem wf_next {s : State} (h : s.wf) : afterNext State.wf (.next s) := by
  intro t e; cases e; exact h

theorem wf_foldl {α : Type} {f : State → α → State} {l : List α} {s : State}
    (hf : ∀ s x, s.wf → (f s x).wf) (h : s.wf) : (l.foldl f s).wf := by
  induction l generalizing s with
  | nil => exact h
  | cons x l ih => exact ih (hf s x h)

theorem wf_foldl_fst {α β : Type} {f : State × β → α → State × β} {l : List α} {p : State × β}
    (hf : ∀ q x, q.1.wf → (f q x).1.wf) (h : p.1.wf) : (l.foldl f p).1.wf := by
  induction l generalizing p with
  | nil => exact h
  | cons x l ih => exact ih (hf p x h)

theorem wf_ite {c : Prop} [Decidable c] {a b : State} (ha : c → a.wf) (hb : ¬c → b.wf) : (if c then a else b).wf := by
  split
  · next h => exact ha h
  · next h => exact hb h

theorem wf_ite_fst {β : Type} {c : Prop} [Decidable c] {a b : State × β} (ha : c → a.1.wf) (hb : ¬c → b.1.wf) :
    (if c then a else b).1.wf := by
  split
  · next h => exact ha h
  · next h => exact hb h

theorem afterNext_ite {p : State → Prop} {c : Prop} [Decidable c] {a b : Host.Outcome State Fault Refusal}
    (ha : c → afterNext p a) (hb : ¬c → afterNext p b) : afterNext p (if c then a else b) := by
  split
  · next h => exact ha h
  · next h => exact hb h

theorem wf_fst {β : Type} {p : State × β} {t : State} {x : β} (e : p = (t, x)) (h : p.1.wf) : t.wf := by
  rw [e] at h; exact h

theorem wf_snd {β : Type} {p : β × State} {t : State} {x : β} (e : p = (x, t)) (h : p.2.wf) : t.wf := by
  rw [e] at h; exact h

/-! ## The operations that write registers and memory -/

theorem State.setReg_wf {s : State} (h : s.wf) (a : Nat) (v : Word) : (s.setReg a v).wf :=
  ⟨Cells.wf_set h.1 _ _, h.2.1, h.2.2.1, h.2.2.2⟩

theorem State.setShad_wf {s : State} (h : s.wf) (a : Nat) (v : Word) : (s.setShad a v).wf :=
  ⟨h.1, Cells.wf_set h.2.1 _ _, h.2.2.1, h.2.2.2⟩

theorem State.candidate_wf {s : State} (h : s.wf) (p : Nat) : (s.candidate p).wf :=
  ⟨putRws_wf h.1 _, h.2.1, h.2.2.1, h.2.2.2⟩

theorem latched_wf {m : Cells 32} (h : Cells.wf resetWord m = true) (ls : List Latched) :
    Cells.wf resetWord (ls.foldl (fun m l => putRws m l.words) m) = true := by
  induction ls generalizing m with
  | nil => exact h
  | cons l ls ih => exact ih (putRws_wf h _)

theorem State.asNext_wf {s : State} (h : s.wf) : s.asNext.wf :=
  ⟨latched_wf h.1 _, h.2.1, h.2.2.1, h.2.2.2⟩

theorem State.wr_wf {s : State} (h : s.wf) (a : Nat) (v : Word36) : (s.wr a v).wf :=
  ⟨h.1, h.2.1, Cells.wf_set h.2.2.1 _ _, h.2.2.2⟩

/-- Entries kept read through the same default after a change of what was lost. -/
theorem memDefault_congr {l l' : Lost} {a : Nat} (hb : blockWord a = true → l'.blocks = l.blocks)
    (hc : l'.count a = l.count a) (hq : queuePlace a = true → l'.queues = l.queues)
    (hh : memRegion a = 3 → l'.cleared.contains (histBuffer a) = l.cleared.contains (histBuffer a)) :
    memDefault l' a = memDefault l a := by
  unfold memDefault
  by_cases h1 : blockWord a = true
  · simp [h1, hb h1]
  · by_cases h2 : queuePlace a = true
    · by_cases h3 : memRegion a = 3
      · have := hh h3; simp only [h1, hc, h2, hq h2, h3, this, Bool.false_eq_true, if_false]
      · simp [h1, hc, h2, hq h2, h3]
    · by_cases h3 : memRegion a = 3
      · have := hh h3; simp only [h1, hc, h2, h3, this, Bool.false_eq_true, if_false, Bool.false_and]
      · simp [h1, hc, h2, h3]

theorem blockWord_region {a : Nat} (h : blockWord a = true) : memRegion a = 5 := by
  simp only [blockWord, Bool.or_eq_true, Bool.and_eq_true, decide_eq_true_eq] at h
  unfold memRegion
  split <;> (try omega)
  split <;> (try omega)
  split <;> (try omega)
  split <;> (try omega)
  split <;> omega

theorem State.blockWrite_wf {s : State} (h : s.wf) (l : Ledger) : (s.blockWrite l).wf := by
  refine ⟨h.1, h.2.1, Cells.wf_filter_of h.2.2.1 _ fun e _ hp => ?_, h.2.2.2⟩
  refine memDefault_congr (fun hb => ?_) rfl (fun _ => rfl) (fun _ => rfl)
  simp [hb] at hp

theorem State.loseRegion_wf {s : State} (h : s.wf) (r : Nat) : (s.loseRegion r).wf := by
  refine ⟨h.1, h.2.1, Cells.wf_filter_of h.2.2.1 _ fun e _ hp => ?_, h.2.2.2⟩
  simp only [bne_iff_ne, ne_eq] at hp
  have key : ∀ x : Lost, (r = 1 ∨ r = 2 ∨ r = 3 ∨ r = 4) → x.blocks = s.lost.blocks →
      x.count e.1 = s.lost.count e.1 → (r ≠ 1 → x.queues = s.lost.queues) →
      (r ≠ 3 → x.cleared = s.lost.cleared) → memDefault x e.1 = memDefault s.lost e.1 := by
    intro x _ hb hc hq hh
    refine memDefault_congr (fun _ => hb) hc (fun hq' => ?_) (fun hr => ?_)
    · refine hq fun h1 => ?_
      subst h1
      simp only [queuePlace, Bool.and_eq_true, beq_iff_eq] at hq'
      exact hp hq'.1
    · rw [hh fun h3 => hp (h3 ▸ hr)]
  unfold State.loseRegion
  simp only
  split
  · refine key _ (by simp) rfl ?_ (by simp) (by simp); unfold Lost.count; split <;> simp_all
  · refine key _ (by simp) rfl ?_ (by simp) (by simp); unfold Lost.count; split <;> simp_all
  · refine key _ (by simp) rfl ?_ (by simp) (by simp); unfold Lost.count; split <;> simp_all
  · refine key _ (by simp) rfl ?_ (by simp) (by simp); unfold Lost.count; split <;> simp_all
  · rfl

theorem mem_insertBy {α : Type} (lt : α → α → Bool) (x y : α) (l : List α) : y ∈ insertBy lt x l ↔ y = x ∨ y ∈ l := by
  induction l with
  | nil => simp [insertBy]
  | cons z l ih =>
    unfold insertBy
    split
    · simp
    · simp only [List.mem_cons, ih]; tauto

theorem State.flashClear_wf {s : State} (h : s.wf) (k : Nat) : (s.flashClear k).wf := by
  refine ⟨h.1, h.2.1, Cells.wf_filter_of h.2.2.1 _ fun e _ hp => ?_, h.2.2.2⟩
  unfold State.flashClear
  simp only
  split
  · rfl
  · refine memDefault_congr (fun _ => rfl) rfl (fun _ => rfl) (fun hr => ?_)
    have hk : histBuffer e.1 ≠ k := by simpa [hr] using hp
    rw [Bool.eq_iff_iff]
    simp [mem_insertBy, hk]

theorem State.tick_wf {s : State} (h : s.wf) : s.tick.wf :=
  ⟨h.1, h.2.1, h.2.2.1, Nat.mod_lt _ (by decide)⟩

end Sys2Proof.Machine
end

