-- ==== Sys2Proof/Laws/Fields.lean ====
section
/-! SUPPORT. Laws of register words and their fields: what a field reads after a field or a word is written. -/

namespace Sys2Proof.Machine

/-! ## Bit fields of numbers -/

theorem bitsOf_testBit (v lo w i : Nat) : (bitsOf v lo w).testBit i = (decide (i < w) && v.testBit (lo + i)) := by
  unfold bitsOf
  rw [Nat.testBit_mod_two_pow, Nat.testBit_div_two_pow, Nat.add_comm]

theorem bitsOf_lt (v lo w : Nat) : bitsOf v lo w < 2 ^ w := Nat.mod_lt _ (by positivity)

/-- A number put together from what lies above a field, the field and what lies below it. -/
theorem split_bits (v lo w : Nat) : v = (v / 2 ^ (lo + w) * 2 ^ w + v / 2 ^ lo % 2 ^ w) * 2 ^ lo + v % 2 ^ lo := by
  have h1 : v / 2 ^ (lo + w) = v / 2 ^ lo / 2 ^ w := by rw [Nat.pow_add, Nat.div_div_eq_div_mul]
  rw [h1, Nat.div_add_mod' (v / 2 ^ lo) (2 ^ w), Nat.div_add_mod' v (2 ^ lo)]

theorem putBits_eq (v lo w x : Nat) :
    putBits v lo w x = 2 ^ lo * (2 ^ w * (v / 2 ^ (lo + w)) + x % 2 ^ w) + v % 2 ^ lo := by
  unfold putBits bitsOf
  have h := split_bits v lo w
  generalize v / 2 ^ (lo + w) = a at *
  generalize v / 2 ^ lo % 2 ^ w = m at *
  generalize v % 2 ^ lo = l at *
  subst h
  rw [Nat.add_mul, Nat.mul_add, Nat.mul_comm (2 ^ lo) (x % 2 ^ w), Nat.mul_comm (2 ^ lo) (2 ^ w * a), Nat.mul_comm (2 ^ w) a]
  omega

/-- The bits of a number with a field replaced. -/
theorem putBits_testBit (v lo w x i : Nat) :
    (putBits v lo w x).testBit i = if lo ≤ i ∧ i < lo + w then x.testBit (i - lo) else v.testBit i := by
  rw [putBits_eq, Nat.testBit_two_pow_mul_add _ (Nat.mod_lt _ (by positivity))]
  by_cases h1 : i < lo
  · rw [if_pos h1, if_neg (by omega), Nat.testBit_mod_two_pow]; simp [h1]
  · rw [if_neg h1, Nat.testBit_two_pow_mul_add _ (Nat.mod_lt _ (by positivity))]
    by_cases h2 : i < lo + w
    · rw [if_pos (by omega), if_pos (by omega), Nat.testBit_mod_two_pow]
      simp only [Bool.and_eq_right_iff_imp, decide_eq_true_eq]; omega
    · rw [if_neg (by omega), if_neg (by omega), Nat.testBit_div_two_pow]
      congr 1; omega

theorem putBits_lt {v lo w : Nat} (x : Nat) {n : Nat} (hv : v < 2 ^ n) (hn : lo + w ≤ n) : putBits v lo w x < 2 ^ n := by
  refine Nat.lt_pow_two_of_testBit _ fun i hi => ?_
  rw [putBits_testBit, if_neg (by omega)]
  exact Nat.testBit_lt_two_pow (Nat.lt_of_lt_of_le hv (Nat.pow_le_pow_right (by decide) hi))

/-- The field written reads as written. -/
theorem bitsOf_putBits_self (v lo w x : Nat) : bitsOf (putBits v lo w x) lo w = x % 2 ^ w := by
  refine Nat.eq_of_testBit_eq fun i => ?_
  rw [bitsOf_testBit, putBits_testBit, Nat.testBit_mod_two_pow]
  by_cases h : i < w
  · rw [if_pos (by omega)]; simp
  · simp [h]

/-- A field apart from the one written reads as before. -/
theorem bitsOf_putBits_ne (v lo w x lo' w' : Nat) (h : lo' + w' ≤ lo ∨ lo + w ≤ lo') :
    bitsOf (putBits v lo w x) lo' w' = bitsOf v lo' w' := by
  refine Nat.eq_of_testBit_eq fun i => ?_
  rw [bitsOf_testBit, bitsOf_testBit, putBits_testBit]
  by_cases h' : i < w'
  · rw [if_neg (by omega)]
  · simp [h']

/-! ## Register words and their fields -/

@[simp] theorem Fld.get_put_self (x : Fld) (w : Word) (v : Nat) (h : x.lo + x.width ≤ 32) : x.get (x.put w v) = v % 2 ^ x.width := by
  unfold Fld.get Fld.put
  rw [BitVec.toNat_ofNat, Nat.mod_eq_of_lt (putBits_lt v w.isLt h), bitsOf_putBits_self]

theorem Fld.get_put_ne (x y : Fld) (w : Word) (v : Nat) (hx : x.lo + x.width ≤ 32)
    (h : y.lo + y.width ≤ x.lo ∨ x.lo + x.width ≤ y.lo) : y.get (x.put w v) = y.get w := by
  unfold Fld.get Fld.put
  rw [BitVec.toNat_ofNat, Nat.mod_eq_of_lt (putBits_lt v w.isLt hx), bitsOf_putBits_ne _ _ _ _ _ _ h]

theorem Fld.get_lt (x : Fld) (w : Word) : x.get w < 2 ^ x.width := bitsOf_lt ..

@[simp] theorem State.reg_setReg_self (s : State) (a : Nat) (v : Word) : (s.setReg a v).reg a = v :=
  Cells.get_set_self _ _ _

theorem State.reg_setReg_ne (s : State) {a b : Nat} (v : Word) (h : b ≠ a) : (s.setReg a v).reg b = s.reg b :=
  Cells.get_set_ne _ _ h

@[simp] theorem State.reg_setF_self (s : State) (x : Fld) (v : Nat) : (s.setF x v).reg x.addr = x.put (s.reg x.addr) v :=
  Cells.get_set_self _ _ _

theorem State.reg_setF_ne (s : State) (x : Fld) (v : Nat) {b : Nat} (h : b ≠ x.addr) : (s.setF x v).reg b = s.reg b :=
  Cells.get_set_ne _ _ h

/-- The field written reads as written, modulo its width. -/
theorem State.f_setF_self (s : State) (x : Fld) (v : Nat) (h : x.lo + x.width ≤ 32) : (s.setF x v).f x = v % 2 ^ x.width := by
  unfold State.f; rw [State.reg_setF_self, Fld.get_put_self x _ _ h]

/-- Another field of the word written reads as before. -/
theorem State.f_setF_ne (s : State) (x y : Fld) (v : Nat) (hx : x.lo + x.width ≤ 32) (ha : y.addr = x.addr)
    (h : y.lo + y.width ≤ x.lo ∨ x.lo + x.width ≤ y.lo) : (s.setF x v).f y = s.f y := by
  unfold State.f; rw [ha, State.reg_setF_self, Fld.get_put_ne x y _ _ hx h]

/-- A field of another word reads as before. -/
theorem State.f_setF_word (s : State) (x y : Fld) (v : Nat) (ha : y.addr ≠ x.addr) : (s.setF x v).f y = s.f y := by
  unfold State.f; rw [State.reg_setF_ne s x v ha]

theorem State.f_setReg_ne (s : State) (y : Fld) {a : Nat} (v : Word) (ha : y.addr ≠ a) : (s.setReg a v).f y = s.f y := by
  unfold State.f; rw [State.reg_setReg_ne s v ha]

theorem State.f_setReg_self (s : State) (y : Fld) (v : Word) : (s.setReg y.addr v).f y = y.get v := by
  unfold State.f; rw [State.reg_setReg_self]

theorem State.f_lt (s : State) (x : Fld) : s.f x < 2 ^ x.width := Fld.get_lt ..

end Sys2Proof.Machine
end

