-- ==== Sys2Proof/Laws/State.lean ====
section
/-! SUPPORT. What each shared update leaves alone: one lemma per update and per field of the state. -/

set_option linter.unusedSimpArgs false

namespace Sys2Proof.Machine

/-! ## setReg -/

@[simp] theorem State.setReg_pending (s : State) (a : Nat) (v : Word) : (s.setReg a v).pending = s.pending := rfl
@[simp] theorem State.setReg_shadow (s : State) (a : Nat) (v : Word) : (s.setReg a v).shadow = s.shadow := rfl
@[simp] theorem State.setReg_mem (s : State) (a : Nat) (v : Word) : (s.setReg a v).mem = s.mem := rfl
@[simp] theorem State.setReg_lost (s : State) (a : Nat) (v : Word) : (s.setReg a v).lost = s.lost := rfl
@[simp] theorem State.setReg_ecc (s : State) (a : Nat) (v : Word) : (s.setReg a v).ecc = s.ecc := rfl
@[simp] theorem State.setReg_mono (s : State) (a : Nat) (v : Word) : (s.setReg a v).mono = s.mono := rfl
@[simp] theorem State.setReg_time (s : State) (a : Nat) (v : Word) : (s.setReg a v).time = s.time := rfl
@[simp] theorem State.setReg_timeSet (s : State) (a : Nat) (v : Word) : (s.setReg a v).timeSet = s.timeSet := rfl
@[simp] theorem State.setReg_free (s : State) (a : Nat) (v : Word) : (s.setReg a v).free = s.free := rfl
@[simp] theorem State.setReg_lockOpen (s : State) (a : Nat) (v : Word) : (s.setReg a v).lockOpen = s.lockOpen := rfl
@[simp] theorem State.setReg_commits (s : State) (a : Nat) (v : Word) : (s.setReg a v).commits = s.commits := rfl
@[simp] theorem State.setReg_ispHeld (s : State) (a : Nat) (v : Word) : (s.setReg a v).ispHeld = s.ispHeld := rfl
@[simp] theorem State.setReg_latched (s : State) (a : Nat) (v : Word) : (s.setReg a v).latched = s.latched := rfl
@[simp] theorem State.setReg_pwr (s : State) (a : Nat) (v : Word) : (s.setReg a v).pwr = s.pwr := rfl
@[simp] theorem State.setReg_host (s : State) (a : Nat) (v : Word) : (s.setReg a v).host = s.host := rfl
@[simp] theorem State.setReg_link (s : State) (a : Nat) (v : Word) : (s.setReg a v).link = s.link := rfl
@[simp] theorem State.setReg_deal (s : State) (a : Nat) (v : Word) : (s.setReg a v).deal = s.deal := rfl
@[simp] theorem State.setReg_ldb (s : State) (a : Nat) (v : Word) : (s.setReg a v).ldb = s.ldb := rfl
@[simp] theorem State.setReg_emit (s : State) (a : Nat) (v : Word) : (s.setReg a v).emit = s.emit := rfl
@[simp] theorem State.setReg_steer (s : State) (a : Nat) (v : Word) : (s.setReg a v).steer = s.steer := rfl
@[simp] theorem State.setReg_ret (s : State) (a : Nat) (v : Word) : (s.setReg a v).ret = s.ret := rfl
@[simp] theorem State.setReg_hist (s : State) (a : Nat) (v : Word) : (s.setReg a v).hist = s.hist := rfl
@[simp] theorem State.setReg_acq (s : State) (a : Nat) (v : Word) : (s.setReg a v).acq = s.acq := rfl
@[simp] theorem State.setReg_cam (s : State) (a : Nat) (v : Word) : (s.setReg a v).cam = s.cam := rfl
@[simp] theorem State.setReg_zone (s : State) (a : Nat) (v : Word) : (s.setReg a v).zone = s.zone := rfl
@[simp] theorem State.setReg_cal (s : State) (a : Nat) (v : Word) : (s.setReg a v).cal = s.cal := rfl
@[simp] theorem State.setReg_safe (s : State) (a : Nat) (v : Word) : (s.setReg a v).safe = s.safe := rfl
@[simp] theorem State.setReg_field (s : State) (a : Nat) (v : Word) : (s.setReg a v).field = s.field := rfl
@[simp] theorem State.setReg_supv (s : State) (a : Nat) (v : Word) : (s.setReg a v).supv = s.supv := rfl
@[simp] theorem State.setReg_img (s : State) (a : Nat) (v : Word) : (s.setReg a v).img = s.img := rfl
@[simp] theorem State.setReg_led (s : State) (a : Nat) (v : Word) : (s.setReg a v).led = s.led := rfl
@[simp] theorem State.setReg_hk (s : State) (a : Nat) (v : Word) : (s.setReg a v).hk = s.hk := rfl
@[simp] theorem State.setReg_scrub (s : State) (a : Nat) (v : Word) : (s.setReg a v).scrub = s.scrub := rfl

/-! ## setShad -/

@[simp] theorem State.setShad_pending (s : State) (a : Nat) (v : Word) : (s.setShad a v).pending = s.pending := rfl
@[simp] theorem State.setShad_regs (s : State) (a : Nat) (v : Word) : (s.setShad a v).regs = s.regs := rfl
@[simp] theorem State.setShad_mem (s : State) (a : Nat) (v : Word) : (s.setShad a v).mem = s.mem := rfl
@[simp] theorem State.setShad_lost (s : State) (a : Nat) (v : Word) : (s.setShad a v).lost = s.lost := rfl
@[simp] theorem State.setShad_ecc (s : State) (a : Nat) (v : Word) : (s.setShad a v).ecc = s.ecc := rfl
@[simp] theorem State.setShad_mono (s : State) (a : Nat) (v : Word) : (s.setShad a v).mono = s.mono := rfl
@[simp] theorem State.setShad_time (s : State) (a : Nat) (v : Word) : (s.setShad a v).time = s.time := rfl
@[simp] theorem State.setShad_timeSet (s : State) (a : Nat) (v : Word) : (s.setShad a v).timeSet = s.timeSet := rfl
@[simp] theorem State.setShad_free (s : State) (a : Nat) (v : Word) : (s.setShad a v).free = s.free := rfl
@[simp] theorem State.setShad_lockOpen (s : State) (a : Nat) (v : Word) : (s.setShad a v).lockOpen = s.lockOpen := rfl
@[simp] theorem State.setShad_commits (s : State) (a : Nat) (v : Word) : (s.setShad a v).commits = s.commits := rfl
@[simp] theorem State.setShad_ispHeld (s : State) (a : Nat) (v : Word) : (s.setShad a v).ispHeld = s.ispHeld := rfl
@[simp] theorem State.setShad_latched (s : State) (a : Nat) (v : Word) : (s.setShad a v).latched = s.latched := rfl
@[simp] theorem State.setShad_pwr (s : State) (a : Nat) (v : Word) : (s.setShad a v).pwr = s.pwr := rfl
@[simp] theorem State.setShad_host (s : State) (a : Nat) (v : Word) : (s.setShad a v).host = s.host := rfl
@[simp] theorem State.setShad_link (s : State) (a : Nat) (v : Word) : (s.setShad a v).link = s.link := rfl
@[simp] theorem State.setShad_deal (s : State) (a : Nat) (v : Word) : (s.setShad a v).deal = s.deal := rfl
@[simp] theorem State.setShad_ldb (s : State) (a : Nat) (v : Word) : (s.setShad a v).ldb = s.ldb := rfl
@[simp] theorem State.setShad_emit (s : State) (a : Nat) (v : Word) : (s.setShad a v).emit = s.emit := rfl
@[simp] theorem State.setShad_steer (s : State) (a : Nat) (v : Word) : (s.setShad a v).steer = s.steer := rfl
@[simp] theorem State.setShad_ret (s : State) (a : Nat) (v : Word) : (s.setShad a v).ret = s.ret := rfl
@[simp] theorem State.setShad_hist (s : State) (a : Nat) (v : Word) : (s.setShad a v).hist = s.hist := rfl
@[simp] theorem State.setShad_acq (s : State) (a : Nat) (v : Word) : (s.setShad a v).acq = s.acq := rfl
@[simp] theorem State.setShad_cam (s : State) (a : Nat) (v : Word) : (s.setShad a v).cam = s.cam := rfl
@[simp] theorem State.setShad_zone (s : State) (a : Nat) (v : Word) : (s.setShad a v).zone = s.zone := rfl
@[simp] theorem State.setShad_cal (s : State) (a : Nat) (v : Word) : (s.setShad a v).cal = s.cal := rfl
@[simp] theorem State.setShad_safe (s : State) (a : Nat) (v : Word) : (s.setShad a v).safe = s.safe := rfl
@[simp] theorem State.setShad_field (s : State) (a : Nat) (v : Word) : (s.setShad a v).field = s.field := rfl
@[simp] theorem State.setShad_supv (s : State) (a : Nat) (v : Word) : (s.setShad a v).supv = s.supv := rfl
@[simp] theorem State.setShad_img (s : State) (a : Nat) (v : Word) : (s.setShad a v).img = s.img := rfl
@[simp] theorem State.setShad_led (s : State) (a : Nat) (v : Word) : (s.setShad a v).led = s.led := rfl
@[simp] theorem State.setShad_hk (s : State) (a : Nat) (v : Word) : (s.setShad a v).hk = s.hk := rfl
@[simp] theorem State.setShad_scrub (s : State) (a : Nat) (v : Word) : (s.setShad a v).scrub = s.scrub := rfl

/-! ## setF -/

@[simp] theorem State.setF_pending (s : State) (x : Fld) (v : Nat) : (s.setF x v).pending = s.pending := rfl
@[simp] theorem State.setF_shadow (s : State) (x : Fld) (v : Nat) : (s.setF x v).shadow = s.shadow := rfl
@[simp] theorem State.setF_mem (s : State) (x : Fld) (v : Nat) : (s.setF x v).mem = s.mem := rfl
@[simp] theorem State.setF_lost (s : State) (x : Fld) (v : Nat) : (s.setF x v).lost = s.lost := rfl
@[simp] theorem State.setF_ecc (s : State) (x : Fld) (v : Nat) : (s.setF x v).ecc = s.ecc := rfl
@[simp] theorem State.setF_mono (s : State) (x : Fld) (v : Nat) : (s.setF x v).mono = s.mono := rfl
@[simp] theorem State.setF_time (s : State) (x : Fld) (v : Nat) : (s.setF x v).time = s.time := rfl
@[simp] theorem State.setF_timeSet (s : State) (x : Fld) (v : Nat) : (s.setF x v).timeSet = s.timeSet := rfl
@[simp] theorem State.setF_free (s : State) (x : Fld) (v : Nat) : (s.setF x v).free = s.free := rfl
@[simp] theorem State.setF_lockOpen (s : State) (x : Fld) (v : Nat) : (s.setF x v).lockOpen = s.lockOpen := rfl
@[simp] theorem State.setF_commits (s : State) (x : Fld) (v : Nat) : (s.setF x v).commits = s.commits := rfl
@[simp] theorem State.setF_ispHeld (s : State) (x : Fld) (v : Nat) : (s.setF x v).ispHeld = s.ispHeld := rfl
@[simp] theorem State.setF_latched (s : State) (x : Fld) (v : Nat) : (s.setF x v).latched = s.latched := rfl
@[simp] theorem State.setF_pwr (s : State) (x : Fld) (v : Nat) : (s.setF x v).pwr = s.pwr := rfl
@[simp] theorem State.setF_host (s : State) (x : Fld) (v : Nat) : (s.setF x v).host = s.host := rfl
@[simp] theorem State.setF_link (s : State) (x : Fld) (v : Nat) : (s.setF x v).link = s.link := rfl
@[simp] theorem State.setF_deal (s : State) (x : Fld) (v : Nat) : (s.setF x v).deal = s.deal := rfl
@[simp] theorem State.setF_ldb (s : State) (x : Fld) (v : Nat) : (s.setF x v).ldb = s.ldb := rfl
@[simp] theorem State.setF_emit (s : State) (x : Fld) (v : Nat) : (s.setF x v).emit = s.emit := rfl
@[simp] theorem State.setF_steer (s : State) (x : Fld) (v : Nat) : (s.setF x v).steer = s.steer := rfl
@[simp] theorem State.setF_ret (s : State) (x : Fld) (v : Nat) : (s.setF x v).ret = s.ret := rfl
@[simp] theorem State.setF_hist (s : State) (x : Fld) (v : Nat) : (s.setF x v).hist = s.hist := rfl
@[simp] theorem State.setF_acq (s : State) (x : Fld) (v : Nat) : (s.setF x v).acq = s.acq := rfl
@[simp] theorem State.setF_cam (s : State) (x : Fld) (v : Nat) : (s.setF x v).cam = s.cam := rfl
@[simp] theorem State.setF_zone (s : State) (x : Fld) (v : Nat) : (s.setF x v).zone = s.zone := rfl
@[simp] theorem State.setF_cal (s : State) (x : Fld) (v : Nat) : (s.setF x v).cal = s.cal := rfl
@[simp] theorem State.setF_safe (s : State) (x : Fld) (v : Nat) : (s.setF x v).safe = s.safe := rfl
@[simp] theorem State.setF_field (s : State) (x : Fld) (v : Nat) : (s.setF x v).field = s.field := rfl
@[simp] theorem State.setF_supv (s : State) (x : Fld) (v : Nat) : (s.setF x v).supv = s.supv := rfl
@[simp] theorem State.setF_img (s : State) (x : Fld) (v : Nat) : (s.setF x v).img = s.img := rfl
@[simp] theorem State.setF_led (s : State) (x : Fld) (v : Nat) : (s.setF x v).led = s.led := rfl
@[simp] theorem State.setF_hk (s : State) (x : Fld) (v : Nat) : (s.setF x v).hk = s.hk := rfl
@[simp] theorem State.setF_scrub (s : State) (x : Fld) (v : Nat) : (s.setF x v).scrub = s.scrub := rfl

/-! ## setB -/

@[simp] theorem State.setB_pending (s : State) (x : Fld) (b : Bool) : (s.setB x b).pending = s.pending := rfl
@[simp] theorem State.setB_shadow (s : State) (x : Fld) (b : Bool) : (s.setB x b).shadow = s.shadow := rfl
@[simp] theorem State.setB_mem (s : State) (x : Fld) (b : Bool) : (s.setB x b).mem = s.mem := rfl
@[simp] theorem State.setB_lost (s : State) (x : Fld) (b : Bool) : (s.setB x b).lost = s.lost := rfl
@[simp] theorem State.setB_ecc (s : State) (x : Fld) (b : Bool) : (s.setB x b).ecc = s.ecc := rfl
@[simp] theorem State.setB_mono (s : State) (x : Fld) (b : Bool) : (s.setB x b).mono = s.mono := rfl
@[simp] theorem State.setB_time (s : State) (x : Fld) (b : Bool) : (s.setB x b).time = s.time := rfl
@[simp] theorem State.setB_timeSet (s : State) (x : Fld) (b : Bool) : (s.setB x b).timeSet = s.timeSet := rfl
@[simp] theorem State.setB_free (s : State) (x : Fld) (b : Bool) : (s.setB x b).free = s.free := rfl
@[simp] theorem State.setB_lockOpen (s : State) (x : Fld) (b : Bool) : (s.setB x b).lockOpen = s.lockOpen := rfl
@[simp] theorem State.setB_commits (s : State) (x : Fld) (b : Bool) : (s.setB x b).commits = s.commits := rfl
@[simp] theorem State.setB_ispHeld (s : State) (x : Fld) (b : Bool) : (s.setB x b).ispHeld = s.ispHeld := rfl
@[simp] theorem State.setB_latched (s : State) (x : Fld) (b : Bool) : (s.setB x b).latched = s.latched := rfl
@[simp] theorem State.setB_pwr (s : State) (x : Fld) (b : Bool) : (s.setB x b).pwr = s.pwr := rfl
@[simp] theorem State.setB_host (s : State) (x : Fld) (b : Bool) : (s.setB x b).host = s.host := rfl
@[simp] theorem State.setB_link (s : State) (x : Fld) (b : Bool) : (s.setB x b).link = s.link := rfl
@[simp] theorem State.setB_deal (s : State) (x : Fld) (b : Bool) : (s.setB x b).deal = s.deal := rfl
@[simp] theorem State.setB_ldb (s : State) (x : Fld) (b : Bool) : (s.setB x b).ldb = s.ldb := rfl
@[simp] theorem State.setB_emit (s : State) (x : Fld) (b : Bool) : (s.setB x b).emit = s.emit := rfl
@[simp] theorem State.setB_steer (s : State) (x : Fld) (b : Bool) : (s.setB x b).steer = s.steer := rfl
@[simp] theorem State.setB_ret (s : State) (x : Fld) (b : Bool) : (s.setB x b).ret = s.ret := rfl
@[simp] theorem State.setB_hist (s : State) (x : Fld) (b : Bool) : (s.setB x b).hist = s.hist := rfl
@[simp] theorem State.setB_acq (s : State) (x : Fld) (b : Bool) : (s.setB x b).acq = s.acq := rfl
@[simp] theorem State.setB_cam (s : State) (x : Fld) (b : Bool) : (s.setB x b).cam = s.cam := rfl
@[simp] theorem State.setB_zone (s : State) (x : Fld) (b : Bool) : (s.setB x b).zone = s.zone := rfl
@[simp] theorem State.setB_cal (s : State) (x : Fld) (b : Bool) : (s.setB x b).cal = s.cal := rfl
@[simp] theorem State.setB_safe (s : State) (x : Fld) (b : Bool) : (s.setB x b).safe = s.safe := rfl
@[simp] theorem State.setB_field (s : State) (x : Fld) (b : Bool) : (s.setB x b).field = s.field := rfl
@[simp] theorem State.setB_supv (s : State) (x : Fld) (b : Bool) : (s.setB x b).supv = s.supv := rfl
@[simp] theorem State.setB_img (s : State) (x : Fld) (b : Bool) : (s.setB x b).img = s.img := rfl
@[simp] theorem State.setB_led (s : State) (x : Fld) (b : Bool) : (s.setB x b).led = s.led := rfl
@[simp] theorem State.setB_hk (s : State) (x : Fld) (b : Bool) : (s.setB x b).hk = s.hk := rfl
@[simp] theorem State.setB_scrub (s : State) (x : Fld) (b : Bool) : (s.setB x b).scrub = s.scrub := rfl

/-! ## setI -/

@[simp] theorem State.setI_pending (s : State) (x : Fld) (v : Int) : (s.setI x v).pending = s.pending := rfl
@[simp] theorem State.setI_shadow (s : State) (x : Fld) (v : Int) : (s.setI x v).shadow = s.shadow := rfl
@[simp] theorem State.setI_mem (s : State) (x : Fld) (v : Int) : (s.setI x v).mem = s.mem := rfl
@[simp] theorem State.setI_lost (s : State) (x : Fld) (v : Int) : (s.setI x v).lost = s.lost := rfl
@[simp] theorem State.setI_ecc (s : State) (x : Fld) (v : Int) : (s.setI x v).ecc = s.ecc := rfl
@[simp] theorem State.setI_mono (s : State) (x : Fld) (v : Int) : (s.setI x v).mono = s.mono := rfl
@[simp] theorem State.setI_time (s : State) (x : Fld) (v : Int) : (s.setI x v).time = s.time := rfl
@[simp] theorem State.setI_timeSet (s : State) (x : Fld) (v : Int) : (s.setI x v).timeSet = s.timeSet := rfl
@[simp] theorem State.setI_free (s : State) (x : Fld) (v : Int) : (s.setI x v).free = s.free := rfl
@[simp] theorem State.setI_lockOpen (s : State) (x : Fld) (v : Int) : (s.setI x v).lockOpen = s.lockOpen := rfl
@[simp] theorem State.setI_commits (s : State) (x : Fld) (v : Int) : (s.setI x v).commits = s.commits := rfl
@[simp] theorem State.setI_ispHeld (s : State) (x : Fld) (v : Int) : (s.setI x v).ispHeld = s.ispHeld := rfl
@[simp] theorem State.setI_latched (s : State) (x : Fld) (v : Int) : (s.setI x v).latched = s.latched := rfl
@[simp] theorem State.setI_pwr (s : State) (x : Fld) (v : Int) : (s.setI x v).pwr = s.pwr := rfl
@[simp] theorem State.setI_host (s : State) (x : Fld) (v : Int) : (s.setI x v).host = s.host := rfl
@[simp] theorem State.setI_link (s : State) (x : Fld) (v : Int) : (s.setI x v).link = s.link := rfl
@[simp] theorem State.setI_deal (s : State) (x : Fld) (v : Int) : (s.setI x v).deal = s.deal := rfl
@[simp] theorem State.setI_ldb (s : State) (x : Fld) (v : Int) : (s.setI x v).ldb = s.ldb := rfl
@[simp] theorem State.setI_emit (s : State) (x : Fld) (v : Int) : (s.setI x v).emit = s.emit := rfl
@[simp] theorem State.setI_steer (s : State) (x : Fld) (v : Int) : (s.setI x v).steer = s.steer := rfl
@[simp] theorem State.setI_ret (s : State) (x : Fld) (v : Int) : (s.setI x v).ret = s.ret := rfl
@[simp] theorem State.setI_hist (s : State) (x : Fld) (v : Int) : (s.setI x v).hist = s.hist := rfl
@[simp] theorem State.setI_acq (s : State) (x : Fld) (v : Int) : (s.setI x v).acq = s.acq := rfl
@[simp] theorem State.setI_cam (s : State) (x : Fld) (v : Int) : (s.setI x v).cam = s.cam := rfl
@[simp] theorem State.setI_zone (s : State) (x : Fld) (v : Int) : (s.setI x v).zone = s.zone := rfl
@[simp] theorem State.setI_cal (s : State) (x : Fld) (v : Int) : (s.setI x v).cal = s.cal := rfl
@[simp] theorem State.setI_safe (s : State) (x : Fld) (v : Int) : (s.setI x v).safe = s.safe := rfl
@[simp] theorem State.setI_field (s : State) (x : Fld) (v : Int) : (s.setI x v).field = s.field := rfl
@[simp] theorem State.setI_supv (s : State) (x : Fld) (v : Int) : (s.setI x v).supv = s.supv := rfl
@[simp] theorem State.setI_img (s : State) (x : Fld) (v : Int) : (s.setI x v).img = s.img := rfl
@[simp] theorem State.setI_led (s : State) (x : Fld) (v : Int) : (s.setI x v).led = s.led := rfl
@[simp] theorem State.setI_hk (s : State) (x : Fld) (v : Int) : (s.setI x v).hk = s.hk := rfl
@[simp] theorem State.setI_scrub (s : State) (x : Fld) (v : Int) : (s.setI x v).scrub = s.scrub := rfl

/-! ## addF -/

@[simp] theorem State.addF_pending (s : State) (x : Fld) (n : Nat) : (s.addF x n).pending = s.pending := rfl
@[simp] theorem State.addF_shadow (s : State) (x : Fld) (n : Nat) : (s.addF x n).shadow = s.shadow := rfl
@[simp] theorem State.addF_mem (s : State) (x : Fld) (n : Nat) : (s.addF x n).mem = s.mem := rfl
@[simp] theorem State.addF_lost (s : State) (x : Fld) (n : Nat) : (s.addF x n).lost = s.lost := rfl
@[simp] theorem State.addF_ecc (s : State) (x : Fld) (n : Nat) : (s.addF x n).ecc = s.ecc := rfl
@[simp] theorem State.addF_mono (s : State) (x : Fld) (n : Nat) : (s.addF x n).mono = s.mono := rfl
@[simp] theorem State.addF_time (s : State) (x : Fld) (n : Nat) : (s.addF x n).time = s.time := rfl
@[simp] theorem State.addF_timeSet (s : State) (x : Fld) (n : Nat) : (s.addF x n).timeSet = s.timeSet := rfl
@[simp] theorem State.addF_free (s : State) (x : Fld) (n : Nat) : (s.addF x n).free = s.free := rfl
@[simp] theorem State.addF_lockOpen (s : State) (x : Fld) (n : Nat) : (s.addF x n).lockOpen = s.lockOpen := rfl
@[simp] theorem State.addF_commits (s : State) (x : Fld) (n : Nat) : (s.addF x n).commits = s.commits := rfl
@[simp] theorem State.addF_ispHeld (s : State) (x : Fld) (n : Nat) : (s.addF x n).ispHeld = s.ispHeld := rfl
@[simp] theorem State.addF_latched (s : State) (x : Fld) (n : Nat) : (s.addF x n).latched = s.latched := rfl
@[simp] theorem State.addF_pwr (s : State) (x : Fld) (n : Nat) : (s.addF x n).pwr = s.pwr := rfl
@[simp] theorem State.addF_host (s : State) (x : Fld) (n : Nat) : (s.addF x n).host = s.host := rfl
@[simp] theorem State.addF_link (s : State) (x : Fld) (n : Nat) : (s.addF x n).link = s.link := rfl
@[simp] theorem State.addF_deal (s : State) (x : Fld) (n : Nat) : (s.addF x n).deal = s.deal := rfl
@[simp] theorem State.addF_ldb (s : State) (x : Fld) (n : Nat) : (s.addF x n).ldb = s.ldb := rfl
@[simp] theorem State.addF_emit (s : State) (x : Fld) (n : Nat) : (s.addF x n).emit = s.emit := rfl
@[simp] theorem State.addF_steer (s : State) (x : Fld) (n : Nat) : (s.addF x n).steer = s.steer := rfl
@[simp] theorem State.addF_ret (s : State) (x : Fld) (n : Nat) : (s.addF x n).ret = s.ret := rfl
@[simp] theorem State.addF_hist (s : State) (x : Fld) (n : Nat) : (s.addF x n).hist = s.hist := rfl
@[simp] theorem State.addF_acq (s : State) (x : Fld) (n : Nat) : (s.addF x n).acq = s.acq := rfl
@[simp] theorem State.addF_cam (s : State) (x : Fld) (n : Nat) : (s.addF x n).cam = s.cam := rfl
@[simp] theorem State.addF_zone (s : State) (x : Fld) (n : Nat) : (s.addF x n).zone = s.zone := rfl
@[simp] theorem State.addF_cal (s : State) (x : Fld) (n : Nat) : (s.addF x n).cal = s.cal := rfl
@[simp] theorem State.addF_safe (s : State) (x : Fld) (n : Nat) : (s.addF x n).safe = s.safe := rfl
@[simp] theorem State.addF_field (s : State) (x : Fld) (n : Nat) : (s.addF x n).field = s.field := rfl
@[simp] theorem State.addF_supv (s : State) (x : Fld) (n : Nat) : (s.addF x n).supv = s.supv := rfl
@[simp] theorem State.addF_img (s : State) (x : Fld) (n : Nat) : (s.addF x n).img = s.img := rfl
@[simp] theorem State.addF_led (s : State) (x : Fld) (n : Nat) : (s.addF x n).led = s.led := rfl
@[simp] theorem State.addF_hk (s : State) (x : Fld) (n : Nat) : (s.addF x n).hk = s.hk := rfl
@[simp] theorem State.addF_scrub (s : State) (x : Fld) (n : Nat) : (s.addF x n).scrub = s.scrub := rfl

/-! ## incF -/

@[simp] theorem State.incF_pending (s : State) (x : Fld) : (s.incF x).pending = s.pending := rfl
@[simp] theorem State.incF_shadow (s : State) (x : Fld) : (s.incF x).shadow = s.shadow := rfl
@[simp] theorem State.incF_mem (s : State) (x : Fld) : (s.incF x).mem = s.mem := rfl
@[simp] theorem State.incF_lost (s : State) (x : Fld) : (s.incF x).lost = s.lost := rfl
@[simp] theorem State.incF_ecc (s : State) (x : Fld) : (s.incF x).ecc = s.ecc := rfl
@[simp] theorem State.incF_mono (s : State) (x : Fld) : (s.incF x).mono = s.mono := rfl
@[simp] theorem State.incF_time (s : State) (x : Fld) : (s.incF x).time = s.time := rfl
@[simp] theorem State.incF_timeSet (s : State) (x : Fld) : (s.incF x).timeSet = s.timeSet := rfl
@[simp] theorem State.incF_free (s : State) (x : Fld) : (s.incF x).free = s.free := rfl
@[simp] theorem State.incF_lockOpen (s : State) (x : Fld) : (s.incF x).lockOpen = s.lockOpen := rfl
@[simp] theorem State.incF_commits (s : State) (x : Fld) : (s.incF x).commits = s.commits := rfl
@[simp] theorem State.incF_ispHeld (s : State) (x : Fld) : (s.incF x).ispHeld = s.ispHeld := rfl
@[simp] theorem State.incF_latched (s : State) (x : Fld) : (s.incF x).latched = s.latched := rfl
@[simp] theorem State.incF_pwr (s : State) (x : Fld) : (s.incF x).pwr = s.pwr := rfl
@[simp] theorem State.incF_host (s : State) (x : Fld) : (s.incF x).host = s.host := rfl
@[simp] theorem State.incF_link (s : State) (x : Fld) : (s.incF x).link = s.link := rfl
@[simp] theorem State.incF_deal (s : State) (x : Fld) : (s.incF x).deal = s.deal := rfl
@[simp] theorem State.incF_ldb (s : State) (x : Fld) : (s.incF x).ldb = s.ldb := rfl
@[simp] theorem State.incF_emit (s : State) (x : Fld) : (s.incF x).emit = s.emit := rfl
@[simp] theorem State.incF_steer (s : State) (x : Fld) : (s.incF x).steer = s.steer := rfl
@[simp] theorem State.incF_ret (s : State) (x : Fld) : (s.incF x).ret = s.ret := rfl
@[simp] theorem State.incF_hist (s : State) (x : Fld) : (s.incF x).hist = s.hist := rfl
@[simp] theorem State.incF_acq (s : State) (x : Fld) : (s.incF x).acq = s.acq := rfl
@[simp] theorem State.incF_cam (s : State) (x : Fld) : (s.incF x).cam = s.cam := rfl
@[simp] theorem State.incF_zone (s : State) (x : Fld) : (s.incF x).zone = s.zone := rfl
@[simp] theorem State.incF_cal (s : State) (x : Fld) : (s.incF x).cal = s.cal := rfl
@[simp] theorem State.incF_safe (s : State) (x : Fld) : (s.incF x).safe = s.safe := rfl
@[simp] theorem State.incF_field (s : State) (x : Fld) : (s.incF x).field = s.field := rfl
@[simp] theorem State.incF_supv (s : State) (x : Fld) : (s.incF x).supv = s.supv := rfl
@[simp] theorem State.incF_img (s : State) (x : Fld) : (s.incF x).img = s.img := rfl
@[simp] theorem State.incF_led (s : State) (x : Fld) : (s.incF x).led = s.led := rfl
@[simp] theorem State.incF_hk (s : State) (x : Fld) : (s.incF x).hk = s.hk := rfl
@[simp] theorem State.incF_scrub (s : State) (x : Fld) : (s.incF x).scrub = s.scrub := rfl

/-! ## wr -/

@[simp] theorem State.wr_pending (s : State) (a : Nat) (v : Word36) : (s.wr a v).pending = s.pending := rfl
@[simp] theorem State.wr_regs (s : State) (a : Nat) (v : Word36) : (s.wr a v).regs = s.regs := rfl
@[simp] theorem State.wr_shadow (s : State) (a : Nat) (v : Word36) : (s.wr a v).shadow = s.shadow := rfl
@[simp] theorem State.wr_lost (s : State) (a : Nat) (v : Word36) : (s.wr a v).lost = s.lost := rfl
@[simp] theorem State.wr_mono (s : State) (a : Nat) (v : Word36) : (s.wr a v).mono = s.mono := rfl
@[simp] theorem State.wr_time (s : State) (a : Nat) (v : Word36) : (s.wr a v).time = s.time := rfl
@[simp] theorem State.wr_timeSet (s : State) (a : Nat) (v : Word36) : (s.wr a v).timeSet = s.timeSet := rfl
@[simp] theorem State.wr_free (s : State) (a : Nat) (v : Word36) : (s.wr a v).free = s.free := rfl
@[simp] theorem State.wr_lockOpen (s : State) (a : Nat) (v : Word36) : (s.wr a v).lockOpen = s.lockOpen := rfl
@[simp] theorem State.wr_commits (s : State) (a : Nat) (v : Word36) : (s.wr a v).commits = s.commits := rfl
@[simp] theorem State.wr_ispHeld (s : State) (a : Nat) (v : Word36) : (s.wr a v).ispHeld = s.ispHeld := rfl
@[simp] theorem State.wr_latched (s : State) (a : Nat) (v : Word36) : (s.wr a v).latched = s.latched := rfl
@[simp] theorem State.wr_pwr (s : State) (a : Nat) (v : Word36) : (s.wr a v).pwr = s.pwr := rfl
@[simp] theorem State.wr_host (s : State) (a : Nat) (v : Word36) : (s.wr a v).host = s.host := rfl
@[simp] theorem State.wr_link (s : State) (a : Nat) (v : Word36) : (s.wr a v).link = s.link := rfl
@[simp] theorem State.wr_deal (s : State) (a : Nat) (v : Word36) : (s.wr a v).deal = s.deal := rfl
@[simp] theorem State.wr_ldb (s : State) (a : Nat) (v : Word36) : (s.wr a v).ldb = s.ldb := rfl
@[simp] theorem State.wr_emit (s : State) (a : Nat) (v : Word36) : (s.wr a v).emit = s.emit := rfl
@[simp] theorem State.wr_steer (s : State) (a : Nat) (v : Word36) : (s.wr a v).steer = s.steer := rfl
@[simp] theorem State.wr_ret (s : State) (a : Nat) (v : Word36) : (s.wr a v).ret = s.ret := rfl
@[simp] theorem State.wr_hist (s : State) (a : Nat) (v : Word36) : (s.wr a v).hist = s.hist := rfl
@[simp] theorem State.wr_acq (s : State) (a : Nat) (v : Word36) : (s.wr a v).acq = s.acq := rfl
@[simp] theorem State.wr_cam (s : State) (a : Nat) (v : Word36) : (s.wr a v).cam = s.cam := rfl
@[simp] theorem State.wr_zone (s : State) (a : Nat) (v : Word36) : (s.wr a v).zone = s.zone := rfl
@[simp] theorem State.wr_cal (s : State) (a : Nat) (v : Word36) : (s.wr a v).cal = s.cal := rfl
@[simp] theorem State.wr_safe (s : State) (a : Nat) (v : Word36) : (s.wr a v).safe = s.safe := rfl
@[simp] theorem State.wr_field (s : State) (a : Nat) (v : Word36) : (s.wr a v).field = s.field := rfl
@[simp] theorem State.wr_supv (s : State) (a : Nat) (v : Word36) : (s.wr a v).supv = s.supv := rfl
@[simp] theorem State.wr_img (s : State) (a : Nat) (v : Word36) : (s.wr a v).img = s.img := rfl
@[simp] theorem State.wr_led (s : State) (a : Nat) (v : Word36) : (s.wr a v).led = s.led := rfl
@[simp] theorem State.wr_hk (s : State) (a : Nat) (v : Word36) : (s.wr a v).hk = s.hk := rfl
@[simp] theorem State.wr_scrub (s : State) (a : Nat) (v : Word36) : (s.wr a v).scrub = s.scrub := rfl

/-! ## maxF -/

@[simp] theorem State.maxF_pending (s : State) (x : Fld) (v : Nat) : (s.maxF x v).pending = s.pending := by
  unfold State.maxF; split <;> rfl
@[simp] theorem State.maxF_shadow (s : State) (x : Fld) (v : Nat) : (s.maxF x v).shadow = s.shadow := by
  unfold State.maxF; split <;> rfl
@[simp] theorem State.maxF_mem (s : State) (x : Fld) (v : Nat) : (s.maxF x v).mem = s.mem := by
  unfold State.maxF; split <;> rfl
@[simp] theorem State.maxF_lost (s : State) (x : Fld) (v : Nat) : (s.maxF x v).lost = s.lost := by
  unfold State.maxF; split <;> rfl
@[simp] theorem State.maxF_ecc (s : State) (x : Fld) (v : Nat) : (s.maxF x v).ecc = s.ecc := by
  unfold State.maxF; split <;> rfl
@[simp] theorem State.maxF_mono (s : State) (x : Fld) (v : Nat) : (s.maxF x v).mono = s.mono := by
  unfold State.maxF; split <;> rfl
@[simp] theorem State.maxF_time (s : State) (x : Fld) (v : Nat) : (s.maxF x v).time = s.time := by
  unfold State.maxF; split <;> rfl
@[simp] theorem State.maxF_timeSet (s : State) (x : Fld) (v : Nat) : (s.maxF x v).timeSet = s.timeSet := by
  unfold State.maxF; split <;> rfl
@[simp] theorem State.maxF_free (s : State) (x : Fld) (v : Nat) : (s.maxF x v).free = s.free := by
  unfold State.maxF; split <;> rfl
@[simp] theorem State.maxF_lockOpen (s : State) (x : Fld) (v : Nat) : (s.maxF x v).lockOpen = s.lockOpen := by
  unfold State.maxF; split <;> rfl
@[simp] theorem State.maxF_commits (s : State) (x : Fld) (v : Nat) : (s.maxF x v).commits = s.commits := by
  unfold State.maxF; split <;> rfl
@[simp] theorem State.maxF_ispHeld (s : State) (x : Fld) (v : Nat) : (s.maxF x v).ispHeld = s.ispHeld := by
  unfold State.maxF; split <;> rfl
@[simp] theorem State.maxF_latched (s : State) (x : Fld) (v : Nat) : (s.maxF x v).latched = s.latched := by
  unfold State.maxF; split <;> rfl
@[simp] theorem State.maxF_pwr (s : State) (x : Fld) (v : Nat) : (s.maxF x v).pwr = s.pwr := by
  unfold State.maxF; split <;> rfl
@[simp] theorem State.maxF_host (s : State) (x : Fld) (v : Nat) : (s.maxF x v).host = s.host := by
  unfold State.maxF; split <;> rfl
@[simp] theorem State.maxF_link (s : State) (x : Fld) (v : Nat) : (s.maxF x v).link = s.link := by
  unfold State.maxF; split <;> rfl
@[simp] theorem State.maxF_deal (s : State) (x : Fld) (v : Nat) : (s.maxF x v).deal = s.deal := by
  unfold State.maxF; split <;> rfl
@[simp] theorem State.maxF_ldb (s : State) (x : Fld) (v : Nat) : (s.maxF x v).ldb = s.ldb := by
  unfold State.maxF; split <;> rfl
@[simp] theorem State.maxF_emit (s : State) (x : Fld) (v : Nat) : (s.maxF x v).emit = s.emit := by
  unfold State.maxF; split <;> rfl
@[simp] theorem State.maxF_steer (s : State) (x : Fld) (v : Nat) : (s.maxF x v).steer = s.steer := by
  unfold State.maxF; split <;> rfl
@[simp] theorem State.maxF_ret (s : State) (x : Fld) (v : Nat) : (s.maxF x v).ret = s.ret := by
  unfold State.maxF; split <;> rfl
@[simp] theorem State.maxF_hist (s : State) (x : Fld) (v : Nat) : (s.maxF x v).hist = s.hist := by
  unfold State.maxF; split <;> rfl
@[simp] theorem State.maxF_acq (s : State) (x : Fld) (v : Nat) : (s.maxF x v).acq = s.acq := by
  unfold State.maxF; split <;> rfl
@[simp] theorem State.maxF_cam (s : State) (x : Fld) (v : Nat) : (s.maxF x v).cam = s.cam := by
  unfold State.maxF; split <;> rfl
@[simp] theorem State.maxF_zone (s : State) (x : Fld) (v : Nat) : (s.maxF x v).zone = s.zone := by
  unfold State.maxF; split <;> rfl
@[simp] theorem State.maxF_cal (s : State) (x : Fld) (v : Nat) : (s.maxF x v).cal = s.cal := by
  unfold State.maxF; split <;> rfl
@[simp] theorem State.maxF_safe (s : State) (x : Fld) (v : Nat) : (s.maxF x v).safe = s.safe := by
  unfold State.maxF; split <;> rfl
@[simp] theorem State.maxF_field (s : State) (x : Fld) (v : Nat) : (s.maxF x v).field = s.field := by
  unfold State.maxF; split <;> rfl
@[simp] theorem State.maxF_supv (s : State) (x : Fld) (v : Nat) : (s.maxF x v).supv = s.supv := by
  unfold State.maxF; split <;> rfl
@[simp] theorem State.maxF_img (s : State) (x : Fld) (v : Nat) : (s.maxF x v).img = s.img := by
  unfold State.maxF; split <;> rfl
@[simp] theorem State.maxF_led (s : State) (x : Fld) (v : Nat) : (s.maxF x v).led = s.led := by
  unfold State.maxF; split <;> rfl
@[simp] theorem State.maxF_hk (s : State) (x : Fld) (v : Nat) : (s.maxF x v).hk = s.hk := by
  unfold State.maxF; split <;> rfl
@[simp] theorem State.maxF_scrub (s : State) (x : Fld) (v : Nat) : (s.maxF x v).scrub = s.scrub := by
  unfold State.maxF; split <;> rfl

/-! ## enqueue -/

@[simp] theorem State.enqueue_pending (s : State) (d p g t : Nat) (l : List Word36) : (s.enqueue d p g t l).1.pending = s.pending := by
  unfold State.enqueue; dsimp only; split <;> rfl
@[simp] theorem State.enqueue_regs (s : State) (d p g t : Nat) (l : List Word36) : (s.enqueue d p g t l).1.regs = s.regs := by
  unfold State.enqueue; dsimp only; split <;> rfl
@[simp] theorem State.enqueue_shadow (s : State) (d p g t : Nat) (l : List Word36) : (s.enqueue d p g t l).1.shadow = s.shadow := by
  unfold State.enqueue; dsimp only; split <;> rfl
@[simp] theorem State.enqueue_mem (s : State) (d p g t : Nat) (l : List Word36) : (s.enqueue d p g t l).1.mem = s.mem := by
  unfold State.enqueue; dsimp only; split <;> rfl
@[simp] theorem State.enqueue_lost (s : State) (d p g t : Nat) (l : List Word36) : (s.enqueue d p g t l).1.lost = s.lost := by
  unfold State.enqueue; dsimp only; split <;> rfl
@[simp] theorem State.enqueue_ecc (s : State) (d p g t : Nat) (l : List Word36) : (s.enqueue d p g t l).1.ecc = s.ecc := by
  unfold State.enqueue; dsimp only; split <;> rfl
@[simp] theorem State.enqueue_mono (s : State) (d p g t : Nat) (l : List Word36) : (s.enqueue d p g t l).1.mono = s.mono := by
  unfold State.enqueue; dsimp only; split <;> rfl
@[simp] theorem State.enqueue_time (s : State) (d p g t : Nat) (l : List Word36) : (s.enqueue d p g t l).1.time = s.time := by
  unfold State.enqueue; dsimp only; split <;> rfl
@[simp] theorem State.enqueue_timeSet (s : State) (d p g t : Nat) (l : List Word36) : (s.enqueue d p g t l).1.timeSet = s.timeSet := by
  unfold State.enqueue; dsimp only; split <;> rfl
@[simp] theorem State.enqueue_free (s : State) (d p g t : Nat) (l : List Word36) : (s.enqueue d p g t l).1.free = s.free := by
  unfold State.enqueue; dsimp only; split <;> rfl
@[simp] theorem State.enqueue_lockOpen (s : State) (d p g t : Nat) (l : List Word36) : (s.enqueue d p g t l).1.lockOpen = s.lockOpen := by
  unfold State.enqueue; dsimp only; split <;> rfl
@[simp] theorem State.enqueue_commits (s : State) (d p g t : Nat) (l : List Word36) : (s.enqueue d p g t l).1.commits = s.commits := by
  unfold State.enqueue; dsimp only; split <;> rfl
@[simp] theorem State.enqueue_ispHeld (s : State) (d p g t : Nat) (l : List Word36) : (s.enqueue d p g t l).1.ispHeld = s.ispHeld := by
  unfold State.enqueue; dsimp only; split <;> rfl
@[simp] theorem State.enqueue_latched (s : State) (d p g t : Nat) (l : List Word36) : (s.enqueue d p g t l).1.latched = s.latched := by
  unfold State.enqueue; dsimp only; split <;> rfl
@[simp] theorem State.enqueue_pwr (s : State) (d p g t : Nat) (l : List Word36) : (s.enqueue d p g t l).1.pwr = s.pwr := by
  unfold State.enqueue; dsimp only; split <;> rfl
@[simp] theorem State.enqueue_host (s : State) (d p g t : Nat) (l : List Word36) : (s.enqueue d p g t l).1.host = s.host := by
  unfold State.enqueue; dsimp only; split <;> rfl
@[simp] theorem State.enqueue_deal (s : State) (d p g t : Nat) (l : List Word36) : (s.enqueue d p g t l).1.deal = s.deal := by
  unfold State.enqueue; dsimp only; split <;> rfl
@[simp] theorem State.enqueue_ldb (s : State) (d p g t : Nat) (l : List Word36) : (s.enqueue d p g t l).1.ldb = s.ldb := by
  unfold State.enqueue; dsimp only; split <;> rfl
@[simp] theorem State.enqueue_emit (s : State) (d p g t : Nat) (l : List Word36) : (s.enqueue d p g t l).1.emit = s.emit := by
  unfold State.enqueue; dsimp only; split <;> rfl
@[simp] theorem State.enqueue_steer (s : State) (d p g t : Nat) (l : List Word36) : (s.enqueue d p g t l).1.steer = s.steer := by
  unfold State.enqueue; dsimp only; split <;> rfl
@[simp] theorem State.enqueue_ret (s : State) (d p g t : Nat) (l : List Word36) : (s.enqueue d p g t l).1.ret = s.ret := by
  unfold State.enqueue; dsimp only; split <;> rfl
@[simp] theorem State.enqueue_hist (s : State) (d p g t : Nat) (l : List Word36) : (s.enqueue d p g t l).1.hist = s.hist := by
  unfold State.enqueue; dsimp only; split <;> rfl
@[simp] theorem State.enqueue_acq (s : State) (d p g t : Nat) (l : List Word36) : (s.enqueue d p g t l).1.acq = s.acq := by
  unfold State.enqueue; dsimp only; split <;> rfl
@[simp] theorem State.enqueue_cam (s : State) (d p g t : Nat) (l : List Word36) : (s.enqueue d p g t l).1.cam = s.cam := by
  unfold State.enqueue; dsimp only; split <;> rfl
@[simp] theorem State.enqueue_zone (s : State) (d p g t : Nat) (l : List Word36) : (s.enqueue d p g t l).1.zone = s.zone := by
  unfold State.enqueue; dsimp only; split <;> rfl
@[simp] theorem State.enqueue_cal (s : State) (d p g t : Nat) (l : List Word36) : (s.enqueue d p g t l).1.cal = s.cal := by
  unfold State.enqueue; dsimp only; split <;> rfl
@[simp] theorem State.enqueue_safe (s : State) (d p g t : Nat) (l : List Word36) : (s.enqueue d p g t l).1.safe = s.safe := by
  unfold State.enqueue; dsimp only; split <;> rfl
@[simp] theorem State.enqueue_field (s : State) (d p g t : Nat) (l : List Word36) : (s.enqueue d p g t l).1.field = s.field := by
  unfold State.enqueue; dsimp only; split <;> rfl
@[simp] theorem State.enqueue_supv (s : State) (d p g t : Nat) (l : List Word36) : (s.enqueue d p g t l).1.supv = s.supv := by
  unfold State.enqueue; dsimp only; split <;> rfl
@[simp] theorem State.enqueue_img (s : State) (d p g t : Nat) (l : List Word36) : (s.enqueue d p g t l).1.img = s.img := by
  unfold State.enqueue; dsimp only; split <;> rfl
@[simp] theorem State.enqueue_led (s : State) (d p g t : Nat) (l : List Word36) : (s.enqueue d p g t l).1.led = s.led := by
  unfold State.enqueue; dsimp only; split <;> rfl
@[simp] theorem State.enqueue_hk (s : State) (d p g t : Nat) (l : List Word36) : (s.enqueue d p g t l).1.hk = s.hk := by
  unfold State.enqueue; dsimp only; split <;> rfl
@[simp] theorem State.enqueue_scrub (s : State) (d p g t : Nat) (l : List Word36) : (s.enqueue d p g t l).1.scrub = s.scrub := by
  unfold State.enqueue; dsimp only; split <;> rfl

/-! ## intEventPacket -/

@[simp] theorem State.intEventPacket_pending (s : State) (p t : Nat) : (s.intEventPacket p t).pending = s.pending := by
  rw [State.intEventPacket, State.enqueue_pending]
@[simp] theorem State.intEventPacket_regs (s : State) (p t : Nat) : (s.intEventPacket p t).regs = s.regs := by
  rw [State.intEventPacket, State.enqueue_regs]
@[simp] theorem State.intEventPacket_shadow (s : State) (p t : Nat) : (s.intEventPacket p t).shadow = s.shadow := by
  rw [State.intEventPacket, State.enqueue_shadow]
@[simp] theorem State.intEventPacket_mem (s : State) (p t : Nat) : (s.intEventPacket p t).mem = s.mem := by
  rw [State.intEventPacket, State.enqueue_mem]
@[simp] theorem State.intEventPacket_lost (s : State) (p t : Nat) : (s.intEventPacket p t).lost = s.lost := by
  rw [State.intEventPacket, State.enqueue_lost]
@[simp] theorem State.intEventPacket_ecc (s : State) (p t : Nat) : (s.intEventPacket p t).ecc = s.ecc := by
  rw [State.intEventPacket, State.enqueue_ecc]
@[simp] theorem State.intEventPacket_mono (s : State) (p t : Nat) : (s.intEventPacket p t).mono = s.mono := by
  rw [State.intEventPacket, State.enqueue_mono]
@[simp] theorem State.intEventPacket_time (s : State) (p t : Nat) : (s.intEventPacket p t).time = s.time := by
  rw [State.intEventPacket, State.enqueue_time]
@[simp] theorem State.intEventPacket_timeSet (s : State) (p t : Nat) : (s.intEventPacket p t).timeSet = s.timeSet := by
  rw [State.intEventPacket, State.enqueue_timeSet]
@[simp] theorem State.intEventPacket_free (s : State) (p t : Nat) : (s.intEventPacket p t).free = s.free := by
  rw [State.intEventPacket, State.enqueue_free]
@[simp] theorem State.intEventPacket_lockOpen (s : State) (p t : Nat) : (s.intEventPacket p t).lockOpen = s.lockOpen := by
  rw [State.intEventPacket, State.enqueue_lockOpen]
@[simp] theorem State.intEventPacket_commits (s : State) (p t : Nat) : (s.intEventPacket p t).commits = s.commits := by
  rw [State.intEventPacket, State.enqueue_commits]
@[simp] theorem State.intEventPacket_ispHeld (s : State) (p t : Nat) : (s.intEventPacket p t).ispHeld = s.ispHeld := by
  rw [State.intEventPacket, State.enqueue_ispHeld]
@[simp] theorem State.intEventPacket_latched (s : State) (p t : Nat) : (s.intEventPacket p t).latched = s.latched := by
  rw [State.intEventPacket, State.enqueue_latched]
@[simp] theorem State.intEventPacket_pwr (s : State) (p t : Nat) : (s.intEventPacket p t).pwr = s.pwr := by
  rw [State.intEventPacket, State.enqueue_pwr]
@[simp] theorem State.intEventPacket_host (s : State) (p t : Nat) : (s.intEventPacket p t).host = s.host := by
  rw [State.intEventPacket, State.enqueue_host]
@[simp] theorem State.intEventPacket_deal (s : State) (p t : Nat) : (s.intEventPacket p t).deal = s.deal := by
  rw [State.intEventPacket, State.enqueue_deal]
@[simp] theorem State.intEventPacket_ldb (s : State) (p t : Nat) : (s.intEventPacket p t).ldb = s.ldb := by
  rw [State.intEventPacket, State.enqueue_ldb]
@[simp] theorem State.intEventPacket_emit (s : State) (p t : Nat) : (s.intEventPacket p t).emit = s.emit := by
  rw [State.intEventPacket, State.enqueue_emit]
@[simp] theorem State.intEventPacket_steer (s : State) (p t : Nat) : (s.intEventPacket p t).steer = s.steer := by
  rw [State.intEventPacket, State.enqueue_steer]
@[simp] theorem State.intEventPacket_ret (s : State) (p t : Nat) : (s.intEventPacket p t).ret = s.ret := by
  rw [State.intEventPacket, State.enqueue_ret]
@[simp] theorem State.intEventPacket_hist (s : State) (p t : Nat) : (s.intEventPacket p t).hist = s.hist := by
  rw [State.intEventPacket, State.enqueue_hist]
@[simp] theorem State.intEventPacket_acq (s : State) (p t : Nat) : (s.intEventPacket p t).acq = s.acq := by
  rw [State.intEventPacket, State.enqueue_acq]
@[simp] theorem State.intEventPacket_cam (s : State) (p t : Nat) : (s.intEventPacket p t).cam = s.cam := by
  rw [State.intEventPacket, State.enqueue_cam]
@[simp] theorem State.intEventPacket_zone (s : State) (p t : Nat) : (s.intEventPacket p t).zone = s.zone := by
  rw [State.intEventPacket, State.enqueue_zone]
@[simp] theorem State.intEventPacket_cal (s : State) (p t : Nat) : (s.intEventPacket p t).cal = s.cal := by
  rw [State.intEventPacket, State.enqueue_cal]
@[simp] theorem State.intEventPacket_safe (s : State) (p t : Nat) : (s.intEventPacket p t).safe = s.safe := by
  rw [State.intEventPacket, State.enqueue_safe]
@[simp] theorem State.intEventPacket_field (s : State) (p t : Nat) : (s.intEventPacket p t).field = s.field := by
  rw [State.intEventPacket, State.enqueue_field]
@[simp] theorem State.intEventPacket_supv (s : State) (p t : Nat) : (s.intEventPacket p t).supv = s.supv := by
  rw [State.intEventPacket, State.enqueue_supv]
@[simp] theorem State.intEventPacket_img (s : State) (p t : Nat) : (s.intEventPacket p t).img = s.img := by
  rw [State.intEventPacket, State.enqueue_img]
@[simp] theorem State.intEventPacket_led (s : State) (p t : Nat) : (s.intEventPacket p t).led = s.led := by
  rw [State.intEventPacket, State.enqueue_led]
@[simp] theorem State.intEventPacket_hk (s : State) (p t : Nat) : (s.intEventPacket p t).hk = s.hk := by
  rw [State.intEventPacket, State.enqueue_hk]
@[simp] theorem State.intEventPacket_scrub (s : State) (p t : Nat) : (s.intEventPacket p t).scrub = s.scrub := by
  rw [State.intEventPacket, State.enqueue_scrub]

/-! ## summaryRose -/

@[simp] theorem State.summaryRose_pending (s : State) (p : Nat) : (s.summaryRose p).pending = s.pending := by
  unfold State.summaryRose; split; rfl; split; split <;> rfl; exact State.intEventPacket_pending s p s.timeNs
@[simp] theorem State.summaryRose_regs (s : State) (p : Nat) : (s.summaryRose p).regs = s.regs := by
  unfold State.summaryRose; split; rfl; split; split <;> rfl; exact State.intEventPacket_regs s p s.timeNs
@[simp] theorem State.summaryRose_shadow (s : State) (p : Nat) : (s.summaryRose p).shadow = s.shadow := by
  unfold State.summaryRose; split; rfl; split; split <;> rfl; exact State.intEventPacket_shadow s p s.timeNs
@[simp] theorem State.summaryRose_mem (s : State) (p : Nat) : (s.summaryRose p).mem = s.mem := by
  unfold State.summaryRose; split; rfl; split; split <;> rfl; exact State.intEventPacket_mem s p s.timeNs
@[simp] theorem State.summaryRose_lost (s : State) (p : Nat) : (s.summaryRose p).lost = s.lost := by
  unfold State.summaryRose; split; rfl; split; split <;> rfl; exact State.intEventPacket_lost s p s.timeNs
@[simp] theorem State.summaryRose_ecc (s : State) (p : Nat) : (s.summaryRose p).ecc = s.ecc := by
  unfold State.summaryRose; split; rfl; split; split <;> rfl; exact State.intEventPacket_ecc s p s.timeNs
@[simp] theorem State.summaryRose_mono (s : State) (p : Nat) : (s.summaryRose p).mono = s.mono := by
  unfold State.summaryRose; split; rfl; split; split <;> rfl; exact State.intEventPacket_mono s p s.timeNs
@[simp] theorem State.summaryRose_time (s : State) (p : Nat) : (s.summaryRose p).time = s.time := by
  unfold State.summaryRose; split; rfl; split; split <;> rfl; exact State.intEventPacket_time s p s.timeNs
@[simp] theorem State.summaryRose_timeSet (s : State) (p : Nat) : (s.summaryRose p).timeSet = s.timeSet := by
  unfold State.summaryRose; split; rfl; split; split <;> rfl; exact State.intEventPacket_timeSet s p s.timeNs
@[simp] theorem State.summaryRose_free (s : State) (p : Nat) : (s.summaryRose p).free = s.free := by
  unfold State.summaryRose; split; rfl; split; split <;> rfl; exact State.intEventPacket_free s p s.timeNs
@[simp] theorem State.summaryRose_lockOpen (s : State) (p : Nat) : (s.summaryRose p).lockOpen = s.lockOpen := by
  unfold State.summaryRose; split; rfl; split; split <;> rfl; exact State.intEventPacket_lockOpen s p s.timeNs
@[simp] theorem State.summaryRose_commits (s : State) (p : Nat) : (s.summaryRose p).commits = s.commits := by
  unfold State.summaryRose; split; rfl; split; split <;> rfl; exact State.intEventPacket_commits s p s.timeNs
@[simp] theorem State.summaryRose_ispHeld (s : State) (p : Nat) : (s.summaryRose p).ispHeld = s.ispHeld := by
  unfold State.summaryRose; split; rfl; split; split <;> rfl; exact State.intEventPacket_ispHeld s p s.timeNs
@[simp] theorem State.summaryRose_latched (s : State) (p : Nat) : (s.summaryRose p).latched = s.latched := by
  unfold State.summaryRose; split; rfl; split; split <;> rfl; exact State.intEventPacket_latched s p s.timeNs
@[simp] theorem State.summaryRose_pwr (s : State) (p : Nat) : (s.summaryRose p).pwr = s.pwr := by
  unfold State.summaryRose; split; rfl; split; split <;> rfl; exact State.intEventPacket_pwr s p s.timeNs
@[simp] theorem State.summaryRose_deal (s : State) (p : Nat) : (s.summaryRose p).deal = s.deal := by
  unfold State.summaryRose; split; rfl; split; split <;> rfl; exact State.intEventPacket_deal s p s.timeNs
@[simp] theorem State.summaryRose_ldb (s : State) (p : Nat) : (s.summaryRose p).ldb = s.ldb := by
  unfold State.summaryRose; split; rfl; split; split <;> rfl; exact State.intEventPacket_ldb s p s.timeNs
@[simp] theorem State.summaryRose_emit (s : State) (p : Nat) : (s.summaryRose p).emit = s.emit := by
  unfold State.summaryRose; split; rfl; split; split <;> rfl; exact State.intEventPacket_emit s p s.timeNs
@[simp] theorem State.summaryRose_steer (s : State) (p : Nat) : (s.summaryRose p).steer = s.steer := by
  unfold State.summaryRose; split; rfl; split; split <;> rfl; exact State.intEventPacket_steer s p s.timeNs
@[simp] theorem State.summaryRose_ret (s : State) (p : Nat) : (s.summaryRose p).ret = s.ret := by
  unfold State.summaryRose; split; rfl; split; split <;> rfl; exact State.intEventPacket_ret s p s.timeNs
@[simp] theorem State.summaryRose_hist (s : State) (p : Nat) : (s.summaryRose p).hist = s.hist := by
  unfold State.summaryRose; split; rfl; split; split <;> rfl; exact State.intEventPacket_hist s p s.timeNs
@[simp] theorem State.summaryRose_acq (s : State) (p : Nat) : (s.summaryRose p).acq = s.acq := by
  unfold State.summaryRose; split; rfl; split; split <;> rfl; exact State.intEventPacket_acq s p s.timeNs
@[simp] theorem State.summaryRose_cam (s : State) (p : Nat) : (s.summaryRose p).cam = s.cam := by
  unfold State.summaryRose; split; rfl; split; split <;> rfl; exact State.intEventPacket_cam s p s.timeNs
@[simp] theorem State.summaryRose_zone (s : State) (p : Nat) : (s.summaryRose p).zone = s.zone := by
  unfold State.summaryRose; split; rfl; split; split <;> rfl; exact State.intEventPacket_zone s p s.timeNs
@[simp] theorem State.summaryRose_cal (s : State) (p : Nat) : (s.summaryRose p).cal = s.cal := by
  unfold State.summaryRose; split; rfl; split; split <;> rfl; exact State.intEventPacket_cal s p s.timeNs
@[simp] theorem State.summaryRose_safe (s : State) (p : Nat) : (s.summaryRose p).safe = s.safe := by
  unfold State.summaryRose; split; rfl; split; split <;> rfl; exact State.intEventPacket_safe s p s.timeNs
@[simp] theorem State.summaryRose_field (s : State) (p : Nat) : (s.summaryRose p).field = s.field := by
  unfold State.summaryRose; split; rfl; split; split <;> rfl; exact State.intEventPacket_field s p s.timeNs
@[simp] theorem State.summaryRose_supv (s : State) (p : Nat) : (s.summaryRose p).supv = s.supv := by
  unfold State.summaryRose; split; rfl; split; split <;> rfl; exact State.intEventPacket_supv s p s.timeNs
@[simp] theorem State.summaryRose_img (s : State) (p : Nat) : (s.summaryRose p).img = s.img := by
  unfold State.summaryRose; split; rfl; split; split <;> rfl; exact State.intEventPacket_img s p s.timeNs
@[simp] theorem State.summaryRose_led (s : State) (p : Nat) : (s.summaryRose p).led = s.led := by
  unfold State.summaryRose; split; rfl; split; split <;> rfl; exact State.intEventPacket_led s p s.timeNs
@[simp] theorem State.summaryRose_hk (s : State) (p : Nat) : (s.summaryRose p).hk = s.hk := by
  unfold State.summaryRose; split; rfl; split; split <;> rfl; exact State.intEventPacket_hk s p s.timeNs
@[simp] theorem State.summaryRose_scrub (s : State) (p : Nat) : (s.summaryRose p).scrub = s.scrub := by
  unfold State.summaryRose; split; rfl; split; split <;> rfl; exact State.intEventPacket_scrub s p s.timeNs

/-! ## setIntStat -/

@[simp] theorem State.setIntStat_pending (s : State) (p : Nat) (v : Word) : (s.setIntStat p v).pending = s.pending := by
  unfold State.setIntStat; dsimp only; split; exact State.summaryRose_pending ..; rfl
@[simp] theorem State.setIntStat_shadow (s : State) (p : Nat) (v : Word) : (s.setIntStat p v).shadow = s.shadow := by
  unfold State.setIntStat; dsimp only; split; exact State.summaryRose_shadow ..; rfl
@[simp] theorem State.setIntStat_mem (s : State) (p : Nat) (v : Word) : (s.setIntStat p v).mem = s.mem := by
  unfold State.setIntStat; dsimp only; split; exact State.summaryRose_mem ..; rfl
@[simp] theorem State.setIntStat_lost (s : State) (p : Nat) (v : Word) : (s.setIntStat p v).lost = s.lost := by
  unfold State.setIntStat; dsimp only; split; exact State.summaryRose_lost ..; rfl
@[simp] theorem State.setIntStat_ecc (s : State) (p : Nat) (v : Word) : (s.setIntStat p v).ecc = s.ecc := by
  unfold State.setIntStat; dsimp only; split; exact State.summaryRose_ecc ..; rfl
@[simp] theorem State.setIntStat_mono (s : State) (p : Nat) (v : Word) : (s.setIntStat p v).mono = s.mono := by
  unfold State.setIntStat; dsimp only; split; exact State.summaryRose_mono ..; rfl
@[simp] theorem State.setIntStat_time (s : State) (p : Nat) (v : Word) : (s.setIntStat p v).time = s.time := by
  unfold State.setIntStat; dsimp only; split; exact State.summaryRose_time ..; rfl
@[simp] theorem State.setIntStat_timeSet (s : State) (p : Nat) (v : Word) : (s.setIntStat p v).timeSet = s.timeSet := by
  unfold State.setIntStat; dsimp only; split; exact State.summaryRose_timeSet ..; rfl
@[simp] theorem State.setIntStat_free (s : State) (p : Nat) (v : Word) : (s.setIntStat p v).free = s.free := by
  unfold State.setIntStat; dsimp only; split; exact State.summaryRose_free ..; rfl
@[simp] theorem State.setIntStat_lockOpen (s : State) (p : Nat) (v : Word) : (s.setIntStat p v).lockOpen = s.lockOpen := by
  unfold State.setIntStat; dsimp only; split; exact State.summaryRose_lockOpen ..; rfl
@[simp] theorem State.setIntStat_commits (s : State) (p : Nat) (v : Word) : (s.setIntStat p v).commits = s.commits := by
  unfold State.setIntStat; dsimp only; split; exact State.summaryRose_commits ..; rfl
@[simp] theorem State.setIntStat_ispHeld (s : State) (p : Nat) (v : Word) : (s.setIntStat p v).ispHeld = s.ispHeld := by
  unfold State.setIntStat; dsimp only; split; exact State.summaryRose_ispHeld ..; rfl
@[simp] theorem State.setIntStat_latched (s : State) (p : Nat) (v : Word) : (s.setIntStat p v).latched = s.latched := by
  unfold State.setIntStat; dsimp only; split; exact State.summaryRose_latched ..; rfl
@[simp] theorem State.setIntStat_pwr (s : State) (p : Nat) (v : Word) : (s.setIntStat p v).pwr = s.pwr := by
  unfold State.setIntStat; dsimp only; split; exact State.summaryRose_pwr ..; rfl
@[simp] theorem State.setIntStat_deal (s : State) (p : Nat) (v : Word) : (s.setIntStat p v).deal = s.deal := by
  unfold State.setIntStat; dsimp only; split; exact State.summaryRose_deal ..; rfl
@[simp] theorem State.setIntStat_ldb (s : State) (p : Nat) (v : Word) : (s.setIntStat p v).ldb = s.ldb := by
  unfold State.setIntStat; dsimp only; split; exact State.summaryRose_ldb ..; rfl
@[simp] theorem State.setIntStat_emit (s : State) (p : Nat) (v : Word) : (s.setIntStat p v).emit = s.emit := by
  unfold State.setIntStat; dsimp only; split; exact State.summaryRose_emit ..; rfl
@[simp] theorem State.setIntStat_steer (s : State) (p : Nat) (v : Word) : (s.setIntStat p v).steer = s.steer := by
  unfold State.setIntStat; dsimp only; split; exact State.summaryRose_steer ..; rfl
@[simp] theorem State.setIntStat_ret (s : State) (p : Nat) (v : Word) : (s.setIntStat p v).ret = s.ret := by
  unfold State.setIntStat; dsimp only; split; exact State.summaryRose_ret ..; rfl
@[simp] theorem State.setIntStat_hist (s : State) (p : Nat) (v : Word) : (s.setIntStat p v).hist = s.hist := by
  unfold State.setIntStat; dsimp only; split; exact State.summaryRose_hist ..; rfl
@[simp] theorem State.setIntStat_acq (s : State) (p : Nat) (v : Word) : (s.setIntStat p v).acq = s.acq := by
  unfold State.setIntStat; dsimp only; split; exact State.summaryRose_acq ..; rfl
@[simp] theorem State.setIntStat_cam (s : State) (p : Nat) (v : Word) : (s.setIntStat p v).cam = s.cam := by
  unfold State.setIntStat; dsimp only; split; exact State.summaryRose_cam ..; rfl
@[simp] theorem State.setIntStat_zone (s : State) (p : Nat) (v : Word) : (s.setIntStat p v).zone = s.zone := by
  unfold State.setIntStat; dsimp only; split; exact State.summaryRose_zone ..; rfl
@[simp] theorem State.setIntStat_cal (s : State) (p : Nat) (v : Word) : (s.setIntStat p v).cal = s.cal := by
  unfold State.setIntStat; dsimp only; split; exact State.summaryRose_cal ..; rfl
@[simp] theorem State.setIntStat_safe (s : State) (p : Nat) (v : Word) : (s.setIntStat p v).safe = s.safe := by
  unfold State.setIntStat; dsimp only; split; exact State.summaryRose_safe ..; rfl
@[simp] theorem State.setIntStat_field (s : State) (p : Nat) (v : Word) : (s.setIntStat p v).field = s.field := by
  unfold State.setIntStat; dsimp only; split; exact State.summaryRose_field ..; rfl
@[simp] theorem State.setIntStat_supv (s : State) (p : Nat) (v : Word) : (s.setIntStat p v).supv = s.supv := by
  unfold State.setIntStat; dsimp only; split; exact State.summaryRose_supv ..; rfl
@[simp] theorem State.setIntStat_img (s : State) (p : Nat) (v : Word) : (s.setIntStat p v).img = s.img := by
  unfold State.setIntStat; dsimp only; split; exact State.summaryRose_img ..; rfl
@[simp] theorem State.setIntStat_led (s : State) (p : Nat) (v : Word) : (s.setIntStat p v).led = s.led := by
  unfold State.setIntStat; dsimp only; split; exact State.summaryRose_led ..; rfl
@[simp] theorem State.setIntStat_hk (s : State) (p : Nat) (v : Word) : (s.setIntStat p v).hk = s.hk := by
  unfold State.setIntStat; dsimp only; split; exact State.summaryRose_hk ..; rfl
@[simp] theorem State.setIntStat_scrub (s : State) (p : Nat) (v : Word) : (s.setIntStat p v).scrub = s.scrub := by
  unfold State.setIntStat; dsimp only; split; exact State.summaryRose_scrub ..; rfl

/-! ## event -/

@[simp] theorem State.event_pending (s : State) (p b : Nat) : (s.event p b).pending = s.pending := by
  rw [State.event, State.setIntStat_pending]
@[simp] theorem State.event_shadow (s : State) (p b : Nat) : (s.event p b).shadow = s.shadow := by
  rw [State.event, State.setIntStat_shadow]
@[simp] theorem State.event_mem (s : State) (p b : Nat) : (s.event p b).mem = s.mem := by
  rw [State.event, State.setIntStat_mem]
@[simp] theorem State.event_lost (s : State) (p b : Nat) : (s.event p b).lost = s.lost := by
  rw [State.event, State.setIntStat_lost]
@[simp] theorem State.event_ecc (s : State) (p b : Nat) : (s.event p b).ecc = s.ecc := by
  rw [State.event, State.setIntStat_ecc]
@[simp] theorem State.event_mono (s : State) (p b : Nat) : (s.event p b).mono = s.mono := by
  rw [State.event, State.setIntStat_mono]
@[simp] theorem State.event_time (s : State) (p b : Nat) : (s.event p b).time = s.time := by
  rw [State.event, State.setIntStat_time]
@[simp] theorem State.event_timeSet (s : State) (p b : Nat) : (s.event p b).timeSet = s.timeSet := by
  rw [State.event, State.setIntStat_timeSet]
@[simp] theorem State.event_free (s : State) (p b : Nat) : (s.event p b).free = s.free := by
  rw [State.event, State.setIntStat_free]
@[simp] theorem State.event_lockOpen (s : State) (p b : Nat) : (s.event p b).lockOpen = s.lockOpen := by
  rw [State.event, State.setIntStat_lockOpen]
@[simp] theorem State.event_commits (s : State) (p b : Nat) : (s.event p b).commits = s.commits := by
  rw [State.event, State.setIntStat_commits]
@[simp] theorem State.event_ispHeld (s : State) (p b : Nat) : (s.event p b).ispHeld = s.ispHeld := by
  rw [State.event, State.setIntStat_ispHeld]
@[simp] theorem State.event_latched (s : State) (p b : Nat) : (s.event p b).latched = s.latched := by
  rw [State.event, State.setIntStat_latched]
@[simp] theorem State.event_pwr (s : State) (p b : Nat) : (s.event p b).pwr = s.pwr := by
  rw [State.event, State.setIntStat_pwr]
@[simp] theorem State.event_deal (s : State) (p b : Nat) : (s.event p b).deal = s.deal := by
  rw [State.event, State.setIntStat_deal]
@[simp] theorem State.event_ldb (s : State) (p b : Nat) : (s.event p b).ldb = s.ldb := by
  rw [State.event, State.setIntStat_ldb]
@[simp] theorem State.event_emit (s : State) (p b : Nat) : (s.event p b).emit = s.emit := by
  rw [State.event, State.setIntStat_emit]
@[simp] theorem State.event_steer (s : State) (p b : Nat) : (s.event p b).steer = s.steer := by
  rw [State.event, State.setIntStat_steer]
@[simp] theorem State.event_ret (s : State) (p b : Nat) : (s.event p b).ret = s.ret := by
  rw [State.event, State.setIntStat_ret]
@[simp] theorem State.event_hist (s : State) (p b : Nat) : (s.event p b).hist = s.hist := by
  rw [State.event, State.setIntStat_hist]
@[simp] theorem State.event_acq (s : State) (p b : Nat) : (s.event p b).acq = s.acq := by
  rw [State.event, State.setIntStat_acq]
@[simp] theorem State.event_cam (s : State) (p b : Nat) : (s.event p b).cam = s.cam := by
  rw [State.event, State.setIntStat_cam]
@[simp] theorem State.event_zone (s : State) (p b : Nat) : (s.event p b).zone = s.zone := by
  rw [State.event, State.setIntStat_zone]
@[simp] theorem State.event_cal (s : State) (p b : Nat) : (s.event p b).cal = s.cal := by
  rw [State.event, State.setIntStat_cal]
@[simp] theorem State.event_safe (s : State) (p b : Nat) : (s.event p b).safe = s.safe := by
  rw [State.event, State.setIntStat_safe]
@[simp] theorem State.event_field (s : State) (p b : Nat) : (s.event p b).field = s.field := by
  rw [State.event, State.setIntStat_field]
@[simp] theorem State.event_supv (s : State) (p b : Nat) : (s.event p b).supv = s.supv := by
  rw [State.event, State.setIntStat_supv]
@[simp] theorem State.event_img (s : State) (p b : Nat) : (s.event p b).img = s.img := by
  rw [State.event, State.setIntStat_img]
@[simp] theorem State.event_led (s : State) (p b : Nat) : (s.event p b).led = s.led := by
  rw [State.event, State.setIntStat_led]
@[simp] theorem State.event_hk (s : State) (p b : Nat) : (s.event p b).hk = s.hk := by
  rw [State.event, State.setIntStat_hk]
@[simp] theorem State.event_scrub (s : State) (p b : Nat) : (s.event p b).scrub = s.scrub := by
  rw [State.event, State.setIntStat_scrub]

/-! ## eventIf -/

@[simp] theorem State.eventIf_pending (s : State) (c : Bool) (p b : Nat) : (s.eventIf c p b).pending = s.pending := by
  unfold State.eventIf; split; exact State.event_pending ..; rfl
@[simp] theorem State.eventIf_shadow (s : State) (c : Bool) (p b : Nat) : (s.eventIf c p b).shadow = s.shadow := by
  unfold State.eventIf; split; exact State.event_shadow ..; rfl
@[simp] theorem State.eventIf_mem (s : State) (c : Bool) (p b : Nat) : (s.eventIf c p b).mem = s.mem := by
  unfold State.eventIf; split; exact State.event_mem ..; rfl
@[simp] theorem State.eventIf_lost (s : State) (c : Bool) (p b : Nat) : (s.eventIf c p b).lost = s.lost := by
  unfold State.eventIf; split; exact State.event_lost ..; rfl
@[simp] theorem State.eventIf_ecc (s : State) (c : Bool) (p b : Nat) : (s.eventIf c p b).ecc = s.ecc := by
  unfold State.eventIf; split; exact State.event_ecc ..; rfl
@[simp] theorem State.eventIf_mono (s : State) (c : Bool) (p b : Nat) : (s.eventIf c p b).mono = s.mono := by
  unfold State.eventIf; split; exact State.event_mono ..; rfl
@[simp] theorem State.eventIf_time (s : State) (c : Bool) (p b : Nat) : (s.eventIf c p b).time = s.time := by
  unfold State.eventIf; split; exact State.event_time ..; rfl
@[simp] theorem State.eventIf_timeSet (s : State) (c : Bool) (p b : Nat) : (s.eventIf c p b).timeSet = s.timeSet := by
  unfold State.eventIf; split; exact State.event_timeSet ..; rfl
@[simp] theorem State.eventIf_free (s : State) (c : Bool) (p b : Nat) : (s.eventIf c p b).free = s.free := by
  unfold State.eventIf; split; exact State.event_free ..; rfl
@[simp] theorem State.eventIf_lockOpen (s : State) (c : Bool) (p b : Nat) : (s.eventIf c p b).lockOpen = s.lockOpen := by
  unfold State.eventIf; split; exact State.event_lockOpen ..; rfl
@[simp] theorem State.eventIf_commits (s : State) (c : Bool) (p b : Nat) : (s.eventIf c p b).commits = s.commits := by
  unfold State.eventIf; split; exact State.event_commits ..; rfl
@[simp] theorem State.eventIf_ispHeld (s : State) (c : Bool) (p b : Nat) : (s.eventIf c p b).ispHeld = s.ispHeld := by
  unfold State.eventIf; split; exact State.event_ispHeld ..; rfl
@[simp] theorem State.eventIf_latched (s : State) (c : Bool) (p b : Nat) : (s.eventIf c p b).latched = s.latched := by
  unfold State.eventIf; split; exact State.event_latched ..; rfl
@[simp] theorem State.eventIf_pwr (s : State) (c : Bool) (p b : Nat) : (s.eventIf c p b).pwr = s.pwr := by
  unfold State.eventIf; split; exact State.event_pwr ..; rfl
@[simp] theorem State.eventIf_deal (s : State) (c : Bool) (p b : Nat) : (s.eventIf c p b).deal = s.deal := by
  unfold State.eventIf; split; exact State.event_deal ..; rfl
@[simp] theorem State.eventIf_ldb (s : State) (c : Bool) (p b : Nat) : (s.eventIf c p b).ldb = s.ldb := by
  unfold State.eventIf; split; exact State.event_ldb ..; rfl
@[simp] theorem State.eventIf_emit (s : State) (c : Bool) (p b : Nat) : (s.eventIf c p b).emit = s.emit := by
  unfold State.eventIf; split; exact State.event_emit ..; rfl
@[simp] theorem State.eventIf_steer (s : State) (c : Bool) (p b : Nat) : (s.eventIf c p b).steer = s.steer := by
  unfold State.eventIf; split; exact State.event_steer ..; rfl
@[simp] theorem State.eventIf_ret (s : State) (c : Bool) (p b : Nat) : (s.eventIf c p b).ret = s.ret := by
  unfold State.eventIf; split; exact State.event_ret ..; rfl
@[simp] theorem State.eventIf_hist (s : State) (c : Bool) (p b : Nat) : (s.eventIf c p b).hist = s.hist := by
  unfold State.eventIf; split; exact State.event_hist ..; rfl
@[simp] theorem State.eventIf_acq (s : State) (c : Bool) (p b : Nat) : (s.eventIf c p b).acq = s.acq := by
  unfold State.eventIf; split; exact State.event_acq ..; rfl
@[simp] theorem State.eventIf_cam (s : State) (c : Bool) (p b : Nat) : (s.eventIf c p b).cam = s.cam := by
  unfold State.eventIf; split; exact State.event_cam ..; rfl
@[simp] theorem State.eventIf_zone (s : State) (c : Bool) (p b : Nat) : (s.eventIf c p b).zone = s.zone := by
  unfold State.eventIf; split; exact State.event_zone ..; rfl
@[simp] theorem State.eventIf_cal (s : State) (c : Bool) (p b : Nat) : (s.eventIf c p b).cal = s.cal := by
  unfold State.eventIf; split; exact State.event_cal ..; rfl
@[simp] theorem State.eventIf_safe (s : State) (c : Bool) (p b : Nat) : (s.eventIf c p b).safe = s.safe := by
  unfold State.eventIf; split; exact State.event_safe ..; rfl
@[simp] theorem State.eventIf_field (s : State) (c : Bool) (p b : Nat) : (s.eventIf c p b).field = s.field := by
  unfold State.eventIf; split; exact State.event_field ..; rfl
@[simp] theorem State.eventIf_supv (s : State) (c : Bool) (p b : Nat) : (s.eventIf c p b).supv = s.supv := by
  unfold State.eventIf; split; exact State.event_supv ..; rfl
@[simp] theorem State.eventIf_img (s : State) (c : Bool) (p b : Nat) : (s.eventIf c p b).img = s.img := by
  unfold State.eventIf; split; exact State.event_img ..; rfl
@[simp] theorem State.eventIf_led (s : State) (c : Bool) (p b : Nat) : (s.eventIf c p b).led = s.led := by
  unfold State.eventIf; split; exact State.event_led ..; rfl
@[simp] theorem State.eventIf_hk (s : State) (c : Bool) (p b : Nat) : (s.eventIf c p b).hk = s.hk := by
  unfold State.eventIf; split; exact State.event_hk ..; rfl
@[simp] theorem State.eventIf_scrub (s : State) (c : Bool) (p b : Nat) : (s.eventIf c p b).scrub = s.scrub := by
  unfold State.eventIf; split; exact State.event_scrub ..; rfl

/-! ## errAt -/

@[simp] theorem State.errAt_pending (s : State) (p c r q o : Nat) : (s.errAt p c r q o).pending = s.pending := by
  unfold State.errAt; dsimp only; simp only [State.event_pending, State.addF_pending]; split; rfl; exact State.setReg_pending ..
@[simp] theorem State.errAt_shadow (s : State) (p c r q o : Nat) : (s.errAt p c r q o).shadow = s.shadow := by
  unfold State.errAt; dsimp only; simp only [State.event_shadow, State.addF_shadow]; split; rfl; exact State.setReg_shadow ..
@[simp] theorem State.errAt_mem (s : State) (p c r q o : Nat) : (s.errAt p c r q o).mem = s.mem := by
  unfold State.errAt; dsimp only; simp only [State.event_mem, State.addF_mem]; split; rfl; exact State.setReg_mem ..
@[simp] theorem State.errAt_lost (s : State) (p c r q o : Nat) : (s.errAt p c r q o).lost = s.lost := by
  unfold State.errAt; dsimp only; simp only [State.event_lost, State.addF_lost]; split; rfl; exact State.setReg_lost ..
@[simp] theorem State.errAt_ecc (s : State) (p c r q o : Nat) : (s.errAt p c r q o).ecc = s.ecc := by
  unfold State.errAt; dsimp only; simp only [State.event_ecc, State.addF_ecc]; split; rfl; exact State.setReg_ecc ..
@[simp] theorem State.errAt_mono (s : State) (p c r q o : Nat) : (s.errAt p c r q o).mono = s.mono := by
  unfold State.errAt; dsimp only; simp only [State.event_mono, State.addF_mono]; split; rfl; exact State.setReg_mono ..
@[simp] theorem State.errAt_time (s : State) (p c r q o : Nat) : (s.errAt p c r q o).time = s.time := by
  unfold State.errAt; dsimp only; simp only [State.event_time, State.addF_time]; split; rfl; exact State.setReg_time ..
@[simp] theorem State.errAt_timeSet (s : State) (p c r q o : Nat) : (s.errAt p c r q o).timeSet = s.timeSet := by
  unfold State.errAt; dsimp only; simp only [State.event_timeSet, State.addF_timeSet]; split; rfl; exact State.setReg_timeSet ..
@[simp] theorem State.errAt_free (s : State) (p c r q o : Nat) : (s.errAt p c r q o).free = s.free := by
  unfold State.errAt; dsimp only; simp only [State.event_free, State.addF_free]; split; rfl; exact State.setReg_free ..
@[simp] theorem State.errAt_lockOpen (s : State) (p c r q o : Nat) : (s.errAt p c r q o).lockOpen = s.lockOpen := by
  unfold State.errAt; dsimp only; simp only [State.event_lockOpen, State.addF_lockOpen]; split; rfl; exact State.setReg_lockOpen ..
@[simp] theorem State.errAt_commits (s : State) (p c r q o : Nat) : (s.errAt p c r q o).commits = s.commits := by
  unfold State.errAt; dsimp only; simp only [State.event_commits, State.addF_commits]; split; rfl; exact State.setReg_commits ..
@[simp] theorem State.errAt_ispHeld (s : State) (p c r q o : Nat) : (s.errAt p c r q o).ispHeld = s.ispHeld := by
  unfold State.errAt; dsimp only; simp only [State.event_ispHeld, State.addF_ispHeld]; split; rfl; exact State.setReg_ispHeld ..
@[simp] theorem State.errAt_latched (s : State) (p c r q o : Nat) : (s.errAt p c r q o).latched = s.latched := by
  unfold State.errAt; dsimp only; simp only [State.event_latched, State.addF_latched]; split; rfl; exact State.setReg_latched ..
@[simp] theorem State.errAt_pwr (s : State) (p c r q o : Nat) : (s.errAt p c r q o).pwr = s.pwr := by
  unfold State.errAt; dsimp only; simp only [State.event_pwr, State.addF_pwr]; split; rfl; exact State.setReg_pwr ..
@[simp] theorem State.errAt_deal (s : State) (p c r q o : Nat) : (s.errAt p c r q o).deal = s.deal := by
  unfold State.errAt; dsimp only; simp only [State.event_deal, State.addF_deal]; split; rfl; exact State.setReg_deal ..
@[simp] theorem State.errAt_ldb (s : State) (p c r q o : Nat) : (s.errAt p c r q o).ldb = s.ldb := by
  unfold State.errAt; dsimp only; simp only [State.event_ldb, State.addF_ldb]; split; rfl; exact State.setReg_ldb ..
@[simp] theorem State.errAt_emit (s : State) (p c r q o : Nat) : (s.errAt p c r q o).emit = s.emit := by
  unfold State.errAt; dsimp only; simp only [State.event_emit, State.addF_emit]; split; rfl; exact State.setReg_emit ..
@[simp] theorem State.errAt_steer (s : State) (p c r q o : Nat) : (s.errAt p c r q o).steer = s.steer := by
  unfold State.errAt; dsimp only; simp only [State.event_steer, State.addF_steer]; split; rfl; exact State.setReg_steer ..
@[simp] theorem State.errAt_ret (s : State) (p c r q o : Nat) : (s.errAt p c r q o).ret = s.ret := by
  unfold State.errAt; dsimp only; simp only [State.event_ret, State.addF_ret]; split; rfl; exact State.setReg_ret ..
@[simp] theorem State.errAt_hist (s : State) (p c r q o : Nat) : (s.errAt p c r q o).hist = s.hist := by
  unfold State.errAt; dsimp only; simp only [State.event_hist, State.addF_hist]; split; rfl; exact State.setReg_hist ..
@[simp] theorem State.errAt_acq (s : State) (p c r q o : Nat) : (s.errAt p c r q o).acq = s.acq := by
  unfold State.errAt; dsimp only; simp only [State.event_acq, State.addF_acq]; split; rfl; exact State.setReg_acq ..
@[simp] theorem State.errAt_cam (s : State) (p c r q o : Nat) : (s.errAt p c r q o).cam = s.cam := by
  unfold State.errAt; dsimp only; simp only [State.event_cam, State.addF_cam]; split; rfl; exact State.setReg_cam ..
@[simp] theorem State.errAt_zone (s : State) (p c r q o : Nat) : (s.errAt p c r q o).zone = s.zone := by
  unfold State.errAt; dsimp only; simp only [State.event_zone, State.addF_zone]; split; rfl; exact State.setReg_zone ..
@[simp] theorem State.errAt_cal (s : State) (p c r q o : Nat) : (s.errAt p c r q o).cal = s.cal := by
  unfold State.errAt; dsimp only; simp only [State.event_cal, State.addF_cal]; split; rfl; exact State.setReg_cal ..
@[simp] theorem State.errAt_safe (s : State) (p c r q o : Nat) : (s.errAt p c r q o).safe = s.safe := by
  unfold State.errAt; dsimp only; simp only [State.event_safe, State.addF_safe]; split; rfl; exact State.setReg_safe ..
@[simp] theorem State.errAt_field (s : State) (p c r q o : Nat) : (s.errAt p c r q o).field = s.field := by
  unfold State.errAt; dsimp only; simp only [State.event_field, State.addF_field]; split; rfl; exact State.setReg_field ..
@[simp] theorem State.errAt_supv (s : State) (p c r q o : Nat) : (s.errAt p c r q o).supv = s.supv := by
  unfold State.errAt; dsimp only; simp only [State.event_supv, State.addF_supv]; split; rfl; exact State.setReg_supv ..
@[simp] theorem State.errAt_img (s : State) (p c r q o : Nat) : (s.errAt p c r q o).img = s.img := by
  unfold State.errAt; dsimp only; simp only [State.event_img, State.addF_img]; split; rfl; exact State.setReg_img ..
@[simp] theorem State.errAt_led (s : State) (p c r q o : Nat) : (s.errAt p c r q o).led = s.led := by
  unfold State.errAt; dsimp only; simp only [State.event_led, State.addF_led]; split; rfl; exact State.setReg_led ..
@[simp] theorem State.errAt_hk (s : State) (p c r q o : Nat) : (s.errAt p c r q o).hk = s.hk := by
  unfold State.errAt; dsimp only; simp only [State.event_hk, State.addF_hk]; split; rfl; exact State.setReg_hk ..
@[simp] theorem State.errAt_scrub (s : State) (p c r q o : Nat) : (s.errAt p c r q o).scrub = s.scrub := by
  unfold State.errAt; dsimp only; simp only [State.event_scrub, State.addF_scrub]; split; rfl; exact State.setReg_scrub ..

/-! ## err -/

@[simp] theorem State.err_pending (s : State) (c r a : Nat) : (s.err c r a).pending = s.pending := by
  rw [State.err, State.errAt_pending]
@[simp] theorem State.err_shadow (s : State) (c r a : Nat) : (s.err c r a).shadow = s.shadow := by
  rw [State.err, State.errAt_shadow]
@[simp] theorem State.err_mem (s : State) (c r a : Nat) : (s.err c r a).mem = s.mem := by
  rw [State.err, State.errAt_mem]
@[simp] theorem State.err_lost (s : State) (c r a : Nat) : (s.err c r a).lost = s.lost := by
  rw [State.err, State.errAt_lost]
@[simp] theorem State.err_ecc (s : State) (c r a : Nat) : (s.err c r a).ecc = s.ecc := by
  rw [State.err, State.errAt_ecc]
@[simp] theorem State.err_mono (s : State) (c r a : Nat) : (s.err c r a).mono = s.mono := by
  rw [State.err, State.errAt_mono]
@[simp] theorem State.err_time (s : State) (c r a : Nat) : (s.err c r a).time = s.time := by
  rw [State.err, State.errAt_time]
@[simp] theorem State.err_timeSet (s : State) (c r a : Nat) : (s.err c r a).timeSet = s.timeSet := by
  rw [State.err, State.errAt_timeSet]
@[simp] theorem State.err_free (s : State) (c r a : Nat) : (s.err c r a).free = s.free := by
  rw [State.err, State.errAt_free]
@[simp] theorem State.err_lockOpen (s : State) (c r a : Nat) : (s.err c r a).lockOpen = s.lockOpen := by
  rw [State.err, State.errAt_lockOpen]
@[simp] theorem State.err_commits (s : State) (c r a : Nat) : (s.err c r a).commits = s.commits := by
  rw [State.err, State.errAt_commits]
@[simp] theorem State.err_ispHeld (s : State) (c r a : Nat) : (s.err c r a).ispHeld = s.ispHeld := by
  rw [State.err, State.errAt_ispHeld]
@[simp] theorem State.err_latched (s : State) (c r a : Nat) : (s.err c r a).latched = s.latched := by
  rw [State.err, State.errAt_latched]
@[simp] theorem State.err_pwr (s : State) (c r a : Nat) : (s.err c r a).pwr = s.pwr := by
  rw [State.err, State.errAt_pwr]
@[simp] theorem State.err_deal (s : State) (c r a : Nat) : (s.err c r a).deal = s.deal := by
  rw [State.err, State.errAt_deal]
@[simp] theorem State.err_ldb (s : State) (c r a : Nat) : (s.err c r a).ldb = s.ldb := by
  rw [State.err, State.errAt_ldb]
@[simp] theorem State.err_emit (s : State) (c r a : Nat) : (s.err c r a).emit = s.emit := by
  rw [State.err, State.errAt_emit]
@[simp] theorem State.err_steer (s : State) (c r a : Nat) : (s.err c r a).steer = s.steer := by
  rw [State.err, State.errAt_steer]
@[simp] theorem State.err_ret (s : State) (c r a : Nat) : (s.err c r a).ret = s.ret := by
  rw [State.err, State.errAt_ret]
@[simp] theorem State.err_hist (s : State) (c r a : Nat) : (s.err c r a).hist = s.hist := by
  rw [State.err, State.errAt_hist]
@[simp] theorem State.err_acq (s : State) (c r a : Nat) : (s.err c r a).acq = s.acq := by
  rw [State.err, State.errAt_acq]
@[simp] theorem State.err_cam (s : State) (c r a : Nat) : (s.err c r a).cam = s.cam := by
  rw [State.err, State.errAt_cam]
@[simp] theorem State.err_zone (s : State) (c r a : Nat) : (s.err c r a).zone = s.zone := by
  rw [State.err, State.errAt_zone]
@[simp] theorem State.err_cal (s : State) (c r a : Nat) : (s.err c r a).cal = s.cal := by
  rw [State.err, State.errAt_cal]
@[simp] theorem State.err_safe (s : State) (c r a : Nat) : (s.err c r a).safe = s.safe := by
  rw [State.err, State.errAt_safe]
@[simp] theorem State.err_field (s : State) (c r a : Nat) : (s.err c r a).field = s.field := by
  rw [State.err, State.errAt_field]
@[simp] theorem State.err_supv (s : State) (c r a : Nat) : (s.err c r a).supv = s.supv := by
  rw [State.err, State.errAt_supv]
@[simp] theorem State.err_img (s : State) (c r a : Nat) : (s.err c r a).img = s.img := by
  rw [State.err, State.errAt_img]
@[simp] theorem State.err_led (s : State) (c r a : Nat) : (s.err c r a).led = s.led := by
  rw [State.err, State.errAt_led]
@[simp] theorem State.err_hk (s : State) (c r a : Nat) : (s.err c r a).hk = s.hk := by
  rw [State.err, State.errAt_hk]
@[simp] theorem State.err_scrub (s : State) (c r a : Nat) : (s.err c r a).scrub = s.scrub := by
  rw [State.err, State.errAt_scrub]

/-! ## sendPacket -/

@[simp] theorem State.sendPacket_pending (s : State) (d p g t : Nat) (l : List Word36) : (s.sendPacket d p g t l).pending = s.pending := by
  have e := State.enqueue_pending s d p g t l
  unfold State.sendPacket
  cases h : s.enqueue d p g t l with
  | mk s1 ok =>
    rw [h] at e
    cases ok
    · simp only [Bool.false_eq_true, if_false]
      split
      · rw [State.event_pending, State.incF_pending]; exact e
      · rw [State.event_pending, State.incF_pending]; exact e
    · exact e
@[simp] theorem State.sendPacket_shadow (s : State) (d p g t : Nat) (l : List Word36) : (s.sendPacket d p g t l).shadow = s.shadow := by
  have e := State.enqueue_shadow s d p g t l
  unfold State.sendPacket
  cases h : s.enqueue d p g t l with
  | mk s1 ok =>
    rw [h] at e
    cases ok
    · simp only [Bool.false_eq_true, if_false]
      split
      · rw [State.event_shadow, State.incF_shadow]; exact e
      · rw [State.event_shadow, State.incF_shadow]; exact e
    · exact e
@[simp] theorem State.sendPacket_mem (s : State) (d p g t : Nat) (l : List Word36) : (s.sendPacket d p g t l).mem = s.mem := by
  have e := State.enqueue_mem s d p g t l
  unfold State.sendPacket
  cases h : s.enqueue d p g t l with
  | mk s1 ok =>
    rw [h] at e
    cases ok
    · simp only [Bool.false_eq_true, if_false]
      split
      · rw [State.event_mem, State.incF_mem]; exact e
      · rw [State.event_mem, State.incF_mem]; exact e
    · exact e
@[simp] theorem State.sendPacket_lost (s : State) (d p g t : Nat) (l : List Word36) : (s.sendPacket d p g t l).lost = s.lost := by
  have e := State.enqueue_lost s d p g t l
  unfold State.sendPacket
  cases h : s.enqueue d p g t l with
  | mk s1 ok =>
    rw [h] at e
    cases ok
    · simp only [Bool.false_eq_true, if_false]
      split
      · rw [State.event_lost, State.incF_lost]; exact e
      · rw [State.event_lost, State.incF_lost]; exact e
    · exact e
@[simp] theorem State.sendPacket_ecc (s : State) (d p g t : Nat) (l : List Word36) : (s.sendPacket d p g t l).ecc = s.ecc := by
  have e := State.enqueue_ecc s d p g t l
  unfold State.sendPacket
  cases h : s.enqueue d p g t l with
  | mk s1 ok =>
    rw [h] at e
    cases ok
    · simp only [Bool.false_eq_true, if_false]
      split
      · rw [State.event_ecc, State.incF_ecc]; exact e
      · rw [State.event_ecc, State.incF_ecc]; exact e
    · exact e
@[simp] theorem State.sendPacket_mono (s : State) (d p g t : Nat) (l : List Word36) : (s.sendPacket d p g t l).mono = s.mono := by
  have e := State.enqueue_mono s d p g t l
  unfold State.sendPacket
  cases h : s.enqueue d p g t l with
  | mk s1 ok =>
    rw [h] at e
    cases ok
    · simp only [Bool.false_eq_true, if_false]
      split
      · rw [State.event_mono, State.incF_mono]; exact e
      · rw [State.event_mono, State.incF_mono]; exact e
    · exact e
@[simp] theorem State.sendPacket_time (s : State) (d p g t : Nat) (l : List Word36) : (s.sendPacket d p g t l).time = s.time := by
  have e := State.enqueue_time s d p g t l
  unfold State.sendPacket
  cases h : s.enqueue d p g t l with
  | mk s1 ok =>
    rw [h] at e
    cases ok
    · simp only [Bool.false_eq_true, if_false]
      split
      · rw [State.event_time, State.incF_time]; exact e
      · rw [State.event_time, State.incF_time]; exact e
    · exact e
@[simp] theorem State.sendPacket_timeSet (s : State) (d p g t : Nat) (l : List Word36) : (s.sendPacket d p g t l).timeSet = s.timeSet := by
  have e := State.enqueue_timeSet s d p g t l
  unfold State.sendPacket
  cases h : s.enqueue d p g t l with
  | mk s1 ok =>
    rw [h] at e
    cases ok
    · simp only [Bool.false_eq_true, if_false]
      split
      · rw [State.event_timeSet, State.incF_timeSet]; exact e
      · rw [State.event_timeSet, State.incF_timeSet]; exact e
    · exact e
@[simp] theorem State.sendPacket_free (s : State) (d p g t : Nat) (l : List Word36) : (s.sendPacket d p g t l).free = s.free := by
  have e := State.enqueue_free s d p g t l
  unfold State.sendPacket
  cases h : s.enqueue d p g t l with
  | mk s1 ok =>
    rw [h] at e
    cases ok
    · simp only [Bool.false_eq_true, if_false]
      split
      · rw [State.event_free, State.incF_free]; exact e
      · rw [State.event_free, State.incF_free]; exact e
    · exact e
@[simp] theorem State.sendPacket_lockOpen (s : State) (d p g t : Nat) (l : List Word36) : (s.sendPacket d p g t l).lockOpen = s.lockOpen := by
  have e := State.enqueue_lockOpen s d p g t l
  unfold State.sendPacket
  cases h : s.enqueue d p g t l with
  | mk s1 ok =>
    rw [h] at e
    cases ok
    · simp only [Bool.false_eq_true, if_false]
      split
      · rw [State.event_lockOpen, State.incF_lockOpen]; exact e
      · rw [State.event_lockOpen, State.incF_lockOpen]; exact e
    · exact e
@[simp] theorem State.sendPacket_commits (s : State) (d p g t : Nat) (l : List Word36) : (s.sendPacket d p g t l).commits = s.commits := by
  have e := State.enqueue_commits s d p g t l
  unfold State.sendPacket
  cases h : s.enqueue d p g t l with
  | mk s1 ok =>
    rw [h] at e
    cases ok
    · simp only [Bool.false_eq_true, if_false]
      split
      · rw [State.event_commits, State.incF_commits]; exact e
      · rw [State.event_commits, State.incF_commits]; exact e
    · exact e
@[simp] theorem State.sendPacket_ispHeld (s : State) (d p g t : Nat) (l : List Word36) : (s.sendPacket d p g t l).ispHeld = s.ispHeld := by
  have e := State.enqueue_ispHeld s d p g t l
  unfold State.sendPacket
  cases h : s.enqueue d p g t l with
  | mk s1 ok =>
    rw [h] at e
    cases ok
    · simp only [Bool.false_eq_true, if_false]
      split
      · rw [State.event_ispHeld, State.incF_ispHeld]; exact e
      · rw [State.event_ispHeld, State.incF_ispHeld]; exact e
    · exact e
@[simp] theorem State.sendPacket_latched (s : State) (d p g t : Nat) (l : List Word36) : (s.sendPacket d p g t l).latched = s.latched := by
  have e := State.enqueue_latched s d p g t l
  unfold State.sendPacket
  cases h : s.enqueue d p g t l with
  | mk s1 ok =>
    rw [h] at e
    cases ok
    · simp only [Bool.false_eq_true, if_false]
      split
      · rw [State.event_latched, State.incF_latched]; exact e
      · rw [State.event_latched, State.incF_latched]; exact e
    · exact e
@[simp] theorem State.sendPacket_pwr (s : State) (d p g t : Nat) (l : List Word36) : (s.sendPacket d p g t l).pwr = s.pwr := by
  have e := State.enqueue_pwr s d p g t l
  unfold State.sendPacket
  cases h : s.enqueue d p g t l with
  | mk s1 ok =>
    rw [h] at e
    cases ok
    · simp only [Bool.false_eq_true, if_false]
      split
      · rw [State.event_pwr, State.incF_pwr]; exact e
      · rw [State.event_pwr, State.incF_pwr]; exact e
    · exact e
@[simp] theorem State.sendPacket_deal (s : State) (d p g t : Nat) (l : List Word36) : (s.sendPacket d p g t l).deal = s.deal := by
  have e := State.enqueue_deal s d p g t l
  unfold State.sendPacket
  cases h : s.enqueue d p g t l with
  | mk s1 ok =>
    rw [h] at e
    cases ok
    · simp only [Bool.false_eq_true, if_false]
      split
      · rw [State.event_deal, State.incF_deal]; exact e
      · rw [State.event_deal, State.incF_deal]; exact e
    · exact e
@[simp] theorem State.sendPacket_ldb (s : State) (d p g t : Nat) (l : List Word36) : (s.sendPacket d p g t l).ldb = s.ldb := by
  have e := State.enqueue_ldb s d p g t l
  unfold State.sendPacket
  cases h : s.enqueue d p g t l with
  | mk s1 ok =>
    rw [h] at e
    cases ok
    · simp only [Bool.false_eq_true, if_false]
      split
      · rw [State.event_ldb, State.incF_ldb]; exact e
      · rw [State.event_ldb, State.incF_ldb]; exact e
    · exact e
@[simp] theorem State.sendPacket_emit (s : State) (d p g t : Nat) (l : List Word36) : (s.sendPacket d p g t l).emit = s.emit := by
  have e := State.enqueue_emit s d p g t l
  unfold State.sendPacket
  cases h : s.enqueue d p g t l with
  | mk s1 ok =>
    rw [h] at e
    cases ok
    · simp only [Bool.false_eq_true, if_false]
      split
      · rw [State.event_emit, State.incF_emit]; exact e
      · rw [State.event_emit, State.incF_emit]; exact e
    · exact e
@[simp] theorem State.sendPacket_steer (s : State) (d p g t : Nat) (l : List Word36) : (s.sendPacket d p g t l).steer = s.steer := by
  have e := State.enqueue_steer s d p g t l
  unfold State.sendPacket
  cases h : s.enqueue d p g t l with
  | mk s1 ok =>
    rw [h] at e
    cases ok
    · simp only [Bool.false_eq_true, if_false]
      split
      · rw [State.event_steer, State.incF_steer]; exact e
      · rw [State.event_steer, State.incF_steer]; exact e
    · exact e
@[simp] theorem State.sendPacket_ret (s : State) (d p g t : Nat) (l : List Word36) : (s.sendPacket d p g t l).ret = s.ret := by
  have e := State.enqueue_ret s d p g t l
  unfold State.sendPacket
  cases h : s.enqueue d p g t l with
  | mk s1 ok =>
    rw [h] at e
    cases ok
    · simp only [Bool.false_eq_true, if_false]
      split
      · rw [State.event_ret, State.incF_ret]; exact e
      · rw [State.event_ret, State.incF_ret]; exact e
    · exact e
@[simp] theorem State.sendPacket_hist (s : State) (d p g t : Nat) (l : List Word36) : (s.sendPacket d p g t l).hist = s.hist := by
  have e := State.enqueue_hist s d p g t l
  unfold State.sendPacket
  cases h : s.enqueue d p g t l with
  | mk s1 ok =>
    rw [h] at e
    cases ok
    · simp only [Bool.false_eq_true, if_false]
      split
      · rw [State.event_hist, State.incF_hist]; exact e
      · rw [State.event_hist, State.incF_hist]; exact e
    · exact e
@[simp] theorem State.sendPacket_acq (s : State) (d p g t : Nat) (l : List Word36) : (s.sendPacket d p g t l).acq = s.acq := by
  have e := State.enqueue_acq s d p g t l
  unfold State.sendPacket
  cases h : s.enqueue d p g t l with
  | mk s1 ok =>
    rw [h] at e
    cases ok
    · simp only [Bool.false_eq_true, if_false]
      split
      · rw [State.event_acq, State.incF_acq]; exact e
      · rw [State.event_acq, State.incF_acq]; exact e
    · exact e
@[simp] theorem State.sendPacket_cam (s : State) (d p g t : Nat) (l : List Word36) : (s.sendPacket d p g t l).cam = s.cam := by
  have e := State.enqueue_cam s d p g t l
  unfold State.sendPacket
  cases h : s.enqueue d p g t l with
  | mk s1 ok =>
    rw [h] at e
    cases ok
    · simp only [Bool.false_eq_true, if_false]
      split
      · rw [State.event_cam, State.incF_cam]; exact e
      · rw [State.event_cam, State.incF_cam]; exact e
    · exact e
@[simp] theorem State.sendPacket_zone (s : State) (d p g t : Nat) (l : List Word36) : (s.sendPacket d p g t l).zone = s.zone := by
  have e := State.enqueue_zone s d p g t l
  unfold State.sendPacket
  cases h : s.enqueue d p g t l with
  | mk s1 ok =>
    rw [h] at e
    cases ok
    · simp only [Bool.false_eq_true, if_false]
      split
      · rw [State.event_zone, State.incF_zone]; exact e
      · rw [State.event_zone, State.incF_zone]; exact e
    · exact e
@[simp] theorem State.sendPacket_cal (s : State) (d p g t : Nat) (l : List Word36) : (s.sendPacket d p g t l).cal = s.cal := by
  have e := State.enqueue_cal s d p g t l
  unfold State.sendPacket
  cases h : s.enqueue d p g t l with
  | mk s1 ok =>
    rw [h] at e
    cases ok
    · simp only [Bool.false_eq_true, if_false]
      split
      · rw [State.event_cal, State.incF_cal]; exact e
      · rw [State.event_cal, State.incF_cal]; exact e
    · exact e
@[simp] theorem State.sendPacket_safe (s : State) (d p g t : Nat) (l : List Word36) : (s.sendPacket d p g t l).safe = s.safe := by
  have e := State.enqueue_safe s d p g t l
  unfold State.sendPacket
  cases h : s.enqueue d p g t l with
  | mk s1 ok =>
    rw [h] at e
    cases ok
    · simp only [Bool.false_eq_true, if_false]
      split
      · rw [State.event_safe, State.incF_safe]; exact e
      · rw [State.event_safe, State.incF_safe]; exact e
    · exact e
@[simp] theorem State.sendPacket_field (s : State) (d p g t : Nat) (l : List Word36) : (s.sendPacket d p g t l).field = s.field := by
  have e := State.enqueue_field s d p g t l
  unfold State.sendPacket
  cases h : s.enqueue d p g t l with
  | mk s1 ok =>
    rw [h] at e
    cases ok
    · simp only [Bool.false_eq_true, if_false]
      split
      · rw [State.event_field, State.incF_field]; exact e
      · rw [State.event_field, State.incF_field]; exact e
    · exact e
@[simp] theorem State.sendPacket_supv (s : State) (d p g t : Nat) (l : List Word36) : (s.sendPacket d p g t l).supv = s.supv := by
  have e := State.enqueue_supv s d p g t l
  unfold State.sendPacket
  cases h : s.enqueue d p g t l with
  | mk s1 ok =>
    rw [h] at e
    cases ok
    · simp only [Bool.false_eq_true, if_false]
      split
      · rw [State.event_supv, State.incF_supv]; exact e
      · rw [State.event_supv, State.incF_supv]; exact e
    · exact e
@[simp] theorem State.sendPacket_img (s : State) (d p g t : Nat) (l : List Word36) : (s.sendPacket d p g t l).img = s.img := by
  have e := State.enqueue_img s d p g t l
  unfold State.sendPacket
  cases h : s.enqueue d p g t l with
  | mk s1 ok =>
    rw [h] at e
    cases ok
    · simp only [Bool.false_eq_true, if_false]
      split
      · rw [State.event_img, State.incF_img]; exact e
      · rw [State.event_img, State.incF_img]; exact e
    · exact e
@[simp] theorem State.sendPacket_led (s : State) (d p g t : Nat) (l : List Word36) : (s.sendPacket d p g t l).led = s.led := by
  have e := State.enqueue_led s d p g t l
  unfold State.sendPacket
  cases h : s.enqueue d p g t l with
  | mk s1 ok =>
    rw [h] at e
    cases ok
    · simp only [Bool.false_eq_true, if_false]
      split
      · rw [State.event_led, State.incF_led]; exact e
      · rw [State.event_led, State.incF_led]; exact e
    · exact e
@[simp] theorem State.sendPacket_hk (s : State) (d p g t : Nat) (l : List Word36) : (s.sendPacket d p g t l).hk = s.hk := by
  have e := State.enqueue_hk s d p g t l
  unfold State.sendPacket
  cases h : s.enqueue d p g t l with
  | mk s1 ok =>
    rw [h] at e
    cases ok
    · simp only [Bool.false_eq_true, if_false]
      split
      · rw [State.event_hk, State.incF_hk]; exact e
      · rw [State.event_hk, State.incF_hk]; exact e
    · exact e
@[simp] theorem State.sendPacket_scrub (s : State) (d p g t : Nat) (l : List Word36) : (s.sendPacket d p g t l).scrub = s.scrub := by
  have e := State.enqueue_scrub s d p g t l
  unfold State.sendPacket
  cases h : s.enqueue d p g t l with
  | mk s1 ok =>
    rw [h] at e
    cases ok
    · simp only [Bool.false_eq_true, if_false]
      split
      · rw [State.event_scrub, State.incF_scrub]; exact e
      · rw [State.event_scrub, State.incF_scrub]; exact e
    · exact e

/-! ## linkEvent -/

@[simp] theorem State.linkEvent_pending (s : State) (c l p : Nat) : (s.linkEvent c l p).pending = s.pending := by
  rw [State.linkEvent, State.sendPacket_pending]
@[simp] theorem State.linkEvent_shadow (s : State) (c l p : Nat) : (s.linkEvent c l p).shadow = s.shadow := by
  rw [State.linkEvent, State.sendPacket_shadow]
@[simp] theorem State.linkEvent_mem (s : State) (c l p : Nat) : (s.linkEvent c l p).mem = s.mem := by
  rw [State.linkEvent, State.sendPacket_mem]
@[simp] theorem State.linkEvent_lost (s : State) (c l p : Nat) : (s.linkEvent c l p).lost = s.lost := by
  rw [State.linkEvent, State.sendPacket_lost]
@[simp] theorem State.linkEvent_ecc (s : State) (c l p : Nat) : (s.linkEvent c l p).ecc = s.ecc := by
  rw [State.linkEvent, State.sendPacket_ecc]
@[simp] theorem State.linkEvent_mono (s : State) (c l p : Nat) : (s.linkEvent c l p).mono = s.mono := by
  rw [State.linkEvent, State.sendPacket_mono]
@[simp] theorem State.linkEvent_time (s : State) (c l p : Nat) : (s.linkEvent c l p).time = s.time := by
  rw [State.linkEvent, State.sendPacket_time]
@[simp] theorem State.linkEvent_timeSet (s : State) (c l p : Nat) : (s.linkEvent c l p).timeSet = s.timeSet := by
  rw [State.linkEvent, State.sendPacket_timeSet]
@[simp] theorem State.linkEvent_free (s : State) (c l p : Nat) : (s.linkEvent c l p).free = s.free := by
  rw [State.linkEvent, State.sendPacket_free]
@[simp] theorem State.linkEvent_lockOpen (s : State) (c l p : Nat) : (s.linkEvent c l p).lockOpen = s.lockOpen := by
  rw [State.linkEvent, State.sendPacket_lockOpen]
@[simp] theorem State.linkEvent_commits (s : State) (c l p : Nat) : (s.linkEvent c l p).commits = s.commits := by
  rw [State.linkEvent, State.sendPacket_commits]
@[simp] theorem State.linkEvent_ispHeld (s : State) (c l p : Nat) : (s.linkEvent c l p).ispHeld = s.ispHeld := by
  rw [State.linkEvent, State.sendPacket_ispHeld]
@[simp] theorem State.linkEvent_latched (s : State) (c l p : Nat) : (s.linkEvent c l p).latched = s.latched := by
  rw [State.linkEvent, State.sendPacket_latched]
@[simp] theorem State.linkEvent_pwr (s : State) (c l p : Nat) : (s.linkEvent c l p).pwr = s.pwr := by
  rw [State.linkEvent, State.sendPacket_pwr]
@[simp] theorem State.linkEvent_deal (s : State) (c l p : Nat) : (s.linkEvent c l p).deal = s.deal := by
  rw [State.linkEvent, State.sendPacket_deal]
@[simp] theorem State.linkEvent_ldb (s : State) (c l p : Nat) : (s.linkEvent c l p).ldb = s.ldb := by
  rw [State.linkEvent, State.sendPacket_ldb]
@[simp] theorem State.linkEvent_emit (s : State) (c l p : Nat) : (s.linkEvent c l p).emit = s.emit := by
  rw [State.linkEvent, State.sendPacket_emit]
@[simp] theorem State.linkEvent_steer (s : State) (c l p : Nat) : (s.linkEvent c l p).steer = s.steer := by
  rw [State.linkEvent, State.sendPacket_steer]
@[simp] theorem State.linkEvent_ret (s : State) (c l p : Nat) : (s.linkEvent c l p).ret = s.ret := by
  rw [State.linkEvent, State.sendPacket_ret]
@[simp] theorem State.linkEvent_hist (s : State) (c l p : Nat) : (s.linkEvent c l p).hist = s.hist := by
  rw [State.linkEvent, State.sendPacket_hist]
@[simp] theorem State.linkEvent_acq (s : State) (c l p : Nat) : (s.linkEvent c l p).acq = s.acq := by
  rw [State.linkEvent, State.sendPacket_acq]
@[simp] theorem State.linkEvent_cam (s : State) (c l p : Nat) : (s.linkEvent c l p).cam = s.cam := by
  rw [State.linkEvent, State.sendPacket_cam]
@[simp] theorem State.linkEvent_zone (s : State) (c l p : Nat) : (s.linkEvent c l p).zone = s.zone := by
  rw [State.linkEvent, State.sendPacket_zone]
@[simp] theorem State.linkEvent_cal (s : State) (c l p : Nat) : (s.linkEvent c l p).cal = s.cal := by
  rw [State.linkEvent, State.sendPacket_cal]
@[simp] theorem State.linkEvent_safe (s : State) (c l p : Nat) : (s.linkEvent c l p).safe = s.safe := by
  rw [State.linkEvent, State.sendPacket_safe]
@[simp] theorem State.linkEvent_field (s : State) (c l p : Nat) : (s.linkEvent c l p).field = s.field := by
  rw [State.linkEvent, State.sendPacket_field]
@[simp] theorem State.linkEvent_supv (s : State) (c l p : Nat) : (s.linkEvent c l p).supv = s.supv := by
  rw [State.linkEvent, State.sendPacket_supv]
@[simp] theorem State.linkEvent_img (s : State) (c l p : Nat) : (s.linkEvent c l p).img = s.img := by
  rw [State.linkEvent, State.sendPacket_img]
@[simp] theorem State.linkEvent_led (s : State) (c l p : Nat) : (s.linkEvent c l p).led = s.led := by
  rw [State.linkEvent, State.sendPacket_led]
@[simp] theorem State.linkEvent_hk (s : State) (c l p : Nat) : (s.linkEvent c l p).hk = s.hk := by
  rw [State.linkEvent, State.sendPacket_hk]
@[simp] theorem State.linkEvent_scrub (s : State) (c l p : Nat) : (s.linkEvent c l p).scrub = s.scrub := by
  rw [State.linkEvent, State.sendPacket_scrub]

end Sys2Proof.Machine
end

