-- ==== Sys2Proof/Machine/Pins.lean ====
section
/-! DEFINITION. The outputs in each condition (spec/02 R44-R48), as functions of the state. The levels that need more than the
condition stand with their blocks: `sout` and `stp` in Safe, `faultLow` in Faults, `camFsync` in Camera, `zoneOut` in Fusion,
`dacCode` in Steer, `intPending` in Flags. -/

namespace Sys2Proof.Machine

/-- What ALIVE carries (R44). -/
inductive Alive where
  | low
  /-- The toggle driven from SOSC, which says FOLD (R46, R48). -/
  | khz1
  | khz10
  deriving DecidableEq, Repr

/-- ALIVE (R44-R47): low while unpowered and in Power-up, the 1 kHz toggle in FOLD. A falling nRESET moves the device to
Power-up but for FOLD with cause THERMAL, whose toggle goes on (R45). -/
def State.alive (s : State) : Alive :=
  match s.pwr.st with
  | .unpowered | .powerUp => .low
  | .fold => .khz1
  | _ => .khz10

/-- The time between two edges of ALIVE, in tenths of ns: 50 µs at 10 kHz (R48). -/
def Alive.edges : Alive → Option Nat
  | .low => none
  | .khz1 => some 5000000
  | .khz10 => some 500000

/-- A group of outputs that can be undriven, high-impedance, idle or active. -/
inductive Drive where
  | undriven
  | highZ
  | idle
  | active
  deriving DecidableEq, Repr

/-- LDB_CLK, LDB_D0 and LDB_D1 (R44): idle, with the broadcast disable in force, in READY. -/
def State.ldbPins (s : State) : Drive :=
  match s.pwr.st with
  | .unpowered => .undriven
  | .ready => .idle
  | .run => .active
  | _ => .highZ

/-- FIRE0-FIRE3 (R44): inactive in READY, which is _P low and _N high. -/
def State.firePins (s : State) : Drive := s.ldbPins

/-- LDB_KA toggles at 1 MHz (R44, R149). -/
def State.kaToggles (s : State) : Bool := (s.pwr.st == .ready || s.pwr.st == .run) && s.fb LDB.STATUS.KA

/-- The excitation sources, guard drivers and modulators work (R44, R86): in READY and RUN, with SENSE on and enabled. -/
def State.sensePins (s : State) : Bool := (s.pwr.st == .ready || s.pwr.st == .run) && s.domOn 1 && s.enabled 0x15

/-- Source k drives EXCn (R165); a pin that none drives is off. -/
def State.excDrives (s : State) (k n : Nat) : Bool := s.sensePins && s.fb (SENSE.EXC.EN k) && s.f (SENSE.EXC.PIN k) == n

/-- The current out of EXCn in steps of 0.5 uA (R165). -/
def State.excCurrent (s : State) (n : Nat) : Nat :=
  ((filterRange 8 fun k => s.excDrives k n).map fun k => s.f (SENSE.EXC.CURRENT k)).sum

/-- The enable of guard driver j. -/
def guardEnable (j : Nat) : Fld := ⟨SENSE.GRD, 8 * j + 7, 1⟩

/-- The leg and the sense channel that GRDj follows (R166); none while it is high-impedance. -/
def State.guardLeg (s : State) (j : Nat) : Option (Nat × Nat) :=
  if s.sensePins && s.fb (guardEnable j) then some (s.f ⟨SENSE.GRD, 8 * j + 3, 1⟩, s.f ⟨SENSE.GRD, 8 * j, 3⟩) else none

/-- The current code on DRV_X or DRV_Y (R44): the code of the axis in FOLD, READY and RUN, zero elsewhere. -/
def State.drivePin (s : State) (a : Nat) : Int :=
  match s.pwr.st with
  | .fold | .ready | .run => s.dacCode a
  | _ => 0

/-- TAB_TX0-TAB_TX8 (R44): idle in electrical idle. -/
def State.txPins (s : State) : Drive :=
  if s.pwr.st = .unpowered then .undriven else if s.f TAB.STATUS.TX_STATE = 0 then .idle else .active

/-- SPI_MISO (R44, R60): driven while SPI_CS_N is low once SPI answers, from the start of self-test on. -/
def State.misoPin (s : State) : Drive :=
  if s.pwr.st = .unpowered then .undriven
  else if s.pwr.st = .powerUp ∧ (s.pwr.nresetLow ∨ s.pwr.step ≠ .selfTest) then .highZ
  else if s.host.csLow then .active else .highZ

/-- SYNC_OUT (R44, R174): the 1 us pulse from each frame boundary in READY and RUN. -/
def State.syncOutPin (s : State) : Bool :=
  (s.pwr.st == .ready || s.pwr.st == .run) && s.steer.frame.syncOut.any fun t => decide (s.mono < t + 10000)

end Sys2Proof.Machine
end

