-- ==== Sys2Proof/Machine/Wire.lean ====
section
/-! DEFINITION. What the Tableau lanes carry (spec/14 R330-R332): 66-bit blocks, their scrambling, the stream of blocks and its
distribution over the lanes. -/

namespace Sys2Proof.Machine

/-! ## Blocks (R330) -/

/-- A block before scrambling (R330): 64 payload bits, or a TYPE and bits [55:0]. -/
inductive Block where
  | data (payload : Nat)
  | control (type bits : Nat)
  deriving DecidableEq, Repr

/-- The sync header (R330). -/
def Block.sync (b : Block) : Nat :=
  match b with
  | .data _ => 1
  | .control _ _ => 2

/-- The 64 bits after the sync header; TYPE stands above bits [55:0] (DEDUCED, log entry 110). -/
def Block.body (b : Block) : Nat :=
  match b with
  | .data p => p % 2 ^ 64
  | .control t v => t % 256 * 2 ^ 56 + v % 2 ^ 56

/-- Bits [55:0] of a control block from its bits [55:16]: CRC-8 in [15:8] (R330). -/
def withCrc8 (v : Nat) : Nat := v % 2 ^ 40 * 2 ^ 16 + crc8 [(v % 2 ^ 40, 40)] * 2 ^ 8

/-- IDLE (R330). -/
def idleBlock : Block := .control 0x1E 0

/-- TS (R330). -/
def tsBlock (logical physical : Nat) (ready narrow : Bool) : Block :=
  .control 0x2D (withCrc8 (logical % 16 * 2 ^ 36 + physical % 16 * 2 ^ 32 + b2n ready * 2 ^ 31 + b2n narrow * 2 ^ 30 + 0x5AC396))

/-- AM (R330). -/
def amBlock (logical physical count : Nat) : Block :=
  .control 0x4B (withCrc8 (logical % 16 * 2 ^ 36 + physical % 16 * 2 ^ 32 + count % 2 ^ 16 * 2 ^ 16))

/-- SOP of a packet (R330, R332): VC, DT, LENGTH and SEQ of its header. -/
def Packet.sop (p : Packet) : Block :=
  .control 0x78 (withCrc8 (p.vc % 16 * 2 ^ 36 + p.dt % 256 * 2 ^ 28 + p.payload.length % 65536 * 2 ^ 12 + p.seq % 4096))

/-- A received control block has a known TYPE and, where it carries one, a good CRC-8 (R330). -/
def Block.good (b : Block) : Bool :=
  match b with
  | .data _ => true
  | .control t v => t == 0x1E || ((t == 0x2D || t == 0x4B || t == 0x78) && bitsOf v 8 8 == crc8 [(bitsOf v 16 40, 40)])

/-- What a receiver takes a block for: IDLE where it is not good (R330). -/
def Block.received (b : Block) : Block := if b.good then b else idleBlock

/-! ## Scrambling and bit order (R330) -/

/-- The feedback of x^58 + x^39 + 1 on the last 58 scrambled bits, the newest in bit 0. -/
def scramblerTap (st : Nat) : Bool := (st.testBit 38) != (st.testBit 57)

/-- A scrambled bit shifted into the register. -/
def scramblerShift (st : Nat) (b : Bool) : Nat := (2 * st + b2n b) % 2 ^ 58

/-- Bits scrambled in their order on the wire, with the register afterwards (R330). -/
def scramble (st : Nat) : List Bool → List Bool × Nat
  | [] => ([], st)
  | d :: ds =>
    let b := d != scramblerTap st
    let (bs, st') := scramble (scramblerShift st b) ds
    (b :: bs, st')

/-- Bits descrambled in their order on the wire: the register holds the last 58 bits received (R330). -/
def descramble (st : Nat) : List Bool → List Bool × Nat
  | [] => ([], st)
  | b :: bs =>
    let (ds, st') := descramble (scramblerShift st b) bs
    ((b != scramblerTap st) :: ds, st')

/-- The `n` low bits of a number, least significant first. -/
def bitsLow (v n : Nat) : List Bool := (List.range n).map v.testBit

/-- The 66 bits of a block in their order on the wire, with the scrambler of the lane before and after it (R330). -/
def Block.wire (b : Block) (st : Nat) : List Bool × Nat :=
  let (bs, st') := scramble st (bitsLow b.body 64)
  (bitsLow b.sync 2 ++ bs, st')

/-! ## The stream (R331, R332) -/

/-- The words of a packet with its zero fill (R332). -/
def Packet.filled (p : Packet) : List Word36 :=
  let ws := p.words
  ws ++ List.replicate (16 * divUp ws.length 16 - ws.length) 0

/-- Nine data blocks of 16 words, bit [35] of each word first from payload bit 63 of the first block on (R332). -/
def nineBlocks (ws : List Word36) : List Block :=
  let v := ws.foldl (fun (n : Nat) w => n * 2 ^ 36 + w.toNat) 0
  (List.range 9).map fun i => .data (v / 2 ^ (64 * (8 - i)) % 2 ^ 64)

/-- The stream blocks of a packet (R332). -/
def Packet.blocks (p : Packet) : List Block :=
  let ws := p.filled
  p.sop :: (List.range (ws.length / 16)).flatMap fun i => nineBlocks ((ws.drop (16 * i)).take 16)

/-- The 16 words that nine data blocks carry (R332). -/
def sixteenWords (bs : List Block) : List Word36 :=
  let v := bs.foldl (fun (n : Nat) b => n * 2 ^ 64 + b.body) 0
  (List.range 16).map fun i => w36 (v / 2 ^ (36 * (15 - i)))

/-- The header and payload words of a packet as received, where its SOP and its CRC-32 are good (R330, R332). -/
def receivePacket (bs : List Block) : Option (List Word36) :=
  match bs.map Block.received with
  | .control 0x78 v :: rest =>
    let n := bitsOf v 28 16 + 2
    let ws := (List.range (rest.length / 9)).flatMap fun i => sixteenWords ((rest.drop (9 * i)).take 9)
    if n < ws.length && nth ws n 0 == w36 (packetCrc (ws.take n)) then some (ws.take n) else none
  | _ => none

/-- The full TIME stamp that a receiver takes a packet's TSTAMP for, with TIME_REF as it has last received it (R333): the value
nearest to TIME_REF. -/
def fullStamp (timeRef tstamp : Nat) : Int :=
  let t : Int := timeRef / 2 ^ 24 * 2 ^ 24 + tstamp % 2 ^ 24
  if 2 ^ 23 ≤ t - timeRef then t - 2 ^ 24
  else if 2 ^ 23 < timeRef - t then t + 2 ^ 24
  else t

/-- The logical lanes in use: 8, or 4 at narrow width (R331, R341). -/
def State.lanesUsed (s : State) : Nat := if s.fb TAB.STATUS.NARROW then 4 else 8

/-- The blocks of the packets sent last that a logical lane carries, in order (R331). -/
def State.laneBlocks (s : State) (l : Nat) : List Block :=
  let bs := s.link.sent.flatMap Packet.blocks
  (List.range bs.length).filterMap fun i => if (s.link.streamAt + i) % s.lanesUsed = l then bs[i]? else none

/-- LOGICAL of a physical lane: 0xF for one that serves no logical lane (R330). -/
def State.logicalNo (s : State) (n : Nat) : Nat := (s.logicalOf n).getD 0xF

/-- The test pattern that a physical lane sends in place of its blocks: 0 none, 1 PRBS7, 2 PRBS15, 3 PRBS23, 4 PRBS31; a lane
under retest sends PRBS31 (R340, R347, R349). -/
def State.lanePattern (s : State) (n : Nat) : Nat :=
  let sel := bitsOf (s.f TAB.PRBS_TX.SEL) (3 * n) 3
  if bitOf (s.f TAB.TX_STAT.RETEST) n then 4 else if sel ≤ 4 then sel else 0

/-- A physical lane sends blocks: it is neither in electrical idle nor sends a pattern (R338-R340, R347). A failed lane goes
idle at the AM at which its logical lane moves to the spare (R339). -/
def State.laneSends (s : State) (n : Nat) : Bool :=
  s.f TAB.STATUS.TX_STATE != 0 && (!s.laneFailed n || (s.logicalOf n).isSome) && s.lanePattern n == 0

/-- What a physical lane sends in a block time in which it takes no stream block: TS in bring-up, IDLE otherwise (R331, R337). -/
def State.laneFill (s : State) (n : Nat) : Option Block :=
  if !s.laneSends n then none else
  match s.link.train with
  | .no => some idleBlock
  | .training => some (tsBlock (s.logicalNo n) n false (s.fb TAB.STATUS.NARROW))
  | _ => some (tsBlock (s.logicalNo n) n true (s.fb TAB.STATUS.NARROW))

/-- The AM that a physical lane sends, the spare's included (R331). -/
def State.laneAm (s : State) (n : Nat) : Option Block :=
  if s.laneSends n then some (amBlock (s.logicalNo n) n s.link.amCount) else none

end Sys2Proof.Machine
end

