-- ==== Sys2Proof/WellFormed.lean ====
section
/-! DEFINITION. Which commands are well formed: the conditions on operands that their types do not fix already. A command
that breaks one cannot arrive; nothing is claimed of it. -/

namespace Sys2Proof

/-- A number fits a signed byte. -/
def signedByte (x : Int) : Bool := decide (-128 ≤ x ∧ x ≤ 127)

/-- Measured corrections or offsets (R425, R426): so many signed bytes. -/
def measured (n : Nat) (xs : List Int) : Bool := xs.length == n && xs.all signedByte

/-- Results of a calibration name register words (R7, R61). -/
def resultsOk (rs : List (Nat × BitVec 32)) : Bool := rs.all fun r => decide (r.1 < 0x12400)

/-- A self-test item with its outcome. -/
def SelfTest.wf : SelfTest → Bool
  | .calibration _ rs => resultsOk rs
  | .bankBist _ soft _ => decide (soft.eraseDups.length = soft.length)
  | _ => true

/-- The number of cells in a selection of a delay-locked loop. -/
def cellCount (cells : BitVec 10) : Nat := ((List.range 10).filter fun i => cells.getLsbD i).length

/-- The conversions of a housekeeping round come from the inputs that the device has (R433). -/
def HkRaw.wf (r : HkRaw) : Bool :=
  r.die.length == 8 && r.again.length == 8 && r.diode.length == 4 && r.therm.length == 4 && r.supply.length == 10 &&
  r.mpd.length == 16

/-- Whether a command can arrive at all. -/
def Instr.wf : Instr → Bool
  | .pgTimeout core ana io => core || ana || io
  | .refclkPresent a b => a || b
  | .selftestItemDone r => r.wf
  | .wakeChecksDone _ rs => resultsOk rs
  | .droopOnset sensors => sensors != 0
  | .inbandWriteRequest _ _ _ words _ => decide (words.length < 65535)
  | .bulkWrite _ _ _ words _ => decide (words.length < 65535)
  | .decimation _ bits _ => decide (1 ≤ bits.length ∧ bits.length ≤ 4096)
  | .csi2LongPacket _ _ _ _ _ _ payload => decide (payload.length ≤ 65535)
  | .tdcCalMeasureDone _ _ _ cs => measured 7 cs
  | .kittyCalDone _ _ _ cs xofs => measured 7 cs && measured 8 xofs
  | .dllCalDone _ matched cells => !matched || cellCount cells == 8
  | .afeCalDone _ offsets => offsets.length == 4
  | .hkRound raw => raw.wf
  | _ => true

end Sys2Proof
end

