-- ==== Sys2Proof/Tests/Slice0.lean ====
section
/-! SUPPORT. The checks of WellFormed on ill-formed commands, worked examples of the spec, and for each statement states and
operands that meet its hypotheses together. -/

set_option maxRecDepth 20000
set_option Elab.async false
set_option linter.unusedVariables false

open Host Sys2Proof

namespace Sys2Proof.Machine

/-! ## Data of the witnesses -/

def aHand : Hand := { first := true, index := 0, az := 0, start := 0, period := 20000, sEff := 2, openSlots := 1, entry := false }
def anArmed : Armed := { fire := 0, tag := 0, start := 0, stop := 1000, before := 0, pre := 0, open_ := 0, close := 2000, post := 3000 }
def aClosed : Closed := { count := 0, stage := .swapped, off := false, openShots := 1, trickShots := 1, fineShots := 0, totalOpen := 0, total := 0, cands := [], tricks := [], tots := [] }
def aFrame : CamFrame := { number := 0, cfg := [], gen := 0, egen := 0, exp := 0, gain := 0, unsure := false, start := 0 }
def aRelay : Relay := { frame := 0, exp := 1, gain := 1, left := [] }
def aWave : WaveOut := { bank := 0, entries := [], stamp := 0, gen := 0, attach := none }
def anAcq : AcqSet := { cfg := [], sources := 1, primary := 0, number := 0, sample := some 0, time := 0, gen := 0, hand := none, shot := none, step := 0, skipped := 0 }
def aPacket : Packet := { dt := 0x39, vc := 0, gen := 0, seq := 0, stamp := 0, payload := [] }
def aRound : HkRaw := { die := List.replicate 8 400, again := List.replicate 8 400, diode := List.replicate 4 (0, 59200), therm := List.replicate 4 600000, supply := List.replicate 10 1800, mpd := List.replicate 16 5, bias := 1000, reference := 1200, zero := 0, full := 4095 }
def aShake : Shake := { standby := false, doms := [], waiting := [], forced := none, aborted := none, stage := .querying, from_ := .ready }
def aDecision : Decision := { slot := 0, opening := true, fire := 0, tiles := [], pulses := 1, static := false }
def aHandTile : HandTile := { tile := 0, group := 0, entry := 0, budget := 1, opening := 1, trump := 0, spentO := 0, spentT := 0 }
def anEcho : Echo := { b := 20, cm := 0, c0 := 1280, cp := 0, corr := 1280, suspect := false, volumetric := false, cls := 0, trick := none, fshift := 0, fine := [] }
def aRequest : CommitReq := { page := 0x10, boundary := 0, global := false, armed := false, ports := [] }
def aPoint : Point := { channel := 0, az := 0, range := 0, intensity := 0, echo := 0, cls := 0, conf := 0, stale := false, transition := false, valid := true, sun := false, uncertain := false, waveform := false, gen := 0 }
def aDump : Dump := { channel := 0, trick := false, hand := aHand, record := aClosed }
def aShot : Shot := { group := 0, slot := 0, opening := true, fire := 0, tag := 0, bands := [], cells := [] }

/-! ## Well-formed commands: each check refuses an ill-formed term -/

theorem wf_accepts : (Instr.porRelease).wf = true ∧ (Instr.pgTimeout true false false).wf = true := by decide
theorem wf_no_input_late : (Instr.pgTimeout false false false).wf = false := by decide
theorem wf_no_input_present : (Instr.refclkPresent false false).wf = false := by decide
theorem wf_no_sensor : (Instr.droopOnset 0).wf = false := by decide
theorem wf_no_sense_bits : (Instr.decimation 0 [] 0).wf = false := by decide +kernel
theorem wf_short_round : (Instr.hkRound { aRound with die := [] }).wf = false := by decide +kernel
theorem wf_dll_cells : (Instr.dllCalDone 0 true 0x3F).wf = false ∧ (Instr.dllCalDone 0 true 0xFF).wf = true := by decide +kernel
theorem wf_soft_repairs_twice : (Instr.selftestItemDone (.bankBist true [0, 0] [])).wf = false := by decide +kernel
theorem wf_result_address :
    (Instr.selftestItemDone (.calibration ⟨[], [], []⟩ [(0x12400, 0)])).wf = false ∧ (Instr.wakeChecksDone ⟨[], [], []⟩ [(0x12400, 0)]).wf = false := by
  decide +kernel
theorem wf_tdc_corrections : (Instr.tdcCalMeasureDone 0 0 0 [128, 0, 0, 0, 0, 0, 0]).wf = false := by decide +kernel
theorem wf_kitty_offsets : (Instr.kittyCalDone 0 0 0 [0, 0, 0, 0, 0, 0, 0] [0]).wf = false := by decide +kernel
theorem wf_write_length :
    (Instr.inbandWriteRequest ⟨0, 0, true, true, false⟩ 0 0 (List.replicate 65535 0) none).wf = false ∧
    (Instr.bulkWrite ⟨0, 0, true, true, false⟩ 0 0 (List.replicate 65535 0) none).wf = false := by
  constructor <;> simp only [Instr.wf, List.length_replicate] <;> decide
theorem wf_long_packet : (Instr.csi2LongPacket 0 0 0 .clean true false (List.replicate 65536 0)).wf = false := by
  simp only [Instr.wf, List.length_replicate]; decide
theorem wf_afe_offsets : (Instr.afeCalDone 0 []).wf = false := by decide +kernel

/-! ## Worked examples of the spec -/

theorem test_reset_powerup : State.reset.pwr.st = .powerUp := by decide

/-- No row of the table has bits: no word spells a command. -/
theorem test_no_word_decodes : decodeTableWord 36 0 = none ∧ decodeTableWord 8 255 = none := by decide

/-- 04_registers_and_host_port.md, after R83: the commit word of HIST, a reserved word, and a word that is never valid. -/
theorem test_commit_word_parity : withParity 0x12 = 0xF00000012 ∧ withParity 0 = 0xF00000000 ∧ parityOk 0 = false := by
  decide +kernel

/-- 00_scope.md, after R7: the address of HIST.COMMIT. -/
theorem test_commit_address : hdr 0x38 8 = 0xE008 := by decide

/-- 05_dealer.md: the ring of tile 2,728. -/
theorem test_ring_address : ringAddr 2728 0 = 0xA15500 ∧ ringAddr 2728 3 + 1 = 0xA15507 := by decide +kernel

/-- 15_memory_banks.md: the bit-clear and bit-set aliases. -/
theorem test_bank_aliases :
    let t := ((State.reset.wr 0x450123 0xF0).writeMemory 0 0x850123 0x30).1
    t.rd 0x450123 = 0xC0 ∧ (t.writeMemory 0 0x650123 1).1.rd 0x450123 = 0xC1 := by decide +kernel

/-- A governor with the limits of the worked example of 06_emitter_and_laser_bus.md, and its cell lit by tile-shots. -/
def aGovernor : State :=
  let s : State := { State.reset with emit := { State.reset.emit with us100 := { full := 0 }, ms10 := { full := 0 } } }
  ((((s.setB EMIT.GOV_CTRL.STATIC false).setF EMIT.GOV_PULSE.LIMIT 3000).setF EMIT.GOV_100US.LIMIT 200000).setF
    EMIT.GOV_10MS.LIMIT 2500000).setF EMIT.GOV_10S.LIMIT 0xFFFFFF
def governed (n : Nat) (s : State) : State × Nat :=
  (List.range n).foldl (fun p _ =>
    let r := p.1.govern [({ cell := 0, energy := 2101, nominal := 2000 } : FireCell)] 2
    (r.1, if r.2 then p.2 + 1 else p.2)) (s, 0)

/-- 06_emitter_and_laser_bus.md: 47 tile-shots of 42.02 nJ pass within 2 µJ, and the 48th is denied. -/
theorem test_governor_100us : (governed 47 aGovernor).2 = 47 ∧ (governed 48 aGovernor).2 = 47 := by decide +kernel

/-- 08_return_channels_and_timing.md: TIME of one conversion and its event word. -/
theorem test_conversion :
    (((State.reset.setF (TDC.LIN.RAW_LO 4 11) 212).setF (TDC.LIN.RAW_HI 4 11) 852).setF (TDC.INL_A.INL 4 11)
      0x01020000).timeOf 203 none 375 466 = 48075 ∧ eventWord 203 9 48075 = 0x65A40BBCB := by decide +kernel

/-- 09_histograms.md: the two tricks of channel 203 and the fine bin of its event. -/
theorem test_trick_placement :
    trickStart (({ b := 375, cm := 2, c0 := 5, cp := 1 } : Cand).centre 128) 128 8 0 = 47792 ∧
    trickStart (({ b := 612, cm := 0, c0 := 3, cp := 0 } : Cand).centre 128) 128 8 0 = 78144 ∧
    fineHit [47792, 78144] 8 48075 = some (0, 35) := by decide +kernel

/-- The settings, the channel hand and the return of the worked example of 11_point_builder.md. -/
def aPointState : State :=
  (((((((State.reset.setF PNT.OUT.CENT_HALF 2).setF (PNT.WALK.WALK 3) 61).setF (PNT.WALK.WALK 4) 45).setF
    (PNT.OFS.OFS 203) 302).setI (PNT.TC.TC_DIE 4) 40).setI (PNT.TC.TC_LAS 4) (-64)).setI PNT.TEMP.T_REF 720).setF
    PNT.KPROP.KPROP 1964176
def aPointEcho : Echo :=
  { anEcho with
    b := 375, cm := 500, c0 := 3060, cp := 244, corr := 3060, trick := some 0
    fine := List.replicate 33 0 ++ [0, 256, 768, 512, 256] ++ List.replicate 26 0 }
def aPointRecord : Point :=
  (aPointState.pointOf { aHand with az := 644, gen := 7, temps := (1144, 608) } 203
    { aClosed with openShots := 8, trickShots := 8, fineShots := 8, lambdaC := 12, loss := 18, tricks := [47792],
                   tots := [{ n := 7, sum := 1624, hi := 0 }] } {} false 0 aPointEcho).1

/-- 11_point_builder.md: the two words of the record. -/
theorem test_point_record : aPointRecord.words = [0x15D2D9D01, 0x65A843D70] := by decide +kernel

/-- The samples and the settings of the worked example of 12_waveforms_and_acquisition.md. -/
def aSample (v : Int) : Smp := { value := 16 * v }
def aWaveform : List Smp :=
  List.replicate 263 (aSample 100) ++ [180, 520, 880, 760, 400, 170, 110].map aSample ++ List.replicate 242 (aSample 100)
def aMeasurer : State :=
  (((((State.reset.setF ACQ.REC.PRE 16).setI ACQ.BASE.START (-16)).setF ACQ.BASE.LENGTH 16).setI ACQ.MWIN.START 240).setF
    ACQ.MWIN.LENGTH 32).setF ACQ.MEAS.MIN_AMP 160

/-- 12_waveforms_and_acquisition.md, R289: words 2 to 6 of the measurement. -/
theorem test_measurement :
    aMeasurer.measure 0 aWaveform = [0x0064030C0, 0x00000F940, 0x00B5C01CF, 0x000009100, 0x000000002] := by decide +kernel

/-- 14_tableau_link.md: the header and the blocks of the point packet of hand 644. -/
def aPointPacket : Packet :=
  { dt := 0x10, vc := 0, gen := 7, seq := 0x2A5, stamp := 0x123456789A, payload := List.replicate 768 0#36 }
theorem test_point_packet :
    aPointPacket.word0 = 0x010030074 ∧ aPointPacket.word1 = 0x2A556789A ∧ aPointPacket.blockCount = 442 := by decide +kernel

/-- 18_calibration_and_housekeeping.md: OFS of channel 203 from the mean 21,656.30 of 2,048 values. -/
theorem test_end_of_line : State.reset.eolOffset 2048 (2048 * 5544013) = some 302 := by decide +kernel

/-- 18_calibration_and_housekeeping.md, R434: 59.20 mV at η 1.008 is 22.84 °C. -/
theorem test_diode : (State.reset.setF (HK.TD.IDEAL 0) 16515).diodeTemp 0 59200 = some 365 := by decide +kernel

/-! ## States that meet the hypotheses of the statements, clause by clause -/


/-! ## States and operands that meet the hypotheses of the statements -/

theorem witness_StepRunsFrontCommand :
    (∃ (c : Instr) (rest : List Instr) (s : State), s.pending = c :: rest) :=
  ⟨.pgWaitEnd, ([] : List Instr), (fun s : State => { s with pending := (.pgWaitEnd) :: (([] : List Instr)) }) (State.reset), by decide +kernel⟩

theorem witness_IdleStepPassesOneClock :
    (∃ (s : State), s.pending = [] ∧ s.pwr.st = PState.unpowered) ∧
    (∃ (s : State), s.pending = [] ∧ s.pwr.st ≠ PState.unpowered ∧ s.pwr.st ≠ PState.standby ∧ s.standbyShake = none ∧ s.host.queue = [] ∧ (s.fb ACQ.RR.RR_EN = true → s.ringFill ≤ s.f ACQ.RR.HI * 64)) ∧
    (∃ (s : State), s.pending = [] ∧ (s.pwr.st = PState.ready ∨ s.pwr.st = PState.run) ∧ s.standbyShake = none ∧ s.host.queue = [] ∧ s.dom 4 = DomState.on ∧ s.fb ACQ.RR.RR_EN = true ∧ s.f ACQ.RR.HI * 64 < s.ringFill ∧ s.f ACQ.STATE.STEP < 7 ∧ s.acq.stepUp = none) :=
  ⟨⟨(fun s : State => { s with pwr := { s.pwr with st := PState.unpowered } }) ((fun s : State => { s with pending := [] }) (State.reset)), by decide +kernel⟩,
   ⟨(fun s : State => { s with host := { s.host with queue := [] } }) ((fun s : State => { s with pending := [] }) (State.reset)), by decide +kernel⟩,
   ⟨(((fun s : State => { s with acq := { s.acq with stepUp := none } }) ((((fun s : State => { s with host := { s.host with queue := [] } }) ((fun s : State => { s with pwr := { s.pwr with st := PState.ready } }) ((fun s : State => { s with pending := [] }) (State.reset)))).setDom 4 .on).setB ACQ.RR.RR_EN true)).setF ACQ.RING_WR.PTR 60000).setF ACQ.RR.HI 1, by decide +kernel⟩⟩

theorem witness_ResetState :
    (∃ (f : List (Nat × OutItem)), f ∈ State.reset.hist.fifos) ∧
    (∃ (a : Nat), blockWord a = false) :=
  ⟨⟨([] : List (ℕ × OutItem)), by decide +kernel⟩,
   ⟨0, by decide +kernel⟩⟩

theorem witness_EveryCommandGoesOn :
    (∃ (c : Instr) (rest : List Instr) (s : State), s.pending = c :: rest) :=
  ⟨.pgWaitEnd, ([] : List Instr), (fun s : State => { s with pending := (.pgWaitEnd) :: (([] : List Instr)) }) (State.reset), by decide +kernel⟩

theorem witness_PowerOnAndReset :
    (∃ (s : State) (a : Nat), s.pwr.st = PState.unpowered ∧ memRegion a = 5) ∧
    (∃ (s : State) (a : Nat), s.img.cfg ≠ some CfgOp.store ∧ memRegion a = 5) ∧
    (∃ (s : State) (a : Nat), s.pwr.st ≠ PState.unpowered ∧ ¬(s.pwr.st = PState.fold ∧ s.f BOOT.CAUSE.CODE = 32) ∧ a ∉ [BOOT.CAUSE, BOOT.PARAM, LEDGER.BOOTP, CLK.REFSEL]) ∧
    (∃ (s : State) (w : Word), s.pwr.st ≠ PState.unpowered ∧ ¬(s.pwr.st = PState.fold ∧ s.f BOOT.CAUSE.CODE = 32) ∧ s.pwr.pgIo = true ∧ s.led.bootp = some w) ∧
    (∃ (s : State) (a : Nat), s.pwr.st ≠ PState.unpowered ∧ ¬(s.pwr.st = PState.fold ∧ s.f BOOT.CAUSE.CODE = 32) ∧ a ≠ BOOT.CAUSE) ∧
    (∃ (s : State) (a : Nat), s.pwr.st ≠ PState.unpowered ∧ ¬(s.pwr.st = PState.fold ∧ s.f BOOT.CAUSE.CODE = 32) ∧ s.img.cfg ≠ some CfgOp.store ∧ memRegion a = 5) ∧
    (∃ (s : State), s.pwr.st = PState.fold ∧ s.f BOOT.CAUSE.CODE = 32) ∧
    (∃ (s : State), s.pwr.st = PState.powerUp ∧ s.pwr.nresetLow = true) :=
  ⟨⟨(fun s : State => { s with pwr := { s.pwr with st := PState.unpowered } }) (State.reset), 0xC00000, by decide +kernel⟩,
   ⟨State.reset, 0xC00000, by decide +kernel⟩,
   ⟨State.reset, 0, by decide +kernel⟩,
   ⟨(fun s : State => { s with led := { s.led with bootp := some (0#32) } }) ((fun s : State => { s with pwr := { s.pwr with pgIo := true } }) (State.reset)), 0#32, by decide +kernel⟩,
   ⟨State.reset, (BOOT.CAUSE) + 1, by decide +kernel⟩,
   ⟨State.reset, 0xC00000, by decide +kernel⟩,
   ⟨((fun s : State => { s with pwr := { s.pwr with st := PState.fold } }) (State.reset)).setF BOOT.CAUSE.CODE 32, by decide +kernel⟩,
   ⟨(fun s : State => { s with pwr := { s.pwr with nresetLow := true } }) ((fun s : State => { s with pwr := { s.pwr with st := PState.powerUp } }) (State.reset)), by decide +kernel⟩⟩

theorem witness_StartupClockSteps :
    (∃ (s : State), s.inStep StartStep.pgWait = true) ∧
    (∃ (a : Bool) (b : Bool) (s : State), s.inStep StartStep.refSearch = true ∧ (a || b) = true) ∧
    (∃ (s : State), s.inStep StartStep.pllWait = true) ∧
    (∃ (a : Bool) (b : Bool) (s : State), (s.pwr.st = PState.ready ∨ s.pwr.st = PState.run ∨ s.pwr.st = PState.standby)) :=
  ⟨⟨(fun s : State => { s with pwr := { s.pwr with nresetLow := false } }) ((fun s : State => { s with pwr := { s.pwr with step := StartStep.pgWait } }) ((fun s : State => { s with pwr := { s.pwr with st := .powerUp } }) (State.reset))), by decide +kernel⟩,
   ⟨true, false, (fun s : State => { s with pwr := { s.pwr with nresetLow := false } }) ((fun s : State => { s with pwr := { s.pwr with step := StartStep.refSearch } }) ((fun s : State => { s with pwr := { s.pwr with st := .powerUp } }) (State.reset))), by decide +kernel⟩,
   ⟨(fun s : State => { s with pwr := { s.pwr with nresetLow := false } }) ((fun s : State => { s with pwr := { s.pwr with step := StartStep.pllWait } }) ((fun s : State => { s with pwr := { s.pwr with st := .powerUp } }) (State.reset))), by decide +kernel⟩,
   ⟨false, false, (fun s : State => { s with pwr := { s.pwr with st := PState.ready } }) (State.reset), by decide +kernel⟩⟩

theorem witness_FoldEntries :
    (∃ (core : Bool) (ana : Bool) (io : Bool) (s : State), s.inStep StartStep.pgWait = true ∧ (core && ana && io) = false) ∧
    (∃ (s : State), s.inStep StartStep.pgWait = true) ∧
    (∃ (i : PgInput) (s : State), (s.pwr.st = PState.ready ∨ s.pwr.st = PState.run ∨ s.pwr.st = PState.standby)) ∧
    (∃ (s : State), s.inStep StartStep.refSearch = true) ∧
    (∃ (s : State), s.inStep StartStep.pllWait = true) ∧
    (∃ (s : State), s.inStep StartStep.selfTest = true) ∧
    (∃ (src : Port) (s : State), (s.pwr.st = PState.ready ∨ s.pwr.st = PState.run ∨ s.pwr.st = PState.standby)) ∧
    (∃ (d : Fin 9) (s : State), s.pwr.st = PState.standby ∧ s.pwr.exit = some ExitStep.switching ∧ s.dom ↑d = DomState.waking) ∧
    (∃ (s : State), (s.pwr.st = PState.ready ∨ s.pwr.st = PState.run ∨ s.pwr.st = PState.standby) ∧ s.pwr.holdStart.isSome = true ∧ s.mayRelock 0 = false ∧ s.mayRelock 1 = false) ∧
    (∃ (sensors : BitVec 8) (s : State), 2 ≤ popCount sensors.toNat 8 ∧ s.pwr.st ≠ PState.unpowered ∧ s.pwr.st ≠ PState.fold ∧ ¬(s.pwr.st = PState.powerUp ∧ s.pwr.nresetLow = true)) :=
  ⟨⟨false, false, false, (fun s : State => { s with pwr := { s.pwr with nresetLow := false } }) ((fun s : State => { s with pwr := { s.pwr with step := StartStep.pgWait } }) ((fun s : State => { s with pwr := { s.pwr with st := .powerUp } }) (State.reset))), by decide +kernel⟩,
   ⟨(fun s : State => { s with pwr := { s.pwr with nresetLow := false } }) ((fun s : State => { s with pwr := { s.pwr with step := StartStep.pgWait } }) ((fun s : State => { s with pwr := { s.pwr with st := .powerUp } }) (State.reset))), by decide +kernel⟩,
   ⟨.core, (fun s : State => { s with pwr := { s.pwr with st := PState.ready } }) (State.reset), by decide +kernel⟩,
   ⟨(fun s : State => { s with pwr := { s.pwr with nresetLow := false } }) ((fun s : State => { s with pwr := { s.pwr with step := StartStep.refSearch } }) ((fun s : State => { s with pwr := { s.pwr with st := .powerUp } }) (State.reset))), by decide +kernel⟩,
   ⟨(fun s : State => { s with pwr := { s.pwr with nresetLow := false } }) ((fun s : State => { s with pwr := { s.pwr with step := StartStep.pllWait } }) ((fun s : State => { s with pwr := { s.pwr with st := .powerUp } }) (State.reset))), by decide +kernel⟩,
   ⟨(fun s : State => { s with pwr := { s.pwr with nresetLow := false } }) ((fun s : State => { s with pwr := { s.pwr with step := StartStep.selfTest } }) ((fun s : State => { s with pwr := { s.pwr with st := .powerUp } }) (State.reset))), by decide +kernel⟩,
   ⟨.spi, (fun s : State => { s with pwr := { s.pwr with st := PState.ready } }) (State.reset), by decide +kernel⟩,
   ⟨0, ((fun s : State => { s with pwr := { s.pwr with exit := some ExitStep.switching } }) ((fun s : State => { s with pwr := { s.pwr with st := PState.standby } }) (State.reset))).setDom ((0)) .waking, by decide +kernel⟩,
   ⟨(fun s : State => { s with pwr := { s.pwr with holdStart := some 0 } }) ((fun s : State => { s with pwr := { s.pwr with st := PState.ready } }) (State.reset)), by decide +kernel⟩,
   ⟨3#8, State.reset, by decide +kernel⟩⟩

theorem witness_SelfTestItems :
    (∃ (s : State), s.inStep StartStep.selfTest = true ∧ s.pwr.items % 1024 = 1023 ∧ s.enabled 19 = true ∧ s.fb EMIT.FAULT.HAZ = false) :=
  ⟨(fun s : State => { s with pwr := { s.pwr with items := 1023 } }) ((((fun s : State => { s with pwr := { s.pwr with nresetLow := false } }) ((fun s : State => { s with pwr := { s.pwr with step := StartStep.selfTest } }) ((fun s : State => { s with pwr := { s.pwr with st := .powerUp } }) (State.reset)))).setB ⟨hdr 19 1, 0, 1⟩ true).setB EMIT.FAULT.HAZ false), by decide +kernel⟩

theorem witness_RetriesAndRestart :
    (∃ (s : State) (a : Nat), s.pwr.st = PState.fold ∧ s.pwr.retryPending = true ∧ s.f BOOT.CAUSE.PHASE ≠ 2 ∧ a ∉ [BOOT.CAUSE, BOOT.PARAM, LEDGER.BOOTP, CLK.REFSEL]) ∧
    (∃ (s : State) (w : Word), s.pwr.st = PState.fold ∧ s.pwr.retryPending = true ∧ s.f BOOT.CAUSE.PHASE ≠ 2 ∧ s.pwr.pgIo = true ∧ s.led.bootp = some w) ∧
    (∃ (s : State) (a : Nat), s.pwr.st = PState.fold ∧ s.pwr.retryPending = true ∧ s.f BOOT.CAUSE.PHASE ≠ 2 ∧ a ≠ BOOT.CAUSE) ∧
    (∃ (s : State) (a : Nat), s.pwr.st = PState.fold ∧ s.pwr.retryPending = true ∧ s.f BOOT.CAUSE.PHASE ≠ 2 ∧ memRegion a = 5) ∧
    (∃ (s : State), s.pwr.st = PState.fold ∧ s.pwr.retryPending = true ∧ s.f BOOT.CAUSE.PHASE = 2) ∧
    (∃ (src : Port) (s : State) (a : Nat), s.pwr.st = PState.fold ∧ s.f BOOT.CAUSE.CODE ≠ 32 ∧ a ∉ [BOOT.CAUSE, BOOT.PARAM, LEDGER.BOOTP, CLK.REFSEL]) ∧
    (∃ (src : Port) (s : State) (w : Word), s.pwr.st = PState.fold ∧ s.f BOOT.CAUSE.CODE ≠ 32 ∧ s.pwr.pgIo = true ∧ s.led.bootp = some w) ∧
    (∃ (src : Port) (s : State) (a : Nat), s.pwr.st = PState.fold ∧ s.f BOOT.CAUSE.CODE ≠ 32 ∧ a ≠ BOOT.CAUSE) ∧
    (∃ (src : Port) (s : State), s.pwr.st ≠ PState.fold) ∧
    (∃ (s : State), s.pwr.exit = some ExitStep.checks ∧ s.pwr.runAfterExit = false ∧ s.pwr.st = PState.standby ∧ s.enabled 19 = true ∧ s.fb EMIT.FAULT.HAZ = false ∧ (∀ n < 16, s.kitState n ≠ 7) ∧ (∀ c < 384, s.fb (TDC.STAT.FAILED (c / 48) (c % 48)) = false) ∧ (∀ a < 9, s.fb (ADC.STAT.FAILED a) = false)) :=
  ⟨⟨((fun s : State => { s with pwr := { s.pwr with retryPending := true } }) ((fun s : State => { s with pwr := { s.pwr with st := PState.fold } }) (State.reset))).setF BOOT.CAUSE.PHASE 0, 0, by decide +kernel⟩,
   ⟨(fun s : State => { s with led := { s.led with bootp := some (0#32) } }) ((fun s : State => { s with pwr := { s.pwr with pgIo := true } }) (((fun s : State => { s with pwr := { s.pwr with retryPending := true } }) ((fun s : State => { s with pwr := { s.pwr with st := PState.fold } }) (State.reset))).setF BOOT.CAUSE.PHASE 0)), 0#32, by decide +kernel⟩,
   ⟨((fun s : State => { s with pwr := { s.pwr with retryPending := true } }) ((fun s : State => { s with pwr := { s.pwr with st := PState.fold } }) (State.reset))).setF BOOT.CAUSE.PHASE 0, (BOOT.CAUSE) + 1, by decide +kernel⟩,
   ⟨((fun s : State => { s with pwr := { s.pwr with retryPending := true } }) ((fun s : State => { s with pwr := { s.pwr with st := PState.fold } }) (State.reset))).setF BOOT.CAUSE.PHASE 0, 0xC00000, by decide +kernel⟩,
   ⟨((fun s : State => { s with pwr := { s.pwr with retryPending := true } }) ((fun s : State => { s with pwr := { s.pwr with st := PState.fold } }) (State.reset))).setF BOOT.CAUSE.PHASE 2, by decide +kernel⟩,
   ⟨.spi, ((fun s : State => { s with pwr := { s.pwr with st := PState.fold } }) (State.reset)).setF BOOT.CAUSE.CODE 0, 0, by decide +kernel⟩,
   ⟨.spi, (fun s : State => { s with led := { s.led with bootp := some (0#32) } }) ((fun s : State => { s with pwr := { s.pwr with pgIo := true } }) (((fun s : State => { s with pwr := { s.pwr with st := PState.fold } }) (State.reset)).setF BOOT.CAUSE.CODE 0)), 0#32, by decide +kernel⟩,
   ⟨.spi, ((fun s : State => { s with pwr := { s.pwr with st := PState.fold } }) (State.reset)).setF BOOT.CAUSE.CODE 0, (BOOT.CAUSE) + 1, by decide +kernel⟩,
   ⟨.spi, State.reset, by decide +kernel⟩,
   ⟨(((fun s : State => { s with pwr := { s.pwr with st := PState.standby } }) ((fun s : State => { s with pwr := { s.pwr with runAfterExit := false } }) ((fun s : State => { s with pwr := { s.pwr with exit := some ExitStep.checks } }) (State.reset)))).setB ⟨hdr 19 1, 0, 1⟩ true).setB EMIT.FAULT.HAZ false, by decide +kernel⟩⟩

theorem witness_PowerRequests :
    (∃ (s : State), s.pwr.st = PState.run ∧ s.standbyShake = none) ∧
    (∃ (s : State), s.pwr.st = PState.standby ∧ s.standbyShake = none ∧ s.pwr.exit = none) ∧
    (∃ (s : State), s.pwr.st = PState.ready ∧ s.standbyShake = none ∧ s.f HK.STEP.DIE_STEP < 2 ∧ s.f HK.STEP.LAS_STEP < 2 ∧ s.fb EMIT.FAULT.HAZ = false) ∧
    (∃ (s : State), s.pwr.st = PState.ready ∧ s.standbyShake = none ∧ (2 ≤ s.f HK.STEP.DIE_STEP ∨ 2 ≤ s.f HK.STEP.LAS_STEP ∨ s.fb EMIT.FAULT.HAZ = true)) ∧
    (∃ (s : State), (s.pwr.st = PState.ready ∨ s.pwr.st = PState.run) ∧ s.pwr.target = s.pwr.st ∧ s.pwr.shakes = [] ∧ s.levelWakes = 0) ∧
    (∃ (s : State), (s.pwr.st = PState.powerUp ∨ s.pwr.st = PState.fold)) :=
  ⟨⟨(fun s : State => { s with pwr := { s.pwr with st := PState.run } }) (State.reset), by decide +kernel⟩,
   ⟨(fun s : State => { s with pwr := { s.pwr with exit := none } }) ((fun s : State => { s with pwr := { s.pwr with st := PState.standby } }) (State.reset)), by decide +kernel⟩,
   ⟨((fun s : State => { s with pwr := { s.pwr with st := PState.ready } }) (State.reset)).setB EMIT.FAULT.HAZ false, by decide +kernel⟩,
   ⟨((fun s : State => { s with pwr := { s.pwr with st := PState.ready } }) (State.reset)).setF HK.STEP.DIE_STEP 2, by decide +kernel⟩,
   ⟨(fun s : State => { s with pwr := { s.pwr with shakes := [] } }) ((fun s : State => { s with pwr := { s.pwr with target := s.pwr.st } }) ((fun s : State => { s with pwr := { s.pwr with st := PState.ready } }) (State.reset))), by decide +kernel⟩,
   ⟨(fun s : State => { s with pwr := { s.pwr with st := PState.powerUp } }) (State.reset), by decide +kernel⟩⟩

theorem witness_SwitchOffHandshake :
    (∃ (d : Fin 9) (s : State), 1 ≤ ↑d ∧ ↑d ≤ 7 ∧ s.pwr.st = PState.ready ∧ s.f PWR.DOMAIN.OFF_REQ = 0 ∧ s.dom ↑d = DomState.on ∧ s.pwr.shakes = []) ∧
    (∃ (d : Nat) (p : Fin 256) (s : State), d ∈ [1, 2, 3, 5] ∧ assigned ↑p = true ∧ pageDomain ↑p = d ∧ s.pwr.st = PState.run ∧ s.offReq d = false) ∧
    (∃ (p : Fin 256) (k : Shake) (s : State), s.pwr.shakes = [k] ∧ k.stage = ShakeStage.querying ∧ k.waiting = [↑p] ∧ ↑p ∉ [7, 19, 58, 64, 65, 66, 67, 72]) ∧
    (∃ (p : Fin 256) (k : Shake) (s : State), s.pwr.shakes = [k] ∧ k.stage = ShakeStage.querying ∧ k.waiting = [↑p] ∧ ↑p ∉ [19, 58, 64, 65, 66, 67, 72]) ∧
    (∃ (p : Fin 256) (a : BitVec 24) (k : Shake) (s : State), s.pwr.shakes = [k] ∧ k.stage = ShakeStage.querying ∧ k.waiting = [↑p] ∧ ↑p ∉ [7, 19, 58, 64, 65, 66, 67, 72] ∧ memRegion a.toNat ≠ 4) ∧
    (∃ (p : Fin 256) (a : BitVec 24) (k : Shake) (s : State), s.pwr.shakes = [k] ∧ k.stage = ShakeStage.querying ∧ k.waiting = [↑p] ∧ ↑p ∉ [7, 19, 58, 64, 65, 66, 67, 72] ∧ memRegion a.toNat = 4) ∧
    (∃ (ab : Option (BitVec 24)) (k : Shake) (s : State), s.pwr.shakes = [k] ∧ k.stage = ShakeStage.querying ∧ 7 ∈ k.waiting ∧ k.standby = true ∧ (s.img.activating = true ∨ s.img.swapping = true)) ∧
    (∃ (k : Shake) (n : Nat) (d : Nat) (s : State) (e : Nat), s.pwr.shakes = [k] ∧ k.stage = ShakeStage.window n ∧ k.standby = false ∧ k.doms = [d] ∧ d ∈ [2, 3] ∧ s.offReq d = true ∧ d < s.pwr.domains.length ∧ k.forced = none ∧ k.aborted = none ∧ s.pwr.wakeAfter = [] ∧ e ≠ d) ∧
    (∃ (k : Shake) (n : Nat) (s : State) (d : Nat), s.pwr.shakes = [k] ∧ k.stage = ShakeStage.window n ∧ k.standby = true ∧ (∀ d ∈ k.doms, d < 9) ∧ s.pwr.domains.length = 9 ∧ s.pwr.wakeKept = 0 ∧ s.levelWakes = 0 ∧ s.pwr.wakeAfter = [] ∧ (s.pwr.st = PState.ready ∨ s.pwr.st = PState.run) ∧ s.fb PWR.WAKE_CFG.IRQ_EN = false ∧ d ∈ k.doms) ∧
    (∃ (k : Shake) (n : Nat) (s : State) (d : Nat), s.pwr.shakes = [k] ∧ k.stage = ShakeStage.window n ∧ k.standby = true ∧ (∀ d ∈ k.doms, d < 9) ∧ s.pwr.domains.length = 9 ∧ s.pwr.wakeKept = 0 ∧ s.levelWakes = 0 ∧ s.pwr.wakeAfter = [] ∧ (s.pwr.st = PState.ready ∨ s.pwr.st = PState.run) ∧ s.fb PWR.WAKE_CFG.IRQ_EN = false ∧ d ∉ k.doms) ∧
    (∃ (k : Shake) (n : Nat) (s : State) (a : Nat), s.pwr.shakes = [k] ∧ k.stage = ShakeStage.window n ∧ k.standby = true ∧ (∀ d ∈ k.doms, d < 9) ∧ s.pwr.domains.length = 9 ∧ s.pwr.wakeKept = 0 ∧ s.levelWakes = 0 ∧ s.pwr.wakeAfter = [] ∧ (s.pwr.st = PState.ready ∨ s.pwr.st = PState.run) ∧ s.fb PWR.WAKE_CFG.IRQ_EN = false ∧ memRegion a ∉ [3, 4] ∧ (∀ e ∈ s.ldb.fwd, a ≠ 10485760 + 32 * e.1)) ∧
    (∃ (d : Fin 9) (s : State), s.pwr.st = PState.standby ∧ s.pwr.exit = none ∧ s.pwr.accessOn.contains ↑d = true ∧ s.dom ↑d = DomState.on ∧ s.pwr.shakes = []) :=
  ⟨⟨1, (fun s : State => { s with pwr := { s.pwr with shakes := [] } }) ((((fun s : State => { s with pwr := { s.pwr with st := PState.ready } }) (State.reset)).setF PWR.DOMAIN.OFF_REQ 0).setDom ((1)) .on), by decide +kernel⟩,
   ⟨1, 0x12, (fun s : State => { s with pwr := { s.pwr with st := PState.run } }) (State.reset), by decide +kernel⟩,
   ⟨0, ({ aShake with stage := ShakeStage.querying, waiting := [(0)] } : Shake), (fun s : State => { s with pwr := { s.pwr with shakes := [(({ aShake with stage := ShakeStage.querying, waiting := [(0)] } : Shake))] } }) (State.reset), by decide +kernel⟩,
   ⟨0, ({ aShake with stage := ShakeStage.querying, waiting := [(0)] } : Shake), (fun s : State => { s with pwr := { s.pwr with shakes := [(({ aShake with stage := ShakeStage.querying, waiting := [(0)] } : Shake))] } }) (State.reset), by decide +kernel⟩,
   ⟨0, 0#24, ({ aShake with stage := ShakeStage.querying, waiting := [(0)] } : Shake), (fun s : State => { s with pwr := { s.pwr with shakes := [(({ aShake with stage := ShakeStage.querying, waiting := [(0)] } : Shake))] } }) (State.reset), by decide +kernel⟩,
   ⟨0, 0x400000#24, ({ aShake with stage := ShakeStage.querying, waiting := [(0)] } : Shake), (fun s : State => { s with pwr := { s.pwr with shakes := [(({ aShake with stage := ShakeStage.querying, waiting := [(0)] } : Shake))] } }) (State.reset), by decide +kernel⟩,
   ⟨(none : Option (BitVec 24)), ({ aShake with stage := ShakeStage.querying, standby := true, waiting := [7] } : Shake), (fun s : State => { s with img := { s.img with cfg := some (.checking 0) } }) ((fun s : State => { s with pwr := { s.pwr with shakes := [{ aShake with stage := ShakeStage.querying, standby := true, waiting := [7] }] } }) (State.reset)), by decide +kernel⟩,
   ⟨({ aShake with stage := ShakeStage.window 0, standby := false, doms := [2], forced := none, aborted := none } : Shake), 0, 2, ((fun s : State => { s with pwr := { s.pwr with wakeAfter := [] } }) ((fun s : State => { s with pwr := { s.pwr with shakes := [(({ aShake with stage := ShakeStage.window 0, standby := false, doms := [2], forced := none, aborted := none } : Shake))] } }) (State.reset))).setF PWR.DOMAIN.OFF_REQ 4, ((2)) + 1, by decide +kernel⟩,
   ⟨({ aShake with stage := ShakeStage.window 0, standby := true, doms := [2], forced := none, aborted := none } : Shake), 0, ((fun s : State => { s with pwr := { s.pwr with st := PState.ready } }) ((fun s : State => { s with pwr := { s.pwr with wakeAfter := [] } }) ((fun s : State => { s with pwr := { s.pwr with wakeKept := 0 } }) ((fun s : State => { s with pwr := { s.pwr with shakes := [(({ aShake with stage := ShakeStage.window 0, standby := true, doms := [2], forced := none, aborted := none } : Shake))] } }) (State.reset))))).setB PWR.WAKE_CFG.IRQ_EN false, 2, by decide +kernel⟩,
   ⟨({ aShake with stage := ShakeStage.window (0), standby := true } : Shake), 0, ((fun s : State => { s with pwr := { s.pwr with st := PState.ready } }) ((fun s : State => { s with pwr := { s.pwr with wakeAfter := [] } }) ((fun s : State => { s with pwr := { s.pwr with wakeKept := 0 } }) ((fun s : State => { s with pwr := { s.pwr with shakes := [(({ aShake with stage := ShakeStage.window (0), standby := true } : Shake))] } }) (State.reset))))).setB PWR.WAKE_CFG.IRQ_EN false, 0, by decide +kernel⟩,
   ⟨({ aShake with stage := ShakeStage.window (0), standby := true } : Shake), 0, ((fun s : State => { s with pwr := { s.pwr with st := PState.ready } }) ((fun s : State => { s with pwr := { s.pwr with wakeAfter := [] } }) ((fun s : State => { s with pwr := { s.pwr with wakeKept := 0 } }) ((fun s : State => { s with pwr := { s.pwr with shakes := [(({ aShake with stage := ShakeStage.window (0), standby := true } : Shake))] } }) (State.reset))))).setB PWR.WAKE_CFG.IRQ_EN false, 0, by decide +kernel⟩,
   ⟨0, (fun s : State => { s with pwr := { s.pwr with accessOn := [0] } }) ((fun s : State => { s with pwr := { s.pwr with shakes := [] } }) (((fun s : State => { s with pwr := { s.pwr with exit := none } }) ((fun s : State => { s with pwr := { s.pwr with st := PState.standby } }) (State.reset))).setDom ((0)) .on)), by decide +kernel⟩⟩

theorem witness_WakeSources :
    (∃ (high : Bool) (s : State), s.pwr.st = PState.standby ∧ s.pwr.exit = none ∧ s.standbyShake = none ∧ s.fb PWR.WAKE_CFG.WAKE_EN = true ∧ s.pwr.wakePin = !high ∧ s.fb PWR.WAKE_CFG.WAKE_POL = !high) ∧
    (∃ (high : Bool) (s : State), s.fb PWR.WAKE_CFG.WAKE_EN = false) ∧
    (∃ (lane : RxLane) (s : State), s.pwr.st = PState.standby ∧ s.pwr.exit = none ∧ s.standbyShake = none ∧ s.fb PWR.WAKE_CFG.RX_EN = true ∧ s.link.present.contains (laneNo lane) = false) ∧
    (∃ (lane : RxLane) (s : State), s.pwr.st ≠ PState.unpowered ∧ s.fb PWR.WAKE_CFG.RX_EN = false ∧ s.link.present.contains (laneNo lane) = false) ∧
    (∃ (sck : Bool) (s : State), s.pwr.st = PState.standby ∧ s.pwr.exit = none ∧ s.standbyShake = none ∧ s.fb PWR.WAKE_CFG.CS_EN = true) ∧
    (∃ (sck : Bool) (s : State), s.pwr.st ≠ PState.unpowered ∧ s.fb PWR.WAKE_CFG.CS_EN = false) ∧
    (∃ (d : Fin 9) (s : State) (e : Nat), ↑d ∈ [2, 3, 6, 7] ∧ s.dom ↑d = DomState.waking ∧ ↑d < s.pwr.domains.length ∧ s.host.queue = [] ∧ (s.offReq ↑d = false ∨ s.pwr.st ≠ PState.ready ∧ s.pwr.st ≠ PState.run) ∧ e ≠ ↑d) ∧
    (∃ (d : Fin 9) (s : State), ↑d ∈ [2, 3, 6, 7] ∧ s.dom ↑d = DomState.waking ∧ ↑d < s.pwr.domains.length ∧ s.host.queue = [] ∧ s.pwr.exit = none ∧ s.pwr.shakes = [] ∧ (s.pwr.st = PState.ready ∨ s.pwr.st = PState.run) ∧ s.offReq ↑d = true) :=
  ⟨⟨false, ((fun s : State => { s with pwr := { s.pwr with wakePin := !(false) } }) (((fun s : State => { s with pwr := { s.pwr with exit := none } }) ((fun s : State => { s with pwr := { s.pwr with st := PState.standby } }) (State.reset))).setB PWR.WAKE_CFG.WAKE_EN true)).setB PWR.WAKE_CFG.WAKE_POL true, by decide +kernel⟩,
   ⟨false, (State.reset).setB PWR.WAKE_CFG.WAKE_EN false, by decide +kernel⟩,
   ⟨.a, ((fun s : State => { s with pwr := { s.pwr with exit := none } }) ((fun s : State => { s with pwr := { s.pwr with st := PState.standby } }) (State.reset))).setB PWR.WAKE_CFG.RX_EN true, by decide +kernel⟩,
   ⟨.a, (State.reset).setB PWR.WAKE_CFG.RX_EN false, by decide +kernel⟩,
   ⟨false, ((fun s : State => { s with pwr := { s.pwr with exit := none } }) ((fun s : State => { s with pwr := { s.pwr with st := PState.standby } }) (State.reset))).setB PWR.WAKE_CFG.CS_EN true, by decide +kernel⟩,
   ⟨false, (State.reset).setB PWR.WAKE_CFG.CS_EN false, by decide +kernel⟩,
   ⟨2, (fun s : State => { s with host := { s.host with queue := [] } }) ((State.reset).setDom ((2)) .waking), ((2)) + 1, by decide +kernel⟩,
   ⟨2, ((fun s : State => { s with pwr := { s.pwr with st := PState.ready } }) ((fun s : State => { s with pwr := { s.pwr with shakes := [] } }) ((fun s : State => { s with pwr := { s.pwr with exit := none } }) ((fun s : State => { s with host := { s.host with queue := [] } }) ((State.reset).setDom ((2)) .waking))))).setF PWR.DOMAIN.OFF_REQ 4, by decide +kernel⟩⟩

theorem witness_ClockDisturbances :
    (∃ (sensors : BitVec 8) (s : State), sensors ≠ 0 ∧ s.onPll = true ∧ s.fb CLK.DROOP.SLOWED = false) ∧
    (∃ (sensors : BitVec 8) (s : State), s.onPll = true ∧ s.fb CLK.DROOP.SLOWED = true) ∧
    (∃ (s : State), s.fb CLK.DROOP.SLOWED = true) ∧
    (∃ (n : Nat) (s : State), s.pwr.droopStart = some n) ∧
    (∃ (s : State), s.fb CLK.REFSEL.LOCK = true) ∧
    (∃ (toB : Bool) (n : Nat) (s : State), s.pwr.holdStart = some n ∧ s.mayRelock (if toB = true then 1 else 0) = true ∧ s.f CLK.REFSEL.ACTIVE = if toB = true then 1 else 0) ∧
    (∃ (toB : Bool) (n : Nat) (s : State), s.pwr.holdStart = some n ∧ s.mayRelock (if toB = true then 1 else 0) = true ∧ s.f CLK.REFSEL.ACTIVE ≠ if toB = true then 1 else 0) ∧
    (∃ (pref : Bool) (s : State), (s.pwr.st = PState.ready ∨ s.pwr.st = PState.run) ∧ s.fb CLK.REFSEL.LOCK = true ∧ (if pref = true then 1 else 0) ≠ s.f CLK.REFSEL.ACTIVE ∧ (fun s i => if i = 0 then s.fb CLK.REFSEL.A_PRESENT else s.fb CLK.REFSEL.B_PRESENT) s (if pref = true then 1 else 0) = true) ∧
    (∃ (s : State), s.pwr.st ≠ PState.unpowered) :=
  ⟨⟨1#8, ((State.reset).setB CLK.REFSEL.LOCK true).setB CLK.DROOP.SLOWED false, by decide +kernel⟩,
   ⟨0#8, ((State.reset).setB CLK.REFSEL.LOCK true).setB CLK.DROOP.SLOWED true, by decide +kernel⟩,
   ⟨(State.reset).setB CLK.DROOP.SLOWED true, by decide +kernel⟩,
   ⟨0, (fun s : State => { s with pwr := { s.pwr with droopStart := some (0) } }) (State.reset), by decide +kernel⟩,
   ⟨(State.reset).setB CLK.REFSEL.LOCK true, by decide +kernel⟩,
   ⟨false, 0, ((((fun s : State => { s with pwr := { s.pwr with holdStart := some (0) } }) (State.reset)).setF CLK.REFSEL.ACTIVE (if (false) = true then 1 else 0)).setB CLK.REFSEL.A_PRESENT true).setF CLK.REFSEL.ACTIVE 0, by decide +kernel⟩,
   ⟨false, 0, (((((fun s : State => { s with pwr := { s.pwr with holdStart := some (0) } }) (State.reset)).setF CLK.REFSEL.ACTIVE ((if (false) = true then 1 else 0) + 1)).setF CLK.REFSEL.ACTIVE 1).setB CLK.REFSEL.A_PRESENT true).setB CLK.REFSEL.AUTO true, by decide +kernel⟩,
   ⟨false, ((((fun s : State => { s with pwr := { s.pwr with st := PState.ready } }) (State.reset)).setB CLK.REFSEL.LOCK true).setF CLK.REFSEL.ACTIVE 1).setB CLK.REFSEL.A_PRESENT true, by decide +kernel⟩,
   ⟨State.reset, by decide +kernel⟩⟩

theorem witness_CounterClears :
    (∃ (s : State), s.acq.late = none) ∧
    (∃ (s : State) (a : Nat), a ≠ BANK.RECLAIM) ∧
    (∃ (p : Fin 256) (s : State), assigned ↑p = true) ∧
    (∃ (p : Fin 256) (s : State), assigned ↑p = false) :=
  ⟨⟨(fun s : State => { s with acq := { s.acq with late := none } }) (State.reset), by decide +kernel⟩,
   ⟨State.reset, (BANK.RECLAIM) + 1, by decide +kernel⟩,
   ⟨0, State.reset, by decide +kernel⟩,
   ⟨0xF0, State.reset, by decide +kernel⟩⟩

theorem witness_TimeCommands :
    (∃ (rx : RxInfo) (v : BitVec 64) (el : Nat) (s : State), (s.accept rx).2 = true) ∧
    (∃ (rx : RxInfo) (v : BitVec 64) (s : State), (s.accept rx).2 = true) ∧
    (∃ (rx : RxInfo) (s : State), (s.accept rx).2 = true) ∧
    (∃ (rx : RxInfo) (v : BitVec 64) (el : Nat) (s : State), (s.accept rx).2 = false) :=
  ⟨⟨({ vc := 0, seq := 0, goodA := true, goodB := true, bFirst := false } : RxInfo), 0#64, 0, State.reset, by decide +kernel⟩,
   ⟨({ vc := 0, seq := 0, goodA := true, goodB := true, bFirst := false } : RxInfo), 0#64, State.reset, by decide +kernel⟩,
   ⟨({ vc := 0, seq := 0, goodA := true, goodB := true, bFirst := false } : RxInfo), State.reset, by decide +kernel⟩,
   ⟨({ vc := 0, seq := 0, goodA := false, goodB := false, bFirst := false } : RxInfo), 0#64, 0, State.reset, by decide +kernel⟩⟩

theorem witness_SpiFrames :
    (∃ (cmd : BitVec 8) (addr : BitVec 24) (ws : List Word36) (crc : BitVec 8) (s : State) (i : Nat), s.spiTaken = true ∧ cmd.toNat / 64 = 1 ∧ ws.length = cmd.toNat % 64 + 1 ∧ crc.toNat = crc8 (crcHead cmd addr ++ crcData ws) ∧ (∀ i < ws.length, memRegion (addr.toNat + i) = 4 ∧ s.owner ((addr.toNat + i - 4194304) / 65536) < 2) ∧ s.pwr.st ≠ PState.fold ∧ s.mustWait addr.toNat = false ∧ i < ws.length) ∧
    (∃ (cmd : BitVec 8) (addr : BitVec 24) (ws : List Word36) (crc : BitVec 8) (s : State) (b : Nat), s.spiTaken = true ∧ cmd.toNat / 64 = 1 ∧ ws.length = cmd.toNat % 64 + 1 ∧ crc.toNat = crc8 (crcHead cmd addr ++ crcData ws) ∧ (∀ i < ws.length, memRegion (addr.toNat + i) = 4 ∧ s.owner ((addr.toNat + i - 4194304) / 65536) < 2) ∧ s.pwr.st ≠ PState.fold ∧ s.mustWait addr.toNat = false ∧ (b < addr.toNat ∨ addr.toNat + ws.length ≤ b)) ∧
    (∃ (cmd : BitVec 8) (addr : BitVec 24) (late : List Nat) (s : State), s.spiTaken = true ∧ cmd.toNat / 64 = 2 ∧ addr.toNat < 262144 ∧ addr.toNat % 1024 + cmd.toNat % 64 < 1024 ∧ (s.pwr.st = PState.fold → assigned (addr.toNat / 1024) = true ∧ pageDomain (addr.toNat / 1024) = 0) ∧ s.mustWait addr.toNat = false) ∧
    (∃ (cmd : BitVec 8) (addr : BitVec 24) (ws : List Word36) (crc : BitVec 8) (s : State), s.spiTaken = true ∧ cmd.toNat / 64 = 1 ∧ ws.length = cmd.toNat % 64 + 1 ∧ crc.toNat ≠ crc8 (crcHead cmd addr ++ crcData ws) ∧ badRange addr.toNat ws.length = false ∧ s.foldRefuses addr.toNat = false ∧ s.mustWait addr.toNat = false) ∧
    (∃ (cmd : BitVec 8) (addr : BitVec 24) (ws : List Word36) (crc : BitVec 8) (s : State), s.spiTaken = true ∧ ws.length = cmd.toNat % 64 + 1 ∧ crc.toNat = crc8 (crcHead cmd addr ++ crcData ws) ∧ (cmd.toNat / 64 ≠ 1 ∨ badRange addr.toNat ws.length = true ∨ s.foldRefuses addr.toNat = true)) ∧
    (∃ (cmd : BitVec 8) (addr : BitVec 24) (late : List Nat) (s : State), s.spiTaken = true ∧ cmd.toNat / 64 = 2 ∧ badRange addr.toNat (cmd.toNat % 64 + 1) = false ∧ (s.pwr.st = PState.ready ∨ s.pwr.st = PState.run) ∧ s.pwr.domains.length = 9 ∧ s.dom (regionDomain addr.toNat) = DomState.off ∧ s.goingOff (regionDomain addr.toNat) = false) ∧
    (∃ (cmd : BitVec 8) (addr : BitVec 24) (ws : List Word36) (s : State), s.spiTaken = true) ∧
    (∃ (s : State), s.spiAnswers = true ∧ s.host.csLow = true ∧ s.host.spiAborted = false) :=
  ⟨⟨0x40#8, 0x400000#24, [0#36], BitVec.ofNat 8 (crc8 (crcHead 0x40#8 0x400000#24 ++ crcData [0#36])), ((fun s : State => { s with host := { s.host with spiAborted := false } }) ((fun s : State => { s with host := { s.host with csLow := true } }) ((fun s : State => { s with pwr := { s.pwr with st := .ready } }) (State.reset)))).setDom 7 .on, 0, by decide +kernel⟩,
   ⟨0x40#8, 0x400000#24, [0#36], BitVec.ofNat 8 (crc8 (crcHead 0x40#8 0x400000#24 ++ crcData [0#36])), ((fun s : State => { s with host := { s.host with spiAborted := false } }) ((fun s : State => { s with host := { s.host with csLow := true } }) ((fun s : State => { s with pwr := { s.pwr with st := .ready } }) (State.reset)))).setDom 7 .on, 0, by decide +kernel⟩,
   ⟨0x80#8, 0#24, ([] : List ℕ), (fun s : State => { s with host := { s.host with spiAborted := false } }) ((fun s : State => { s with host := { s.host with csLow := true } }) ((fun s : State => { s with pwr := { s.pwr with st := .ready } }) (State.reset))), by decide +kernel⟩,
   ⟨0x40#8, 0x400000#24, [0#36], BitVec.ofNat 8 (crc8 (crcHead 0x40#8 0x400000#24 ++ crcData [0#36]) + 1), ((fun s : State => { s with host := { s.host with spiAborted := false } }) ((fun s : State => { s with host := { s.host with csLow := true } }) ((fun s : State => { s with pwr := { s.pwr with st := .ready } }) (State.reset)))).setDom 7 .on, by decide +kernel⟩,
   ⟨0xC0#8, 0#24, [0#36], BitVec.ofNat 8 (crc8 (crcHead 0xC0#8 0#24 ++ crcData [0#36])), (fun s : State => { s with host := { s.host with spiAborted := false } }) ((fun s : State => { s with host := { s.host with csLow := true } }) ((fun s : State => { s with pwr := { s.pwr with st := .ready } }) (State.reset))), by decide +kernel⟩,
   ⟨0x80#8, 0x4000#24, ([] : List ℕ), ((fun s : State => { s with pwr := { s.pwr with st := PState.ready } }) ((fun s : State => { s with host := { s.host with spiAborted := false } }) ((fun s : State => { s with host := { s.host with csLow := true } }) ((fun s : State => { s with pwr := { s.pwr with st := .ready } }) (State.reset))))).setDom (regionDomain (0x4000#24).toNat) .off, by decide +kernel⟩,
   ⟨0#8, 0#24, ([] : List Word36), (fun s : State => { s with host := { s.host with spiAborted := false } }) ((fun s : State => { s with host := { s.host with csLow := true } }) ((fun s : State => { s with pwr := { s.pwr with st := .ready } }) (State.reset))), by decide +kernel⟩,
   ⟨(fun s : State => { s with host := { s.host with spiAborted := false } }) ((fun s : State => { s with host := { s.host with csLow := true } }) ((fun s : State => { s with pwr := { s.pwr with st := .ready } }) (State.reset))), by decide +kernel⟩⟩

theorem witness_InbandRequests :
    (∃ (rx : RxInfo) (tag : BitVec 8) (addr : BitVec 24) (count : Fin 256) (s : State), (s.accept rx).2 = true ∧ s.gone = false ∧ s.host.queue = [] ∧ s.fb HOST.IB_CFG.IB_EN = true ∧ addr.toNat < 262144 ∧ addr.toNat % 1024 + ↑count < 1024 ∧ (s.pwr.st = PState.fold → assigned (addr.toNat / 1024) = true ∧ pageDomain (addr.toNat / 1024) = 0) ∧ s.mustWait addr.toNat = false) ∧
    (∃ (rx : RxInfo) (tag : BitVec 8) (addr : BitVec 24) (ws : List Word36) (bulk : Bool) (s : State) (i : Nat), (s.accept rx).2 = true ∧ s.gone = false ∧ s.host.queue = [] ∧ s.fb HOST.IB_CFG.IB_EN = true ∧ s.fb HOST.IB_CFG.IB_WRITE_EN = true ∧ if bulk = true then ws.length % 16 = 0 ∧ 16 ≤ ws.length ∧ ws.length ≤ 4096 else 1 ≤ ws.length ∧ ws.length ≤ 256 ∧ (∀ i < ws.length, memRegion (addr.toNat + i) = 4 ∧ s.owner ((addr.toNat + i - 4194304) / 65536) < 2) ∧ s.pwr.st ≠ PState.fold ∧ s.mustWait addr.toNat = false ∧ i < ws.length) ∧
    (∃ (rx : RxInfo) (tag : BitVec 8) (addr : BitVec 24) (ws : List Word36) (bulk : Bool) (s : State) (b : Nat), (s.accept rx).2 = true ∧ s.gone = false ∧ s.host.queue = [] ∧ s.fb HOST.IB_CFG.IB_EN = true ∧ s.fb HOST.IB_CFG.IB_WRITE_EN = true ∧ if bulk = true then ws.length % 16 = 0 ∧ 16 ≤ ws.length ∧ ws.length ≤ 4096 else 1 ≤ ws.length ∧ ws.length ≤ 256 ∧ (∀ i < ws.length, memRegion (addr.toNat + i) = 4 ∧ s.owner ((addr.toNat + i - 4194304) / 65536) < 2) ∧ s.pwr.st ≠ PState.fold ∧ s.mustWait addr.toNat = false ∧ (b < addr.toNat ∨ addr.toNat + ws.length ≤ b)) ∧
    (∃ (rx : RxInfo) (tag : BitVec 8) (addr : BitVec 24) (count : Fin 256) (s : State), (s.accept rx).2 = true ∧ s.gone = false ∧ s.host.queue = [] ∧ s.fb HOST.IB_CFG.IB_EN = false ∧ badRange addr.toNat (↑count + 1) = false) ∧
    (∃ (rx : RxInfo) (tag : BitVec 8) (addr : BitVec 24) (count : Fin 256) (s : State), (s.accept rx).2 = true ∧ s.gone = false ∧ 32 ≤ s.host.queue.length ∧ s.fb HOST.IB_CFG.IB_EN = true ∧ badRange addr.toNat (↑count + 1) = false ∧ s.foldRefuses addr.toNat = false) ∧
    (∃ (rx : RxInfo) (tag : BitVec 8) (addr : BitVec 24) (ws : List Word36) (count : Fin 256) (taken : Option Nat) (s : State), (s.accept rx).2 = false) :=
  ⟨⟨({ vc := 0, seq := 0, goodA := true, goodB := true, bFirst := false } : RxInfo), 0#8, 0#24, 0, ((fun s : State => { s with host := { s.host with queue := [] } }) ((fun s : State => { s with pwr := { s.pwr with st := .ready } }) (State.reset))).setB HOST.IB_CFG.IB_EN true, by decide +kernel⟩,
   ⟨({ vc := 0, seq := 0, goodA := true, goodB := true, bFirst := false } : RxInfo), 0#8, 0x400000#24, [0#36], false, ((((fun s : State => { s with host := { s.host with queue := [] } }) ((fun s : State => { s with pwr := { s.pwr with st := .ready } }) (State.reset))).setB HOST.IB_CFG.IB_EN true).setB HOST.IB_CFG.IB_WRITE_EN true).setDom 7 .on, 0, by decide +kernel⟩,
   ⟨({ vc := 0, seq := 0, goodA := true, goodB := true, bFirst := false } : RxInfo), 0#8, 0x400000#24, [0#36], false, ((((fun s : State => { s with host := { s.host with queue := [] } }) ((fun s : State => { s with pwr := { s.pwr with st := .ready } }) (State.reset))).setB HOST.IB_CFG.IB_EN true).setB HOST.IB_CFG.IB_WRITE_EN true).setDom 7 .on, 0, by decide +kernel⟩,
   ⟨({ vc := 0, seq := 0, goodA := true, goodB := true, bFirst := false } : RxInfo), 0#8, 0#24, 0, ((fun s : State => { s with host := { s.host with queue := [] } }) ((fun s : State => { s with pwr := { s.pwr with st := .ready } }) (State.reset))).setB HOST.IB_CFG.IB_EN false, by decide +kernel⟩,
   ⟨({ vc := 0, seq := 0, goodA := true, goodB := true, bFirst := false } : RxInfo), 0#8, 0#24, 0, (fun s : State => { s with host := { s.host with queue := List.replicate 32 { dt := 0x34, tag := 0, addr := 0, words := [], count := 1, taken := none } } }) (((fun s : State => { s with pwr := { s.pwr with st := .ready } }) (State.reset)).setB HOST.IB_CFG.IB_EN true), by decide +kernel⟩,
   ⟨({ vc := 0, seq := 0, goodA := false, goodB := false, bFirst := false } : RxInfo), 0#8, 0#24, ([] : List Word36), 0, (none : Option ℕ), State.reset, by decide +kernel⟩⟩

theorem witness_RegisterWrites :
    (∃ (src : Port) (a : BitVec 24) (d : Word36) (s : State), a.toNat < 262144 ∧ assigned (a.toNat / 1024) = true ∧ s.reachable (a.toNat / 1024) = true ∧ parityOk d = false) ∧
    (∃ (src : Port) (a : BitVec 24) (d : Word36) (s : State), a.toNat < 262144 ∧ assigned (a.toNat / 1024) = true ∧ s.reachable (a.toNat / 1024) = true ∧ parityOk d = true ∧ s.lockOpen = false ∧ (s.reg a.toNat ^^^ BitVec.setWidth 32 d) &&& accMask a.toNat Acc.rwl ≠ 0) ∧
    (∃ (src : Port) (a : BitVec 24) (d : Word36) (s : State) (b : Nat), a.toNat < 262144 ∧ assigned (a.toNat / 1024) = true ∧ s.reachable (a.toNat / 1024) = true ∧ parityOk d = true ∧ s.commits = [] ∧ rwsMask a.toNat ≠ 0 ∧ (∀ f ∈ (fieldsAt a.toNat).1, f.acc = Acc.rws ∨ f.acc = Acc.ro) ∧ b ≠ a.toNat) ∧
    (∃ (src : Port) (p : Nat) (d : Word36) (s : State), assigned p = true ∧ s.reachable p = true ∧ parityOk d = true) ∧
    (∃ (src : Port) (a : BitVec 24) (d : Word36) (s : State), (262144 ≤ a.toNat ∨ s.reachable (a.toNat / 1024) = false ∨ assigned (a.toNat / 1024) = false)) :=
  ⟨⟨.spi, 0#24, 0#36, State.reset, by decide +kernel⟩,
   ⟨.spi, 7184#24, withParity 1#32, (fun s : State => { s with lockOpen := false }) (State.reset), by decide +kernel⟩,
   ⟨.spi, 0x2010#24, withParity 1#32, (fun s : State => { s with commits := [] }) (State.reset), ((0x2010#24).toNat) + 1, by decide +kernel⟩,
   ⟨.spi, 0, withParity 1#32, State.reset, by decide +kernel⟩,
   ⟨.spi, 0x3C000#24, 0#36, State.reset, by decide +kernel⟩⟩

theorem witness_InterruptWords :
    (∃ (src : Port) (p : Fin 256) (bits : BitVec 32) (s : State), assigned ↑p = true ∧ bits.getLsbD 31 = false) ∧
    (∃ (src : Port) (p : Fin 256) (s : State), assigned ↑p = true) ∧
    (∃ (src : Port) (p : Fin 256) (bits : BitVec 32) (s : State), assigned ↑p = false) ∧
    (∃ (p : Fin 256) (s : State), (∀ m ∈ s.host.merges, m.page = ↑p → m.first = none)) ∧
    (∃ (p : Fin 256) (first : Nat) (s : State), (∃ m ∈ s.host.merges, m.page = ↑p) ∧ (∀ m ∈ s.host.merges, m.page = ↑p → m.first = some first)) :=
  ⟨⟨.spi, 0, 0#32, State.reset, by decide +kernel⟩,
   ⟨.spi, 0, State.reset, by decide +kernel⟩,
   ⟨.spi, 0xF0, 0#32, State.reset, by decide +kernel⟩,
   ⟨0, State.reset, by decide +kernel⟩,
   ⟨0, 0, (fun s : State => { s with host := { s.host with merges := [{ page := 0, first := some 0 }] } }) (State.reset), by decide +kernel⟩⟩

theorem witness_SoftResets :
    (∃ (src : Port) (p : Fin 256) (s : State), assigned ↑p = true ∧ (heldEnabled ↑p = true ∨ s.enabled ↑p = true ∨ s.domOn (pageDomain ↑p) = false)) ∧
    (∃ (src : Port) (p : Fin 256) (s : State) (a : Nat), assigned ↑p = true ∧ heldEnabled ↑p = false ∧ s.enabled ↑p = false ∧ s.domOn (pageDomain ↑p) = true ∧ ↑p ≠ 18 ∧ a / 1024 = ↑p ∧ 16 ≤ a % 1024) ∧
    (∃ (src : Port) (p : Fin 256) (s : State) (a : Nat), assigned ↑p = true ∧ heldEnabled ↑p = false ∧ s.enabled ↑p = false ∧ s.domOn (pageDomain ↑p) = true ∧ a / 1024 ≠ ↑p) ∧
    (∃ (src : Port) (p : Fin 256) (s : State), assigned ↑p = false) :=
  ⟨⟨.spi, 0, State.reset, by decide +kernel⟩,
   ⟨.spi, 0x10, ((State.reset).setB ⟨hdr ((0x10)) 1, 0, 1⟩ false).setDom (pageDomain (0x10)) .on, 0x4010, by decide +kernel⟩,
   ⟨.spi, 0x10, ((State.reset).setB ⟨hdr ((0x10)) 1, 0, 1⟩ false).setDom (pageDomain (0x10)) .on, 0, by decide +kernel⟩,
   ⟨.spi, 0xF0, State.reset, by decide +kernel⟩⟩

theorem witness_CommitRequests :
    (∃ (src : Port) (p : Fin 256) (b : Fin 4) (s : State), assigned ↑p = true ∧ lidarPage ↑p = true ∧ ↑b ≠ 0 ∧ s.commits = [] ∧ s.ispHeld = none ∧ (s.setF { addr := hdr (↑p) 8, lo := 0, width := 2 } ↑b).judgeRequest (↑p) (↑b) false [↑p] = none) ∧
    (∃ (src : Port) (p : Fin 256) (b : Fin 4) (s : State) (a : Nat), assigned ↑p = true ∧ lidarPage ↑p = false ∧ camOf ↑p = none ∧ ↑p ≠ 68 ∧ ↑b ≠ 3 ∧ s.commits = [] ∧ s.ispHeld = none ∧ (s.setF { addr := hdr (↑p) 8, lo := 0, width := 2 } ↑b).judgeRequest (↑p) (↑b) false [↑p] = none ∧ a / 1024 = ↑p) ∧
    (∃ (src : Port) (p : Fin 256) (b : Fin 4) (c : Nat) (s : State), assigned ↑p = true ∧ (↑p = 68 → ∀ r ∈ s.commits, r.begun = false) ∧ (s.setF { addr := hdr (↑p) 8, lo := 0, width := 2 } ↑b).judgeRequest (↑p) (↑b) false [↑p] = some c) ∧
    (∃ (src : Port) (p : Fin 256) (s : State) (r : CommitReq), (∀ r ∈ s.commits, r.page = ↑p → r.begun = false) ∧ r ∈ s.commits ∧ r.page ≠ ↑p) :=
  ⟨⟨.spi, 0x10, 1, (fun s : State => { s with ispHeld := none }) ((fun s : State => { s with commits := [] }) (State.reset)), by decide +kernel⟩,
   ⟨.spi, 0x00, 0, (fun s : State => { s with ispHeld := none }) ((fun s : State => { s with commits := [] }) (State.reset)), 16, by decide +kernel⟩,
   ⟨.spi, 8, 0, 16, State.reset, by decide +kernel⟩,
   ⟨.spi, 0, (fun s : State => { s with commits := [(aRequest)] }) (State.reset), aRequest, by decide +kernel⟩⟩

theorem witness_GlobalCommits :
    (∃ (src : Port) (b : Fin 4) (s : State), s.commits = [] ∧ s.ispHeld = none ∧ ↑b ≠ 0 ∧ (∀ p ∈ s.dirtyPages, lidarPage p = true) ∧ (∀ p ∈ s.dirtyPages, (s.setF CHIP.GCOMMIT.BOUNDARY ↑b).judgeRequest p (↑b) false s.dirtyPages = none)) ∧
    (∃ (src : Port) (b : Fin 4) (q : Nat) (c : Nat) (s : State) (a : Nat), q ∈ s.dirtyPages ∧ (s.setF CHIP.GCOMMIT.BOUNDARY ↑b).judgeRequest q (↑b) false s.dirtyPages = some c ∧ 16 ≤ a % 1024 ∧ a ≠ CHIP.GCOMMIT) :=
  ⟨⟨.spi, 1, (fun s : State => { s with ispHeld := none }) ((fun s : State => { s with commits := [] }) (State.reset)), by decide +kernel⟩,
   ⟨.spi, 0, 8, 16, (State.reset).setB ⟨hdr 8 9, 16, 1⟩ true, (CHIP.GCOMMIT) + 1, by decide +kernel⟩⟩

theorem witness_HandsAndRun :
    (∃ (s : State), (s.pwr.st = PState.ready ∨ s.pwr.st = PState.run) ∧ s.domOn 1 = true ∧ s.deal.next = none ∧ s.commits = [] ∧ s.latched = [] ∧ s.img.cfg = none) ∧
    (∃ (h : Hand) (s : State), (s.pwr.st = PState.ready ∨ s.pwr.st = PState.run) ∧ s.domOn 1 = true ∧ s.deal.next = some h ∧ h.first = false) ∧
    (∃ (h : Hand) (s : State), (s.pwr.st = PState.ready ∨ s.pwr.st = PState.run) ∧ s.domOn 1 = true ∧ s.deal.next = some h ∧ h.first = true) ∧
    (∃ (s : State), s.deal.next = none) ∧
    (∃ (h : Hand) (s : State) (a : Nat), s.pwr.st = PState.ready ∧ s.pwr.runPending = true ∧ s.deal.next = some h ∧ h.entry = true ∧ h.first = true ∧ queuePlace a = true) ∧
    (∃ (h : Hand) (s : State) (a : Nat), s.pwr.st = PState.ready ∧ s.pwr.runPending = true ∧ s.deal.next = some h ∧ h.entry = true ∧ h.first = true ∧ memRegion a = 1 ∧ queuePlace a = false) ∧
    (∃ (h : Hand) (s : State) (g : Nat), s.pwr.st = PState.ready ∧ s.pwr.runPending = true ∧ s.deal.next = some h ∧ h.entry = true ∧ h.first = true ∧ g < 4) ∧
    (∃ (s : State), s.pwr.st = PState.run ∧ s.pwr.readyPending = true) :=
  ⟨⟨(fun s : State => { s with img := { s.img with cfg := none } }) ((fun s : State => { s with latched := [] }) ((fun s : State => { s with commits := [] }) ((fun s : State => { s with deal := { s.deal with next := none } }) (((fun s : State => { s with pwr := { s.pwr with st := PState.ready } }) (State.reset)).setDom 1 .on)))), by decide +kernel⟩,
   ⟨({ aHand with first := false } : Hand), (fun s : State => { s with deal := { s.deal with next := some (({ aHand with first := false } : Hand)) } }) (((fun s : State => { s with pwr := { s.pwr with st := PState.ready } }) (State.reset)).setDom 1 .on), by decide +kernel⟩,
   ⟨({ aHand with first := true } : Hand), (fun s : State => { s with deal := { s.deal with next := some (({ aHand with first := true } : Hand)) } }) (((fun s : State => { s with pwr := { s.pwr with st := PState.ready } }) (State.reset)).setDom 1 .on), by decide +kernel⟩,
   ⟨(fun s : State => { s with deal := { s.deal with next := none } }) (State.reset), by decide +kernel⟩,
   ⟨({ aHand with entry := true, first := true } : Hand), (fun s : State => { s with deal := { s.deal with next := some (({ aHand with entry := true, first := true } : Hand)) } }) ((fun s : State => { s with pwr := { s.pwr with runPending := true } }) ((fun s : State => { s with pwr := { s.pwr with st := PState.ready } }) (State.reset))), 0xA00002, by decide +kernel⟩,
   ⟨({ aHand with entry := true, first := true } : Hand), (fun s : State => { s with deal := { s.deal with next := some (({ aHand with entry := true, first := true } : Hand)) } }) ((fun s : State => { s with pwr := { s.pwr with runPending := true } }) ((fun s : State => { s with pwr := { s.pwr with st := PState.ready } }) (State.reset))), 0xA00000, by decide +kernel⟩,
   ⟨({ aHand with entry := true, first := true } : Hand), (fun s : State => { s with deal := { s.deal with next := some (({ aHand with entry := true, first := true } : Hand)) } }) ((fun s : State => { s with pwr := { s.pwr with runPending := true } }) ((fun s : State => { s with pwr := { s.pwr with st := PState.ready } }) (State.reset))), 0, by decide +kernel⟩,
   ⟨(fun s : State => { s with pwr := { s.pwr with readyPending := true } }) ((fun s : State => { s with pwr := { s.pwr with st := PState.run } }) (State.reset)), by decide +kernel⟩⟩

theorem witness_RingSnapshots :
    (∃ (h : Hand) (s : State) (b : Nat), s.deal.next = some h ∧ h.snapped = false ∧ h.skipped = false ∧ (s.pwr.st = PState.run ∧ s.pwr.readyPending = false ∧ s.pwr.target = PState.run ∨ h.entry = true) ∧ s.fb CLK.DROOP.HANDS_HELD = false ∧ s.latched = [] ∧ s.dealerOn = true ∧ b < 64) ∧
    (∃ (h : Hand) (s : State) (a : Nat), s.deal.next = some h ∧ h.snapped = false ∧ h.skipped = false ∧ (s.pwr.st = PState.run ∧ s.pwr.readyPending = false ∧ s.pwr.target = PState.run ∨ h.entry = true) ∧ s.fb CLK.DROOP.HANDS_HELD = false ∧ s.latched = [] ∧ s.dealerOn = true ∧ (queuePlace a = false ∨ h.entry = true)) ∧
    (∃ (h : Hand) (s : State), s.deal.next = some h ∧ h.snapped = false ∧ h.skipped = false ∧ (s.pwr.st = PState.run ∧ s.pwr.readyPending = false ∧ s.pwr.target = PState.run ∨ h.entry = true) ∧ s.fb CLK.DROOP.HANDS_HELD = false ∧ s.latched = [] ∧ s.dealerOn = false) ∧
    (∃ (h : Hand) (s : State), s.deal.next = some h ∧ h.snapped = false ∧ h.skipped = false ∧ (s.pwr.st = PState.run ∧ s.pwr.readyPending = false ∧ s.pwr.target = PState.run ∨ h.entry = true) ∧ s.fb CLK.DROOP.HANDS_HELD = true) ∧
    (∃ (s : State), s.deal.next = none) :=
  ⟨⟨({ aHand with snapped := false, skipped := false } : Hand), (fun s : State => { s with pwr := { s.pwr with target := .run } }) ((fun s : State => { s with pwr := { s.pwr with st := .run } }) ((((fun s : State => { s with latched := [] }) (((fun s : State => { s with deal := { s.deal with next := some (({ aHand with snapped := false, skipped := false } : Hand)) } }) (State.reset)).setB CLK.DROOP.HANDS_HELD false)).setB ⟨hdr 0x10 1, 0, 1⟩ true).setB ⟨hdr 0x11 1, 0, 1⟩ true)), 0, by decide +kernel⟩,
   ⟨({ aHand with snapped := false, skipped := false } : Hand), (fun s : State => { s with pwr := { s.pwr with target := .run } }) ((fun s : State => { s with pwr := { s.pwr with st := .run } }) ((((fun s : State => { s with latched := [] }) (((fun s : State => { s with deal := { s.deal with next := some (({ aHand with snapped := false, skipped := false } : Hand)) } }) (State.reset)).setB CLK.DROOP.HANDS_HELD false)).setB ⟨hdr 0x10 1, 0, 1⟩ true).setB ⟨hdr 0x11 1, 0, 1⟩ true)), 0, by decide +kernel⟩,
   ⟨({ aHand with snapped := false, skipped := false } : Hand), (fun s : State => { s with pwr := { s.pwr with target := .run } }) ((fun s : State => { s with pwr := { s.pwr with st := .run } }) ((fun s : State => { s with latched := [] }) (((fun s : State => { s with deal := { s.deal with next := some (({ aHand with snapped := false, skipped := false } : Hand)) } }) (State.reset)).setB CLK.DROOP.HANDS_HELD false))), by decide +kernel⟩,
   ⟨({ aHand with snapped := false, skipped := false } : Hand), (fun s : State => { s with pwr := { s.pwr with target := .run } }) ((fun s : State => { s with pwr := { s.pwr with st := .run } }) (((fun s : State => { s with deal := { s.deal with next := some (({ aHand with snapped := false, skipped := false } : Hand)) } }) (State.reset)).setB CLK.DROOP.HANDS_HELD true)), by decide +kernel⟩,
   ⟨(fun s : State => { s with deal := { s.deal with next := none } }) (State.reset), by decide +kernel⟩⟩

theorem witness_SlotsAndShots :
    (∃ (g : Fin 4) (j : Fin 64) (h : Hand) (s : State), s.dealerOn = true ∧ ↑j ≠ 0 ∧ s.deal.cur = some h ∧ h.snapped = true ∧ nth h.slots (↑g) 0 = ↑j ∧ ↑j < h.sEff ∧ s.pwr.st = PState.run ∧ s.pwr.target ≠ PState.standby ∧ s.groups.contains ↑g = true ∧ (s.fb STEER.PLAUS.PLAUSIBLE = false ∨ s.laserReady = false)) ∧
    (∃ (g : Fin 4) (j : Fin 64) (h : Hand) (s : State), s.dealerOn = true ∧ ↑j ≠ 0 ∧ s.deal.cur = some h ∧ h.snapped = true ∧ nth h.slots (↑g) 0 = ↑j ∧ ↑j < h.sEff ∧ s.pwr.st = PState.run ∧ s.pwr.target ≠ PState.standby ∧ s.groups.contains ↑g = true ∧ s.fb STEER.PLAUS.PLAUSIBLE = false ∧ s.steer.frame.moved = none) ∧
    (∃ (g : Fin 4) (ext : Bool) (h : Hand) (d : Decision) (s : State), s.deal.cur = some h ∧ nth h.decided (↑g) none = some d ∧ s.dealerOn = true ∧ s.laserReady = true ∧ s.pwr.st = PState.run ∧ s.closesInTime s h d.fire = true ∧ s.fb STEER.PLAUS.PLAUSIBLE = true ∧ s.static = d.static ∧ s.emit.shots.length = 4 ∧ s.ldb.darkFrom = none) ∧
    (∃ (g : Fin 4) (ext : Bool) (h : Hand) (d : Decision) (s : State), s.deal.cur = some h ∧ nth h.decided (↑g) none = some d ∧ s.dealerOn = true ∧ s.laserReady = true ∧ s.pwr.st = PState.run ∧ s.closesInTime s h d.fire = true ∧ s.fb STEER.PLAUS.PLAUSIBLE = false ∧ d.tiles ≠ []) ∧
    (∃ (g : Fin 4) (ext : Bool) (h : Hand) (d : Decision) (s : State), s.deal.cur = some h ∧ nth h.decided (↑g) none = some d ∧ (s.dealerOn = false ∨ s.laserReady = false ∨ s.pwr.st ≠ PState.run)) ∧
    (∃ (g : Fin 4) (ext : Bool) (h : Hand) (d : Decision) (s : State), s.deal.cur = some h ∧ nth h.decided (↑g) none = some d ∧ s.closesInTime s h d.fire = false) ∧
    (∃ (g : Fin 4) (ext : Bool) (s : State), s.deal.cur = none) :=
  ⟨⟨0, 1, ({ aHand with snapped := true, slots := [1, 0, 0, 0] } : Hand), ((fun s : State => { s with pwr := { s.pwr with st := PState.run } }) ((fun s : State => { s with deal := { s.deal with cur := some (({ aHand with snapped := true, slots := [1, 0, 0, 0] } : Hand)) } }) (((State.reset).setB ⟨hdr 0x10 1, 0, 1⟩ true).setB ⟨hdr 0x11 1, 0, 1⟩ true))).setB STEER.PLAUS.PLAUSIBLE false, by decide +kernel⟩,
   ⟨0, 1, ({ aHand with snapped := true, slots := [1, 0, 0, 0] } : Hand), (fun s : State => { s with steer := { s.steer with frame := { s.steer.frame with moved := none } } }) (((fun s : State => { s with pwr := { s.pwr with st := PState.run } }) ((fun s : State => { s with deal := { s.deal with cur := some (({ aHand with snapped := true, slots := [1, 0, 0, 0] } : Hand)) } }) (((State.reset).setB ⟨hdr 0x10 1, 0, 1⟩ true).setB ⟨hdr 0x11 1, 0, 1⟩ true))).setB STEER.PLAUS.PLAUSIBLE false), by decide +kernel⟩,
   ⟨0, false, ({ aHand with decided := [some { aDecision with static := true }, none, none, none] } : Hand), ({ aDecision with static := true } : Decision), (fun s : State => { s with ldb := { s.ldb with darkFrom := none } }) (((fun s : State => { s with pwr := { s.pwr with st := PState.run } }) (((((((((fun s : State => { s with deal := { s.deal with cur := some (({ aHand with decided := [some { aDecision with static := true }, none, none, none] } : Hand)) } }) (State.reset)).setB ⟨hdr 0x10 1, 0, 1⟩ true).setB ⟨hdr 0x11 1, 0, 1⟩ true).setB ⟨hdr 0x12 1, 0, 1⟩ true).setB ⟨hdr 0x13 1, 0, 1⟩ true).setB ⟨hdr 0x14 1, 0, 1⟩ true).setB ⟨hdr 0x15 1, 0, 1⟩ true).setB LDB.STATUS.ENUMERATED true)).setB STEER.PLAUS.PLAUSIBLE true), by decide +kernel⟩,
   ⟨0, false, ({ aHand with decided := [some { aDecision with tiles := [(0, [])] }, none, none, none] } : Hand), ({ aDecision with tiles := [(0, [])] } : Decision), ((fun s : State => { s with pwr := { s.pwr with st := PState.run } }) (((((((((fun s : State => { s with deal := { s.deal with cur := some (({ aHand with decided := [some { aDecision with tiles := [(0, [])] }, none, none, none] } : Hand)) } }) (State.reset)).setB ⟨hdr 0x10 1, 0, 1⟩ true).setB ⟨hdr 0x11 1, 0, 1⟩ true).setB ⟨hdr 0x12 1, 0, 1⟩ true).setB ⟨hdr 0x13 1, 0, 1⟩ true).setB ⟨hdr 0x14 1, 0, 1⟩ true).setB ⟨hdr 0x15 1, 0, 1⟩ true).setB LDB.STATUS.ENUMERATED true)).setB STEER.PLAUS.PLAUSIBLE false, by decide +kernel⟩,
   ⟨0, false, ({ aHand with decided := [some aDecision, none, none, none] } : Hand), aDecision, (fun s : State => { s with deal := { s.deal with cur := some (({ aHand with decided := [some aDecision, none, none, none] } : Hand)) } }) (State.reset), by decide +kernel⟩,
   ⟨0, false, ({ aHand with first := false, decided := [some aDecision, none, none, none] } : Hand), aDecision, (fun s : State => { s with steer := { s.steer with frame := { s.steer.frame with moved := some 10 } } }) ((fun s : State => { s with deal := { s.deal with cur := some (({ aHand with first := false, decided := [some aDecision, none, none, none] } : Hand)) } }) (State.reset)), by decide +kernel⟩,
   ⟨0, false, (fun s : State => { s with deal := { s.deal with cur := none } }) (State.reset), by decide +kernel⟩⟩

theorem witness_HostBidsAndPlaceZero :
    (∃ (src : Port) (d : BitVec 32) (s : State), bitsOf d.toNat 9 4 = 0) ∧
    (∃ (src : Port) (d : BitVec 32) (s : State) (b : Nat), bitsOf d.toNat 9 4 ≠ 0 ∧ bitsOf d.toNat 13 6 ≠ 0 ∧ s.enabled 16 = true ∧ s.enabled 17 = true ∧ s.fb DEAL.BID_CFG.HOST_EN = true ∧ placeLive (s.rd (ringAddr (bitsOf d.toNat 19 13) 0)) = true ∧ s.ringCount (bitsOf d.toNat 19 13) < 15 ∧ (∀ i < s.ringCount (bitsOf d.toNat 19 13), ¬(dClass (s.desc (bitsOf d.toNat 19 13) i).1 = 1 ∧ dSource (s.desc (bitsOf d.toNat 19 13) i).1 = 0)) ∧ b ≠ ringAddr (bitsOf d.toNat 19 13) (queuePos (s.ringHead (bitsOf d.toNat 19 13)) (s.ringCount (bitsOf d.toNat 19 13))) ∧ b ≠ ringAddr (bitsOf d.toNat 19 13) (queuePos (s.ringHead (bitsOf d.toNat 19 13)) (s.ringCount (bitsOf d.toNat 19 13))) + 1) ∧
    (∃ (src : Port) (d : BitVec 32) (s : State) (k : Nat), bitsOf d.toNat 9 4 ≠ 0 ∧ bitsOf d.toNat 13 6 ≠ 0 ∧ s.enabled 16 = true ∧ s.enabled 17 = true ∧ s.fb DEAL.BID_CFG.HOST_EN = true ∧ placeLive (s.rd (ringAddr (bitsOf d.toNat 19 13) 0)) = true ∧ s.ringCount (bitsOf d.toNat 19 13) < 15 ∧ (∀ i < s.ringCount (bitsOf d.toNat 19 13), ¬(dClass (s.desc (bitsOf d.toNat 19 13) i).1 = 1 ∧ dSource (s.desc (bitsOf d.toNat 19 13) i).1 = 0)) ∧ k ≠ bitsOf d.toNat 19 13) ∧
    (∃ (src : Port) (d : BitVec 32) (s : State), bitsOf d.toNat 9 4 ≠ 0 ∧ bitsOf d.toNat 13 6 ≠ 0 ∧ s.enabled 16 = true ∧ s.enabled 17 = true ∧ s.fb DEAL.BID_CFG.HOST_EN = true ∧ placeLive (s.rd (ringAddr (bitsOf d.toNat 19 13) 0)) = false) ∧
    (∃ (src : Port) (tile : Fin 8192) (second : Bool) (d : Word36) (s : State) (b : Nat), (second = true ∨ s.fb LDB.STATUS.ENUMERATED = false) ∧ b ≠ 10485760 + 32 * ↑tile + b2n second) ∧
    (∃ (src : Port) (tile : Fin 8192) (d : Word36) (s : State), s.fb LDB.STATUS.ENUMERATED = true ∧ bitsOf (BitVec.toNat d) 0 13 ≠ bitsOf (BitVec.toNat (s.placeZero ↑tile)) 0 13 ∧ s.ldb.fwd.length < 64) ∧
    (∃ (src : Port) (tile : Fin 8192) (d : Word36) (s : State), s.fb LDB.STATUS.ENUMERATED = true ∧ bitsOf (BitVec.toNat d) 0 13 ≠ bitsOf (BitVec.toNat (s.placeZero ↑tile)) 0 13 ∧ 64 ≤ s.ldb.fwd.length) :=
  ⟨⟨.spi, 0#32, State.reset, by decide +kernel⟩,
   ⟨.spi, 0x4200#32, (fun s : State => s.wr (ringAddr 0 0) (BitVec.ofNat 36 (2 ^ 35))) ((((State.reset).setB ⟨hdr 16 1, 0, 1⟩ true).setB ⟨hdr 17 1, 0, 1⟩ true).setB DEAL.BID_CFG.HOST_EN true), (ringAddr (bitsOf (0x4200#32).toNat 19 13) (queuePos (((fun s : State => s.wr (ringAddr 0 0) (BitVec.ofNat 36 (2 ^ 35))) ((((State.reset).setB ⟨hdr 16 1, 0, 1⟩ true).setB ⟨hdr 17 1, 0, 1⟩ true).setB DEAL.BID_CFG.HOST_EN true)).ringHead (bitsOf (0x4200#32).toNat 19 13)) (((fun s : State => s.wr (ringAddr 0 0) (BitVec.ofNat 36 (2 ^ 35))) ((((State.reset).setB ⟨hdr 16 1, 0, 1⟩ true).setB ⟨hdr 17 1, 0, 1⟩ true).setB DEAL.BID_CFG.HOST_EN true)).ringCount (bitsOf (0x4200#32).toNat 19 13))) + 1) + 1, by decide +kernel⟩,
   ⟨.spi, 0x4200#32, (fun s : State => s.wr (ringAddr 0 0) (BitVec.ofNat 36 (2 ^ 35))) ((((State.reset).setB ⟨hdr 16 1, 0, 1⟩ true).setB ⟨hdr 17 1, 0, 1⟩ true).setB DEAL.BID_CFG.HOST_EN true), (bitsOf (0x4200#32).toNat 19 13) + 1, by decide +kernel⟩,
   ⟨.spi, 0x4200#32, (((State.reset).setB ⟨hdr 16 1, 0, 1⟩ true).setB ⟨hdr 17 1, 0, 1⟩ true).setB DEAL.BID_CFG.HOST_EN true, by decide +kernel⟩,
   ⟨.spi, 0, false, 0#36, State.reset, (10485760 + 32 * (0) + b2n (false)) + 1, by decide +kernel⟩,
   ⟨.spi, 0, 5#36, (State.reset).setB LDB.STATUS.ENUMERATED true, by decide +kernel⟩,
   ⟨.spi, 0, 5#36, (fun s : State => { s with ldb := { s.ldb with fwd := List.replicate 64 (0, 0) } }) ((State.reset).setB LDB.STATUS.ENUMERATED true), by decide +kernel⟩⟩

theorem witness_FiringFrameLoads :
    (∃ (s : State), s.fb EMIT.FF_CTRL.LOADING = false ∧ s.ldb.enumerating = true) ∧
    (∃ (s : State), s.fb EMIT.FF_CTRL.LOADING = false ∧ s.ldb.enumerating = false ∧ s.fb LDB.STATUS.ENUMERATED = true) ∧
    (∃ (s : State), s.fb EMIT.FF_CTRL.LOADING = false ∧ s.ldb.enumerating = false ∧ s.fb LDB.STATUS.ENUMERATED = false ∧ s.ldb.held.length = 2 ∧ s.ffLowestBad (1 - s.f EMIT.FF_CTRL.ACTIVE) = none) ∧
    (∃ (e : Nat) (s : State), s.fb EMIT.FF_CTRL.LOADING = false ∧ s.ldb.enumerating = false ∧ s.fb LDB.STATUS.ENUMERATED = false ∧ s.ffLowestBad (1 - s.f EMIT.FF_CTRL.ACTIVE) = some e) ∧
    (∃ (s : State), s.fb EMIT.FF_CTRL.LOADING = true ∧ s.img.cfg = none ∧ s.ldb.held.length = 2 ∧ s.ffLowestBad (1 - s.f EMIT.FF_CTRL.ACTIVE) = none) ∧
    (∃ (e : Nat) (s : State), s.fb EMIT.FF_CTRL.LOADING = true ∧ s.img.cfg = none ∧ s.ffLowestBad (1 - s.f EMIT.FF_CTRL.ACTIVE) = some e) ∧
    (∃ (tile : Nat) (w : Word36) (rest : List (Nat × Word36)) (s : State) (a : Nat), s.ldb.frame = some (MaintFrame.index tile w) ∧ s.ldb.changing = false ∧ s.ldb.fwd = (tile, w) :: rest ∧ a ≠ 10485760 + 32 * tile) ∧
    (∃ (p : Nat) (f : MaintFrame) (rest : List (Nat × MaintFrame)) (s : State), s.ldb.frame = some f ∧ s.ldb.changing = true ∧ s.ldb.changes = (p, f) :: rest) ∧
    (∃ (tile : Fin 16) (s : State), s.ldb.changing = false ∧ s.ldb.frame = some (MaintFrame.level ↑tile)) ∧
    (∃ (tile : Fin 16) (s : State), s.ldb.changing = false ∧ s.ldb.frame = some (MaintFrame.mask ↑tile)) ∧
    (∃ (s : State), s.ldb.frame = none) :=
  ⟨⟨(fun s : State => { s with ldb := { s.ldb with enumerating := true } }) ((State.reset).setB EMIT.FF_CTRL.LOADING false), by decide +kernel⟩,
   ⟨((fun s : State => { s with ldb := { s.ldb with enumerating := false } }) ((State.reset).setB EMIT.FF_CTRL.LOADING false)).setB LDB.STATUS.ENUMERATED true, by decide +kernel⟩,
   ⟨((fun s : State => { s with ldb := { s.ldb with enumerating := false } }) ((State.reset).setB EMIT.FF_CTRL.LOADING false)).setB LDB.STATUS.ENUMERATED false, by decide +kernel⟩,
   ⟨0, (fun s : State => s.wr (ffAddr 1 0) 0x700#36) ((((fun s : State => { s with ldb := { s.ldb with enumerating := false } }) ((State.reset).setB EMIT.FF_CTRL.LOADING false)).setB LDB.STATUS.ENUMERATED false).setF EMIT.FF_CTRL.FF_SIZE 1), by decide +kernel⟩,
   ⟨(fun s : State => { s with img := { s.img with cfg := none } }) ((State.reset).setB EMIT.FF_CTRL.LOADING true), by decide +kernel⟩,
   ⟨0, (fun s : State => s.wr (ffAddr 1 0) 0x700#36) (((fun s : State => { s with img := { s.img with cfg := none } }) ((State.reset).setB EMIT.FF_CTRL.LOADING true)).setF EMIT.FF_CTRL.FF_SIZE 1), by decide +kernel⟩,
   ⟨0, 0#36, ([] : List (ℕ × Word36)), (fun s : State => { s with ldb := { s.ldb with fwd := ((0), (0#36)) :: (([] : List (ℕ × Word36))) } }) ((fun s : State => { s with ldb := { s.ldb with changing := false } }) ((fun s : State => { s with ldb := { s.ldb with frame := some (MaintFrame.index (0) (0#36)) } }) (State.reset))), (10485760 + 32 * (0)) + 1, by decide +kernel⟩,
   ⟨0, .config, ([] : List (ℕ × MaintFrame)), (fun s : State => { s with ldb := { s.ldb with changes := ((0), (.config)) :: (([] : List (ℕ × MaintFrame))) } }) ((fun s : State => { s with ldb := { s.ldb with changing := true } }) ((fun s : State => { s with ldb := { s.ldb with frame := some (.config) } }) (State.reset))), by decide +kernel⟩,
   ⟨0, (fun s : State => { s with ldb := { s.ldb with frame := some (MaintFrame.level (0)) } }) ((fun s : State => { s with ldb := { s.ldb with changing := false } }) (State.reset)), by decide +kernel⟩,
   ⟨0, (fun s : State => { s with ldb := { s.ldb with frame := some (MaintFrame.mask (0)) } }) ((fun s : State => { s with ldb := { s.ldb with changing := false } }) (State.reset)), by decide +kernel⟩,
   ⟨(fun s : State => { s with ldb := { s.ldb with frame := none } }) (State.reset), by decide +kernel⟩⟩

theorem witness_TileBus :
    (∃ (src : Port) (s : State) (e : Nat × Word36), s.pwr.st = PState.ready ∧ s.enabled 19 = true ∧ s.fb EMIT.FAULT.HAZ = false ∧ s.ldb.fwd.getLast? = some e) ∧
    (∃ (src : Port) (s : State), s.pwr.st ≠ PState.ready) ∧
    (∃ (present : BitVec 16) (s : State) (k : Nat) (i : Nat), s.ldb.enumerating = true ∧ s.ldb.loadWaits = false ∧ s.commits = [] ∧ s.ldb.absent = [] ∧ k < 16 ∧ bitOf (s.f LDB.TILE_EN.EN) k = true ∧ bitOf present.toNat k = false ∧ i < 16) ∧
    (∃ (present : BitVec 16) (s : State) (k : Nat) (i : Nat), s.ldb.enumerating = true ∧ s.ldb.loadWaits = false ∧ s.commits = [] ∧ s.ldb.absent = [] ∧ k < 16 ∧ (bitOf (s.f LDB.TILE_EN.EN) k = false ∨ bitOf present.toNat k = true) ∧ i < 16) ∧
    (∃ (present : BitVec 16) (s : State), s.ldb.enumerating = false) ∧
    (∃ (s : State), s.fb LDB.STATUS.KA = true ∧ s.enabled 19 = true) ∧
    (∃ (s : State), s.fb LDB.STATUS.KA = false) ∧
    (∃ (k : Fin 16) (v : BitVec 48) (s : State), s.fb LDB.STATUS.KA = true ∧ bitOf (s.f LDB.TILE_EN.EN) ↑k = true ∧ replyGood (↑k) v.toNat = true ∧ bitsOf v.toNat 37 3 = 0 ∧ bitsOf v.toNat 10 10 ≤ s.f (EMIT.CLAMP.CLAMP ↑k)) ∧
    (∃ (k : Fin 16) (v : BitVec 48) (s : State), s.fb LDB.STATUS.KA = true ∧ bitOf (s.f LDB.TILE_EN.EN) ↑k = true ∧ replyGood (↑k) v.toNat = true ∧ bitOf v.toNat 39 = true ∧ bitOf v.toNat 38 = false ∧ bitOf v.toNat 37 = false ∧ bitsOf v.toNat 10 10 ≤ s.f (EMIT.CLAMP.CLAMP ↑k)) ∧
    (∃ (k : Fin 16) (r : Option (BitVec 48)) (s : State) (i : Nat), s.fb LDB.STATUS.KA = true ∧ bitOf (s.f LDB.TILE_EN.EN) ↑k = true ∧ s.ldb.missing.length = 16 ∧ Option.any (fun v => replyGood (↑k) v.toNat) r = false ∧ 2 ≤ nth s.ldb.missing (↑k) 0 ∧ ↑k ∉ s.ldb.absent ∧ i < 16) ∧
    (∃ (k : Fin 16) (r : Option (BitVec 48)) (s : State), s.fb LDB.STATUS.KA = true ∧ bitOf (s.f LDB.TILE_EN.EN) ↑k = true ∧ s.ldb.missing.length = 16 ∧ Option.any (fun v => replyGood (↑k) v.toNat) r = false ∧ nth s.ldb.missing (↑k) 0 < 2) ∧
    (∃ (k : Fin 16) (r : Option (BitVec 48)) (s : State) (i : Nat), s.fb LDB.STATUS.KA = true ∧ bitOf (s.f LDB.TILE_EN.EN) ↑k = false ∧ i < 16 ∧ i ≠ ↑k) ∧
    (∃ (k : Fin 16) (r : Option (BitVec 48)) (s : State), s.fb LDB.STATUS.KA = false) :=
  ⟨⟨.spi, (fun s : State => { s with ldb := { s.ldb with fwd := [(0, 0#36)] } }) ((((fun s : State => { s with pwr := { s.pwr with st := PState.ready } }) (State.reset)).setB ⟨hdr 19 1, 0, 1⟩ true).setB EMIT.FAULT.HAZ false), (0, 0#36), by decide +kernel⟩,
   ⟨.spi, State.reset, by decide +kernel⟩,
   ⟨0#16, ((fun s : State => { s with ldb := { s.ldb with absent := [] } }) ((fun s : State => { s with commits := [] }) ((fun s : State => { s with ldb := { s.ldb with loadWaits := false } }) ((fun s : State => { s with ldb := { s.ldb with enumerating := true } }) (State.reset))))).setF LDB.TILE_EN.EN (2 ^ (0)), 0, 0, by decide +kernel⟩,
   ⟨0#16, ((fun s : State => { s with ldb := { s.ldb with absent := [] } }) ((fun s : State => { s with commits := [] }) ((fun s : State => { s with ldb := { s.ldb with loadWaits := false } }) ((fun s : State => { s with ldb := { s.ldb with enumerating := true } }) (State.reset))))).setF LDB.TILE_EN.EN (0), 0, 0, by decide +kernel⟩,
   ⟨0#16, (fun s : State => { s with ldb := { s.ldb with enumerating := false } }) (State.reset), by decide +kernel⟩,
   ⟨((State.reset).setB LDB.STATUS.KA true).setB ⟨hdr 19 1, 0, 1⟩ true, by decide +kernel⟩,
   ⟨(State.reset).setB LDB.STATUS.KA false, by decide +kernel⟩,
   ⟨0, BitVec.ofNat 48 (((0xB * 2 ^ 36) * 256) + crc8 [(0xB * 2 ^ 36, 40)]), ((State.reset).setB LDB.STATUS.KA true).setF LDB.TILE_EN.EN (2 ^ (0)), by decide +kernel⟩,
   ⟨0, BitVec.ofNat 48 (((0xB * 2 ^ 36 + 2 ^ 31) * 256) + crc8 [(0xB * 2 ^ 36 + 2 ^ 31, 40)]), ((State.reset).setB LDB.STATUS.KA true).setF LDB.TILE_EN.EN (2 ^ (0)), by decide +kernel⟩,
   ⟨0, (none : Option (BitVec 48)), (fun s : State => { s with ldb := { s.ldb with missing := List.replicate 16 2 } }) (((State.reset).setB LDB.STATUS.KA true).setF LDB.TILE_EN.EN (2 ^ (0))), 0, by decide +kernel⟩,
   ⟨0, (none : Option (BitVec 48)), ((State.reset).setB LDB.STATUS.KA true).setF LDB.TILE_EN.EN (2 ^ (0)), by decide +kernel⟩,
   ⟨0, (none : Option (BitVec 48)), ((State.reset).setB LDB.STATUS.KA true).setF LDB.TILE_EN.EN (0), ((0)) + 1, by decide +kernel⟩,
   ⟨0, (none : Option (BitVec 48)), (State.reset).setB LDB.STATUS.KA false, by decide +kernel⟩⟩

theorem witness_HazardousFaults :
    (∃ (k : Fin 16) (s : State), s.laserOn = true ∧ bitOf (s.f EMIT.MPD_USE.USED) ↑k = true ∧ s.fb EMIT.FAULT.HAZ = false) ∧
    (∃ (k : Fin 16) (s : State), s.laserOn = true ∧ s.fb EMIT.FAULT.HAZ = false) ∧
    (∃ (s : State), s.laserOn = true ∧ s.fb LDB.STATUS.KA = true ∧ s.fb LDB.STATUS.RECOVERING = false ∧ s.fb EMIT.FAULT.HAZ = false) ∧
    (∃ (s : State), s.fb LDB.STATUS.RECOVERING = true ∧ s.fb EMIT.FAULT.HAZ = false ∧ s.enabled 19 = true) ∧
    (∃ (src : Port) (s : State), s.pwr.st = PState.ready ∧ bitOf (s.f SUPV.DIAG.FAIL) 0 = false ∧ s.f HK.STEP.DIE_STEP < 2 ∧ s.f HK.STEP.LAS_STEP < 2 ∧ s.enabled 19 = true) ∧
    (∃ (src : Port) (present : Bool) (s : State), (s.pwr.st ≠ PState.ready ∨ present = true)) :=
  ⟨⟨0, ((((fun s : State => { s with pwr := { s.pwr with st := .ready } }) (State.reset)).setDom 1 .on).setF EMIT.MPD_USE.USED (2 ^ (0))).setB EMIT.FAULT.HAZ false, by decide +kernel⟩,
   ⟨0, (((fun s : State => { s with pwr := { s.pwr with st := .ready } }) (State.reset)).setDom 1 .on).setB EMIT.FAULT.HAZ false, by decide +kernel⟩,
   ⟨(((((fun s : State => { s with pwr := { s.pwr with st := .ready } }) (State.reset)).setDom 1 .on).setB LDB.STATUS.KA true).setB LDB.STATUS.RECOVERING false).setB EMIT.FAULT.HAZ false, by decide +kernel⟩,
   ⟨(((State.reset).setB LDB.STATUS.RECOVERING true).setB EMIT.FAULT.HAZ false).setB ⟨hdr 19 1, 0, 1⟩ true, by decide +kernel⟩,
   ⟨.spi, (((fun s : State => { s with pwr := { s.pwr with st := PState.ready } }) (State.reset)).setF SUPV.DIAG.FAIL (0)).setB ⟨hdr 19 1, 0, 1⟩ true, by decide +kernel⟩,
   ⟨.spi, false, State.reset, by decide +kernel⟩⟩

theorem witness_GovernorAndMonitor :
    (∃ (s : State), s.fb STEER.PLAUS.PLAUSIBLE = true ∧ s.fb STEER.PLAUS.UNCERTAIN = false) ∧
    (∃ (s : State), (s.fb STEER.PLAUS.PLAUSIBLE = false ∨ s.fb STEER.PLAUS.UNCERTAIN = true)) ∧
    (∃ (k : Fin 16) (g : Fin 4) (charge : Nat) (s : State), s.shotCells ↑g ↑k ≠ [] ∧ bitOf (s.f EMIT.MPD_USE.USED) ↑k = true ∧ charge ≠ 0 ∧ List.foldl (fun n c => n + c.nominal) 0 (s.shotCells ↑g ↑k) ≠ 0 ∧ s.emit.mpd.length = 16 ∧ (nth s.emit.mpd ↑k { }).count + 1 < 256) ∧
    (∃ (k : Fin 16) (g : Fin 4) (charge : Nat) (s : State), s.shotCells ↑g ↑k ≠ [] ∧ bitOf (s.f EMIT.MPD_USE.USED) ↑k = true ∧ charge ≠ 0 ∧ List.foldl (fun n c => n + c.nominal) 0 (s.shotCells ↑g ↑k) ≠ 0 ∧ s.emit.mpd.length = 16 ∧ 256 ≤ (nth s.emit.mpd ↑k { }).count + 1) ∧
    (∃ (k : Fin 16) (g : Fin 4) (charge : Nat) (s : State) (i : Nat), s.shotCells ↑g ↑k ≠ [] ∧ bitOf (s.f EMIT.MPD_USE.USED) ↑k = true ∧ charge ≠ 0 ∧ List.foldl (fun n c => n + c.nominal) 0 (s.shotCells ↑g ↑k) ≠ 0 ∧ s.emit.mpd.length = 16 ∧ i ≠ ↑k) ∧
    (∃ (k : Fin 16) (g : Fin 4) (charge : Nat) (excluded : Bool) (s : State), s.shotCells ↑g ↑k = [] ∧ (nth s.emit.mpd ↑k { }).dark < 256) ∧
    (∃ (s : State) (k : Nat), s.fb EMIT.MPD_CFG.LOOP_EN = true ∧ s.laserOn = true ∧ s.f EMIT.MPD_CFG.TRIM_MAX ≤ 63 ∧ k < 16 ∧ bitOf (s.f EMIT.MPD_USE.USED) k = false) ∧
    (∃ (s : State) (k : Nat), s.fb EMIT.MPD_CFG.LOOP_EN = true ∧ s.laserOn = true ∧ s.f EMIT.MPD_CFG.TRIM_MAX ≤ 63 ∧ k < 16 ∧ bitOf (s.f EMIT.MPD_USE.USED) k = true) ∧
    (∃ (s : State), s.fb EMIT.MPD_CFG.LOOP_EN = false) :=
  ⟨⟨((State.reset).setB STEER.PLAUS.PLAUSIBLE true).setB STEER.PLAUS.UNCERTAIN false, by decide +kernel⟩,
   ⟨(State.reset).setB STEER.PLAUS.PLAUSIBLE false, by decide +kernel⟩,
   ⟨0, 0, 1, (fun s : State => { s with emit := { s.emit with shots := [some { group := 0, slot := 0, opening := true, fire := 0, tag := 0, bands := [], cells := [{ cell := 0, energy := 10, nominal := 10 }] }, none, none, none] } }) ((State.reset).setF EMIT.MPD_USE.USED (2 ^ (0))), by decide +kernel⟩,
   ⟨0, 0, 1, (fun s : State => { s with emit := { s.emit with mpd := (List.replicate 16 { (nth s.emit.mpd 0 {}) with count := 255 }) } }) ((fun s : State => { s with emit := { s.emit with shots := [some { group := 0, slot := 0, opening := true, fire := 0, tag := 0, bands := [], cells := [{ cell := 0, energy := 10, nominal := 10 }] }, none, none, none] } }) ((State.reset).setF EMIT.MPD_USE.USED (2 ^ (0)))), by decide +kernel⟩,
   ⟨0, 0, 1, (fun s : State => { s with emit := { s.emit with shots := [some { group := 0, slot := 0, opening := true, fire := 0, tag := 0, bands := [], cells := [{ cell := 0, energy := 10, nominal := 10 }] }, none, none, none] } }) ((State.reset).setF EMIT.MPD_USE.USED (2 ^ (0))), ((0)) + 1, by decide +kernel⟩,
   ⟨0, 0, 0, false, State.reset, by decide +kernel⟩,
   ⟨(((fun s : State => { s with pwr := { s.pwr with st := .ready } }) ((State.reset).setB EMIT.MPD_CFG.LOOP_EN true)).setDom 1 .on).setF EMIT.MPD_USE.USED (0), 0, by decide +kernel⟩,
   ⟨(((fun s : State => { s with pwr := { s.pwr with st := .ready } }) ((State.reset).setB EMIT.MPD_CFG.LOOP_EN true)).setDom 1 .on).setF EMIT.MPD_USE.USED (2 ^ (0)), 0, by decide +kernel⟩,
   ⟨(State.reset).setB EMIT.MPD_CFG.LOOP_EN false, by decide +kernel⟩⟩

theorem witness_SenseChannels :
    (∃ (n : Fin 8) (bits : List Bool) (at_ : Nat) (s : State), s.enabled 21 = true ∧ s.fb (SENSE.CFG.EN ↑n) = true ∧ s.domOn 1 = true) ∧
    (∃ (n : Fin 8) (bits : List Bool) (at_ : Nat) (s : State), (s.enabled 21 = false ∨ s.fb (SENSE.CFG.EN ↑n) = false)) ∧
    (∃ (n : Fin 8) (s : State), s.enabled 21 = true ∧ s.fb (SENSE.CFG.EN ↑n) = true ∧ s.fb (SENSE.STAT.OPEN ↑n) = true ∧ (∀ k < 8, s.fb (SENSE.TONE.EN k) = true → s.f (SENSE.TONE.CH k) ≠ ↑n)) ∧
    (∃ (k : Fin 8) (s : State) (i : Nat), s.enabled 21 = true ∧ s.fb (SENSE.TONE.EN ↑k) = true ∧ s.fb (SENSE.CFG.EN (s.f (SENSE.TONE.CH ↑k))) = true ∧ s.steer.sense.length = 8 ∧ i ≠ s.f (SENSE.TONE.CH ↑k)) ∧
    (∃ (k : Fin 8) (uv : Nat) (off : Bool) (s : State), (s.senseCh (s.f (SENSE.TONE.CH ↑k))).checking = true ∧ s.f (SENSE.TONE.AMP ↑k) ≠ 0 ∧ s.fb (SENSE.STAT.OPEN (s.f (SENSE.TONE.CH ↑k))) = false ∧ (min 65535 (2 * uv / s.f (SENSE.TONE.AMP ↑k)) < s.f (SENSE.IMP_WIN.IMP_MIN (s.f (SENSE.TONE.CH ↑k))) ∨ s.f (SENSE.IMP_WIN.IMP_MAX (s.f (SENSE.TONE.CH ↑k))) < min 65535 (2 * uv / s.f (SENSE.TONE.AMP ↑k)))) ∧
    (∃ (k : Fin 8) (uv : Nat) (s : State), (s.senseCh (s.f (SENSE.TONE.CH ↑k))).checking = true ∧ s.f (SENSE.TONE.AMP ↑k) ≠ 0 ∧ s.fb (SENSE.STAT.OPEN (s.f (SENSE.TONE.CH ↑k))) = true ∧ s.f (SENSE.IMP_WIN.IMP_MIN (s.f (SENSE.TONE.CH ↑k))) ≤ min 65535 (2 * uv / s.f (SENSE.TONE.AMP ↑k)) ∧ min 65535 (2 * uv / s.f (SENSE.TONE.AMP ↑k)) ≤ s.f (SENSE.IMP_WIN.IMP_MAX (s.f (SENSE.TONE.CH ↑k)))) ∧
    (∃ (k : Fin 8) (uv : Nat) (off : Bool) (s : State), (s.senseCh (s.f (SENSE.TONE.CH ↑k))).checking = false) :=
  ⟨⟨0, ([] : List Bool), 0, (((State.reset).setB ⟨hdr 21 1, 0, 1⟩ true).setB (SENSE.CFG.EN (0)) true).setDom 1 .on, by decide +kernel⟩,
   ⟨0, ([] : List Bool), 0, (State.reset).setB ⟨hdr 21 1, 0, 1⟩ false, by decide +kernel⟩,
   ⟨0, (((State.reset).setB ⟨hdr 21 1, 0, 1⟩ true).setB (SENSE.CFG.EN (0)) true).setB (SENSE.STAT.OPEN (0)) true, by decide +kernel⟩,
   ⟨0, (fun s : State => s.setB (SENSE.CFG.EN (s.f (SENSE.TONE.CH (0)))) true) (((State.reset).setB ⟨hdr 21 1, 0, 1⟩ true).setB (SENSE.TONE.EN (0)) true), (((fun s : State => s.setB (SENSE.CFG.EN (s.f (SENSE.TONE.CH (0)))) true) (((State.reset).setB ⟨hdr 21 1, 0, 1⟩ true).setB (SENSE.TONE.EN (0)) true)).f (SENSE.TONE.CH (0))) + 1, by decide +kernel⟩,
   ⟨0, 0, false, ((fun s : State => s.setB (SENSE.STAT.OPEN (s.f (SENSE.TONE.CH (0)))) false) (((fun s : State => s.setSenseCh (s.f (SENSE.TONE.CH (0))) { s.senseCh (s.f (SENSE.TONE.CH (0))) with checking := true }) (State.reset)).setF (SENSE.TONE.AMP (0)) 1)).setF (SENSE.IMP_WIN.IMP_MIN 0) 5, by decide +kernel⟩,
   ⟨0, 0, (fun s : State => s.setB (SENSE.STAT.OPEN (s.f (SENSE.TONE.CH (0)))) true) (((fun s : State => s.setSenseCh (s.f (SENSE.TONE.CH (0))) { s.senseCh (s.f (SENSE.TONE.CH (0))) with checking := true }) (State.reset)).setF (SENSE.TONE.AMP (0)) 1), by decide +kernel⟩,
   ⟨0, 0, false, (fun s : State => s.setSenseCh (s.f (SENSE.TONE.CH (0))) { s.senseCh (s.f (SENSE.TONE.CH (0))) with checking := false }) (State.reset), by decide +kernel⟩⟩

theorem witness_MirrorDriveAndSync :
    (∃ (a : Fin 2) (late : Bool) (code : Int) (rest : List Int) (s : State), (s.axis ↑a).due = code :: rest ∧ s.steer.axes.length = 2 ∧ (late = false ∨ 80 ≤ s.f STEER.PLAUS_CFG.DAC_LAT)) ∧
    (∃ (a : Fin 2) (code : Int) (rest : List Int) (s : State), (s.axis ↑a).due = code :: rest ∧ s.steer.axes.length = 2 ∧ s.f STEER.PLAUS_CFG.DAC_LAT < 80 ∧ 3 ≤ (s.axis ↑a).missed) ∧
    (∃ (a : Fin 2) (late : Bool) (s : State), (s.axis ↑a).due = []) ∧
    (∃ (edge : Nat) (s : State), s.steer.frame.sync = false ∧ s.timeSet = none ∧ s.commits = [] ∧ s.ispHeld = none ∧ s.img.cfg = none) ∧
    (∃ (edge : Nat) (v : TimeSet) (s : State), s.steer.frame.sync = false ∧ s.timeSet = some v ∧ s.commits = [] ∧ s.ispHeld = none ∧ s.img.cfg = none) ∧
    (∃ (edge : Nat) (r : CommitReq) (s : State), s.steer.frame.sync = false ∧ s.timeSet = none ∧ s.commits = [r] ∧ r.boundary = 3 ∧ lidarPage r.page = true ∧ s.ispHeld = none ∧ s.img.cfg = none) ∧
    (∃ (edge : Nat) (last : Nat) (s : State), s.steer.frame.sync = true ∧ s.steer.frame.lastEdge = some last ∧ edge < last + s.steer.frame.pEst / 131072) ∧
    (∃ (edge : Nat) (s : State), s.steer.frame.sync = true ∧ (∀ (last : ℕ), s.steer.frame.lastEdge = some last → last + s.steer.frame.pEst / 131072 ≤ edge) ∧ s.timeSet = none ∧ s.commits = [] ∧ s.ispHeld = none ∧ s.img.cfg = none ∧ s.steer.frame.restart = false ∧ 20833334 * 65536 ≤ s.steer.frame.pEst ∧ s.steer.frame.pEst ≤ 125000000 * 65536 ∧ s.f STEER.LOCK_CFG.LOCK_TOL < (s.syncPhase (edge + s.f STEER.SYNC_DELAY.VALUE)).natAbs) ∧
    (∃ (edge : Nat) (s : State), s.steer.frame.sync = true ∧ s.steer.frame.lastEdge = none ∧ s.timeSet = none ∧ s.commits = [] ∧ s.ispHeld = none ∧ s.img.cfg = none ∧ s.steer.frame.restart = true ∧ ¬(s.pwr.st = PState.run ∧ s.steer.mode = 2)) ∧
    (∃ (last : Nat) (s : State), s.steer.frame.sync = true ∧ s.steer.frame.lastEdge = some last ∧ s.fb STEER.LOCK_STAT.SYNC_LOST = false) ∧
    (∃ (s : State), s.steer.frame.sync = false) :=
  ⟨⟨0, false, 0, ([] : List ℤ), (fun s : State => s.setAxis (0) { s.axis (0) with due := (0) :: (([] : List ℤ)) }) (State.reset), by decide +kernel⟩,
   ⟨0, 0, ([] : List ℤ), (fun s : State => s.setAxis 0 { s.axis 0 with missed := 3 }) (((fun s : State => s.setAxis (0) { s.axis (0) with due := (0) :: (([] : List ℤ)) }) (State.reset)).setF STEER.PLAUS_CFG.DAC_LAT 10), by decide +kernel⟩,
   ⟨0, false, (fun s : State => s.setAxis (0) { s.axis (0) with due := [] }) (State.reset), by decide +kernel⟩,
   ⟨0, (fun s : State => { s with img := { s.img with cfg := none } }) ((fun s : State => { s with ispHeld := none }) ((fun s : State => { s with commits := [] }) ((fun s : State => { s with timeSet := none }) ((fun s : State => { s with steer := { s.steer with frame := { s.steer.frame with sync := false } } }) (State.reset))))), by decide +kernel⟩,
   ⟨0, ({ value := 5, packet := false } : TimeSet), (fun s : State => { s with img := { s.img with cfg := none } }) ((fun s : State => { s with ispHeld := none }) ((fun s : State => { s with commits := [] }) ((fun s : State => { s with timeSet := some (({ value := 5, packet := false } : TimeSet)) }) ((fun s : State => { s with steer := { s.steer with frame := { s.steer.frame with sync := false } } }) (State.reset))))), by decide +kernel⟩,
   ⟨0, ({ aRequest with boundary := 3 } : CommitReq), (fun s : State => { s with img := { s.img with cfg := none } }) ((fun s : State => { s with ispHeld := none }) ((fun s : State => { s with commits := [(({ aRequest with boundary := 3 } : CommitReq))] }) ((fun s : State => { s with timeSet := none }) ((fun s : State => { s with steer := { s.steer with frame := { s.steer.frame with sync := false } } }) (State.reset))))), by decide +kernel⟩,
   ⟨0, 0, (fun s : State => { s with steer := { s.steer with frame := { s.steer.frame with lastEdge := some (0) } } }) ((fun s : State => { s with steer := { s.steer with frame := { s.steer.frame with sync := true } } }) (State.reset)), by decide +kernel⟩,
   ⟨1000000000, (fun s : State => { s with steer := { s.steer with frame := { s.steer.frame with restart := false } } }) ((fun s : State => { s with img := { s.img with cfg := none } }) ((fun s : State => { s with ispHeld := none }) ((fun s : State => { s with commits := [] }) ((fun s : State => { s with timeSet := none }) ((fun s : State => { s with steer := { s.steer with frame := { s.steer.frame with sync := true } } }) (State.reset)))))), by decide +kernel⟩,
   ⟨0, (fun s : State => { s with steer := { s.steer with frame := { s.steer.frame with restart := true } } }) ((fun s : State => { s with img := { s.img with cfg := none } }) ((fun s : State => { s with ispHeld := none }) ((fun s : State => { s with commits := [] }) ((fun s : State => { s with timeSet := none }) ((fun s : State => { s with steer := { s.steer with frame := { s.steer.frame with lastEdge := none } } }) ((fun s : State => { s with steer := { s.steer with frame := { s.steer.frame with sync := true } } }) (State.reset))))))), by decide +kernel⟩,
   ⟨0, ((fun s : State => { s with steer := { s.steer with frame := { s.steer.frame with lastEdge := some (0) } } }) ((fun s : State => { s with steer := { s.steer with frame := { s.steer.frame with sync := true } } }) (State.reset))).setB STEER.LOCK_STAT.SYNC_LOST false, by decide +kernel⟩,
   ⟨(fun s : State => { s with steer := { s.steer with frame := { s.steer.frame with sync := false } } }) (State.reset), by decide +kernel⟩⟩

theorem witness_EdgesAndConversions :
    (∃ (r : Fin 384) (c : Fin 384) (at_ : Nat) (arm : Bool) (a : Armed) (s : State) (d : Nat), s.channelOf ↑r = some ↑c ∧ s.chanOff ↑c = false ∧ s.chanCal ↑c = false ∧ s.ret.chans.length = 384 ∧ (s.chan ↑c).shot = some a ∧ a.open_ ≤ at_ ∧ at_ < a.close ∧ (∀ (l : ℕ), (s.chan ↑c).lastEdge = some l → l + 160 * s.f (AFE.CFG.DEAD (↑r / 48) (↑r % 48)) ≤ at_) ∧ (∀ (l : ℕ), (s.chan ↑c).lastTimed = some l → l + 3200 ≤ at_) ∧ s.fb (TDC.STAT.ON_KITTY (↑c / 48) (↑c % 48)) = false ∧ s.fb (TDC.STAT.FAILED (↑c / 48) (↑c % 48)) = false ∧ s.f (TDC.WIN.ARMX (↑c / 48)) ≠ 2 ∧ d ≠ ↑c) ∧
    (∃ (r : Fin 384) (c : Fin 384) (at_ : Nat) (l : Nat) (arm : Bool) (a : Armed) (s : State), s.channelOf ↑r = some ↑c ∧ s.chanOff ↑c = false ∧ s.chanCal ↑c = false ∧ s.ret.chans.length = 384 ∧ (s.chan ↑c).shot = some a ∧ a.open_ ≤ at_ ∧ at_ < a.close ∧ (∀ (l : ℕ), (s.chan ↑c).lastEdge = some l → l + 160 * s.f (AFE.CFG.DEAD (↑r / 48) (↑r % 48)) ≤ at_) ∧ (s.chan ↑c).lastTimed = some l ∧ at_ < l + 3200) ∧
    (∃ (r : Fin 384) (at_ : Nat) (arm : Bool) (s : State), s.channelOf ↑r = none) ∧
    (∃ (r : Fin 384) (at_ : Nat) (arm : Bool) (s : State) (c : Nat), s.channelOf ↑r = some c ∧ (s.chanOff c = true ∨ s.chanCal c = true ∨ ∃ l, (s.chan c).lastEdge = some l ∧ at_ < l + 160 * s.f (AFE.CFG.DEAD (↑r / 48) (↑r % 48)))) ∧
    (∃ (c : Fin 384) (raw : Fin 1024) (tot : TotEdges) (diff : Nat) (e : Capture) (es : List Capture) (s : State), s.ret.chans.length = 384 ∧ (s.chan ↑c).edges = e :: es ∧ e.kitty = none ∧ e.drop = false ∧ (s.chan ↑c).loopLost = false ∧ healthCause (s.f (TDC.LIN.RAW_LO (↑c / 48) (↑c % 48))) (s.f (TDC.LIN.RAW_HI (↑c / 48) (↑c % 48))) (↑raw) diff = none ∧ ↑e.start ≤ s.timeOf (↑c) none e.n ↑raw ∧ s.timeOf (↑c) none e.n ↑raw < ↑e.stop ∧ bufferFill (s.chan ↑c).out none < 40) ∧
    (∃ (c : Fin 384) (raw : Fin 1024) (tot : TotEdges) (diff : Nat) (e : Capture) (es : List Capture) (s : State), s.ret.chans.length = 384 ∧ (s.chan ↑c).edges = e :: es ∧ e.kitty = none ∧ e.drop = false ∧ (s.chan ↑c).loopLost = false ∧ healthCause (s.f (TDC.LIN.RAW_LO (↑c / 48) (↑c % 48))) (s.f (TDC.LIN.RAW_HI (↑c / 48) (↑c % 48))) (↑raw) diff = none ∧ ↑e.start ≤ s.timeOf (↑c) none e.n ↑raw ∧ s.timeOf (↑c) none e.n ↑raw < ↑e.stop ∧ 40 ≤ bufferFill (s.chan ↑c).out none) ∧
    (∃ (c : Fin 384) (raw : Fin 1024) (tot : TotEdges) (diff : Nat) (e : Capture) (es : List Capture) (s : State), s.ret.chans.length = 384 ∧ (s.chan ↑c).edges = e :: es ∧ e.kitty = none ∧ e.drop = false ∧ (s.chan ↑c).loopLost = false ∧ healthCause (s.f (TDC.LIN.RAW_LO (↑c / 48) (↑c % 48))) (s.f (TDC.LIN.RAW_HI (↑c / 48) (↑c % 48))) (↑raw) diff = none ∧ (s.timeOf (↑c) none e.n ↑raw < ↑e.start ∨ ↑e.stop ≤ s.timeOf (↑c) none e.n ↑raw)) ∧
    (∃ (c : Fin 384) (raw : Fin 1024) (tot : TotEdges) (diff : Nat) (e : Capture) (es : List Capture) (s : State) (d : Nat), s.ret.chans.length = 384 ∧ (s.chan ↑c).edges = e :: es ∧ e.kitty = none ∧ e.drop = false ∧ (s.chan ↑c).loopLost = false ∧ healthCause (s.f (TDC.LIN.RAW_LO (↑c / 48) (↑c % 48))) (s.f (TDC.LIN.RAW_HI (↑c / 48) (↑c % 48))) (↑raw) diff = none ∧ d ≠ ↑c) ∧
    (∃ (c : Fin 384) (w : Word36) (tot : Nat) (q : Option Nat) (r : List OutItem) (s : State) (d : Nat), (s.chan ↑c).out = OutItem.event w tot q :: r ∧ fifoFill (s.fifo (↑c / 12)) < 2048 ∧ s.ret.chans.length = 384 ∧ s.hist.fifos.length = 32 ∧ d ≠ ↑c) ∧
    (∃ (c : Fin 384) (w : Word36) (tot : Nat) (q : Option Nat) (r : List OutItem) (s : State) (k : Nat), (s.chan ↑c).out = OutItem.event w tot q :: r ∧ fifoFill (s.fifo (↑c / 12)) < 2048 ∧ s.ret.chans.length = 384 ∧ s.hist.fifos.length = 32 ∧ k ≠ ↑c / 12) ∧
    (∃ (c : Fin 384) (m : Bool) (r : List OutItem) (s : State) (d : Nat), (s.chan ↑c).out = OutItem.marker m :: r ∧ (∀ i ∈ r, ∃ b, i = OutItem.marker b) ∧ fifoFill (s.fifo (↑c / 12)) < 2048 ∧ s.ret.chans.length = 384 ∧ s.hist.fifos.length = 32 ∧ d ≠ ↑c) ∧
    (∃ (c : Fin 384) (m : Bool) (r : List OutItem) (s : State) (k : Nat), (s.chan ↑c).out = OutItem.marker m :: r ∧ (∀ i ∈ r, ∃ b, i = OutItem.marker b) ∧ fifoFill (s.fifo (↑c / 12)) < 2048 ∧ s.ret.chans.length = 384 ∧ s.hist.fifos.length = 32 ∧ k ≠ ↑c / 12) ∧
    (∃ (c : Fin 384) (s : State), 2048 ≤ fifoFill (s.fifo (↑c / 12))) ∧
    (∃ (c : Fin 384) (high : Bool) (h : Hand) (s : State), s.handOf (s.chan ↑c).markHand = some h ∧ s.ret.chans.length = 384 ∧ (s.chan ↑c).sum.disabled = false ∧ (s.chan ↑c).marks < h.sEff ∧ (s.chan ↑c).marks + 1 < h.sEff) ∧
    (∃ (c : Fin 384) (high : Bool) (h : Hand) (s : State), s.handOf (s.chan ↑c).markHand = some h ∧ s.ret.chans.length = 384 ∧ (s.chan ↑c).sum.disabled = false ∧ (s.chan ↑c).marks < h.sEff ∧ h.sEff ≤ (s.chan ↑c).marks + 1) ∧
    (∃ (c : Fin 384) (high : Bool) (h : Hand) (s : State), s.handOf (s.chan ↑c).markHand = some h ∧ s.ret.chans.length = 384 ∧ (s.chan ↑c).sum.disabled = false ∧ (s.chan ↑c).marks < h.sEff ∧ (s.chan ↑c).armedSlots.contains (h.count, (s.chan ↑c).marks) = true ∧ high = true ∧ (s.chan ↑c).stuck = 63) ∧
    (∃ (c : Fin 384) (high : Bool) (h : Hand) (s : State) (d : Nat), s.handOf (s.chan ↑c).markHand = some h ∧ s.ret.chans.length = 384 ∧ (s.chan ↑c).sum.disabled = false ∧ (s.chan ↑c).marks < h.sEff ∧ d ≠ ↑c) ∧
    (∃ (n : Nat) (raw : Fin 1024) (tot : TotEdges) (diff : Nat) (d : DummyEdge) (s : State), s.ret.dummy = some d ∧ s.f HIST.MODE.MODE ≠ 2 ∧ s.supv.dummyFails < 2 ∧ s.supv.dummyPasses < 63 ∧ healthCause (s.f (KITTY.LIN.RAW_LO d.kitty)) (s.f (KITTY.LIN.RAW_HI d.kitty)) (↑raw) diff = none ∧ (128 * (↑n + 1) - fineCode (s.f (KITTY.LIN.RAW_LO d.kitty)) (s.f (KITTY.LIN.RAW_HI d.kitty)) (s.f (KITTY.INL_A.INL d.kitty)) (s.f (KITTY.INL_B.INL d.kitty)) ↑raw - s.dummyExpected).natAbs ≤ s.f KITTY.DUMMY_CFG.TOL) ∧
    (∃ (n : Nat) (raw : Fin 1024) (tot : TotEdges) (diff : Nat) (d : DummyEdge) (s : State), s.ret.dummy = some d ∧ s.f HIST.MODE.MODE ≠ 2 ∧ s.supv.dummyFails < 2 ∧ s.supv.dummyPasses < 63 ∧ healthCause (s.f (KITTY.LIN.RAW_LO d.kitty)) (s.f (KITTY.LIN.RAW_HI d.kitty)) (↑raw) diff = none ∧ s.f KITTY.DUMMY_CFG.TOL < (128 * (↑n + 1) - fineCode (s.f (KITTY.LIN.RAW_LO d.kitty)) (s.f (KITTY.LIN.RAW_HI d.kitty)) (s.f (KITTY.INL_A.INL d.kitty)) (s.f (KITTY.INL_B.INL d.kitty)) ↑raw - s.dummyExpected).natAbs) ∧
    (∃ (d : DummyEdge) (s : State), s.ret.dummy = some d ∧ s.supv.dummyFails < 2) ∧
    (∃ (s : State), s.ret.dummy = none) :=
  ⟨⟨0, 0, 0, false, anArmed, ((((((fun s : State => s.updChan (0) fun z9 => { z9 with shot := some (anArmed) }) ((((State.reset).setB ⟨hdr (40 + (0) / 48) 1, 0, 1⟩ true).setB (TDC.MAP.EN ((0) / 48) ((0) % 48)) true).setB ⟨hdr (32 + (0) / 48) 1, 0, 1⟩ true)).setB (TDC.STAT.ON_KITTY ((0) / 48) ((0) % 48)) false).setB (TDC.STAT.FAILED ((0) / 48) ((0) % 48)) false).setF (TDC.WIN.ARMX ((0) / 48)) 0).setB (TDC.MAP.EN 0 0) true).setB (AFE.CFG.EN 0 0) true, ((0)) + 1, by decide +kernel⟩,
   ⟨0, 0, 0, 0, false, anArmed, (((fun s : State => s.updChan (0) fun z9 => { z9 with lastTimed := some (0) }) ((fun s : State => s.updChan (0) fun z9 => { z9 with shot := some (anArmed) }) ((((State.reset).setB ⟨hdr (40 + (0) / 48) 1, 0, 1⟩ true).setB (TDC.MAP.EN ((0) / 48) ((0) % 48)) true).setB ⟨hdr (32 + (0) / 48) 1, 0, 1⟩ true))).setB (TDC.MAP.EN 0 0) true).setB (AFE.CFG.EN 0 0) true, by decide +kernel⟩,
   ⟨0, 0, false, State.reset, by decide +kernel⟩,
   ⟨0, 0, false, (State.reset).setB (TDC.MAP.EN 0 0) true, 0, by decide +kernel⟩,
   ⟨0, 20, ({ rise := some 10, fall := 20 } : TotEdges), 0, ({ tag := 0, n := 3, start := 0, stop := 100000, drop := false, kitty := none } : Capture), ([] : List Capture), (((fun s : State => s.updChan (0) fun z9 => { z9 with loopLost := false }) ((fun s : State => s.updChan (0) fun z9 => { z9 with edges := (({ tag := 0, n := 3, start := 0, stop := 100000, drop := false, kitty := none } : Capture)) :: (([] : List Capture)) }) (State.reset))).setF (TDC.LIN.RAW_LO 0 0) 0).setF (TDC.LIN.RAW_HI 0 0) 600, by decide +kernel⟩,
   ⟨0, 20, ({ rise := some 10, fall := 20 } : TotEdges), 0, ({ tag := 0, n := 3, start := 0, stop := 100000, drop := false, kitty := none } : Capture), ([] : List Capture), (fun s : State => s.updChan 0 fun x => { x with out := List.replicate 40 (.event 0#36 0 none) }) ((((fun s : State => s.updChan (0) fun z9 => { z9 with loopLost := false }) ((fun s : State => s.updChan (0) fun z9 => { z9 with edges := (({ tag := 0, n := 3, start := 0, stop := 100000, drop := false, kitty := none } : Capture)) :: (([] : List Capture)) }) (State.reset))).setF (TDC.LIN.RAW_LO 0 0) 0).setF (TDC.LIN.RAW_HI 0 0) 600), by decide +kernel⟩,
   ⟨0, 20, ({ rise := some 10, fall := 20 } : TotEdges), 0, ({ tag := 0, n := 3, start := 100000, stop := 200000, drop := false, kitty := none } : Capture), ([] : List Capture), (((fun s : State => s.updChan (0) fun z9 => { z9 with loopLost := false }) ((fun s : State => s.updChan (0) fun z9 => { z9 with edges := (({ tag := 0, n := 3, start := 100000, stop := 200000, drop := false, kitty := none } : Capture)) :: (([] : List Capture)) }) (State.reset))).setF (TDC.LIN.RAW_LO 0 0) 0).setF (TDC.LIN.RAW_HI 0 0) 600, by decide +kernel⟩,
   ⟨0, 20, ({ rise := some 10, fall := 20 } : TotEdges), 0, ({ ({ tag := 0, n := 0, start := 0, stop := 1000, drop := false, kitty := none } : Capture) with kitty := none, drop := false } : Capture), ([] : List Capture), (((fun s : State => s.updChan (0) fun z9 => { z9 with loopLost := false }) ((fun s : State => s.updChan (0) fun z9 => { z9 with edges := (({ ({ tag := 0, n := 0, start := 0, stop := 1000, drop := false, kitty := none } : Capture) with kitty := none, drop := false } : Capture)) :: (([] : List Capture)) }) (State.reset))).setF (TDC.LIN.RAW_LO 0 0) 0).setF (TDC.LIN.RAW_HI 0 0) 600, ((0)) + 1, by decide +kernel⟩,
   ⟨0, 0#36, 0, (none : Option ℕ), ([] : List OutItem), (fun s : State => s.updChan (0) fun z9 => { z9 with out := OutItem.event (0#36) (0) ((none : Option ℕ)) :: (([] : List OutItem)) }) (State.reset), ((0)) + 1, by decide +kernel⟩,
   ⟨0, 0#36, 0, (none : Option ℕ), ([] : List OutItem), (fun s : State => s.updChan (0) fun z9 => { z9 with out := OutItem.event (0#36) (0) ((none : Option ℕ)) :: (([] : List OutItem)) }) (State.reset), ((0) / 12) + 1, by decide +kernel⟩,
   ⟨0, false, ([] : List OutItem), (fun s : State => s.updChan (0) fun z9 => { z9 with out := OutItem.marker (false) :: (([] : List OutItem)) }) (State.reset), ((0)) + 1, by decide +kernel⟩,
   ⟨0, false, ([] : List OutItem), (fun s : State => s.updChan (0) fun z9 => { z9 with out := OutItem.marker (false) :: (([] : List OutItem)) }) (State.reset), ((0) / 12) + 1, by decide +kernel⟩,
   ⟨0, (fun s : State => s.setFifo 0 (List.replicate 2048 (0, .event 0#36 0 none))) (State.reset), by decide +kernel⟩,
   ⟨0, false, ({ aHand with snapped := true, sEff := 2 } : Hand), (fun s : State => { s with deal := { s.deal with cur := some { aHand with snapped := true, sEff := 2 } } }) ((fun s : State => s.updSum (0) fun z9 => { z9 with disabled := false }) (State.reset)), by decide +kernel⟩,
   ⟨0, false, ({ aHand with snapped := true, sEff := 1 } : Hand), (fun s : State => { s with deal := { s.deal with cur := some { aHand with snapped := true, sEff := 1 } } }) ((fun s : State => s.updSum (0) fun z9 => { z9 with disabled := false }) (State.reset)), by decide +kernel⟩,
   ⟨0, true, ({ aHand with snapped := true, sEff := 2 } : Hand), (fun s : State => s.updChan 0 fun z9 => { z9 with armedSlots := [(0, 0)] }) ((fun s : State => { s with deal := { s.deal with cur := some { aHand with snapped := true, sEff := 2 } } }) ((fun s : State => s.updChan (0) fun z9 => { z9 with stuck := 63 }) ((fun s : State => s.updSum (0) fun z9 => { z9 with disabled := false }) (State.reset)))), by decide +kernel⟩,
   ⟨0, false, ({ aHand with snapped := true, sEff := 2 } : Hand), (fun s : State => { s with deal := { s.deal with cur := some { aHand with snapped := true, sEff := 2 } } }) ((fun s : State => s.updSum (0) fun z9 => { z9 with disabled := false }) (State.reset)), ((0)) + 1, by decide +kernel⟩,
   ⟨0, 0, ({ rise := some 10, fall := 20 } : TotEdges), 0, ({ kitty := 0 } : DummyEdge), ((((((fun s : State => { s with ret := { s.ret with dummy := some (({ kitty := 0 } : DummyEdge)) } }) (State.reset)).setF HIST.MODE.MODE 0).setF (KITTY.LIN.RAW_LO 0) 0).setF (KITTY.LIN.RAW_HI 0) 640).setF KITTY.DUMMY_CFG.TOL 7).setF KITTY.DUMMY_CFG.DELAY 1, by decide +kernel⟩,
   ⟨0, 0, ({ rise := some 10, fall := 20 } : TotEdges), 0, ({ kitty := 0 } : DummyEdge), ((((((fun s : State => { s with ret := { s.ret with dummy := some (({ kitty := 0 } : DummyEdge)) } }) (State.reset)).setF HIST.MODE.MODE 0).setF (KITTY.LIN.RAW_LO 0) 0).setF (KITTY.LIN.RAW_HI 0) 640).setF KITTY.DUMMY_CFG.TOL 1).setF KITTY.DUMMY_CFG.DELAY 0, by decide +kernel⟩,
   ⟨({ kitty := 0 } : DummyEdge), (fun s : State => { s with ret := { s.ret with dummy := some (({ kitty := 0 } : DummyEdge)) } }) (State.reset), by decide +kernel⟩,
   ⟨(fun s : State => { s with ret := { s.ret with dummy := none } }) (State.reset), by decide +kernel⟩⟩

theorem witness_TdcFaultsAndKitty :
    (∃ (c : Fin 384) (raw : Fin 1024) (tot : TotEdges) (diff : Nat) (n : Nat) (cause : Nat) (e : Capture) (es : List Capture) (s : State), s.ret.chans.length = 384 ∧ (s.chan ↑c).edges = e :: es ∧ e.kitty = none ∧ s.fb (TDC.STAT.FAILED (↑c / 48) (↑c % 48)) = false ∧ s.kitOf ↑c = none ∧ s.enabled 48 = true ∧ s.lowestKit 0 = some n ∧ (s.chan ↑c).loopLost = false ∧ healthCause (s.f (TDC.LIN.RAW_LO (↑c / 48) (↑c % 48))) (s.f (TDC.LIN.RAW_HI (↑c / 48) (↑c % 48))) (↑raw) diff = some cause) ∧
    (∃ (c : Fin 384) (s : State), (s.chan ↑c).edges = []) ∧
    (∃ (n : Nat) (d : DummyEdge) (s : State), s.ret.dummy = some d ∧ d.kitty < 16 ∧ s.kitState d.kitty = 3) ∧
    (∃ (c : Fin 384) (at_ : Nat) (n : Nat) (s : State) (d : Nat), (s.chan ↑c).move = some (Move.kitty n) ∧ n < 16 ∧ s.ret.chans.length = 384 ∧ s.inGap (↑c) at_ = true ∧ (∀ d < 384, d ≠ ↑c → s.fb (TDC.STAT.ON_KITTY (d / 48) (d % 48)) = true → s.f (TDC.STAT.KIT (d / 48) (d % 48)) ≠ n) ∧ d ≠ ↑c) ∧
    (∃ (c : Fin 384) (at_ : Nat) (s : State), (s.chan ↑c).move = some Move.own ∧ s.ret.chans.length = 384 ∧ s.inGap (↑c) at_ = true ∧ s.fb (TDC.STAT.ON_KITTY (↑c / 48) (↑c % 48)) = true ∧ s.kitState (s.f (TDC.STAT.KIT (↑c / 48) (↑c % 48))) ∈ [1, 2, 4] ∧ s.f (KITTY.ASSIGN.CH (s.f (TDC.STAT.KIT (↑c / 48) (↑c % 48)))) = ↑c) ∧
    (∃ (c : Fin 384) (at_ : Nat) (s : State), ((s.chan ↑c).move = none ∨ s.inGap (↑c) at_ = false)) ∧
    (∃ (k : Fin 8) (b : Bool) (s : State) (m : Nat), s.fb (lockField (↑k) (b2n b)) = true ∧ s.fb (lockField (↑k) (1 - b2n b)) = true ∧ s.f (TDC.DLL.ACTIVE ↑k) = b2n b ∧ s.ret.chans.length = 384 ∧ m < 48) ∧
    (∃ (k : Fin 8) (b : Bool) (s : State) (m : Nat), s.fb (lockField (↑k) (b2n b)) = true ∧ s.fb (lockField (↑k) (1 - b2n b)) = false ∧ m < 48) ∧
    (∃ (k : Fin 8) (b : Bool) (s : State) (p : Nat) (m : Nat), s.fb (lockField (↑k) (b2n b)) = true ∧ s.fb (lockField (↑k) (1 - b2n b)) = false ∧ p < 8 ∧ p ≠ ↑k ∧ m < 48) ∧
    (∃ (k : Fin 8) (b : Bool) (s : State), s.fb (lockField (↑k) (b2n b)) = false ∧ s.fb (lockField (↑k) (1 - b2n b)) = true ∧ (∀ e ∈ s.cal.dlls, e.1 ≠ 2 * ↑k + b2n b)) ∧
    (∃ (k : Fin 8) (b : Bool) (s : State), 2 * ↑k + b2n b ∈ s.ret.retrying) ∧
    (∃ (src : Port) (k : Fin 8) (m : Fin 64) (s : State), ↑m < 48 ∧ s.fb (TDC.STAT.FAILED ↑k ↑m) = true ∧ s.ret.chans.length = 384) ∧
    (∃ (src : Port) (k : Fin 8) (m : Fin 64) (s : State), (48 ≤ ↑m ∨ s.fb (TDC.STAT.FAILED ↑k ↑m) = false)) ∧
    (∃ (c : Fin 384) (s : State) (n : Nat), (s.chan ↑c).retest = true ∧ s.ret.chans.length = 384 ∧ s.kitOf ↑c = some n ∧ s.hostNames ↑c = false) ∧
    (∃ (c : Fin 384) (pass : Bool) (s : State), (s.chan ↑c).retest = false) ∧
    (∃ (v : Fin 2048) (s : State), nth s.pwr.domains 2 DomState.off = DomState.on ∧ s.img.activating = false ∧ s.img.fw = none ∧ (↑v < s.f (AFE.DBIAS_WIN.DBIAS_LO 0) ∨ s.f (AFE.DBIAS_WIN.DBIAS_HI 0) < ↑v) ∧ s.ret.biasOut = 1) ∧
    (∃ (v : Fin 2048) (s : State), nth s.pwr.domains 2 DomState.off = DomState.on ∧ s.img.activating = false ∧ s.img.fw = none ∧ (↑v < s.f (AFE.DBIAS_WIN.DBIAS_LO 0) ∨ s.f (AFE.DBIAS_WIN.DBIAS_HI 0) < ↑v) ∧ s.ret.biasOut ≠ 1) ∧
    (∃ (v : Fin 2048) (s : State), nth s.pwr.domains 2 DomState.off = DomState.on ∧ s.f (AFE.DBIAS_WIN.DBIAS_LO 0) ≤ ↑v ∧ ↑v ≤ s.f (AFE.DBIAS_WIN.DBIAS_HI 0) ∧ 1 ≤ s.ret.biasIn) :=
  ⟨⟨0, 800, ({ rise := some 10, fall := 20 } : TotEdges), 0, 0, 1, ({ ({ tag := 0, n := 0, start := 0, stop := 1000, drop := false, kitty := none } : Capture) with kitty := none } : Capture), ([] : List Capture), ((fun s : State => s.updChan (0) fun z9 => { z9 with loopLost := false }) ((((fun s : State => s.updChan (0) fun z9 => { z9 with edges := (({ ({ tag := 0, n := 0, start := 0, stop := 1000, drop := false, kitty := none } : Capture) with kitty := none } : Capture)) :: (([] : List Capture)) }) (State.reset)).setB (TDC.STAT.FAILED ((0) / 48) ((0) % 48)) false).setB ⟨hdr 48 1, 0, 1⟩ true)).setF (TDC.LIN.RAW_HI 0 0) 600, by decide +kernel⟩,
   ⟨0, (fun s : State => s.updChan (0) fun z9 => { z9 with edges := [] }) (State.reset), by decide +kernel⟩,
   ⟨0, ({ kitty := 0 } : DummyEdge), ((fun s : State => { s with ret := { s.ret with dummy := some (({ kitty := 0 } : DummyEdge)) } }) (State.reset)).setF (KITTY.ASSIGN.STATE 0) 3, by decide +kernel⟩,
   ⟨0, 0, 0, (fun s : State => s.updChan (0) fun z9 => { z9 with move := some (Move.kitty (0)) }) (State.reset), ((0)) + 1, by decide +kernel⟩,
   ⟨0, 0, (((fun s : State => s.setF (KITTY.ASSIGN.CH (s.f (TDC.STAT.KIT ((0) / 48) ((0) % 48)))) ((0))) (((fun s : State => s.updChan (0) fun z9 => { z9 with move := some Move.own }) (State.reset)).setB (TDC.STAT.ON_KITTY ((0) / 48) ((0) % 48)) true)).setF (KITTY.ASSIGN.STATE 0) 1).setF (KITTY.ASSIGN.CH 0) 0, by decide +kernel⟩,
   ⟨0, 0, State.reset, by decide +kernel⟩,
   ⟨0, false, (((State.reset).setB (lockField ((0)) (b2n (false))) true).setB (lockField ((0)) (1 - b2n (false))) true).setF (TDC.DLL.ACTIVE (0)) (b2n (false)), 0, by decide +kernel⟩,
   ⟨0, false, ((State.reset).setB (lockField ((0)) (b2n (false))) true).setB (lockField ((0)) (1 - b2n (false))) false, 0, by decide +kernel⟩,
   ⟨0, false, ((State.reset).setB (lockField ((0)) (b2n (false))) true).setB (lockField ((0)) (1 - b2n (false))) false, ((0)) + 1, 0, by decide +kernel⟩,
   ⟨0, false, ((State.reset).setB (lockField ((0)) (b2n (false))) false).setB (lockField ((0)) (1 - b2n (false))) true, by decide +kernel⟩,
   ⟨0, false, (fun s : State => { s with ret := { s.ret with retrying := [2 * (0) + b2n (false)] } }) (State.reset), by decide +kernel⟩,
   ⟨.spi, 0, 0, (State.reset).setB (TDC.STAT.FAILED (0) (0)) true, by decide +kernel⟩,
   ⟨.spi, 0, 48, State.reset, by decide +kernel⟩,
   ⟨0, ((fun s : State => s.updChan (0) fun z9 => { z9 with retest := true }) (State.reset)).setKit (0) 1 (0), 0, by decide +kernel⟩,
   ⟨0, false, (fun s : State => s.updChan (0) fun z9 => { z9 with retest := false }) (State.reset), by decide +kernel⟩,
   ⟨0, (((fun s : State => { s with ret := { s.ret with biasOut := 1 } }) ((fun s : State => { s with img := { s.img with fw := none } }) (State.reset))).setDom 2 .on).setF (AFE.DBIAS_WIN.DBIAS_LO 0) 5, by decide +kernel⟩,
   ⟨0, (((fun s : State => { s with img := { s.img with fw := none } }) (State.reset)).setDom 2 .on).setF (AFE.DBIAS_WIN.DBIAS_LO 0) 5, by decide +kernel⟩,
   ⟨0, ((fun s : State => { s with ret := { s.ret with biasIn := 1 } }) (State.reset)).setDom 2 .on, by decide +kernel⟩⟩

theorem witness_SliceWork :
    (∃ (k : Fin 32) (c : Nat) (tot : Nat) (w : Word36) (q : Option Nat) (rest : List (Nat × OutItem)) (s : State), s.fifo ↑k = (c, OutItem.event w tot q) :: rest ∧ c < 384 ∧ s.hist.fifos.length = 32 ∧ s.hist.chans.length = 384 ∧ (s.asHand (s.hch c).count).enabled 56 = true ∧ (s.asHand (s.hch c).count).f HIST.MODE.MODE ≠ 2 ∧ bitsOf (BitVec.toNat w) 0 22 / (s.asHand (s.hch c).count).binW < 2048 ∧ (s.hch c).tricks.length ≤ 4 ∧ s.pwr.st = PState.run ∧ s.coarse c (s.hch c).count (bitsOf (BitVec.toNat w) 0 22 / (s.asHand (s.hch c).count).binW) ≠ 262143) ∧
    (∃ (k : Fin 32) (c : Nat) (tot : Nat) (w : Word36) (q : Option Nat) (rest : List (Nat × OutItem)) (s : State), s.fifo ↑k = (c, OutItem.event w tot q) :: rest ∧ c < 384 ∧ s.hist.fifos.length = 32 ∧ s.hist.chans.length = 384 ∧ (s.asHand (s.hch c).count).enabled 56 = true ∧ (s.asHand (s.hch c).count).f HIST.MODE.MODE ≠ 2 ∧ bitsOf (BitVec.toNat w) 0 22 / (s.asHand (s.hch c).count).binW < 2048 ∧ (s.hch c).tricks.length ≤ 4 ∧ s.pwr.st = PState.run ∧ s.coarse c (s.hch c).count (bitsOf (BitVec.toNat w) 0 22 / (s.asHand (s.hch c).count).binW) = 262143) ∧
    (∃ (k : Fin 32) (c : Nat) (tot : Nat) (w : Word36) (q : Option Nat) (rest : List (Nat × OutItem)) (s : State) (j : Nat) (i : Nat), s.fifo ↑k = (c, OutItem.event w tot q) :: rest ∧ c < 384 ∧ s.hist.fifos.length = 32 ∧ s.hist.chans.length = 384 ∧ (s.asHand (s.hch c).count).enabled 56 = true ∧ (s.asHand (s.hch c).count).f HIST.MODE.MODE ≠ 2 ∧ bitsOf (BitVec.toNat w) 0 22 / (s.asHand (s.hch c).count).binW < 2048 ∧ (s.hch c).tricks.length ≤ 4 ∧ s.pwr.st = PState.run ∧ (s.hch c).slot ∈ (s.hch c).fed ∧ fineHit (s.hch c).tricks (s.asHand (s.hch c).count).fineW (bitsOf (BitVec.toNat w) 0 22) = some (j, i) ∧ s.fineBin c (s.hch c).count j i ≠ 262143) ∧
    (∃ (k : Fin 32) (c : Nat) (tot : Nat) (w : Word36) (q : Option Nat) (rest : List (Nat × OutItem)) (s : State) (a : Nat), s.fifo ↑k = (c, OutItem.event w tot q) :: rest ∧ c < 384 ∧ s.hist.fifos.length = 32 ∧ s.hist.chans.length = 384 ∧ (s.asHand (s.hch c).count).enabled 56 = true ∧ (s.asHand (s.hch c).count).f HIST.MODE.MODE ≠ 2 ∧ bitsOf (BitVec.toNat w) 0 22 / (s.asHand (s.hch c).count).binW < 2048 ∧ (s.hch c).tricks.length ≤ 4 ∧ s.pwr.st = PState.run ∧ a ≠ coarseAddr c (s.hch c).count (bitsOf (BitVec.toNat w) 0 22 / (s.asHand (s.hch c).count).binW / 2) ∧ (∀ e ∈ (fineHit (s.hch c).tricks (s.asHand (s.hch c).count).fineW (bitsOf (BitVec.toNat w) 0 22)).toList, (s.hch c).slot ∈ (s.hch c).fed → a ≠ fineAddr c (s.hch c).count e.1 (e.2 / 2))) ∧
    (∃ (k : Fin 32) (c : Nat) (tot : Nat) (w : Word36) (q : Option Nat) (rest : List (Nat × OutItem)) (s : State) (d : Nat), s.fifo ↑k = (c, OutItem.event w tot q) :: rest ∧ c < 384 ∧ s.hist.fifos.length = 32 ∧ s.hist.chans.length = 384 ∧ (s.asHand (s.hch c).count).enabled 56 = true ∧ (s.asHand (s.hch c).count).f HIST.MODE.MODE ≠ 2 ∧ bitsOf (BitVec.toNat w) 0 22 / (s.asHand (s.hch c).count).binW < 2048 ∧ (s.hch c).tricks.length ≤ 4 ∧ s.pwr.st = PState.run ∧ d ≠ c) ∧
    (∃ (k : Fin 32) (c : Nat) (m : Bool) (rest : List (Nat × OutItem)) (h : Hand) (s : State) (d : Nat), s.fifo ↑k = (c, OutItem.marker m) :: rest ∧ c < 384 ∧ s.hist.fifos.length = 32 ∧ s.hist.chans.length = 384 ∧ s.handOf (s.hch c).count = some h ∧ (s.hch c).slot + 1 ≠ h.openSlots ∧ (s.hch c).slot + 1 < h.sEff ∧ d ≠ c) ∧
    (∃ (k : Fin 32) (c : Nat) (m : Bool) (rest : List (Nat × OutItem)) (h : Hand) (s : State) (b : Nat), s.fifo ↑k = (c, OutItem.marker m) :: rest ∧ c < 384 ∧ s.hist.fifos.length = 32 ∧ s.hist.chans.length = 384 ∧ s.hist.closed.length = 384 ∧ s.handOf (s.hch c).count = some h ∧ (s.hch c).slot + 1 ≠ h.openSlots ∧ h.sEff ≤ (s.hch c).slot + 1 ∧ (s.asHand (s.hch c).count).enabled 56 = true ∧ (s.asHand (s.hch c).count).f HIST.MODE.MODE ≠ 2 ∧ s.pwr.st = PState.run ∧ b < 2048) ∧
    (∃ (k : Fin 32) (c : Nat) (m : Bool) (rest : List (Nat × OutItem)) (h : Hand) (s : State) (d : Nat), s.fifo ↑k = (c, OutItem.marker m) :: rest ∧ c < 384 ∧ s.hist.fifos.length = 32 ∧ s.hist.chans.length = 384 ∧ s.hist.closed.length = 384 ∧ s.handOf (s.hch c).count = some h ∧ (s.hch c).slot + 1 ≠ h.openSlots ∧ h.sEff ≤ (s.hch c).slot + 1 ∧ (s.asHand (s.hch c).count).enabled 56 = true ∧ (s.asHand (s.hch c).count).f HIST.MODE.MODE ≠ 2 ∧ s.pwr.st = PState.run ∧ d ≠ c) ∧
    (∃ (k : Fin 32) (s : State), s.fifo ↑k = []) ∧
    (∃ (k : Fin 32) (c : Nat) (m : Bool) (rest : List (Nat × OutItem)) (s : State), s.fifo ↑k = (c, OutItem.marker m) :: rest) ∧
    (∃ (c : Fin 384) (fclk : Nat) (s : State) (d : Nat), (s.hch ↑c).placing = true ∧ (s.hch ↑c).placed = false ∧ s.hist.chans.length = 384 ∧ d ≠ ↑c) ∧
    (∃ (c : Fin 384) (fclk : Nat) (s : State), ((s.hch ↑c).placing = false ∨ (s.hch ↑c).placed = true)) :=
  ⟨⟨0, 0, 0, 0#36, (none : Option ℕ), ([] : List (ℕ × OutItem)), ((fun s : State => { s with pwr := { s.pwr with st := PState.run } }) ((fun s : State => s.setFifo (0) (((0), OutItem.event (0#36) (0) ((none : Option ℕ))) :: (([] : List (ℕ × OutItem))))) (State.reset))).setB ⟨hdr 56 1, 0, 1⟩ true, by decide +kernel⟩,
   ⟨0, 0, 0, 0#36, (none : Option ℕ), ([] : List (ℕ × OutItem)), (fun s : State => s.wrN (coarseAddr 0 0 0) 0 18 0x3FFFF) (((fun s : State => { s with pwr := { s.pwr with st := PState.run } }) ((fun s : State => s.setFifo (0) (((0), OutItem.event (0#36) (0) ((none : Option ℕ))) :: (([] : List (ℕ × OutItem))))) (State.reset))).setB ⟨hdr 56 1, 0, 1⟩ true), by decide +kernel⟩,
   ⟨0, 0, 0, 0#36, (none : Option ℕ), ([] : List (ℕ × OutItem)), (fun s : State => s.setHch 0 { s.hch 0 with fed := [0], tricks := [0] }) (((fun s : State => { s with pwr := { s.pwr with st := PState.run } }) ((fun s : State => s.setFifo (0) (((0), OutItem.event (0#36) (0) ((none : Option ℕ))) :: (([] : List (ℕ × OutItem))))) (State.reset))).setB ⟨hdr 56 1, 0, 1⟩ true), 0, 0, by decide +kernel⟩,
   ⟨0, 0, 0, 0#36, (none : Option ℕ), ([] : List (ℕ × OutItem)), ((fun s : State => { s with pwr := { s.pwr with st := PState.run } }) ((fun s : State => s.setFifo (0) (((0), OutItem.event (0#36) (0) ((none : Option ℕ))) :: (([] : List (ℕ × OutItem))))) (State.reset))).setB ⟨hdr 56 1, 0, 1⟩ true, 0, by decide +kernel⟩,
   ⟨0, 0, 0, 0#36, (none : Option ℕ), ([] : List (ℕ × OutItem)), ((fun s : State => { s with pwr := { s.pwr with st := PState.run } }) ((fun s : State => s.setFifo (0) (((0), OutItem.event (0#36) (0) ((none : Option ℕ))) :: (([] : List (ℕ × OutItem))))) (State.reset))).setB ⟨hdr 56 1, 0, 1⟩ true, ((0)) + 1, by decide +kernel⟩,
   ⟨0, 0, false, ([] : List (ℕ × OutItem)), ({ aHand with openSlots := 0 } : Hand), (fun s : State => s.setHch (0) { s.hch (0) with count := ((({ aHand with openSlots := 0 } : Hand)) : Hand).count }) ((fun s : State => { s with deal := { s.deal with past := [(({ aHand with openSlots := 0 } : Hand))] } }) ((fun s : State => s.setFifo (0) (((0), OutItem.marker (false)) :: (([] : List (ℕ × OutItem))))) (State.reset))), ((0)) + 1, by decide +kernel⟩,
   ⟨0, 0, false, ([] : List (ℕ × OutItem)), ({ { aHand with cfg := (State.reset.setB ⟨hdr 56 1, 0, 1⟩ true).regs } with sEff := 1, openSlots := 2, snapped := true } : Hand), (fun s : State => { s with pwr := { s.pwr with st := PState.run } }) ((fun s : State => s.setHch (0) { s.hch (0) with count := ((({ { aHand with cfg := (State.reset.setB ⟨hdr 56 1, 0, 1⟩ true).regs } with sEff := 1, openSlots := 2, snapped := true } : Hand)) : Hand).count }) ((fun s : State => { s with deal := { s.deal with past := [(({ { aHand with cfg := (State.reset.setB ⟨hdr 56 1, 0, 1⟩ true).regs } with sEff := 1, openSlots := 2, snapped := true } : Hand))] } }) ((fun s : State => s.setFifo (0) (((0), OutItem.marker (false)) :: (([] : List (ℕ × OutItem))))) (State.reset)))), 0, by decide +kernel⟩,
   ⟨0, 0, false, ([] : List (ℕ × OutItem)), ({ { aHand with cfg := (State.reset.setB ⟨hdr 56 1, 0, 1⟩ true).regs } with sEff := 1, openSlots := 2, snapped := true } : Hand), (fun s : State => { s with pwr := { s.pwr with st := PState.run } }) ((fun s : State => s.setHch (0) { s.hch (0) with count := ((({ { aHand with cfg := (State.reset.setB ⟨hdr 56 1, 0, 1⟩ true).regs } with sEff := 1, openSlots := 2, snapped := true } : Hand)) : Hand).count }) ((fun s : State => { s with deal := { s.deal with past := [(({ { aHand with cfg := (State.reset.setB ⟨hdr 56 1, 0, 1⟩ true).regs } with sEff := 1, openSlots := 2, snapped := true } : Hand))] } }) ((fun s : State => s.setFifo (0) (((0), OutItem.marker (false)) :: (([] : List (ℕ × OutItem))))) (State.reset)))), ((0)) + 1, by decide +kernel⟩,
   ⟨0, (fun s : State => s.setFifo (0) ([])) (State.reset), by decide +kernel⟩,
   ⟨0, 0, false, ([] : List (ℕ × OutItem)), (fun s : State => s.setFifo (0) (((0), OutItem.marker (false)) :: (([] : List (ℕ × OutItem))))) (State.reset), by decide +kernel⟩,
   ⟨0, 0, (fun s : State => s.setHch (0) { s.hch (0) with placed := false }) ((fun s : State => s.setHch (0) { s.hch (0) with placing := true }) (State.reset)), ((0)) + 1, by decide +kernel⟩,
   ⟨0, 0, (fun s : State => s.setHch (0) { s.hch (0) with placing := false ∨ (s.hch (0)).placed = true }) (State.reset), by decide +kernel⟩⟩

theorem witness_ReadoutAndDrain :
    (∃ (c : Fin 384) (x : Closed) (s : State) (p : Cand) (b : Nat), stageGet (s.closedOf ↑c) Stage.swapped = some x ∧ s.hist.closed.length = 384 ∧ p ∈ x.cands ∧ b < 2048 ∧ 2 * (p.b / 2) ≤ b + 6 ∧ b ≤ 2 * (p.b / 2) + 9) ∧
    (∃ (c : Fin 384) (x : Closed) (s : State) (q : Nat) (i : Nat), stageGet (s.closedOf ↑c) Stage.swapped = some x ∧ s.hist.closed.length = 384 ∧ q < x.tricks.length ∧ i < 64) ∧
    (∃ (c : Fin 384) (x : Closed) (s : State) (d : Nat), stageGet (s.closedOf ↑c) Stage.swapped = some x ∧ s.hist.closed.length = 384 ∧ d ≠ ↑c) ∧
    (∃ (c : Fin 384) (s : State), stageGet (s.closedOf ↑c) Stage.swapped = none) ∧
    (∃ (c : Fin 384) (trick : Bool) (d : Dump) (s : State), List.find? (fun e => e.channel == ↑c && e.trick == trick) s.hist.dumps = some d ∧ (∀ x ∈ s.closedOf ↑c, x.count = d.record.count → x.stage ≠ Stage.swapped)) ∧
    (∃ (c : Fin 384) (trick : Bool) (s : State), (∀ d ∈ s.hist.dumps, d.channel ≠ ↑c ∨ d.trick ≠ trick)) ∧
    (∃ (c : Fin 384) (trick : Bool) (d : Dump) (x : Closed) (s : State), List.find? (fun e => e.channel == ↑c && e.trick == trick) s.hist.dumps = some d ∧ x ∈ s.closedOf ↑c ∧ x.count = d.record.count ∧ x.stage = Stage.swapped) ∧
    (∃ (ns : Nat) (s : State) (c : Nat) (u : Nat) (b : Nat), s.deal.drain ≠ [] ∧ (∀ k ∈ s.deal.drain, k < 32) ∧ s.drained = true ∧ s.hist.chans.length = 384 ∧ c / 12 ∈ s.deal.drain ∧ u < 2 ∧ b < 2048) ∧
    (∃ (ns : Nat) (s : State) (c : Nat) (u : Nat) (q : Nat) (i : Nat), s.deal.drain ≠ [] ∧ (∀ k ∈ s.deal.drain, k < 32) ∧ s.drained = true ∧ s.hist.chans.length = 384 ∧ c / 12 ∈ s.deal.drain ∧ u < 2 ∧ q < 4 ∧ i < 64) ∧
    (∃ (ns : Nat) (s : State) (c : Nat), s.deal.drain ≠ [] ∧ (∀ k ∈ s.deal.drain, k < 32) ∧ s.drained = true ∧ s.hist.chans.length = 384 ∧ c / 12 ∉ s.deal.drain) ∧
    (∃ (ns : Nat) (s : State) (a : Nat), s.deal.drain ≠ [] ∧ (∀ k ∈ s.deal.drain, k < 32) ∧ s.drained = true ∧ s.hist.chans.length = 384 ∧ memRegion a ≠ 3) ∧
    (∃ (ns : Nat) (s : State), (s.deal.drain = [] ∨ s.drained = false)) :=
  ⟨⟨0, ({ { aClosed with stage := .swapped, cands := [{ b := 20, cm := 0, c0 := 5, cp := 0 }] } with stage := .swapped } : Closed), (fun s : State => s.setClosed (0) [{ ((({ { aClosed with stage := .swapped, cands := [{ b := 20, cm := 0, c0 := 5, cp := 0 }] } with stage := .swapped } : Closed)) : Closed) with stage := .swapped }]) (State.reset), ({ b := 20, cm := 0, c0 := 5, cp := 0 } : Cand), 20, by decide +kernel⟩,
   ⟨0, ({ { aClosed with stage := .swapped, tricks := [100] } with stage := .swapped } : Closed), (fun s : State => s.setClosed (0) [{ ((({ { aClosed with stage := .swapped, tricks := [100] } with stage := .swapped } : Closed)) : Closed) with stage := .swapped }]) (State.reset), 0, 0, by decide +kernel⟩,
   ⟨0, ({ aClosed with stage := .swapped } : Closed), (fun s : State => s.setClosed (0) [{ ((({ aClosed with stage := .swapped } : Closed)) : Closed) with stage := .swapped }]) (State.reset), ((0)) + 1, by decide +kernel⟩,
   ⟨0, State.reset, by decide +kernel⟩,
   ⟨0, false, aDump, (fun s : State => s.setClosed 0 [{ aClosed with stage := .read }]) ((fun s : State => { s with hist := { s.hist with dumps := [aDump] } }) (State.reset)), by decide +kernel⟩,
   ⟨0, false, State.reset, by decide +kernel⟩,
   ⟨0, false, aDump, aClosed, (fun s : State => s.setClosed 0 [aClosed]) ((fun s : State => { s with hist := { s.hist with dumps := [aDump] } }) (State.reset)), by decide +kernel⟩,
   ⟨0, (fun s : State => { s with deal := { s.deal with drain := [(0) / 12] } }) (State.reset), 0, 0, 0, by decide +kernel⟩,
   ⟨0, (fun s : State => { s with deal := { s.deal with drain := [(0) / 12] } }) (State.reset), 0, 0, 0, 0, by decide +kernel⟩,
   ⟨0, (fun s : State => { s with deal := { s.deal with drain := [1] } }) (State.reset), 0, by decide +kernel⟩,
   ⟨0, (fun s : State => { s with deal := { s.deal with drain := [1] } }) (State.reset), 0, by decide +kernel⟩,
   ⟨0, (fun s : State => { s with deal := { s.deal with drain := [] } }) (State.reset), by decide +kernel⟩⟩

theorem witness_TrackerAndPlacementLaws :
    (∃ (l : List Cand) (x : Nat) (n : Nat), l.length ≤ 8 ∧ (List.map (fun x => x.b) l).Nodup) ∧
    (∃ (c : Nat) (x : HistCh) (s : State) (a : Nat), a ∈ s.placeTricks c x) :=
  ⟨⟨([] : List Cand), 0, 0, by decide +kernel⟩,
   ⟨0, ({ ({} : HistCh) with cands := [{ b := 20, cm := 0, c0 := 500, cp := 0 }], totalOpen := 1 } : HistCh), State.reset, 2368, by decide +kernel⟩⟩

theorem witness_RejectionAndBloom :
    (∃ (c : Fin 384) (x : Closed) (m : Summary) (s : State), stageGet (s.closedOf ↑c) Stage.read = some x ∧ s.sumOf (↑c) x.count = some m ∧ s.hist.closed.length = 384 ∧ (m.disabled = true ∨ x.off = true ∨ (s.asHand x.count).enabled 57 = false)) ∧
    (∃ (c : Fin 384) (x : Closed) (m : Summary) (s : State) (d : Nat), stageGet (s.closedOf ↑c) Stage.read = some x ∧ s.sumOf (↑c) x.count = some m ∧ s.hist.closed.length = 384 ∧ d ≠ ↑c) ∧
    (∃ (c : Fin 384) (s : State), (∀ (x : Closed), stageGet (s.closedOf ↑c) Stage.read = some x → s.sumOf (↑c) x.count = none)) ∧
    (∃ (c : Fin 384) (fclk : Nat) (x : Closed) (s : State) (e : Echo), stageGet (s.closedOf ↑c) Stage.rejected = some x ∧ s.bloomReady (↑c) x.count = true ∧ s.hist.closed.length = 384 ∧ e.cls = 1) ∧
    (∃ (c : Fin 384) (fclk : Nat) (x : Closed) (s : State) (e : Echo), stageGet (s.closedOf ↑c) Stage.rejected = some x ∧ s.bloomReady (↑c) x.count = true ∧ s.hist.closed.length = 384 ∧ e.cls = 2) ∧
    (∃ (c : Fin 384) (fclk : Nat) (x : Closed) (s : State) (e : Echo), stageGet (s.closedOf ↑c) Stage.rejected = some x ∧ s.bloomReady (↑c) x.count = true ∧ s.hist.closed.length = 384 ∧ e.cls = 4) ∧
    (∃ (c : Fin 384) (fclk : Nat) (x : Closed) (s : State) (d : Nat), stageGet (s.closedOf ↑c) Stage.rejected = some x ∧ s.bloomReady (↑c) x.count = true ∧ s.hist.closed.length = 384 ∧ d ≠ ↑c) ∧
    (∃ (c : Fin 384) (fclk : Nat) (s : State), (∀ (x : Closed), stageGet (s.closedOf ↑c) Stage.rejected = some x → s.bloomReady (↑c) x.count = false)) :=
  ⟨⟨0, ({ aClosed with stage := .read } : Closed), ({ ({} : Summary) with disabled := true } : Summary), (fun s : State => { s with hist := { s.hist with sums := setNth s.hist.sums ((0)) [((({ aClosed with stage := .read } : Closed)).count, (({ ({} : Summary) with disabled := true } : Summary)))] } }) ((fun s : State => s.setClosed (0) [{ ((({ aClosed with stage := .read } : Closed)) : Closed) with stage := .read }]) (State.reset)), by decide +kernel⟩,
   ⟨0, ({ aClosed with stage := .read } : Closed), ({} : Summary), (fun s : State => { s with hist := { s.hist with sums := setNth s.hist.sums ((0)) [((({ aClosed with stage := .read } : Closed)).count, (({} : Summary)))] } }) ((fun s : State => s.setClosed (0) [{ ((({ aClosed with stage := .read } : Closed)) : Closed) with stage := .read }]) (State.reset)), ((0)) + 1, by decide +kernel⟩,
   ⟨0, State.reset, by decide +kernel⟩,
   ⟨0, 0, ({ aClosed with stage := .rejected } : Closed), (fun s : State => { s with hist := { s.hist with closed := List.replicate 384 [{ aClosed with stage := .rejected }] } }) ((fun s : State => s.setClosed (0) [{ ((({ aClosed with stage := .rejected } : Closed)) : Closed) with stage := .rejected }]) (State.reset)), ({ anEcho with cls := 1 } : Echo), by decide +kernel⟩,
   ⟨0, 0, ({ aClosed with stage := .rejected } : Closed), (fun s : State => { s with hist := { s.hist with closed := List.replicate 384 [{ aClosed with stage := .rejected }] } }) ((fun s : State => s.setClosed (0) [{ ((({ aClosed with stage := .rejected } : Closed)) : Closed) with stage := .rejected }]) (State.reset)), ({ anEcho with cls := 2 } : Echo), by decide +kernel⟩,
   ⟨0, 0, ({ aClosed with stage := .rejected } : Closed), (fun s : State => { s with hist := { s.hist with closed := List.replicate 384 [{ aClosed with stage := .rejected }] } }) ((fun s : State => s.setClosed (0) [{ ((({ aClosed with stage := .rejected } : Closed)) : Closed) with stage := .rejected }]) (State.reset)), ({ anEcho with cls := 4 } : Echo), by decide +kernel⟩,
   ⟨0, 0, ({ aClosed with stage := .rejected } : Closed), (fun s : State => { s with hist := { s.hist with closed := List.replicate 384 [{ aClosed with stage := .rejected }] } }) ((fun s : State => s.setClosed (0) [{ ((({ aClosed with stage := .rejected } : Closed)) : Closed) with stage := .rejected }]) (State.reset)), ((0)) + 1, by decide +kernel⟩,
   ⟨0, 0, State.reset, by decide +kernel⟩⟩

theorem witness_PointRecords :
    (∃ (c : Fin 384) (h : Hand) (x : Closed) (m : Summary) (s : State), s.deal.past.head? = some h ∧ stageGet (s.closedOf ↑c) Stage.delivered = some x ∧ x.count = h.count ∧ s.sumOf (↑c) x.count = some m ∧ s.hist.closed.length = 384 ∧ s.hist.held.length = 384 ∧ (s.asOf h).enabled 58 = false) ∧
    (∃ (c : Fin 384) (h : Hand) (x : Closed) (m : Summary) (s : State), s.deal.past.head? = some h ∧ stageGet (s.closedOf ↑c) Stage.delivered = some x ∧ x.count = h.count ∧ s.sumOf (↑c) x.count = some m ∧ s.hist.closed.length = 384 ∧ s.hist.held.length = 384 ∧ (s.asOf h).enabled 58 = true ∧ m.cal = true ∧ m.disabled = false ∧ nth s.hist.held (↑c) none = none) ∧
    (∃ (c : Fin 384) (h : Hand) (x : Closed) (m : Summary) (s : State) (i : Nat) (p : Point), s.deal.past.head? = some h ∧ stageGet (s.closedOf ↑c) Stage.delivered = some x ∧ x.count = h.count ∧ s.sumOf (↑c) x.count = some m ∧ s.hist.closed.length = 384 ∧ s.hist.held.length = 384 ∧ (s.asOf h).enabled 58 = true ∧ (m.cal = false ∨ m.disabled = true) ∧ x.passed ≠ [] ∧ i < x.passed.length ∧ p.valid = false) ∧
    (∃ (c : Fin 384) (h : Hand) (x : Closed) (m : Summary) (s : State), s.deal.past.head? = some h ∧ stageGet (s.closedOf ↑c) Stage.delivered = some x ∧ x.count = h.count ∧ s.sumOf (↑c) x.count = some m ∧ s.hist.closed.length = 384 ∧ s.hist.held.length = 384 ∧ (s.asOf h).enabled 58 = true ∧ (m.cal = false ∨ m.disabled = true) ∧ x.passed = [] ∧ (s.asOf h).fb PNT.OUT.EMPTY = false) ∧
    (∃ (c : Fin 384) (h : Hand) (x : Closed) (m : Summary) (s : State), s.deal.past.head? = some h ∧ stageGet (s.closedOf ↑c) Stage.delivered = some x ∧ x.count = h.count ∧ s.sumOf (↑c) x.count = some m ∧ s.hist.closed.length = 384 ∧ s.hist.held.length = 384 ∧ (s.asOf h).enabled 58 = true ∧ (m.cal = false ∨ m.disabled = true) ∧ x.passed = [] ∧ (s.asOf h).fb PNT.OUT.EMPTY = true) ∧
    (∃ (c : Fin 384) (h : Hand) (x : Closed) (m : Summary) (s : State) (d : Nat), s.deal.past.head? = some h ∧ stageGet (s.closedOf ↑c) Stage.delivered = some x ∧ x.count = h.count ∧ s.sumOf (↑c) x.count = some m ∧ s.hist.closed.length = 384 ∧ s.hist.held.length = 384 ∧ d ≠ ↑c) ∧
    (∃ (c : Fin 384) (s : State), (s.deal.past = [] ∨ stageGet (s.closedOf ↑c) Stage.delivered = none)) ∧
    (∃ (fclk : Nat) (h : Hand) (rest : List Hand) (s : State), s.deal.past = h :: rest ∧ h.raw = false ∧ s.handBuilt h.count = true) ∧
    (∃ (fclk : Nat) (s : State), (∀ (h : Hand), s.deal.past.head? = some h → h.raw = true ∨ s.handBuilt h.count = false)) :=
  ⟨⟨0, aHand, ({ aClosed with stage := .delivered, count := (aHand).count } : Closed), ({} : Summary), (fun s : State => { s with hist := { s.hist with sums := setNth s.hist.sums ((0)) [((({ aClosed with stage := .delivered, count := (aHand).count } : Closed)).count, (({} : Summary)))] } }) ((fun s : State => s.setClosed (0) [{ ((({ aClosed with stage := .delivered, count := (aHand).count } : Closed)) : Closed) with stage := .delivered }]) ((fun s : State => { s with deal := { s.deal with past := [(aHand)] } }) (State.reset))), by decide +kernel⟩,
   ⟨0, ({ aHand with cfg := (State.reset.setB ⟨hdr 58 1, 0, 1⟩ true).regs } : Hand), ({ aClosed with stage := .delivered, count := ({ aHand with cfg := (State.reset.setB ⟨hdr 58 1, 0, 1⟩ true).regs }).count } : Closed), ({ ({} : Summary) with cal := true, disabled := false } : Summary), (fun s : State => { s with hist := { s.hist with sums := setNth s.hist.sums ((0)) [((({ aClosed with stage := .delivered, count := ({ aHand with cfg := (State.reset.setB ⟨hdr 58 1, 0, 1⟩ true).regs }).count } : Closed)).count, (({ ({} : Summary) with cal := true, disabled := false } : Summary)))] } }) ((fun s : State => s.setClosed (0) [{ ((({ aClosed with stage := .delivered, count := ({ aHand with cfg := (State.reset.setB ⟨hdr 58 1, 0, 1⟩ true).regs }).count } : Closed)) : Closed) with stage := .delivered }]) ((fun s : State => { s with deal := { s.deal with past := [(({ aHand with cfg := (State.reset.setB ⟨hdr 58 1, 0, 1⟩ true).regs } : Hand))] } }) (State.reset))), by decide +kernel⟩,
   ⟨0, ({ aHand with cfg := (State.reset.setB ⟨hdr 58 1, 0, 1⟩ true).regs } : Hand), ({ { aClosed with stage := .delivered, passed := [anEcho] } with stage := .delivered } : Closed), ({ ({} : Summary) with cal := false } : Summary), (fun s : State => { s with hist := { s.hist with sums := setNth s.hist.sums ((0)) [((({ { aClosed with stage := .delivered, passed := [anEcho] } with stage := .delivered } : Closed)).count, (({ ({} : Summary) with cal := false } : Summary)))] } }) ((fun s : State => s.setClosed (0) [{ ((({ { aClosed with stage := .delivered, passed := [anEcho] } with stage := .delivered } : Closed)) : Closed) with stage := .delivered }]) ((fun s : State => { s with deal := { s.deal with past := [(({ aHand with cfg := (State.reset.setB ⟨hdr 58 1, 0, 1⟩ true).regs } : Hand))] } }) (State.reset))), 0, ({ aPoint with valid := false } : Point), by decide +kernel⟩,
   ⟨0, ({ aHand with cfg := ((State.reset.setB ⟨hdr 58 1, 0, 1⟩ true).setB PNT.OUT.EMPTY false).regs } : Hand), ({ aClosed with stage := .delivered, count := ({ aHand with cfg := ((State.reset.setB ⟨hdr 58 1, 0, 1⟩ true).setB PNT.OUT.EMPTY false).regs }).count, passed := [] } : Closed), ({ ({} : Summary) with cal := false } : Summary), (fun s : State => { s with hist := { s.hist with sums := setNth s.hist.sums ((0)) [((({ aClosed with stage := .delivered, count := ({ aHand with cfg := ((State.reset.setB ⟨hdr 58 1, 0, 1⟩ true).setB PNT.OUT.EMPTY false).regs }).count, passed := [] } : Closed)).count, (({ ({} : Summary) with cal := false } : Summary)))] } }) ((fun s : State => s.setClosed (0) [{ ((({ aClosed with stage := .delivered, count := ({ aHand with cfg := ((State.reset.setB ⟨hdr 58 1, 0, 1⟩ true).setB PNT.OUT.EMPTY false).regs }).count, passed := [] } : Closed)) : Closed) with stage := .delivered }]) ((fun s : State => { s with deal := { s.deal with past := [(({ aHand with cfg := ((State.reset.setB ⟨hdr 58 1, 0, 1⟩ true).setB PNT.OUT.EMPTY false).regs } : Hand))] } }) (State.reset))), by decide +kernel⟩,
   ⟨0, ({ aHand with cfg := (State.reset.setB ⟨hdr 58 1, 0, 1⟩ true).regs } : Hand), ({ aClosed with stage := .delivered, count := ({ aHand with cfg := (State.reset.setB ⟨hdr 58 1, 0, 1⟩ true).regs }).count, passed := [] } : Closed), ({ ({} : Summary) with cal := false } : Summary), (fun s : State => { s with hist := { s.hist with sums := setNth s.hist.sums ((0)) [((({ aClosed with stage := .delivered, count := ({ aHand with cfg := (State.reset.setB ⟨hdr 58 1, 0, 1⟩ true).regs }).count, passed := [] } : Closed)).count, (({ ({} : Summary) with cal := false } : Summary)))] } }) ((fun s : State => s.setClosed (0) [{ ((({ aClosed with stage := .delivered, count := ({ aHand with cfg := (State.reset.setB ⟨hdr 58 1, 0, 1⟩ true).regs }).count, passed := [] } : Closed)) : Closed) with stage := .delivered }]) ((fun s : State => { s with deal := { s.deal with past := [(({ aHand with cfg := (State.reset.setB ⟨hdr 58 1, 0, 1⟩ true).regs } : Hand))] } }) (State.reset))), by decide +kernel⟩,
   ⟨0, aHand, ({ aClosed with stage := .delivered, count := (aHand).count } : Closed), ({} : Summary), (fun s : State => { s with hist := { s.hist with sums := setNth s.hist.sums ((0)) [((({ aClosed with stage := .delivered, count := (aHand).count } : Closed)).count, (({} : Summary)))] } }) ((fun s : State => s.setClosed (0) [{ ((({ aClosed with stage := .delivered, count := (aHand).count } : Closed)) : Closed) with stage := .delivered }]) ((fun s : State => { s with deal := { s.deal with past := [(aHand)] } }) (State.reset))), ((0)) + 1, by decide +kernel⟩,
   ⟨0, (fun s : State => { s with deal := { s.deal with past := [] } }) (State.reset), by decide +kernel⟩,
   ⟨0, aHand, ([] : List Hand), (fun s : State => { s with hist := { s.hist with closed := List.replicate 384 [{ aClosed with stage := .built }] } }) ((fun s : State => { s with deal := { s.deal with past := (aHand) :: (([] : List Hand)) } }) (State.reset)), by decide +kernel⟩,
   ⟨0, State.reset, by decide +kernel⟩⟩

theorem witness_TriggersAndArming :
    (∃ (n : Fin 8) (before : BitVec 12) (reached : BitVec 12) (sample : Nat) (s : State), TriggerReady s (↑n) 1 sample ∧ s.busLive (s.f (ACQ.SRC_CFG.CH ↑n) / 48) = true ∧ s.acq.onSpare = none ∧ (s.correctCode (s.f (ACQ.SRC_CFG.CH ↑n) / 48) (s.f (ACQ.SRC_CFG.CH ↑n)) before.toNat).1 < signed 16 (s.f (ACQ.SRC_PAR.PAR ↑n) % 65536) - ↑(s.f (ACQ.SRC_PAR.PAR ↑n) / 65536 % 4096) ∧ signed 16 (s.f (ACQ.SRC_PAR.PAR ↑n) % 65536) ≤ (s.correctCode (s.f (ACQ.SRC_CFG.CH ↑n) / 48) (s.f (ACQ.SRC_CFG.CH ↑n)) reached.toNat).1) ∧
    (∃ (n : Fin 8) (before : BitVec 12) (reached : BitVec 12) (sample : Nat) (s : State), TriggerReady s (↑n) 2 sample ∧ s.busLive (s.f (ACQ.SRC_CFG.CH ↑n) / 48) = true ∧ s.acq.onSpare = none ∧ signed 16 (s.f (ACQ.SRC_PAR.PAR ↑n) % 65536) + ↑(s.f (ACQ.SRC_PAR.PAR ↑n) / 65536 % 4096) < (s.correctCode (s.f (ACQ.SRC_CFG.CH ↑n) / 48) (s.f (ACQ.SRC_CFG.CH ↑n)) before.toNat).1 ∧ (s.correctCode (s.f (ACQ.SRC_CFG.CH ↑n) / 48) (s.f (ACQ.SRC_CFG.CH ↑n)) reached.toNat).1 ≤ signed 16 (s.f (ACQ.SRC_PAR.PAR ↑n) % 65536)) ∧
    (∃ (n : Fin 8) (rising : Bool) (sample : Nat) (s : State), TriggerReady s (↑n) (if rising = true then 3 else 4) sample ∧ (∀ m < 8, m ≠ ↑n → s.fb (ACQ.SRC_CFG.EN m) = false ∨ s.f (ACQ.SRC_CFG.TYPE m) ≠ if rising = true then 3 else 4)) ∧
    (∃ (n : Fin 8) (sample : Nat) (s : State), TriggerReady s (↑n) 5 sample) ∧
    (∃ (n : Fin 8) (sample : Nat) (s : State), TriggerReady s (↑n) 6 sample ∧ s.acq.forces ≠ 0 ∧ (∀ m < 8, m ≠ ↑n → s.fb (ACQ.SRC_CFG.EN m) = false ∨ s.f (ACQ.SRC_CFG.TYPE m) ≠ 6)) ∧
    (∃ (sample : Nat) (s : State), s.acq.forces = 0) ∧
    (∃ (n : Fin 8) (sample : Nat) (a : AcqSet) (s : State), s.acq.busy = true ∧ s.acq.set = some a ∧ a.sample ≠ some sample ∧ s.acqCfg.fb (ACQ.SRC_CFG.EN ↑n) = true ∧ s.acqCfg.f (ACQ.SRC_CFG.TYPE ↑n) = 5 ∧ s.typeArmed 5 = true) ∧
    (∃ (n : Fin 8) (sample : Nat) (s : State), s.acq.busy = false ∧ s.acq.set = none ∧ s.acqState = 2 ∧ s.fb (ACQ.SRC_CFG.EN ↑n) = true ∧ s.f (ACQ.SRC_CFG.TYPE ↑n) = 5 ∧ s.typeArmed 5 = true ∧ s.sourceReady ↑n = true ∧ s.ringFull = true) ∧
    (∃ (n : Fin 8) (sample : Nat) (s : State), s.acqCfg.fb (ACQ.SRC_CFG.EN ↑n) = false) ∧
    (∃ (src : Port) (s : State), s.f ACQ.MODE.MODE = 2) ∧
    (∃ (src : Port) (s : State), s.f ACQ.MODE.MODE ≠ 2) ∧
    (∃ (s : State), s.acq.busy = false ∧ s.acqCfg.acqMode ≠ 0 ∧ s.acq.done = false ∧ 2 ≤ s.acq.buffer.length) ∧
    (∃ (s : State), s.acq.busy = false ∧ s.acqCfg.acqMode ≠ 0 ∧ s.acq.done = false ∧ s.acq.buffer.length < 2 ∧ s.acqCfg.acqFilling = false) :=
  ⟨⟨0, 0#12, 0xFFF#12, 0, (fun s : State => { s with mono := 100000 }) ((fun s : State => { s with acq := { s.acq with since := List.replicate 8 (some 0) } }) ((((((((fun s : State => { s with pwr := { s.pwr with st := .run } }) ((fun s : State => { s with acq := { s.acq with onSpare := none } }) (((State.reset).setDom 4 .on).setB ⟨hdr 49 1, 0, 1⟩ true))).setDom 4 .on).setB ⟨hdr 49 1, 0, 1⟩ true).setB ⟨hdr 50 1, 0, 1⟩ true).setF ACQ.MODE.MODE 1).setB (ACQ.SRC_CFG.EN (0)) true).setF (ACQ.SRC_CFG.TYPE (0)) 1)), by unfold TriggerReady; decide +kernel⟩,
   ⟨0, 0xFFF#12, 0#12, 0, (fun s : State => { s with mono := 100000 }) ((fun s : State => { s with acq := { s.acq with since := List.replicate 8 (some 0) } }) ((((((((fun s : State => { s with pwr := { s.pwr with st := .run } }) ((fun s : State => { s with acq := { s.acq with onSpare := none } }) (((State.reset).setDom 4 .on).setB ⟨hdr 49 1, 0, 1⟩ true))).setDom 4 .on).setB ⟨hdr 49 1, 0, 1⟩ true).setB ⟨hdr 50 1, 0, 1⟩ true).setF ACQ.MODE.MODE 1).setB (ACQ.SRC_CFG.EN (0)) true).setF (ACQ.SRC_CFG.TYPE (0)) 2)), by unfold TriggerReady; decide +kernel⟩,
   ⟨0, false, 0, (fun s : State => { s with mono := 100000 }) ((fun s : State => { s with acq := { s.acq with since := List.replicate 8 (some 0) } }) ((((((((fun s : State => { s with pwr := { s.pwr with st := .run } }) (State.reset)).setDom 4 .on).setB ⟨hdr 49 1, 0, 1⟩ true).setB ⟨hdr 50 1, 0, 1⟩ true).setF ACQ.MODE.MODE 1).setB (ACQ.SRC_CFG.EN (0)) true).setF (ACQ.SRC_CFG.TYPE (0)) 4)), by unfold TriggerReady; decide +kernel⟩,
   ⟨0, 0, (fun s : State => { s with mono := 100000 }) ((fun s : State => { s with acq := { s.acq with since := List.replicate 8 (some 0) } }) ((((((((fun s : State => { s with pwr := { s.pwr with st := .run } }) (State.reset)).setDom 4 .on).setB ⟨hdr 49 1, 0, 1⟩ true).setB ⟨hdr 50 1, 0, 1⟩ true).setF ACQ.MODE.MODE 1).setB (ACQ.SRC_CFG.EN (0)) true).setF (ACQ.SRC_CFG.TYPE (0)) 5)), by unfold TriggerReady; decide +kernel⟩,
   ⟨0, 0, (fun s : State => { s with acq := { s.acq with forces := 1 } }) ((fun s : State => { s with mono := 100000 }) ((fun s : State => { s with acq := { s.acq with since := List.replicate 8 (some 0) } }) ((((((((fun s : State => { s with pwr := { s.pwr with st := .run } }) (State.reset)).setDom 4 .on).setB ⟨hdr 49 1, 0, 1⟩ true).setB ⟨hdr 50 1, 0, 1⟩ true).setF ACQ.MODE.MODE 1).setB (ACQ.SRC_CFG.EN (0)) true).setF (ACQ.SRC_CFG.TYPE (0)) 6))), by unfold TriggerReady; decide +kernel⟩,
   ⟨0, (fun s : State => { s with acq := { s.acq with forces := 0 } }) (State.reset), by decide +kernel⟩,
   ⟨0, 5, ({ anAcq with cfg := ((State.reset.setB (ACQ.SRC_CFG.EN 0) true).setF (ACQ.SRC_CFG.TYPE 0) 5).regs } : AcqSet), (fun s : State => { s with pwr := { s.pwr with st := .run } }) ((fun s : State => { s with acq := { s.acq with set := some (({ anAcq with cfg := ((State.reset.setB (ACQ.SRC_CFG.EN 0) true).setF (ACQ.SRC_CFG.TYPE 0) 5).regs } : AcqSet)) } }) ((fun s : State => { s with acq := { s.acq with busy := true } }) (State.reset))), by decide +kernel⟩,
   ⟨0, 0, ((fun s : State => { s with mono := 100000 }) ((fun s : State => { s with acq := { s.acq with since := List.replicate 8 (some 0) } }) ((((((((fun s : State => { s with pwr := { s.pwr with st := .run } }) ((((fun s : State => { s with acq := { s.acq with set := none } }) ((fun s : State => { s with acq := { s.acq with busy := false } }) (State.reset))).setB (ACQ.SRC_CFG.EN (0)) true).setF (ACQ.SRC_CFG.TYPE (0)) 5)).setDom 4 .on).setB ⟨hdr 49 1, 0, 1⟩ true).setB ⟨hdr 50 1, 0, 1⟩ true).setF ACQ.MODE.MODE 1).setB (ACQ.SRC_CFG.EN (0)) true).setF (ACQ.SRC_CFG.TYPE (0)) 5))).setF ACQ.RING_WR.PTR 65535, by decide +kernel⟩,
   ⟨0, 0, State.reset, by decide +kernel⟩,
   ⟨.spi, (State.reset).setF ACQ.MODE.MODE 2, by decide +kernel⟩,
   ⟨.spi, (State.reset).setF ACQ.MODE.MODE 0, by decide +kernel⟩,
   ⟨(fun s : State => { s with acq := { s.acq with buffer := [aWave, aWave] } }) ((((fun s : State => { s with acq := { s.acq with done := false } }) ((fun s : State => { s with acq := { s.acq with busy := false } }) (State.reset))).setB ⟨hdr 50 1, 0, 1⟩ true).setF ACQ.MODE.MODE 1), by decide +kernel⟩,
   ⟨(((fun s : State => { s with acq := { s.acq with done := false } }) ((fun s : State => { s with acq := { s.acq with busy := false } }) (State.reset))).setB ⟨hdr 50 1, 0, 1⟩ true).setF ACQ.MODE.MODE 1, by decide +kernel⟩⟩

theorem witness_RecordsAndRing :
    (∃ (raw : List RawSample) (a : AcqSet) (s : State), s.acq.set = some a ∧ s.acq.busy = true ∧ raw.length = s.acqCfg.f ACQ.REC.LEN ∧ s.domOn 4 = true ∧ s.enabled 49 = true ∧ s.commits = [] ∧ a.done + 1 ≠ 2 ^ s.acqCfg.f ACQ.MODE.AVG) ∧
    (∃ (raw : List RawSample) (a : AcqSet) (s : State), s.acq.set = some a ∧ s.acq.busy = true ∧ raw.length = s.acqCfg.f ACQ.REC.LEN ∧ s.domOn 4 = true ∧ s.enabled 49 = true ∧ s.commits = [] ∧ a.done = 0 ∧ s.acqCfg.f ACQ.MODE.AVG = 0 ∧ s.acqCfg.fb ACQ.OUT.WAVE_EN = true ∧ s.acqCfg.fb ACQ.MEAS.MEAS_EN = false ∧ s.acqCfg.f ACQ.MODE.MODE = 2 ∧ s.acqCfg.enabled 50 = true ∧ s.acqMode = 2) ∧
    (∃ (raw : List RawSample) (s : State), s.commits = [] ∧ (s.acq.busy = false ∨ s.acq.set = none ∨ raw.length ≠ s.acqCfg.f ACQ.REC.LEN)) ∧
    (∃ (ovs : List Nat) (s : State) (a : Nat), s.commits = [] ∧ s.acq.busy = false ∧ s.domOn 4 = true ∧ s.enabled 49 = true ∧ a < 9) ∧
    (∃ (r : WaveOut) (rs : List WaveOut) (dt : Nat) (p : List Word36) (es : List (Nat × List Word36)) (s : State) (i : Nat), s.domOn 4 = true ∧ s.acq.buffer = r :: rs ∧ r.entries = (dt, p) :: es ∧ r.bank < 32 ∧ s.moverOk 3 r.bank = true ∧ p.length < 65536 ∧ s.fb ACQ.RR.RR_EN = false ∧ i < p.length) ∧
    (∃ (r : WaveOut) (rs : List WaveOut) (dt : Nat) (p : List Word36) (es : List (Nat × List Word36)) (s : State) (a : Nat), s.domOn 4 = true ∧ s.acq.buffer = r :: rs ∧ r.entries = (dt, p) :: es ∧ r.bank < 32 ∧ s.moverOk 3 r.bank = true ∧ p.length < 65536 ∧ s.fb ACQ.RR.RR_EN = false ∧ (∀ i ≤ p.length, a ≠ bankAddr r.bank (s.f ACQ.RING_WR.PTR + i))) ∧
    (∃ (s : State), (s.domOn 4 = false ∨ s.acq.buffer = [])) ∧
    (∃ (s : State), s.fb ACQ.RR.RR_EN = true ∧ s.ringFill < s.f ACQ.RR.LO * 64 ∧ s.f ACQ.STATE.STEP ≠ 0) ∧
    (∃ (s : State), (s.fb ACQ.RR.RR_EN = false ∨ s.f ACQ.RR.LO * 64 ≤ s.ringFill ∨ s.f ACQ.STATE.STEP = 0)) ∧
    (∃ (src : Port) (d : BitVec 32) (s : State), s.fb ACQ.OUT.LINK_EN = false) ∧
    (∃ (src : Port) (d : BitVec 32) (s : State), s.fb ACQ.OUT.LINK_EN = true) ∧
    (∃ (r : CommitReq) (s : State) (a : Nat), s.commits = [r] ∧ r.page = 49 ∧ r.armed = true ∧ r.boundary = 1 ∧ r.begun = false ∧ s.ispHeld = none ∧ s.pwr.st ≠ PState.run ∧ s.adcWaits (s.changes 49) = false ∧ s.judgeRequest 49 1 true [] = none ∧ a / 1024 = 49) ∧
    (∃ (s : State), ((∀ r ∈ s.commits, r.page ≠ 49) ∨ s.pwr.st = PState.run)) :=
  ⟨⟨[RawSample.missing], ({ anAcq with cfg := ((State.reset.setF ACQ.REC.LEN 1).setF ACQ.MODE.AVG 1).regs } : AcqSet), (fun s : State => { s with commits := [] }) ((((fun s : State => { s with acq := { s.acq with busy := true } }) ((fun s : State => { s with acq := { s.acq with set := some (({ anAcq with cfg := ((State.reset.setF ACQ.REC.LEN 1).setF ACQ.MODE.AVG 1).regs } : AcqSet)) } }) (State.reset))).setDom 4 .on).setB ⟨hdr 49 1, 0, 1⟩ true), by decide +kernel⟩,
   ⟨[RawSample.missing], ({ anAcq with cfg := ((((State.reset.setF ACQ.REC.LEN 1).setF ACQ.MODE.MODE 2).setB ⟨hdr 50 1, 0, 1⟩ true).setB ACQ.OUT.WAVE_EN true).regs } : AcqSet), (((fun s : State => { s with commits := [] }) ((((fun s : State => { s with acq := { s.acq with busy := true } }) ((fun s : State => { s with acq := { s.acq with set := some (({ anAcq with cfg := ((((State.reset.setF ACQ.REC.LEN 1).setF ACQ.MODE.MODE 2).setB ⟨hdr 50 1, 0, 1⟩ true).setB ACQ.OUT.WAVE_EN true).regs } : AcqSet)) } }) (State.reset))).setDom 4 .on).setB ⟨hdr 49 1, 0, 1⟩ true)).setB ⟨hdr 50 1, 0, 1⟩ true).setF ACQ.MODE.MODE 2, by decide +kernel⟩,
   ⟨([] : List RawSample), (fun s : State => { s with acq := { s.acq with busy := false } }) ((fun s : State => { s with commits := [] }) (State.reset)), by decide +kernel⟩,
   ⟨([] : List ℕ), (((fun s : State => { s with acq := { s.acq with busy := false } }) ((fun s : State => { s with commits := [] }) (State.reset))).setDom 4 .on).setB ⟨hdr 49 1, 0, 1⟩ true, 0, by decide +kernel⟩,
   ⟨({ aWave with entries := ((0), ([0#36])) :: (([] : List (ℕ × List Word36))) } : WaveOut), ([] : List WaveOut), 0, [0#36], ([] : List (ℕ × List Word36)), (((((fun s : State => { s with acq := { s.acq with buffer := (({ aWave with entries := ((0), ([0#36])) :: (([] : List (ℕ × List Word36))) } : WaveOut)) :: (([] : List WaveOut)) } }) ((State.reset).setDom 4 .on)).setB ⟨hdr 13 1, 0, 1⟩ true).setDom 7 .on).setF (BANK.OWN.OWNER ((({ aWave with entries := ((0), ([0#36])) :: (([] : List (ℕ × List Word36))) } : WaveOut)).bank)) 3).setB ACQ.RR.RR_EN false, 0, by decide +kernel⟩,
   ⟨({ aWave with entries := ((0), (([] : List Word36))) :: (([] : List (ℕ × List Word36))) } : WaveOut), ([] : List WaveOut), 0, ([] : List Word36), ([] : List (ℕ × List Word36)), (((((fun s : State => { s with acq := { s.acq with buffer := (({ aWave with entries := ((0), (([] : List Word36))) :: (([] : List (ℕ × List Word36))) } : WaveOut)) :: (([] : List WaveOut)) } }) ((State.reset).setDom 4 .on)).setB ⟨hdr 13 1, 0, 1⟩ true).setDom 7 .on).setF (BANK.OWN.OWNER ((({ aWave with entries := ((0), (([] : List Word36))) :: (([] : List (ℕ × List Word36))) } : WaveOut)).bank)) 3).setB ACQ.RR.RR_EN false, 0, by decide +kernel⟩,
   ⟨State.reset, by decide +kernel⟩,
   ⟨((State.reset).setB ACQ.RR.RR_EN true).setF ACQ.STATE.STEP 1, by decide +kernel⟩,
   ⟨(State.reset).setB ACQ.RR.RR_EN false, by decide +kernel⟩,
   ⟨.spi, 0#32, (State.reset).setB ACQ.OUT.LINK_EN false, by decide +kernel⟩,
   ⟨.spi, 0#32, (State.reset).setB ACQ.OUT.LINK_EN true, by decide +kernel⟩,
   ⟨({ aRequest with page := 49, armed := true, boundary := 1, begun := false } : CommitReq), (fun s : State => { s with ispHeld := none }) ((fun s : State => { s with commits := [(({ aRequest with page := 49, armed := true, boundary := 1, begun := false } : CommitReq))] }) (State.reset)), 49 * 1024, by decide +kernel⟩,
   ⟨State.reset, by decide +kernel⟩⟩

theorem witness_SpareConverter :
    (∃ (k : Fin 8) (cause : AdcCause) (s : State), s.domOn 4 = true ∧ s.fb (ADC.STAT.FAILED ↑k) = false ∧ s.f ADC.SPARE.STATE = 0 ∧ s.cal.adc = none) ∧
    (∃ (k : Fin 8) (cause : AdcCause) (s : State), s.domOn 4 = true ∧ s.fb (ADC.STAT.FAILED ↑k) = false ∧ (s.f ADC.SPARE.STATE = 7 ∨ s.f ADC.SPARE.STATE = 1 ∧ s.f ADC.SPARE.BUS ≠ ↑k)) ∧
    (∃ (cause : AdcCause) (s : State), s.domOn 4 = true ∧ s.fb (ADC.STAT.FAILED 8) = false ∧ s.f ADC.SPARE.STATE = 0 ∧ s.cal.adc = none) ∧
    (∃ (a : Fin 9) (cause : AdcCause) (s : State), (s.domOn 4 = false ∨ s.fb (ADC.STAT.FAILED ↑a) = true)) ∧
    (∃ (h : Handover) (s : State), s.domOn 4 = true ∧ s.acq.handover = some h ∧ h.toSpare = true) ∧
    (∃ (h : Handover) (s : State), s.domOn 4 = true ∧ s.acq.handover = some h ∧ h.toSpare = false) ∧
    (∃ (s : State), (s.domOn 4 = false ∨ s.acq.handover = none)) ∧
    (∃ (src : Port) (a : Fin 8) (s : State), s.fb (ADC.STAT.FAILED ↑a) = true) ∧
    (∃ (src : Port) (a : Fin 8) (s : State), s.fb (ADC.STAT.FAILED ↑a) = false) ∧
    (∃ (a : Fin 8) (s : State), s.domOn 4 = true ∧ ↑a ∈ s.acq.retests ∧ s.acq.onSpare = some ↑a) ∧
    (∃ (a : Fin 8) (pass : Bool) (s : State), (s.domOn 4 = false ∨ ↑a ∉ s.acq.retests)) :=
  ⟨⟨0, .redundancy, (fun s : State => { s with cal := { s.cal with adc := none } }) ((((State.reset).setDom 4 .on).setB (ADC.STAT.FAILED (0)) false).setF ADC.SPARE.STATE 0), by decide +kernel⟩,
   ⟨0, .redundancy, (((State.reset).setDom 4 .on).setB (ADC.STAT.FAILED (0)) false).setF ADC.SPARE.STATE 7, by decide +kernel⟩,
   ⟨.redundancy, (fun s : State => { s with cal := { s.cal with adc := none } }) ((((State.reset).setDom 4 .on).setB (ADC.STAT.FAILED 8) false).setF ADC.SPARE.STATE 0), by decide +kernel⟩,
   ⟨0, .redundancy, State.reset, by decide +kernel⟩,
   ⟨({ ({ bus := 0, toSpare := true } : Handover) with toSpare := true } : Handover), (fun s : State => { s with acq := { s.acq with handover := some (({ ({ bus := 0, toSpare := true } : Handover) with toSpare := true } : Handover)) } }) ((State.reset).setDom 4 .on), by decide +kernel⟩,
   ⟨({ ({ bus := 0, toSpare := true } : Handover) with toSpare := false } : Handover), (fun s : State => { s with acq := { s.acq with handover := some (({ ({ bus := 0, toSpare := true } : Handover) with toSpare := false } : Handover)) } }) ((State.reset).setDom 4 .on), by decide +kernel⟩,
   ⟨State.reset, by decide +kernel⟩,
   ⟨.spi, 0, (State.reset).setB (ADC.STAT.FAILED (0)) true, by decide +kernel⟩,
   ⟨.spi, 0, (State.reset).setB (ADC.STAT.FAILED (0)) false, by decide +kernel⟩,
   ⟨0, (fun s : State => { s with acq := { s.acq with onSpare := some (0) } }) ((fun s : State => { s with acq := { s.acq with retests := [(0)] } }) ((State.reset).setDom 4 .on)), by decide +kernel⟩,
   ⟨0, false, State.reset, by decide +kernel⟩⟩

theorem witness_CameraReception :
    (∃ (p : Fin 4) (lane : Fin 4) (s : State), s.camOn ↑p = true ∧ ↑lane ≤ s.f (CAM.PHY.LANES ↑p)) ∧
    (∃ (p : Fin 4) (s : State) (q : Nat), s.camOn ↑p = true ∧ s.cam.ports.length = 4 ∧ q ≠ ↑p) ∧
    (∃ (p : Fin 4) (vc : Fin 16) (s : State) (q : Nat), s.camOn ↑p = true ∧ ↑vc = s.f (CAM.STREAM.VC ↑p) ∧ s.cam.ports.length = 4 ∧ (s.port ↑p).open? = none ∧ s.commits = [] ∧ bitOf (s.f ZONE.PROJ.RASTER_EN) ↑p = false ∧ (s.port ↑p).rasters = [] ∧ q ≠ ↑p) ∧
    (∃ (p : Fin 4) (vc : Fin 16) (payload : List (BitVec 16)) (f : CamFrame) (s : State) (q : Nat), s.camOn ↑p = true ∧ ↑vc = s.f (CAM.STREAM.VC ↑p) ∧ s.cam.ports.length = 4 ∧ (s.port ↑p).open? = some f ∧ s.enabled 68 = true ∧ s.yuvIn ↑p = false ∧ (s.asFrame f).yuvIn ↑p = false ∧ (s.asFrame f).f (CAM.STREAM.MODE ↑p) ≠ 2 ∧ f.rows.length < (s.asFrame f).camHeight ↑p ∧ payload.length = (s.asFrame f).camWidth ↑p ∧ (s.f (CAM.PHY.RATE ↑p) ≤ 1500 ∨ (s.port ↑p).deskewed = true) ∧ q ≠ ↑p) ∧
    (∃ (p : Fin 4) (vc : Fin 16) (dt : BitVec 6) (crcOk : Bool) (full : Bool) (payload : List (BitVec 16)) (s : State), s.camOn ↑p = true ∧ ↑vc ≠ s.f (CAM.STREAM.VC ↑p)) ∧
    (∃ (p : Fin 4) (vc : Fin 16) (dt : BitVec 6) (crcOk : Bool) (full : Bool) (payload : List (BitVec 16)) (s : State), s.camOn ↑p = true ∧ ↑vc = s.f (CAM.STREAM.VC ↑p) ∧ dt.toNat ≠ s.f (CAM.STREAM.DT ↑p)) ∧
    (∃ (p : Fin 4) (vc : Fin 16) (f : CamFrame) (s : State), s.camOn ↑p = true ∧ ↑vc = s.f (CAM.STREAM.VC ↑p) ∧ s.cam.ports.length = 4 ∧ (s.port ↑p).open? = some f ∧ f.long = false ∧ s.fb (CAM.AE.AUTO ↑p) = false ∧ (s.port ↑p).need = false ∧ f.rows.length = (s.asFrame f).camHeight ↑p) ∧
    (∃ (p : Fin 4) (vc : Fin 16) (f : CamFrame) (s : State), s.camOn ↑p = true ∧ ↑vc = s.f (CAM.STREAM.VC ↑p) ∧ s.cam.ports.length = 4 ∧ (s.port ↑p).open? = some f ∧ f.long = false ∧ s.fb (CAM.AE.AUTO ↑p) = false ∧ (s.port ↑p).need = false ∧ f.rows.length < (s.asFrame f).camHeight ↑p) ∧
    (∃ (p : Fin 4) (vc : Fin 16) (k : Nat) (ks : List Nat) (s : State), s.camOn ↑p = true ∧ ↑vc = s.f (CAM.STREAM.VC ↑p) ∧ s.cam.ports.length = 4 ∧ (s.port ↑p).open? = none ∧ s.fb (CAM.AE.AUTO ↑p) = false ∧ (s.port ↑p).need = true ∧ (s.port ↑p).relay = none ∧ (s.port ↑p).hostRuns = false ∧ s.i2cMaster = true ∧ (filterRange (min 8 (s.f (CAM.RELAY.NENT ↑p))) fun k => s.fb (CAM.SCRIPT.EN (↑p) k)) = k :: ks) ∧
    (∃ (p : Fin 4) (f : CamFrame) (s : State), s.cam.ports.length = 4 ∧ (s.port ↑p).open? = some f ∧ f.rows ≠ [] ∧ f.long = false ∧ f.rows.length < (s.asFrame f).camHeight ↑p) ∧
    (∃ (p : Fin 4) (s : State), (s.port ↑p).open? = none) ∧
    (∃ (p : Fin 4) (s : State) (q : Nat), s.camOn ↑p = true ∧ s.commits = [] ∧ s.cam.ports.length = 4 ∧ q ≠ ↑p) ∧
    (∃ (p : Fin 4) (lane : Fin 4) (vc : Fin 16) (dt : BitVec 6) (e : HeaderEcc) (a : Bool) (b : Bool) (payload : List (BitVec 16)) (s : State), s.camOn ↑p = false) :=
  ⟨⟨0, 0, (((State.reset).setDom 6 .on).setB ⟨hdr (64 + (0)) 1, 0, 1⟩ true).setF (CAM.STREAM.MODE (0)) 1, by decide +kernel⟩,
   ⟨0, (((State.reset).setDom 6 .on).setB ⟨hdr (64 + (0)) 1, 0, 1⟩ true).setF (CAM.STREAM.MODE (0)) 1, ((0)) + 1, by decide +kernel⟩,
   ⟨0, 0, (fun s : State => s.updPort (0) fun z9 => { z9 with rasters := [] }) (((fun s : State => { s with commits := [] }) ((((State.reset).setDom 6 .on).setB ⟨hdr (64 + (0)) 1, 0, 1⟩ true).setF (CAM.STREAM.MODE (0)) 1)).setF ZONE.PROJ.RASTER_EN (0)), ((0)) + 1, by decide +kernel⟩,
   ⟨0, 0, [1#16, 2#16], ({ aFrame with cfg := ((State.reset.setF (CAM.GEOM.HEIGHT 0) 4).setF (CAM.GEOM.WIDTH 0) 2).regs } : CamFrame), ((fun s : State => s.updPort (0) fun z9 => { z9 with frames := [(({ aFrame with cfg := ((State.reset.setF (CAM.GEOM.HEIGHT 0) 4).setF (CAM.GEOM.WIDTH 0) 2).regs } : CamFrame))] }) ((((State.reset).setDom 6 .on).setB ⟨hdr (64 + (0)) 1, 0, 1⟩ true).setF (CAM.STREAM.MODE (0)) 1)).setB ⟨hdr 68 1, 0, 1⟩ true, ((0)) + 1, by decide +kernel⟩,
   ⟨0, 5, 0#6, false, false, ([] : List (BitVec 16)), (((State.reset).setDom 6 .on).setB ⟨hdr (64 + (0)) 1, 0, 1⟩ true).setF (CAM.STREAM.MODE (0)) 1, by decide +kernel⟩,
   ⟨0, 0, 0#6, false, false, ([] : List (BitVec 16)), (((State.reset).setDom 6 .on).setB ⟨hdr (64 + (0)) 1, 0, 1⟩ true).setF (CAM.STREAM.MODE (0)) 1, by decide +kernel⟩,
   ⟨0, 0, ({ aFrame with cfg := (State.reset.setF (CAM.GEOM.HEIGHT 0) 1).regs, rows := [{ stamp := 0 }] } : CamFrame), (fun s : State => s.updPort (0) fun z9 => { z9 with need := false }) (((fun s : State => s.updPort (0) fun z9 => { z9 with frames := [(({ aFrame with cfg := (State.reset.setF (CAM.GEOM.HEIGHT 0) 1).regs, rows := [{ stamp := 0 }] } : CamFrame))] }) ((((State.reset).setDom 6 .on).setB ⟨hdr (64 + (0)) 1, 0, 1⟩ true).setF (CAM.STREAM.MODE (0)) 1)).setB (CAM.AE.AUTO (0)) false), by decide +kernel⟩,
   ⟨0, 0, ({ aFrame with long := false } : CamFrame), (fun s : State => s.updPort (0) fun z9 => { z9 with need := false }) (((fun s : State => s.updPort (0) fun z9 => { z9 with frames := [(({ aFrame with long := false } : CamFrame))] }) ((((State.reset).setDom 6 .on).setB ⟨hdr (64 + (0)) 1, 0, 1⟩ true).setF (CAM.STREAM.MODE (0)) 1)).setB (CAM.AE.AUTO (0)) false), by decide +kernel⟩,
   ⟨0, 0, 0, ([] : List Nat), (fun s : State => { s with pwr := { s.pwr with st := .run } }) ((fun s : State => s.updPort 0 fun x => { x with need := true }) ((((((State.reset).setF (CAM.RELAY.NENT 0) 1).setB (CAM.SCRIPT.EN 0 0) true).setDom 6 .on).setB ⟨hdr 64 1, 0, 1⟩ true).setF (CAM.STREAM.MODE 0) 1)), by decide +kernel⟩,
   ⟨0, ({ aFrame with rows := [{ stamp := 0 }] } : CamFrame), ((fun s : State => s.updPort (0) fun z9 => { z9 with frames := [(({ aFrame with rows := [{ stamp := 0 }] } : CamFrame))] }) (State.reset)).setF (CAM.GEOM.HEIGHT 0) 8, by decide +kernel⟩,
   ⟨0, State.reset, by decide +kernel⟩,
   ⟨0, (fun s : State => { s with commits := [] }) ((((State.reset).setDom 6 .on).setB ⟨hdr (64 + (0)) 1, 0, 1⟩ true).setF (CAM.STREAM.MODE (0)) 1), ((0)) + 1, by decide +kernel⟩,
   ⟨0, 0, 0, 0#6, .clean, false, false, ([] : List (BitVec 16)), State.reset, by decide +kernel⟩⟩

theorem witness_IspAndSensorBus :
    (∃ (p : Nat) (f : CamFrame) (s : State) (g : CamFrame), s.ispPick = some p ∧ s.ispReady p = some f ∧ p < 4 ∧ s.cam.ports.length = 4 ∧ g.number = f.number) ∧
    (∃ (p : Nat) (f : CamFrame) (s : State) (q : Nat), s.ispPick = some p ∧ s.ispReady p = some f ∧ p < 4 ∧ s.cam.ports.length = 4 ∧ q ≠ p) ∧
    (∃ (s : State), s.ispPick = none) ∧
    (∃ (p : Fin 4) (f : CamFrame) (s : State), s.enabled 68 = true ∧ s.domOn 6 = true ∧ s.cam.ports.length = 4 ∧ (s.port ↑p).frames = [f] ∧ f.ended = true ∧ f.out = f.rows.length ∧ f.statsSent = false ∧ (s.asFrame f).fb (ISP.CTL.STATS_EN ↑p) = true) ∧
    (∃ (p : Fin 4) (s : State), (s.enabled 68 = false ∨ s.domOn 6 = false ∨ (s.port ↑p).frames = [])) ∧
    (∃ (src : Port) (p : Fin 4) (d : BitVec 32) (s : State), d.getLsbD 31 = true ∧ s.fb (CAM.I2C_STAT.BUSY ↑p) = true) ∧
    (∃ (src : Port) (p : Fin 4) (d : BitVec 32) (s : State), d.getLsbD 31 = true ∧ s.fb (CAM.I2C_STAT.BUSY ↑p) = false ∧ s.cam.ports.length = 4 ∧ (s.port ↑p).relay = none ∧ (s.port ↑p).hostRuns = false) ∧
    (∃ (p : Fin 4) (ack : Bool) (data : BitVec 32) (s : State), s.domOn 6 = true ∧ s.cam.ports.length = 4 ∧ (s.port ↑p).hostRuns = true ∧ (s.port ↑p).hostWaits = false ∧ (s.port ↑p).relay = none ∧ s.fb (CAM.I2C_XFER.READ ↑p) = true ∧ ack = true) ∧
    (∃ (p : Fin 4) (ack : Bool) (data : BitVec 32) (s : State), s.domOn 6 = true ∧ s.cam.ports.length = 4 ∧ (s.port ↑p).hostRuns = true ∧ (s.port ↑p).hostWaits = false ∧ (s.port ↑p).relay = none ∧ (s.fb (CAM.I2C_XFER.READ ↑p) = false ∨ ack = false)) ∧
    (∃ (p : Fin 4) (s : State), s.domOn 6 = true ∧ s.cam.ports.length = 4 ∧ (s.port ↑p).hostRuns = true ∧ (s.port ↑p).hostWaits = false ∧ (s.port ↑p).relay = none) ∧
    (∃ (p : Fin 4) (data : BitVec 32) (r : Relay) (k : Nat) (s : State), s.domOn 6 = true ∧ s.cam.ports.length = 4 ∧ (s.port ↑p).hostRuns = false ∧ (s.port ↑p).hostWaits = false ∧ (s.port ↑p).relay = some r ∧ r.running = true ∧ r.left = [k] ∧ r.frame = s.f (CAM.FRAME.FRAME ↑p)) ∧
    (∃ (p : Fin 4) (ack : Bool) (data : BitVec 32) (s : State), s.domOn 6 = false) ∧
    (∃ (p : Fin 4) (s : State) (q : Nat), s.domOn 6 = true ∧ s.enabled (64 + ↑p) = true ∧ s.fb (CAM.FSYNC.EN ↑p) = true ∧ (s.pwr.st = PState.ready ∨ s.pwr.st = PState.run) ∧ s.cam.ports.length = 4 ∧ q ≠ ↑p) ∧
    (∃ (p : Fin 4) (s : State), (s.domOn 6 = false ∨ s.enabled (64 + ↑p) = false ∨ s.fb (CAM.FSYNC.EN ↑p) = false ∨ s.pwr.st ≠ PState.ready ∧ s.pwr.st ≠ PState.run)) :=
  ⟨⟨0, ({ aFrame with rows := [{ stamp := 0 }, { stamp := 1 }, { stamp := 2 }, { stamp := 3 }, { stamp := 4 }], cfg := (((State.reset.setF (CAM.GEOM.HEIGHT 0) 2).setF (CAM.STREAM.MODE 0) 1).setF (CAM.STREAM.DT 0) 42).regs } : CamFrame), (fun s : State => s.updPort 0 fun x => { x with frames := [{ aFrame with rows := [{ stamp := 0 }, { stamp := 1 }, { stamp := 2 }, { stamp := 3 }, { stamp := 4 }], cfg := (((State.reset.setF (CAM.GEOM.HEIGHT 0) 2).setF (CAM.STREAM.MODE 0) 1).setF (CAM.STREAM.DT 0) 42).regs }] }) (((State.reset).setDom 6 .on).setB ⟨hdr 68 1, 0, 1⟩ true), ({ aFrame with rows := [{ stamp := 0 }, { stamp := 1 }, { stamp := 2 }, { stamp := 3 }, { stamp := 4 }], cfg := (((State.reset.setF (CAM.GEOM.HEIGHT 0) 2).setF (CAM.STREAM.MODE 0) 1).setF (CAM.STREAM.DT 0) 42).regs } : CamFrame), by decide +kernel⟩,
   ⟨0, ({ aFrame with rows := [{ stamp := 0 }, { stamp := 1 }, { stamp := 2 }, { stamp := 3 }, { stamp := 4 }], cfg := (((State.reset.setF (CAM.GEOM.HEIGHT 0) 2).setF (CAM.STREAM.MODE 0) 1).setF (CAM.STREAM.DT 0) 42).regs } : CamFrame), (fun s : State => s.updPort 0 fun x => { x with frames := [{ aFrame with rows := [{ stamp := 0 }, { stamp := 1 }, { stamp := 2 }, { stamp := 3 }, { stamp := 4 }], cfg := (((State.reset.setF (CAM.GEOM.HEIGHT 0) 2).setF (CAM.STREAM.MODE 0) 1).setF (CAM.STREAM.DT 0) 42).regs }] }) (((State.reset).setDom 6 .on).setB ⟨hdr 68 1, 0, 1⟩ true), ((0)) + 1, by decide +kernel⟩,
   ⟨State.reset, by decide +kernel⟩,
   ⟨0, ({ aFrame with ended := true, cfg := (State.reset.setB (ISP.CTL.STATS_EN 0) true).regs } : CamFrame), (fun s : State => s.updPort (0) fun z9 => { z9 with frames := [(({ aFrame with ended := true, cfg := (State.reset.setB (ISP.CTL.STATS_EN 0) true).regs } : CamFrame))] }) (((State.reset).setB ⟨hdr 68 1, 0, 1⟩ true).setDom 6 .on), by decide +kernel⟩,
   ⟨0, (State.reset).setB ⟨hdr 68 1, 0, 1⟩ false, by decide +kernel⟩,
   ⟨.spi, 0, 0x80000000#32, (State.reset).setB (CAM.I2C_STAT.BUSY (0)) true, by decide +kernel⟩,
   ⟨.spi, 0, 0x80000000#32, (fun s : State => s.updPort (0) fun z9 => { z9 with hostRuns := false }) ((fun s : State => s.updPort (0) fun z9 => { z9 with relay := none }) ((State.reset).setB (CAM.I2C_STAT.BUSY (0)) false)), by decide +kernel⟩,
   ⟨0, true, 0#32, ((fun s : State => s.updPort (0) fun z9 => { z9 with relay := none }) ((fun s : State => s.updPort (0) fun z9 => { z9 with hostWaits := false }) ((fun s : State => s.updPort (0) fun z9 => { z9 with hostRuns := true }) ((State.reset).setDom 6 .on)))).setB (CAM.I2C_XFER.READ (0)) true, by decide +kernel⟩,
   ⟨0, false, 0#32, ((fun s : State => s.updPort (0) fun z9 => { z9 with relay := none }) ((fun s : State => s.updPort (0) fun z9 => { z9 with hostWaits := false }) ((fun s : State => s.updPort (0) fun z9 => { z9 with hostRuns := true }) ((State.reset).setDom 6 .on)))).setB (CAM.I2C_XFER.READ (0)) false, by decide +kernel⟩,
   ⟨0, (fun s : State => s.updPort (0) fun z9 => { z9 with relay := none }) ((fun s : State => s.updPort (0) fun z9 => { z9 with hostWaits := false }) ((fun s : State => s.updPort (0) fun z9 => { z9 with hostRuns := true }) ((State.reset).setDom 6 .on))), by decide +kernel⟩,
   ⟨0, 0#32, ({ aRelay with running := true, left := [(0)], frame := ((fun s : State => s.updPort (0) fun z9 => { z9 with relay := some (({ aRelay with running := true, left := [(0)], frame := s.f (CAM.FRAME.FRAME (0)) } : Relay)) }) ((fun s : State => s.updPort (0) fun z9 => { z9 with hostWaits := false }) ((fun s : State => s.updPort (0) fun z9 => { z9 with hostRuns := false }) ((State.reset).setDom 6 .on)))).f (CAM.FRAME.FRAME (0)) } : Relay), 0, (fun s : State => s.updPort (0) fun z9 => { z9 with relay := some (({ aRelay with running := true, left := [(0)], frame := s.f (CAM.FRAME.FRAME (0)) } : Relay)) }) ((fun s : State => s.updPort (0) fun z9 => { z9 with hostWaits := false }) ((fun s : State => s.updPort (0) fun z9 => { z9 with hostRuns := false }) ((State.reset).setDom 6 .on))), by decide +kernel⟩,
   ⟨0, false, 0#32, State.reset, by decide +kernel⟩,
   ⟨0, (fun s : State => { s with pwr := { s.pwr with st := PState.ready } }) ((((State.reset).setDom 6 .on).setB ⟨hdr (64 + (0)) 1, 0, 1⟩ true).setB (CAM.FSYNC.EN (0)) true), ((0)) + 1, by decide +kernel⟩,
   ⟨0, State.reset, by decide +kernel⟩⟩

theorem witness_LinkBringUpAndHeartbeats :
    (∃ (l : RxLane) (s : State) (b : Nat), s.pwr.st ≠ PState.unpowered ∧ b ≠ 0) ∧
    (∃ (l : RxLane) (swapped : Bool) (inverted : Bool) (s : State), laneNo l ∈ s.link.cdr) ∧
    (∃ (l : RxLane) (swapped : Bool) (inverted : Bool) (s : State), laneNo l ∉ s.link.cdr) ∧
    (∃ (l : RxLane) (s : State), s.link.train = LinkTrain.readySent ∧ bitOf (s.f (rxStat l)) 1 = true ∧ s.laneUsed l = true ∧ 4 ≤ s.healthyLanes.length) ∧
    (∃ (l : RxLane) (s : State), (s.link.train ≠ LinkTrain.readySent ∨ bitOf (s.f (rxStat l)) 1 = false ∨ s.laneUsed l = false)) ∧
    (∃ (s : State), (s.link.train = LinkTrain.training ∨ s.link.train = LinkTrain.readySent) ∧ s.link.failRaised = true) ∧
    (∃ (s : State), (s.link.train = LinkTrain.training ∨ s.link.train = LinkTrain.readySent) ∧ s.link.failRaised = false) ∧
    (∃ (l : RxLane) (s : State), s.fb TAB.STATUS.LINK_UP = true ∧ s.laneServes l = true) ∧
    (∃ (l : RxLane) (s : State), (s.fb TAB.STATUS.LINK_UP = false ∨ s.laneServes l = false)) ∧
    (∃ (l : RxLane) (s : State), laneNo l ∈ s.link.cdr) ∧
    (∃ (l : RxLane) (s : State), laneNo l ∉ s.link.cdr) ∧
    (∃ (l : RxLane) (n : Nat) (s : State), 1 ≤ s.f (prbsSel l) ∧ s.f (prbsSel l) ≤ 4) ∧
    (∃ (l : RxLane) (n : Nat) (s : State), s.f (prbsSel l) = 0) ∧
    (∃ (rx : RxInfo) (count : BitVec 32) (bad : BitVec 9) (s : State), (s.accept rx).2 = true ∧ ((s.accept rx).1.link.hostSeen = true → (s.accept rx).1.reg TAB.HOST_COUNT ≠ count) ∧ s.fb TAB.CFG.HOSTREP_EN = false ∧ s.fb TAB.HOST.HOST_LOST = true) ∧
    (∃ (rx : RxInfo) (count : BitVec 32) (bad : BitVec 9) (s : State), ((s.accept rx).2 = false ∨ (s.accept rx).1.link.hostSeen = true ∧ (s.accept rx).1.reg TAB.HOST_COUNT = count)) ∧
    (∃ (s : State), (s.pwr.st = PState.ready ∨ s.pwr.st = PState.run) ∧ s.f TAB.HB.HB_TMO ≠ 0 ∧ s.fb TAB.HOST.HOST_LOST = false ∧ s.img.activating = false ∧ s.img.fw = none ∧ s.f TAB.HOST.REACT = 0) ∧
    (∃ (s : State), (s.pwr.st = PState.ready ∨ s.pwr.st = PState.run) ∧ s.f TAB.HB.HB_TMO ≠ 0 ∧ s.fb TAB.HOST.HOST_LOST = false ∧ s.img.activating = false ∧ s.img.fw = none ∧ s.f TAB.HOST.REACT ≠ 0 ∧ s.pwr.st = PState.run) ∧
    (∃ (s : State), (s.pwr.st ≠ PState.ready ∧ s.pwr.st ≠ PState.run ∨ s.f TAB.HB.HB_TMO = 0 ∨ s.fb TAB.HOST.HOST_LOST = true)) ∧
    (∃ (s : State), (s.pwr.st = PState.ready ∨ s.pwr.st = PState.run ∨ s.pwr.st = PState.fold) ∧ s.fb TAB.STATUS.LINK_UP = false) ∧
    (∃ (s : State), (s.pwr.st = PState.ready ∨ s.pwr.st = PState.run ∨ s.pwr.st = PState.fold) ∧ s.fb TAB.STATUS.LINK_UP = true) :=
  ⟨⟨.a, State.reset, 1, by decide +kernel⟩,
   ⟨.a, false, false, (fun s : State => { s with link := { s.link with cdr := [laneNo (.a)] } }) (State.reset), by decide +kernel⟩,
   ⟨.a, false, false, State.reset, by decide +kernel⟩,
   ⟨.a, ((fun s : State => { s with link := { s.link with train := LinkTrain.readySent } }) (State.reset)).setF (rxStat (.a)) (2 ^ 1), by decide +kernel⟩,
   ⟨.a, State.reset, by decide +kernel⟩,
   ⟨(fun s : State => { s with link := { s.link with failRaised := true } }) ((fun s : State => { s with link := { s.link with train := LinkTrain.training } }) (State.reset)), by decide +kernel⟩,
   ⟨(fun s : State => { s with link := { s.link with failRaised := false } }) ((fun s : State => { s with link := { s.link with train := LinkTrain.training } }) (State.reset)), by decide +kernel⟩,
   ⟨.a, (State.reset).setB TAB.STATUS.LINK_UP true, by decide +kernel⟩,
   ⟨.a, (State.reset).setB TAB.STATUS.LINK_UP false, by decide +kernel⟩,
   ⟨.a, (fun s : State => { s with link := { s.link with cdr := [laneNo (.a)] } }) (State.reset), by decide +kernel⟩,
   ⟨.a, State.reset, by decide +kernel⟩,
   ⟨.a, 0, (State.reset).setF (prbsSel (.a)) 1, by decide +kernel⟩,
   ⟨.a, 0, (State.reset).setF (prbsSel (.a)) 0, by decide +kernel⟩,
   ⟨({ vc := 0, seq := 0, goodA := true, goodB := true, bFirst := false } : RxInfo), 0#32, 0#9, ((State.reset).setB TAB.CFG.HOSTREP_EN false).setB TAB.HOST.HOST_LOST true, by decide +kernel⟩,
   ⟨({ vc := 0, seq := 0, goodA := false, goodB := false, bFirst := false } : RxInfo), 0#32, 0#9, State.reset, by decide +kernel⟩,
   ⟨((fun s : State => { s with img := { s.img with fw := none } }) ((((fun s : State => { s with pwr := { s.pwr with st := PState.ready } }) (State.reset)).setF TAB.HB.HB_TMO 1).setB TAB.HOST.HOST_LOST false)).setF TAB.HOST.REACT 0, by decide +kernel⟩,
   ⟨(fun s : State => { s with pwr := { s.pwr with st := PState.run } }) (((fun s : State => { s with img := { s.img with fw := none } }) ((((fun s : State => { s with pwr := { s.pwr with st := PState.ready } }) (State.reset)).setF TAB.HB.HB_TMO 1).setB TAB.HOST.HOST_LOST false)).setF TAB.HOST.REACT 1), by decide +kernel⟩,
   ⟨State.reset, by decide +kernel⟩,
   ⟨((fun s : State => { s with pwr := { s.pwr with st := PState.ready } }) (State.reset)).setB TAB.STATUS.LINK_UP false, by decide +kernel⟩,
   ⟨((fun s : State => { s with pwr := { s.pwr with st := PState.ready } }) (State.reset)).setB TAB.STATUS.LINK_UP true, by decide +kernel⟩⟩

theorem witness_LinkLanesAndPackets :
    (∃ (n : Fin 9) (l : Nat) (s : State) (m : Nat), s.pwr.st ≠ PState.unpowered ∧ s.f TAB.STATUS.TX_STATE ≠ 0 ∧ s.laneFailed ↑n = false ∧ s.logicalOf ↑n = some l ∧ s.f TAB.TX_STAT.SPARE ≠ ↑n ∧ ↑n ∉ s.link.reserve ∧ s.link.failing.length < s.spares.length ∧ m ≠ ↑n) ∧
    (∃ (n : Fin 9) (s : State), (s.laneFailed ↑n = true ∨ s.f TAB.STATUS.TX_STATE = 0)) ∧
    (∃ (src : Port) (n : Fin 16) (s : State), (s.logicalOf ↑n = none ∨ 9 ≤ ↑n)) ∧
    (∃ (s : State), s.f TAB.STATUS.TX_STATE ≠ 0 ∧ s.link.failing = []) ∧
    (∃ (l : Nat) (n : Nat) (s : State) (k : Nat), s.f TAB.STATUS.TX_STATE = 3 ∧ s.link.failing = [l] ∧ l < 8 ∧ s.f TAB.TX_STAT.SPARE = n ∧ n < 9 ∧ s.link.reserve = [] ∧ k < 8 ∧ k ≠ l) ∧
    (∃ (s : State), s.f TAB.STATUS.TX_STATE = 0) ∧
    (∃ (src : Port) (n : Fin 9) (s : State), s.laneFailed ↑n = true) ∧
    (∃ (src : Port) (n : Fin 9) (s : State), s.laneFailed ↑n = false) ∧
    (∃ (n : Fin 9) (s : State), bitOf (s.f TAB.TX_STAT.RETEST) ↑n = true ∧ s.f TAB.TX_STAT.SPARE = 15) ∧
    (∃ (n : Fin 9) (s : State), bitOf (s.f TAB.TX_STAT.RETEST) ↑n = true ∧ s.f TAB.TX_STAT.SPARE ≠ 15) ∧
    (∃ (n : Fin 9) (pass : Bool) (s : State), bitOf (s.f TAB.TX_STAT.RETEST) ↑n = false) ∧
    (∃ (c : Nat) (p : Packet) (rest : List Packet) (s : State) (d : Nat), s.streamRuns = true ∧ s.fb ACQ.OUT.LINK_EN = false ∧ s.link.nextClass = some c ∧ s.link.queue c = p :: rest ∧ d < 4 ∧ d ≠ c) ∧
    (∃ (c : Nat) (p : Packet) (rest : List Packet) (s : State), s.streamRuns = true ∧ s.fb ACQ.OUT.LINK_EN = false ∧ s.link.nextClass = some c ∧ s.link.queue c = p :: rest ∧ (p.dt = 63 ∨ s.link.farFrom p.stamp = false)) ∧
    (∃ (c : Nat) (p : Packet) (rest : List Packet) (s : State), s.streamRuns = true ∧ s.fb ACQ.OUT.LINK_EN = false ∧ s.link.nextClass = some c ∧ s.link.queue c = p :: rest ∧ p.dt ≠ 63 ∧ s.link.farFrom p.stamp = true) ∧
    (∃ (c : Nat) (p : Packet) (rest : List Packet) (s : State) (d : Nat), s.streamRuns = true ∧ s.fb ACQ.OUT.LINK_EN = false ∧ s.link.nextClass = some c ∧ s.link.queue c = p :: rest ∧ d < c) ∧
    (∃ (s : State), s.streamRuns = false) ∧
    (∃ (s : State), s.streamRuns = true ∧ s.fb ACQ.OUT.LINK_EN = false ∧ s.link.nextClass = none) ∧
    (∃ (s : State), s.f TAB.DROP.C < 65535) ∧
    (∃ (lanes : BitVec 9) (s : State) (n : Nat), n < s.link.injectBits.length) ∧
    (∃ (c : Fin 4) (s : State) (d : Nat), d ≠ ↑c) :=
  ⟨⟨0, 0, ((State.reset).setF TAB.STATUS.TX_STATE 1).setF TAB.TX_STAT.SPARE ((0) + 1), ((0)) + 1, by decide +kernel⟩,
   ⟨0, (State.reset).setLaneFailed (0) true, by decide +kernel⟩,
   ⟨.spi, 9, State.reset, by decide +kernel⟩,
   ⟨(fun s : State => { s with link := { s.link with failing := [] } }) ((State.reset).setF TAB.STATUS.TX_STATE 1), by decide +kernel⟩,
   ⟨0, 0, (fun s : State => { s with link := { s.link with reserve := [] } }) (((fun s : State => { s with link := { s.link with failing := [(0)] } }) ((State.reset).setF TAB.STATUS.TX_STATE 3)).setF TAB.TX_STAT.SPARE (0)), ((0)) + 1, by decide +kernel⟩,
   ⟨(State.reset).setF TAB.STATUS.TX_STATE 0, by decide +kernel⟩,
   ⟨.spi, 0, (State.reset).setLaneFailed (0) true, by decide +kernel⟩,
   ⟨.spi, 0, State.reset, by decide +kernel⟩,
   ⟨0, ((State.reset).setF TAB.TX_STAT.RETEST (2 ^ (0))).setF TAB.TX_STAT.SPARE 15, by decide +kernel⟩,
   ⟨0, ((State.reset).setF TAB.TX_STAT.RETEST (2 ^ (0))).setF TAB.TX_STAT.SPARE 0, by decide +kernel⟩,
   ⟨0, false, (State.reset).setF TAB.TX_STAT.RETEST (0), by decide +kernel⟩,
   ⟨0, aPacket, ([] : List Packet), (fun s : State => { s with link := s.link.setQueue (0) ((aPacket) :: (([] : List Packet))) }) (((fun s : State => { s with link := { s.link with train := .no } }) (((State.reset).setB TAB.STATUS.LINK_UP true).setF TAB.STATUS.TX_STATE 2)).setB ACQ.OUT.LINK_EN false), ((0)) + 1, by decide +kernel⟩,
   ⟨0, ({ aPacket with dt := 63 } : Packet), ([] : List Packet), (fun s : State => { s with link := s.link.setQueue (0) ((({ aPacket with dt := 63 } : Packet)) :: (([] : List Packet))) }) (((fun s : State => { s with link := { s.link with train := .no } }) (((State.reset).setB TAB.STATUS.LINK_UP true).setF TAB.STATUS.TX_STATE 2)).setB ACQ.OUT.LINK_EN false), by decide +kernel⟩,
   ⟨0, aPacket, ([] : List Packet), (fun s : State => { s with link := s.link.setQueue (0) ((aPacket) :: (([] : List Packet))) }) (((fun s : State => { s with link := { s.link with train := .no } }) (((State.reset).setB TAB.STATUS.LINK_UP true).setF TAB.STATUS.TX_STATE 2)).setB ACQ.OUT.LINK_EN false), by decide +kernel⟩,
   ⟨1, aPacket, ([] : List Packet), (fun s : State => { s with link := s.link.setQueue (1) ((aPacket) :: (([] : List Packet))) }) (((fun s : State => { s with link := { s.link with train := .no } }) (((State.reset).setB TAB.STATUS.LINK_UP true).setF TAB.STATUS.TX_STATE 2)).setB ACQ.OUT.LINK_EN false), 0, by decide +kernel⟩,
   ⟨State.reset, by decide +kernel⟩,
   ⟨(((State.reset).setB TAB.STATUS.LINK_UP true).setF TAB.STATUS.TX_STATE 2).setB ACQ.OUT.LINK_EN false, by decide +kernel⟩,
   ⟨State.reset, by decide +kernel⟩,
   ⟨0#9, State.reset, 0, by decide +kernel⟩,
   ⟨0, State.reset, ((0)) + 1, by decide +kernel⟩⟩

theorem witness_BankOwnershipAndScrub :
    (∃ (b : Fin 32) (s : State) (c : Nat), s.fb BANK.CFG.SCRUB_EN = true ∧ s.enabled 13 = true ∧ s.domOn 7 = true ∧ s.scrub.length = 32 ∧ c ≠ ↑b) ∧
    (∃ (b : Fin 32) (s : State), s.fb BANK.CFG.SCRUB_EN = true ∧ s.enabled 13 = true ∧ s.domOn 7 = true ∧ s.scrub.length = 32 ∧ (∀ e ∈ s.ecc, e.1 ≠ bankAddr (↑b) (nth s.scrub (↑b) 0))) ∧
    (∃ (b : Fin 32) (s : State), s.fb BANK.CFG.SCRUB_EN = true ∧ s.enabled 13 = true ∧ s.domOn 7 = true ∧ s.scrub.length = 32 ∧ List.find? (fun x => x.1 == bankAddr (↑b) (nth s.scrub (↑b) 0)) s.ecc = some (bankAddr (↑b) (nth s.scrub (↑b) 0), false)) ∧
    (∃ (b : Fin 32) (s : State), s.fb BANK.CFG.SCRUB_EN = true ∧ s.enabled 13 = true ∧ s.domOn 7 = true ∧ s.scrub.length = 32 ∧ List.find? (fun x => x.1 == bankAddr (↑b) (nth s.scrub (↑b) 0)) s.ecc = some (bankAddr (↑b) (nth s.scrub (↑b) 0), true)) ∧
    (∃ (b : Fin 32) (s : State), s.fb BANK.CFG.SCRUB_EN = true ∧ s.enabled 13 = true ∧ s.domOn 7 = true ∧ s.scrub.length = 32 ∧ (∃ e ∈ s.ecc, e.1 = bankAddr (↑b) (nth s.scrub (↑b) 0))) ∧
    (∃ (b : Fin 32) (s : State), (s.fb BANK.CFG.SCRUB_EN = false ∨ s.enabled 13 = false ∨ s.domOn 7 = false)) ∧
    (∃ (src : Port) (b : Fin 32) (d : BitVec 32) (s : State), d.toNat % 16 < 12 ∧ s.bankFree ↑b = true) ∧
    (∃ (src : Port) (b : Fin 32) (d : BitVec 32) (s : State), d.getLsbD 9 = false ∧ 12 ≤ d.toNat % 16) ∧
    (∃ (src : Port) (b : Fin 32) (d : BitVec 32) (s : State), d.getLsbD 9 = false ∧ d.toNat % 16 < 12 ∧ s.bankFree ↑b = false) ∧
    (∃ (b : Fin 32) (n : Nat) (s : State), s.fb (BANK.OWN.OPEN ↑b) = true ∧ 2 ≤ s.owner ↑b ∧ s.owner ↑b < 12 ∧ s.domOn 7 = true) ∧
    (∃ (b : Fin 32) (n : Nat) (s : State), (s.fb (BANK.OWN.OPEN ↑b) = false ∨ s.owner ↑b < 2 ∨ 12 ≤ s.owner ↑b ∨ s.domOn 7 = false)) :=
  ⟨⟨0, (((State.reset).setB BANK.CFG.SCRUB_EN true).setB ⟨hdr 13 1, 0, 1⟩ true).setDom 7 .on, ((0)) + 1, by decide +kernel⟩,
   ⟨0, (((State.reset).setB BANK.CFG.SCRUB_EN true).setB ⟨hdr 13 1, 0, 1⟩ true).setDom 7 .on, by decide +kernel⟩,
   ⟨0, (fun s : State => { s with ecc := [(0x400000, false)] }) ((((State.reset).setB BANK.CFG.SCRUB_EN true).setB ⟨hdr 13 1, 0, 1⟩ true).setDom 7 .on), by decide +kernel⟩,
   ⟨0, (fun s : State => { s with ecc := [(0x400000, true)] }) ((((State.reset).setB BANK.CFG.SCRUB_EN true).setB ⟨hdr 13 1, 0, 1⟩ true).setDom 7 .on), by decide +kernel⟩,
   ⟨0, (fun s : State => { s with ecc := [(0x400000, true)] }) ((((State.reset).setB BANK.CFG.SCRUB_EN true).setB ⟨hdr 13 1, 0, 1⟩ true).setDom 7 .on), by decide +kernel⟩,
   ⟨0, (State.reset).setB BANK.CFG.SCRUB_EN false, by decide +kernel⟩,
   ⟨.spi, 0, 0#32, State.reset, by decide +kernel⟩,
   ⟨.spi, 0, 12#32, State.reset, by decide +kernel⟩,
   ⟨.spi, 0, 0#32, ((State.reset).setF (BANK.OWN.OWNER 0) 3).setB (BANK.OWN.OPEN 0) true, by decide +kernel⟩,
   ⟨0, 0, (((State.reset).setB (BANK.OWN.OPEN (0)) true).setDom 7 .on).setF (BANK.OWN.OWNER 0) 3, by decide +kernel⟩,
   ⟨0, 0, (State.reset).setB (BANK.OWN.OPEN (0)) false, by decide +kernel⟩⟩

theorem witness_SafeCycleAndStatus :
    (∃ (sin : BitVec 8) (sfb : BitVec 2) (sout : BitVec 2) (s : State) (k : Nat), (s.pwr.st = PState.standby ∨ s.pwr.st = PState.ready ∨ s.pwr.st = PState.run) ∧ k < 8) ∧
    (∃ (sin : BitVec 8) (sfb : BitVec 2) (sout : BitVec 2) (s : State) (g : Nat), (s.pwr.st = PState.standby ∨ s.pwr.st = PState.ready ∨ s.pwr.st = PState.run) ∧ g < 6) ∧
    (∃ (sin : BitVec 8) (sfb : BitVec 2) (sout : BitVec 2) (s : State), (s.pwr.st = PState.standby ∨ s.pwr.st = PState.ready ∨ s.pwr.st = PState.run) ∧ s.fb SAFE.STATUS.MODE = false) ∧
    (∃ (sin : BitVec 8) (sfb : BitVec 2) (sout : BitVec 2) (s : State), s.pwr.st ≠ PState.standby ∧ s.pwr.st ≠ PState.ready ∧ s.pwr.st ≠ PState.run) ∧
    (∃ (s : State), (s.pwr.st = PState.ready ∨ s.pwr.st = PState.run ∨ s.pwr.st = PState.fold) ∧ s.fb TAB.STATUS.LINK_UP = true) ∧
    (∃ (s : State), (s.pwr.st ≠ PState.ready ∧ s.pwr.st ≠ PState.run ∧ s.pwr.st ≠ PState.fold ∨ s.fb TAB.STATUS.LINK_UP = false)) :=
  ⟨⟨0#8, 0#2, 0#2, (fun s : State => { s with pwr := { s.pwr with st := PState.standby } }) (State.reset), 0, by decide +kernel⟩,
   ⟨0#8, 0#2, 0#2, (fun s : State => { s with pwr := { s.pwr with st := PState.standby } }) (State.reset), 0, by decide +kernel⟩,
   ⟨0#8, 0#2, 0#2, ((fun s : State => { s with pwr := { s.pwr with st := PState.standby } }) (State.reset)).setB SAFE.STATUS.MODE false, by decide +kernel⟩,
   ⟨0#8, 0#2, 0#2, State.reset, by decide +kernel⟩,
   ⟨((fun s : State => { s with pwr := { s.pwr with st := PState.ready } }) (State.reset)).setB TAB.STATUS.LINK_UP true, by decide +kernel⟩,
   ⟨State.reset, by decide +kernel⟩⟩

theorem witness_SupervisorDiagnostics :
    (∃ (us : Nat) (s : State), s.fb SUPV.STATUS.RUNNING = true ∧ s.fb SUPV.STATUS.PAUSED = false ∧ (s.supv.fed = false ∨ 500 ≤ us ∧ us ≤ 1500) ∧ s.safe.hold = [] ∧ bitOf (s.f SUPV.DIAG.FAIL) 5 = false) ∧
    (∃ (us : Nat) (s : State), s.fb SUPV.STATUS.RUNNING = true ∧ s.fb SUPV.STATUS.PAUSED = false ∧ s.supv.fed = true ∧ (∀ (d : ℕ), s.supv.dogAt = some d → d + 10 ^ 10 < s.mono) ∧ s.img.activating = false ∧ s.img.fw = none ∧ (us < 500 ∨ 1500 < us)) ∧
    (∃ (d : Nat) (s : State), s.fb SUPV.STATUS.RUNNING = true ∧ s.fb SUPV.STATUS.PAUSED = false ∧ s.supv.fed = true ∧ s.supv.dogAt = some d ∧ s.mono ≤ d + 10 ^ 10 ∧ s.pwr.st ≠ PState.fold ∧ s.pwr.st ≠ PState.unpowered) ∧
    (∃ (us : Nat) (s : State), s.fb SUPV.STATUS.RUNNING = false) ∧
    (∃ (s : State), s.supv.comparing = true ∧ 15 ≤ s.supv.passes) ∧
    (∃ (s : State), s.supv.comparing = true ∧ s.supv.passes < 15) ∧
    (∃ (differ : BitVec 24) (s : State), s.supv.comparing = true ∧ differ ≠ 0 ∧ s.fb SUPV.STATUS.PAUSED = false ∧ s.img.activating = false ∧ s.img.fw = none) ∧
    (∃ (differ : BitVec 24) (s : State), s.supv.comparing = false) ∧
    (∃ (computed : BitVec 32) (s : State), s.firmwareRuns = true ∧ computed ≠ s.reg SAFE.CRC ∧ s.img.activating = false ∧ s.img.fw = none ∧ s.fb SAFE.STATUS.MODE = true) ∧
    (∃ (s : State), s.firmwareRuns = true ∧ s.img.activating = false ∧ s.img.fw = none) ∧
    (∃ (u : Bool) (s : State), (u = false ∨ s.firmwareRuns = false)) ∧
    (∃ (s : State), s.pwr.st ≠ PState.unpowered ∧ s.onPll = true ∧ 999 ≤ s.supv.clockGood) ∧
    (∃ (s : State), s.pwr.st ≠ PState.unpowered ∧ s.onPll = true ∧ s.supv.clockGood < 999) ∧
    (∃ (s : State), s.pwr.st ≠ PState.unpowered ∧ s.onPll = true ∧ s.fb EMIT.FAULT.HAZ = false) ∧
    (∃ (ok : Bool) (s : State), s.onPll = false) :=
  ⟨⟨0, ((fun s : State => { s with safe := { s.safe with hold := [] } }) ((fun s : State => { s with supv := { s.supv with fed := false } }) (((State.reset).setB SUPV.STATUS.RUNNING true).setB SUPV.STATUS.PAUSED false))).setF SUPV.DIAG.FAIL (0), by decide +kernel⟩,
   ⟨0, (fun s : State => { s with img := { s.img with fw := none } }) ((fun s : State => { s with supv := { s.supv with fed := true } }) (((State.reset).setB SUPV.STATUS.RUNNING true).setB SUPV.STATUS.PAUSED false)), by decide +kernel⟩,
   ⟨0, (fun s : State => { s with supv := { s.supv with dogAt := some (0) } }) ((fun s : State => { s with supv := { s.supv with fed := true } }) (((State.reset).setB SUPV.STATUS.RUNNING true).setB SUPV.STATUS.PAUSED false)), by decide +kernel⟩,
   ⟨0, (State.reset).setB SUPV.STATUS.RUNNING false, by decide +kernel⟩,
   ⟨(fun s : State => { s with supv := { s.supv with passes := 15 } }) ((fun s : State => { s with supv := { s.supv with comparing := true } }) (State.reset)), by decide +kernel⟩,
   ⟨(fun s : State => { s with supv := { s.supv with comparing := true } }) (State.reset), by decide +kernel⟩,
   ⟨1#24, (fun s : State => { s with img := { s.img with fw := none } }) (((fun s : State => { s with supv := { s.supv with comparing := true } }) (State.reset)).setB SUPV.STATUS.PAUSED false), by decide +kernel⟩,
   ⟨0#24, (fun s : State => { s with supv := { s.supv with comparing := false } }) (State.reset), by decide +kernel⟩,
   ⟨1#32, ((fun s : State => { s with img := { s.img with fw := none } }) (((State.reset).setB SUPV.STATUS.RUNNING true).setB SUPV.STATUS.PAUSED false)).setB SAFE.STATUS.MODE true, by decide +kernel⟩,
   ⟨(fun s : State => { s with img := { s.img with fw := none } }) (((State.reset).setB SUPV.STATUS.RUNNING true).setB SUPV.STATUS.PAUSED false), by decide +kernel⟩,
   ⟨false, State.reset, by decide +kernel⟩,
   ⟨(fun s : State => { s with supv := { s.supv with clockGood := 999 } }) ((State.reset).setB CLK.REFSEL.LOCK true), by decide +kernel⟩,
   ⟨(State.reset).setB CLK.REFSEL.LOCK true, by decide +kernel⟩,
   ⟨((State.reset).setB CLK.REFSEL.LOCK true).setB EMIT.FAULT.HAZ false, by decide +kernel⟩,
   ⟨false, State.reset, by decide +kernel⟩⟩

theorem witness_LockPasswordAndMode :
    (∃ (src : Port) (d : BitVec 32) (s : State), s.safe.check = none ∧ s.pwFormat (d.toNat / 256 % 16) = true ∧ s.led.password.isSome = true ∧ s.pwBlocked = false) ∧
    (∃ (src : Port) (d : BitVec 32) (s : State), s.safe.check = none ∧ s.pwFormat (d.toNat / 256 % 16) = false) ∧
    (∃ (src : Port) (d : BitVec 32) (s : State), s.safe.check = none ∧ s.pwFormat (d.toNat / 256 % 16) = true ∧ s.led.password = none) ∧
    (∃ (src : Port) (d : BitVec 32) (s : State), s.safe.check = none ∧ s.pwFormat (d.toNat / 256 % 16) = true ∧ s.led.password.isSome = true ∧ s.pwBlocked = true) ∧
    (∃ (op : PwOp) (s : State), s.safe.check = some op ∧ s.led.password = some op.chars ∧ s.lockOpen = false) ∧
    (∃ (op : PwOp) (s : State), s.safe.check = some op ∧ s.led.password ≠ some op.chars ∧ s.f SAFE.PW_STAT.ATTEMPTS < 2) ∧
    (∃ (op : PwOp) (s : State), s.safe.check = some op ∧ s.led.password ≠ some op.chars ∧ s.f SAFE.PW_STAT.ATTEMPTS = 2) ∧
    (∃ (s : State), s.safe.check = none) ∧
    (∃ (e : Nat) (s : State) (a : Nat), s.led.blockEnd = some e ∧ blockWord a = false) ∧
    (∃ (s : State), s.led.blockEnd = none) ∧
    (∃ (src : Port) (d : BitVec 32) (s : State), s.pwr.st ≠ PState.unpowered ∧ s.safe.check = none ∧ s.pwFormat (d.toNat / 256 % 16) = true ∧ (s.lockOpen = true ∨ s.led.password = none)) ∧
    (∃ (src : Port) (d : BitVec 32) (s : State), s.pwr.st ≠ PState.unpowered ∧ s.safe.check = none ∧ s.pwFormat (d.toNat / 256 % 16) = false) ∧
    (∃ (src : Port) (d : BitVec 32) (s : State), s.pwr.st ≠ PState.unpowered ∧ s.safe.check = none ∧ s.pwFormat (d.toNat / 256 % 16) = true ∧ s.lockOpen = false ∧ s.led.password.isSome = true) ∧
    (∃ (src : Port) (s : State) (a : Nat), s.safe.check = none ∧ s.pwr.st = PState.ready ∧ (a / 1024 = 8 ∨ a / 1024 = 9) ∧ 16 ≤ a % 1024 ∧ a ≠ SAFE.CRC) ∧
    (∃ (src : Port) (s : State) (a : Nat), s.safe.check = none ∧ s.pwr.st = PState.ready ∧ a / 1024 ≠ 8 ∧ a / 1024 ≠ 9) ∧
    (∃ (src : Port) (s : State), (s.safe.check.isSome = true ∨ s.pwr.st ≠ PState.ready)) ∧
    (∃ (src : Port) (s : State), s.lockOpen = true ∧ s.fb SAFE.STATUS.MODE = true) ∧
    (∃ (src : Port) (s : State), s.lockOpen = false) ∧
    (∃ (s : State), s.lockOpen = true) ∧
    (∃ (s : State), s.lockOpen = false) ∧
    (∃ (src : Port) (s : State), s.lockOpen = true ∧ s.img.committed = true ∧ s.commits = [] ∧ s.latched = [] ∧ s.fb SAFE.STATUS.MODE = false ∧ s.fb SAFE.FUNC.START_IL = true) ∧
    (∃ (src : Port) (d : BitVec 32) (s : State), (s.lockOpen = false ∨ s.img.committed = false ∨ d ≠ s.reg SAFE.CRC)) :=
  ⟨⟨.spi, 0x601#32, (fun s : State => { s with led := { s.led with password := some ([65, 66, 67, 68, 69, 70]) } }) ((fun s : State => { s with safe := { s.safe with pw := [0x41424344#32, 0x45460000#32, 0#32] } }) (State.reset)), by decide +kernel⟩,
   ⟨.spi, 0#32, (fun s : State => { s with safe := { s.safe with check := none } }) (State.reset), by decide +kernel⟩,
   ⟨.spi, 0x601#32, (fun s : State => { s with safe := { s.safe with pw := [0x41424344#32, 0x45460000#32, 0#32] } }) ((fun s : State => { s with led := { s.led with password := none } }) ((fun s : State => { s with safe := { s.safe with check := none } }) (State.reset))), by decide +kernel⟩,
   ⟨.spi, 0x601#32, (fun s : State => { s with led := { s.led with blockEnd := some 500 } }) ((fun s : State => { s with led := { s.led with password := some ([65, 66, 67, 68, 69, 70]) } }) ((fun s : State => { s with safe := { s.safe with pw := [0x41424344#32, 0x45460000#32, 0#32] } }) (State.reset))), by decide +kernel⟩,
   ⟨({ src := 1, user := 0, chars := [65] } : PwOp), (fun s : State => { s with lockOpen := false }) ((fun s : State => { s with led := { s.led with password := some (({ src := 1, user := 0, chars := [65] } : PwOp)).chars } }) ((fun s : State => { s with safe := { s.safe with check := some (({ src := 1, user := 0, chars := [65] } : PwOp)) } }) (State.reset))), by decide +kernel⟩,
   ⟨({ src := 1, user := 0, chars := [65] } : PwOp), (fun s : State => { s with safe := { s.safe with check := some (({ src := 1, user := 0, chars := [65] } : PwOp)) } }) (State.reset), by decide +kernel⟩,
   ⟨({ src := 1, user := 0, chars := [65] } : PwOp), ((fun s : State => { s with safe := { s.safe with check := some (({ src := 1, user := 0, chars := [65] } : PwOp)) } }) (State.reset)).setF SAFE.PW_STAT.ATTEMPTS 2, by decide +kernel⟩,
   ⟨(fun s : State => { s with safe := { s.safe with check := none } }) (State.reset), by decide +kernel⟩,
   ⟨0, (fun s : State => { s with led := { s.led with blockEnd := some (0) } }) (State.reset), 0, by decide +kernel⟩,
   ⟨(fun s : State => { s with led := { s.led with blockEnd := none } }) (State.reset), by decide +kernel⟩,
   ⟨.spi, 0x602#32, (fun s : State => { s with lockOpen := true }) ((fun s : State => { s with safe := { s.safe with pw := [0x41424344#32, 0x45460000#32, 0#32] } }) ((fun s : State => { s with lockOpen := true }) ((fun s : State => { s with safe := { s.safe with check := none } }) (State.reset)))), by decide +kernel⟩,
   ⟨.spi, 0#32, (fun s : State => { s with safe := { s.safe with check := none } }) (State.reset), by decide +kernel⟩,
   ⟨.spi, 0x602#32, (fun s : State => { s with led := { s.led with password := some ([65, 66, 67, 68, 69, 70]) } }) ((fun s : State => { s with safe := { s.safe with pw := [0x41424344#32, 0x45460000#32, 0#32] } }) (State.reset)), by decide +kernel⟩,
   ⟨.spi, (fun s : State => { s with pwr := { s.pwr with st := PState.ready } }) ((fun s : State => { s with safe := { s.safe with check := none } }) (State.reset)), (SAFE.CRC) + 1, by decide +kernel⟩,
   ⟨.spi, (fun s : State => { s with pwr := { s.pwr with st := PState.ready } }) ((fun s : State => { s with safe := { s.safe with check := none } }) (State.reset)), 0, by decide +kernel⟩,
   ⟨.spi, (fun s : State => { s with pwr := { s.pwr with st := .standby } }) (State.reset), by decide +kernel⟩,
   ⟨.spi, ((fun s : State => { s with lockOpen := true }) (State.reset)).setB SAFE.STATUS.MODE true, by decide +kernel⟩,
   ⟨.spi, (fun s : State => { s with lockOpen := false }) (State.reset), by decide +kernel⟩,
   ⟨(fun s : State => { s with lockOpen := true }) (State.reset), by decide +kernel⟩,
   ⟨(fun s : State => { s with lockOpen := false }) (State.reset), by decide +kernel⟩,
   ⟨.spi, (((fun s : State => { s with latched := [] }) ((fun s : State => { s with commits := [] }) ((fun s : State => { s with img := { s.img with committed := true } }) ((fun s : State => { s with lockOpen := true }) (State.reset))))).setB SAFE.STATUS.MODE false).setB SAFE.FUNC.START_IL true, by decide +kernel⟩,
   ⟨.spi, 0#32, (fun s : State => { s with lockOpen := false }) (State.reset), by decide +kernel⟩⟩

theorem witness_FirmwareImages :
    (∃ (src : Port) (s : State), (s.img.fw.isSome = true ∨ s.img.cfg.isSome = true)) ∧
    (∃ (src : Port) (s : State), s.img = { } ∧ (s.pwr.st = PState.ready ∨ s.pwr.st = PState.run) ∧ s.lockOpen = true ∧ s.fb (okBit s.fwInactive) = true) ∧
    (∃ (src : Port) (s : State), s.img = { } ∧ (s.pwr.st ≠ PState.ready ∧ s.pwr.st ≠ PState.run ∨ s.lockOpen = false ∨ s.fb (okBit s.fwInactive) = false)) ∧
    (∃ (src : Port) (s : State) (a : Nat), s.img = { } ∧ s.lockOpen = true ∧ blockWord a = false) ∧
    (∃ (src : Port) (s : State), s.img = { } ∧ s.lockOpen = false) ∧
    (∃ (signed : Bool) (s : State), s.img.fw = some FwOp.verify ∧ (s.ledgerScan (slotBase s.fwInactive) (fwWords (min 65517 (s.rdN (slotBase s.fwInactive + 1) 0 32)))).fwLayoutOk s.fwInactive = false) ∧
    (∃ (signed : Bool) (s : State), s.img.fw = some FwOp.verify ∧ (s.ledgerScan (slotBase s.fwInactive) (fwWords (min 65517 (s.rdN (slotBase s.fwInactive + 1) 0 32)))).fwLayoutOk s.fwInactive = true ∧ signed = false) ∧
    (∃ (signed : Bool) (s : State), s.img.fw = some FwOp.verify ∧ (s.ledgerScan (slotBase s.fwInactive) (fwWords (min 65517 (s.rdN (slotBase s.fwInactive + 1) 0 32)))).fwLayoutOk s.fwInactive = true ∧ signed = true ∧ s.rdN (slotBase s.fwInactive) 0 16 < s.led.fwMin) ∧
    (∃ (signed : Bool) (s : State), s.img.fw = some FwOp.verify ∧ (s.ledgerScan (slotBase s.fwInactive) (fwWords (min 65517 (s.rdN (slotBase s.fwInactive + 1) 0 32)))).fwLayoutOk s.fwInactive = true ∧ signed = true ∧ s.led.fwMin ≤ s.rdN (slotBase s.fwInactive) 0 16) ∧
    (∃ (signed : Bool) (s : State), s.img.fw = some FwOp.verify ∧ ((s.ledgerScan (slotBase s.fwInactive) (fwWords (min 65517 (s.rdN (slotBase s.fwInactive + 1) 0 32)))).fwLayoutOk s.fwInactive = false ∨ signed = false ∨ s.rdN (slotBase s.fwInactive) 0 16 < s.led.fwMin)) ∧
    (∃ (signed : Bool) (s : State), s.img.fw ≠ some FwOp.verify) ∧
    (∃ (s : State), s.img.fw = some FwOp.swapWaits) ∧
    (∃ (s : State), s.img.fw ≠ some FwOp.swapWaits) ∧
    (∃ (s : State), s.img.fw = some FwOp.stopped ∧ s.img.cfg = none) ∧
    (∃ (s : State), s.img.fw = some FwOp.started ∧ s.img.cfg = none) ∧
    (∃ (s : State), s.img.fw ≠ some FwOp.stopped ∧ s.img.fw ≠ some FwOp.started) :=
  ⟨⟨.spi, (fun s : State => { s with img := { s.img with fw := some .verify } }) (State.reset), by decide +kernel⟩,
   ⟨.spi, (fun s : State => s.setB (okBit s.fwInactive) true) ((fun s : State => { s with lockOpen := true }) ((fun s : State => { s with pwr := { s.pwr with st := PState.ready } }) ((fun s : State => { s with img := { } }) (State.reset)))), by decide +kernel⟩,
   ⟨.spi, (fun s : State => { s with img := { } }) (State.reset), by decide +kernel⟩,
   ⟨.spi, (fun s : State => { s with lockOpen := true }) ((fun s : State => { s with img := { } }) (State.reset)), 0, by decide +kernel⟩,
   ⟨.spi, (fun s : State => { s with lockOpen := false }) ((fun s : State => { s with img := { } }) (State.reset)), by decide +kernel⟩,
   ⟨false, (fun s : State => { s with img := { s.img with fw := some FwOp.verify } }) (State.reset), by decide +kernel⟩,
   ⟨false, (fun s : State => s.wr 0xC30001 1#36) ((fun s : State => s.wr 0xC30000 (BitVec.ofNat 36 (2 * 2 ^ 24 + 5))) ((fun s : State => { s with img := { s.img with fw := some FwOp.verify } }) (State.reset))), by decide +kernel⟩,
   ⟨true, (fun s : State => { s with led := { s.led with fwMin := 9 } }) ((fun s : State => s.wr 0xC30001 1#36) ((fun s : State => s.wr 0xC30000 (BitVec.ofNat 36 (2 * 2 ^ 24 + 5))) ((fun s : State => { s with img := { s.img with fw := some FwOp.verify } }) (State.reset)))), by decide +kernel⟩,
   ⟨true, (fun s : State => s.wr 0xC30001 1#36) ((fun s : State => s.wr 0xC30000 (BitVec.ofNat 36 (2 * 2 ^ 24 + 5))) ((fun s : State => { s with img := { s.img with fw := some FwOp.verify } }) (State.reset))), by decide +kernel⟩,
   ⟨false, (fun s : State => { s with img := { s.img with fw := some FwOp.verify } }) (State.reset), by decide +kernel⟩,
   ⟨false, State.reset, by decide +kernel⟩,
   ⟨(fun s : State => { s with img := { s.img with fw := some FwOp.swapWaits } }) (State.reset), by decide +kernel⟩,
   ⟨State.reset, by decide +kernel⟩,
   ⟨(fun s : State => { s with img := { s.img with cfg := none } }) ((fun s : State => { s with img := { s.img with fw := some FwOp.stopped } }) (State.reset)), by decide +kernel⟩,
   ⟨(fun s : State => { s with img := { s.img with cfg := none } }) ((fun s : State => { s with img := { s.img with fw := some FwOp.started } }) (State.reset)), by decide +kernel⟩,
   ⟨State.reset, by decide +kernel⟩⟩

theorem witness_ConfigurationImages :
    (∃ (src : Port) (b : Fin 4) (s : State), (s.img.fw.isSome = true ∨ s.img.cfg.isSome = true) ∧ 2 ≤ ↑b) ∧
    (∃ (src : Port) (s : State) (a : Nat), s.img = { } ∧ s.lockOpen = true ∧ a < slotBase s.cfgInactive) ∧
    (∃ (src : Port) (s : State), s.img = { } ∧ s.lockOpen = false) ∧
    (∃ (src : Port) (s : State) (n : Nat), s.img = { } ∧ n < 2) ∧
    (∃ (src : Port) (s : State) (b : Fin 4), s.img = { } ∧ 2 ≤ ↑b) ∧
    (∃ (src : Port) (b : Fin 4) (s : State), ↑b < 2) ∧
    (∃ (s : State), s.img.cfg = some CfgOp.store) ∧
    (∃ (s : State), s.img.cfg ≠ some CfgOp.store) ∧
    (∃ (b : Nat) (s : State), s.img.cfg = some (CfgOp.checking b) ∧ (SlotRead s).cfgRecords s.cfgInactive = none) ∧
    (∃ (b : Nat) (rs : List Record) (s : State), s.img.cfg = some (CfgOp.checking b) ∧ (SlotRead s).cfgRecords s.cfgInactive = some rs ∧ ((SlotRead s).setB (okBit s.cfgInactive) true).changesCovered (registerWords rs) = true ∧ (s.fb SAFE.STATUS.MODE = true ∨ s.lockOpen = false)) ∧
    (∃ (b : Nat) (rs : List Record) (s : State), s.img.cfg = some (CfgOp.checking b) ∧ (SlotRead s).cfgRecords s.cfgInactive = some rs ∧ (((SlotRead s).setB (okBit s.cfgInactive) true).changesCovered (registerWords rs) = false ∨ s.fb SAFE.STATUS.MODE = false ∧ s.lockOpen = true) ∧ memoryWords 1 rs = [] ∧ memoryWords 2 rs = [] ∧ s.commits = []) ∧
    (∃ (s : State), (∀ (b : ℕ), s.img.cfg ≠ some (CfgOp.checking b))) ∧
    (∃ (src : Port) (s : State), s.pwr.st ≠ PState.unpowered ∧ s.led.ops = []) ∧
    (∃ (src : Port) (s : State), s.pwr.st ≠ PState.unpowered ∧ s.led.ops ≠ []) ∧
    (∃ (ops : List LedgerOp) (s : State) (a : Nat), s.led.ops = LedgerOp.bootp :: ops ∧ blockWord a = false) ∧
    (∃ (items : List Nat) (ops : List LedgerOp) (s : State) (i : Nat), s.led.ops = LedgerOp.cal items :: ops ∧ s.led.cal.length = 7 ∧ i < 7) ∧
    (∃ (items : List Nat) (ops : List LedgerOp) (s : State) (a : Nat), s.led.ops = LedgerOp.cal items :: ops ∧ s.led.cal.length = 7 ∧ blockWord a = false) ∧
    (∃ (s : State), s.led.ops = []) :=
  ⟨⟨.spi, 2, (fun s : State => { s with img := { s.img with cfg := some .store } }) (State.reset), by decide +kernel⟩,
   ⟨.spi, (fun s : State => { s with lockOpen := true }) ((fun s : State => { s with img := { } }) (State.reset)), 0, by decide +kernel⟩,
   ⟨.spi, (fun s : State => { s with lockOpen := false }) ((fun s : State => { s with img := { } }) (State.reset)), by decide +kernel⟩,
   ⟨.spi, (fun s : State => { s with img := { } }) (State.reset), 0, by decide +kernel⟩,
   ⟨.spi, (fun s : State => { s with img := { } }) (State.reset), 2, by decide +kernel⟩,
   ⟨.spi, 0, State.reset, by decide +kernel⟩,
   ⟨(fun s : State => { s with img := { s.img with cfg := some CfgOp.store } }) (State.reset), by decide +kernel⟩,
   ⟨State.reset, by decide +kernel⟩,
   ⟨0, (fun s : State => { s with img := { s.img with cfg := some (CfgOp.checking (0)) } }) (State.reset), by decide +kernel⟩,
   ⟨0, [(8208, [77#36])], (fun s : State => s.wr 0xC10008 (BitVec.ofNat 36 (packetCrc (s.rdSpan 0xC10000 3 ++ s.rdSpan 0xC10005 3)))) ((fun s : State => s.wr 0xC10007 77#36) ((fun s : State => s.wr 0xC10006 8208#36) ((fun s : State => s.wr 0xC10001 9#36) ((fun s : State => s.wr 0xC10000 (BitVec.ofNat 36 (2 ^ 28 + 2 ^ 20))) (((fun s : State => { s with img := { s.img with cfg := some (CfgOp.checking (0)) } }) (State.reset)).setB SAFE.STATUS.MODE true))))), by decide +kernel⟩,
   ⟨0, [(8208, [77#36])], (fun s : State => { s with lockOpen := true }) ((fun s : State => s.wr 0xC10008 (BitVec.ofNat 36 (packetCrc (s.rdSpan 0xC10000 3 ++ s.rdSpan 0xC10005 3)))) ((fun s : State => s.wr 0xC10007 77#36) ((fun s : State => s.wr 0xC10006 8208#36) ((fun s : State => s.wr 0xC10001 9#36) ((fun s : State => s.wr 0xC10000 (BitVec.ofNat 36 (2 ^ 28 + 2 ^ 20))) ((fun s : State => { s with commits := [] }) ((fun s : State => { s with img := { s.img with cfg := some (CfgOp.checking (0)) } }) (State.reset)))))))), by decide +kernel⟩,
   ⟨State.reset, fun b => nofun⟩,
   ⟨.spi, (fun s : State => { s with led := { s.led with ops := [] } }) (State.reset), by decide +kernel⟩,
   ⟨.spi, (fun s : State => { s with led := { s.led with ops := [.bootp] } }) (State.reset), by decide +kernel⟩,
   ⟨([] : List LedgerOp), (fun s : State => { s with led := { s.led with ops := LedgerOp.bootp :: (([] : List LedgerOp)) } }) (State.reset), 0, by decide +kernel⟩,
   ⟨([] : List ℕ), ([] : List LedgerOp), (fun s : State => { s with led := { s.led with ops := LedgerOp.cal (([] : List ℕ)) :: (([] : List LedgerOp)) } }) (State.reset), 0, by decide +kernel⟩,
   ⟨([] : List ℕ), ([] : List LedgerOp), (fun s : State => { s with led := { s.led with ops := LedgerOp.cal (([] : List ℕ)) :: (([] : List LedgerOp)) } }) (State.reset), 0, by decide +kernel⟩,
   ⟨(fun s : State => { s with led := { s.led with ops := [] } }) (State.reset), by decide +kernel⟩⟩

theorem witness_FirmwareRatchet :
    (∃ (src : Port) (s : State), s.img = { } ∧ s.lockOpen = true) ∧
    (∃ (src : Port) (s : State), s.img = { } ∧ s.lockOpen = false) ∧
    (∃ (signed : Bool) (s : State), s.img.fw = some FwOp.verify ∧ s.rdN (slotBase s.fwInactive) 0 16 < s.led.fwMin ∧ signed = true ∧ (s.ledgerScan (slotBase s.fwInactive) (fwWords (min 65517 (s.rdN (slotBase s.fwInactive + 1) 0 32)))).fwLayoutOk s.fwInactive = true) :=
  ⟨⟨.spi, (fun s : State => { s with lockOpen := true }) ((fun s : State => { s with img := { } }) (State.reset)), by decide +kernel⟩,
   ⟨.spi, (fun s : State => { s with lockOpen := false }) ((fun s : State => { s with img := { } }) (State.reset)), by decide +kernel⟩,
   ⟨true, (fun s : State => { s with led := { s.led with fwMin := 9 } }) ((fun s : State => s.wr 0xC30001 1#36) ((fun s : State => s.wr 0xC30000 (BitVec.ofNat 36 (2 * 2 ^ 24 + 5))) ((fun s : State => { s with img := { s.img with fw := some FwOp.verify } }) (State.reset)))), by decide +kernel⟩⟩

theorem witness_CalibrationStarts :
    (∃ (c : Fin 384) (n : Nat) (s : State), s.calMay 0 = true ∧ s.lowestKit 0 = some n ∧ s.kitsLeft = true ∧ s.fb (TDC.STAT.FAILED (↑c / 48) (↑c % 48)) = false ∧ (s.chan ↑c).noTdc = false ∧ s.kitOf ↑c = none ∧ s.ret.chans.length = 384) ∧
    (∃ (c : Fin 384) (s : State), (s.calMay 0 = false ∨ s.lowestKit 0 = none ∨ s.kitsLeft = false ∨ s.fb (TDC.STAT.FAILED (↑c / 48) (↑c % 48)) = true)) ∧
    (∃ (e : Fin 384) (s : State), s.calMay 1 = true ∧ ↑e < 16 ∧ s.kitState ↑e = 0 ∧ s.kitsLeft = true) ∧
    (∃ (e : Fin 384) (s : State), s.calMay 1 = true ∧ ↑e < 16 ∧ (s.kitState ↑e ≠ 0 ∨ s.kitsLeft = false)) ∧
    (∃ (e : Fin 384) (s : State), s.calMay 2 = true ∧ ↑e < 16 ∧ s.domOn 3 = true ∧ s.fb (lockField (↑e / 2) 0) = true ∧ s.fb (lockField (↑e / 2) 1) = true ∧ s.f (TDC.DLL.ACTIVE (↑e / 2)) ≠ ↑e % 2) ∧
    (∃ (e : Fin 384) (s : State), s.calMay 2 = true ∧ ↑e < 16 ∧ s.domOn 3 = true ∧ s.fb (lockField (↑e / 2) 0) = true ∧ s.fb (lockField (↑e / 2) 1) = true ∧ s.f (TDC.DLL.ACTIVE (↑e / 2)) = ↑e % 2) ∧
    (∃ (r : Fin 384) (s : State) (c : Nat), s.calMay 3 = true ∧ s.domOn 2 = true ∧ s.afeInTime = true ∧ s.fb (AFE.STAT.DEAD (↑r / 48) (↑r % 48)) = false ∧ (∀ q ∈ s.cal.afes, q / 48 ≠ ↑r / 48) ∧ s.channelOf ↑r = some c ∧ s.ret.chans.length = 384 ∧ c < 384) ∧
    (∃ (r : Fin 384) (s : State), s.calMay 3 = true ∧ s.domOn 2 = true ∧ (s.afeInTime = false ∨ s.fb (AFE.STAT.DEAD (↑r / 48) (↑r % 48)) = true ∨ ∃ q ∈ s.cal.afes, q / 48 = ↑r / 48)) ∧
    (∃ (a : Fin 384) (s : State), s.calMay 4 = true ∧ ↑a < 9 ∧ s.domOn 4 = true ∧ s.cal.adc = none ∧ s.fb (ADC.STAT.FAILED ↑a) = false ∧ s.f ADC.SPARE.STATE = 0 ∧ s.acq.handover = none ∧ ↑a < 8) ∧
    (∃ (a : Fin 384) (s : State), s.calMay 4 = true ∧ ↑a < 9 ∧ s.domOn 4 = true ∧ s.cal.adc = none ∧ s.fb (ADC.STAT.FAILED ↑a) = false ∧ s.f ADC.SPARE.STATE = 0 ∧ s.acq.handover = none ∧ ↑a = 8) ∧
    (∃ (a : Fin 384) (s : State), s.calMay 4 = true ∧ ↑a < 9 ∧ s.domOn 4 = true ∧ (s.cal.adc.isSome = true ∨ s.fb (ADC.STAT.FAILED ↑a) = true ∨ s.f ADC.SPARE.STATE ≠ 0)) ∧
    (∃ (e : Fin 384) (n : Nat) (s : State), s.calMay 5 = true ∧ s.lowestKit 0 = some n ∧ s.cal.dummy = none ∧ s.kitsLeft = true) ∧
    (∃ (e : Fin 384) (n : Nat) (s : State), s.calMay 5 = true ∧ s.lowestKit 0 = some n ∧ (s.cal.dummy.isSome = true ∨ s.kitsLeft = false)) ∧
    (∃ (item : Fin 6) (e : Fin 384) (s : State), s.calMay ↑item = false) :=
  ⟨⟨0, 0, (fun s : State => s.updChan (0) fun z9 => { z9 with noTdc := false }) ((((((((fun s : State => { s with pwr := { s.pwr with st := .ready } }) (State.reset)).setDom 1 .on).setB ⟨hdr 12 1, 0, 1⟩ true).setF CAL.CFG.EN 63).setDom 3 .on).setB ⟨hdr 48 1, 0, 1⟩ true).setB (TDC.STAT.FAILED ((0) / 48) ((0) % 48)) false), by decide +kernel⟩,
   ⟨0, State.reset, by decide +kernel⟩,
   ⟨0, ((((((fun s : State => { s with pwr := { s.pwr with st := .ready } }) (State.reset)).setDom 1 .on).setB ⟨hdr 12 1, 0, 1⟩ true).setF CAL.CFG.EN 63).setDom 3 .on).setB ⟨hdr 48 1, 0, 1⟩ true, by decide +kernel⟩,
   ⟨0, ((((fun s : State => { s with pwr := { s.pwr with st := .ready } }) (State.reset)).setDom 1 .on).setB ⟨hdr 12 1, 0, 1⟩ true).setF CAL.CFG.EN 63, by decide +kernel⟩,
   ⟨0, ((((((((fun s : State => { s with pwr := { s.pwr with st := .ready } }) (State.reset)).setDom 1 .on).setB ⟨hdr 12 1, 0, 1⟩ true).setF CAL.CFG.EN 63).setDom 3 .on).setB (lockField ((0) / 2) 0) true).setB (lockField ((0) / 2) 1) true).setF (TDC.DLL.ACTIVE ((0) / 2)) (((0) % 2) + 1), by decide +kernel⟩,
   ⟨0, ((((((((fun s : State => { s with pwr := { s.pwr with st := .ready } }) (State.reset)).setDom 1 .on).setB ⟨hdr 12 1, 0, 1⟩ true).setF CAL.CFG.EN 63).setDom 3 .on).setB (lockField ((0) / 2) 0) true).setB (lockField ((0) / 2) 1) true).setF (TDC.DLL.ACTIVE ((0) / 2)) ((0) % 2), by decide +kernel⟩,
   ⟨0, (((((((fun s : State => { s with pwr := { s.pwr with st := .ready } }) (State.reset)).setDom 1 .on).setB ⟨hdr 12 1, 0, 1⟩ true).setF CAL.CFG.EN 63).setDom 2 .on).setB (AFE.STAT.DEAD ((0) / 48) ((0) % 48)) false).setB (TDC.MAP.EN 0 0) true, 0, by decide +kernel⟩,
   ⟨0, ((((((fun s : State => { s with pwr := { s.pwr with st := .ready } }) (State.reset)).setDom 1 .on).setB ⟨hdr 12 1, 0, 1⟩ true).setF CAL.CFG.EN 63).setDom 2 .on).setB (AFE.STAT.DEAD 0 0) true, by decide +kernel⟩,
   ⟨0, (fun s : State => { s with acq := { s.acq with handover := none } }) ((((fun s : State => { s with cal := { s.cal with adc := none } }) ((((((fun s : State => { s with pwr := { s.pwr with st := .ready } }) (State.reset)).setDom 1 .on).setB ⟨hdr 12 1, 0, 1⟩ true).setF CAL.CFG.EN 63).setDom 4 .on)).setB (ADC.STAT.FAILED (0)) false).setF ADC.SPARE.STATE 0), by decide +kernel⟩,
   ⟨8, (fun s : State => { s with acq := { s.acq with handover := none } }) ((((fun s : State => { s with cal := { s.cal with adc := none } }) ((((((fun s : State => { s with pwr := { s.pwr with st := .ready } }) (State.reset)).setDom 1 .on).setB ⟨hdr 12 1, 0, 1⟩ true).setF CAL.CFG.EN 63).setDom 4 .on)).setB (ADC.STAT.FAILED (8)) false).setF ADC.SPARE.STATE 0), by decide +kernel⟩,
   ⟨0, (fun s : State => { s with cal := { s.cal with adc := some 0 } }) ((((((fun s : State => { s with pwr := { s.pwr with st := .ready } }) (State.reset)).setDom 1 .on).setB ⟨hdr 12 1, 0, 1⟩ true).setF CAL.CFG.EN 63).setDom 4 .on), by decide +kernel⟩,
   ⟨0, 0, (((fun s : State => { s with cal := { s.cal with dummy := none } }) (((((fun s : State => { s with pwr := { s.pwr with st := .ready } }) (State.reset)).setDom 1 .on).setB ⟨hdr 12 1, 0, 1⟩ true).setF CAL.CFG.EN 63)).setDom 3 .on).setB ⟨hdr 48 1, 0, 1⟩ true, by decide +kernel⟩,
   ⟨0, 0, (fun s : State => { s with cal := { s.cal with dummy := some 0 } }) (((((fun s : State => { s with pwr := { s.pwr with st := .ready } }) (State.reset)).setDom 1 .on).setB ⟨hdr 12 1, 0, 1⟩ true).setF CAL.CFG.EN 63), by decide +kernel⟩,
   ⟨0, 0, State.reset, by decide +kernel⟩⟩

theorem witness_CalibrationResults :
    (∃ (c : Fin 384) (lo : Fin 1024) (hi : Fin 1024) (cs : List Int) (s : State), ↑c ∈ s.cal.tdcs ∧ s.fb (TDC.STAT.ON_KITTY (↑c / 48) (↑c % 48)) = true ∧ s.ret.chans.length = 384 ∧ linearOk (↑lo) (↑hi) cs = true) ∧
    (∃ (c : Fin 384) (lo : Fin 1024) (hi : Fin 1024) (cs : List Int) (s : State) (n : Nat) (a : Nat), ↑c ∈ s.cal.tdcs ∧ s.fb (TDC.STAT.ON_KITTY (↑c / 48) (↑c % 48)) = true ∧ s.ret.chans.length = 384 ∧ linearOk (↑lo) (↑hi) cs = false ∧ s.fb (TDC.STAT.FAILED (↑c / 48) (↑c % 48)) = false ∧ s.kitOf ↑c = some n ∧ a ∈ [TDC.LIN (↑c / 48) (↑c % 48), TDC.INL_A (↑c / 48) (↑c % 48), TDC.INL_B (↑c / 48) (↑c % 48)]) ∧
    (∃ (c : Fin 384) (lo : Fin 1024) (hi : Fin 1024) (cs : List Int) (s : State), ↑c ∉ s.cal.tdcs) ∧
    (∃ (n : Fin 16) (lo : Fin 1024) (hi : Fin 1024) (cs : List Int) (xofs : List Int) (s : State), ↑n ∈ s.cal.kitties ∧ linearOk (↑lo) (↑hi) cs = true ∧ (∀ x ∈ xofs, x.natAbs ≤ 24)) ∧
    (∃ (n : Fin 16) (lo : Fin 1024) (hi : Fin 1024) (cs : List Int) (xofs : List Int) (s : State), ↑n ∈ s.cal.kitties ∧ (linearOk (↑lo) (↑hi) cs = false ∨ ∃ x ∈ xofs, 24 < x.natAbs)) ∧
    (∃ (n : Fin 16) (lo : Fin 1024) (hi : Fin 1024) (cs : List Int) (xofs : List Int) (s : State), ↑n ∉ s.cal.kitties) ∧
    (∃ (k : Fin 8) (cells : BitVec 10) (i : Nat) (before : Nat) (s : State), s.cal.dlls.find? (fun e => e.1 / 2 == k.val) = some (i, before) ∧ s.fb (lockField (↑k) (1 - i % 2)) = true) ∧
    (∃ (k : Fin 8) (matched : Bool) (cells : BitVec 10) (s : State), (∀ e ∈ s.cal.dlls, e.1 / 2 ≠ ↑k)) ∧
    (∃ (r : Fin 384) (offsets : List (Int × Int)) (s : State) (q : Nat), ↑r ∈ s.cal.afes ∧ offsets.length = 4 ∧ q < 4) ∧
    (∃ (r : Fin 384) (offsets : List (Int × Int)) (s : State) (q : Nat), ↑r ∈ s.cal.afes ∧ offsets.length = 4 ∧ (∃ q < 4, (nth offsets q (0, 0)).1.natAbs ≤ 31) ∧ q < 4) ∧
    (∃ (r : Fin 384) (offsets : List (Int × Int)) (s : State) (q : Nat), ↑r ∈ s.cal.afes ∧ offsets.length = 4 ∧ (∃ q < 4, (nth offsets q (0, 0)).2.natAbs ≤ 31) ∧ q < 4) ∧
    (∃ (r : Fin 384) (offsets : List (Int × Int)) (s : State), ↑r ∈ s.cal.afes ∧ offsets.length = 4 ∧ (∀ q < 4, 31 < (nth offsets q (0, 0)).1.natAbs)) ∧
    (∃ (r : Fin 384) (offsets : List (Int × Int)) (s : State), ↑r ∉ s.cal.afes) ∧
    (∃ (a : Fin 9) (offset : BitVec 16) (gain : BitVec 16) (s : State), s.cal.adc = some ↑a ∧ (↑a = 8 ∨ s.acq.onSpare = some ↑a) ∧ ↑a < 8) ∧
    (∃ (a : Fin 9) (offset : BitVec 16) (gain : BitVec 16) (s : State), s.cal.adc = some ↑a ∧ (↑a = 8 ∨ s.acq.onSpare = some ↑a) ∧ ↑a = 8) ∧
    (∃ (a : Fin 9) (offset : BitVec 16) (gain : BitVec 16) (s : State), s.cal.adc ≠ some ↑a) ∧
    (∃ (d0 : BitVec 16) (n : Nat) (s : State), s.cal.dummy = some n ∧ n < 16) ∧
    (∃ (d0 : BitVec 16) (s : State), s.cal.dummy = none) :=
  ⟨⟨0, 100, 700, ([] : List ℤ), ((fun s : State => { s with cal := { s.cal with tdcs := [(0)] } }) (State.reset)).setB (TDC.STAT.ON_KITTY ((0) / 48) ((0) % 48)) true, by decide +kernel⟩,
   ⟨0, 0, 0, ([] : List ℤ), ((((fun s : State => { s with cal := { s.cal with tdcs := [(0)] } }) (State.reset)).setB (TDC.STAT.ON_KITTY ((0) / 48) ((0) % 48)) true).setB (TDC.STAT.FAILED ((0) / 48) ((0) % 48)) false).setKit (0) 1 (0), 0, TDC.LIN 0 0, by decide +kernel⟩,
   ⟨0, 0, 0, ([] : List ℤ), State.reset, by decide +kernel⟩,
   ⟨0, 100, 700, ([] : List ℤ), ([] : List ℤ), (fun s : State => { s with cal := { s.cal with kitties := [(0)] } }) (State.reset), by decide +kernel⟩,
   ⟨0, 0, 0, ([] : List ℤ), ([] : List ℤ), (fun s : State => { s with cal := { s.cal with kitties := [(0)] } }) (State.reset), by decide +kernel⟩,
   ⟨0, 0, 0, ([] : List ℤ), ([] : List ℤ), State.reset, by decide +kernel⟩,
   ⟨0, 0#10, 0, 5, (fun s : State => { s with cal := { s.cal with dlls := [(0, 5)] } }) ((State.reset).setB (lockField ((0)) (1 - (0) % 2)) true), by decide +kernel⟩,
   ⟨0, false, 0#10, State.reset, by decide +kernel⟩,
   ⟨0, ([(0, 0), (1, 1), (40, 40), (40, 40)] : List (Int × Int)), (fun s : State => { s with cal := { s.cal with afes := [(0)] } }) (State.reset), 0, by decide +kernel⟩,
   ⟨0, ([(0, 0), (1, 1), (40, 40), (40, 40)] : List (Int × Int)), (fun s : State => { s with cal := { s.cal with afes := [(0)] } }) (State.reset), 0, by decide +kernel⟩,
   ⟨0, ([(0, 0), (1, 1), (40, 40), (40, 40)] : List (Int × Int)), (fun s : State => { s with cal := { s.cal with afes := [(0)] } }) (State.reset), 0, by decide +kernel⟩,
   ⟨0, ([(40, 0), (-50, 1), (40, 40), (40, 40)] : List (Int × Int)), (fun s : State => { s with cal := { s.cal with afes := [(0)] } }) (State.reset), by decide +kernel⟩,
   ⟨0, ([] : List (ℤ × ℤ)), State.reset, by decide +kernel⟩,
   ⟨0, 0#16, 0#16, (fun s : State => { s with acq := { s.acq with onSpare := some 0 } }) ((fun s : State => { s with cal := { s.cal with adc := some (0) } }) (State.reset)), by decide +kernel⟩,
   ⟨8, 0#16, 0#16, (fun s : State => { s with cal := { s.cal with adc := some (8) } }) (State.reset), by decide +kernel⟩,
   ⟨0, 0#16, 0#16, State.reset, by decide +kernel⟩,
   ⟨0#16, 0, (fun s : State => { s with cal := { s.cal with dummy := some (0) } }) (State.reset), by decide +kernel⟩,
   ⟨0#16, (fun s : State => { s with cal := { s.cal with dummy := none } }) (State.reset), by decide +kernel⟩⟩

theorem witness_EndOfLineRun :
    (∃ (src : Port) (apply_ : Bool) (s : State), s.enabled 12 = true ∧ s.cal.eol = none ∧ s.pwr.st = PState.run ∧ s.steer.mode = 2 ∧ s.steer.capturing = false ∧ s.fb SAFE.STATUS.MODE = false ∧ s.lockOpen = true) ∧
    (∃ (src : Port) (apply_ : Bool) (s : State), s.enabled 12 = true ∧ s.cal.eol = none ∧ (s.pwr.st ≠ PState.run ∨ s.steer.mode ≠ 2 ∨ s.steer.capturing = true ∨ s.fb SAFE.STATUS.MODE = true ∨ s.lockOpen = false)) ∧
    (∃ (src : Port) (apply_ : Bool) (s : State), (s.enabled 12 = false ∨ s.cal.eol.isSome = true)) ∧
    (∃ (r : EolRun) (s : State) (c : Nat), s.cal.eol = some r ∧ c < 384) ∧
    (∃ (r : EolRun) (s : State), s.cal.eol = some r ∧ r.apply_ = false) ∧
    (∃ (r : EolRun) (s : State) (c : Nat), s.cal.eol = some r ∧ r.apply_ = true ∧ c < 384 ∧ (nth r.sums c (0, 0)).1 < max 1 (s.f CAL.EOL_CFG.MIN_N)) ∧
    (∃ (r : EolRun) (s : State) (c : Nat) (x : Int), s.cal.eol = some r ∧ r.apply_ = true ∧ c < 384 ∧ max 1 (s.f CAL.EOL_CFG.MIN_N) ≤ (nth r.sums c (0, 0)).1 ∧ s.eolOffset (nth r.sums c (0, 0)).1 (nth r.sums c (0, 0)).2 = some x) ∧
    (∃ (s : State), s.cal.eol = none) :=
  ⟨⟨.spi, false, (fun s : State => { s with lockOpen := true }) (((fun s : State => { s with steer := { s.steer with capturing := false } }) ((fun s : State => { s with steer := { s.steer with mode := 2 } }) ((fun s : State => { s with pwr := { s.pwr with st := PState.run } }) ((fun s : State => { s with cal := { s.cal with eol := none } }) ((State.reset).setB ⟨hdr 12 1, 0, 1⟩ true))))).setB SAFE.STATUS.MODE false), by decide +kernel⟩,
   ⟨.spi, false, (fun s : State => { s with cal := { s.cal with eol := none } }) ((State.reset).setB ⟨hdr 12 1, 0, 1⟩ true), by decide +kernel⟩,
   ⟨.spi, false, (State.reset).setB ⟨hdr 12 1, 0, 1⟩ false, by decide +kernel⟩,
   ⟨({ apply_ := false } : EolRun), (fun s : State => { s with cal := { s.cal with eol := some (({ apply_ := false } : EolRun)) } }) (State.reset), 0, by decide +kernel⟩,
   ⟨({ ({ apply_ := false } : EolRun) with apply_ := false } : EolRun), (fun s : State => { s with cal := { s.cal with eol := some (({ ({ apply_ := false } : EolRun) with apply_ := false } : EolRun)) } }) (State.reset), by decide +kernel⟩,
   ⟨({ apply_ := true } : EolRun), (fun s : State => { s with cal := { s.cal with eol := some (({ apply_ := true } : EolRun)) } }) (State.reset), 0, by decide +kernel⟩,
   ⟨({ apply_ := true, sums := [(2048, 2048 * 5544013)] } : EolRun), (fun s : State => { s with cal := { s.cal with eol := some (({ apply_ := true, sums := [(2048, 2048 * 5544013)] } : EolRun)) } }) (State.reset), 0, 302, by decide +kernel⟩,
   ⟨(fun s : State => { s with cal := { s.cal with eol := none } }) (State.reset), by decide +kernel⟩⟩

theorem witness_HousekeepingPacket :
    (∃ (raw : HkRaw) (s : State) (n : Nat), (s.pwr.st = PState.ready ∨ s.pwr.st = PState.run ∨ s.pwr.st = PState.standby) ∧ s.hk.laser.shut = 0 ∧ s.f HK.CFG.HK_DIV ≠ 0 ∧ (s.hk.rounds + 1) % s.f HK.CFG.HK_DIV = 0 ∧ s.link.room 3 66 = true ∧ n < 64) ∧
    (∃ (raw : HkRaw) (s : State), (s.pwr.st = PState.ready ∨ s.pwr.st = PState.run ∨ s.pwr.st = PState.standby) ∧ s.hk.laser.shut = 0 ∧ s.f HK.CFG.HK_DIV ≠ 0 ∧ (s.hk.rounds + 1) % s.f HK.CFG.HK_DIV = 0 ∧ s.link.room 3 66 = false) ∧
    (∃ (raw : HkRaw) (s : State), (s.pwr.st = PState.ready ∨ s.pwr.st = PState.run ∨ s.pwr.st = PState.standby) ∧ s.hk.laser.shut = 0 ∧ (s.f HK.CFG.HK_DIV = 0 ∨ (s.hk.rounds + 1) % s.f HK.CFG.HK_DIV ≠ 0)) :=
  ⟨⟨aRound, ((fun s : State => { s with hk := { s.hk with laser := { s.hk.laser with shut := 0 } } }) ((fun s : State => { s with pwr := { s.pwr with st := PState.ready } }) (State.reset))).setF HK.CFG.HK_DIV 1, 0, by decide +kernel⟩,
   ⟨aRound, (fun s : State => { s with link := { s.link with qD := List.replicate 130 { aPacket with payload := List.replicate 128 0#36 } } }) (((fun s : State => { s with hk := { s.hk with laser := { s.hk.laser with shut := 0 } } }) ((fun s : State => { s with pwr := { s.pwr with st := PState.ready } }) (State.reset))).setF HK.CFG.HK_DIV 1), by decide +kernel⟩,
   ⟨aRound, ((fun s : State => { s with hk := { s.hk with laser := { s.hk.laser with shut := 0 } } }) ((fun s : State => { s with pwr := { s.pwr with st := PState.ready } }) (State.reset))).setF HK.CFG.HK_DIV 0, by decide +kernel⟩⟩

theorem witness_HousekeepingRounds :
    (∃ (raw : HkRaw) (s : State) (n : Nat), (s.pwr.st = PState.ready ∨ s.pwr.st = PState.run ∨ s.pwr.st = PState.standby) ∧ s.hk.laser.shut = 0 ∧ n < 16) ∧
    (∃ (raw : HkRaw) (s : State) (n : Nat), (s.pwr.st = PState.ready ∨ s.pwr.st = PState.run ∨ s.pwr.st = PState.standby) ∧ s.hk.laser.shut = 0 ∧ n < 8) ∧
    (∃ (raw : HkRaw) (s : State) (n : Nat), (s.pwr.st = PState.ready ∨ s.pwr.st = PState.run ∨ s.pwr.st = PState.standby) ∧ s.hk.laser.shut = 0 ∧ n < 10 ∧ nth raw.supply n 0 < 2 ^ 16 ∧ s.reg (HK.SUP n) = 0) ∧
    (∃ (raw : HkRaw) (s : State) (n : Nat), (s.pwr.st = PState.ready ∨ s.pwr.st = PState.run ∨ s.pwr.st = PState.standby) ∧ s.hk.laser.shut = 0 ∧ n < 10 ∧ nth raw.supply n 0 < 2 ^ 16 ∧ s.reg (HK.SUP n) ≠ 0) ∧
    (∃ (raw : HkRaw) (s : State) (n : Nat) (x : Int), (s.pwr.st = PState.ready ∨ s.pwr.st = PState.run ∨ s.pwr.st = PState.standby) ∧ s.hk.laser.shut = 0 ∧ n < 4 ∧ s.diodeTemp n (↑(nth raw.diode n (0, 0)).2 - ↑(nth raw.diode n (0, 0)).1) = some x ∧ clipSigned 16 x = x) ∧
    (∃ (raw : HkRaw) (s : State) (m : Int), (s.pwr.st = PState.ready ∨ s.pwr.st = PState.run ∨ s.pwr.st = PState.standby) ∧ s.hk.laser.shut = 0 ∧ DieQuiet raw s ∧ Hottest raw.again m ∧ clipSigned 16 m = m) ∧
    (∃ (raw : HkRaw) (s : State) (k : Nat), (s.pwr.st = PState.ready ∨ s.pwr.st = PState.run ∨ s.pwr.st = PState.standby) ∧ s.hk.laser.shut = 0 ∧ k < 8 ∧ s.f HK.SUSPECT.DIE = 0 ∧ (∀ j < 8, (deviates raw.die j || deviates raw.again j) = (j == k))) ∧
    (∃ (raw : HkRaw) (s : State), (s.pwr.st = PState.ready ∨ s.pwr.st = PState.run ∨ s.pwr.st = PState.standby) ∧ s.hk.laser.shut = 0 ∧ s.f HK.CFG.LAS_SRC = 0 ∧ s.f HK.CFG.LAS_TH = 0) ∧
    (∃ (raw : HkRaw) (s : State) (a : Int) (b : Int), (s.pwr.st = PState.ready ∨ s.pwr.st = PState.run ∨ s.pwr.st = PState.standby) ∧ s.hk.laser.shut = 0 ∧ DieQuiet raw s ∧ Hottest raw.die a ∧ Hottest raw.again b ∧ ↑(s.f HK.THR_DIE.WARN) ≤ min a b ∧ max a b < ↑(s.f HK.THR_DIE.CRIT) ∧ s.f HK.STEP.DIE_STEP = 0) ∧
    (∃ (raw : HkRaw) (s : State) (a : Int) (b : Int), (s.pwr.st = PState.ready ∨ s.pwr.st = PState.run ∨ s.pwr.st = PState.standby) ∧ s.hk.laser.shut = 0 ∧ DieQuiet raw s ∧ Hottest raw.die a ∧ Hottest raw.again b ∧ ↑(s.f HK.THR_DIE.CRIT) ≤ min a b ∧ s.f HK.STEP.DIE_STEP ≠ 2) ∧
    (∃ (raw : HkRaw) (s : State) (a : Int) (b : Int), (s.pwr.st = PState.ready ∨ s.pwr.st = PState.run ∨ s.pwr.st = PState.standby) ∧ s.hk.laser.shut = 0 ∧ DieQuiet raw s ∧ Hottest raw.die a ∧ Hottest raw.again b ∧ max a b < ↑(s.f HK.THR_DIE.WARN) - ↑(s.f HK.GRACE.HYST) ∧ max a b < ↑(s.f HK.THR_DIE.CRIT) - ↑(s.f HK.GRACE.HYST) ∧ s.hk.die.req = true) ∧
    (∃ (raw : HkRaw) (s : State) (a : Int) (b : Int), (s.pwr.st = PState.ready ∨ s.pwr.st = PState.run ∨ s.pwr.st = PState.standby) ∧ s.hk.laser.shut = 0 ∧ DieQuiet raw s ∧ Hottest raw.die a ∧ Hottest raw.again b ∧ max a b < ↑(s.f HK.THR_DIE.WARN) - ↑(s.f HK.GRACE.HYST) ∧ max a b < ↑(s.f HK.THR_DIE.CRIT) - ↑(s.f HK.GRACE.HYST) ∧ s.hk.die.req = false) ∧
    (∃ (raw : HkRaw) (x : Int) (y : Int) (s : State), (s.pwr.st = PState.ready ∨ s.pwr.st = PState.run ∨ s.pwr.st = PState.standby) ∧ s.hk.laser.shut = 1 ∧ s.f HK.CFG.LAS_SRC = 3 ∧ s.f HK.CFG.LAS_TH = 0 ∧ s.diodeTemp 0 (↑(nth raw.diode 0 (0, 0)).2 - ↑(nth raw.diode 0 (0, 0)).1) = some x ∧ s.diodeTemp 1 (↑(nth raw.diode 1 (0, 0)).2 - ↑(nth raw.diode 1 (0, 0)).1) = some y ∧ ↑(s.f HK.SHUT_LAS.LSHUT) ≤ min x y ∧ max x y ≤ 2800) ∧
    (∃ (raw : HkRaw) (s : State), s.pwr.st ≠ PState.ready ∧ s.pwr.st ≠ PState.run ∧ s.pwr.st ≠ PState.standby) ∧
    (∃ (laser : Bool) (s : State), (s.thermal laser).grace = Grace.idle) ∧
    (∃ (laser : Bool) (s : State), (s.thermal laser).grace = Grace.hot ∧ (s.thermal laser).scale < 2) ∧
    (∃ (laser : Bool) (s : State), (s.thermal laser).grace = Grace.cool ∧ s.fb HK.STEP.THROTTLE_REQ = true) :=
  ⟨⟨aRound, (fun s : State => { s with hk := { s.hk with laser := { s.hk.laser with shut := 0 } } }) ((fun s : State => { s with pwr := { s.pwr with st := PState.ready } }) (State.reset)), 0, by decide +kernel⟩,
   ⟨aRound, (fun s : State => { s with hk := { s.hk with laser := { s.hk.laser with shut := 0 } } }) ((fun s : State => { s with pwr := { s.pwr with st := PState.ready } }) (State.reset)), 0, by decide +kernel⟩,
   ⟨aRound, (fun s : State => { s with hk := { s.hk with laser := { s.hk.laser with shut := 0 } } }) ((fun s : State => { s with pwr := { s.pwr with st := PState.ready } }) (State.reset)), 0, by decide +kernel⟩,
   ⟨aRound, ((fun s : State => { s with hk := { s.hk with laser := { s.hk.laser with shut := 0 } } }) ((fun s : State => { s with pwr := { s.pwr with st := PState.ready } }) (State.reset))).setReg (HK.SUP 0) 5#32, 0, by decide +kernel⟩,
   ⟨aRound, (fun s : State => { s with hk := { s.hk with laser := { s.hk.laser with shut := 0 } } }) ((fun s : State => { s with pwr := { s.pwr with st := PState.ready } }) (State.reset)), 0, 365, by decide +kernel⟩,
   ⟨aRound, (fun s : State => { s with hk := { s.hk with laser := { s.hk.laser with shut := 0 } } }) ((fun s : State => { s with pwr := { s.pwr with st := PState.ready } }) (State.reset)), 400, by unfold DieQuiet Hottest; decide +kernel⟩,
   ⟨({ aRound with die := [600, 400, 400, 400, 400, 400, 400, 400] } : HkRaw), ((fun s : State => { s with hk := { s.hk with laser := { s.hk.laser with shut := 0 } } }) ((fun s : State => { s with pwr := { s.pwr with st := PState.ready } }) (State.reset))).setF HK.SUSPECT.DIE 0, 0, by decide +kernel⟩,
   ⟨aRound, (((fun s : State => { s with hk := { s.hk with laser := { s.hk.laser with shut := 0 } } }) ((fun s : State => { s with pwr := { s.pwr with st := PState.ready } }) (State.reset))).setF HK.CFG.LAS_SRC 0).setF HK.CFG.LAS_TH 0, by decide +kernel⟩,
   ⟨({ aRound with die := List.replicate 8 1600, again := List.replicate 8 1600 } : HkRaw), ((((fun s : State => { s with hk := { s.hk with laser := { s.hk.laser with shut := 0 } } }) ((fun s : State => { s with pwr := { s.pwr with st := PState.ready } }) (State.reset))).setF HK.STEP.DIE_STEP 0).setF HK.THR_DIE.WARN 1500).setF HK.THR_DIE.CRIT 1700, 1600, 1600, by unfold DieQuiet Hottest; decide +kernel⟩,
   ⟨({ aRound with die := List.replicate 8 1600, again := List.replicate 8 1600 } : HkRaw), ((((fun s : State => { s with hk := { s.hk with laser := { s.hk.laser with shut := 0 } } }) ((fun s : State => { s with pwr := { s.pwr with st := PState.ready } }) (State.reset))).setF HK.STEP.DIE_STEP 0).setF HK.THR_DIE.WARN 1400).setF HK.THR_DIE.CRIT 1500, 1600, 1600, by unfold DieQuiet Hottest; decide +kernel⟩,
   ⟨aRound, (fun s : State => { s with hk := { s.hk with die := { s.hk.die with req := true } } }) ((fun s : State => { s with hk := { s.hk with laser := { s.hk.laser with shut := 0 } } }) ((fun s : State => { s with pwr := { s.pwr with st := PState.ready } }) (State.reset))), 400, 400, by unfold DieQuiet Hottest; decide +kernel⟩,
   ⟨aRound, (fun s : State => { s with hk := { s.hk with die := { s.hk.die with req := false } } }) ((fun s : State => { s with hk := { s.hk with laser := { s.hk.laser with shut := 0 } } }) ((fun s : State => { s with pwr := { s.pwr with st := PState.ready } }) (State.reset))), 400, 400, by unfold DieQuiet Hottest; decide +kernel⟩,
   ⟨({ aRound with diode := [(0, 65000), (0, 65000), (0, 65000), (0, 65000)] } : HkRaw), 829, 829, ((((fun s : State => { s with hk := { s.hk with laser := { s.hk.laser with shut := 1 } } }) ((fun s : State => { s with pwr := { s.pwr with st := PState.ready } }) (State.reset))).setF HK.CFG.LAS_SRC 3).setF HK.CFG.LAS_TH 0).setF HK.SHUT_LAS.LSHUT 600, by decide +kernel⟩,
   ⟨aRound, State.reset, by decide +kernel⟩,
   ⟨false, (fun s : State => s.setThermal (false) { s.thermal (false) with grace := Grace.idle }) (State.reset), by decide +kernel⟩,
   ⟨false, (fun s : State => s.setThermal (false) { s.thermal (false) with grace := Grace.hot }) (State.reset), by decide +kernel⟩,
   ⟨false, ((fun s : State => s.setThermal (false) { s.thermal (false) with grace := Grace.cool }) (State.reset)).setB HK.STEP.THROTTLE_REQ true, by decide +kernel⟩⟩

end Sys2Proof.Machine
end

section
/-! SUPPORT. Every operation of the model keeps the canonical form of the state: one lemma for each function that
answers a state, in the order of the model's files, and from them that exec and step keep it.

The lemma about `State.f` is `State.wf.f`, so that a proof follows the definition it is about: for a state `s` with
`h : s.wf`, the proof for `(s.setF x v).event p b` is `h.setF.event`, and that for an `if` between two states is
`wf_if` of the two proofs. A function that answers a pair with a state has its lemma about that component. -/

namespace Sys2Proof.Machine

section
variable {s : State}

/-! ## How states are put together -/

theorem State.wf.update {x0 : List Instr} {x5 : List (Nat × Bool)} {x6 : Nat} {x8 : Option TimeSet} {x9 : Nat}
    {x10 : Bool} {x11 : List CommitReq} {x12 : Option CommitReq} {x13 : List Latched} {x14 : Power} {x15 : HostPort}
    {x16 : Link} {x17 : Deal} {x18 : Ldb} {x19 : Emit} {x20 : Steer} {x21 : Ret} {x22 : Hist} {x23 : Acq} {x24 : Cams}
    {x25 : Zones} {x26 : Cal} {x27 : Safe} {x28 : FieldSt} {x29 : Supv} {x30 : Images} {x31 : Ledger} {x32 : House}
    {x33 : List Nat} (h : s.wf) :
    State.wf (State.mk x0 s.regs s.shadow s.mem s.lost x5 x6 s.time x8 x9 x10 x11 x12 x13 x14 x15 x16 x17 x18 x19
    x20 x21 x22 x23 x24 x25 x26 x27 x28 x29 x30 x31 x32 x33) := wf_mk_iff.2 h

theorem wf_if {c : Prop} {_ : Decidable c} {a b : State} (ha : a.wf) (hb : b.wf) : (if c then a else b).wf :=
  wf_ite (fun _ => ha) fun _ => hb

theorem wf_if_fst {β : Type} {c : Prop} {_ : Decidable c} {a b : State × β} (ha : a.1.wf) (hb : b.1.wf) :
    (if c then a else b).1.wf :=
  wf_ite_fst (fun _ => ha) fun _ => hb

theorem State.wf.next (h : s.wf) : afterNext State.wf (.next s) := wf_next h

theorem next_if {c : Prop} {_ : Decidable c} {a b : Host.Outcome State Fault Refusal}
    (ha : afterNext State.wf a) (hb : afterNext State.wf b) : afterNext State.wf (if c then a else b) :=
  afterNext_ite (fun _ => ha) fun _ => hb

theorem none_wf : ∀ t ∈ (none : Option State), t.wf := by simp

theorem some_wf (h : s.wf) : ∀ t ∈ some s, t.wf := by
  rintro _ ⟨⟩
  exact h

theorem some_if {c : Prop} {_ : Decidable c} {a b : Option State} (ha : ∀ t ∈ a, t.wf) (hb : ∀ t ∈ b, t.wf) :
    ∀ t ∈ if c then a else b, t.wf := by
  split <;> assumption

/-! ## Changes of one part of the form -/

theorem Canon.withTime {regs shadow : Cells 32} {mem : Cells 36} {lost : Lost} {time time' : ℕ}
    (h : Canon regs shadow mem lost time) (ht : time' < timeModulus) : Canon regs shadow mem lost time' := by
  obtain ⟨hregs, hshad, hmem, _⟩ := h
  exact ⟨hregs, hshad, hmem, ht⟩

theorem Canon.withRegs {regs regs' shadow : Cells 32} {mem : Cells 36} {lost : Lost} {time : ℕ}
    (h : Canon regs shadow mem lost time) (hr : Cells.wf resetWord regs = true → Cells.wf resetWord regs' = true) :
    Canon regs' shadow mem lost time := by
  obtain ⟨hregs, hshad, hmem, htime⟩ := h
  exact ⟨hr hregs, hshad, hmem, htime⟩

/-- Memory entries are left out, and those kept are no default of the contents lost now. -/
theorem Canon.withMem {regs shadow : Cells 32} {mem : Cells 36} {lost lost' : Lost} {time : ℕ}
    {keep : ℕ × Word36 → Bool} (h : Canon regs shadow mem lost time)
    (hd : ∀ e ∈ mem, keep e = true → memDefault lost' e.1 = memDefault lost e.1) :
    Canon regs shadow (mem.filter keep) lost' time := by
  obtain ⟨hregs, hshad, hmem, htime⟩ := h
  exact ⟨hregs, hshad, Cells.wf_filter_of hmem keep hd, htime⟩

/-! ## The operations that write registers and memory -/

theorem State.wf.setReg (h : s.wf) {a : ℕ} {v : Word} : (s.setReg a v).wf := State.setReg_wf h a v
theorem State.wf.setShad (h : s.wf) {a : ℕ} {v : Word} : (s.setShad a v).wf := State.setShad_wf h a v
theorem State.wf.candidate (h : s.wf) {p : ℕ} : (s.candidate p).wf := State.candidate_wf h p
theorem State.wf.wr (h : s.wf) {a : ℕ} {v : Word36} : (s.wr a v).wf := State.wr_wf h a v
theorem State.wf.blockWrite (h : s.wf) {l : Ledger} : (s.blockWrite l).wf := State.blockWrite_wf h l
theorem State.wf.loseRegion (h : s.wf) {r : ℕ} : (s.loseRegion r).wf := State.loseRegion_wf h r
theorem State.wf.flashClear (h : s.wf) {k : ℕ} : (s.flashClear k).wf := State.flashClear_wf h k
theorem State.wf.tick (h : s.wf) : s.tick.wf := State.tick_wf h

/-! ## Registers, memory, time and free values (Ops) -/

theorem State.wf.setF (h : s.wf) {x : Fld} {v : ℕ} : (s.setF x v).wf := h.setReg
theorem State.wf.setB (h : s.wf) {x : Fld} {b : Bool} : (s.setB x b).wf := h.setF
theorem State.wf.setI (h : s.wf) {x : Fld} {v : ℤ} : (s.setI x v).wf := h.setF
theorem State.wf.addF (h : s.wf) {x : Fld} {n : ℕ} : (s.addF x n).wf := h.setF
theorem State.wf.incF (h : s.wf) {x : Fld} : (s.incF x).wf := h.addF
theorem State.wf.maxF (h : s.wf) {x : Fld} {v : ℕ} : (s.maxF x v).wf := wf_if h.setF h
theorem State.wf.clearFs (h : s.wf) {xs : List Fld} : (s.clearFs xs).wf := wf_foldl (fun _ _ h1 => h1.setF) h
theorem State.wf.wrN (h : s.wf) {a lo width v : ℕ} : (s.wrN a lo width v).wf := h.wr
theorem State.wf.takeFree (h : s.wf) : s.takeFree.2.wf := h.update

/-! ## Events, errors and packets (Flags) -/

theorem State.wf.enqueue (h : s.wf) {dt port gen stamp : ℕ} {payload : List Word36} :
    (s.enqueue dt port gen stamp payload).1.wf :=
  wf_if_fst h.update h.update

theorem State.wf.intEventPacket (h : s.wf) {p t : ℕ} : (s.intEventPacket p t).wf := h.enqueue

theorem State.wf.summaryRose (h : s.wf) {p : ℕ} : (s.summaryRose p).wf := by
  unfold State.summaryRose
  refine wf_if h ?_
  split
  · split
    · exact h
    · exact h.update
  · exact h.intEventPacket.update

theorem State.wf.setIntStat (h : s.wf) {p : ℕ} {v : Word} : (s.setIntStat p v).wf :=
  wf_if h.setReg.summaryRose h.setReg

theorem State.wf.event (h : s.wf) {p bit : ℕ} : (s.event p bit).wf := h.setIntStat
theorem State.wf.eventIf (h : s.wf) {b : Bool} {p bit : ℕ} : (s.eventIf b p bit).wf := wf_if h.event h

theorem State.wf.errAt (h : s.wf) {p code src pg off : ℕ} : (s.errAt p code src pg off).wf :=
  (wf_if h h.setReg).addF.event

theorem State.wf.err (h : s.wf) {code src a : ℕ} : (s.err code src a).wf := h.errAt

theorem State.wf.sendPacket (h : s.wf) {dt port gen stamp : ℕ} {payload : List Word36} :
    (s.sendPacket dt port gen stamp payload).wf :=
  wf_if h.enqueue (wf_if h.enqueue.incF.event h.enqueue.incF.event)

theorem State.wf.linkEvent (h : s.wf) {cause logical physical : ℕ} : (s.linkEvent cause logical physical).wf :=
  h.sendPacket

/-! ## Power domains (Domains) -/

theorem State.wf.setDom (h : s.wf) {d : ℕ} {x : DomState} : (s.setDom d x).wf := h.update

theorem State.wf.accessWake (h : s.wf) {d : ℕ} : (s.accessWake d).wf :=
  wf_if (wf_if h h.update) (wf_if (wf_if (wf_if h h.update) h.setF).setDom h)

/-! ## Memory banks (Banks) -/

theorem State.wf.ownerWrite (h : s.wf) {src b d : ℕ} : (s.ownerWrite src b d).wf :=
  wf_if (wf_if h.setB h).err (wf_if (wf_if h.setB h).setF (wf_if h.setB h).err)

theorem execBankOwnerWrite_wf (h : s.wf) {src : Port} {bank : Fin 32} {data : BitVec 32} :
    afterNext State.wf (execBankOwnerWrite src bank data s) :=
  h.ownerWrite.next

theorem State.wf.bankError (h : s.wf) {a : ℕ} {unc : Bool} : (s.bankError a unc).wf :=
  wf_if h.setB.setF.setF.incF.event h.setB.setF.setF.incF.event

theorem State.wf.eccCount (h : s.wf) {unc : Bool} : (s.eccCount unc).wf := wf_if h.incF.event h.incF.event

theorem State.wf.bankRead (h : s.wf) {a : ℕ} : (s.bankRead a).wf := by
  unfold State.bankRead
  split
  · exact h
  · exact h.bankError
  · exact h.update.bankError

theorem State.wf.eccRead (h : s.wf) {a : ℕ} : (s.eccRead a).wf := by
  unfold State.eccRead
  refine wf_if h.bankRead ?_
  split
  · exact h
  · exact h.eccCount
  · exact h.update.eccCount

theorem execScrubRead_wf (h : s.wf) {bank : Fin 32} : afterNext State.wf (execScrubRead bank s) :=
  next_if h.next h.update.bankRead.next

theorem State.wf.moverWrite (h : s.wf) {code b w : ℕ} {vs : List Word36} : (s.moverWrite code b w vs).1.wf :=
  wf_if_fst (wf_foldl_fst (fun _ _ h1 => h1.wr) h).setB (wf_if_fst h.accessWake h)

theorem State.wf.moverRead (h : s.wf) {b w n : ℕ} : (s.moverRead b w n).1.wf :=
  wf_if_fst (wf_foldl (fun _ _ h1 => h1.bankRead) h).incF (wf_foldl (fun _ _ h1 => h1.bankRead) h).setB

theorem execMoverDescriptorEnd_wf (h : s.wf) {bank : Fin 32} : afterNext State.wf (execMoverDescriptorEnd bank s) :=
  h.setB.next

theorem execOwnerReclaim_wf (h : s.wf) {bank : Fin 32} {discarded : ℕ} :
    afterNext State.wf (execOwnerReclaim bank discarded s) :=
  next_if h.next h.setF.setF.setB.setB.setF.incF.event.errAt.next

theorem State.wf.bankCntClr (h : s.wf) : s.bankCntClr.wf := h.setReg.setF.setReg
theorem execBankCntClr_wf (h : s.wf) : afterNext State.wf (execBankCntClr s) := h.bankCntClr.next

/-! ## Faults (Faults) -/

theorem State.wf.fwEnds (h : s.wf) {result : ℕ} {next : Option FwOp} : (s.fwEnds result next).wf :=
  h.setB.setF.update.event

theorem State.wf.cfgEnds (h : s.wf) {result : ℕ} : (s.cfgEnds result).wf := h.setB.setF.update.event

theorem State.wf.withdraw (h : s.wf) : s.withdraw.wf := by
  unfold State.withdraw
  split
  · exact h.update
  · exact h

theorem State.wf.abandonChange (h : s.wf) : s.abandonChange.wf := by
  unfold State.abandonChange
  extract_lets s1
  have h1 : s1.wf := wf_if h.withdraw.cfgEnds h
  split
  · exact h1.fwEnds
  · exact h1.setB.fwEnds
  · exact h1

/-! ## The Tableau link (Link) -/

theorem State.wf.heartbeat (h : s.wf) {front : Bool} : (s.heartbeat front).wf := wf_if h h.update

theorem State.wf.sendHead (h : s.wf) {c : ℕ} : (s.sendHead c).wf := by
  unfold State.sendHead
  split
  · exact h
  · exact h.update

theorem State.wf.mapLane (h : s.wf) {l n : ℕ} : (s.mapLane l n).wf := h.setF
theorem State.wf.setLaneFailed (h : s.wf) {n : ℕ} {b : Bool} : (s.setLaneFailed n b).wf := h.setF
theorem State.wf.bringUp (h : s.wf) : s.bringUp.wf := h.setB.setF.update
theorem State.wf.elecIdle (h : s.wf) : s.elecIdle.wf := h.setB.setF.update

theorem State.wf.goNarrow (h : s.wf) {logical physical : ℕ} : (s.goNarrow logical physical).wf :=
  h.event.linkEvent.setF.setB.setF.update.bringUp

theorem State.wf.dropSpare (h : s.wf) {n : ℕ} : (s.dropSpare n).wf := by
  unfold State.dropSpare
  refine wf_if ?_ h.update
  split
  · exact h.update.setF
  · exact h.update.setF.update

theorem State.wf.markLane (h : s.wf) {n : ℕ} : (s.markLane n).wf := by
  unfold State.markLane
  refine wf_if h ?_
  extract_lets s1
  have h1 : s1.wf := h.setLaneFailed.dropSpare
  split
  · exact wf_if h1.goNarrow h1
  · exact wf_if (wf_if h1.update.setF h1.update) h1.goNarrow

theorem State.wf.failoverSwitch (h : s.wf) : s.failoverSwitch.wf := by
  unfold State.failoverSwitch
  split
  · exact h
  · exact (wf_if h.mapLane.dropSpare.update.setF.setF h.mapLane.dropSpare.update.setF).event.incF.linkEvent

theorem State.wf.setRx (h : s.wf) {l : RxLane} {bit : ℕ} {b : Bool} : (s.setRx l bit b).wf := h.setF

theorem State.wf.accept (h : s.wf) {r : RxInfo} : (s.accept r).1.wf := by
  unfold State.accept
  split
  · exact h
  · exact wf_if_fst h (wf_if_fst (wf_if h.update.incF h.update).setRx.setRx.event.linkEvent
      (wf_if h.update.incF h.update).setRx.setRx)

theorem State.wf.setTime (h : s.wf) {t : ℕ} {mode : Option ℕ} : (s.setTime t mode).wf := by
  unfold State.setTime
  extract_lets _ s1 s2 s3
  have h1 : s1.wf := Canon.withTime h (Nat.mod_lt _ (by decide))
  have h2 : s2.wf := h1.incF.event
  have h3 : s3.wf := by
    unfold s3
    split
    · exact h2
    · exact h2.event.sendPacket
  exact h3.heartbeat

theorem State.wf.timeAtEdge (h : s.wf) : s.timeAtEdge.wf := by
  unfold State.timeAtEdge
  split
  · exact h
  · exact h.setTime

theorem execRxCdrLock_wf (h : s.wf) {lane : RxLane} : afterNext State.wf (execRxCdrLock lane s) :=
  next_if h.next h.update.setRx.next

theorem execRxBlockLock_wf (h : s.wf) {lane : RxLane} {swapped inverted : Bool} :
    afterNext State.wf (execRxBlockLock lane swapped inverted s) :=
  next_if h.next (wf_if h.setRx.setRx.setRx.update h.setRx.setRx.setRx).next

theorem execHostTsReady_wf (h : s.wf) {lane : RxLane} : afterNext State.wf (execHostTsReady lane s) :=
  next_if (wf_if h.setB.setF.update.event.linkEvent h.setB.setF.update.event).heartbeat.next h.next

theorem execLinkTimeout_wf (h : s.wf) : afterNext State.wf (execLinkTimeout s) := next_if h.update.event.next h.next

theorem execTxLaneFault_wf (h : s.wf) {lane : Fin 9} : afterNext State.wf (execTxLaneFault lane s) :=
  next_if h.next h.markLane.next

theorem execAlignmentMarker_wf (h : s.wf) : afterNext State.wf (execAlignmentMarker s) :=
  next_if h.next h.update.failoverSwitch.next

theorem State.wf.txClrLane (h : s.wf) {src n : ℕ} : (s.txClrLane src n).wf := wf_if h.setF h.err

theorem State.wf.txClr (h : s.wf) {src lanes : ℕ} :
    (s.txClr src lanes).wf :=
  wf_foldl (fun _ _ h1 => h1.txClrLane) h

theorem execTxClr_wf (h : s.wf) {src : Port} {lanes : BitVec 9} : afterNext State.wf (execTxClr src lanes s) :=
  h.txClr.next

theorem execTxRetestDone_wf (h : s.wf) {lane : Fin 9} {pass : Bool} :
    afterNext State.wf (execTxRetestDone lane pass s) :=
  next_if h.next (next_if h.setF.next (next_if h.setF.setLaneFailed.setF.next h.setF.setLaneFailed.update.next))

theorem State.wf.txForce (h : s.wf) {src n : ℕ} : (s.txForce src n).wf := wf_if h.markLane h.err

theorem execTxForceFail_wf (h : s.wf) {src : Port} {lane : Fin 16} :
    afterNext State.wf (execTxForceFail src lane s) :=
  h.txForce.next

theorem State.wf.rxRelock (h : s.wf) {lane : RxLane} {losNow : Bool} : (s.rxRelock lane losNow).wf :=
  h.update.setRx.setRx.setRx.incF

theorem execRxLos_wf (h : s.wf) {lane : RxLane} : afterNext State.wf (execRxLos lane s) :=
  next_if h.next h.rxRelock.next

theorem execRxLol_wf (h : s.wf) {lane : RxLane} : afterNext State.wf (execRxLol lane s) :=
  next_if h.rxRelock.next h.next

theorem execRxBadPacket_wf (h : s.wf) {kind : RxBad} : afterNext State.wf (execRxBadPacket kind s) := by
  unfold execRxBadPacket
  split
  · exact h.incF.next
  · exact h.incF.next

theorem State.wf.hostBack (h : s.wf) : s.hostBack.wf := wf_if h.setB.event.linkEvent h

theorem State.wf.hostReport (h : s.wf) {bad : ℕ} : (s.hostReport bad).wf :=
  wf_if h (wf_foldl (fun _ _ h1 => h1.markLane) h)

theorem execHostHeartbeat_wf (h : s.wf) {rx : RxInfo} {count : BitVec 32} {txBad : BitVec 9} :
    afterNext State.wf (execHostHeartbeat rx count txBad s) :=
  next_if h.accept.next h.accept.setReg.hostBack.hostReport.update.next

theorem execHostLost_wf (h : s.wf) : afterNext State.wf (execHostLost s) :=
  next_if (next_if h.setB.incF.event.linkEvent.next
    (wf_if h.setB.incF.event.linkEvent.abandonChange.update h.setB.incF.event.linkEvent.abandonChange).next) h.next

theorem execDeviceHeartbeatTimer_wf (h : s.wf) : afterNext State.wf (execDeviceHeartbeatTimer s) :=
  next_if h.heartbeat.next h.next

theorem execTimeSetNow_wf (h : s.wf) {rx : RxInfo} {value : BitVec 64} {elapsed : ℕ} :
    afterNext State.wf (execTimeSetNow rx value elapsed s) :=
  (wf_if h.accept.setTime h.accept).next

theorem execTimeSetAtSyncPacket_wf (h : s.wf) {rx : RxInfo} {value : BitVec 64} :
    afterNext State.wf (execTimeSetAtSyncPacket rx value s) :=
  (wf_if h.accept.update h.accept).next

theorem execTimeOffsetPacket_wf (h : s.wf) {rx : RxInfo} {value : BitVec 64} :
    afterNext State.wf (execTimeOffsetPacket rx value s) :=
  (wf_if h.accept.setTime h.accept).next

theorem execTimeSetInvalid_wf (h : s.wf) {rx : RxInfo} : afterNext State.wf (execTimeSetInvalid rx s) :=
  (wf_if h.accept.incF h.accept).next

theorem State.wf.ageClass (h : s.wf) {c : ℕ} : (s.ageClass c).wf :=
  wf_if h (wf_if h.update.addF.event h.update.addF.event)

theorem execPacketAgeDiscard_wf (h : s.wf) : afterNext State.wf (execPacketAgeDiscard s) := h.ageClass.ageClass.next
theorem State.wf.injectBit (h : s.wf) {lanes : ℕ} : (s.injectBit lanes).wf := h.update

theorem execInjectBit_wf (h : s.wf) {lanes : BitVec 9} : afterNext State.wf (execInjectBit lanes s) :=
  h.injectBit.next

theorem State.wf.injectSyncErr (h : s.wf) : s.injectSyncErr.wf := h.update
theorem execInjectSync_wf (h : s.wf) : afterNext State.wf (execInjectSync s) := h.injectSyncErr.next
theorem State.wf.injectCrcErr (h : s.wf) {c : ℕ} : (s.injectCrcErr c).wf := h.update
theorem execInjectCrc_wf (h : s.wf) {cls : Fin 4} : afterNext State.wf (execInjectCrc cls s) := h.injectCrcErr.next
theorem State.wf.tabCntClr (h : s.wf) : s.tabCntClr.wf := wf_foldl (fun _ _ h1 => h1.setReg) h
theorem execTabCntClr_wf (h : s.wf) : afterNext State.wf (execTabCntClr s) := h.tabCntClr.next

theorem execRxTsWhileLinkUp_wf (h : s.wf) {lane : RxLane} : afterNext State.wf (execRxTsWhileLinkUp lane s) :=
  next_if h.bringUp.next h.next

theorem execRxControlBlockBad_wf (h : s.wf) : afterNext State.wf (execRxControlBlockBad s) := h.incF.next

theorem State.wf.tabCommitted (h : s.wf) {old : State} : (s.tabCommitted old).wf :=
  wf_if (wf_if h h.setB) (wf_if h h.setB).setB

theorem execPrbsCheckerLock_wf (h : s.wf) {lane : RxLane} {errors : ℕ} :
    afterNext State.wf (execPrbsCheckerLock lane errors s) :=
  next_if h.next h.setB.addF.next

/-! ## Emitter and laser driver bus (Emit) -/

theorem State.wf.govern (h : s.wf) {cells : List FireCell} {n : ℕ} : (s.govern cells n).1.wf := by
  unfold State.govern
  split
  · exact h.incF
  · exact h.update

theorem State.wf.ungovern (h : s.wf) {ends : ℕ × ℕ × ℕ} {cells : List FireCell} {n : ℕ} :
    (s.ungovern ends cells n).wf :=
  h.update

theorem State.wf.staticNow (h : s.wf) : s.staticNow.wf := wf_if h.setB.event h
theorem State.wf.govSpent (h : s.wf) : s.govSpent.wf := h.update

theorem State.wf.putBus (h : s.wf) {addr : Option ℕ} {type : ℕ} {payload : List ℕ} :
    (s.putBus addr type payload).wf :=
  wf_if h.update h

theorem State.wf.maintStart (h : s.wf) : s.maintStart.wf := by
  unfold State.maintStart
  refine wf_if h ?_
  split
  · exact h
  · exact h.putBus.update

theorem State.wf.queueChanges (h : s.wf) {p : ℕ} {fs : List MaintFrame} : (s.queueChanges p fs).wf :=
  wf_if h h.update.maintStart

theorem State.wf.changeFrames (h : s.wf) {p : ℕ} : (s.changeFrames p).wf := wf_if h.queueChanges h
theorem State.wf.dropChanges (h : s.wf) {p : ℕ} : (s.dropChanges p).wf := h.update
theorem State.wf.setHeld (hs : s.wf) {h : List Bool} : (s.setHeld h).wf := hs.update.setB
theorem State.wf.flushBus (h : s.wf) : s.flushBus.wf := (wf_foldl (fun _ _ h1 => h1.wr) h).update
theorem State.wf.kaStop (h : s.wf) : s.kaStop.wf := h.setB.setB.setB.flushBus.update.setHeld
theorem State.wf.enumerate (h : s.wf) : s.enumerate.wf := h.setB.setB.flushBus.update.setHeld.putBus
theorem State.wf.ldbStart (h : s.wf) : s.ldbStart.wf := wf_if h h.setB.enumerate
theorem State.wf.dropFire (h : s.wf) : s.dropFire.wf := h.update
theorem State.wf.ldbDisable (h : s.wf) : s.ldbDisable.wf := wf_if h.putBus.kaStop.setB h.setB
theorem State.wf.countMasked (h : s.wf) : s.countMasked.wf := h.setF
theorem State.wf.loopFrame (h : s.wf) {f : MaintFrame} : (s.loopFrame f).wf := wf_if h h.update.maintStart
theorem State.wf.maskDue (h : s.wf) {tile : ℕ} : (s.maskDue tile).wf := h.loopFrame
theorem State.wf.levelDue (h : s.wf) {tile : ℕ} : (s.levelDue tile).wf := h.loopFrame

theorem State.wf.autoMask (h : s.wf) {kind tile : ℕ} {cells : List ℕ} : (s.autoMask kind tile cells).wf :=
  (wf_foldl (fun _ _ h1 => h1.setReg) h).setF.setF.countMasked.maskDue

theorem State.wf.tileAbsent (h : s.wf) {t : ℕ} : (s.tileAbsent t).wf :=
  wf_if h (wf_foldl (fun _ _ h1 => h1.setReg) h).setF.setF.update.countMasked.maskDue.event

theorem State.wf.hazard (h : s.wf) {kind tile : ℕ} {diag : Bool} : (s.hazard kind tile diag).wf := by
  unfold State.hazard
  refine wf_if h.update ?_
  extract_lets _ s1 s2
  have h1 : s1.wf := h.setB.setF.setF.event.abandonChange
  have h2 : s2.wf := wf_if h1.kaStop.setB h1.ldbDisable
  exact wf_if h2.dropFire.update.update.update h2.dropFire.update.update.update

theorem execLightNoFire_wf (h : s.wf) {tile : Fin 16} : afterNext State.wf (execLightNoFire tile s) :=
  next_if h.hazard.next h.next

theorem execHazardFlag_wf (h : s.wf) {tile : Fin 16} : afterNext State.wf (execHazardFlag tile s) :=
  next_if h.hazard.next h.next

theorem State.wf.showPresent (h : s.wf) {t : ℕ} {b : Bool} : (s.showPresent t b).wf := h.setF
theorem State.wf.replyBad (h : s.wf) : s.replyBad.wf := h.incF.event

theorem State.wf.replyMissing (h : s.wf) {t : ℕ} : (s.replyMissing t).wf :=
  wf_if h.replyBad.update.showPresent.tileAbsent h.replyBad.update.showPresent

theorem State.wf.replied (h : s.wf) {t : ℕ} : (s.replied t).wf := h.update.showPresent

theorem State.wf.replyFlags (h : s.wf) {t v : ℕ} : (s.replyFlags t v).wf := by
  unfold State.replyFlags
  extract_lets _ s1 s2 s3
  have h1 : s1.wf := wf_if h.autoMask.event h
  have h2 : s2.wf := wf_if h1.autoMask.event h1
  have h3 : s3.wf := wf_if h2.hazard h2
  exact wf_if h3.hazard h3

theorem execTileReply_wf (h : s.wf) {tile : Fin 16} {reply : Option (BitVec 48)} :
    afterNext State.wf (execTileReply tile reply s) := by
  unfold execTileReply
  refine next_if h.next (next_if h.showPresent.next ?_)
  split
  · exact next_if h.replied.replyFlags.next h.replyMissing.next
  · exact h.replyMissing.next

theorem execBusHeld_wf (h : s.wf) : afterNext State.wf (execBusHeld s) :=
  next_if h.next (next_if h.incF.event.update.hazard.next h.incF.event.update.kaStop.setB.dropFire.update.next)

theorem execBusRecoveryRestart_wf (h : s.wf) {held : Bool} : afterNext State.wf (execBusRecoveryRestart held s) :=
  next_if h.next (next_if h.hazard.next h.ldbStart.next)

theorem State.wf.ffReport (h : s.wf) {buf : ℕ} : (s.ffReport buf).1.wf := by
  unfold State.ffReport
  split
  · exact h.errAt
  · exact h

theorem State.wf.ffLoad (h : s.wf) : s.ffLoad.wf :=
  wf_if h (wf_if h.update (wf_if h.setB.update.maintStart (wf_if h.ffReport.setHeld.event h.ffReport)))

theorem execFfLoad_wf (h : s.wf) : afterNext State.wf (execFfLoad s) := h.ffLoad.next

theorem State.wf.ffLoadDone (h : s.wf) : s.ffLoadDone.1.wf :=
  wf_if h.setB.update.ffReport.setHeld.event h.setB.update.ffReport

theorem State.wf.maintDone (h : s.wf) {f : MaintFrame} : (s.maintDone f).wf := by
  unfold State.maintDone
  refine wf_if h.update ?_
  split
  · split
    · exact wf_if h.wr.update h
    · exact h
  · exact h.update
  · exact h.update

theorem execLdbMaintFrameEnd_wf (h : s.wf) : afterNext State.wf (execLdbMaintFrameEnd s) := by
  unfold execLdbMaintFrameEnd
  split
  · exact h.next
  · exact h.maintDone.update.maintStart.next

theorem State.wf.reenum (h : s.wf) {src : ℕ} : (s.reenum src).wf := wf_if h.ldbStart h.err
theorem execLdbReenum_wf (h : s.wf) {src : Port} : afterNext State.wf (execLdbReenum src s) := h.reenum.next

theorem State.wf.enumReplies (h : s.wf) {present : ℕ} : (s.enumReplies present).wf :=
  wf_foldl (fun _ _ h1 => h1.replyBad.tileAbsent) h.setF

theorem State.wf.recovered (h : s.wf) : s.recovered.wf := wf_if h.setB.incF.event h

theorem execEnumerationDone_wf (h : s.wf) {present : BitVec 16} :
    afterNext State.wf (execEnumerationDone present s) := by
  unfold execEnumerationDone
  refine next_if h.next ?_
  extract_lets
  split
  rename_i s1 _ e1
  have h1 := wf_fst e1 h.enumReplies.ffReport
  extract_lets s2 _ _ _ _ s3
  have h2 : s2.wf := h1.setB.setHeld
  have h3 : s3.wf := wf_foldl (fun _ _ h4 => h4.changeFrames)
    (wf_if h2.update.putBus.putBus h2.update.putBus).recovered
  exact next_if h3.update.ffLoad.next h3.maintStart.next

theorem execPollTimer_wf (h : s.wf) : afterNext State.wf (execPollTimer s) := next_if h.putBus.next h.next

theorem State.wf.hazClr (h : s.wf) {src : ℕ} {present : Bool} : (s.hazClr src present).wf :=
  wf_if h.err h.setB.setF.update.ldbStart

theorem execHazClr_wf (h : s.wf) {src : Port} {present : Bool} : afterNext State.wf (execHazClr src present s) :=
  h.hazClr.next

theorem State.wf.emitCntClr (h : s.wf) : s.emitCntClr.wf := h.setReg
theorem execEmitCntClr_wf (h : s.wf) : afterNext State.wf (execEmitCntClr s) := h.emitCntClr.next
theorem State.wf.ldbCntClr (h : s.wf) : s.ldbCntClr.wf := h.setReg
theorem execLdbCntClr_wf (h : s.wf) : afterNext State.wf (execLdbCntClr s) := h.ldbCntClr.next

theorem State.wf.mpdRatio (h : s.wf) {tile : ℕ} {cells : List FireCell} {charge : ℕ} :
    (s.mpdRatio tile cells charge).1.wf :=
  wf_if_fst h.takeFree h

theorem State.wf.mpdPulse (h : s.wf) {tile group charge : ℕ} {excluded : Bool} :
    (s.mpdPulse tile group charge excluded).wf :=
  wf_if h (wf_if h.update (wf_if h.mpdRatio.update h.mpdRatio.update.setF.eventIf))

theorem State.wf.trimStep (h : s.wf) {k : ℕ} : (s.trimStep k).wf := wf_if h (wf_if h h.setI.levelDue)

theorem State.wf.mpdUnused (h : s.wf) {k : ℕ} : (s.mpdUnused k).wf :=
  wf_if h.setF.setF.update h.setF.setF.update.levelDue

theorem execMpdLoopUpdate_wf (h : s.wf) : afterNext State.wf (execMpdLoopUpdate s) :=
  next_if (wf_foldl (fun _ _ h1 => h1.trimStep) h).next h.next

theorem execGovSubintervalEnd_wf (h : s.wf) {window : GovSpan} :
    afterNext State.wf (execGovSubintervalEnd window s) := by
  unfold execGovSubintervalEnd
  split
  · exact h.update.next
  · exact h.update.next
  · exact h.update.next

theorem execStaticHoldEnd_wf (h : s.wf) : afterNext State.wf (execStaticHoldEnd s) := next_if h.setB.next h.next

/-! ## The Dealer (Dealer) -/

theorem State.wf.setRingTab (h : s.wf) {t v : ℕ} : (s.setRingTab t v).wf := h.update
theorem State.wf.setQueuePos (h : s.wf) {t head count : ℕ} : (s.setQueuePos t head count).wf := h.setRingTab
theorem State.wf.setDesc (h : s.wf) {t i : ℕ} {d : Word36 × Word36} : (s.setDesc t i d).wf := h.wr.wr

theorem State.wf.closeUp (h : s.wf) {t i n : ℕ} : (s.closeUp t i n).wf := by
  induction n generalizing s i with
  | zero => exact h.setDesc
  | succ n ih => exact ih h.setDesc

theorem State.wf.removeDesc (h : s.wf) {t i : ℕ} : (s.removeDesc t i).wf :=
  wf_if h (wf_if h.setDesc.setQueuePos h.closeUp.setQueuePos)

theorem State.wf.appendDesc (h : s.wf) {t : ℕ} {d : Word36 × Word36} :
    (s.appendDesc t d).wf :=
  h.setDesc.setQueuePos

theorem State.wf.mergeDesc (h : s.wf) {t i shots hands : ℕ} {w1 : Word36} : (s.mergeDesc t i shots hands w1).wf :=
  h.setDesc

theorem State.wf.bidDropped (h : s.wf) : s.bidDropped.wf := h.incF.event
theorem State.wf.trumpShort (h : s.wf) {n : ℕ} : (s.trumpShort n).wf := wf_if h h.addF.event

theorem State.wf.enterRing (h : s.wf) {t cls src shots hands origin : ℕ} :
    (s.enterRing t cls src shots hands origin).wf := by
  unfold State.enterRing
  extract_lets
  split
  · exact h.mergeDesc
  · refine wf_if h.appendDesc (wf_if h.bidDropped ?_)
    split
    · exact h.removeDesc.bidDropped.appendDesc
    · exact h.mergeDesc

theorem State.wf.bid (h : s.wf) {t cls src shots hands origin : ℕ} : (s.bid t cls src shots hands origin).wf :=
  wf_if h (wf_if (wf_if h.trumpShort h.bidDropped) h.enterRing)

theorem State.wf.hostBid (h : s.wf) {src d : ℕ} : (s.hostBid src d).wf := by
  unfold State.hostBid
  refine wf_if h.err (wf_if ?_ h.bid)
  split
  · exact h.removeDesc
  · exact h

theorem execHostBid_wf (h : s.wf) {src : Port} {data : BitVec 32} : afterNext State.wf (execHostBid src data s) :=
  h.hostBid.next

theorem State.wf.writePlace0 (h : s.wf) {src t : ℕ} {second : Bool} {d : Word36} :
    (s.writePlace0 src t second d).1.wf :=
  wf_if_fst h.wr (wf_if_fst h.wr (wf_if_fst h.wr (wf_if_fst h.incF.errAt h.update.maintStart)))

theorem execRingPlace0Write_wf (h : s.wf) {src : Port} {tile : Fin 8192} {second : Bool} {data : BitVec 36} :
    afterNext State.wf (execRingPlace0Write src tile second data s) :=
  h.writePlace0.next

/-- The entries kept lie outside the queue places, and only those read differently once the rings are emptied. -/
theorem State.wf.emptyRings (h : s.wf) : s.emptyRings.wf :=
  Canon.withMem h fun e _ hp => memDefault_congr (fun _ => rfl) rfl (fun hq => by simp [hq] at hp) fun _ => rfl

theorem State.wf.dealCntClr (h : s.wf) : s.dealCntClr.wf := wf_foldl (fun _ _ h1 => h1.setReg) h
theorem execDealCntClr_wf (h : s.wf) : afterNext State.wf (execDealCntClr s) := h.dealCntClr.next
theorem State.wf.slotsCut (h : s.wf) {mode n : ℕ} : (s.slotsCut mode n).wf := wf_if h h.addF.event

theorem State.wf.cutSlot (hs : s.wf) {h : Hand} {mode slot : ℕ} : (s.cutSlot h mode slot).1.wf :=
  wf_if_fst hs hs.slotsCut

theorem State.wf.loadSeeds (h : s.wf) {c : State} {gs : List ℕ} : (s.loadSeeds c gs).wf := h.update

theorem State.wf.takeVisit (h : s.wf) {t : ℕ} : (s.takeVisit t).1.wf :=
  wf_foldl_fst (fun _ _ h1 => wf_if_fst h1 h1.setDesc) h

theorem State.wf.snapTile (hs : s.wf) {c : State} {h : Hand} {step t : ℕ} : (State.snapTile c s h step t).1.wf :=
  wf_if_fst (wf_foldl (fun _ _ h1 => h1.eccRead) hs) (wf_foldl (fun _ _ h1 => h1.eccRead) hs).takeVisit

theorem State.wf.anteCheck (hs : s.wf) {c : State} {h : Hand} {tiles : List HandTile} :
    (State.anteCheck c s h tiles).wf :=
  wf_if hs.incF.event hs

theorem State.wf.snapshot (hs : s.wf) {h : Hand} : (s.snapshot h).wf := by
  unfold State.snapshot
  extract_lets c step
  split
  next t _ _ _ e =>
  have ht : t.wf := wf_fst e (wf_foldl_fst (fun _ _ h => h.snapTile (c := c) (step := step)) hs)
  exact (wf_foldl (fun _ _ h => h.errAt) ht).anteCheck.update

theorem State.wf.skipHand (hs : s.wf) {h : Hand} : (s.skipHand h).wf := hs.incF.eventIf.update

theorem execRingSnapshot_wf (h : s.wf) : afterNext State.wf (execRingSnapshot s) := by
  unfold execRingSnapshot
  split
  · exact h.next
  · exact next_if h.next (next_if h.skipHand.next h.snapshot.next)

theorem State.wf.askAll (h : s.wf) {c : State} {m : Cells 32} {n : ℕ} {lit : List HandTile} :
    (State.askAll c s m n lit).1.wf :=
  wf_foldl_fst (fun _ _ h1 => wf_if_fst h1.errAt h1.govern) h

theorem State.wf.armFrame (hs : s.wf) {h : Hand} {slot step sec : ℕ} {bands : List ℕ} :
    (s.armFrame h slot step sec bands).wf :=
  wf_if hs.update hs.update.putBus

theorem State.wf.advance (h : s.wf) {g : ℕ} : (s.advance g).wf := h.update

theorem State.wf.arbitrate (hs : s.wf) {c : State} {h : Hand} {g slot step : ℕ} :
    (State.arbitrate c s h g slot step).1.wf := by
  unfold State.arbitrate
  refine wf_if_fst hs.addF.cutSlot.armFrame (wf_if_fst hs.addF.incF.event.armFrame (wf_if_fst hs.addF.armFrame ?_))
  extract_lets
  split
  rename_i s1 _ _ _ e1
  have h1 := wf_fst e1 hs.addF.askAll
  exact wf_if_fst (wf_if h1 h1.addF.event).armFrame (wf_if h1 h1.addF.event).armFrame.advance

theorem State.wf.slotZero (hs : s.wf) {c : State} {h : Hand} {g : ℕ} : (s.slotZero c h g).1.wf :=
  wf_if_fst hs.loadSeeds hs

theorem execSlotArbitration_wf (h : s.wf) {group : Fin 4} {slot : Fin 64} :
    afterNext State.wf (execSlotArbitration group slot s) := by
  unfold execSlotArbitration
  refine next_if ?_ ?_
  · split
    · exact next_if h.slotZero.arbitrate.update.next h.next
    · exact h.next
  · split
    · exact next_if h.arbitrate.update.next h.next
    · exact h.next

theorem State.wf.takeBack (h : s.wf) {d : Decision} : (s.takeBack d).wf := wf_foldl (fun _ _ h1 => h1.ungovern) h
theorem State.wf.withhold (h : s.wf) {d : Decision} : (s.withhold d).wf := wf_if h.takeBack h.takeBack.addF.event

theorem State.wf.recheckCount (h : s.wf) {d : Decision} : (s.recheckCount d).wf := by
  unfold State.recheckCount
  refine wf_foldl (fun _ _ h1 => ?_) h
  split
  · exact h1.incF
  · exact h1

theorem State.wf.issue (h : s.wf) {g : ℕ} {d : Decision} : (s.issue g d).1.wf := by
  unfold State.issue
  extract_lets
  split
  · exact h.setReg.addF.update.update.update.setF
  · exact h.setReg.addF.update.update

theorem State.wf.fireCommand (h : s.wf) {g : ℕ} : (s.fireCommand g).1.wf := by
  unfold State.fireCommand
  split
  · exact h
  · split
    · exact h
    · exact wf_if_fst h.update (wf_if_fst h.update.takeBack.cutSlot.update (wf_if_fst h.update.withhold (wf_if_fst
        h.update.recheckCount.withhold h.update.issue)))

theorem State.wf.removeSpent (h : s.wf) {t : ℕ} {kept : List (ℕ × ℕ × ℕ)} {n : ℕ} : (s.removeSpent t kept n).wf := by
  induction n generalizing s with
  | zero => exact h
  | succ n ih =>
    unfold State.removeSpent
    split
    · exact ih h.removeDesc
    · exact h

theorem State.wf.removeExpired (hs : s.wf) {h : Hand} : (s.removeExpired h).wf :=
  wf_foldl (fun _ _ h1 => h1.removeSpent) hs

theorem State.wf.endTile (h : s.wf) {t : HandTile} : (s.endTile t).wf := wf_if h.setRingTab.incF h.setRingTab

theorem State.wf.endHand (h : s.wf) : s.endHand.wf := by
  unfold State.endHand
  split
  · exact h
  · exact (wf_foldl (fun _ _ h1 => h1.endTile) h).trumpShort.removeExpired.update

theorem State.wf.beginHand (h : s.wf) {pat : ℕ × ℕ} : (s.beginHand pat).wf := by
  unfold State.beginHand
  split
  · exact h
  · exact h.setF.setF.setF.update

theorem State.wf.runCounts (h : s.wf) : s.runCounts.wf := by
  unfold State.runCounts
  extract_lets _ _ s1
  have h1 : s1.wf := wf_foldl (fun _ _ h2 => h2.setReg) h.emptyRings.loadSeeds
  exact wf_if h1.putBus h1

/-! ## Beam steering (Steer) -/

theorem State.wf.markHands (h : s.wf) : s.markHands.wf := h.update

theorem State.wf.decidePlaus (h : s.wf) {cause : ℕ} : (s.decidePlaus cause).wf := by
  unfold State.decidePlaus
  extract_lets _ _ _ _ s1 _ s2
  have h1 : s1.wf := wf_if h.setF.update h.setF
  have h2 : s2.wf := wf_if (wf_if h1.setB.event.incF h1.setB.event) h1
  exact (wf_if (wf_if h2.markHands (wf_if h2.setB.event.incF h2.setB.event).markHands) h2.setB).staticNow

theorem State.wf.setCause (h : s.wf) {bit : ℕ} {b : Bool} : (s.setCause bit b).wf := h.decidePlaus
theorem State.wf.replaus (h : s.wf) : s.replaus.wf := h.decidePlaus
theorem State.wf.rearm (h : s.wf) : s.rearm.wf := wf_if h (wf_if h.update.setB h.update)
theorem State.wf.setAxis (h : s.wf) {a : ℕ} {x : Axis} : (s.setAxis a x).wf := h.update
theorem State.wf.stopAxis (h : s.wf) {a : ℕ} {m : AxisMode} : (s.stopAxis a m).wf := h.setAxis.setB
theorem State.wf.openAxis (h : s.wf) {a : ℕ} {target : ℤ} : (s.openAxis a target).wf := h.stopAxis
theorem State.wf.zeroAxis (h : s.wf) {a : ℕ} : (s.zeroAxis a).wf := h.stopAxis
theorem State.wf.closeAxis (h : s.wf) {a : ℕ} {m : AxisMode} : (s.closeAxis a m).wf := h.setI.setAxis

theorem State.wf.axisMode (h : s.wf) {m a : ℕ} : (s.axisMode m a).wf := by
  unfold State.axisMode
  refine wf_if h.zeroAxis ?_
  split
  · exact h.openAxis
  · exact wf_if h.closeAxis h.openAxis
  · exact h.closeAxis
  · exact h.closeAxis

theorem State.wf.steerMode (h : s.wf) : s.steerMode.wf := wf_if h.replaus h.update.axisMode.axisMode.replaus
theorem State.wf.track (h : s.wf) {a : ℕ} {r y : ℤ} : (s.track a r y).wf := h.setAxis.setCause

theorem State.wf.axisUpdate (h : s.wf) {a at_ : ℕ} : (s.axisUpdate a at_).wf := by
  unfold State.axisUpdate
  refine wf_if h ?_
  extract_lets
  split
  extract_lets _ _ _ s1 s2
  have h1 : s1.wf := h.setAxis.setB.setB.setB.setB
  have h2 : s2.wf := wf_if h1 h1.setI
  exact wf_if h2.track (wf_if h2.setAxis.setCause h2)

theorem State.wf.captureEnd (h : s.wf) : s.captureEnd.wf := wf_if h.update.event.replaus h
theorem State.wf.setSenseCh (h : s.wf) {n : ℕ} {x : SenseCh} : (s.setSenseCh n x).wf := h.update
theorem State.wf.rangeChange (h : s.wf) {n r : ℕ} : (s.rangeChange n r).wf := wf_if h h.setSenseCh.setF.incF.event

theorem State.wf.rangeStep (h : s.wf) {n : ℕ} {sample : ℤ} : (s.rangeStep n sample).wf := by
  unfold State.rangeStep
  extract_lets
  split
  · exact h.setSenseCh.rangeChange
  · exact wf_if h.setSenseCh (wf_if (wf_if h.setSenseCh h.rangeChange) (wf_if (wf_if h.rangeChange h.setSenseCh)
      h.setSenseCh))

theorem State.wf.thresholds (h : s.wf) {n : ℕ} {sample : ℤ} : (s.thresholds n sample).wf := h.setB.setB.eventIf
theorem State.wf.agree (h : s.wf) {a : ℕ} : (s.agree a).wf := wf_if h.setCause (wf_if h h.setCause)

theorem State.wf.senseAxis (h : s.wf) {n at_ a : ℕ} : (s.senseAxis n at_ a).wf := by
  unfold State.senseAxis
  refine wf_if h ?_
  extract_lets _ _ s1 s2
  have h1 : s1.wf := wf_if h.axisUpdate h
  have h2 : s2.wf := wf_if h1.track h1
  exact wf_if h2.agree h2

theorem execDecimation_wf (h : s.wf) {channel : Fin 8} {bits : List Bool} {instant : ℕ} :
    afterNext State.wf (execDecimation channel bits instant s) := by
  unfold execDecimation
  refine next_if h.next ?_
  extract_lets
  split
  extract_lets _ _ _ _ _ _ _ _ s1
  have h1 : s1.wf := h.setSenseCh.setI.setB.setB.eventIf.thresholds.rangeStep.senseAxis.senseAxis.captureEnd.replaus
  exact (wf_if h1.rearm h1).next

theorem execDacUpdate_wf (h : s.wf) {axis : Fin 2} {late : Bool} :
    afterNext State.wf (execDacUpdate axis late s) := by
  unfold execDacUpdate
  extract_lets
  split
  · exact h.next
  · exact next_if h.setAxis.incF.event.setCause.next h.setAxis.setI.setCause.next

theorem State.wf.restartAxes (h : s.wf) {n : ℕ} : (s.restartAxes n).wf :=
  wf_foldl (fun _ _ h1 => wf_if h1.setAxis h1) h

theorem State.wf.clearOpen (h : s.wf) {n : ℕ} : (s.clearOpen n).wf := h.setB.restartAxes.replaus

theorem execSenseOpen_wf (h : s.wf) {channel : Fin 8} : afterNext State.wf (execSenseOpen channel s) :=
  next_if h.next (wf_foldl (fun _ _ h1 => wf_if h1.agree h1) h.setB.setF.event).replaus.next

theorem execSenseOpenCleared_wf (h : s.wf) {channel : Fin 8} :
    afterNext State.wf (execSenseOpenCleared channel s) :=
  next_if h.clearOpen.next h.next

theorem execTestToneCheckStart_wf (h : s.wf) {source : Fin 8} :
    afterNext State.wf (execTestToneCheckStart source s) :=
  next_if h.setSenseCh.next h.next

theorem State.wf.impedance (h : s.wf) {k microvolt : ℕ} : (s.impedance k microvolt).1.wf := wf_if_fst h.takeFree h

theorem execTestToneCheckEnd_wf (h : s.wf) {source : Fin 8} {microvolt : ℕ} {offRail : Bool} :
    afterNext State.wf (execTestToneCheckEnd source microvolt offRail s) := by
  unfold execTestToneCheckEnd
  refine next_if h.next ?_
  split
  rename_i s1 _ e1
  have h1 := wf_fst e1 h.impedance
  extract_lets _ _ _ _ _ _ _ _ s2
  have h2 : s2.wf := wf_if h1.setF.setSenseCh.setB.event (wf_if h1.setF.setSenseCh.setB h1.setF.setSenseCh)
  exact (wf_if h2.clearOpen h2.replaus).next

theorem State.wf.steerCntClr (h : s.wf) : s.steerCntClr.wf := h.clearFs
theorem execSteerCntClr_wf (h : s.wf) : afterNext State.wf (execSteerCntClr s) := h.steerCntClr.next
theorem State.wf.setFrame (h : s.wf) {f : FrameTimer} : (s.setFrame f).wf := h.update
theorem State.wf.announce (h : s.wf) : s.announce.wf := (wf_if h.slotsCut h).update

theorem State.wf.syncLoop (h : s.wf) {edge : ℕ} : (s.syncLoop edge).wf :=
  wf_if h.setFrame.setI.setF.setF (wf_if h.setFrame.setI.setF.setF.event h.setFrame.setI.setF)

theorem State.wf.moveBoundary (h : s.wf) {edge : ℕ} : (s.moveBoundary edge).wf := h.setFrame.setI.setF.update

theorem State.wf.syncEdge (h : s.wf) {edge : ℕ} : (s.syncEdge edge).1.wf :=
  wf_if_fst h (wf_if_fst h.incF.event (wf_if_fst h.setFrame.setB.moveBoundary h.setFrame.setB.syncLoop))

theorem execSyncLost_wf (h : s.wf) : afterNext State.wf (execSyncLost s) :=
  next_if h.next h.setFrame.setB.setF.incF.event.next

theorem State.wf.frameStart (h : s.wf) {entry : Bool} : (s.frameStart entry).wf :=
  wf_if h.setFrame.setF.setB.setF h.setFrame.setF.setB

theorem State.wf.handPassed (h : s.wf) {j : ℕ} : (s.handPassed j).wf := h.setFrame

/-! ## Return channels (Returns) -/

theorem State.wf.setChan (h : s.wf) {c : ℕ} {x : Chan} : (s.setChan c x).wf := h.update
theorem State.wf.updChan (h : s.wf) {c : ℕ} {g : Chan → Chan} : (s.updChan c g).wf := h.setChan
theorem State.wf.updSum (h : s.wf) {c : ℕ} {g : Summary → Summary} : (s.updSum c g).wf := h.updChan
theorem State.wf.judgePairs (h : s.wf) {r : ℕ} : (s.judgePairs r).wf := h.setB.eventIf
theorem State.wf.armChannel (h : s.wf) {c : ℕ} {sh : Shot} : (s.armChannel c sh).wf := h.setChan

theorem State.wf.armShot (h : s.wf) {sh : Shot} {high : Bool} : (s.armShot sh high).wf :=
  wf_foldl (fun _ _ h1 => h1.incF) (wf_foldl (fun _ _ h2 => wf_if h2 (wf_if h2.updSum h2.armChannel)) h)

theorem State.wf.capture (h : s.wf) {c : ℕ} {a : Armed} {at_ : ℕ} {high : Bool} : (s.capture c a at_ high).wf :=
  wf_if h.setChan h.setChan

theorem State.wf.leadingEdge (h : s.wf) {r at_ : ℕ} {high : Bool} : (s.leadingEdge r at_ high).wf := by
  unfold State.leadingEdge
  split
  · exact h
  · refine wf_if h (wf_if h ?_)
    extract_lets
    split
    · exact wf_if (wf_if h.setChan.setB.incF.incF.updSum h.setChan.setB.incF.capture)
        (wf_if h.setChan.setB h.setChan.setB.setChan)
    · exact wf_if h.setChan.setB h.setChan.setB.setChan

theorem execLeadingEdge_wf (h : s.wf) {ret : Fin 384} {at_ : ℕ} {armExt : Bool} :
    afterNext State.wf (execLeadingEdge ret at_ armExt s) :=
  h.leadingEdge.next

theorem State.wf.kittyShow (h : s.wf) : s.kittyShow.wf := h.setF.setF.setF.setF.setF
theorem State.wf.setKit (h : s.wf) {n st ch : ℕ} : (s.setKit n st ch).wf := h.setF.setF.kittyShow
theorem State.wf.decideMove (h : s.wf) {c : ℕ} {m : Move} : (s.decideMove c m).wf := h.updChan
theorem State.wf.abandonCal (h : s.wf) {c : ℕ} : (s.abandonCal c).wf := wf_if h.update.incF h

theorem State.wf.abandonKit (h : s.wf) {n : ℕ} : (s.abandonKit n).wf :=
  wf_if h.update.incF (wf_if h.update.incF h.abandonCal)

theorem State.wf.takeKit (h : s.wf) {n c : ℕ} : (s.takeKit n c).wf := h.decideMove.setKit.decideMove

theorem State.wf.spareDemand (h : s.wf) {c : ℕ} : (s.spareDemand c).wf := by
  unfold State.spareDemand
  refine wf_if ?_ h.updChan.event.updSum
  split
  · exact h.setKit.decideMove.event.updSum
  · split
    · exact h.takeKit.event.event.updSum
    · split
      · exact h.abandonKit.takeKit.event.updSum
      · exact h.updChan.event.updSum

theorem State.wf.setFailedBit (h : s.wf) {c : ℕ} {b : Bool} : (s.setFailedBit c b).wf := wf_if h.setF h.setF

theorem State.wf.ownFails (h : s.wf) {c cause : ℕ} : (s.ownFails c cause).wf := by
  unfold State.ownFails
  refine wf_if h.setF ?_
  extract_lets s1
  have h1 : s1.wf := h.setB.setF.setFailedBit
  split
  · exact (wf_if h1.event.updChan h1.event.updChan.updSum).abandonCal.setKit.decideMove
  · exact h1.event.updChan.spareDemand

theorem State.wf.failAnyPage (h : s.wf) : s.failAnyPage.wf := h.takeFree.event

theorem State.wf.kittyFails (h : s.wf) {n : ℕ} : (s.kittyFails n).wf :=
  wf_if h.abandonKit.setKit.failAnyPage (wf_if h.setKit.event.updChan.spareDemand (wf_if
    h.setKit.event.abandonCal.updChan.decideMove.updSum (wf_if h.setKit.failAnyPage h.setKit)))

theorem State.wf.conversionFails (h : s.wf) {c : ℕ} {e : Capture} {cause : ℕ} :
    (s.conversionFails c e cause).wf := by
  unfold State.conversionFails
  split
  · exact h.ownFails
  · exact h.kittyFails

theorem execKittyMove_wf (h : s.wf) {move : KittyMove} : afterNext State.wf (execKittyMove move s) := by
  unfold execKittyMove
  refine next_if h.next ?_
  split
  · exact h.next
  · exact next_if h.next h.setB.setF.updChan.next
  · exact (wf_if h.setB.setF.updChan.setKit h.setB.setF.updChan).next

theorem State.wf.kittyBoundary (h : s.wf) : s.kittyBoundary.wf := by
  unfold State.kittyBoundary
  extract_lets _ s1
  have h1 : s1.wf := wf_foldl (fun _ _ h2 => wf_if h2.decideMove h2) (wf_foldl (fun _ _ h3 => wf_if h3.setKit h3) h)
  refine wf_if h1 (wf_foldl (fun _ _ h4 => ?_) h1)
  refine wf_if h4 ?_
  split
  · exact wf_if h4.decideMove h4
  · split
    · exact h4.setKit.decideMove.updChan
    · exact h4

theorem State.wf.deliver (h : s.wf) {c : ℕ} {e : Capture} {time : ℤ} {tot : ℕ} : (s.deliver c e time tot).wf :=
  wf_if h (wf_if h.incF (wf_if h.incF.event.updSum h.updChan))

theorem State.wf.convert (h : s.wf) {c r diff tot : ℕ} : (s.convert c r diff tot).wf := by
  unfold State.convert
  split
  · exact h
  · refine wf_if h.updChan.updSum ?_
    split
    · exact h.updChan.conversionFails
    · exact h.updChan.deliver

theorem State.wf.convertTimeout (h : s.wf) {c : ℕ} : (s.convertTimeout c).wf := by
  unfold State.convertTimeout
  split
  · exact h
  · exact h.updChan.conversionFails

theorem State.wf.throttle (h : s.wf) {k : ℕ} : (s.throttle k).wf := wf_if (wf_if h h.setF.event) (wf_if h.setF h)
theorem State.wf.setFifo (h : s.wf) {k : ℕ} {q : List (ℕ × OutItem)} : (s.setFifo k q).wf := h.update.throttle

theorem execCollectionVisit_wf (h : s.wf) {channel : Fin 384} :
    afterNext State.wf (execCollectionVisit channel s) :=
  next_if h.next h.updChan.addF.setFifo.next

theorem State.wf.shotMarker (h : s.wf) {c : ℕ} {stuck : Bool} : (s.shotMarker c stuck).wf := by
  unfold State.shotMarker
  extract_lets
  split
  · exact h
  · exact wf_if h (wf_if h.setChan.setB.event (wf_if h.setChan.setB h.setChan))

theorem execShotMarker_wf (h : s.wf) {channel : Fin 384} {stuckHigh : Bool} :
    afterNext State.wf (execShotMarker channel stuckHigh s) :=
  h.shotMarker.next

theorem State.wf.lockLost (h : s.wf) {k loop : ℕ} : (s.lockLost k loop).wf :=
  wf_if h (wf_if (wf_if h.setB.update (wf_foldl (fun _ _ h1 => wf_if h1 h1.setChan) h.setB.update.setF.event))
    (wf_foldl (fun _ _ h2 => h2.ownFails) h.setB.update))

theorem execDllLockLoss_wf (h : s.wf) {page : Fin 8} {loopB : Bool} :
    afterNext State.wf (execDllLockLoss page loopB s) :=
  h.lockLost.next

theorem execDllRetry_wf (h : s.wf) {page : Fin 8} : afterNext State.wf (execDllRetry page s) :=
  (wf_if (wf_if h.update h).update (wf_if h.update h)).next

theorem execDllRelock_wf (h : s.wf) {page : Fin 8} {loopB : Bool} :
    afterNext State.wf (execDllRelock page loopB s) :=
  next_if h.update.setB.next h.next

theorem State.wf.failClr (h : s.wf) {src k m : ℕ} : (s.failClr src k m).wf := wf_if h.updChan h.err

theorem execTdcFailClr_wf (h : s.wf) {src : Port} {page : Fin 8} {ch : Fin 64} :
    afterNext State.wf (execTdcFailClr src page ch s) :=
  h.failClr.next

theorem State.wf.ownClears (h : s.wf) {c : ℕ} : (s.ownClears c).wf := by
  unfold State.ownClears
  extract_lets s1
  have h1 : s1.wf := h.setB.setF.setFailedBit
  split
  · exact wf_if h1.updChan.setKit h1.updChan.decideMove
  · exact h1.updChan

theorem execTdcRetestDone_wf (h : s.wf) {channel : Fin 384} {pass : Bool} :
    afterNext State.wf (execTdcRetestDone channel pass s) :=
  next_if h.next (next_if h.ownClears.next h.updChan.setF.next)

theorem State.wf.dummyInject (h : s.wf) : s.dummyInject.1.wf := by
  unfold State.dummyInject
  refine wf_if_fst h (wf_if_fst h.incF.event ?_)
  split
  · exact h.incF.event
  · exact h.setKit.update

theorem State.wf.dummyFails (h : s.wf) : s.dummyFails.wf := h.setB.incF.event

theorem State.wf.dummyTimed (h : s.wf) {n r diff : ℕ} : (s.dummyTimed n r diff).1.wf := by
  unfold State.dummyTimed
  split
  · exact h
  · split
    · exact h.kittyFails
    · exact wf_if h.update.setB.setB.setF h.update.setB.setB.setF.dummyFails

theorem execDbiasConversion_wf (h : s.wf) {millivolt : Fin 2048} :
    afterNext State.wf (execDbiasConversion millivolt s) :=
  next_if h.next (next_if (next_if h.setF.update.setB.event.abandonChange.next h.setF.update.next)
    (next_if h.setF.update.setB.next h.setF.update.next))

theorem State.wf.afeCntClr (h : s.wf) {k : ℕ} : (s.afeCntClr k).wf := h.clearFs
theorem execAfeCntClr_wf (h : s.wf) {page : Fin 8} : afterNext State.wf (execAfeCntClr page s) := h.afeCntClr.next

theorem State.wf.tdcCntClr (h : s.wf) {k : ℕ} : (s.tdcCntClr k).wf :=
  wf_foldl (fun _ _ h1 => h1.setReg.setReg) h.setReg

theorem execTdcCntClr_wf (h : s.wf) {page : Fin 8} : afterNext State.wf (execTdcCntClr page s) := h.tdcCntClr.next
theorem State.wf.kittyCntClr (h : s.wf) : s.kittyCntClr.wf := h.setReg
theorem execKittyCntClr_wf (h : s.wf) : afterNext State.wf (execKittyCntClr s) := h.kittyCntClr.next

/-! ## Waveform capture (Acquire) -/

theorem State.wf.flushRing (h : s.wf) {settle k : ℕ} : (s.flushRing settle k).wf := h.update
theorem State.wf.startRings (h : s.wf) : s.startRings.wf := wf_foldl (fun _ _ h1 => h1.flushRing) h

theorem State.wf.adcChanged (h : s.wf) {old : State} : (s.adcChanged old).wf :=
  wf_if h.update (wf_if h.startRings (wf_foldl (fun _ _ h1 => h1.flushRing) h))

theorem State.wf.busDead (h : s.wf) {k : ℕ} : (s.busDead k).wf := h.update
theorem State.wf.busAlive (h : s.wf) {k : ℕ} : (s.busAlive k).wf := h.update
theorem State.wf.setSpare (h : s.wf) {st bus : ℕ} : (s.setSpare st bus).wf := h.setF.setF.setB
theorem State.wf.beginHandover (h : s.wf) {bus : ℕ} {toSpare : Bool} : (s.beginHandover bus toSpare).wf := h.update
theorem State.wf.abandonAdcCal (h : s.wf) : s.abandonAdcCal.wf := wf_if h h.update.incF
theorem State.wf.noSpare (h : s.wf) {k : ℕ} : (s.noSpare k).wf := h.busDead.event

theorem State.wf.allocSpare (h : s.wf) {k : ℕ} : (s.allocSpare k).wf :=
  wf_if h.abandonAdcCal.update.setSpare.busDead.beginHandover
    (wf_if (wf_if h.abandonAdcCal.setSpare.update h.abandonAdcCal.setSpare.busDead) h.noSpare)

theorem State.wf.spareLost (h : s.wf) : s.spareLost.wf :=
  wf_if (wf_if h.abandonAdcCal.setSpare.update.noSpare h.abandonAdcCal.setSpare.update.busAlive)
    h.abandonAdcCal.setSpare.update

theorem State.wf.adcFail (h : s.wf) {a cause : ℕ} : (s.adcFail a cause).wf :=
  wf_if h (wf_if h.setB.setF.event.spareLost h.setB.setF.event.allocSpare)

theorem execAdcFail_wf (h : s.wf) {adc : Fin 9} {cause : AdcCause} : afterNext State.wf (execAdcFail adc cause s) :=
  (wf_if h.adcFail h).next

theorem State.wf.freeSpare (h : s.wf) : s.freeSpare.wf := h.setSpare

theorem State.wf.handoverDone (h : s.wf) : s.handoverDone.wf := by
  unfold State.handoverDone
  split
  · exact h
  · exact wf_if h.update.busAlive.event h.update.busAlive.event.freeSpare

theorem execSpareHandoverDone_wf (h : s.wf) : afterNext State.wf (execSpareHandoverDone s) :=
  (wf_if h.handoverDone h).next

theorem State.wf.returnBus (h : s.wf) {k : ℕ} : (s.returnBus k).wf :=
  wf_if h.beginHandover (wf_if h.update.busAlive.freeSpare h.busAlive)

theorem State.wf.adcFailClr (h : s.wf) {src a : ℕ} : (s.adcFailClr src a).wf := wf_if h.err h.update

theorem execAdcFailClr_wf (h : s.wf) {src : Port} {adc : Fin 8} : afterNext State.wf (execAdcFailClr src adc s) :=
  h.adcFailClr.next

theorem State.wf.adcRetested (h : s.wf) {a : ℕ} {pass : Bool} : (s.adcRetested a pass).wf :=
  wf_if h (wf_if h.update.setB.setF.returnBus h.update.setF)

theorem execAdcRetestDone_wf (h : s.wf) {adc : Fin 8} {pass : Bool} :
    afterNext State.wf (execAdcRetestDone adc pass s) :=
  (wf_if h.adcRetested h).next

theorem State.wf.adcCntClr (h : s.wf) : s.adcCntClr.wf := wf_foldl (fun _ _ h1 => h1.setF) h
theorem execAdcCntClr_wf (h : s.wf) : afterNext State.wf (execAdcCntClr s) := h.adcCntClr.next
theorem State.wf.missed (h : s.wf) : s.missed.wf := h.incF
theorem State.wf.holdFrom (h : s.wf) : s.holdFrom.wf := h.update

theorem State.wf.beginRecord (h : s.wf) {n : ℕ} {sample : Option ℕ} {shot : Option (ℕ × ℕ × ℕ)} :
    (s.beginRecord n sample shot).wf :=
  h.update.holdFrom

theorem State.wf.firstTrigger (h : s.wf) {n : ℕ} {sample : Option ℕ} {shot : Option (ℕ × ℕ × ℕ)} :
    (s.firstTrigger n sample shot).wf :=
  wf_if h (wf_if h.update.incF h.beginRecord)

theorem State.wf.joinRecord (h : s.wf) {a : AcqSet} {n : ℕ} {shot : Option (ℕ × ℕ × ℕ)} :
    (s.joinRecord a n shot).wf :=
  h.update

theorem State.wf.missedOther (h : s.wf) {n : ℕ} {sample : Option ℕ} : (s.missedOther n sample).wf := by
  unfold State.missedOther
  split
  · exact h.missed
  · exact h.update.missed

theorem State.wf.nextCapture (h : s.wf) {a : AcqSet} {sample : Option ℕ} : (s.nextCapture a sample).wf := by
  unfold State.nextCapture
  extract_lets _ s1
  have h1 : s1.wf := by
    unfold s1
    split
    · exact wf_if h.setF h
    · exact h
  exact h1.update.holdFrom

theorem State.wf.takeTrigger (h : s.wf) {n : ℕ} {sample : Option ℕ} {shot : Option (ℕ × ℕ × ℕ)} :
    (s.takeTrigger n sample shot).wf := by
  unfold State.takeTrigger
  refine wf_if ?_ (wf_if h.missed ?_)
  · split
    · exact wf_if h.joinRecord h.missed
    · exact h
  · split
    · exact wf_if h.missedOther (wf_if h.incF.event h.nextCapture)
    · exact wf_if h.incF.event h.firstTrigger

theorem State.wf.trigger (h : s.wf) {n ty : ℕ} {sample : Option ℕ} {shot : Option (ℕ × ℕ × ℕ)} :
    (s.trigger n ty sample shot).wf :=
  wf_if h.takeTrigger h

theorem State.wf.triggerAll (h : s.wf) {ty : ℕ} {sample : Option ℕ} : (s.triggerAll ty sample).wf :=
  wf_foldl (fun _ _ h1 => h1.trigger) h

theorem State.wf.shotTrigger (h : s.wf) {sh : Shot} : (s.shotTrigger sh).wf := by
  unfold State.shotTrigger
  split
  · exact h
  · exact wf_foldl (fun _ _ h1 => wf_if h1.trigger h1) h

theorem execLevelTrigger_wf (h : s.wf) {source : Fin 8} {before reached : BitVec 12} {sample : ℕ} :
    afterNext State.wf (execLevelTrigger source before reached sample s) :=
  (wf_if h.trigger h).next

theorem execTrigInEdge_wf (h : s.wf) {rising : Bool} {sample : ℕ} :
    afterNext State.wf (execTrigInEdge rising sample s) :=
  h.triggerAll.next

theorem execAcqTimerTrigger_wf (h : s.wf) {source : Fin 8} {sample : ℕ} :
    afterNext State.wf (execAcqTimerTrigger source sample s) :=
  h.trigger.next

theorem State.wf.acqForce (h : s.wf) : s.acqForce.wf := h.update

theorem execAcqForce_wf (h : s.wf) {sample : ℕ} : afterNext State.wf (execAcqForce sample s) :=
  (wf_if h h.update.triggerAll).next

theorem State.wf.acqArm (h : s.wf) {src : ℕ} : (s.acqArm src).wf := wf_if h.err h.update
theorem execAcqArm_wf (h : s.wf) {src : Port} : afterNext State.wf (execAcqArm src s) := h.acqArm.next
theorem State.wf.acqCntClr (h : s.wf) : s.acqCntClr.wf := wf_foldl (fun _ _ h1 => h1.setReg) h.update
theorem execAcqCntClr_wf (h : s.wf) : afterNext State.wf (execAcqCntClr s) := h.acqCntClr.next
theorem execHoldoffEnd_wf (h : s.wf) : afterNext State.wf (execHoldoffEnd s) := h.update.next
theorem State.wf.stepRise (h : s.wf) : s.stepRise.wf := wf_if h.update.setF.event h

theorem State.wf.acqChanged (h : s.wf) {old : State} : (s.acqChanged old).wf :=
  wf_if (wf_if h.update h).setF.event (wf_if h.update h).stepRise

theorem State.wf.finishRecord (h : s.wf) {a : AcqSet} : (s.finishRecord a).wf :=
  (wf_if h.update.setF.incF h.update.setF).eventIf.eventIf

theorem State.wf.countOver (h : s.wf) {bus : ℕ} {l : List RawSample} : (s.countOver bus l).wf :=
  wf_if (wf_if h h.addF) (wf_if h h.addF).addF

theorem State.wf.countOvers (h : s.wf) {overs : List ℕ} : (s.countOvers overs).wf :=
  wf_if h (wf_foldl (fun _ _ h1 => wf_if h1 h1.addF) h)

theorem State.wf.captureDone (h : s.wf) {raw : List RawSample} : (s.captureDone raw).wf := by
  unfold State.captureDone
  split
  · exact h
  · exact wf_if h (wf_if h.countOver.finishRecord h.countOver.update.setF)

theorem State.wf.ringWrite (h : s.wf) : s.ringWrite.wf := by
  unfold State.ringWrite
  split
  · exact h
  · split
    · exact h.update
    · extract_lets
      split
      · have h1 := wf_fst ‹_› h.moverWrite
        exact h1
      · have h2 := wf_fst ‹_› h.moverWrite
        extract_lets _ _ _ s3 _ s4
        have h3 : s3.wf := wf_if h2.update.setF.incF h2.update.setF
        have h4 : s4.wf := by
          unfold s4
          split
          · exact wf_if h3.update h3
          · exact h3
        exact h4.stepRise

theorem execRingEntryWritten_wf (h : s.wf) :
    afterNext State.wf (execRingEntryWritten s) :=
  (wf_if h.ringWrite h).next

theorem execRateStepDown_wf (h : s.wf) : afterNext State.wf (execRateStepDown s) := (wf_if h.setF.event h).next
theorem State.wf.writeRingRd (h : s.wf) {src d : ℕ} : (s.writeRingRd src d).wf := wf_if h.err h.setF

theorem execRingRdWrite_wf (h : s.wf) {src : Port} {data : BitVec 32} :
    afterNext State.wf (execRingRdWrite src data s) :=
  h.writeRingRd.next

theorem State.wf.ringSend1 (h : s.wf) : ∀ t ∈ s.ringSend1, t.wf := by
  unfold State.ringSend1
  extract_lets
  refine some_if none_wf (some_if none_wf ?_)
  split
  next u ws e =>
  have hu : u.wf := wf_fst e h.moverRead
  extract_lets _ v
  have hv : v.wf := hu.update.setF
  cases ws with
  | none => exact some_wf hv
  | some ws => exact some_wf hv.sendPacket

theorem State.wf.ringSend (h : s.wf) {n : ℕ} : (s.ringSend n).wf := by
  induction n generalizing s with
  | zero => exact h
  | succ n ih =>
    unfold State.ringSend
    refine wf_if h ?_
    split
    · exact h
    · next e => exact ih (h.ringSend1 _ e)

theorem State.wf.acqLost (h : s.wf) : s.acqLost.wf := h.update.setF

/-! ## Camera ports (Camera) -/

theorem State.wf.updPort (h : s.wf) {p : ℕ} {g : CamPort → CamPort} : (s.updPort p g).wf := h.update

theorem execCsi2HsEntry_wf (h : s.wf) {port lane : Fin 4} {synced : Bool} :
    afterNext State.wf (execCsi2HsEntry port lane synced s) :=
  (wf_if h.incF.event h).next

theorem execCsi2Deskew_wf (h : s.wf) {port : Fin 4} : afterNext State.wf (execCsi2Deskew port s) :=
  (wf_if h.updPort h).next

theorem State.wf.lineErr (h : s.wf) {p : ℕ} : (s.lineErr p).wf := h.incF.event

theorem State.wf.lostLine (h : s.wf) {p : ℕ} : (s.lostLine p).wf := by
  unfold State.lostLine
  extract_lets
  split
  · exact h.lineErr
  · exact wf_if h.lineErr.updPort h.lineErr

theorem State.wf.camOverflow (h : s.wf) {p : ℕ} : (s.camOverflow p).wf := h.incF.event.lostLine

theorem State.wf.takeLine (h : s.wf) {p : ℕ} {f : CamFrame} {crcOk fifoFull : Bool} {payload : List ℕ} :
    (s.takeLine p f crcOk fifoFull payload).wf := by
  unfold State.takeLine
  refine wf_if h.lostLine (wf_if (wf_if h.camOverflow ?_) (wf_if h.camOverflow (wf_if h.lineErr h).updPort))
  extract_lets
  split
  · have h1 := wf_fst ‹_› h.moverWrite
    exact h1.camOverflow
  · have h2 := wf_fst ‹_› h.moverWrite
    exact (wf_if h2.lineErr h2).updPort

theorem State.wf.longPacket (h : s.wf) {p vc dt : ℕ} {ecc : HeaderEcc} {crcOk fifoFull : Bool} {payload : List ℕ} :
    (s.longPacket p vc dt ecc crcOk fifoFull payload).wf := by
  unfold State.longPacket
  refine wf_if h ?_
  split
  · exact h.incF.event.lostLine
  · refine wf_if (wf_if h.incF h).incF (wf_if (wf_if h.incF h).incF ?_)
    extract_lets s1
    have h1 : s1.wf := wf_if (wf_if h.incF h) (wf_if h.incF h).incF.event
    split
    · exact h1.lineErr
    · exact wf_if h1.lineErr.updPort (wf_if h1.lostLine h1.takeLine)

theorem execCsi2LongPacket_wf (h : s.wf) {port : Fin 4} {vc : Fin 16} {dt : BitVec 6} {ecc : HeaderEcc}
    {crcOk fifoFull : Bool} {payload : List (BitVec 16)} :
    afterNext State.wf (execCsi2LongPacket port vc dt ecc crcOk fifoFull payload s) :=
  h.longPacket.next

theorem State.wf.closeFrame (h : s.wf) {p : ℕ} : (s.closeFrame p).wf := by
  unfold State.closeFrame
  split
  · exact h
  · extract_lets _ _ _ _ _ _ s1 s2
    have h1 : s1.wf := h.updPort.setB.setB.setF
    have h2 : s2.wf := wf_if h1.incF.event h1
    exact wf_if h2.incF.event h2

theorem execShortFrameTimeout_wf (h : s.wf) {port : Fin 4} : afterNext State.wf (execShortFrameTimeout port s) := by
  unfold execShortFrameTimeout
  refine .next ?_
  split
  · exact wf_if h h.closeFrame
  · exact h

theorem State.wf.markPending (h : s.wf) {p : ℕ} : (s.markPending p).wf := h.setB
theorem State.wf.relayDone (h : s.wf) {p : ℕ} {r : Relay} : (s.relayDone p r).wf := h.setF.updPort.event.eventIf

theorem State.wf.i2cNext (h : s.wf) {p : ℕ} : (s.i2cNext p).wf := by
  unfold State.i2cNext
  refine wf_if h ?_
  extract_lets _ s1
  have h1 : s1.wf := by
    unfold s1
    refine wf_if h ?_
    split
    · refine wf_if h ?_
      split
      · exact h.relayDone
      · exact h.updPort
    · exact h
  exact (wf_if h1.updPort h1).markPending

theorem State.wf.hostDone (h : s.wf) {p : ℕ} {nack timeout : Bool} {data : ℕ} :
    (s.hostDone p nack timeout data).wf :=
  (wf_if h.setF h).setB.setB.setB.setB.setB.updPort.event.eventIf

theorem State.wf.i2cDone (h : s.wf) {p : ℕ} {nack timeout : Bool} {data : ℕ} :
    (s.i2cDone p nack timeout data).wf := by
  unfold State.i2cDone
  refine wf_if h.hostDone.i2cNext ?_
  split
  · exact h
  · refine wf_if h (wf_if h.updPort.event.i2cNext ?_)
    split
    · exact h.relayDone.i2cNext
    · exact h.updPort

theorem execI2cTransactionDone_wf (h : s.wf) {port : Fin 4} {ack : Bool} {data : BitVec 32} :
    afterNext State.wf (execI2cTransactionDone port ack data s) :=
  (wf_if h.i2cDone h).next

theorem execI2cTimeout_wf (h : s.wf) {port : Fin 4} : afterNext State.wf (execI2cTimeout port s) :=
  (wf_if h.i2cDone h).next

theorem State.wf.i2cXfer (h : s.wf) {src p d : ℕ} : (s.i2cXfer src p d).wf :=
  wf_if h.err (wf_if h.setReg h.setReg.setReg.updPort.i2cNext)

theorem execI2cXferGo_wf (h : s.wf) {src : Port} {port : Fin 4} {data : BitVec 32} :
    afterNext State.wf (execI2cXferGo src port data s) :=
  h.i2cXfer.next

theorem State.wf.putExposure (h : s.wf) {p exp gain : ℕ} : (s.putExposure p exp gain).wf := h.setReg.setShad

theorem State.wf.autoAtEnd (h : s.wf) {p : ℕ} {f : CamFrame} : (s.autoAtEnd p f).wf := by
  unfold State.autoAtEnd
  refine wf_if h ?_
  split
  · exact h
  · exact h.update.putExposure.updPort

theorem State.wf.blanking (h : s.wf) {p n : ℕ} : (s.blanking p n).wf := wf_if h h.updPort.i2cNext

theorem execCsi2FrameEnd_wf (h : s.wf) {port : Fin 4} {vc : Fin 16} :
    afterNext State.wf (execCsi2FrameEnd port vc s) := by
  unfold execCsi2FrameEnd
  refine .next (wf_if h ?_)
  extract_lets _ _ s1
  have h1 : s1.wf := by
    unfold s1
    split
    · exact h.closeFrame.autoAtEnd
    · exact h.closeFrame
  exact h1.blanking.markPending

theorem State.wf.exposureChanged (h : s.wf) {old : State} {p : ℕ} : (s.exposureChanged old p).wf :=
  wf_if h h.updPort.markPending

theorem State.wf.egenAtStart (h : s.wf) {p n : ℕ} : (s.egenAtStart p n).wf := by
  unfold State.egenAtStart
  extract_lets
  split
  · exact h
  · exact h.setF.updPort.markPending

theorem State.wf.frameBegins (h : s.wf) {p : ℕ} : (s.frameBegins p).wf := h.setF.egenAtStart.updPort

theorem execCamFsyncPulse_wf (h : s.wf) {port : Fin 4} : afterNext State.wf (execCamFsyncPulse port s) :=
  (wf_if h.updPort h).next

theorem State.wf.camCntClr (h : s.wf) {p : ℕ} : (s.camCntClr p).wf := h.setReg.setReg.setReg
theorem execCamCntClr_wf (h : s.wf) {port : Fin 4} : afterNext State.wf (execCamCntClr port s) := h.camCntClr.next
theorem State.wf.i2cRelease (h : s.wf) {p : ℕ} : (s.i2cRelease p).wf := (wf_if h.setB.setB h).updPort
theorem State.wf.i2cReleaseAll (h : s.wf) : s.i2cReleaseAll.wf := wf_foldl (fun _ _ h1 => h1.i2cRelease) h
theorem State.wf.camLost (h : s.wf) : s.camLost.wf := h.update

/-! ## The image signal processor (Isp) -/

theorem State.wf.putFrame (h : s.wf) {p : ℕ} {f : CamFrame} : (s.putFrame p f).wf := h.updPort

theorem State.wf.fetchRow (h : s.wf) {p : ℕ} {f : CamFrame} {y : ℕ} : (s.fetchRow p f y).1.wf := by
  unfold State.fetchRow
  split
  · exact h
  · split
    · exact h
    · refine wf_if_fst h ?_
      extract_lets
      split
      rename_i s1 _ e1
      have h1 := wf_fst e1 h.moverRead
      split
      · exact h1
      · exact h1.lineErr

theorem State.wf.dropFrames (h : s.wf) {p : ℕ} : (s.dropFrames p).wf := h.updPort

theorem State.wf.ispLine (h : s.wf) {p : ℕ} {f : CamFrame} : (s.ispLine p f).wf := by
  unfold State.ispLine
  extract_lets
  split
  rename_i s1 _ e1
  have h1 := wf_fst e1 (wf_foldl_fst (fun _ _ h2 => h2.fetchRow) h)
  exact (wf_if (wf_if h1.update h1) (wf_if h1.update h1).sendPacket).update.putFrame.dropFrames

theorem execIspLineDone_wf (h : s.wf) : afterNext State.wf (execIspLineDone s) := by
  unfold execIspLineDone
  refine .next ?_
  split
  · exact h
  · split
    · exact h.ispLine
    · exact h

theorem execStatsPacket_wf (h : s.wf) {port : Fin 4} : afterNext State.wf (execStatsPacket port s) := by
  unfold execStatsPacket
  refine .next (wf_if h ?_)
  split
  · exact h
  · exact h.sendPacket.update.setF.putFrame.event.dropFrames

/-! ## Histograms and tricks (Hist) -/

theorem State.wf.setHch (h : s.wf) {c : ℕ} {x : HistCh} : (s.setHch c x).wf := h.update
theorem State.wf.countBin (h : s.wf) {slice a i : ℕ} : (s.countBin slice a i).1.wf := wf_if_fst h.setF.event h.wrN

theorem State.wf.beginPlacement (hs : s.wf) {h : Hand} {c : ℕ} : (s.beginPlacement h c).wf :=
  wf_if hs (wf_if hs.incF hs).setHch

theorem execTrickPlacementDone_wf (h : s.wf) {channel : Fin 384} {fclk : ℕ} :
    afterNext State.wf (execTrickPlacementDone channel fclk s) :=
  next_if h.next h.setHch.maxF.next

theorem State.wf.feedTricks (h : s.wf) {c : ℕ} {sh : Shot} : (s.feedTricks c sh).wf :=
  wf_if h (wf_if h.setHch h.incF.event)

theorem State.wf.accumulate (h : s.wf) {c : ℕ} {w : Word36} {tot : ℕ} : (s.accumulate c w tot).wf := by
  unfold State.accumulate
  refine wf_if ?_ h.countBin.setHch
  split
  · exact h.countBin.countBin.setHch
  · exact h.countBin.setHch

theorem State.wf.rawWrite (h : s.wf) {k : State} {v : Word36} : (s.rawWrite k v).wf := by
  unfold State.rawWrite
  refine wf_if h.incF ?_
  extract_lets
  split
  · have h1 := wf_fst ‹_› h.moverWrite
    exact h1.incF
  · have h2 := wf_fst ‹_› h.moverWrite
    exact wf_if h2.setF.setB.event h2.setF

theorem State.wf.rawEvent (hs : s.wf) {h : Hand} {v : Word36} : (s.rawEvent h v).wf :=
  (wf_if hs hs.update.rawWrite).rawWrite

theorem State.wf.retireEvent (h : s.wf) {slice c : ℕ} {w : Word36} {tot : ℕ} :
    (s.retireEvent slice c w tot).wf := by
  unfold State.retireEvent
  refine wf_if h (wf_if (wf_if ?_ h) (wf_if h.accumulate h))
  split
  · exact h.rawEvent
  · exact h.incF

theorem execSliceEventRetire_wf (h : s.wf) {slice : Fin 32} :
    afterNext State.wf (execSliceEventRetire slice s) := by
  unfold execSliceEventRetire
  split
  · exact h.setFifo.retireEvent.next
  · exact h.next

theorem State.wf.cutDumps (h : s.wf) {c : ℕ} : (s.cutDumps c).wf := wf_if h h.update.addF.event
theorem State.wf.setClosed (h : s.wf) {c : ℕ} {l : List Closed} : (s.setClosed c l).wf := h.update

theorem State.wf.swap (h : s.wf) {c : ℕ} : (s.swap c).wf := by
  unfold State.swap
  extract_lets _ _ _ _ s1
  have h1 : s1.wf := wf_if h.cutDumps.flashClear h.cutDumps
  refine wf_if h1.setHch ?_
  split
  · exact h1.setHch.setClosed
  · exact wf_if h1.setHch.setClosed h1.setHch.setClosed.update

theorem State.wf.retireMarker (h : s.wf) {c : ℕ} {armed : Bool} : (s.retireMarker c armed).wf := by
  unfold State.retireMarker
  extract_lets
  split
  · exact h
  · exact wf_if (wf_if h.setHch.beginPlacement h.setHch).swap (wf_if h.setHch.beginPlacement h.setHch)

theorem State.wf.readout (h : s.wf) {c : ℕ} : (s.readout c).wf := by
  unfold State.readout
  split
  · exact h
  · exact h.setClosed

theorem execAutoReadoutDone_wf (h : s.wf) {channel : Fin 384} :
    afterNext State.wf (execAutoReadoutDone channel s) :=
  h.readout.next

theorem State.wf.dumpRead (h : s.wf) {c : ℕ} {trick : Bool} : (s.dumpRead c trick).wf := by
  unfold State.dumpRead
  split
  · exact h
  · exact wf_if h (wf_if h.update.enqueue h.update.enqueue.incF.event.incF)

theorem execDumpReadDone_wf (h : s.wf) {channel : Fin 384} {trick : Bool} :
    afterNext State.wf (execDumpReadDone channel trick s) :=
  h.dumpRead.next

theorem State.wf.summaries (h : s.wf) {ended : Option ℕ} : (s.summaries ended).wf := by
  unfold State.summaries
  refine wf_foldl (fun _ _ h1 => ?_) h
  extract_lets
  split
  · exact h1.setChan
  · exact wf_if (wf_if h1.setChan.update.updChan.swap h1.setChan.update.updChan) h1.setChan.update

theorem State.wf.histRun (h : s.wf) : s.histRun.wf := (wf_foldl (fun _ _ h1 => h1.flashClear) h).setB.update

theorem State.wf.drainSwitch (h : s.wf) {ns : ℕ} : (s.drainSwitch ns).wf :=
  wf_if h (wf_foldl (fun _ _ h1 => h1.cutDumps.flashClear.flashClear.setHch) h).update.setB.incF.setF.event

theorem State.wf.drainEnds (h : s.wf) : s.drainEnds.wf := by
  unfold State.drainEnds
  split
  · exact h.drainSwitch
  · exact h

theorem execDrainSwitch_wf (h : s.wf) {darkNs : ℕ} : afterNext State.wf (execDrainSwitch darkNs s) :=
  next_if h.drainSwitch.next h.next

theorem State.wf.histCntClr (h : s.wf) : s.histCntClr.wf := wf_foldl (fun _ _ h1 => h1.setReg) h
theorem execHistCntClr_wf (h : s.wf) : afterNext State.wf (execHistCntClr s) := h.histCntClr.next

/-! ## Rejection (Reject) -/

theorem State.wf.reject (h : s.wf) {c : ℕ} : (s.reject c).wf := by
  unfold State.reject
  split
  · exact h
  · split
    · exact h
    · split
      extract_lets _ s1 s2
      have h1 : s1.wf := h.setClosed.addF.addF.addF
      have h2 : s2.wf := wf_if h1 h1.addF.event
      exact (wf_if h2.incF.event h2).update

theorem execRejectChannel_wf (h : s.wf) {channel : Fin 384} : afterNext State.wf (execRejectChannel channel s) :=
  h.reject.next

theorem State.wf.bloom (h : s.wf) {c fclk : ℕ} : (s.bloom c fclk).wf := by
  unfold State.bloom
  split
  · exact h
  · exact wf_if h (wf_if (wf_if h h.addF.event).addF.setClosed.update.maxF
      (wf_if h h.addF.event).addF.setClosed.update)

theorem execBloomPass_wf (h : s.wf) {channel : Fin 384} {fclk : ℕ} :
    afterNext State.wf (execBloomPass channel fclk s) :=
  h.bloom.next

theorem State.wf.rejCntClr (h : s.wf) : s.rejCntClr.wf := wf_foldl (fun _ _ h1 => h1.setReg) h
theorem execRejCntClr_wf (h : s.wf) : afterNext State.wf (execRejCntClr s) := h.rejCntClr.next

/-! ## Points (Points) -/

theorem State.wf.eolAdd (h : s.wf) {k : State} {c : ℕ} {ps : List (Point × Option ℤ)} : (s.eolAdd k c ps).wf := by
  unfold State.eolAdd
  split
  · exact h
  · exact h.update

theorem State.wf.buildPoints (hs : s.wf) {k : State} {h : Hand} {c : ℕ} {x : Closed} {m : Summary} :
    (s.buildPoints k h c x m).1.wf :=
  wf_if_fst hs (wf_if_fst hs.addF (wf_if (wf_if hs hs.addF.event) (wf_if hs
    hs.addF.event).addF.event).eolAdd.update)

theorem State.wf.pointBid (hs : s.wf) {k : State} {h : Hand} {c : ℕ} : (s.pointBid k h c).wf := by
  unfold State.pointBid
  refine wf_if hs ?_
  split
  · exact hs
  · exact hs.update.incF.bid

theorem State.wf.buildChannel (h : s.wf) {c : ℕ} : (s.buildChannel c).wf := by
  unfold State.buildChannel
  split
  · refine wf_if h ?_
    split
    · exact h
    · exact h.buildPoints.setClosed.pointBid
  · exact h

theorem execPntChannelDone_wf (h : s.wf) {channel : Fin 384} : afterNext State.wf (execPntChannelDone channel s) :=
  h.buildChannel.next

theorem State.wf.updFrameCount (h : s.wf) {n : ℕ} {g : FrameCount → FrameCount} :
    (s.updFrameCount n g).wf :=
  h.update

theorem State.wf.finishHand (h : s.wf) {fclk : ℕ} : (s.finishHand fclk).1.wf := by
  unfold State.finishHand
  split
  · exact h
  · exact wf_if_fst h (wf_if h.updFrameCount.addF.maxF h.updFrameCount.addF.maxF.sendPacket).update

theorem State.wf.frameHeader (h : s.wf) : s.frameHeader.wf := wf_if h.setF.update h.setF.update.sendPacket

theorem State.wf.trailerPacket (h : s.wf) {f : FrameCount} {t : ℕ} :
    (s.trailerPacket f t).wf :=
  wf_if h h.sendPacket

theorem State.wf.trailers (h : s.wf) {n : ℕ} : (s.trailers n).wf := by
  induction n generalizing s with
  | zero => exact h
  | succ n ih =>
    unfold State.trailers
    split
    · exact h
    · split
      · exact h
      · exact wf_if h (ih h.update.trailerPacket)

theorem State.wf.rawHandsLeave (h : s.wf) : s.rawHandsLeave.wf := wf_foldl (fun _ _ h1 => h1.updFrameCount) h.update
theorem State.wf.framesLeave (h : s.wf) : s.framesLeave.wf := h.rawHandsLeave.trailers

theorem execMarkerRetire_wf (h : s.wf) {slice : Fin 32} : afterNext State.wf (execMarkerRetire slice s) := by
  unfold execMarkerRetire
  split
  · exact h.setFifo.retireMarker.framesLeave.next
  · exact h.next

theorem State.wf.frameStops (h : s.wf) {t skipped : ℕ} : (s.frameStops t skipped).wf := h.updFrameCount
theorem State.wf.frameStandby (h : s.wf) : s.frameStandby.wf := wf_if h.frameStops.framesLeave h
theorem State.wf.pntCntClr (h : s.wf) : s.pntCntClr.wf := wf_foldl (fun _ _ h1 => h1.setReg) h
theorem execPntCntClr_wf (h : s.wf) : afterNext State.wf (execPntCntClr s) := h.pntCntClr.next

/-! ## Fusion and warning zones (Fusion) -/

theorem State.wf.putRaster (h : s.wf) {p : ℕ} {r : Raster} : (s.putRaster p r).wf := h.updPort

theorem State.wf.writeCell (h : s.wf) {p : ℕ} {r : Raster} {c : RasterCell} : (s.writeCell p r c).wf := by
  unfold State.writeCell
  split
  · have h1 := wf_fst ‹_› h.moverWrite
    exact h1
  · have h2 := wf_fst ‹_› h.moverWrite
    exact h2.event

theorem State.wf.rasterAdd (hs : s.wf) {p : ℕ} {h : Hand} {r : Raster} {n : RasterCell} :
    (s.rasterAdd p h r n).wf :=
  hs.putRaster.writeCell

theorem State.wf.rasterPoint (hs : s.wf) {k : State} {h : Hand} {p : ℕ} {pt : Point} :
    (s.rasterPoint k h p pt).wf := by
  unfold State.rasterPoint
  split
  · exact hs
  · split
    · exact hs
    · extract_lets
      split
      · exact hs
      · refine wf_if hs.putRaster.incF ?_
        split
        · exact hs.putRaster.incF
        · exact hs.rasterAdd

theorem State.wf.projectHand (hs : s.wf) {k : State} {h : Hand} {ps : List Point} : (s.projectHand k h ps).wf :=
  wf_if hs (wf_foldl (fun _ _ h1 => wf_foldl (fun _ _ h2 => h2.rasterPoint) h1) hs)

theorem State.wf.openRaster (h : s.wf) {p n : ℕ} : (s.openRaster p n).wf := by
  unfold State.openRaster
  refine wf_if h ?_
  extract_lets
  split
  · have h1 := wf_fst ‹_› h.moverWrite
    exact h1.event
  · have h2 := wf_fst ‹_› h.moverWrite
    exact h2.updPort

theorem State.wf.closeRaster (h : s.wf) {p : ℕ} {r : Raster} : (s.closeRaster p r).wf := by
  unfold State.closeRaster
  extract_lets s1
  have h1 : s1.wf := wf_foldl (fun _ _ h2 => h2.writeCell) h
  refine wf_if h1.updPort.event ?_
  split
  · have h3 := wf_fst ‹_› h1.updPort.moverRead
    exact h3.event
  · have h4 := wf_fst ‹_› h1.updPort.moverRead
    exact h4.sendPacket

theorem State.wf.rastersAtStart (h : s.wf) {p n : ℕ} : (s.rastersAtStart p n).wf :=
  (wf_foldl (fun _ _ h1 => h1.closeRaster) h).openRaster.openRaster

theorem State.wf.showZones (h : s.wf) : s.showZones.wf := h.setF.setF.setF.setF
theorem State.wf.zonePacket (h : s.wf) {reason frame az : ℕ} : (s.zonePacket reason frame az).wf := h.sendPacket
theorem State.wf.setZones (h : s.wf) {z : Zones} : (s.setZones z).wf := h.update

theorem State.wf.zoneCheck (h : s.wf) {frame az : ℕ} : (s.zoneCheck frame az).wf :=
  wf_if h (wf_if h.setZones.showZones h.setZones.showZones.event.zonePacket)

theorem State.wf.zoneSkipped (h : s.wf) : s.zoneSkipped.wf := wf_if h.update h.update
theorem State.wf.zoneRun (h : s.wf) : s.zoneRun.wf := h.setZones.setZones

theorem State.wf.zoneBids (hs : s.wf) {k : State} {h : Hand} {ps : List Point} : (s.zoneBids k h ps).wf :=
  wf_if hs (wf_foldl (fun _ _ h1 => h1.bid) hs)

theorem State.wf.zoneCount (h : s.wf) {k : State} {ps : List Point} : (s.zoneCount k ps).wf := h.setZones
theorem State.wf.zoneFrameEnd (h : s.wf) {k : State} : (s.zoneFrameEnd k).wf := h.update.update

theorem State.wf.zoneFrames (h : s.wf) {n : ℕ} : (s.zoneFrames n).1.wf := by
  induction n generalizing s with
  | zero => exact h
  | succ n ih =>
    unfold State.zoneFrames
    split
    · exact h
    · exact wf_if_fst h (ih h.setZones.zoneFrameEnd)

theorem State.wf.zoneReport (h : s.wf) {before : Zones} {frame az : ℕ} {ended : List Hand} :
    (s.zoneReport before frame az ended).wf :=
  wf_foldl (fun _ _ h1 => h1.zonePacket) (wf_if h.showZones.eventIf.zonePacket h.showZones.eventIf)

theorem State.wf.zoneJudge (h : s.wf) {before : Zones} {frame az : ℕ} : (s.zoneJudge before frame az).wf :=
  wf_if h.zoneFrames.zoneReport h.zoneFrames.showZones

theorem State.wf.zoneFrameOver (hs : s.wf) {h : Hand} : (s.zoneFrameOver h).wf := hs.setZones.zoneJudge

theorem State.wf.zoneHand (hs : s.wf) {k : State} {h : Hand} {ps : List Point} : (s.zoneHand k h ps).wf :=
  wf_if hs.zoneCheck.zoneJudge hs.setZones.zoneCheck.zoneBids.zoneCount.zoneJudge

theorem State.wf.zoneCntClr (h : s.wf) : s.zoneCntClr.wf := h.setReg
theorem execZoneCntClr_wf (h : s.wf) : afterNext State.wf (execZoneCntClr s) := h.zoneCntClr.next

/-! ## The supervisor (Supv) -/

theorem State.wf.safePacket (h : s.wf) {reason : ℕ} : (s.safePacket reason).wf := (wf_if h h.update).sendPacket

theorem execSafetyStatusTimer_wf (h : s.wf) : afterNext State.wf (execSafetyStatusTimer s) :=
  next_if h.safePacket.next h.next

theorem State.wf.setFailing (h : s.wf) {d : ℕ} {b : Bool} : (s.setFailing d b).wf := h.setF
theorem State.wf.latch (h : s.wf) {k : ℕ} : (s.latch k).wf := wf_if h h.update.abandonChange

theorem State.wf.detail (h : s.wf) {x : Option ℕ} : (s.detail x).1.wf := by
  unfold State.detail
  split
  · exact h
  · exact h.takeFree

theorem State.wf.recordDiag (h : s.wf) {d : ℕ} {detail : Option ℕ} : (s.recordDiag d detail).wf :=
  wf_if h h.detail.update.setF.setF

theorem State.wf.diagFails (h : s.wf) {d : ℕ} {detail : Option ℕ} : (s.diagFails d detail).wf :=
  wf_if (wf_if h (wf_if h.abandonChange h.latch)) (wf_if h (wf_if h.abandonChange
    h.latch)).setFailing.recordDiag.event.safePacket

theorem State.wf.showPermit (h : s.wf) : s.showPermit.wf := wf_if h h.setB
theorem State.wf.updateCrc (h : s.wf) : s.updateCrc.wf := h.setReg
theorem State.wf.ledWrite (h : s.wf) {a : ℕ} {v : Word36} : (s.ledWrite a v).wf := h.wr.update

theorem State.wf.logAppend (h : s.wf) {kind : ℕ} {before : Word} {a : ℕ} : (s.logAppend kind before a).wf :=
  (wf_foldl (fun _ _ h1 => h1.ledWrite) h).update

theorem State.wf.log (h : s.wf) {kind a : ℕ} : (s.log kind a).wf := h.logAppend
theorem State.wf.lockOpens (h : s.wf) : s.lockOpens.wf := h.update.eventIf
theorem State.wf.lockClose (h : s.wf) : s.lockClose.wf := h.update.eventIf
theorem State.wf.restartRequest (h : s.wf) : s.restartRequest.wf := h.setB.eventIf

theorem State.wf.setMode (h : s.wf) {active : Bool} : (s.setMode active).wf :=
  wf_if h (wf_if h.setB.event.restartRequest h.setB.event).safePacket

theorem State.wf.coveredWritten (h : s.wf) {before : Word} {a : ℕ} {rwl : Bool} :
    (s.coveredWritten before a rwl).wf :=
  wf_if h (wf_if h.updateCrc.update (wf_if h.updateCrc.update.logAppend.setMode.log h.updateCrc.update.logAppend))

theorem State.wf.commission (h : s.wf) {src : ℕ} : (s.commission src).wf := wf_if h.setMode.log h.err

theorem execSafeCmdCommission_wf (h : s.wf) {src : Port} : afterNext State.wf (execSafeCmdCommission src s) :=
  h.commission.next

theorem execSafeCmdClose_wf (h : s.wf) : afterNext State.wf (execSafeCmdClose s) := h.lockClose.next
theorem execLockTimeout_wf (h : s.wf) : afterNext State.wf (execLockTimeout s) := h.lockClose.next

theorem State.wf.confirm (h : s.wf) {src v : ℕ} : (s.confirm src v).wf :=
  wf_if h.err h.ledWrite.ledWrite.log.setFailing.setMode.lockClose.showPermit

theorem execSafeConfirm_wf (h : s.wf) {src : Port} {data : BitVec 32} :
    afterNext State.wf (execSafeConfirm src data s) :=
  h.confirm.next

theorem State.wf.watchdog (h : s.wf) : s.watchdog.1.wf := h.update.setB.event.diagFails

theorem execSupvComparisonDone_wf (h : s.wf) {differ : BitVec 24} :
    afterNext State.wf (execSupvComparisonDone differ s) := by
  unfold execSupvComparisonDone
  refine next_if h.next ?_
  extract_lets
  split
  · exact h.update.incF.update.incF.event.diagFails.showPermit.next
  · exact (wf_if h.update.incF.update.setFailing h.update.incF.update).next

theorem execSafetyCrcCheck_wf (h : s.wf) {computed : BitVec 32} :
    afterNext State.wf (execSafetyCrcCheck computed s) :=
  next_if h.next h.diagFails.setMode.showPermit.next

theorem execSupvMemoryScrub_wf (h : s.wf) {uncorrectable : Bool} :
    afterNext State.wf (execSupvMemoryScrub uncorrectable s) :=
  next_if h.next h.diagFails.showPermit.next

theorem State.wf.mpdDark (h : s.wf) {tile : ℕ} : (s.mpdDark tile).wf := wf_if h.diagFails.hazard.showPermit h

theorem State.wf.dummyDiag (h : s.wf) {r : DummyResult} : (s.dummyDiag r).wf := by
  unfold State.dummyDiag
  extract_lets
  split
  · exact wf_if h.update.setFailing h.update
  · exact wf_if h.update.diagFails h.update
  · exact wf_if h.update.update.diagFails h.update

theorem execRootClockCheck_wf (h : s.wf) {inRange : Bool} : afterNext State.wf (execRootClockCheck inRange s) :=
  next_if h.next (next_if (wf_if h.update.setFailing h.update).next h.update.diagFails.hazard.next)

theorem State.wf.supvCntClr (h : s.wf) : s.supvCntClr.wf := h.setReg
theorem execSupvCntClr_wf (h : s.wf) : afterNext State.wf (execSupvCntClr s) := h.supvCntClr.next

/-! ## FIELD (Field) -/

theorem State.wf.showField (h : s.wf) : s.showField.wf :=
  wf_if h.setF.setF.setF.setF.eventIf.eventIf h.setF.setF.setF.setF.eventIf.eventIf.safePacket

theorem State.wf.setField (h : s.wf) {x : FieldSt} : (s.setField x).wf := h.update
theorem State.wf.fieldCheck (h : s.wf) : s.fieldCheck.wf := (wf_if h h.setField).showField
theorem State.wf.updField (h : s.wf) {n : ℕ} {g : FieldFrame → FieldFrame} : (s.updField n g).wf := h.setField

theorem State.wf.fieldBegins (h : s.wf) {n : ℕ} : (s.fieldBegins n).wf :=
  wf_if h.fieldCheck (wf_if h h.setField).setField

theorem State.wf.fieldIntrude (h : s.wf) {k : State} {n : ℕ} : (s.fieldIntrude k n).wf := by
  unfold State.fieldIntrude
  split
  · exact h
  · exact h.setField.updField

theorem State.wf.fieldClose (h : s.wf) {k : State} {x : FieldFrame} {later : List FieldFrame} :
    (s.fieldClose k x later).wf :=
  wf_if h.setField.setF.incF h.setField.setF

theorem State.wf.fieldCloseAll (h : s.wf) {k : State} {n : ℕ} : (s.fieldCloseAll k n).wf := by
  induction n generalizing s with
  | zero => exact h
  | succ n ih =>
    unfold State.fieldCloseAll
    split
    · exact h
    · exact wf_if h (ih h.fieldClose)

theorem State.wf.fieldEnded (h : s.wf) {n : ℕ} : (s.fieldEnded n).wf := h.updField.fieldCloseAll.showField

theorem State.wf.blindDiag (h : s.wf) {k : State} {blind : Bool} {az : ℕ} : (s.blindDiag k blind az).wf :=
  wf_if h.setFailing (wf_if h.event.diagFails (wf_foldl (fun _ _ h1 => h1.bid) h.event.diagFails))

theorem State.wf.blindCount (h : s.wf) {n : ℕ} {hard soft : Bool} : (s.blindCount n hard soft).wf := h.updField

theorem State.wf.fieldSkipped (hs : s.wf) {h : Hand} {n : ℕ} : (s.fieldSkipped h n).wf :=
  wf_if hs hs.blindCount.blindDiag.fieldIntrude.showField

theorem State.wf.fieldTrumps (hs : s.wf) {k : State} {h : Hand} {ps : List Point} : (s.fieldTrumps k h ps).wf :=
  wf_if hs (wf_foldl (fun _ _ h1 => h1.bid) hs)

theorem State.wf.compareHand (h : s.wf) : s.compareHand.wf :=
  wf_if h.update.update.incF (wf_if h.update.update h.update)

theorem State.wf.fieldHand (hs : s.wf) {sums k : State} {h : Hand} {ps : List Point} :
    (s.fieldHand sums k h ps).wf :=
  wf_if hs.compareHand hs.updField.blindCount.fieldTrumps.blindDiag.fieldIntrude.compareHand.fieldCloseAll.showField

theorem State.wf.mirrorDiag (h : s.wf) : s.mirrorDiag.wf := wf_if h (wf_if h.setFailing h.diagFails)

/-! ## SAFE (Safe) -/

theorem State.wf.setSafe (h : s.wf) {x : Safe} : (s.setSafe x).wf := h.update

theorem State.wf.sampleInputs (h : s.wf) {sin sfb : ℕ} : (s.sampleInputs sin sfb).wf := by
  unfold State.sampleInputs
  extract_lets _ _ _ _ _ s1
  have h1 : s1.wf := h.setSafe.setF.setF.setB.setB
  split
  · exact h1.setSafe.diagFails
  · exact h1.setSafe.setFailing

theorem State.wf.selectSet (h : s.wf) {n : ℕ} : (s.selectSet n).wf := wf_if h h.setF.event.showField.safePacket

theorem State.wf.codeStep (h : s.wf) : s.codeStep.wf := by
  unfold State.codeStep
  extract_lets _ s1
  have h1 : s1.wf := by
    unfold s1
    split
    · exact h.setSafe.selectSet
    · exact h
  exact wf_if h1.setB.setSafe.selectSet (wf_if h1.setB.setSafe h1.setB.setSafe)

theorem State.wf.demandStep (h : s.wf) : s.demandStep.wf :=
  wf_if (wf_foldl (fun _ _ h1 => h1.incF.event) h.setSafe).restartRequest
    (wf_foldl (fun _ _ h1 => h1.incF.event) h.setSafe)

theorem State.wf.resetAccepted (h : s.wf) : s.resetAccepted.wf := h.setB.setSafe.showPermit
theorem State.wf.resetStep (h : s.wf) : s.resetStep.wf := wf_if h.setSafe (wf_if h.setSafe.resetAccepted h.setSafe)

theorem State.wf.edmStep (h : s.wf) {sfb : ℕ} : (s.edmStep sfb).wf :=
  wf_if h.setSafe.setFailing (wf_if (wf_if h.setSafe.diagFails h.setSafe) (wf_if h.setSafe.diagFails (wf_if
    h.setSafe.setFailing h.setSafe)))

theorem State.wf.readback (h : s.wf) {sout : ℕ} : (s.readback sout).wf := wf_if h.diagFails (wf_if h.setFailing h)

theorem State.wf.watchBearing (h : s.wf) : s.watchBearing.wf :=
  wf_if (wf_if (wf_if (wf_if h.latch.safePacket h.latch) h).latch.safePacket
    (wf_if (wf_if h.latch.safePacket h.latch) h).latch) (wf_if (wf_if h.latch.safePacket h.latch) h)

theorem State.wf.command (h : s.wf) {on : Bool} : (s.command on).wf := wf_if h h.setSafe.event
theorem State.wf.showOut (h : s.wf) : s.showOut.wf := wf_if h (wf_if h.setF.incF.event h.setF).safePacket
theorem State.wf.showFuncs (h : s.wf) : s.showFuncs.wf := h.setReg
theorem State.wf.functionStep (h : s.wf) : s.functionStep.wf := wf_if h.setSafe.latch.safePacket h.setSafe

theorem State.wf.safeCycle (h : s.wf) {sin sfb sout : ℕ} : (s.safeCycle sin sfb sout).wf :=
  have hin := h.setSafe.readback.fieldCheck.watchBearing.sampleInputs.functionStep
  hin.codeStep.demandStep.resetStep.edmStep.showPermit.setB.setB.command.showFuncs.showOut

theorem execSafeCycle_wf (h : s.wf) {sin : BitVec 8} {sfb sout : BitVec 2} :
    afterNext State.wf (execSafeCycle sin sfb sout s) :=
  next_if h.safeCycle.next h.next

theorem State.wf.safeFold (h : s.wf) : s.safeFold.wf := (wf_if h.setSafe.event h).setB.showOut
theorem State.wf.safeCntClr (h : s.wf) : s.safeCntClr.wf := h.setReg
theorem execSafeCntClr_wf (h : s.wf) : afterNext State.wf (execSafeCntClr s) := h.safeCntClr.next

theorem State.wf.pwOpen (h : s.wf) {src d : ℕ} : (s.pwOpen src d).wf :=
  wf_if h.err (wf_if h.err (wf_if h.err (wf_if h.err h.setSafe)))

theorem execPwOpen_wf (h : s.wf) {src : Port} {data : BitVec 32} : afterNext State.wf (execPwOpen src data s) :=
  h.pwOpen.next

theorem execPwCheckDone_wf (h : s.wf) : afterNext State.wf (execPwCheckDone s) := by
  unfold execPwCheckDone
  split
  · exact h.next
  · exact next_if h.setSafe.setSafe.setF.lockOpens.log.next
      (next_if h.setSafe.setF.err.next h.setSafe.setF.err.blockWrite.log.next)

theorem execPwBlockEnd_wf (h : s.wf) :
    afterNext State.wf (execPwBlockEnd s) :=
  next_if h.next h.blockWrite.setF.next

theorem State.wf.pwSet (h : s.wf) {src d : ℕ} : (s.pwSet src d).wf :=
  wf_if h (wf_if h.err (wf_if h.err (wf_if h.err h.blockWrite.lockOpens.log)))

theorem execPwSet_wf (h : s.wf) {src : Port} {data : BitVec 32} : afterNext State.wf (execPwSet src data s) :=
  h.pwSet.next

theorem State.wf.resetSafety (h : s.wf) : s.resetSafety.wf := by
  obtain ⟨hregs, hshad, hmem, htime⟩ := h
  exact ⟨Cells.wf_filter hregs _, Cells.wf_filter hshad _, hmem, htime⟩

theorem State.wf.pwErase (h : s.wf) {src : ℕ} : (s.pwErase src).wf :=
  wf_if h.err h.blockWrite.resetSafety.updateCrc.setMode.logAppend

theorem execPwErase_wf (h : s.wf) {src : Port} : afterNext State.wf (execPwErase src s) := h.pwErase.next

/-! ## Commits (Commit) -/

theorem State.wf.eolAbandon (h : s.wf) : s.eolAbandon.wf := by
  unfold State.eolAbandon
  split
  · exact h
  · exact h.setB.setF.update.event

theorem State.wf.settle (h : s.wf) : s.settle.wf :=
  wf_if h.steerMode.zoneCheck.fieldCheck h.steerMode.zoneCheck.fieldCheck.eolAbandon

theorem State.wf.commitRefused (h : s.wf) {p code src : ℕ} : (s.commitRefused p code src).wf := h.setF.errAt.event
theorem State.wf.dropRequest (h : s.wf) {p : ℕ} : (s.dropRequest p).wf := h.update.dropChanges

theorem State.wf.dealCommitted (h : s.wf) {old : State} : (s.dealCommitted old).wf :=
  wf_if h (wf_foldl (fun _ _ h1 => h1.throttle) h)

theorem State.wf.shufCommitted (h : s.wf) {old : State} : (s.shufCommitted old).wf := h.loadSeeds

theorem State.wf.emitCommitted (h : s.wf) : s.emitCommitted.wf :=
  wf_foldl (fun _ _ h1 => h1.mpdUnused) (wf_if h h.setF.setHeld).countMasked

theorem State.wf.ldbCommitted (h : s.wf) {old : State} : (s.ldbCommitted old).wf :=
  wf_if (wf_if h.ldbStart h) (wf_if h.ldbDisable h)

theorem State.wf.captures (h : s.wf) {a : ℕ} {enabled : Bool} : (s.captures a enabled).wf := wf_if h.update h

theorem State.wf.steerCommitted (h : s.wf) {old : State} : (s.steerCommitted old).wf :=
  wf_foldl (fun _ _ h1 => wf_if h1.axisMode.captures h1) h

theorem State.wf.senseCounts (h : s.wf) {old : State} : (s.senseCounts old).wf :=
  wf_foldl (fun _ _ h1 => wf_if h1.setSenseCh (wf_if h1.setSenseCh h1)) h

theorem State.wf.senseCommitted (h : s.wf) {old : State} : (s.senseCommitted old).wf :=
  wf_foldl (fun _ _ h1 => h1.setSenseCh) h.senseCounts

theorem State.wf.histCommitted (h : s.wf) {old : State} : (s.histCommitted old).wf := wf_if h.setReg.update h

theorem State.wf.camCommitted (h : s.wf) {old : State} {p : ℕ} : (s.camCommitted old p).wf :=
  wf_if h.exposureChanged.closeFrame h.exposureChanged

theorem State.wf.safetyCommitted (h : s.wf) {pages : List ℕ} : (s.safetyCommitted pages).wf :=
  wf_if (wf_if h.updateCrc.logAppend h.updateCrc).logAppend.setFailing.update
    (wf_if h.updateCrc.logAppend h.updateCrc)

theorem State.wf.drainBegins (h : s.wf) {old : State} : (s.drainBegins old).wf := by
  unfold State.drainBegins
  split
  · exact h
  · exact h.setB.update

theorem State.wf.followPages (h : s.wf) {old : State} {pages : List ℕ} : (s.followPages old pages).wf := by
  unfold State.followPages
  extract_lets _ s1 s2 s3 s4 s5 s6 s7 s8 s9
  have h1 : s1.wf := wf_if h.dealCommitted h
  have h2 : s2.wf := wf_if h1.shufCommitted h1
  have h3 : s3.wf := wf_if h2.emitCommitted h2
  have h4 : s4.wf := wf_if h3.ldbCommitted h3
  have h5 : s5.wf := wf_if h4.steerCommitted h4
  have h6 : s6.wf := wf_if h5.senseCommitted h5
  have h7 : s7.wf := wf_if h6.adcChanged h6
  have h8 : s8.wf := wf_if h7.acqChanged h7
  have h9 : s9.wf := wf_if h8.histCommitted h8
  exact wf_foldl (fun _ _ h10 => h10.camCommitted) (wf_if h9.tabCommitted h9)

theorem State.wf.afterCommit (h : s.wf) {old : State} {pages : List ℕ} : (s.afterCommit old pages).wf := by
  unfold State.afterCommit
  extract_lets _ s1
  have h1 : s1.wf := wf_if h.followPages.drainBegins h.followPages
  exact (wf_if h1.safetyCommitted (wf_if h1.updateCrc h1)).settle

theorem State.wf.pageCommitted (h : s.wf) {p : ℕ} {dirty drained : Bool} : (s.pageCommitted p dirty drained).wf :=
  h.setReg.setF.event

theorem State.wf.nextGeneration (h : s.wf) : s.nextGeneration.wf := h.setF

theorem State.wf.commitEvent (h : s.wf) {ls : List Latched} {isp : Option (CommitReq × List ℕ)} :
    (s.commitEvent ls isp).wf := by
  unfold State.commitEvent
  extract_lets iw _ _ t1 t2 t3 _ t4
  have h1 : t1.wf := Canon.withRegs h fun hr => putRws_wf (latched_wf hr ls) iw
  have h2 : t2.wf := wf_if h1.nextGeneration h1
  have h3 : t3.wf := wf_foldl (fun _ _ h => h.pageCommitted) h2
  have h4 : t4.wf := by
    unfold t4
    split
    · exact h3
    · exact wf_if h3.update.pageCommitted h3.update
  exact wf_if h4 h4.afterCommit

theorem State.wf.countCommit (h : s.wf) {old : State} : (s.countCommit old).wf := wf_if h h.updFrameCount

theorem State.wf.secondCheck (h : s.wf) {p : ℕ} : (s.secondCheck p).wf := by
  unfold State.secondCheck
  split
  · exact h
  · refine wf_if h ?_
    split
    · exact h.dropRequest.commitRefused
    · exact h

theorem State.wf.takeRequests (h : s.wf) {ps : List ℕ} : (s.takeRequests ps).1.wf :=
  (wf_foldl (fun _ _ h1 => h1.secondCheck) h).update

theorem State.wf.checkIspRequest (h : s.wf) {ports : List ℕ} : (s.checkIspRequest ports).wf := wf_if h.secondCheck h

theorem State.wf.takeEffect (h : s.wf) {ps isp : List ℕ} : (s.takeEffect ps isp).wf :=
  h.checkIspRequest.takeRequests.commitEvent.countCommit

theorem State.wf.acceptRequest (h : s.wf) {r : CommitReq} : (s.acceptRequest r).wf :=
  wf_if h.update h.dropRequest.setF.update.changeFrames

theorem State.wf.acceptAll (h : s.wf) {rs : List CommitReq} : (s.acceptAll rs).wf :=
  (wf_foldl (fun _ _ h1 => h1.acceptRequest) h).takeEffect

theorem State.wf.postHeld (h : s.wf) : s.postHeld.wf := by
  unfold State.postHeld
  split
  · exact h
  · refine wf_if h ?_
    extract_lets
    split
    · exact h.update.commitRefused
    · exact h.update.acceptAll

theorem State.wf.idleCommits (h : s.wf) : s.idleCommits.wf := wf_if h h.takeEffect.postHeld

theorem State.wf.post (h : s.wf) {src p b : ℕ} : (s.post src p b).wf := by
  unfold State.post
  refine wf_if h.acceptRequest ?_
  split
  · exact h.commitRefused
  · exact h.acceptAll.idleCommits.postHeld

theorem State.wf.cancel (h : s.wf) {p : ℕ} : (s.cancel p).wf := by
  unfold State.cancel
  split
  · exact h
  · exact wf_if h.update h.dropRequest

theorem State.wf.globalCommit (h : s.wf) {src b : ℕ} : (s.globalCommit src b).wf := by
  unfold State.globalCommit
  extract_lets ps bad
  clear_value bad
  split
  · exact (wf_foldl (fun _ _ h => h.setF) h).acceptAll.idleCommits.postHeld
  · exact (wf_foldl (fun _ _ h => h.commitRefused) h).errAt.event

theorem State.wf.latchCommits (h : s.wf) {first : Bool} : (s.latchCommits first).wf := h.takeRequests.update

theorem State.wf.unlatchAdc (h : s.wf) : s.unlatchAdc.wf := by
  unfold State.unlatchAdc
  split
  · exact h
  · exact wf_if h h.update

theorem State.wf.boundaryCommits (h : s.wf) {first : Bool} : (s.boundaryCommits first).wf := by
  unfold State.boundaryCommits
  extract_lets
  split
  split
  rename_i s1 _ e1
  have h1 := wf_fst e1 h.unlatchAdc.checkIspRequest.takeRequests
  exact (wf_if h1.update.commitEvent h1.update.commitEvent.countCommit).idleCommits.postHeld

theorem State.wf.edgeCommits (h : s.wf) : s.edgeCommits.wf := h.takeEffect.idleCommits.postHeld.update

theorem State.wf.cameraCommits (h : s.wf) {p : ℕ} : (s.cameraCommits p).wf :=
  wf_if h (wf_if h h.takeEffect.idleCommits.postHeld)

theorem State.wf.adcCommits (h : s.wf) : s.adcCommits.wf := by
  unfold State.adcCommits
  split
  · exact wf_if h.takeEffect h
  · exact h

theorem execRecordCaptureDone_wf (h : s.wf) {capture : RecordSamples} :
    afterNext State.wf (execRecordCaptureDone capture s) :=
  h.countOvers.captureDone.adcCommits.next

theorem State.wf.shadowWritten (h : s.wf) {a : ℕ} : (s.shadowWritten a).wf :=
  wf_if (wf_if h.setF.update.takeEffect.postHeld h.setF.update) (wf_if h.setF.update.queueChanges h.setF.update)

theorem State.wf.commitWrite (h : s.wf) {src p b : ℕ} : (s.commitWrite src p b).wf := wf_if h.setF.post h
theorem State.wf.gcommitWrite (h : s.wf) {src b : ℕ} : (s.gcommitWrite src b).wf := h.setF.globalCommit

/-! ## Image slots (Images) -/

theorem State.wf.ledgerAccess (h : s.wf) {src a : ℕ} : (s.ledgerAccess src a).wf := by
  unfold State.ledgerAccess
  split
  · exact h.addF.event.errAt
  · exact h.addF.event.update
  · exact h

theorem State.wf.ledgerScan (h : s.wf) {base n : ℕ} : (s.ledgerScan base n).wf :=
  wf_foldl (fun _ _ h1 => h1.ledgerAccess) h

theorem State.wf.cfgCheckAll (h : s.wf) : s.cfgCheckAll.wf := wf_foldl (fun _ _ h1 => h1.setB.ledgerScan) h

theorem State.wf.slotWrite (h : s.wf) {src a : ℕ} {v : Word36} : (s.slotWrite src a v).1.wf :=
  wf_if_fst h.errAt h.ledWrite.setB

theorem State.wf.bootRefuse (h : s.wf) {code src a : ℕ} : (s.bootRefuse code src a).wf := h.err

theorem State.wf.cfgStore (h : s.wf) {src : ℕ} : (s.cfgStore src).wf :=
  wf_if h.bootRefuse (wf_if h.bootRefuse (wf_foldl (fun _ _ h1 => h1.ledWrite) h.takeFree).setB.setB.update)

theorem execCfgStore_wf (h : s.wf) {src : Port} : afterNext State.wf (execCfgStore src s) := h.cfgStore.next

theorem execCfgStoreDone_wf (h : s.wf) :
    afterNext State.wf (execCfgStoreDone s) :=
  next_if h.setB.cfgEnds.next h.next

theorem State.wf.cfgCheck (h : s.wf) {src : ℕ} : (s.cfgCheck src).wf := wf_if h.bootRefuse h.cfgCheckAll.cfgEnds
theorem execCfgCheck_wf (h : s.wf) {src : Port} : afterNext State.wf (execCfgCheck src s) := h.cfgCheck.next
theorem State.wf.fwVerify (h : s.wf) {src : ℕ} : (s.fwVerify src).wf := wf_if h.bootRefuse h.setB.update
theorem execFwVerify_wf (h : s.wf) {src : Port} : afterNext State.wf (execFwVerify src s) := h.fwVerify.next

theorem execFwVerifyDone_wf (h : s.wf) {signed : Bool} : afterNext State.wf (execFwVerifyDone signed s) :=
  next_if h.next (next_if h.ledgerScan.fwEnds.next
    (next_if h.ledgerScan.fwEnds.next (next_if h.ledgerScan.fwEnds.next h.ledgerScan.setB.fwEnds.next)))

theorem State.wf.fwSwap (h : s.wf) {src : ℕ} : (s.fwSwap src).wf :=
  wf_if h.bootRefuse (wf_if h.setB.update h.bootRefuse)

theorem execFwSwap_wf (h : s.wf) {src : Port} : afterNext State.wf (execFwSwap src s) := h.fwSwap.next
theorem execFwSwapStop_wf (h : s.wf) : afterNext State.wf (execFwSwapStop s) := next_if h.setB.update.next h.next
theorem State.wf.fwFlip (h : s.wf) : s.fwFlip.wf := h.setF.blockWrite

theorem execFwImageStart_wf (h : s.wf) : afterNext State.wf (execFwImageStart s) :=
  next_if h.update.fwFlip.log.next h.next

theorem State.wf.swapFails (h : s.wf) {started : Bool} : (s.swapFails started).wf :=
  (wf_if h.fwFlip h).setB.setB.update.fwEnds.event.latch.showPermit.safePacket

theorem execFwSwapTimeout_wf (h : s.wf) : afterNext State.wf (execFwSwapTimeout s) := by
  unfold execFwSwapTimeout
  split
  · exact h.swapFails.next
  · exact h.swapFails.next
  · exact h.next

theorem State.wf.fwRaiseMin (h : s.wf) {src : ℕ} : (s.fwRaiseMin src).wf :=
  wf_if h.bootRefuse (wf_if h.bootRefuse h.blockWrite.event)

theorem execFwRaiseMin_wf (h : s.wf) {src : Port} : afterNext State.wf (execFwRaiseMin src s) := h.fwRaiseMin.next

/-! ## The ledger (Ledger) -/

theorem State.wf.loadBootp (h : s.wf) : s.loadBootp.wf := by
  unfold State.loadBootp
  split
  · exact wf_if h.setReg.setReg.setF h
  · exact h

theorem State.wf.wearSpan (h : s.wf) {a n : ℕ} : (s.wearSpan a n).wf := h.update
theorem State.wf.bootpDone (h : s.wf) : s.bootpDone.wf := h.blockWrite.update.wearSpan.setReg

theorem State.wf.putResults (h : s.wf) {item : ℕ} {ws : Cells 32} : (s.putResults item ws).wf :=
  wf_foldl (fun _ _ h1 => h1.setReg) h

theorem State.wf.loadCalItem (h : s.wf) {item : ℕ} : (s.loadCalItem item).wf := by
  unfold State.loadCalItem
  split
  · exact h
  · exact wf_foldl (fun _ _ h1 => h1.judgePairs) h.setF.setReg.setF.setF.putResults

theorem State.wf.loadCal (h : s.wf) : s.loadCal.wf := (wf_foldl (fun _ _ h1 => h1.loadCalItem) h).eventIf.updateCrc
theorem State.wf.calStored (h : s.wf) {items : List ℕ} : (s.calStored items).wf := h.blockWrite
theorem State.wf.ledgerQueue (h : s.wf) {op : LedgerOp} : (s.ledgerQueue op).wf := h.update.setB

theorem State.wf.ledgerCmd (h : s.wf) {src cmd : ℕ} : (s.ledgerCmd src cmd).wf :=
  wf_if h (wf_if h.err (wf_if h.err h.ledgerQueue))

theorem execLedgerWriteBootp_wf (h : s.wf) {src : Port} : afterNext State.wf (execLedgerWriteBootp src s) :=
  h.ledgerCmd.next

theorem execLedgerStoreCal_wf (h : s.wf) {src : Port} : afterNext State.wf (execLedgerStoreCal src s) :=
  h.ledgerCmd.next

theorem execLedgerWriteDone_wf (h : s.wf) : afterNext State.wf (execLedgerWriteDone s) := by
  unfold execLedgerWriteDone
  split
  · exact h.next
  · extract_lets s1
    have h1 : s1.wf := by
      unfold s1
      split
      · exact h.bootpDone
      · exact h.calStored
    exact h1.update.setB.event.next

theorem State.wf.ledgerCheck (h : s.wf) {a b : Bool} : (s.ledgerCheck a b).wf :=
  h.ledgerScan.ledgerScan.ledgerScan.setB.setB.setF

theorem State.wf.wrFree (h : s.wf) {a : ℕ} : (s.wrFree a).wf := h.takeFree.wr

theorem State.wf.ledgerCut (h : s.wf) : s.ledgerCut.wf := by
  unfold State.ledgerCut
  extract_lets
  split
  · exact (wf_foldl (fun _ _ h1 => h1.wrFree) h.update).update
  · exact h.update.update

/-! ## Power states (Power) -/

theorem State.wf.enter (h : s.wf) {p : PState} : (s.enter p).wf := (wf_if h.setReg h).update.eventIf
theorem State.wf.stopEmission (h : s.wf) : s.stopEmission.wf := h.dropFire.update

theorem State.wf.endKit (h : s.wf) {n : ℕ} : (s.endKit n).wf :=
  wf_if h (wf_if h.abandonCal.decideMove h.abandonKit.setKit)

theorem State.wf.restoreCells (h : s.wf) {i cells : ℕ} : (s.restoreCells i cells).wf := h.setF.update.incF

theorem State.wf.abandonCals (h : s.wf) : s.abandonCals.wf := by
  unfold State.abandonCals
  extract_lets _ s1
  have h1 : s1.wf := wf_foldl (fun _ _ h2 => h2.restoreCells) (wf_foldl (fun _ _ h3 => h3.endKit) h)
  split
  · exact h1
  · exact wf_if h1.abandonAdcCal.freeSpare h1.abandonAdcCal.returnBus

theorem State.wf.histLost (h : s.wf) : s.histLost.wf := h.loseRegion.update

theorem State.wf.domainLoss (h : s.wf) {d : ℕ} : (s.domainLoss d).wf := by
  unfold State.domainLoss
  split
  · exact h.stopEmission.update
  · exact h.update
  · exact h.acqLost
  · exact h.histLost.update
  · exact h.i2cReleaseAll.camLost.idleCommits
  · exact h.loseRegion
  · exact h

theorem State.wf.discardLow (h : s.wf) : s.discardLow.wf := h.update.addF.addF.eventIf.eventIf

theorem State.wf.sendAll (h : s.wf) {c n : ℕ} : (s.sendAll c n).wf := by
  induction n generalizing s with
  | zero => exact h
  | succ n ih => exact ih h.sendHead

theorem State.wf.blockAck (h : s.wf) {p : ℕ} : (s.blockAck p).wf :=
  wf_if h.ldbDisable (wf_if h.closeFrame (wf_if h.frameStandby (wf_if (wf_if h.sendAll.sendAll h).discardLow h)))

theorem State.wf.blockDiscard (h : s.wf) {p : ℕ} : (s.blockDiscard p).wf := wf_if h.update h

theorem State.wf.recordEntry (h : s.wf) {result cause page : ℕ} : (s.recordEntry result cause page).wf :=
  h.setF.setF.setF.setF

theorem State.wf.refuseReq (h : s.wf) {cause : ℕ} : (s.refuseReq cause).wf := h.setF.setF.setF
theorem State.wf.recordFold (h : s.wf) {code detail : ℕ} : (s.recordFold code detail).wf := h.setF.setF.setF.update
theorem State.wf.foldLanes (h : s.wf) : s.foldLanes.wf := wf_if h.elecIdle (wf_if h.bringUp h)

theorem State.wf.enterFold (h : s.wf) {code detail : ℕ} : (s.enterFold code detail).wf := by
  unfold State.enterFold
  refine wf_if h (wf_if (wf_if h.recordFold h) ?_)
  extract_lets _ _ s1 s2
  have h1 : s1.wf := h.update.recordFold.setF
  have h2 : s2.wf := h1.ldbDisable.lockClose.abandonChange.safeFold.i2cReleaseAll.foldLanes.histLost
  exact h2.update.enter.settle.stopEmission

theorem zero_lt_timeModulus : 0 < timeModulus := by decide

/-- A ledger word reads the same after the other memories have lost their contents. -/
theorem memDefault_ledger {l l' : Lost} {a : ℕ} (ha : memRegion a = 5) (hb : l'.blocks = l.blocks) :
    memDefault l' a = memDefault l a := by
  refine memDefault_congr (fun _ => hb) ?_ (fun hq => ?_) fun hr => ?_
  · simp [Lost.count, ha]
  · simp [queuePlace, ha] at hq
  · simp [ha] at hr

theorem State.wf.powerUpEntry (h : s.wf) {phase : ℕ} {held : Bool} : (s.powerUpEntry phase held).wf := by
  unfold State.powerUpEntry
  extract_lets r _ _ _ _ t u
  have ht : t.wf := by
    obtain ⟨_, _, hmem, htime⟩ := h
    exact ⟨rfl, rfl, Cells.wf_filter_of hmem _ fun e _ hp => memDefault_ledger (by simpa using hp) rfl, htime⟩
  have hu : u.wf := ht.setReg
  exact wf_if hu.loadBootp hu

theorem State.wf.readyEntry (h : s.wf) : s.readyEntry.wf :=
  wf_foldl (fun _ _ h1 => h1.i2cNext) h.update.enter.recordEntry.ldbStart.bringUp.settle

theorem execPorRelease_wf (h : s.wf) : afterNext State.wf (execPorRelease s) := by
  unfold execPorRelease
  refine next_if h.next ?_
  extract_lets _ s1 _ t
  have h1 : s1.wf := h.update
  have ht : t.wf := Canon.withTime h1.powerUpEntry zero_lt_timeModulus
  exact ht.setReg.update.next

theorem State.wf.keepBlock (h : s.wf) : s.keepBlock.wf := h.update

theorem execPorLoss_wf (h : s.wf) : afterNext State.wf (execPorLoss s) := by
  unfold execPorLoss
  extract_lets _ s1 _ t
  have h1 : s1.wf := h.update
  have ht : t.wf := Canon.withTime h1.keepBlock.ledgerCut.powerUpEntry zero_lt_timeModulus
  exact ht.setReg.update.next

theorem execNresetFall_wf (h : s.wf) : afterNext State.wf (execNresetFall s) :=
  next_if h.update.next h.ledgerCut.powerUpEntry.next

theorem execNresetRise_wf (h : s.wf) : afterNext State.wf (execNresetRise s) := next_if h.update.next h.update.next
theorem execPgWaitEnd_wf (h : s.wf) : afterNext State.wf (execPgWaitEnd s) := next_if h.next h.loadBootp.update.next

theorem execPgTimeout_wf (h : s.wf) {core ana io : Bool} : afterNext State.wf (execPgTimeout core ana io s) :=
  next_if h.next (next_if h.update.enterFold.next (next_if h.update.enterFold.next (next_if h.update.enterFold.next
    h.update.takeFree.enterFold.next)))

theorem execPgLowInOperation_wf (h : s.wf) {input : PgInput} : afterNext State.wf (execPgLowInOperation input s) :=
  next_if h.update.enterFold.next h.update.next

theorem execRefclkPresent_wf (h : s.wf) {a b : Bool} : afterNext State.wf (execRefclkPresent a b s) :=
  next_if h.next (next_if (wf_if (wf_if h.setB h).setB (wf_if h.setB h)).setF.eventIf.update.next
    (wf_if (wf_if h.setB h).setB (wf_if h.setB h)).next)

theorem execRefclkSearchTimeout_wf (h : s.wf) : afterNext State.wf (execRefclkSearchTimeout s) :=
  next_if h.enterFold.next h.next

theorem execPllLock_wf (h : s.wf) : afterNext State.wf (execPllLock s) := next_if h.next h.setB.update.govSpent.next

theorem execPllLockTimeout_wf (h : s.wf) : afterNext State.wf (execPllLockTimeout s) :=
  next_if h.enterFold.next h.next

theorem execSelftestTimeout_wf (h : s.wf) : afterNext State.wf (execSelftestTimeout s) :=
  next_if h.enterFold.next h.next

theorem State.wf.exitFromStep2 (h : s.wf) : s.exitFromStep2.wf := h.update

theorem execAutomaticRetry_wf (h : s.wf) : afterNext State.wf (execAutomaticRetry s) :=
  next_if h.next (next_if h.addF.update.exitFromStep2.next h.addF.update.powerUpEntry.update.next)

theorem State.wf.bootRestart (h : s.wf) {src : ℕ} : (s.bootRestart src).wf :=
  wf_if h.ledgerCut.powerUpEntry.update h.err

theorem execBootCmdRestart_wf (h : s.wf) {src : Port} : afterNext State.wf (execBootCmdRestart src s) :=
  h.bootRestart.next

theorem State.wf.bootFold (h : s.wf) {src : ℕ} : (s.bootFold src).wf := wf_if h.enterFold h.err
theorem execBootCmdFold_wf (h : s.wf) {src : Port} : afterNext State.wf (execBootCmdFold src s) := h.bootFold.next

theorem State.wf.resumeBlocks (h : s.wf) {k : Shake} : (s.resumeBlocks k).wf :=
  (wf_if h.update.ldbStart h.update).settle

theorem State.wf.abandonEntry (h : s.wf) : s.abandonEntry.wf := by
  unfold State.abandonEntry
  split
  · exact h.resumeBlocks.recordEntry
  · exact h

theorem State.wf.exitStart (h : s.wf) {src : ℕ} : (s.exitStart src).wf := h.setF.update.exitFromStep2
theorem State.wf.wakeWaiting (h : s.wf) : s.wakeWaiting.wf := wf_foldl (fun _ _ h1 => h1.accessWake) h.update

theorem State.wf.wake (h : s.wf) {src : ℕ} {level : Bool} : (s.wake src level).wf := by
  unfold State.wake
  split
  · exact wf_if h.abandonEntry (wf_if h.setB h.update)
  · exact wf_if h.exitStart h

theorem State.wf.levelWake (h : s.wf) : s.levelWake.wf := wf_if h.wake h

theorem State.wf.reqReady (h : s.wf) : s.reqReady.wf := by
  unfold State.reqReady
  refine wf_if h.wake ?_
  split
  · exact h.update
  · exact h.update
  · exact h.wake
  · exact h.refuseReq

theorem execPwrReqReady_wf (h : s.wf) : afterNext State.wf (execPwrReqReady s) := h.reqReady.next
theorem State.wf.acceptRun (h : s.wf) : s.acceptRun.wf := wf_if h.refuseReq (wf_if h.refuseReq h.update)

theorem State.wf.reqRun (h : s.wf) : s.reqRun.wf := by
  unfold State.reqRun
  refine wf_if (wf_if h.wake.update (wf_if h.wake.acceptRun h.wake)) ?_
  split
  · exact h.acceptRun
  · exact h.update
  · exact h.wake.update
  · exact h.refuseReq

theorem execPwrReqRun_wf (h : s.wf) : afterNext State.wf (execPwrReqRun s) := h.reqRun.next

theorem State.wf.reqStandby (h : s.wf) : s.reqStandby.wf :=
  wf_if h.refuseReq (wf_if h.refuseReq h.dropFire.abandonCals.update.settle)

theorem execPwrReqStandby_wf (h : s.wf) : afterNext State.wf (execPwrReqStandby s) := h.reqStandby.next
theorem State.wf.putShake (h : s.wf) {old new : Shake} : (s.putShake old new).wf := h.update

theorem State.wf.moverAbort (h : s.wf) {p : ℕ} {aborted : Option (BitVec 24)} : (s.moverAbort p aborted).wf := by
  unfold State.moverAbort
  split
  · exact h
  · exact wf_if h.update.setB h.update

theorem State.wf.shakeStep (h : s.wf) {k : Shake} {p : ℕ} {forced : Bool} {aborted : Option (BitVec 24)} :
    (s.shakeStep k p forced aborted).wf :=
  h.moverAbort.blockAck.putShake

theorem execStandbyBlockAnswer_wf (h : s.wf) {page : Fin 256} {aborted : Option (BitVec 24)} :
    afterNext State.wf (execStandbyBlockAnswer page aborted s) := by
  unfold execStandbyBlockAnswer
  split
  · exact h.next
  · exact next_if h.resumeBlocks.setF.setF.setF.next h.shakeStep.next

theorem execStandbyBlockForced_wf (h : s.wf) {page : Fin 256} {aborted : Option (BitVec 24)} :
    afterNext State.wf (execStandbyBlockForced page aborted s) := by
  unfold execStandbyBlockForced
  split
  · exact h.next
  · exact h.blockDiscard.shakeStep.next

theorem State.wf.cleared (h : s.wf) {d : ℕ} : (s.cleared d).wf := wf_if h.setDom h

theorem execStandbySwitchOffDone_wf (h : s.wf) : afterNext State.wf (execStandbySwitchOffDone s) := by
  unfold execStandbySwitchOffDone
  split
  · exact h.next
  · extract_lets _ _ s1
    have h1 : s1.wf := wf_foldl (fun _ _ h2 => h2.setDom.domainLoss) h.update
    refine next_if ?_ (wf_foldl (fun _ _ h3 => h3.cleared) (wf_if h1.recordEntry h1)).wakeWaiting.next
    extract_lets s4
    have h4 : s4.wf := h1.elecIdle.enter.settle.stopEmission.recordEntry
    exact next_if h4.update.exitStart.next h4.update.wakeWaiting.next

theorem State.wf.shakeDomain (h : s.wf) {d : ℕ} : (s.shakeDomain d).wf := wf_if h h.update.settle

theorem State.wf.switchOn (h : s.wf) {d : ℕ} : (s.switchOn d).wf := by
  unfold State.switchOn
  split
  · exact h.resumeBlocks
  · exact wf_if h.setDom h

theorem State.wf.writeOffReq (h : s.wf) {d : ℕ} {b : Bool} : (s.writeOffReq d b).wf :=
  wf_if h (wf_if h.refuseReq (wf_if (wf_if h.setF.shakeDomain h.setF.switchOn) h.setF))

theorem State.wf.writeOffReqs (h : s.wf) {t : OffReq} : (s.writeOffReqs t).wf := by
  unfold State.writeOffReqs
  split
  · exact wf_foldl (fun _ _ h1 => h1.writeOffReq) h
  · exact wf_if h.writeOffReq h

theorem execDomainOffReqWrite_wf (h : s.wf) {target : OffReq} :
    afterNext State.wf (execDomainOffReqWrite target s) :=
  h.writeOffReqs.next

theorem execWakePinEvent_wf (h : s.wf) {high : Bool} : afterNext State.wf (execWakePinEvent high s) :=
  next_if h.update.wake.next h.update.next

theorem execRxActivity_wf (h : s.wf) {lane : RxLane} : afterNext State.wf (execRxActivity lane s) :=
  next_if h.next (next_if h.update.wake.next h.update.next)

theorem execSpiCsFall_wf (h : s.wf) {sckHigh : Bool} : afterNext State.wf (execSpiCsFall sckHigh s) :=
  next_if h.next (next_if h.update.wake.next h.update.next)

theorem State.wf.domainUp (h : s.wf) {d : ℕ} : (s.domainUp d).wf := by
  unfold State.domainUp
  split
  · exact wf_if h.govSpent.ldbStart.settle h.govSpent
  · exact wf_if h.startRings h
  · exact h.update.showZones
  · exact h

theorem State.wf.domainReady (h : s.wf) {d : ℕ} : (s.domainReady d).wf :=
  wf_if h (wf_if h.setDom.domainUp.update (wf_if h.setDom.domainUp.shakeDomain h.setDom.domainUp))

theorem execDomainWakeTimeout_wf (h : s.wf) {d : Fin 9} : afterNext State.wf (execDomainWakeTimeout d s) :=
  next_if h.enterFold.next h.next

theorem execAccessIdleTimeout_wf (h : s.wf) {d : Fin 9} : afterNext State.wf (execAccessIdleTimeout d s) :=
  next_if h.shakeDomain.next h.next

theorem execDroopOnset_wf (h : s.wf) {sensors : BitVec 8} : afterNext State.wf (execDroopOnset sensors s) :=
  next_if h.next (next_if h.setF.next h.setF.setB.incF.update.next)

theorem execDroopRecovery_wf (h : s.wf) : afterNext State.wf (execDroopRecovery s) := by
  unfold execDroopRecovery
  split
  · exact h.next
  · exact h.setF.setB.setB.maxF.update.next

theorem execDroopHandsHeld_wf (h : s.wf) : afterNext State.wf (execDroopHandsHeld s) := next_if h.setB.next h.next
theorem State.wf.droopLongEvent (h : s.wf) : s.droopLongEvent.wf := h.update.event
theorem execDroopLong_wf (h : s.wf) : afterNext State.wf (execDroopLong s) := next_if h.droopLongEvent.next h.next
theorem State.wf.droopClr (h : s.wf) : s.droopClr.wf := h.clearFs
theorem execClkDroopClr_wf (h : s.wf) : afterNext State.wf (execClkDroopClr s) := h.droopClr.next

theorem State.wf.timeCmd (h : s.wf) {cmd : ℕ} : (s.timeCmd cmd).wf := by
  unfold State.timeCmd
  split
  · exact h.setTime
  · exact h.update
  · exact h.setTime
  · exact h

theorem execTimeCmdSet_wf (h : s.wf) : afterNext State.wf (execTimeCmdSet s) := h.timeCmd.next
theorem execTimeCmdSetAtSync_wf (h : s.wf) : afterNext State.wf (execTimeCmdSetAtSync s) := h.timeCmd.next
theorem execTimeCmdOffset_wf (h : s.wf) : afterNext State.wf (execTimeCmdOffset s) := h.timeCmd.next

/-! ## Reference clocks (Clock) -/

theorem State.wf.refLost (h : s.wf) : s.refLost.wf := wf_if h h.setB.setB.setB.update.event
theorem execRefclkLost_wf (h : s.wf) : afterNext State.wf (execRefclkLost s) := h.refLost.next
theorem State.wf.refSwitched (h : s.wf) {i t0 : ℕ} : (s.refSwitched i t0).wf := wf_if h h.setF.incF.setF.event

theorem execPllRelock_wf (h : s.wf) {toB : Bool} : afterNext State.wf (execPllRelock toB s) := by
  unfold execPllRelock
  extract_lets
  split
  · exact next_if h.next h.update.setB.setB.refSwitched.next
  · exact next_if h.next h.update.refSwitched.next
  · exact h.next

theorem execHoldoverExpired_wf (h : s.wf) : afterNext State.wf (execHoldoverExpired s) :=
  next_if h.next h.update.setB.enterFold.foldLanes.next

theorem State.wf.prefWritten (h : s.wf) : s.prefWritten.wf := wf_if h.update h

theorem execClkPrefWrite_wf (h : s.wf) {pref : Bool} : afterNext State.wf (execClkPrefWrite pref s) :=
  h.setB.prefWritten.next

theorem execRefclkInactiveLost_wf (h : s.wf) : afterNext State.wf (execRefclkInactiveLost s) :=
  next_if h.next h.setB.update.next

/-! ## Calibration (Calibration) -/

theorem State.wf.calShow (h : s.wf) {item element : ℕ} : (s.calShow item element).wf := h.setF.setF
theorem State.wf.calStore (h : s.wf) {item : ℕ} : (s.calStore item).wf := wf_if h h.update.ledgerQueue
theorem State.wf.calCount (h : s.wf) {item : ℕ} : (s.calCount item).wf := h.setF.setF.setF

theorem State.wf.calElementDone (h : s.wf) {item element : ℕ} {ok : Bool} : (s.calElementDone item element ok).wf :=
  wf_if (wf_if h.calCount h.event).update.event.calStore (wf_if h.calCount h.event).update

theorem State.wf.calTdcStart (h : s.wf) {c : ℕ} : (s.calTdcStart c).wf := by
  unfold State.calTdcStart
  split
  · exact h
  · exact wf_if h h.setKit.decideMove.calShow.update

theorem State.wf.calTdcDone (h : s.wf) {c lo hi : ℕ} {cs : List ℤ} : (s.calTdcDone c lo hi cs).wf :=
  wf_if h (wf_if h.update.setReg.setReg.setReg.decideMove.calElementDone h.update.ownFails.calElementDone)

theorem execTdcCalMeasureDone_wf (h : s.wf) {channel : Fin 384} {lo hi : Fin 1024} {corrections : List ℤ} :
    afterNext State.wf (execTdcCalMeasureDone channel lo hi corrections s) :=
  h.calTdcDone.next

theorem State.wf.calKittyStart (h : s.wf) {n : ℕ} : (s.calKittyStart n).wf := wf_if h h.setKit.calShow.update

theorem State.wf.calKittyDone (h : s.wf) {n lo hi : ℕ} {cs xofs : List ℤ} : (s.calKittyDone n lo hi cs xofs).wf :=
  wf_if h (wf_if h.update.setReg.setReg.setReg.setReg.setReg.setKit.calElementDone h.update.setKit.calElementDone)

theorem execKittyCalDone_wf (h : s.wf) {kitty : Fin 16} {lo hi : Fin 1024} {corrections xofs : List ℤ} :
    afterNext State.wf (execKittyCalDone kitty lo hi corrections xofs s) :=
  h.calKittyDone.next

theorem State.wf.calDllStart (h : s.wf) {i : ℕ} : (s.calDllStart i).wf := wf_if h h.setB.calShow.update

theorem State.wf.calDllDone (h : s.wf) {k : ℕ} {matched : Bool} {cells : ℕ} :
    (s.calDllDone k matched cells).wf := by
  unfold State.calDllDone
  split
  · exact h
  · exact wf_if h.restoreCells (wf_if h.update.setF.setB.setF.calElementDone h.update.setF.setB.calElementDone)

theorem execDllCalDone_wf (h : s.wf) {page : Fin 8} {matched : Bool} {cells : BitVec 10} :
    afterNext State.wf (execDllCalDone page matched cells s) :=
  h.calDllDone.next

theorem State.wf.calAfeStart (h : s.wf) {r : ℕ} : (s.calAfeStart r).wf := by
  unfold State.calAfeStart
  refine wf_if h ?_
  extract_lets
  split
  · exact h.setB.calShow.update.updSum
  · exact h.setB.calShow.update

theorem State.wf.putPair (h : s.wf) {pair ofs : Fld} {best : Option (ℕ × ℤ)} : (s.putPair pair ofs best).wf := by
  unfold State.putPair
  split
  · exact h.setF.setI
  · exact h.takeFree.takeFree.setF.setF

theorem State.wf.calAfeDone (h : s.wf) {r : ℕ} {offsets : List (ℤ × ℤ)} : (s.calAfeDone r offsets).wf :=
  wf_if h (wf_if h.update.setF.putPair.putPair.judgePairs h.update.setF.putPair.putPair).calElementDone

theorem execAfeCalDone_wf (h : s.wf) {input : Fin 384} {offsets : List (ℤ × ℤ)} :
    afterNext State.wf (execAfeCalDone input offsets s) :=
  h.calAfeDone.next

theorem State.wf.afeBoundary (h : s.wf) : s.afeBoundary.wf := (wf_foldl (fun _ _ h1 => h1.setB) h).update

theorem State.wf.calAdcStart (h : s.wf) {a : ℕ} : (s.calAdcStart a).wf :=
  wf_if h (wf_if h.update.calShow h.update.calShow.setSpare.beginHandover)

theorem State.wf.calAdcDone (h : s.wf) {a offset gain : ℕ} : (s.calAdcDone a offset gain).wf :=
  wf_if h (wf_if h.update.setF.setF h.update.setF.setF.returnBus).calElementDone

theorem execAdcCalDone_wf (h : s.wf) {adc : Fin 9} {offset gain : BitVec 16} :
    afterNext State.wf (execAdcCalDone adc offset gain s) :=
  h.calAdcDone.next

theorem State.wf.calDummyStart (h : s.wf) : s.calDummyStart.wf := by
  unfold State.calDummyStart
  split
  · exact h
  · exact wf_if h h.setKit.calShow.update

theorem execDummyD0Done_wf (h : s.wf) {d0 : BitVec 16} : afterNext State.wf (execDummyD0Done d0 s) := by
  unfold execDummyD0Done
  split
  · exact h.next
  · exact h.update.setF.setKit.calElementDone.next

theorem execCalItemStart_wf (h : s.wf) {item : Fin 6} {element : Fin 384} :
    afterNext State.wf (execCalItemStart item element s) := by
  unfold execCalItemStart
  refine next_if h.next (.next ?_)
  split
  · exact h.calTdcStart
  · exact wf_if h.calKittyStart h
  · exact h.calDllStart
  · exact h.calAfeStart
  · exact h.calAdcStart
  · exact h.calDummyStart

theorem State.wf.eolCmd (h : s.wf) {src : ℕ} {go apply_ : Bool} : (s.eolCmd src go apply_).wf :=
  wf_if h (wf_if h.update.setB h.err)

theorem execEolGo_wf (h : s.wf) {src : Port} {apply_ : Bool} : afterNext State.wf (execEolGo src apply_ s) :=
  h.eolCmd.next

theorem State.wf.eolWrite (h : s.wf) {c : ℕ} {v : Option ℤ} : (s.eolWrite c v).wf := by
  unfold State.eolWrite
  split
  next _ t e =>
  have ht : t.wf := by
    revert e
    split
    · rintro ⟨⟩; exact h
    · rintro ⟨⟩; exact h.update
  exact wf_if ht ht.setF.coveredWritten

theorem State.wf.eolEnd (h : s.wf) : s.eolEnd.wf := by
  unfold State.eolEnd
  split
  · exact h
  · exact (wf_if (wf_foldl (fun _ _ h1 => h1.eolWrite) (wf_foldl (fun _ _ h2 => h2.setReg) h).setF.setF.setB.setF)
      (wf_foldl (fun _ _ h2 => h2.setReg) h).setF.setF.setB.setF).update.calCount.calStore.event

theorem execEolRunEnd_wf (h : s.wf) : afterNext State.wf (execEolRunEnd s) := h.eolEnd.next

/-! ## Housekeeping (Housekeeping) -/

theorem State.wf.putSlot (h : s.wf) {n v : ℕ} {suspect : Bool} : (s.putSlot n v suspect).wf := h.setF.setB

theorem State.wf.slotTemp (h : s.wf) {t : Option ℤ} : (s.slotTemp t).1.wf := by
  unfold State.slotTemp
  split
  · exact h
  · exact h.takeFree

theorem State.wf.remoteSuspect (h : s.wf) {bit : ℕ} {b : Bool} : (s.remoteSuspect bit b).wf := h.setF.eventIf

theorem State.wf.readDiode (h : s.wf) {n : ℕ} {v : ℕ × ℕ} : (s.readDiode n v).wf :=
  h.slotTemp.takeFree.putSlot.putSlot.remoteSuspect

theorem State.wf.readTherm (h : s.wf) {n v : ℕ} : (s.readTherm n v).wf := h.slotTemp.putSlot.remoteSuspect

theorem State.wf.readSupply (h : s.wf) {n v : ℕ} : (s.readSupply n v).wf :=
  wf_if (wf_if h.putSlot.setF h.putSlot).setF (wf_if h.putSlot.setF h.putSlot)

theorem State.wf.readmit (h : s.wf) {k : ℕ} {bad : Bool} : (s.readmit k bad).wf :=
  wf_if h (wf_if h.update h.update.setF)

theorem State.wf.exclude (h : s.wf) {k : ℕ} : (s.exclude k).wf := wf_if h (wf_if h.update.setF.event h.setF)

theorem State.wf.checkDie (h : s.wf) {a b : List ℤ} : (s.checkDie a b).wf :=
  wf_foldl (fun _ _ h1 => h1.exclude) (wf_foldl (fun _ _ h2 => h2.readmit) h.setF)

theorem State.wf.readDie (h : s.wf) {first : ℕ} {l : List ℤ} : (s.readDie first l).wf :=
  wf_foldl (fun _ _ h1 => h1.putSlot) h

theorem State.wf.setThermal (h : s.wf) {laser : Bool} {t : Thermal} : (s.setThermal laser t).wf :=
  h.update.setF.setB.eventIf

theorem State.wf.thermalValue (h : s.wf) {laser : Bool} {v : ℤ} : (s.thermalValue laser v).wf :=
  wf_if h.setF.eventIf.setThermal.event.hazard h.setF.eventIf.setThermal

theorem State.wf.laserShut (h : s.wf) : s.laserShut.wf := wf_if h.update.enterFold h.update
theorem State.wf.hkPacket (h : s.wf) : s.hkPacket.wf := wf_if h h.sendPacket

theorem State.wf.hkRound (h : s.wf) {r : HkRaw} : (s.hkRound r).wf := by
  unfold State.hkRound
  extract_lets _ _ _ s1 s2 s3 s4 s5
  have h1 : s1.wf := h.update.checkDie.readDie.readDie
  have h2 : s2.wf := wf_foldl (fun _ _ h => h.readDiode) h1
  have h3 : s3.wf := wf_foldl (fun _ _ h => h.readTherm) h2
  have h4 : s4.wf := wf_foldl (fun _ _ h => h.readSupply) h3
  have h5 : s5.wf := wf_foldl (fun _ _ h => h.putSlot) h4
  exact h5.putSlot.putSlot.putSlot.putSlot.setI.setI.thermalValue.thermalValue.thermalValue.hkPacket.laserShut

theorem execHkRound_wf (h : s.wf) {raw : HkRaw} : afterNext State.wf (execHkRound raw s) :=
  next_if h.hkRound.next h.next

theorem State.wf.graceEnds (h : s.wf) {laser : Bool} : (s.graceEnds laser).wf := by
  unfold State.graceEnds
  extract_lets
  split
  · exact h
  · exact h.setThermal.eventIf
  · exact h.setThermal

theorem execThermalGraceExpiry_wf (h : s.wf) {laser : Bool} : afterNext State.wf (execThermalGraceExpiry laser s) :=
  h.graceEnds.next

theorem State.wf.scaleBoundary (h : s.wf) : s.scaleBoundary.wf := h.setF

theorem execDieShutComparator_wf (h : s.wf) {sensors : BitVec 8} :
    afterNext State.wf (execDieShutComparator sensors s) :=
  next_if h.next h.enterFold.next

theorem State.wf.hkCntClr (h : s.wf) : s.hkCntClr.wf := wf_foldl (fun _ _ h1 => h1.setReg) h
theorem execHkCntClr_wf (h : s.wf) : afterNext State.wf (execHkCntClr s) := h.hkCntClr.next

/-! ## Configuration images put to use (Change) -/

theorem State.wf.putOffReq (h : s.wf) {a : ℕ} {v : Word} : (s.putOffReq a v).wf := wf_if h h.setF
theorem State.wf.putShadowWord (h : s.wf) {a : ℕ} {v : Word} : (s.putShadowWord a v).wf := h.setShad

theorem State.wf.putRegister (h : s.wf) {a : ℕ} {v : Word} : (s.putRegister a v).wf :=
  wf_if h.putOffReq h.setReg.putShadowWord

theorem State.wf.storedWritten (h : s.wf) {a : ℕ} {before : Word} : (s.storedWritten a before).wf :=
  wf_if h (wf_if (wf_if h.summaryRose h) (wf_if h.levelDue (wf_if h.prefWritten h)))

theorem State.wf.writeStored (h : s.wf) {src a : ℕ} {v : Word} : (s.writeStored src a v).wf :=
  wf_if (wf_if h.writeOffReq h) (wf_if h.writeOffReqs (wf_if h.ownerWrite (wf_if h.writeRingRd
    h.setReg.storedWritten)))

theorem State.wf.loadFrames (h : s.wf) {ws : List (ℕ × Word36)} : (s.loadFrames ws).wf :=
  wf_if h (wf_foldl (fun _ _ h1 => h1.wr) h).setF.setShad.setF

theorem State.wf.loadRecords (h : s.wf) {rs : List Record} : (s.loadRecords rs).wf := by
  unfold State.loadRecords
  extract_lets _ _ _ _ s1
  have h1 : s1.wf := wf_foldl (fun _ _ h2 => h2.wr)
    (wf_foldl (fun _ _ h3 => h3.putRegister.storedWritten) h).loadFrames
  exact (wf_foldl (fun _ _ h4 => h4.pageCommitted) (wf_if h1 h1.nextGeneration)).followPages

theorem State.wf.supvStarts (h : s.wf) : s.supvStarts.wf := h.setB.update.showPermit
theorem State.wf.loadRestart (h : s.wf) : s.loadRestart.wf := wf_if h.restartRequest h

theorem State.wf.configLoad (h : s.wf) : s.configLoad.wf := by
  unfold State.configLoad
  extract_lets
  split
  · exact h.cfgCheckAll.setF.loadCal.supvStarts.loadRestart.event
  · exact h.cfgCheckAll.setF.eventIf.loadRecords.loadCal.update.supvStarts.loadRestart.setMode

theorem State.wf.cfgActivate (h : s.wf) {src b : ℕ} : (s.cfgActivate src b).wf :=
  wf_if h.bootRefuse (wf_if h.bootRefuse h.setB.update)

theorem execCfgActivate_wf (h : s.wf) {src : Port} {boundary : Fin 4} :
    afterNext State.wf (execCfgActivate src boundary s) :=
  h.cfgActivate.next

theorem State.wf.forward (h : s.wf) {w : ℕ × Word36} : (s.forward w).wf := wf_if h.update h.writePlace0

theorem State.wf.changePost (h : s.wf) {b : ℕ} {held : List (ℕ × Word)} : (s.changePost b held).wf := by
  unfold State.changePost
  extract_lets _ _ s1
  have h1 : s1.wf := wf_if h h.setShad.shadowWritten
  split
  · exact h1.err.setF.cfgEnds
  · split
    · exact h1.globalCommit.setF.cfgEnds
    · exact (wf_foldl (fun _ _ h2 => h2.forward) h1.globalCommit).update

theorem State.wf.changeApply (h : s.wf) {b : ℕ} {rs : List Record} : (s.changeApply b rs).wf := by
  unfold State.changeApply
  extract_lets _ s1 _ _ _ _ s2
  have h1 : s1.wf := wf_foldl (fun _ _ h3 => wf_if h3 h3.putShadowWord.shadowWritten) h
  have h2 : s2.wf := (wf_foldl (fun _ _ h4 => h4.wr) h1).setHeld.ffLoad
  exact wf_if h1.changePost (wf_if h2.update h2.changePost)

theorem execCfgActivateCrcDone_wf (h : s.wf) : afterNext State.wf (execCfgActivateCrcDone s) := by
  unfold execCfgActivateCrcDone
  split
  · extract_lets n s1 rs s2
    have h2 : s2.wf := h.ledgerScan.setB
    clear_value s2 rs
    split
    · exact h2.cfgEnds.next
    · exact next_if h2.cfgEnds.next h2.changeApply.next
  · exact h.next

theorem execFfLoadDone_wf (h : s.wf) : afterNext State.wf (execFfLoadDone s) := by
  unfold execFfLoadDone
  refine next_if h.next ?_
  split
  rename_i s1 _ e1
  have h1 := wf_fst e1 h.ffLoadDone
  split
  · exact h1.changePost.next
  · exact h1.next

theorem State.wf.changeArmed (h : s.wf) : s.changeArmed.wf := by
  unfold State.changeArmed
  split
  · exact h.update
  · exact h

theorem State.wf.changeLatched (h : s.wf) : s.changeLatched.wf := by
  unfold State.changeLatched
  split
  · exact wf_if h.update h
  · exact h

theorem State.wf.changeDone (h : s.wf) {before : Word} : (s.changeDone before).wf := by
  unfold State.changeDone
  split
  · exact wf_if h (wf_foldl (fun _ _ h1 => h1.writeStored)
      h).updateCrc.setF.blockWrite.update.logAppend.cfgEnds.eolAbandon
  · exact h

/-! ## Register writes (Write) -/

theorem State.wf.intForce (h : s.wf) {src p bits : ℕ} : (s.intForce src p bits).wf :=
  wf_if h (wf_if h.setIntStat.errAt h.setIntStat)

theorem State.wf.intClear (h : s.wf) {p : ℕ} {v : Word} : (s.intClear p v).wf := (wf_if h.setReg h).setReg
theorem State.wf.errCountClear (h : s.wf) {p : ℕ} : (s.errCountClear p).wf := wf_if h.setReg h

theorem execIntForce_wf (h : s.wf) {src : Port} {page : Fin 256} {bits : BitVec 32} :
    afterNext State.wf (execIntForce src page bits s) :=
  h.intForce.next

theorem execErrCountClear_wf (h : s.wf) {page : Fin 256} : afterNext State.wf (execErrCountClear page s) :=
  h.errCountClear.next

theorem State.wf.setMerges (h : s.wf) {ms : List EvtMerge} : (s.setMerges ms).wf := h.update

theorem execEventPacketMergeEnd_wf (h : s.wf) {page : Fin 256} :
    afterNext State.wf (execEventPacketMergeEnd page s) := by
  unfold execEventPacketMergeEnd
  extract_lets
  split
  · exact h.next
  · split
    · exact h.setMerges.next
    · exact h.setMerges.intEventPacket.next

theorem State.wf.blockReset (h : s.wf) {p : ℕ} : (s.blockReset p).wf := by
  unfold State.blockReset
  refine wf_if h.update ?_
  split
  · exact h.i2cRelease.updPort
  · refine wf_if (wf_if h.update h) ?_
    split
    · exact h.update
    · exact h.update
    · exact h.abandonCals.eolAbandon.update
    · exact h.dropFire
    · exact h.update
    · exact h.update
    · exact h.flushBus
    · exact h.update
    · exact h.update
    · exact h.update
    · exact h.update
    · exact h.acqLost.update
    · exact h.update
    · exact h.update
    · exact h.update
    · exact h.update
    · exact h.update
    · exact h

theorem State.wf.clearRo (h : s.wf) {p : ℕ} : (s.clearRo p).wf := wf_foldl (fun _ _ h1 => h1.setReg) h

theorem State.wf.softReset (h : s.wf) {src p : ℕ} : (s.softReset src p).wf := by
  unfold State.softReset
  refine wf_if h (wf_if h.errAt ?_)
  extract_lets _ s1
  have h1 : s1.wf := wf_foldl (fun _ _ h2 => h2.setReg) h.clearRo.blockReset
  exact wf_if h1.emitCommitted.staticNow h1

theorem execSoftReset_wf (h : s.wf) {src : Port} {page : Fin 256} : afterNext State.wf (execSoftReset src page s) :=
  h.softReset.next

theorem State.wf.hostCntClr (h : s.wf) : s.hostCntClr.wf := h.setReg.setReg
theorem execHostCntClr_wf (h : s.wf) : afterNext State.wf (execHostCntClr s) := h.hostCntClr.next

theorem State.wf.onBit (h : s.wf) {d k : ℕ} {f : State → State} (hf : ∀ t, t.wf → (f t).wf) : (s.onBit d k f).wf :=
  wf_if (hf s h) h

theorem State.wf.pwrReq (h : s.wf) {v : ℕ} : (s.pwrReq v).wf := by
  unfold State.pwrReq
  split
  · exact h.reqReady
  · exact h.reqRun
  · exact h.reqStandby
  · exact h.refuseReq

theorem State.wf.bootCmd (h : s.wf) {src v : ℕ} : (s.bootCmd src v).wf :=
  wf_if h.bootRestart (wf_if h.bootFold h.err)

theorem State.wf.fwCmd (h : s.wf) {src v : ℕ} : (s.fwCmd src v).wf := by
  unfold State.fwCmd
  split
  · exact h.fwVerify
  · exact h.fwSwap
  · exact h.fwRaiseMin
  · exact h.err

theorem State.wf.cfgCmd (h : s.wf) {src d : ℕ} : (s.cfgCmd src d).wf := by
  unfold State.cfgCmd
  split
  · exact h.cfgStore
  · exact h.cfgActivate
  · exact h.cfgCheck
  · exact h.err

theorem State.wf.safeCmd (h : s.wf) {src v : ℕ} : (s.safeCmd src v).wf := by
  unfold State.safeCmd
  split
  · exact h.commission
  · exact h.lockClose
  · exact h.err

theorem State.wf.pwCtrl (h : s.wf) {src d : ℕ} : (s.pwCtrl src d).wf := by
  unfold State.pwCtrl
  split
  · exact h.pwOpen
  · exact h.pwSet
  · exact h.pwErase
  · exact wf_if h.err h

theorem State.wf.pwWord (h : s.wf) {src i d : ℕ} : (s.pwWord src i d).wf := wf_if h.err h.update
theorem State.wf.hazWrite (h : s.wf) {src : ℕ} : (s.hazWrite src).wf := h.takeFree.hazClr
theorem State.wf.txCtrl (h : s.wf) {src d : ℕ} : (s.txCtrl src d).wf := (h.onBit (fun _ h1 => h1.txForce)).txClr

theorem State.wf.injectWrite (h : s.wf) {d : ℕ} : (s.injectWrite d).wf :=
  (h.injectBit.onBit (fun _ h1 => h1.injectSyncErr)).onBit (fun _ h2 => h2.injectCrcErr)

theorem State.wf.acqCmd (h : s.wf) {src d : ℕ} : (s.acqCmd src d).wf :=
  ((h.onBit (fun _ h1 => h1.acqCntClr)).onBit (fun _ h2 => h2.acqArm)).onBit (fun _ h3 => h3.acqForce)

theorem State.wf.commandLow (h : s.wf) {src a d : ℕ} : (s.commandLow src a d).wf :=
  wf_if (h.onBit (fun _ h1 => h1.droopClr)) (wf_if h.pwrReq (wf_if h.bootCmd (wf_if h.fwCmd
    (wf_if h.cfgCmd (wf_if (h.onBit (fun _ h2 => h2.gcommitWrite))
    (wf_if (h.onBit (fun _ h3 => h3.hostCntClr)) (wf_if h.timeCmd
    (wf_if (h.onBit (fun _ h4 => h4.supvCntClr)) (wf_if h.confirm (wf_if h.safeCmd (wf_if h.pwWord
    (wf_if h.pwCtrl (wf_if (h.onBit (fun _ h5 => h5.safeCntClr)) (wf_if h.ledgerCmd
    (wf_if (h.onBit (fun _ h6 => h6.hkCntClr)) (wf_if h.eolCmd
    (wf_if (h.onBit (fun _ h7 => h7.bankCntClr)) (wf_if h.hostBid
    (wf_if (h.onBit (fun _ h8 => h8.dealCntClr)) (wf_if (h.onBit (fun _ h9 => h9.ffLoad))
    (wf_if (h.onBit (fun _ h10 => h10.emitCntClr)) (wf_if (h.onBit (fun _ h11 => h11.hazWrite))
    (wf_if ((h.onBit (fun _ h12 => h12.ldbCntClr)).onBit (fun _ h13 => h13.reenum))
    (wf_if (h.onBit (fun _ h14 => h14.steerCntClr)) h))))))))))))))))))))))))

theorem State.wf.commandHigh (h : s.wf) {src a d : ℕ} : (s.commandHigh src a d).wf :=
  wf_if (wf_if (h.onBit (fun _ h1 => h1.afeCntClr)) h)
    (wf_if (wf_if (h.onBit (fun _ h2 => h2.failClr)) (wf_if (h.onBit (fun _ h3 => h3.tdcCntClr)) h))
    (wf_if (wf_if (h.onBit (fun _ h4 => h4.camCntClr)) h) (wf_if (h.onBit (fun _ h5 => h5.kittyCntClr))
    (wf_if (h.onBit (fun _ h6 => h6.adcFailClr)) (wf_if (h.onBit (fun _ h7 => h7.adcCntClr))
    (wf_if h.acqCmd (wf_if (h.onBit (fun _ h8 => h8.histCntClr))
    (wf_if (h.onBit (fun _ h9 => h9.rejCntClr)) (wf_if (h.onBit (fun _ h10 => h10.pntCntClr))
    (wf_if (h.onBit (fun _ h11 => h11.zoneCntClr)) (wf_if h.txCtrl (wf_if h.injectWrite
    (wf_if (h.onBit (fun _ h12 => h12.tabCntClr)) h)))))))))))))

theorem State.wf.commands (h : s.wf) {src a d : ℕ} : (s.commands src a d).wf := by
  unfold State.commands
  extract_lets
  split
  · exact h.onBit (fun _ h1 => h1.softReset)
  · exact h.intForce
  · exact h.onBit (fun _ h2 => h2.errCountClear)
  · exact (h.onBit (fun _ h3 => h3.cancel)).onBit (fun _ h4 => h4.commitWrite)
  · exact wf_if h.commandLow h.commandHigh

theorem State.wf.clearBits (h : s.wf) {a : ℕ} {v : Word} : (s.clearBits a v).wf :=
  wf_if h (wf_if h.intClear (wf_if h.setReg.countMasked.maskDue h.setReg))

theorem State.wf.writeFields (h : s.wf) {src a : ℕ} {v : Word} : (s.writeFields src a v).wf :=
  (wf_if (wf_if h h.writeStored).clearBits (wf_if h h.writeStored).clearBits.setShad.shadowWritten).coveredWritten

theorem State.wf.writeWord (h : s.wf) {src a : ℕ} {v : Word} : (s.writeWord src a v).1.wf := by
  unfold State.writeWord
  refine wf_if_fst h ?_
  split
  · exact h.err
  · split
    · exact wf_if_fst h.i2cXfer h.writeFields.commands
    · exact h.writeFields.commands

theorem State.wf.writeRegister (h : s.wf) {src a : ℕ} {d : Word36} : (s.writeRegister src a d).1.wf :=
  wf_if_fst h (wf_if_fst h.incF.errAt h.writeWord)

theorem execRegisterWrite_wf (h : s.wf) {src : Port} {addr : BitVec 24} {data : BitVec 36} :
    afterNext State.wf (execRegisterWrite src addr data s) :=
  next_if h.writeRegister.next h.next

theorem execCommitRequest_wf (h : s.wf) {src : Port} {page : Fin 256} {boundary : Fin 4} :
    afterNext State.wf (execCommitRequest src page boundary s) :=
  h.commitWrite.next

theorem execCommitCancel_wf (h : s.wf) {x : Port} {page : Fin 256} :
    afterNext State.wf (execCommitCancel x page s) :=
  h.cancel.next

theorem execGlobalCommit_wf (h : s.wf) {src : Port} {boundary : Fin 4} :
    afterNext State.wf (execGlobalCommit src boundary s) :=
  h.gcommitWrite.next

/-! ## The host port (HostPort) -/

theorem State.wf.touchWord (h : s.wf) {src a : ℕ} : (s.touchWord src a).wf :=
  wf_if h.ledgerAccess (wf_if h.eccRead.errAt h.eccRead)

theorem State.wf.regionRefused (h : s.wf) {src r a : ℕ} : (s.regionRefused src r a).1.wf := h.errAt

theorem State.wf.aliasWrite (h : s.wf) {src a : ℕ} {set : Bool} {d : Word36} : (s.aliasWrite src a set d).1.wf :=
  wf_if_fst h.regionRefused (wf_if_fst h.bankRead.regionRefused h.bankRead.wr)

theorem State.wf.frameWrite (h : s.wf) {src a : ℕ} {d : Word36} : (s.frameWrite src a d).1.wf :=
  wf_if_fst h.regionRefused h.wr.setHeld

theorem State.wf.writeMemory (h : s.wf) {src a : ℕ} {d : Word36} : (s.writeMemory src a d).1.wf := by
  unfold State.writeMemory
  split
  · exact wf_if_fst h.writePlace0 h.regionRefused
  · exact h.frameWrite
  · exact wf_if_fst h.wr h.regionRefused
  · exact wf_if_fst h.wr h.regionRefused
  · refine wf_if_fst ?_ h.regionRefused
    split
    next t _ e => exact (wf_fst e h.slotWrite : t.wf)
  · exact h.aliasWrite
  · exact h.aliasWrite

theorem State.wf.writeWords (h : s.wf) {src a : ℕ} {ds : List Word36} : (s.writeWords src a ds).1.wf := by
  induction ds generalizing s a with
  | nil => exact h
  | cons d ds ih => exact wf_if_fst h (ih (wf_if_fst h.writeRegister h.writeMemory))

theorem State.wf.readWord (h : s.wf) {src a : ℕ} : (s.readWord src a).1.wf := wf_if_fst h h.touchWord

theorem State.wf.readWords (h : s.wf) {src a n : ℕ} : (s.readWords src a n).1.wf := by
  induction n generalizing s a with
  | zero => exact h
  | succ n ih => exact ih h.readWord

theorem State.wf.csRise (h : s.wf) : s.csRise.wf := h.update
theorem State.wf.spiStatus (h : s.wf) {st : ℕ} : (s.spiStatus st).wf := wf_if h h.setF
theorem State.wf.waits (h : s.wf) {a st : ℕ} : (s.waits a st).wf := wf_if h.accessWake h

theorem State.wf.spiWrite (h : s.wf) {cmd : BitVec 8} {addr : BitVec 24} {ws : List Word36} {crc : ℕ} :
    (s.spiWrite cmd addr ws crc).wf := by
  unfold State.spiWrite
  extract_lets
  split
  · exact (wf_if h h.incF).waits.spiStatus
  · exact wf_if (wf_if h h.incF).spiStatus (wf_if h h.incF).writeWords.spiStatus

theorem execSpiWriteFrame_wf (h : s.wf) {cmd : BitVec 8} {addr : BitVec 24} {words : List (BitVec 36)}
    {crc : Option (BitVec 8)} :
    afterNext State.wf (execSpiWriteFrame cmd addr words crc s) := by
  unfold execSpiWriteFrame
  refine next_if h.next ?_
  extract_lets s1
  have h1 : s1.wf := wf_if h.csRise.incF h.csRise
  split
  · exact h1.next
  · exact next_if h1.next h.spiWrite.csRise.next

theorem State.wf.spiReturn (h : s.wf) {cmd : BitVec 8} {addr : BitVec 24} {early st : ℕ} {ws : List Word36} :
    (s.spiReturn cmd addr early st ws).wf :=
  h.spiStatus.update

theorem State.wf.spiRead (h : s.wf) {cmd : BitVec 8} {addr : BitVec 24} {late : List ℕ} :
    (s.spiRead cmd addr late).wf := by
  unfold State.spiRead
  extract_lets
  split
  · exact h.waits.spiReturn
  · split
    next t _ e => exact (wf_fst e h.readWords).spiReturn

theorem execSpiReadFrame_wf (h : s.wf) {cmd : BitVec 8} {addr : BitVec 24} {late : List ℕ} :
    afterNext State.wf (execSpiReadFrame cmd addr late s) :=
  next_if h.next (next_if h.csRise.next h.spiRead.csRise.next)

theorem execSpiTimeout_wf (h : s.wf) : afterNext State.wf (execSpiTimeout s) := next_if h.next h.incF.update.next

theorem State.wf.ibRespond (h : s.wf) {r : IbRequest} {st done : ℕ} {data : List Word36} :
    (s.ibRespond r st done data).wf :=
  wf_if h (wf_if h.incF (wf_if h.incF (wf_if h.incF h))).setF.sendPacket

theorem State.wf.ibExecute (h : s.wf) {r : IbRequest} : (s.ibExecute r).wf :=
  wf_if h.readWords.ibRespond h.writeWords.ibRespond

theorem State.wf.ibServe (h : s.wf) {n : ℕ} : (s.ibServe n).wf := by
  induction n generalizing s with
  | zero => exact h
  | succ n ih =>
    unfold State.ibServe
    split
    · exact h
    · extract_lets
      split
      · exact ih h.update.ibRespond
      · exact wf_if h.accessWake (ih h.update.ibExecute)

theorem State.wf.serveInband (h : s.wf) : s.serveInband.wf := h.ibServe

theorem State.wf.ibArrive (h : s.wf) {rx : RxInfo} {r : IbRequest} : (s.ibArrive rx r).wf :=
  wf_if h.accept (wf_if h.accept.ibRespond h.accept.update.serveInband)

theorem execInbandWriteRequest_wf (h : s.wf) {rx : RxInfo} {tag : BitVec 8} {addr : BitVec 24}
    {words : List (BitVec 36)} {taken : Option ℕ} :
    afterNext State.wf (execInbandWriteRequest rx tag addr words taken s) :=
  h.ibArrive.next

theorem execInbandReadRequest_wf (h : s.wf) {rx : RxInfo} {tag : BitVec 8} {addr : BitVec 24} {count : Fin 256}
    {taken : Option ℕ} :
    afterNext State.wf (execInbandReadRequest rx tag addr count taken s) :=
  h.ibArrive.next

theorem execBulkWrite_wf (h : s.wf) {rx : RxInfo} {tag : BitVec 8} {addr : BitVec 24} {words : List (BitVec 36)}
    {taken : Option ℕ} :
    afterNext State.wf (execBulkWrite rx tag addr words taken s) :=
  h.ibArrive.next

theorem execDomainReady_wf (h : s.wf) {d : Fin 9} : afterNext State.wf (execDomainReady d s) :=
  h.domainReady.serveInband.next

theorem State.wf.idle (h : s.wf) : s.idle.wf := wf_if h h.tick.stepRise.levelWake.serveInband

/-! ## Self-test and wake checks (Startup) -/

theorem State.wf.giveSpare (h : s.wf) {c : ℕ} : (s.giveSpare c).1.wf := by
  unfold State.giveSpare
  split
  · exact h.abandonCal.setKit.decideMove
  · split
    · exact h.setKit.decideMove.event
    · exact h.updChan

theorem State.wf.loopFails (h : s.wf) {c : ℕ} : (s.loopFails c).1.wf := h.setB.setF.setFailedBit.giveSpare

theorem State.wf.kittyTestFails (h : s.wf) {n : ℕ} : (s.kittyTestFails n).1.wf :=
  wf_if_fst h.setKit.giveSpare (wf_if_fst h.kittyFails h.setKit)

theorem State.wf.passedAgain (h : s.wf) {f : Spares} : (s.passedAgain f).wf :=
  wf_foldl (fun _ _ h1 => wf_if h1.setB.setF.freeSpare h1.setB.setF.returnBus)
    (wf_foldl (fun _ _ h2 => h2.ownClears) (wf_foldl (fun _ _ h3 => h3.setKit) h))

theorem State.wf.eachOk (h : s.wf) {xs : List ℕ} {f : State → ℕ → State × Bool} (hf : ∀ t c, t.wf → (f t c).1.wf) :
    (s.eachOk xs f).1.wf :=
  wf_foldl_fst (fun _ _ h => hf _ _ h) h

theorem State.wf.replaceAll (h : s.wf) {f : Spares} : (s.replaceAll f).1.wf := by
  unfold State.replaceAll
  split
  next t _ e =>
  have ht : t.wf := wf_fst e (h.eachOk fun _ _ h => h.kittyTestFails)
  split
  next u _ e =>
  have hu : u.wf := wf_fst e (ht.eachOk fun _ _ h => h.loopFails)
  exact wf_foldl (fun _ _ h => h.adcFail) hu

theorem State.wf.startCal (h : s.wf) {ws : List (ℕ × BitVec 32)} : (s.startCal ws).wf :=
  wf_foldl (fun _ _ h1 => h1.judgePairs) (wf_foldl (fun _ _ h2 => h2.setB.setB) (wf_foldl (fun _ _ h3 =>
    h3.putResults) h))

theorem State.wf.softRepairs (h : s.wf) {banks : List ℕ} : (s.softRepairs banks).wf :=
  wf_foldl (fun _ _ h1 => h1.setF.event) h

theorem State.wf.logCells (h : s.wf) {cells : List (BitVec 24)} : (s.logCells cells).wf := h.update

theorem State.wf.passed (h : s.wf) {item : ℕ} {bit : Option ℕ} : (s.passed item bit).wf := by
  unfold State.passed
  extract_lets
  split
  · exact h.update.setF
  · exact h.update

theorem State.wf.judge (h : s.wf) {ok : Bool} {item bit code page : ℕ} : (s.judge ok item bit code page).wf :=
  wf_if h.passed h.enterFold

theorem State.wf.judgeSpares (h : s.wf) {f : Spares} {item : ℕ} {bit : Option ℕ} : (s.judgeSpares f item bit).wf :=
  wf_if h.replaceAll.enterFold (wf_if h.replaceAll.enterFold h.replaceAll.passed)

theorem execSelftestItemDone_wf (h : s.wf) {result : SelfTest} :
    afterNext State.wf (execSelftestItemDone result s) := by
  unfold execSelftestItemDone
  refine next_if h.next ?_
  split
  · exact h.logCells.softRepairs.judge.next
  · exact h.logCells.judge.next
  · exact h.logCells.judge.next
  · exact h.judgeSpares.next
  · exact h.judgeSpares.next
  · exact h.judge.next
  · exact h.judge.next
  · exact h.startCal.judgeSpares.next
  · exact h.ledgerCheck.judge.next
  · exact next_if h.configLoad.passed.next h.next
  · exact next_if h.next h.setF.readyEntry.next

theorem execWakeChecksDone_wf (h : s.wf) {fails : Spares} {results : List (ℕ × BitVec 32)} :
    afterNext State.wf (execWakeChecksDone fails results s) :=
  next_if h.next (next_if h.passedAgain.startCal.replaceAll.enterFold.next
    (next_if h.passedAgain.startCal.replaceAll.enterFold.next
    (wf_if h.passedAgain.startCal.replaceAll.readyEntry.update.acceptRun
    h.passedAgain.startCal.replaceAll.readyEntry.update).next))

/-! ## Hands, frames and light (Hands) -/

theorem State.wf.announceHand (h : s.wf) : s.announceHand.wf :=
  (wf_if h.latchCommits.changeLatched h.latchCommits).announce.update

theorem execHandAnnounce_wf (h : s.wf) :
    afterNext State.wf (execHandAnnounce s) :=
  next_if h.announceHand.next h.next

theorem State.wf.takeTemps (h : s.wf) : s.takeTemps.wf := h.update.eventIf
theorem State.wf.frameEnds (h : s.wf) : s.frameEnds.wf := h.mirrorDiag.fieldEnded.frameStops.update

theorem State.wf.frameBegun (h : s.wf) {genBefore : ℕ} : (s.frameBegun genBefore).wf :=
  wf_if h h.frameHeader.updFrameCount.fieldBegins

theorem State.wf.handSkipped (hs : s.wf) {h : Hand} : (s.handSkipped h).wf :=
  hs.updFrameCount.zoneSkipped.fieldSkipped

theorem State.wf.dummyBoundary (h : s.wf) : s.dummyBoundary.wf := wf_if h.dummyInject.dummyDiag h.dummyInject

theorem State.wf.showParity (h : s.wf) : s.showParity.wf := by
  unfold State.showParity
  split
  · exact wf_if h.setF h
  · exact h

theorem State.wf.handBegins (hs : s.wf) {h : Hand} {pat : ℕ × ℕ} {ended : Option ℕ} :
    (s.handBegins h pat ended).wf := by
  unfold State.handBegins
  extract_lets _ s1
  have h1 : s1.wf := (wf_if hs.frameStart hs.handPassed).beginHand
  exact (wf_if h1.takeTemps h1).kittyBoundary.dummyBoundary.afeBoundary.scaleBoundary.summaries.showParity

theorem State.wf.boundary (h : s.wf) {first : Bool} : (s.boundary first).wf := by
  unfold State.boundary
  split
  · exact h
  · refine wf_if h ?_
    extract_lets _ _ _ _ last _ s1 _ s2 s3 s4 _ _ s5 s6 _ s8 s9
    clear_value last
    have h1 : s1.wf := h.update.drainEnds.endHand
    have h2 : s2.wf := wf_if h1.update h1
    have h3 : s3.wf := wf_if h2.frameEnds h2
    have h4 : s4.wf := by
      unfold s4
      split
      · exact wf_if h3.zoneFrameOver h3
      · exact h3
    have h5 : s5.wf := h4.boundaryCommits
    have h6 : s6.wf := wf_if h5.changeDone h5
    have h8 : s8.wf := wf_if h6.handBegins.frameBegun h6.handBegins
    have h9 : s9.wf := wf_if h8.handSkipped h8
    exact (wf_if h9.update h9).framesLeave.settle

theorem execHandBoundary_wf (h : s.wf) : afterNext State.wf (execHandBoundary s) := h.boundary.next
theorem execFrameBoundary_wf (h : s.wf) : afterNext State.wf (execFrameBoundary s) := h.boundary.next

theorem State.wf.runBegins (h : s.wf) : s.runBegins.wf :=
  h.update.enter.recordEntry.runCounts.histRun.zoneRun.framesLeave.settle

theorem execRunEntry_wf (h : s.wf) : afterNext State.wf (execRunEntry s) := next_if h.runBegins.next h.next

theorem State.wf.runEnds (h : s.wf) : s.runEnds.wf :=
  (wf_if h.update.enter.recordEntry.frameStops.putBus h.update.enter.recordEntry.frameStops).dropFire.settle

theorem execRunExit_wf (h : s.wf) : afterNext State.wf (execRunExit s) := next_if h.runEnds.next h.next

theorem execFireCommand_wf (h : s.wf) {group : Fin 4} {armExt : Bool} :
    afterNext State.wf (execFireCommand group armExt s) := by
  unfold execFireCommand
  split
  · have h1 := wf_fst ‹_› h.fireCommand
    exact h1.next
  · have h2 := wf_fst ‹_› h.fireCommand
    exact (wf_foldl (fun _ _ h3 => h3.feedTricks) h2.armShot).shotTrigger.next

theorem execMpdPulseMeasured_wf (h : s.wf) {tile : Fin 16} {group : Fin 4} {charge : ℕ} {excluded : Bool} :
    afterNext State.wf (execMpdPulseMeasured tile group charge excluded s) :=
  h.mpdPulse.mpdDark.next

theorem execSyncInEdge_wf (h : s.wf) {edge : ℕ} : afterNext State.wf (execSyncInEdge edge s) := by
  unfold execSyncInEdge
  split
  · have h1 := wf_fst ‹_› h.syncEdge
    exact h1.next
  · have h2 := wf_fst ‹_› h.syncEdge
    exact h2.timeAtEdge.edgeCommits.changeArmed.next

theorem State.wf.dummyDump (h : s.wf) {t : ℕ} : (s.dummyDump t).wf := by
  unfold State.dummyDump
  split
  · exact wf_if h.rawEvent h
  · exact h

theorem execTdcConversion_wf (h : s.wf) {target : ConvTarget} {raw : Fin 1024} {copyDiff : ℕ} {tot : TotEdges} :
    afterNext State.wf (execTdcConversion target raw copyDiff tot s) := by
  unfold execTdcConversion
  split
  · exact h.convert.next
  · split
    · have h1 := wf_fst ‹_› h.dummyTimed
      exact h1.dummyDump.dummyDiag.next
    · have h2 := wf_fst ‹_› h.dummyTimed
      exact h2.next

theorem execTdcConversionTimeout_wf (h : s.wf) {target : ConvTarget} :
    afterNext State.wf (execTdcConversionTimeout target s) := by
  unfold execTdcConversionTimeout
  split
  · exact h.convertTimeout.next
  · split
    · exact h.kittyFails.next
    · exact h.next

theorem execDummyMissing_wf (h : s.wf) : afterNext State.wf (execDummyMissing s) :=
  next_if h.next h.update.dummyFails.dummyDiag.next

theorem execHandComplete_wf (h : s.wf) {fclk : ℕ} : afterNext State.wf (execHandComplete fclk s) := by
  unfold execHandComplete
  split
  · have h1 := wf_fst ‹_› h.finishHand
    exact h1.next
  · have h2 := wf_fst ‹_› h.finishHand
    exact h2.projectHand.fieldHand.zoneHand.framesLeave.next

theorem execMuxChangeApply_wf (h : s.wf) : afterNext State.wf (execMuxChangeApply s) := h.adcCommits.next

theorem State.wf.cameraFrame (h : s.wf) {p : ℕ} : (s.cameraFrame p).wf :=
  wf_if h.closeFrame.updPort.cameraCommits h.closeFrame.updPort.cameraCommits.frameBegins.rastersAtStart

theorem execCsi2FrameStart_wf (h : s.wf) {port : Fin 4} {vc : Fin 16} :
    afterNext State.wf (execCsi2FrameStart port vc s) :=
  next_if h.cameraFrame.next h.next

theorem execPortIdle_wf (h : s.wf) {port : Fin 4} : afterNext State.wf (execPortIdle port s) :=
  next_if h.updPort.idleCommits.next h.next

theorem execPacketSent_wf (h : s.wf) : afterNext State.wf (execPacketSent s) := by
  unfold execPacketSent
  refine next_if h.next ?_
  extract_lets
  split
  · exact h.ringSend.sendHead.next
  · exact h.ringSend.next

theorem State.wf.watchdogFault (h : s.wf) : s.watchdogFault.wf := wf_if h.watchdog.enterFold h.watchdog.showPermit
theorem State.wf.confirmed (h : s.wf) : s.confirmed.wf := h.update.setFailing.showPermit

theorem execSupvPermitConfirm_wf (h : s.wf) {us : ℕ} : afterNext State.wf (execSupvPermitConfirm us s) :=
  next_if h.next (next_if (next_if h.setB.confirmed.fwEnds.next h.next)
    (next_if h.watchdogFault.next h.confirmed.next))

theorem execWatchdogExpiry_wf (h : s.wf) : afterNext State.wf (execWatchdogExpiry s) :=
  next_if h.watchdogFault.next h.next

/-! ## Every command (Dispatch) -/

/-- Every command keeps the canonical form. -/
theorem exec_wf (h : s.wf) : ∀ c : Instr, afterNext State.wf (exec c s)
  | .porRelease => execPorRelease_wf h
  | .porLoss => execPorLoss_wf h
  | .nresetFall => execNresetFall_wf h
  | .nresetRise => execNresetRise_wf h
  | .pgWaitEnd => execPgWaitEnd_wf h
  | .pgTimeout .. => execPgTimeout_wf h
  | .pgLowInOperation .. => execPgLowInOperation_wf h
  | .refclkPresent .. => execRefclkPresent_wf h
  | .refclkSearchTimeout => execRefclkSearchTimeout_wf h
  | .pllLock => execPllLock_wf h
  | .pllLockTimeout => execPllLockTimeout_wf h
  | .selftestItemDone .. => execSelftestItemDone_wf h
  | .selftestTimeout => execSelftestTimeout_wf h
  | .automaticRetry => execAutomaticRetry_wf h
  | .bootCmdRestart .. => execBootCmdRestart_wf h
  | .bootCmdFold .. => execBootCmdFold_wf h
  | .pwrReqReady => execPwrReqReady_wf h
  | .pwrReqRun => execPwrReqRun_wf h
  | .pwrReqStandby => execPwrReqStandby_wf h
  | .runEntry => execRunEntry_wf h
  | .runExit => execRunExit_wf h
  | .standbyBlockAnswer .. => execStandbyBlockAnswer_wf h
  | .standbyBlockForced .. => execStandbyBlockForced_wf h
  | .standbySwitchOffDone => execStandbySwitchOffDone_wf h
  | .domainOffReqWrite .. => execDomainOffReqWrite_wf h
  | .wakePinEvent .. => execWakePinEvent_wf h
  | .rxActivity .. => execRxActivity_wf h
  | .spiCsFall .. => execSpiCsFall_wf h
  | .domainReady .. => execDomainReady_wf h
  | .domainWakeTimeout .. => execDomainWakeTimeout_wf h
  | .wakeChecksDone .. => execWakeChecksDone_wf h
  | .accessIdleTimeout .. => execAccessIdleTimeout_wf h
  | .droopOnset .. => execDroopOnset_wf h
  | .droopRecovery => execDroopRecovery_wf h
  | .droopHandsHeld => execDroopHandsHeld_wf h
  | .droopLong => execDroopLong_wf h
  | .clkDroopClr => execClkDroopClr_wf h
  | .refclkLost => execRefclkLost_wf h
  | .pllRelock .. => execPllRelock_wf h
  | .holdoverExpired => execHoldoverExpired_wf h
  | .clkPrefWrite .. => execClkPrefWrite_wf h
  | .spiWriteFrame .. => execSpiWriteFrame_wf h
  | .spiReadFrame .. => execSpiReadFrame_wf h
  | .spiTimeout => execSpiTimeout_wf h
  | .inbandWriteRequest .. => execInbandWriteRequest_wf h
  | .inbandReadRequest .. => execInbandReadRequest_wf h
  | .bulkWrite .. => execBulkWrite_wf h
  | .registerWrite .. => execRegisterWrite_wf h
  | .commitRequest .. => execCommitRequest_wf h
  | .commitCancel src _ => execCommitCancel_wf h (x := src)
  | .globalCommit .. => execGlobalCommit_wf h
  | .softReset .. => execSoftReset_wf h
  | .intForce .. => execIntForce_wf h
  | .errCountClear .. => execErrCountClear_wf h
  | .eventPacketMergeEnd .. => execEventPacketMergeEnd_wf h
  | .hostCntClr => execHostCntClr_wf h
  | .timeCmdSet => execTimeCmdSet_wf h
  | .timeCmdSetAtSync => execTimeCmdSetAtSync_wf h
  | .timeCmdOffset => execTimeCmdOffset_wf h
  | .handAnnounce => execHandAnnounce_wf h
  | .ringSnapshot => execRingSnapshot_wf h
  | .slotArbitration .. => execSlotArbitration_wf h
  | .fireCommand .. => execFireCommand_wf h
  | .handBoundary => execHandBoundary_wf h
  | .frameBoundary => execFrameBoundary_wf h
  | .hostBid .. => execHostBid_wf h
  | .ringPlace0Write .. => execRingPlace0Write_wf h
  | .dealCntClr => execDealCntClr_wf h
  | .ffLoad => execFfLoad_wf h
  | .ffLoadDone => execFfLoadDone_wf h
  | .ldbMaintFrameEnd => execLdbMaintFrameEnd_wf h
  | .ldbReenum .. => execLdbReenum_wf h
  | .enumerationDone .. => execEnumerationDone_wf h
  | .pollTimer => execPollTimer_wf h
  | .tileReply .. => execTileReply_wf h
  | .lightNoFire .. => execLightNoFire_wf h
  | .hazardFlag .. => execHazardFlag_wf h
  | .busHeld => execBusHeld_wf h
  | .busRecoveryRestart .. => execBusRecoveryRestart_wf h
  | .hazClr .. => execHazClr_wf h
  | .emitCntClr => execEmitCntClr_wf h
  | .ldbCntClr => execLdbCntClr_wf h
  | .mpdPulseMeasured .. => execMpdPulseMeasured_wf h
  | .mpdLoopUpdate => execMpdLoopUpdate_wf h
  | .govSubintervalEnd .. => execGovSubintervalEnd_wf h
  | .staticHoldEnd => execStaticHoldEnd_wf h
  | .decimation .. => execDecimation_wf h
  | .dacUpdate .. => execDacUpdate_wf h
  | .senseOpen .. => execSenseOpen_wf h
  | .testToneCheckEnd .. => execTestToneCheckEnd_wf h
  | .steerCntClr => execSteerCntClr_wf h
  | .syncInEdge .. => execSyncInEdge_wf h
  | .syncLost => execSyncLost_wf h
  | .leadingEdge .. => execLeadingEdge_wf h
  | .tdcConversion .. => execTdcConversion_wf h
  | .kittyMove .. => execKittyMove_wf h
  | .collectionVisit .. => execCollectionVisit_wf h
  | .shotMarker .. => execShotMarker_wf h
  | .dllLockLoss .. => execDllLockLoss_wf h
  | .dllRetry .. => execDllRetry_wf h
  | .dllRelock .. => execDllRelock_wf h
  | .tdcFailClr .. => execTdcFailClr_wf h
  | .tdcRetestDone .. => execTdcRetestDone_wf h
  | .dummyMissing => execDummyMissing_wf h
  | .dbiasConversion .. => execDbiasConversion_wf h
  | .afeCntClr .. => execAfeCntClr_wf h
  | .tdcCntClr .. => execTdcCntClr_wf h
  | .kittyCntClr => execKittyCntClr_wf h
  | .sliceEventRetire .. => execSliceEventRetire_wf h
  | .markerRetire .. => execMarkerRetire_wf h
  | .trickPlacementDone .. => execTrickPlacementDone_wf h
  | .autoReadoutDone .. => execAutoReadoutDone_wf h
  | .dumpReadDone .. => execDumpReadDone_wf h
  | .drainSwitch .. => execDrainSwitch_wf h
  | .histCntClr => execHistCntClr_wf h
  | .rejectChannel .. => execRejectChannel_wf h
  | .bloomPass .. => execBloomPass_wf h
  | .rejCntClr => execRejCntClr_wf h
  | .pntChannelDone .. => execPntChannelDone_wf h
  | .handComplete .. => execHandComplete_wf h
  | .pntCntClr => execPntCntClr_wf h
  | .levelTrigger .. => execLevelTrigger_wf h
  | .trigInEdge .. => execTrigInEdge_wf h
  | .acqTimerTrigger .. => execAcqTimerTrigger_wf h
  | .acqForce .. => execAcqForce_wf h
  | .acqArm .. => execAcqArm_wf h
  | .acqCntClr => execAcqCntClr_wf h
  | .recordCaptureDone .. => execRecordCaptureDone_wf h
  | .holdoffEnd => execHoldoffEnd_wf h
  | .ringEntryWritten => execRingEntryWritten_wf h
  | .rateStepDown => execRateStepDown_wf h
  | .ringRdWrite .. => execRingRdWrite_wf h
  | .muxChangeApply => execMuxChangeApply_wf h
  | .adcFail .. => execAdcFail_wf h
  | .spareHandoverDone => execSpareHandoverDone_wf h
  | .adcFailClr .. => execAdcFailClr_wf h
  | .adcRetestDone .. => execAdcRetestDone_wf h
  | .adcCntClr => execAdcCntClr_wf h
  | .csi2HsEntry .. => execCsi2HsEntry_wf h
  | .csi2Deskew .. => execCsi2Deskew_wf h
  | .csi2LongPacket .. => execCsi2LongPacket_wf h
  | .csi2FrameStart .. => execCsi2FrameStart_wf h
  | .csi2FrameEnd .. => execCsi2FrameEnd_wf h
  | .shortFrameTimeout .. => execShortFrameTimeout_wf h
  | .portIdle .. => execPortIdle_wf h
  | .ispLineDone => execIspLineDone_wf h
  | .statsPacket .. => execStatsPacket_wf h
  | .i2cTransactionDone .. => execI2cTransactionDone_wf h
  | .i2cTimeout .. => execI2cTimeout_wf h
  | .i2cXferGo .. => execI2cXferGo_wf h
  | .camFsyncPulse .. => execCamFsyncPulse_wf h
  | .camCntClr .. => execCamCntClr_wf h
  | .zoneCntClr => execZoneCntClr_wf h
  | .rxCdrLock .. => execRxCdrLock_wf h
  | .rxBlockLock .. => execRxBlockLock_wf h
  | .hostTsReady .. => execHostTsReady_wf h
  | .linkTimeout => execLinkTimeout_wf h
  | .txLaneFault .. => execTxLaneFault_wf h
  | .alignmentMarker => execAlignmentMarker_wf h
  | .txClr .. => execTxClr_wf h
  | .txRetestDone .. => execTxRetestDone_wf h
  | .txForceFail .. => execTxForceFail_wf h
  | .rxLos .. => execRxLos_wf h
  | .rxLol .. => execRxLol_wf h
  | .rxBadPacket .. => execRxBadPacket_wf h
  | .hostHeartbeat .. => execHostHeartbeat_wf h
  | .hostLost => execHostLost_wf h
  | .deviceHeartbeatTimer => execDeviceHeartbeatTimer_wf h
  | .timeSetNow .. => execTimeSetNow_wf h
  | .timeSetAtSyncPacket .. => execTimeSetAtSyncPacket_wf h
  | .timeOffsetPacket .. => execTimeOffsetPacket_wf h
  | .timeSetInvalid .. => execTimeSetInvalid_wf h
  | .packetSent => execPacketSent_wf h
  | .packetAgeDiscard => execPacketAgeDiscard_wf h
  | .injectBit .. => execInjectBit_wf h
  | .injectSync => execInjectSync_wf h
  | .injectCrc .. => execInjectCrc_wf h
  | .tabCntClr => execTabCntClr_wf h
  | .scrubRead .. => execScrubRead_wf h
  | .bankOwnerWrite .. => execBankOwnerWrite_wf h
  | .moverDescriptorEnd .. => execMoverDescriptorEnd_wf h
  | .ownerReclaim .. => execOwnerReclaim_wf h
  | .bankCntClr => execBankCntClr_wf h
  | .safeCycle .. => execSafeCycle_wf h
  | .safetyStatusTimer => execSafetyStatusTimer_wf h
  | .supvPermitConfirm .. => execSupvPermitConfirm_wf h
  | .watchdogExpiry => execWatchdogExpiry_wf h
  | .supvComparisonDone .. => execSupvComparisonDone_wf h
  | .safetyCrcCheck .. => execSafetyCrcCheck_wf h
  | .supvMemoryScrub .. => execSupvMemoryScrub_wf h
  | .pwOpen .. => execPwOpen_wf h
  | .pwSet .. => execPwSet_wf h
  | .pwErase .. => execPwErase_wf h
  | .pwCheckDone => execPwCheckDone_wf h
  | .pwBlockEnd => execPwBlockEnd_wf h
  | .safeCmdCommission .. => execSafeCmdCommission_wf h
  | .safeCmdClose => execSafeCmdClose_wf h
  | .safeConfirm .. => execSafeConfirm_wf h
  | .lockTimeout => execLockTimeout_wf h
  | .supvCntClr => execSupvCntClr_wf h
  | .safeCntClr => execSafeCntClr_wf h
  | .fwVerify .. => execFwVerify_wf h
  | .fwVerifyDone .. => execFwVerifyDone_wf h
  | .fwSwap .. => execFwSwap_wf h
  | .fwSwapStop => execFwSwapStop_wf h
  | .fwImageStart => execFwImageStart_wf h
  | .fwSwapTimeout => execFwSwapTimeout_wf h
  | .fwRaiseMin .. => execFwRaiseMin_wf h
  | .cfgStore .. => execCfgStore_wf h
  | .cfgStoreDone => execCfgStoreDone_wf h
  | .cfgActivate .. => execCfgActivate_wf h
  | .cfgActivateCrcDone => execCfgActivateCrcDone_wf h
  | .cfgCheck .. => execCfgCheck_wf h
  | .ledgerWriteBootp .. => execLedgerWriteBootp_wf h
  | .ledgerStoreCal .. => execLedgerStoreCal_wf h
  | .ledgerWriteDone => execLedgerWriteDone_wf h
  | .calItemStart .. => execCalItemStart_wf h
  | .tdcCalMeasureDone .. => execTdcCalMeasureDone_wf h
  | .kittyCalDone .. => execKittyCalDone_wf h
  | .dllCalDone .. => execDllCalDone_wf h
  | .afeCalDone .. => execAfeCalDone_wf h
  | .adcCalDone .. => execAdcCalDone_wf h
  | .dummyD0Done .. => execDummyD0Done_wf h
  | .eolGo .. => execEolGo_wf h
  | .eolRunEnd => execEolRunEnd_wf h
  | .hkRound .. => execHkRound_wf h
  | .thermalGraceExpiry .. => execThermalGraceExpiry_wf h
  | .dieShutComparator .. => execDieShutComparator_wf h
  | .hkCntClr => execHkCntClr_wf h
  | .rootClockCheck .. => execRootClockCheck_wf h
  | .refclkInactiveLost => execRefclkInactiveLost_wf h
  | .rxTsWhileLinkUp .. => execRxTsWhileLinkUp_wf h
  | .rxControlBlockBad => execRxControlBlockBad_wf h
  | .prbsCheckerLock .. => execPrbsCheckerLock_wf h
  | .tdcConversionTimeout .. => execTdcConversionTimeout_wf h
  | .senseOpenCleared .. => execSenseOpenCleared_wf h
  | .testToneCheckStart .. => execTestToneCheckStart_wf h

/-! ## One step (Step) -/

theorem step_wf (h : s.wf) : afterNext State.wf (step s) := by
  unfold step
  split
  · exact h.idle.next
  · exact exec_wf h.update _

end

/-! ## The obligations -/

/-- Settles O4: nothing is listed at reset, and TIME is 0. -/
theorem resetIsCanonical : Obligations.ResetIsCanonical := reset_wf

/-- Settles O5: with a command waiting the step is exec, which keeps the form command by command, and without one it is
a clock period. -/
theorem everyStepKeepsCanonicalForm : Obligations.EveryStepKeepsCanonicalForm := fun _ t h => step_wf h t

end Sys2Proof.Machine
end


section
/-! SUPPORT. What registers and memory read after the shared operations, and the frames of register writes, events and
packets: the rules that the statements on commits, slices and records are proved with. -/

namespace Sys2Proof.Machine

section
variable {s t u : State} {ws vs : List Nat}

/-! ## Registers -/

theorem State.reg_congr (h : t.regs = s.regs) (a : Nat) : t.reg a = s.reg a := by rw [State.reg, h, State.reg]

/-- An event sets its bit and leaves every other word (R84). -/
theorem State.reg_event (s : State) (p b a : Nat) :
    (s.event p b).reg a = if a = hdr p 3 then s.reg (hdr p 3) ||| BitVec.ofNat 32 (2 ^ b) else s.reg a := by
  have h : (s.event p b).regs = (s.setReg (hdr p 3) (s.reg (hdr p 3) ||| BitVec.ofNat 32 (2 ^ b))).regs := by
    simp only [State.event, State.setIntStat]
    split
    · exact State.summaryRose_regs ..
    · rfl
  rw [State.reg_congr h]
  split
  · next e => rw [e, State.reg_setReg_self]
  · next e => exact State.reg_setReg_ne s _ e

theorem State.reg_event_self (s : State) (p b : Nat) :
    (s.event p b).reg (hdr p 3) = s.reg (hdr p 3) ||| BitVec.ofNat 32 (2 ^ b) := by rw [State.reg_event, if_pos rfl]

theorem State.reg_event_ne (s : State) (p b : Nat) {a : Nat} (h : a ≠ hdr p 3) : (s.event p b).reg a = s.reg a := by
  rw [State.reg_event, if_neg h]

/-! ## Words left alone -/

theorem SameWords.refl (s : State) (ws : List Nat) : SameWords s s ws := fun _ _ => rfl

theorem SameWords.trans (h : SameWords s t ws) (h' : SameWords t u ws) : SameWords s u ws :=
  fun a ha => (h' a ha).trans (h a ha)

theorem SameWords.mono (h : SameWords s t ws) (hs : ∀ a ∈ ws, a ∈ vs) : SameWords s t vs :=
  fun a ha => h a fun hm => ha (hs a hm)

theorem SameWords.of_regs (h : t.regs = s.regs) : SameWords s t ws := fun a _ => State.reg_congr h a

theorem SameWords.setReg (h : SameWords s t ws) {a : Nat} (v : Word) (ha : a ∈ ws) : SameWords s (t.setReg a v) ws :=
  fun b hb => (State.reg_setReg_ne t v (ne_of_mem_of_not_mem ha hb).symm).trans (h b hb)

theorem SameWords.setF (h : SameWords s t ws) {x : Fld} (v : Nat) (hx : x.addr ∈ ws) : SameWords s (t.setF x v) ws :=
  h.setReg _ hx

theorem SameWords.event (h : SameWords s t ws) {p : Nat} (b : Nat) (hp : hdr p 3 ∈ ws) : SameWords s (t.event p b) ws :=
  fun a ha => (State.reg_event_ne t p b (ne_of_mem_of_not_mem hp ha).symm).trans (h a ha)

theorem SameWords.f (h : SameWords s t ws) {x : Fld} (hx : x.addr ∉ ws) : t.f x = s.f x := by
  rw [State.f, h _ hx, State.f]

theorem SameWords.fb (h : SameWords s t ws) {x : Fld} (hx : x.addr ∉ ws) : t.fb x = s.fb x := by
  rw [State.fb, h.f hx, State.fb]

/-! ## Fields -/

/-- A field of a word that an event does not touch. -/
theorem State.f_event (s : State) (p b : Nat) {x : Fld} (h : x.addr ≠ hdr p 3) : (s.event p b).f x = s.f x := by
  rw [State.f, State.reg_event_ne s p b h, State.f]

theorem satAdd_lt {w v : Nat} (n : Nat) (_ : v < 2 ^ w) : satAdd w v n < 2 ^ w := by
  have : 0 < 2 ^ w := by positivity
  unfold satAdd; split <;> omega

/-- A saturating counter reads the sum, held at its largest value. -/
theorem State.f_addF_self (s : State) (x : Fld) (n : Nat) (h : x.lo + x.width ≤ 32) :
    (s.addF x n).f x = satAdd x.width (s.f x) n := by
  rw [State.addF, State.f_setF_self s x _ h, Nat.mod_eq_of_lt (satAdd_lt n (s.f_lt x))]

theorem State.reg_addF_ne (s : State) (x : Fld) (n : Nat) {a : Nat} (h : a ≠ x.addr) : (s.addF x n).reg a = s.reg a :=
  State.reg_setF_ne s x _ h

/-! ## Memory -/

theorem State.rd_congr (hm : t.mem = s.mem) (hl : t.lost = s.lost) (a : Nat) : t.rd a = s.rd a := by
  rw [State.rd, hm, hl, State.rd]

theorem State.rd_wr (s : State) (a b : Nat) (v : Word36) : (s.wr a v).rd b = if b = a then v else s.rd b :=
  Cells.get_set ..

theorem State.rd_wr_self (s : State) (a : Nat) (v : Word36) : (s.wr a v).rd a = v := by rw [State.rd_wr, if_pos rfl]

theorem State.rd_wr_ne (s : State) {a b : Nat} (v : Word36) (h : b ≠ a) : (s.wr a v).rd b = s.rd b := by
  rw [State.rd_wr, if_neg h]

/-- A list whose entries are kept or left out by address. -/
theorem Cells.get_filter {w : Nat} {d : Nat → BitVec w} (m : Cells w) (q : Nat → Bool) (a : Nat) :
    Cells.get d (m.filter fun e => q e.1) a = if q a then Cells.get d m a else d a := by
  induction m with
  | nil => simp
  | cons e m ih =>
    obtain ⟨k, v⟩ := e
    by_cases hk : k = a
    · subst hk
      by_cases hq : q k = true <;> simp_all [Cells.get]
    · by_cases hq : q k = true <;> simp_all [Cells.get]

/-- A word reads the same under two defaults that agree on it. -/
theorem Cells.get_congr_default {w : Nat} {d d' : Nat → BitVec w} (m : Cells w) {a : Nat} (h : d a = d' a) :
    Cells.get d m a = Cells.get d' m a := by
  induction m with
  | nil => exact h
  | cons e m ih => rw [Cells.get, Cells.get, ih]

/-! ## What a risen summary sends, and packets that always find room -/

/-- The changes that `OnlyEvents` allows, as an update. -/
theorem onlyEvents_iff : OnlyEvents s t ↔ ∃ regs merges qB seqs, t = { s with
    regs := regs
    host := { s.host with merges := merges }
    link := { s.link with qB := qB, seqs := seqs } } := by
  constructor
  · exact fun h => ⟨_, _, _, _, h⟩
  · rintro ⟨_, _, _, _, rfl⟩
    rfl

theorem OnlyEvents.trans (h : OnlyEvents s t) (h' : OnlyEvents t u) : OnlyEvents s u := by
  obtain ⟨_, _, _, _, rfl⟩ := onlyEvents_iff.1 h
  obtain ⟨_, _, _, _, rfl⟩ := onlyEvents_iff.1 h'
  rfl

theorem OnlyEvents.refl (s : State) : OnlyEvents s s := rfl
theorem OnlyEvents.setReg (h : OnlyEvents s t) (a : Nat) (v : Word) : OnlyEvents s (t.setReg a v) := h.trans rfl
theorem OnlyEvents.setF (h : OnlyEvents s t) (x : Fld) (v : Nat) : OnlyEvents s (t.setF x v) := h.trans rfl

theorem OnlyEvents.addF (h : OnlyEvents s t) (x : Fld) (n : Nat) : OnlyEvents s (t.addF x n) := h.setF x _

theorem onlyEvents_summaryRose (s : State) (p : Nat) : OnlyEvents s (s.summaryRose p) := by
  unfold State.summaryRose
  split
  · rfl
  · split
    · split <;> rfl
    · rfl

theorem OnlyEvents.event (h : OnlyEvents s t) (p b : Nat) : OnlyEvents s (t.event p b) := by
  refine h.trans ?_
  unfold State.event State.setIntStat
  dsimp only
  split
  · exact ((OnlyEvents.refl t).setReg _ _).trans (onlyEvents_summaryRose _ p)
  · exact (OnlyEvents.refl t).setReg _ _

/-- A packet of class A or B is queued whatever waits there already (R336). -/
theorem State.sendPacket_high (s : State) {dt : Nat} (h : dtClass dt < 2) (port gen stamp : Nat) (l : List Word36) :
    ∃ link, s.sendPacket dt port gen stamp l = { s with link := link } := by
  simp only [State.sendPacket, State.enqueue, h, decide_true, Bool.true_or, if_true]
  exact ⟨_, rfl⟩

/-! ## Errors -/

/-- ERR_CAUSE of a page takes the first error since ERR was clear (R87). -/
def State.latchErr (s : State) (p code src pg off : Nat) : State :=
  if (s.reg (hdr p 3)).getLsbD 31 then s else s.setReg (hdr p 6) (errWord code src pg off)

theorem State.errAt_eq (s : State) (p code src pg off : Nat) :
    s.errAt p code src pg off = ((s.latchErr p code src pg off).incF ⟨hdr p 7, 0, 16⟩).event p 31 := rfl

theorem State.latchErr_sameWords (s : State) (p code src pg off : Nat) :
    SameWords s (s.latchErr p code src pg off) [hdr p 6] := by
  unfold State.latchErr
  split
  · exact SameWords.refl s _
  · exact (SameWords.refl s _).setReg _ (by simp)

theorem State.latchErr_cause (s : State) (p code src pg off : Nat) :
    (s.latchErr p code src pg off).reg (hdr p 6) =
      if (s.reg (hdr p 3)).getLsbD 31 then s.reg (hdr p 6) else errWord code src pg off := by
  unfold State.latchErr
  split
  · rfl
  · exact State.reg_setReg_self ..

theorem State.latchErr_onlyEvents (s : State) (p code src pg off : Nat) : OnlyEvents s (s.latchErr p code src pg off) := by
  unfold State.latchErr
  split
  · rfl
  · exact (OnlyEvents.refl s).setReg _ _

theorem hdr_ne (p : Nat) {i j : Nat} (h : i ≠ j) : hdr p i ≠ hdr p j := fun e => h (Nat.add_left_cancel e)

theorem State.errAt_sameWords (s : State) (p c src pg off : Nat) :
    SameWords s (s.errAt p c src pg off) [hdr p 3, hdr p 6, hdr p 7] := by
  rw [State.errAt_eq]
  exact (((State.latchErr_sameWords s p c src pg off).mono (by simp)).setF _ (by simp)).event 31 (by simp)

theorem State.errAt_onlyEvents (s : State) (p c src pg off : Nat) : OnlyEvents s (s.errAt p c src pg off) := by
  rw [State.errAt_eq]
  exact ((State.latchErr_onlyEvents ..).setF _ _).event p 31

theorem State.errAt_intStat (s : State) (p c src pg off : Nat) : Raised s (s.errAt p c src pg off) p 31 := by
  rw [Raised, State.errAt_eq, State.reg_event_self, State.incF, State.reg_addF_ne _ _ _ (hdr_ne p (by decide)),
    State.latchErr_sameWords _ _ _ _ _ _ _ (by simp [hdr])]

theorem State.errAt_count (s : State) (p c src pg off : Nat) :
    (s.errAt p c src pg off).f ⟨hdr p 7, 0, 16⟩ = satAdd 16 (s.f ⟨hdr p 7, 0, 16⟩) 1 := by
  rw [State.errAt_eq, State.f_event _ _ _ (hdr_ne p (by decide)), State.incF, State.f_addF_self _ _ _ (by simp),
    (State.latchErr_sameWords s p c src pg off).f (by simp [hdr])]

theorem State.errAt_cause (s : State) (p c src pg off : Nat) : (s.errAt p c src pg off).reg (hdr p 6) =
    if (s.reg (hdr p 3)).getLsbD 31 then s.reg (hdr p 6) else errWord c src pg off := by
  rw [State.errAt_eq, State.reg_event_ne _ _ _ (hdr_ne p (by decide)), State.incF,
    State.reg_addF_ne _ _ _ (hdr_ne p (by decide)), State.latchErr_cause]

/-- An error on a word of a page, as the statements put it. -/
theorem State.err_raised (s : State) (c src a : Nat) : ErrorRaised s (s.err c src a) c src a :=
  ⟨State.errAt_intStat .., State.errAt_count .., State.errAt_cause ..,
    State.errAt_sameWords s (a / 0x400) c src _ _, State.errAt_onlyEvents ..⟩

end

end Sys2Proof.Machine
end


section
/-! SUPPORT. Slices at work (spec/09): bins that count, the open hand of a channel, buffers that are cleared, markers,
and the end of trick placement. -/

namespace Sys2Proof.Machine

section
variable {s t : State}

/-! ## Input FIFOs and open hands -/

/-- What the threshold check of a slice can do (R131). -/
theorem State.throttle_cases (s : State) (k : Nat) :
    s.throttle k = s ∨ (∃ v, s.throttle k = s.setF DEAL.THROTTLE_STAT.SLICE v) ∨
      ∃ v, s.throttle k = (s.setF DEAL.THROTTLE_STAT.SLICE v).event 0x10 3 := by
  unfold State.throttle
  extract_lets n v
  split
  · split
    · exact .inl rfl
    · exact .inr (.inr ⟨_, rfl⟩)
  · split
    · exact .inr (.inl ⟨_, rfl⟩)
    · exact .inl rfl

/-- The check of a slice writes only THROTTLE_STAT and the events of DEAL. -/
theorem State.throttle_sameWords (s : State) (k : Nat) : SameWords s (s.throttle k) [DEAL.THROTTLE_STAT, hdr 0x10 3] := by
  rcases s.throttle_cases k with h | ⟨v, h⟩ | ⟨v, h⟩ <;> rw [h]
  · exact SameWords.refl s _
  · exact (SameWords.refl s _).setF v (by simp [DEAL.THROTTLE_STAT.SLICE])
  · exact ((SameWords.refl s _).setF v (by simp [DEAL.THROTTLE_STAT.SLICE])).event 3 (by simp)

theorem State.throttle_onlyEvents (s : State) (k : Nat) : OnlyEvents s (s.throttle k) := by
  rcases s.throttle_cases k with h | ⟨v, h⟩ | ⟨v, h⟩ <;> rw [h]
  · rfl
  · rfl
  · exact ((OnlyEvents.refl s).setF _ v).event 0x10 3

/-- A slice's FIFO replaced, with what the check of its threshold leaves. -/
theorem State.setFifo_eq (s : State) (k : Nat) (q : List (Nat × OutItem)) : ∃ regs merges qB seqs,
    s.setFifo k q = { s with
      regs := regs
      hist := { s.hist with fifos := setNth s.hist.fifos k q }
      host := { s.host with merges := merges }
      link := { s.link with qB := qB, seqs := seqs } } := by
  obtain ⟨_, _, _, _, h⟩ := onlyEvents_iff.1 (State.throttle_onlyEvents
    { s with hist := { s.hist with fifos := setNth s.hist.fifos k q } } k)
  exact ⟨_, _, _, _, h⟩

theorem State.setFifo_sameWords (s : State) (k : Nat) (q : List (Nat × OutItem)) :
    SameWords s (s.setFifo k q) [DEAL.THROTTLE_STAT, hdr 0x10 3] :=
  State.throttle_sameWords { s with hist := { s.hist with fifos := setNth s.hist.fifos k q } } k

theorem State.fifo_setFifo_self (s : State) {k : Nat} (q : List (Nat × OutItem)) (h : k < s.hist.fifos.length) :
    (s.setFifo k q).fifo k = q := by
  obtain ⟨_, _, _, _, e⟩ := s.setFifo_eq k q
  simp [e, State.fifo, nth, setNth, h]

/-- The open hand written reads as written. -/
theorem State.hch_setHch_self (s : State) {c : Nat} (x : HistCh) (h : c < s.hist.chans.length) : (s.setHch c x).hch c = x := by
  simp [State.hch, State.setHch, nth, setNth, h]

/-- The open hands of the other channels stay. -/
theorem State.hch_setHch_ne (s : State) {c d : Nat} (x : HistCh) (h : d ≠ c) : (s.setHch c x).hch d = s.hch d := by
  simp [State.hch, State.setHch, nth, setNth, List.getElem?_set_ne (Ne.symm h)]

theorem State.hch_congr (h : t.hist.chans = s.hist.chans) (c : Nat) : t.hch c = s.hch c := by rw [State.hch, h, State.hch]

theorem State.handOf_congr (h : t.deal = s.deal) (n : Nat) : t.handOf n = s.handOf n := by rw [State.handOf, h, State.handOf]

/-- The settings of a hand depend on the hand and, where none is in progress, on the active word. -/
theorem State.reg_asHand_congr (hd : t.deal = s.deal) {a : Nat} (hr : t.reg a = s.reg a) (n : Nat) :
    (t.asHand n).reg a = (s.asHand n).reg a := by
  unfold State.asHand
  rw [State.handOf_congr hd]
  cases s.handOf n with
  | some h => rfl
  | none => exact hr

/-! ## Places in the slice memories (R219) -/

theorem memRegion_hist {a : Nat} (h : 0xB00000 ≤ a) (h' : a < 0xBD8000) : memRegion a = 3 := by
  unfold memRegion
  rw [if_neg (by omega), if_neg (by omega), if_neg (by omega), if_pos ⟨h, h'⟩]

/-- A coarse word lies in the histogram memory, in the buffer of its channel and hand. -/
theorem memRegion_coarseAddr {c k : Nat} (u : Nat) (hc : c < 384) (hk : k < 1024) : memRegion (coarseAddr c u k) = 3 := by
  apply memRegion_hist <;> unfold coarseAddr <;> omega

theorem histBuffer_coarseAddr {c k : Nat} (u : Nat) (hk : k < 1024) :
    histBuffer (coarseAddr c u k) = 2 * c + u % 2 := by
  have e : coarseAddr c u k - 0xB00000 = c / 12 * 0x6C00 + u % 2 * 0x3600 + (c % 12 * 0x400 + k) := by
    unfold coarseAddr; omega
  unfold histBuffer
  extract_lets d r
  have hd : d = c / 12 * 0x6C00 + u % 2 * 0x3600 + (c % 12 * 0x400 + k) := e
  have hr : r = c % 12 * 0x400 + k := by unfold r; omega
  have h1 : d / 0x6C00 = c / 12 := by omega
  have h2 : d / 0x3600 % 2 = u % 2 := by omega
  have h3 : r / 0x400 = c % 12 := by omega
  rw [if_pos (by omega), h1, h2, h3]
  omega

/-- Coarse and fine words of a buffer lie apart. -/
theorem coarseAddr_ne_fineAddr {c k : Nat} (u q j : Nat) (hk : k < 1024) : coarseAddr c u k ≠ fineAddr c u q j := by
  unfold coarseAddr fineAddr; omega

/-! ## Bins (R21) -/

theorem State.bin_congr {a : Nat} (h : t.rd a = s.rd a) (i : Nat) : t.bin a i = s.bin a i := by
  rw [State.bin, State.rdN, h, State.bin, State.rdN]

theorem State.bin_zero {a : Nat} (h : s.rd a = 0) (i : Nat) : s.bin a i = 0 := by
  simp [State.bin, State.rdN, h, bitsOf]

/-- A bin that is not full counts up in its word. -/
theorem State.countBin_counts (s : State) (k : Nat) {a i : Nat} (h : s.bin a i ≠ 0x3FFFF) :
    s.countBin k a i = (s.wrN a (18 * (i % 2)) 18 (s.bin a i + 1), s.bin a i + 1) := if_neg h

/-- A full bin stays and sets the flag of its slice. -/
theorem State.countBin_full (s : State) (k : Nat) {a i : Nat} (h : s.bin a i = 0x3FFFF) :
    s.countBin k a i =
      ((s.setF HIST.SAT.SLICE (putBits (s.f HIST.SAT.SLICE) k 1 1)).event 0x38 0, 0x3FFFF) := by
  rw [State.countBin, if_pos h, h]

/-- What a bin that counts changes at most. -/
theorem State.countBin_eq (s : State) (k a i : Nat) : ∃ regs mem ecc merges qB seqs,
    (s.countBin k a i).1 = { s with
      regs := regs
      mem := mem
      ecc := ecc
      host := { s.host with merges := merges }
      link := { s.link with qB := qB, seqs := seqs } } := by
  by_cases h : s.bin a i = 0x3FFFF
  · obtain ⟨_, _, _, _, e⟩ := onlyEvents_iff.1
      (((OnlyEvents.refl s).setF HIST.SAT.SLICE (putBits (s.f HIST.SAT.SLICE) k 1 1)).event 0x38 0)
    rw [s.countBin_full k h]
    exact ⟨_, _, _, _, _, _, e⟩
  · rw [s.countBin_counts k h]
    exact ⟨_, _, _, _, _, _, rfl⟩

theorem State.countBin_sameWords (s : State) (k a i : Nat) : SameWords s (s.countBin k a i).1 [HIST.SAT, hdr 0x38 3] := by
  by_cases h : s.bin a i = 0x3FFFF
  · rw [s.countBin_full k h]
    exact ((SameWords.refl s _).setF _ (by simp [HIST.SAT.SLICE])).event 0 (by simp)
  · rw [s.countBin_counts k h]
    exact SameWords.of_regs rfl

theorem State.countBin_rd_ne (s : State) (k i : Nat) {a b : Nat} (h : b ≠ a) : (s.countBin k a i).1.rd b = s.rd b := by
  by_cases hf : s.bin a i = 0x3FFFF
  · rw [s.countBin_full k hf]
    exact State.rd_congr (by simp) (by simp) b
  · rw [s.countBin_counts k hf]
    exact State.rd_wr_ne s _ h

/-- The count answered is the one that the bin reads. -/
theorem State.countBin_bin (s : State) (k a i : Nat) : (s.countBin k a i).1.bin a i = (s.countBin k a i).2 := by
  by_cases hf : s.bin a i = 0x3FFFF
  · rw [s.countBin_full k hf]
    exact (State.bin_congr (State.rd_congr (by simp) (by simp) a) i).trans hf
  · have hlt : s.bin a i < 2 ^ 18 := bitsOf_lt ..
    rw [s.countBin_counts k hf]
    dsimp only
    rw [State.bin, State.rdN, State.wrN, State.rd_wr_self, BitVec.toNat_ofNat,
      Nat.mod_eq_of_lt (putBits_lt _ (s.rd a).isLt (by omega)), bitsOf_putBits_self]
    omega

/-- The flags of the slices: a full bin sets that of its slice, and none is ever cleared. -/
theorem State.countBin_sat (s : State) {k j a i : Nat} (hj : j < 32)
    (h : (j = k ∧ s.bin a i = 0x3FFFF) ∨ bitOf (s.f HIST.SAT.SLICE) j = true) :
    bitOf ((s.countBin k a i).1.f HIST.SAT.SLICE) j = true := by
  by_cases hf : s.bin a i = 0x3FFFF
  · have hlt : s.f HIST.SAT.SLICE < 2 ^ 32 := s.f_lt _
    rw [s.countBin_full k hf, State.f_event _ _ _ (by decide), State.f_setF_self _ _ _ (by decide)]
    have hbit : ∀ v, bitOf v j = v.testBit j := fun v => by
      rw [bitOf, bitsOf, Nat.testBit_eq_decide_div_mod_eq, pow_one]; rfl
    rw [hbit] at h ⊢
    rw [show HIST.SAT.SLICE.width = 32 from rfl, Nat.testBit_mod_two_pow, putBits_testBit]
    by_cases hjk : j = k
    · simp [hjk ▸ hj, hjk]
    · rw [if_neg (by omega)]
      simp [hj, h.resolve_left fun e => hjk e.1]
  · rw [s.countBin_counts k hf]
    exact h.resolve_left fun e => hf e.2

@[simp] theorem State.countBin_hist (s : State) (k a i : Nat) : (s.countBin k a i).1.hist = s.hist := by
  obtain ⟨_, _, _, _, _, _, e⟩ := s.countBin_eq k a i
  rw [e]
@[simp] theorem State.countBin_time (s : State) (k a i : Nat) : (s.countBin k a i).1.time = s.time := by
  obtain ⟨_, _, _, _, _, _, e⟩ := s.countBin_eq k a i
  rw [e]
@[simp] theorem State.countBin_ret (s : State) (k a i : Nat) : (s.countBin k a i).1.ret = s.ret := by
  obtain ⟨_, _, _, _, _, _, e⟩ := s.countBin_eq k a i
  rw [e]
@[simp] theorem State.countBin_deal (s : State) (k a i : Nat) : (s.countBin k a i).1.deal = s.deal := by
  obtain ⟨_, _, _, _, _, _, e⟩ := s.countBin_eq k a i
  rw [e]

/-- The count that a bin reaches. -/
theorem State.countBin_snd (s : State) (k a i : Nat) :
    (s.countBin k a i).2 = if s.bin a i = 0x3FFFF then 0x3FFFF else s.bin a i + 1 := by
  unfold State.countBin
  extract_lets v
  split
  · assumption
  · rfl

/-! ## An event retired (R221, R224, R227) -/

/-- The open hand of a channel after an event in coarse bin `b` that has reached count `n`: the tracker has acted, the total is
one higher, and the hand, its slot and its tricks are as before. -/
def HistCh.Hit (x y : HistCh) (b n : Nat) : Prop :=
  y.cands = trackCand x.cands b n ∧ y.total = x.total + 1 ∧ y.count = x.count ∧ y.slot = x.slot ∧ y.tricks = x.tricks

/-- What an event accumulated does: its coarse bin counts, and the fine bin that holds it where its shot feeds the tricks. -/
theorem State.accumulate_cases (s : State) (c : Nat) (w : Word36) (tot : Nat) :
    let x := s.hch c
    let n := s.asHand x.count
    let p := bitsOf w.toNat 0 22
    let b := p / n.binW
    let r := s.countBin (c / 12) (coarseAddr c x.count (b / 2)) b
    ∃ y, x.Hit y b r.2 ∧
      (((x.slot ∈ x.fed → fineHit x.tricks n.fineW p = none) ∧ s.accumulate c w tot = r.1.setHch c y) ∨
        ∃ q i, x.slot ∈ x.fed ∧ fineHit x.tricks n.fineW p = some (q, i) ∧
          s.accumulate c w tot = (r.1.countBin (c / 12) (fineAddr c x.count q (i / 2)) i).1.setHch c y) := by
  intro x n p b r
  have hr : s.countBin (c / 12) (coarseAddr c x.count (b / 2)) b = (r.1, r.2) := rfl
  unfold State.accumulate
  extract_lets
  split
  next s1 m hm =>
  obtain ⟨rfl, rfl⟩ := Prod.mk.inj (hr.symm.trans hm)
  extract_lets op y
  clear_value op
  split
  · next hfed =>
    have hin : x.slot ∈ x.fed := List.contains_iff_mem.1 hfed
    split
    · next q i hhit => refine ⟨_, ?_, .inr ⟨q, i, hin, hhit, rfl⟩⟩; exact ⟨rfl, rfl, rfl, rfl, rfl⟩
    · next hnone => refine ⟨_, ?_, .inl ⟨fun _ => hnone, rfl⟩⟩; exact ⟨rfl, rfl, rfl, rfl, rfl⟩
  · next hfed => refine ⟨_, ?_, .inl ⟨fun h => absurd (List.contains_iff_mem.2 h) hfed, rfl⟩⟩; exact ⟨rfl, rfl, rfl, rfl, rfl⟩

/-- Between the states before and after it, an event in coarse bin `b` has been counted in channel `c`: in its
coarse bin, in the fine bin `hit` that holds it where its shot feeds the tricks, and nowhere else in memory. -/
structure BinsCounted (s t : State) (c u b : Nat) (fed : Prop) (hit : Option (Nat × Nat)) : Prop where
  coarse : t.coarse c u b = if s.coarse c u b = 0x3FFFF then 0x3FFFF else s.coarse c u b + 1
  sat : s.coarse c u b = 0x3FFFF → bitOf (t.f HIST.SAT.SLICE) (c / 12) = true
  fine : ∀ j i, fed → hit = some (j, i) → s.fineBin c u j i ≠ 0x3FFFF → t.fineBin c u j i = s.fineBin c u j i + 1
  other : ∀ a, a ≠ coarseAddr c u (b / 2) → (∀ e ∈ hit.toList, fed → a ≠ fineAddr c u e.1 (e.2 / 2)) → t.rd a = s.rd a
  words : SameWords s t [HIST.SAT, hdr 0x38 3]
  hist : t.hist = s.hist
  time : t.time = s.time
  ret : t.ret = s.ret
  deal : t.deal = s.deal

/-- The coarse bin alone counts where no trick takes the event. -/
theorem binsCounted_coarse (s : State) {c u b : Nat} {fed : Prop} {hit : Option (Nat × Nat)} (hc : c < 384)
    (hno : fed → hit = none) : BinsCounted s (s.countBin (c / 12) (coarseAddr c u (b / 2)) b).1 c u b fed hit where
  coarse := (State.countBin_bin ..).trans (State.countBin_snd ..)
  sat h := State.countBin_sat s (by omega) (.inl ⟨rfl, h⟩)
  fine j i hfed hhit := by rw [hno hfed] at hhit; cases hhit
  other a ha _ := State.countBin_rd_ne s _ _ ha
  words := State.countBin_sameWords s _ _ _
  hist := State.countBin_hist ..
  time := State.countBin_time ..
  ret := State.countBin_ret ..
  deal := State.countBin_deal ..

/-- The coarse bin and the fine bin count. -/
theorem binsCounted_fine (s : State) {c u b q i : Nat} {fed : Prop} (hc : c < 384) (hb : b < 2048) (hfed : fed) :
    BinsCounted s ((s.countBin (c / 12) (coarseAddr c u (b / 2)) b).1.countBin (c / 12) (fineAddr c u q (i / 2)) i).1
      c u b fed (some (q, i)) := by
  have hne := coarseAddr_ne_fineAddr (c := c) (k := b / 2) u q (i / 2) (by omega)
  have h1 := binsCounted_coarse s (c := c) (u := u) (b := b) (fed := True) (hit := none) hc fun _ => rfl
  set s1 := (s.countBin (c / 12) (coarseAddr c u (b / 2)) b).1
  refine ⟨?_, ?_, ?_, ?_, h1.words.trans (State.countBin_sameWords s1 _ _ _), ?_, ?_, ?_, ?_⟩
  · rw [← h1.coarse]
    exact State.bin_congr (State.countBin_rd_ne s1 _ _ hne) b
  · exact fun hfull => State.countBin_sat s1 (by omega) (.inr (h1.sat hfull))
  · intro j' i' _ hhit hroom
    obtain ⟨rfl, rfl⟩ := Prod.mk.inj (Option.some.inj hhit)
    have hsame : s1.bin (fineAddr c u q (i / 2)) i = s.fineBin c u q i :=
      State.bin_congr (State.countBin_rd_ne s _ _ hne.symm) i
    rw [State.fineBin, State.countBin_bin, State.countBin_snd, hsame, if_neg hroom]
  · intro a ha hf
    rw [State.countBin_rd_ne s1 _ _ (hf (q, i) (by simp) hfed)]
    exact State.countBin_rd_ne s _ _ ha
  · rw [State.countBin_hist, h1.hist]
  · rw [State.countBin_time, h1.time]
  · rw [State.countBin_ret, h1.ret]
  · rw [State.countBin_deal, h1.deal]

/-- An event accumulated (R221, R224, R227): bins count, and the channel's open hand takes the hit. -/
theorem State.accumulate_counts (s : State) {c : Nat} {w : Word36} (tot : Nat) (hc : c < 384)
    (hb : bitsOf w.toNat 0 22 / (s.asHand (s.hch c).count).binW < 2048) :
    let x := s.hch c
    let n := s.asHand x.count
    let b := bitsOf w.toNat 0 22 / n.binW
    ∃ t y, s.accumulate c w tot = t.setHch c y ∧
      x.Hit y b (if s.coarse c x.count b = 0x3FFFF then 0x3FFFF else s.coarse c x.count b + 1) ∧
      BinsCounted s t c x.count b (x.slot ∈ x.fed) (fineHit x.tricks n.fineW (bitsOf w.toNat 0 22)) := by
  intro x n b
  obtain ⟨y, hy, h⟩ := s.accumulate_cases c w tot
  rw [State.countBin_snd] at hy
  rcases h with ⟨hno, e⟩ | ⟨q, i, hfed, hhit, e⟩
  · exact ⟨_, y, e, hy, binsCounted_coarse s hc hno⟩
  · rw [hhit]
    exact ⟨_, y, e, hy, binsCounted_fine s hc hb hfed⟩

theorem State.retireEvent_run (s : State) (k : Nat) {c : Nat} (w : Word36) (tot : Nat)
    (hon : (s.asHand (s.hch c).count).enabled 0x38 = true) (hm : (s.asHand (s.hch c).count).f HIST.MODE.MODE ≠ 2)
    (hrun : s.pwr.st = .run) : s.retireEvent k c w tot = s.accumulate c w tot := by
  unfold State.retireEvent
  extract_lets x n
  rw [if_neg (by simpa using hon), if_neg hm, if_pos hrun]

/-! The settings of a hand as the slices use them, where only words of DEAL may have been written. -/

section
variable (hd : t.deal = s.deal) (hw : SameWords s t [DEAL.THROTTLE_STAT, hdr 0x10 3])
include hd hw

theorem enabled_asHand (n : Nat) : (t.asHand n).enabled 0x38 = (s.asHand n).enabled 0x38 := by
  rw [State.enabled, State.reg_asHand_congr hd (hw _ (by decide)), State.enabled]

theorem mode_asHand (n : Nat) : (t.asHand n).f HIST.MODE.MODE = (s.asHand n).f HIST.MODE.MODE := by
  rw [State.f, State.reg_asHand_congr hd (hw _ (by decide)), State.f]

theorem binW_asHand (n : Nat) : (t.asHand n).binW = (s.asHand n).binW := by
  rw [State.binW, State.fb, State.f, State.reg_asHand_congr hd (hw _ (by decide))]; rfl

theorem fineW_asHand (n : Nat) : (t.asHand n).fineW = (s.asHand n).fineW := by
  rw [State.fineW, State.f, State.reg_asHand_congr hd (hw _ (by decide))]; rfl

end

/-- What the check of a slice's FIFO leaves to an event or a marker that follows. -/
structure FifoMoved (s t : State) (k : Nat) (q : List (Nat × OutItem)) : Prop where
  fifo : k < s.hist.fifos.length → t.fifo k = q
  chans : t.hist.chans = s.hist.chans
  closed : t.hist.closed = s.hist.closed
  deal : t.deal = s.deal
  ret : t.ret = s.ret
  pwr : t.pwr = s.pwr
  time : t.time = s.time
  mem : ∀ a, t.rd a = s.rd a
  words : SameWords s t [DEAL.THROTTLE_STAT, hdr 0x10 3]

theorem State.setFifo_moved (s : State) (k : Nat) (q : List (Nat × OutItem)) : FifoMoved s (s.setFifo k q) k q := by
  have hf : k < s.hist.fifos.length → (s.setFifo k q).fifo k = q := s.fifo_setFifo_self q
  have hw := s.setFifo_sameWords k q
  obtain ⟨_, _, _, _, e⟩ := s.setFifo_eq k q
  rw [e] at hf hw ⊢
  exact ⟨hf, rfl, rfl, rfl, rfl, rfl, rfl, State.rd_congr rfl rfl, hw⟩

section
variable {k : Nat} {q : List (Nat × OutItem)} (h : FifoMoved s t k q)
include h

theorem FifoMoved.hch (c : Nat) : t.hch c = s.hch c := State.hch_congr h.chans c
theorem FifoMoved.handOf (n : Nat) : t.handOf n = s.handOf n := State.handOf_congr h.deal n

theorem FifoMoved.enabled (n : Nat) : (t.asHand n).enabled 0x38 = (s.asHand n).enabled 0x38 := enabled_asHand h.deal h.words n
theorem FifoMoved.mode (n : Nat) : (t.asHand n).f HIST.MODE.MODE = (s.asHand n).f HIST.MODE.MODE := mode_asHand h.deal h.words n
theorem FifoMoved.binW (n : Nat) : (t.asHand n).binW = (s.asHand n).binW := binW_asHand h.deal h.words n
theorem FifoMoved.fineW (n : Nat) : (t.asHand n).fineW = (s.asHand n).fineW := fineW_asHand h.deal h.words n
theorem FifoMoved.bin (a i : Nat) : t.bin a i = s.bin a i := State.bin_congr (h.mem a) i
theorem FifoMoved.coarse (c u b : Nat) : t.coarse c u b = s.coarse c u b := h.bin _ b
theorem FifoMoved.fineBin (c u j i : Nat) : t.fineBin c u j i = s.fineBin c u j i := h.bin _ i

end

theorem execSliceEventRetire_event {k : Fin 32} {c tot : Nat} {w : Word36} {q : Option Nat} {rest : List (Nat × OutItem)}
    (h : s.fifo k.val = (c, .event w tot q) :: rest) :
    exec (.sliceEventRetire k) s = .next ((s.setFifo k.val rest).retireEvent k.val c w tot) := by
  change execSliceEventRetire k s = _
  rw [execSliceEventRetire, h]

/-- In RUN, in a mode that accumulates, an event retired is counted in its channel (R221, R224, R227). -/
theorem sliceEventRetire_counts {k : Fin 32} {c tot : Nat} {w : Word36} {q : Option Nat} {rest : List (Nat × OutItem)}
    (hq : s.fifo k.val = (c, .event w tot q) :: rest) (hc : c < 384) (hfl : s.hist.fifos.length = 32)
    (hcl : s.hist.chans.length = 384) (hon : (s.asHand (s.hch c).count).enabled 0x38 = true)
    (hm : (s.asHand (s.hch c).count).f HIST.MODE.MODE ≠ 2)
    (hb : bitsOf w.toNat 0 22 / (s.asHand (s.hch c).count).binW < 2048) (hrun : s.pwr.st = .run) :
    ∃ t, exec (.sliceEventRetire k) s = .next t ∧ t.fifo k.val = rest ∧
      (let x := s.hch c
       let n := s.asHand x.count
       let b := bitsOf w.toNat 0 22 / n.binW
       (s.coarse c x.count b ≠ 0x3FFFF → t.coarse c x.count b = s.coarse c x.count b + 1 ∧
         (t.hch c).cands = trackCand x.cands b (s.coarse c x.count b + 1)) ∧
       (s.coarse c x.count b = 0x3FFFF → t.coarse c x.count b = 0x3FFFF ∧ bitOf (t.f HIST.SAT.SLICE) (c / 12) = true) ∧
       (t.hch c).total = x.total + 1 ∧ (t.hch c).count = x.count ∧ (t.hch c).slot = x.slot ∧ (t.hch c).tricks = x.tricks ∧
       (∀ j i, x.slot ∈ x.fed → fineHit x.tricks n.fineW (bitsOf w.toNat 0 22) = some (j, i) → s.fineBin c x.count j i ≠ 0x3FFFF →
         t.fineBin c x.count j i = s.fineBin c x.count j i + 1) ∧
       (∀ a, a ≠ coarseAddr c x.count (b / 2) →
         (∀ e ∈ (fineHit x.tricks n.fineW (bitsOf w.toNat 0 22)).toList, x.slot ∈ x.fed → a ≠ fineAddr c x.count e.1 (e.2 / 2)) →
         t.rd a = s.rd a)) ∧
      (∀ d, d ≠ c → t.hch d = s.hch d) ∧ SameWords s t [HIST.SAT, hdr 0x38 3, DEAL.THROTTLE_STAT, hdr 0x10 3] ∧ t.time = s.time ∧
      t.ret = s.ret ∧ t.deal = s.deal := by
  have hf := s.setFifo_moved k.val rest
  have e := execSliceEventRetire_event hq
  generalize s.setFifo k.val rest = s1 at hf e
  rw [State.retireEvent_run s1 _ _ _ (by rw [hf.hch, hf.enabled, hon]) (by rw [hf.hch, hf.mode]; exact hm)
    (by rw [hf.pwr, hrun])] at e
  obtain ⟨t, y, ht, hy, hcount⟩ := s1.accumulate_counts (c := c) (w := w) tot hc (by rw [hf.hch, hf.binW]; exact hb)
  rw [hf.hch, hf.binW, hf.coarse] at hy
  rw [hf.hch, hf.binW, hf.fineW] at hcount
  have hlen : c < t.hist.chans.length := by rw [hcount.hist, hf.chans, hcl]; exact hc
  have hself : (t.setHch c y).hch c = y := t.hch_setHch_self y hlen
  obtain ⟨hcands, htotal, hcnt, hslot, htricks⟩ := hy
  have hcoarse := hcount.coarse
  rw [hf.coarse] at hcoarse
  refine ⟨_, e.trans (congrArg _ ht), ?_, ⟨?_, ?_, ?_, ?_, ?_, ?_, ?_, ?_⟩, ?_, ?_, ?_, ?_, ?_⟩
  · exact (congrArg (fun x : Hist => nth x.fifos k.val []) hcount.hist).trans (hf.fifo (by omega))
  · intro hroom
    rw [if_neg hroom] at hcands hcoarse
    rw [hself]
    exact ⟨hcoarse, hcands⟩
  · intro hfull
    rw [if_pos hfull] at hcoarse
    exact ⟨hcoarse, hcount.sat (by rw [hf.coarse, hfull])⟩
  · rw [hself, htotal]
  · rw [hself, hcnt]
  · rw [hself, hslot]
  · rw [hself, htricks]
  · intro j i hfed hhit hroom
    rw [← hf.fineBin] at hroom ⊢
    exact hcount.fine j i hfed hhit hroom
  · intro a ha hfine
    exact (hcount.other a ha hfine).trans (hf.mem a)
  · intro d hd
    rw [t.hch_setHch_ne y hd, State.hch_congr (congrArg Hist.chans hcount.hist), hf.hch]
  · exact (hf.words.mono (by simp)).trans (hcount.words.mono (by simp))
  · exact hcount.time.trans hf.time
  · exact hcount.ret.trans hf.ret
  · exact hcount.deal.trans hf.deal

/-! ## What is due when hands may have left (R233, R266) -/

/-- The changes of hands that leave: the counts of frames, the hands being finished, and trailers on the link. -/
def HandsLeft (s t : State) : Prop := ∃ frames past link,
  t = { s with hist := { s.hist with frames := frames }, deal := { s.deal with past := past }, link := link }

theorem HandsLeft.refl (s : State) : HandsLeft s s := ⟨_, _, _, rfl⟩

theorem HandsLeft.trans {u : State} (h : HandsLeft s t) (h' : HandsLeft t u) : HandsLeft s u := by
  obtain ⟨_, _, _, rfl⟩ := h
  obtain ⟨_, _, _, rfl⟩ := h'
  exact ⟨_, _, _, rfl⟩

/-! Hands that leave take nothing from the slices, from memory or from TIME. -/

theorem HandsLeft.hch (h : HandsLeft s t) (c : Nat) : t.hch c = s.hch c := by obtain ⟨_, _, _, rfl⟩ := h; rfl
theorem HandsLeft.closed (h : HandsLeft s t) : t.hist.closed = s.hist.closed := by obtain ⟨_, _, _, rfl⟩ := h; rfl
theorem HandsLeft.fifo (h : HandsLeft s t) (k : Nat) : t.fifo k = s.fifo k := by obtain ⟨_, _, _, rfl⟩ := h; rfl
theorem HandsLeft.rd (h : HandsLeft s t) (a : Nat) : t.rd a = s.rd a := by
  obtain ⟨_, _, _, rfl⟩ := h
  exact State.rd_congr rfl rfl a
theorem HandsLeft.reg (h : HandsLeft s t) (a : Nat) : t.reg a = s.reg a := by
  obtain ⟨_, _, _, rfl⟩ := h
  exact State.reg_congr rfl a
theorem HandsLeft.time (h : HandsLeft s t) : t.time = s.time := by obtain ⟨_, _, _, rfl⟩ := h; rfl

theorem handsLeft_trailerPacket (s : State) (f : FrameCount) (at_ : Nat) : HandsLeft s (s.trailerPacket f at_) := by
  unfold State.trailerPacket
  extract_lets pair
  split
  · exact HandsLeft.refl s
  · obtain ⟨link, e⟩ := s.sendPacket_high (dt := 0x11) (by decide) 0 f.gen at_ (frameWords 0x02 f.gen f.number ++
      [w36 (satTo 32 f.records), pair f.done f.skipped, pair f.uncertain f.transition, pair f.stale f.masked,
       pair f.commits f.sun])
    exact ⟨_, _, link, e⟩

theorem handsLeft_trailers (n : Nat) : ∀ s : State, HandsLeft s (s.trailers n) := by
  induction n with
  | zero => exact HandsLeft.refl
  | succ n ih =>
    intro s
    unfold State.trailers
    split
    · exact HandsLeft.refl s
    · next f fs _ =>
      split
      · exact HandsLeft.refl s
      · split
        · exact HandsLeft.refl s
        · have h0 : HandsLeft s { s with hist := { s.hist with frames := fs } } := ⟨_, _, _, rfl⟩
          exact (h0.trans (handsLeft_trailerPacket ..)).trans (ih _)

theorem handsLeft_rawHands (l : List Hand) : ∀ s : State,
    HandsLeft s (l.foldl (fun s h => s.updFrameCount h.frame fun f => f.add h [] 0) s) := by
  induction l with
  | nil => exact HandsLeft.refl
  | cons h l ih =>
    intro s
    have h0 : HandsLeft s (s.updFrameCount h.frame fun f => f.add h [] 0) := ⟨_, _, _, rfl⟩
    exact h0.trans (ih _)

theorem handsLeft_framesLeave (s : State) : HandsLeft s s.framesLeave := by
  have h0 : HandsLeft s s.rawHandsLeave := by
    unfold State.rawHandsLeave
    extract_lets gone raws _ s1
    exact HandsLeft.trans ⟨_, _, _, rfl⟩ (handsLeft_rawHands raws s1)
  exact h0.trans (handsLeft_trailers _ _)

/-! ## A marker retired (R222, R225) -/

/-- The open hand of a channel after a marker: the next slot, and its shot counted in its phase. -/
def HistCh.marked (x : HistCh) (h : Hand) (armed : Bool) : HistCh :=
  { x with
    slot := x.slot + 1
    openShots := x.openShots + (if x.slot < h.openSlots then b2n armed else 0)
    trickShots := x.trickShots + (if x.slot < h.openSlots then 0 else b2n armed) }

/-- A marker of a hand that begins no placement: the channel moves on, and the last slot swaps its buffers. -/
theorem State.retireMarker_eq (s : State) {c : Nat} {h : Hand} (armed : Bool) (hh : s.handOf (s.hch c).count = some h)
    (ho : (s.hch c).slot + 1 ≠ h.openSlots) : s.retireMarker c armed =
      if h.sEff ≤ (s.hch c).slot + 1 then (s.setHch c ((s.hch c).marked h armed)).swap c
      else s.setHch c ((s.hch c).marked h armed) := by
  have hx : (s.hch c).marked h armed = { s.hch c with
      slot := (s.hch c).slot + 1
      openShots := if h.phase (s.hch c).slot then (s.hch c).openShots + b2n armed else (s.hch c).openShots
      trickShots := if h.phase (s.hch c).slot then (s.hch c).trickShots else (s.hch c).trickShots + b2n armed } := by
    by_cases hp : (s.hch c).slot < h.openSlots <;> simp [HistCh.marked, Hand.phase, hp]
  rw [hx]
  unfold State.retireMarker
  extract_lets x
  rw [hh]
  dsimp only
  rw [if_neg ho]

theorem execMarkerRetire_marker {k : Fin 32} {c : Nat} {m : Bool} {rest : List (Nat × OutItem)}
    (h : s.fifo k.val = (c, .marker m) :: rest) :
    exec (.markerRetire k) s = .next ((s.setFifo k.val rest).retireMarker c m).framesLeave := by
  change execMarkerRetire k s = _
  rw [execMarkerRetire, h]

/-- A marker before the last slot moves its channel on and counts its shot (R222). -/
theorem markerRetire_moves {k : Fin 32} {c : Nat} {m : Bool} {rest : List (Nat × OutItem)} {h : Hand}
    (hq : s.fifo k.val = (c, .marker m) :: rest) (hc : c < 384) (hfl : s.hist.fifos.length = 32)
    (hcl : s.hist.chans.length = 384) (hh : s.handOf (s.hch c).count = some h) (ho : (s.hch c).slot + 1 ≠ h.openSlots)
    (hl : (s.hch c).slot + 1 < h.sEff) :
    ∃ t, exec (.markerRetire k) s = .next t ∧ t.fifo k.val = rest ∧ t.hch c = (s.hch c).marked h m ∧
      (∀ d, d ≠ c → t.hch d = s.hch d) ∧ SameWords s t [DEAL.THROTTLE_STAT, hdr 0x10 3] ∧ SameMemory s t ∧ t.time = s.time ∧
      t.hist.closed = s.hist.closed := by
  have hf := s.setFifo_moved k.val rest
  have e := execMarkerRetire_marker hq
  generalize s.setFifo k.val rest = s1 at hf e
  have hm := s1.retireMarker_eq (c := c) m (by rw [hf.hch, hf.handOf, hh]) (by rw [hf.hch]; exact ho)
  rw [hf.hch, if_neg (by omega)] at hm
  have hleft := handsLeft_framesLeave (s1.setHch c ((s.hch c).marked h m))
  rw [hm] at e
  refine ⟨_, e, (hleft.fifo _).trans (hf.fifo (by omega)), (hleft.hch _).trans (s1.hch_setHch_self _ (by rw [hf.chans]; omega)),
    fun d hd => ?_, fun a ha => (hleft.reg a).trans (hf.words a ha), fun a => (hleft.rd a).trans (hf.mem a),
    hleft.time.trans hf.time, hleft.closed.trans hf.closed⟩
  exact ((hleft.hch d).trans (s1.hch_setHch_ne _ hd)).trans (hf.hch d)

/-! ## Buffers cleared (R220) -/

/-- Words outside a buffer read as before when it is cleared. -/
theorem State.rd_flashClear_other (s : State) {k a : Nat} (h : histBuffer a ≠ k) : (s.flashClear k).rd a = s.rd a := by
  have hd : memDefault (s.flashClear k).lost a = memDefault s.lost a := by
    unfold State.flashClear
    dsimp only
    split
    · rfl
    · refine memDefault_congr (fun _ => rfl) rfl (fun _ => rfl) fun _ => ?_
      rw [Bool.eq_iff_iff]
      simp [mem_insertBy, h]
  have hm : (s.flashClear k).mem = s.mem.filter fun e => !(memRegion e.1 == 3 && histBuffer e.1 == k) := rfl
  rw [State.rd, hm, Cells.get_filter s.mem (fun a => !(memRegion a == 3 && histBuffer a == k)), if_pos (by simp [h]), State.rd]
  exact Cells.get_congr_default s.mem hd

/-- A word of a cleared buffer reads zero. -/
theorem State.rd_flashClear_self (s : State) {a : Nat} (hr : memRegion a = 3) : (s.flashClear (histBuffer a)).rd a = 0 := by
  have hb : blockWord a = false := by
    by_contra hb
    have := blockWord_region (Bool.eq_true_of_not_eq_false hb)
    omega
  have hm : (s.flashClear (histBuffer a)).mem = s.mem.filter fun e => !(memRegion e.1 == 3 && histBuffer e.1 == histBuffer a) :=
    rfl
  rw [State.rd, hm, Cells.get_filter s.mem (fun b => !(memRegion b == 3 && histBuffer b == histBuffer a)),
    if_neg (by simp [hr]), memDefault, hb, if_neg (by simp), if_pos]
  have hl : (s.flashClear (histBuffer a)).lost = if s.lost.hist = 0 || s.lost.cleared.contains (histBuffer a) then s.lost
      else { s.lost with cleared := insertBy (fun a b => decide (a < b)) (histBuffer a) s.lost.cleared } := rfl
  rw [hl]
  by_cases h0 : s.lost.hist = 0
  · simp [h0, Lost.count, hr]
  · by_cases hcl : s.lost.cleared.contains (histBuffer a) = true
    · rw [if_pos (by simp [h0] at hcl ⊢; exact hcl), hcl]; simp [hr]
    · rw [if_neg (by simpa [h0] using hcl)]
      have : (insertBy (fun a b => decide (a < b)) (histBuffer a) s.lost.cleared).contains (histBuffer a) = true :=
        List.contains_iff_mem.2 ((mem_insertBy ..).2 (.inl rfl))
      rw [this]; simp [hr]

/-! ## A channel swaps (R220, R223, R231) -/

/-- Dumps that are cut leave the hands, the open and closed channel hands, memory and TIME. -/
theorem State.cutDumps_keeps (s : State) (c : Nat) :
    (s.cutDumps c).hist.chans = s.hist.chans ∧ (s.cutDumps c).hist.closed = s.hist.closed ∧
    (s.cutDumps c).hist.fifos = s.hist.fifos ∧ (s.cutDumps c).deal = s.deal ∧ (s.cutDumps c).pwr = s.pwr ∧
      (s.cutDumps c).mem = s.mem ∧ (s.cutDumps c).lost = s.lost ∧ (s.cutDumps c).time = s.time := by
  unfold State.cutDumps
  extract_lets n
  split
  · exact ⟨rfl, rfl, rfl, rfl, rfl, rfl, rfl, rfl⟩
  · obtain ⟨_, _, _, _, e⟩ := onlyEvents_iff.1 (((OnlyEvents.refl { s with hist := { s.hist with
      dumps := s.hist.dumps.filter fun d => d.channel != c } }).addF HIST.DUMP_CNT.CUT n).event 0x38 2)
    rw [e]
    exact ⟨rfl, rfl, rfl, rfl, rfl, rfl, rfl, rfl⟩

theorem State.rd_flashClear_congr (hm : t.mem = s.mem) (hl : t.lost = s.lost) (k a : Nat) :
    (t.flashClear k).rd a = (s.flashClear k).rd a := by
  refine State.rd_congr ?_ ?_ a
  · simp only [State.flashClear, hm]
  · simp only [State.flashClear, hl]

theorem State.closedOf_setClosed_self (s : State) {c : Nat} (l : List Closed) (h : c < s.hist.closed.length) :
    (s.setClosed c l).closedOf c = l := by
  simp [State.closedOf, State.setClosed, nth, setNth, h]

theorem State.closedOf_setClosed_ne (s : State) {c d : Nat} (l : List Closed) (h : d ≠ c) :
    (s.setClosed c l).closedOf d = s.closedOf d := by
  simp [State.closedOf, State.setClosed, nth, setNth, List.getElem?_set_ne (Ne.symm h)]

theorem State.closedOf_congr (h : t.hist.closed = s.hist.closed) (c : Nat) : t.closedOf c = s.closedOf c := by
  rw [State.closedOf, h, State.closedOf]

/-- A channel after a swap in RUN: the next hand is open in a cleared buffer, and `y` is the last of its closed hands. -/
structure Swapped (s t : State) (c : Nat) (y : Closed) : Prop where
  own : c < s.hist.chans.length → t.hch c = { count := (s.hch c).count + 1 }
  others : ∀ d, d ≠ c → t.hch d = s.hch d
  ownClosed : c < s.hist.closed.length → t.closedOf c = s.closedOf c ++ [y]
  othersClosed : ∀ d, d ≠ c → t.closedOf d = s.closedOf d
  fifo : ∀ k, t.fifo k = s.fifo k
  mem : ∀ a, t.rd a = (s.flashClear (2 * c + ((s.hch c).count + 1) % 2)).rd a
  time : t.time = s.time

/-- What a hand that closes delivers (R231). -/
def Closed.Delivers (y : Closed) (x : HistCh) : Prop :=
  y.count = x.count ∧ y.stage = .swapped ∧ y.off = false ∧ y.total = x.total ∧ y.cands = x.cands

theorem State.swap_swapped (s : State) {c : Nat} {h : Hand} (hh : s.handOf (s.hch c).count = some h)
    (hon : (s.asHand (s.hch c).count).enabled 0x38 = true) (hm : (s.asHand (s.hch c).count).f HIST.MODE.MODE ≠ 2)
    (hrun : s.pwr.st = .run) : ∃ y, y.Delivers (s.hch c) ∧ Swapped s (s.swap c) c y := by
  obtain ⟨hchans, hclosed, hfifos, hdeal, hpwr, hmem, hlost, htime⟩ := s.cutDumps_keeps c
  unfold State.swap
  extract_lets x k off s0 s1 s2
  have hoff : off = false := by unfold off; rw [hon]; rfl
  have hs1 : s1 = s0.flashClear (2 * c + (x.count + 1) % 2) := if_pos (hpwr ▸ hrun)
  have hh2 : s2.handOf x.count = some h := by
    rw [State.handOf_congr (s := s) (by unfold s2; rw [hs1]; exact hdeal), hh]
  have hchans2 : s2.hist.chans = setNth s.hist.chans c { count := x.count + 1 } := by
    unfold s2; rw [hs1]; exact congrArg (setNth · c { count := x.count + 1 }) hchans
  have hclosed2 : s2.hist.closed = s.hist.closed := by unfold s2; rw [hs1]; exact hclosed
  have hfifos2 : s2.hist.fifos = s.hist.fifos := by unfold s2; rw [hs1]; exact hfifos
  have hmem2 : ∀ a, s2.rd a = (s.flashClear (2 * c + (x.count + 1) % 2)).rd a := fun a => by
    rw [← State.rd_flashClear_congr hmem hlost, ← hs1]
    exact State.rd_congr rfl rfl a
  have htime2 : s2.time = s.time := by unfold s2; rw [hs1]; exact htime
  clear_value s2
  rw [if_neg fun e => hm e.1, hh2]
  dsimp only
  refine ⟨(x.close off).withShots (h.tileShots c), ⟨rfl, by rw [hoff]; rfl, hoff, rfl, rfl⟩, ?_⟩
  have hbase : ∀ y, Swapped s (s2.setClosed c (s2.closedOf c ++ [y])) c y := fun y => {
    own := fun hc => (State.hch_congr (s := s.setHch c _) hchans2 c).trans (s.hch_setHch_self _ hc)
    others := fun d hd => (State.hch_congr (s := s.setHch c _) hchans2 d).trans (s.hch_setHch_ne _ hd)
    ownClosed := fun hc => by rw [s2.closedOf_setClosed_self _ (by rw [hclosed2]; exact hc), State.closedOf_congr hclosed2]
    othersClosed := fun d hd => by rw [s2.closedOf_setClosed_ne _ hd, State.closedOf_congr hclosed2]
    fifo := fun k => congrArg (nth · k []) hfifos2
    mem := fun a => (State.rd_congr rfl rfl a).trans (hmem2 a)
    time := htime2 }
  split
  · exact hbase _
  · obtain ⟨hown, hothers, hownClosed, hothersClosed, hfifo, hmem, htime⟩ := hbase ((x.close off).withShots (h.tileShots c))
    exact ⟨hown, hothers, hownClosed, hothersClosed, hfifo, fun a => (State.rd_congr rfl rfl a).trans (hmem a), htime⟩

/-- The marker of the last slot closes its channel's hand and opens the other buffer, which then reads zero (R220, R223). -/
theorem markerRetire_swaps {k : Fin 32} {c : Nat} {m : Bool} {rest : List (Nat × OutItem)} {h : Hand}
    (hq : s.fifo k.val = (c, .marker m) :: rest) (hc : c < 384) (hfl : s.hist.fifos.length = 32)
    (hcl : s.hist.chans.length = 384) (hdl : s.hist.closed.length = 384) (hh : s.handOf (s.hch c).count = some h)
    (ho : (s.hch c).slot + 1 ≠ h.openSlots) (hl : h.sEff ≤ (s.hch c).slot + 1)
    (hon : (s.asHand (s.hch c).count).enabled 0x38 = true) (hm : (s.asHand (s.hch c).count).f HIST.MODE.MODE ≠ 2)
    (hrun : s.pwr.st = .run) :
    ∃ t, exec (.markerRetire k) s = .next t ∧ t.fifo k.val = rest ∧ t.hch c = { count := (s.hch c).count + 1 } ∧
      (∃ y, t.closedOf c = s.closedOf c ++ [y] ∧ y.count = (s.hch c).count ∧ y.stage = .swapped ∧ y.off = false ∧
        y.total = (s.hch c).total ∧ y.cands = (s.hch c).cands) ∧
      (∀ b < 2048, t.coarse c ((s.hch c).count + 1) b = 0) ∧ (∀ b < 2048, t.coarse c (s.hch c).count b = s.coarse c (s.hch c).count b) ∧
      (∀ d, d ≠ c → t.hch d = s.hch d ∧ t.closedOf d = s.closedOf d) ∧ t.time = s.time := by
  have hf := s.setFifo_moved k.val rest
  have e := execMarkerRetire_marker hq
  generalize s.setFifo k.val rest = s1 at hf e
  have hmark := s1.retireMarker_eq (c := c) m (by rw [hf.hch, hf.handOf, hh]) (by rw [hf.hch]; exact ho)
  rw [hf.hch, if_pos hl] at hmark
  -- the channel with its last shot counted
  obtain ⟨s2, hs2⟩ : ∃ s2, s2 = s1.setHch c ((s.hch c).marked h m) := ⟨_, rfl⟩
  have hx : s2.hch c = (s.hch c).marked h m := by rw [hs2]; exact s1.hch_setHch_self _ (by rw [hf.chans]; omega)
  have hcount : (s2.hch c).count = (s.hch c).count := by rw [hx]; rfl
  have hdeal : s2.deal = s.deal := by rw [hs2]; exact hf.deal
  have hwords : SameWords s s2 [DEAL.THROTTLE_STAT, hdr 0x10 3] := by rw [hs2]; exact hf.words
  have hmem : ∀ a, s2.rd a = s.rd a := by rw [hs2]; exact hf.mem
  have hclosed : s2.hist.closed = s.hist.closed := by rw [hs2]; exact hf.closed
  have hother : ∀ d, d ≠ c → s2.hch d = s.hch d := fun d hd => by rw [hs2, s1.hch_setHch_ne _ hd, hf.hch]
  have hlen : s2.hist.chans.length = 384 := by rw [hs2]; simp [State.setHch, setNth, hf.chans, hcl]
  obtain ⟨y, ⟨hy1, hy2, hy3, hy4, hy5⟩, hsw⟩ := s2.swap_swapped (c := c) (h := h)
    (by rw [hcount, State.handOf_congr hdeal, hh]) (by rw [hcount, enabled_asHand hdeal hwords, hon])
    (by rw [hcount, mode_asHand hdeal hwords]; exact hm) (by rw [hs2]; exact hf.pwr ▸ hrun)
  have hleft := handsLeft_framesLeave (s2.swap c)
  rw [hmark, ← hs2] at e
  have hclear : ∀ a, (s2.swap c).framesLeave.rd a = (s2.flashClear (2 * c + ((s.hch c).count + 1) % 2)).rd a := fun a => by
    rw [hleft.rd, hsw.mem, hcount]
  have hbuf : ∀ u b, b < 2048 → histBuffer (coarseAddr c u (b / 2)) = 2 * c + u % 2 := fun u b hb =>
    histBuffer_coarseAddr u (by omega)
  refine ⟨_, e, ?_, ?_, ⟨y, ?_, by rw [hy1, hcount], hy2, hy3, by rw [hy4, hx]; rfl, by rw [hy5, hx]; rfl⟩, ?_, ?_, ?_, ?_⟩
  · rw [hleft.fifo, hsw.fifo, hs2]
    exact hf.fifo (by omega)
  · rw [hleft.hch, hsw.own (by omega), hcount]
  · rw [State.closedOf_congr hleft.closed, hsw.ownClosed (by rw [hclosed]; omega), State.closedOf_congr hclosed]
  · intro b hb
    refine State.bin_zero ((hclear _).trans ?_) b
    rw [← hbuf _ b hb]
    exact s2.rd_flashClear_self (memRegion_coarseAddr _ hc (by omega))
  · intro b hb
    refine State.bin_congr ((hclear _).trans ((s2.rd_flashClear_other ?_).trans (hmem _))) b
    rw [hbuf _ b hb]
    omega
  · intro d hd
    exact ⟨by rw [hleft.hch, hsw.others d hd, hother d hd],
      by rw [State.closedOf_congr hleft.closed, hsw.othersClosed d hd, State.closedOf_congr hclosed]⟩
  · rw [hleft.time, hsw.time, hs2]
    exact hf.time

/-! ## A slice whose oldest item is of the other kind, or that has none -/

theorem sliceEventRetire_idle {k : Fin 32} (h : ∀ c w tot q rest, s.fifo k.val ≠ (c, .event w tot q) :: rest) :
    exec (.sliceEventRetire k) s = .next s := by
  change execSliceEventRetire k s = _
  unfold execSliceEventRetire
  split
  · next hq => exact (h _ _ _ _ _ hq).elim
  · rfl

theorem markerRetire_idle {k : Fin 32} (h : ∀ c m rest, s.fifo k.val ≠ (c, .marker m) :: rest) :
    exec (.markerRetire k) s = .next s := by
  change execMarkerRetire k s = _
  unfold execMarkerRetire
  split
  · next hq => exact (h _ _ _ hq).elim
  · rfl

/-! ## The end of trick placement (R225) -/

theorem State.maxF_sameWords (s : State) (x : Fld) (v : Nat) : SameWords s (s.maxF x v) [x.addr] := by
  unfold State.maxF
  split
  · exact (SameWords.refl s _).setF _ (by simp)
  · exact SameWords.refl s _

/-- A field raised reads the larger of what it held and the value, held at the largest the width has room for. -/
theorem State.f_maxF_self (s : State) (x : Fld) (v : Nat) (h : x.lo + x.width ≤ 32) :
    (s.maxF x v).f x = max (s.f x) (satTo x.width v) := by
  have hs : satTo x.width v < 2 ^ x.width := by
    have : 0 < 2 ^ x.width := by positivity
    unfold satTo; split <;> omega
  unfold State.maxF
  split
  · next hlt => rw [State.f_setF_self s x _ h, Nat.mod_eq_of_lt hs, max_eq_right hlt.le]
  · next hge => rw [max_eq_left (by omega)]

theorem trickPlacementDone_live {c : Fin 384} (fclk : Nat) (hp : (s.hch c.val).placing = true)
    (hd : (s.hch c.val).placed = false) (hcl : s.hist.chans.length = 384) :
    ∃ t, exec (.trickPlacementDone c fclk) s = .next t ∧ t.hch c.val = { s.hch c.val with placed := true } ∧
      t.f HIST.PLACE_MAX.MAX = max (s.f HIST.PLACE_MAX.MAX) (min fclk 65535) ∧ (∀ d, d ≠ c.val → t.hch d = s.hch d) ∧
      SameWords s t [HIST.PLACE_MAX] ∧ SameMemory s t ∧ t.time = s.time := by
  have e : exec (.trickPlacementDone c fclk) s =
      .next ((s.setHch c.val { s.hch c.val with placed := true }).maxF HIST.PLACE_MAX.MAX fclk) := by
    change execTrickPlacementDone c fclk s = _
    unfold execTrickPlacementDone
    extract_lets x
    rw [if_neg (by simp [x, hp, hd])]
  refine ⟨_, e, ?_, ?_, ?_, ?_, fun a => ?_, ?_⟩
  · rw [State.hch_congr (congrArg Hist.chans (State.maxF_hist ..)), s.hch_setHch_self _ (by omega)]
  · rw [State.f_maxF_self _ _ _ (by decide)]
    congr 1
    change satTo 16 fclk = _
    unfold satTo
    split <;> omega
  · intro d hne
    rw [State.hch_congr (congrArg Hist.chans (State.maxF_hist ..)), s.hch_setHch_ne _ hne]
  · exact State.maxF_sameWords (s.setHch c.val { s.hch c.val with placed := true }) HIST.PLACE_MAX.MAX fclk
  · exact State.rd_congr (State.maxF_mem ..) (State.maxF_lost ..) a
  · exact State.maxF_time ..

theorem trickPlacementDone_idle {c : Fin 384} (fclk : Nat) (h : (s.hch c.val).placing = false ∨ (s.hch c.val).placed = true) :
    exec (.trickPlacementDone c fclk) s = .next s := by
  change execTrickPlacementDone c fclk s = _
  unfold execTrickPlacementDone
  extract_lets x
  rw [if_pos]
  simpa [x] using h

end

/-- Settles O37: events and markers by what the check of their slice's FIFO leaves (`FifoMoved`), an event by the bins that
count (`BinsCounted`), the last marker by the swap of its channel (`Swapped`). -/
theorem sliceWork : Obligations.SliceWork := by
  refine ⟨?_, ?_, ?_, ?_, ?_, ?_, ?_, ?_⟩
  · intro k c tot w q rest s hq hc hfl hcl hon hm hb _ hrun
    exact sliceEventRetire_counts hq hc hfl hcl hon hm hb hrun
  · intro k c m rest h s hq hc hfl hcl hh ho hl
    exact markerRetire_moves hq hc hfl hcl hh ho hl
  · intro k c m rest h s hq hc hfl hcl hdl hh ho hl hon hm hrun
    exact markerRetire_swaps hq hc hfl hcl hdl hh ho hl hon hm hrun
  · intro k s hq
    exact ⟨sliceEventRetire_idle (by simp [hq]), markerRetire_idle (by simp [hq])⟩
  · intro k c m rest s hq
    exact sliceEventRetire_idle (by simp [hq])
  · intro k c tot w q rest s hq
    exact markerRetire_idle (by simp [hq])
  · intro c fclk s hp hd hcl
    exact trickPlacementDone_live fclk hp hd hcl
  · intro c fclk s h
    exact trickPlacementDone_idle fclk h

end Sys2Proof.Machine
end


section
/-! SUPPORT. Commit events (spec/01 R25, spec/04 R88, R89): what the words of a commit read, that what follows from new
settings writes no setting itself, and a single page whose request takes effect. -/

namespace Sys2Proof.Machine

section
variable {s t u : State} {p : Nat}

/-! ## RWS fields of words -/

/-- The words of the common header from INT_STAT on hold no RWS field (R84). -/
theorem rwsMask_header {a : Nat} (h : 3 ≤ a % 0x400) (h' : a % 0x400 < 0x10) : rwsMask a = 0#32 := by
  have hno : (fieldsAt a).1.all (fun f => !(f.acc == .rws)) = true := by
    unfold fieldsAt
    extract_lets p off
    split
    · rfl
    · have h3 : 3 ≤ off := h
      have h16 : off < 16 := h'
      rw [if_pos ⟨by omega, h16⟩]
      clear_value off
      interval_cases off <;> rfl
  have hz : ∀ (l : List FieldDef) (n : Nat), l.all (fun f => !(f.acc == .rws)) = true →
      l.foldl (fun acc f => if f.acc == .rws then acc + maskOf f.hi f.lo else acc) n = n := by
    intro l
    induction l with
    | nil => exact fun _ _ => rfl
    | cons f l ih =>
      intro n hl
      simp only [List.all_cons, Bool.and_eq_true, Bool.not_eq_true'] at hl
      rw [List.foldl_cons, hl.1]
      exact ih n hl.2
  rw [rwsMask, accMask, fieldMask, hz _ _ hno]

/-- The RWS fields of a merged word are those of the new one. -/
theorem mergeRws_rws (a : Nat) (old new : Word) : mergeRws a old new &&& rwsMask a = new &&& rwsMask a := by
  unfold mergeRws
  ext i hi
  simp
  cases (rwsMask a)[i] <;> simp

/-- A word without RWS fields stays in a merge. -/
theorem mergeRws_of_mask_zero {a : Nat} (h : rwsMask a = 0#32) (old new : Word) : mergeRws a old new = old := by
  unfold mergeRws
  ext i hi
  simp only [h, BitVec.getElem_or, BitVec.getElem_and, BitVec.getElem_not, BitVec.getElem_zero, Bool.not_false, Bool.and_true,
    Bool.and_false, Bool.or_false]

/-- A merge of the word into itself is the word. -/
theorem mergeRws_self (a : Nat) (w : Word) : mergeRws a w w = w := by
  unfold mergeRws
  ext i hi
  simp
  cases (rwsMask a)[i] <;> simp

theorem mergeRws_merged (a : Nat) (old new : Word) : mergeRws a (mergeRws a old new) new = mergeRws a old new := by
  unfold mergeRws
  ext i hi
  simp
  cases (rwsMask a)[i] <;> simp

/-- A merge takes nothing but RWS fields from the new word. -/
theorem mergeRws_congr_new {a : Nat} {new new' : Word} (h : new &&& rwsMask a = new' &&& rwsMask a) (old : Word) :
    mergeRws a old new = mergeRws a old new' := by rw [mergeRws, h, mergeRws]

/-! ## Words of a commit -/

/-- RWS fields put over a list change a word only where it is named. -/
theorem get_putRws_of_notMem (ws : Cells 32) {a : Nat} : ∀ m : Cells 32, (∀ e ∈ ws, e.1 ≠ a) →
    Cells.get resetWord (putRws m ws) a = Cells.get resetWord m a := by
  induction ws with
  | nil => exact fun _ _ => rfl
  | cons e ws ih =>
    intro m h
    obtain ⟨he, hws⟩ := List.forall_mem_cons.1 h
    exact (ih _ hws).trans (Cells.get_set_ne m _ he.symm)

/-- A word named takes the RWS fields of the words that name it, which agree. -/
theorem get_putRws_of_mem (ws : Cells 32) {a : Nat} {v : Word} : ∀ m : Cells 32, (∃ e ∈ ws, e.1 = a) →
    (∀ e ∈ ws, e.1 = a → e.2 = v) → Cells.get resetWord (putRws m ws) a = mergeRws a (Cells.get resetWord m a) v := by
  induction ws with
  | nil => exact fun _ h _ => absurd h (by simp)
  | cons e ws ih =>
    intro m hex hv
    obtain ⟨hve, hvs⟩ := List.forall_mem_cons.1 hv
    change Cells.get resetWord (putRws (Cells.set resetWord m e.1 (mergeRws e.1 (Cells.get resetWord m e.1) e.2)) ws) a = _
    by_cases hin : ∃ x ∈ ws, x.1 = a
    · rw [ih _ hin hvs, Cells.get_set]
      split
      · next he => rw [← he, hve he.symm, mergeRws_merged]
      · rfl
    · have he : e.1 = a := by
        obtain ⟨x, hx, hxa⟩ := hex
        rcases List.mem_cons.1 hx with rfl | hx
        · exact hxa
        · exact absurd ⟨x, hx, hxa⟩ hin
      rw [get_putRws_of_notMem ws _ fun x hx hxa => hin ⟨x, hx, hxa⟩, he, Cells.get_set_self, hve he]

/-- What RWS fields put over a list read depends on the word alone. -/
theorem get_putRws_congr (ws : Cells 32) {a : Nat} : ∀ m m' : Cells 32, Cells.get resetWord m a = Cells.get resetWord m' a →
    Cells.get resetWord (putRws m ws) a = Cells.get resetWord (putRws m' ws) a := by
  induction ws with
  | nil => exact fun _ _ h => h
  | cons e ws ih =>
    intro m m' h
    refine ih _ _ ?_
    rw [Cells.get_set, Cells.get_set]
    split
    · next he => rw [← he, h]
    · exact h

/-- A word that a page's list does not name reads as at reset in both lists. -/
theorem get_of_notMem_listedIn {x y : Cells 32} {a : Nat} (hp : a / 0x400 = p) (h : a ∉ listedIn p x y) :
    Cells.get resetWord x a = resetWord a ∧ Cells.get resetWord y a = resetWord a := by
  have out : ∀ m : Cells 32, (∀ e ∈ m, e.1 ≠ a) → Cells.get resetWord m a = resetWord a := by
    intro m
    induction m with
    | nil => exact fun _ => rfl
    | cons e m ih =>
      intro hm
      obtain ⟨he, hm⟩ := List.forall_mem_cons.1 hm
      rw [Cells.get, if_neg he, ih hm]
  simp only [listedIn, List.mem_append, not_or] at h
  obtain ⟨hx, hy⟩ := h
  have hx' : ∀ e ∈ x, e.1 ≠ a := fun e he hea =>
    hx (List.mem_map.2 ⟨e, List.mem_filter.2 ⟨he, by simp [hea, hp]⟩, hea⟩)
  refine ⟨out x hx', out y fun e he hea => hy (List.mem_map.2 ⟨e, List.mem_filter.2 ⟨he, ?_⟩, hea⟩)⟩
  simp only [hea, hp, beq_self_eq_true, Bool.true_and, Bool.not_eq_true', List.contains_eq_mem, decide_eq_false_iff_not]
  exact hx

theorem mem_listedIn_page {x y : Cells 32} {a : Nat} (h : a ∈ listedIn p x y) : a / 0x400 = p := by
  simp only [listedIn, List.mem_append, List.mem_map, List.mem_filter, Bool.and_eq_true, beq_iff_eq] at h
  rcases h with ⟨e, ⟨_, he⟩, rfl⟩ | ⟨e, ⟨_, he, _⟩, rfl⟩ <;> exact he

/-- A page's shadows put over a list of words. -/
theorem get_putShadow (s : State) (m : Cells 32) (p a : Nat) : Cells.get resetWord (s.putShadow m p) a =
    if a / 0x400 = p then mergeRws a (Cells.get resetWord m a) (s.shad a) else Cells.get resetWord m a := by
  unfold State.putShadow
  by_cases hin : a ∈ listedIn p s.shadow m
  · rw [if_pos (mem_listedIn_page hin)]
    refine get_putRws_of_mem _ m ⟨_, List.mem_map.2 ⟨a, hin, rfl⟩, rfl⟩ fun e he hea => ?_
    obtain ⟨b, _, rfl⟩ := List.mem_map.1 he
    rw [← hea]
  · rw [get_putRws_of_notMem _ m fun e he hea => hin ?_]
    · split
      · next hp =>
        obtain ⟨hs, hm⟩ := get_of_notMem_listedIn hp hin
        rw [State.shad, hs, hm, mergeRws_self]
      · rfl
    · obtain ⟨b, hb, rfl⟩ := List.mem_map.1 he
      exact hea ▸ hb

/-- The words that a page's request changes, put in force: on the page RWS fields take their shadows. -/
theorem get_putRws_changes (s : State) (p a : Nat) : Cells.get resetWord (putRws s.regs (s.changes p)) a =
    if a / 0x400 = p then s.merged a else s.reg a := by
  have hmem : ∀ e ∈ s.changes p, e.1 / 0x400 = p ∧ e.2 = s.merged e.1 := by
    intro e he
    obtain ⟨b, hb, hbe⟩ := List.mem_filterMap.1 he
    split at hbe
    · cases hbe
    · cases hbe
      exact ⟨mem_listedIn_page hb, rfl⟩
  by_cases hin : ∃ e ∈ s.changes p, e.1 = a
  · obtain ⟨e, he, hea⟩ := hin
    rw [if_pos (hea ▸ (hmem e he).1), get_putRws_of_mem (v := s.merged a) _ _ ⟨e, he, hea⟩
      fun x hx hxa => hxa ▸ (hmem x hx).2]
    exact mergeRws_congr_new (mergeRws_rws ..) _
  · rw [get_putRws_of_notMem _ _ fun e he hea => hin ⟨e, he, hea⟩]
    split
    · next hp =>
      by_cases hl : a ∈ listedIn p s.shadow s.regs
      · by_contra hne
        refine hin ⟨(a, s.merged a), List.mem_filterMap.2 ⟨a, hl, if_neg fun h => hne ?_⟩, rfl⟩
        exact h.symm
      · obtain ⟨hs, hr⟩ := get_of_notMem_listedIn hp hl
        rw [State.merged, State.reg, State.shad, hs, hr, mergeRws_self]
    · rfl

end
end Sys2Proof.Machine
end


section
/-! SUPPORT. What follows from new settings or from a change of state (steering, zones, fields, the safety CRC, the end-of-line
run, the link's checkers) writes fields that show the state, and no setting: one lemma for each function, in the order of
the model's files. The lemma about `State.f` is `KeepsSettings.f`, so that a proof follows the definition it is about. -/

namespace Sys2Proof.Machine

/-- No setting changes from `s` to `t`: every RWS field, every generation, every shadow, TIME, the safety lock and the commit
requests are as before, and an event that was raised still is. -/
structure KeepsSettings (s t : State) : Prop where
  rws : ∀ a, t.reg a &&& rwsMask a = s.reg a &&& rwsMask a
  gens : ∀ a, a % 0x400 = 9 ∨ a = CHIP.GEN → t.reg a = s.reg a
  events : ∀ p b, (s.reg (hdr p 3)).getLsbD b = true → (t.reg (hdr p 3)).getLsbD b = true
  shadow : t.shadow = s.shadow
  time : t.time = s.time
  lockOpen : t.lockOpen = s.lockOpen
  commits : t.commits = s.commits
  ispHeld : t.ispHeld = s.ispHeld

/-- A field that shows the state: it shares no bit with an RWS field, and is none of the header's nor the generation. -/
def Fld.Shows (x : Fld) : Prop :=
  x.lo + x.width ≤ 32 ∧ 0x10 ≤ x.addr % 0x400 ∧ x.addr ≠ CHIP.GEN ∧
    (List.range x.width).all (fun i => !(rwsMask x.addr).getLsbD (x.lo + i)) = true

theorem Fld.shows_put {x : Fld} (h : x.Shows) (w : Word) (v : Nat) : x.put w v &&& rwsMask x.addr = w &&& rwsMask x.addr := by
  obtain ⟨hw, _, _, hm⟩ := h
  refine BitVec.eq_of_getLsbD_eq fun i hi => ?_
  rw [BitVec.getLsbD_and, BitVec.getLsbD_and]
  by_cases hb : x.lo ≤ i ∧ i < x.lo + x.width
  · have := List.all_eq_true.1 hm (i - x.lo) (List.mem_range.2 (by omega))
    rw [show x.lo + (i - x.lo) = i by omega, Bool.not_eq_true'] at this
    rw [this, Bool.and_false, Bool.and_false]
  · rw [Fld.put, BitVec.getLsbD_ofNat, putBits_testBit, if_neg hb, decide_eq_true hi, Bool.true_and, BitVec.testBit_toNat]

namespace KeepsSettings
section
variable {s t u : State}

theorem refl (s : State) : KeepsSettings s s :=
  ⟨fun _ => rfl, fun _ _ => rfl, fun _ _ h => h, rfl, rfl, rfl, rfl, rfl⟩

theorem trans (h : KeepsSettings s t) (h' : KeepsSettings t u) : KeepsSettings s u where
  rws a := (h'.rws a).trans (h.rws a)
  gens a ha := (h'.gens a ha).trans (h.gens a ha)
  events p b he := h'.events p b (h.events p b he)
  shadow := h'.shadow.trans h.shadow
  time := h'.time.trans h.time
  lockOpen := h'.lockOpen.trans h.lockOpen
  commits := h'.commits.trans h.commits
  ispHeld := h'.ispHeld.trans h.ispHeld

/-- An update of what stands beside the registers, the shadows, TIME, the lock and the requests. -/
theorem of_eq (hr : t.regs = s.regs) (hs : t.shadow = s.shadow) (ht : t.time = s.time) (hl : t.lockOpen = s.lockOpen)
    (hc : t.commits = s.commits) (hi : t.ispHeld = s.ispHeld) : KeepsSettings s t where
  rws a := by rw [State.reg_congr hr]
  gens a _ := State.reg_congr hr a
  events p b he := by rw [State.reg_congr hr]; exact he
  shadow := hs
  time := ht
  lockOpen := hl
  commits := hc
  ispHeld := hi

theorem update (h : KeepsSettings s t) (hr : u.regs = t.regs := by rfl) (hs : u.shadow = t.shadow := by rfl)
    (ht : u.time = t.time := by rfl) (hl : u.lockOpen = t.lockOpen := by rfl) (hc : u.commits = t.commits := by rfl)
    (hi : u.ispHeld = t.ispHeld := by rfl) : KeepsSettings s u := h.trans (of_eq hr hs ht hl hc hi)

theorem ite {c : Prop} {_ : Decidable c} {a b : State} (ha : KeepsSettings s a) (hb : KeepsSettings s b) :
    KeepsSettings s (if c then a else b) := by
  split
  · exact ha
  · exact hb

/-- A word without RWS field, outside the headers and not the generation. -/
theorem setReg (h : KeepsSettings s t) {a : Nat} (hm : rwsMask a = 0#32) (hoff : 0x10 ≤ a % 0x400) (hgen : a ≠ CHIP.GEN)
    (v : Word) : KeepsSettings s (t.setReg a v) := by
  refine h.trans ⟨fun b => ?_, fun b hb => ?_, fun p c he => ?_, rfl, rfl, rfl, rfl, rfl⟩
  · by_cases hb : b = a
    · rw [hb, hm, BitVec.and_zero, BitVec.and_zero]
    · rw [State.reg_setReg_ne _ _ hb]
  · refine State.reg_setReg_ne _ _ ?_
    rintro rfl
    exact hb.elim (by omega) hgen
  · rw [State.reg_setReg_ne _ _ (by unfold hdr; omega)]
    exact he

theorem setF (h : KeepsSettings s t) {x : Fld} (hx : x.Shows) (v : Nat) : KeepsSettings s (t.setF x v) := by
  have ⟨_, hoff, hgen, _⟩ := hx
  have hne : ∀ a, a % 0x400 < 0x10 ∨ a = CHIP.GEN → a ≠ x.addr := by
    rintro a (ha | rfl) e
    · omega
    · exact hgen e.symm
  refine h.trans ⟨fun a => ?_, fun a ha => ?_, fun p b he => ?_, rfl, rfl, rfl, rfl, rfl⟩
  · by_cases ha : a = x.addr
    · rw [ha, State.reg_setF_self, Fld.shows_put hx]
    · rw [State.reg_setF_ne _ _ _ ha]
  · exact State.reg_setF_ne _ _ _ (hne a (ha.imp_left (by omega)))
  · rw [State.reg_setF_ne _ _ _ (hne _ (.inl (by unfold hdr; omega)))]
    exact he

theorem setB (h : KeepsSettings s t) {x : Fld} (hx : x.Shows) (b : Bool) : KeepsSettings s (t.setB x b) := h.setF hx _
theorem setI (h : KeepsSettings s t) {x : Fld} (hx : x.Shows) (v : Int) : KeepsSettings s (t.setI x v) := h.setF hx _
theorem incF (h : KeepsSettings s t) {x : Fld} (hx : x.Shows) : KeepsSettings s (t.incF x) := h.setF hx _

theorem event (h : KeepsSettings s t) (p b : Nat) : KeepsSettings s (t.event p b) := by
  refine h.trans ⟨fun a => ?_, fun a ha => ?_, fun q c he => ?_, ?_, ?_, ?_, ?_, ?_⟩
  · by_cases ha : a = hdr p 3
    · rw [rwsMask_header (a := a) (by rw [ha, hdr]; omega) (by rw [ha, hdr]; omega), BitVec.and_zero, BitVec.and_zero]
    · rw [State.reg_event_ne _ _ _ ha]
  · refine State.reg_event_ne _ _ _ fun e => ?_
    rw [e] at ha
    rcases ha with ha | ha <;> simp only [hdr, CHIP.GEN] at ha <;> omega
  · rw [State.reg_event]
    split
    · next hq => rw [← hq, BitVec.getLsbD_or, he, Bool.true_or]
    · exact he
  all_goals simp

theorem eventIf (h : KeepsSettings s t) (c : Bool) (p b : Nat) : KeepsSettings s (t.eventIf c p b) := (h.event p b).ite h

/-- A packet that always finds room. -/
theorem sendPacket (h : KeepsSettings s t) {dt : Nat} (hd : dtClass dt < 2) (port gen stamp : Nat) (l : List Word36) :
    KeepsSettings s (t.sendPacket dt port gen stamp l) := by
  obtain ⟨link, e⟩ := t.sendPacket_high hd port gen stamp l
  rw [e]
  exact h.update

theorem foldl {α : Type} {f : State → α → State} (hf : ∀ u x, KeepsSettings s u → KeepsSettings s (f u x)) (l : List α) :
    ∀ {t}, KeepsSettings s t → KeepsSettings s (l.foldl f t) := by
  induction l with
  | nil => exact fun h => h
  | cons x l ih => exact fun h => ih (hf _ x h)

/-! ## Steering (Steer) -/

theorem shows_axis : ∀ a < 2, (STEER.STAT.ACTIVE a).Shows ∧ (STEER.DRIVE.VALUE a).Shows := by
  unfold Fld.Shows; decide +kernel

section
variable {a : Nat} (ha : a < 2)
include ha

theorem stopAxis (h : KeepsSettings s t) (m : AxisMode) : KeepsSettings s (t.stopAxis a m) :=
  h.update.setB (shows_axis a ha).1 false

theorem openAxis (h : KeepsSettings s t) (v : Int) : KeepsSettings s (t.openAxis a v) := stopAxis ha h _
theorem zeroAxis (h : KeepsSettings s t) : KeepsSettings s (t.zeroAxis a) := stopAxis ha h _

theorem closeAxis (h : KeepsSettings s t) (m : AxisMode) : KeepsSettings s (t.closeAxis a m) :=
  (h.setI (shows_axis a ha).2 _).update

theorem axisMode (h : KeepsSettings s t) (m : Nat) : KeepsSettings s (t.axisMode m a) := by
  unfold State.axisMode
  refine ite (zeroAxis ha h) ?_
  split
  · exact openAxis ha h 0
  · exact ite (closeAxis ha h .park) (openAxis ha h _)
  · exact closeAxis ha h .ramp
  · exact closeAxis ha h .locked

end

theorem shows_plaus : STEER.PLAUS.CAUSE.Shows ∧ STEER.PLAUS.PLAUSIBLE.Shows ∧ STEER.PLAUS.UNCERTAIN.Shows ∧
    STEER.PLAUS_CNT.CLEARS.Shows ∧ STEER.PLAUS_CNT.UNCERTAINS.Shows ∧ EMIT.GOV_CTRL.STATIC.Shows := by
  unfold Fld.Shows; decide +kernel

theorem staticNow (h : KeepsSettings s t) : KeepsSettings s t.staticNow := by
  obtain ⟨_, _, _, _, _, hx⟩ := shows_plaus
  exact ite ((h.setB hx true).event 0x12 2) h

theorem markHands (h : KeepsSettings s t) : KeepsSettings s t.markHands := h.update

theorem decidePlaus (h : KeepsSettings s t) (cause : Nat) : KeepsSettings s (t.decidePlaus cause) := by
  obtain ⟨hcause, hplaus, hunc, hclears, huncs, _⟩ := shows_plaus
  unfold State.decidePlaus
  extract_lets s1 run clears _ s2 _ s3 _ s4
  have h1 : KeepsSettings s s1 := h.setF hcause cause
  have h2 : KeepsSettings s s2 := ite h1.update h1
  have h3 : KeepsSettings s s3 := by
    have hclr := (h2.setB hplaus false).event 0x14 2
    exact ite (ite (hclr.incF hclears) hclr) h2
  have h4 : KeepsSettings s s4 := by
    have hset := (h3.setB hunc true).event 0x14 3
    exact ite (ite h3.markHands (ite (hset.incF huncs) hset).markHands) (h3.setB hunc false)
  exact h4.staticNow

theorem replaus (h : KeepsSettings s t) : KeepsSettings s t.replaus := h.decidePlaus _

theorem steerMode (h : KeepsSettings s t) : KeepsSettings s t.steerMode := by
  refine ite h.replaus ?_
  exact ((((h.update).axisMode (by decide) _).axisMode (by decide) _)).replaus

/-! ## Waveform capture (Acquire) -/

theorem adcChanged (h : KeepsSettings s t) (old : State) : KeepsSettings s (t.adcChanged old) :=
  ite h.update (ite (foldl (fun _ _ h1 => h1.update) _ h) (foldl (fun _ _ h1 => h1.update) _ h))

/-! ## Warning zones (Fusion) -/

theorem shows_zones : (ZONE.OCC.OCC 0).Shows ∧ (ZONE.OCC.OCC 1).Shows ∧ (ZONE.UNK.UNK 0).Shows ∧ (ZONE.UNK.UNK 1).Shows := by
  unfold Fld.Shows; decide +kernel

theorem showZones (h : KeepsSettings s t) : KeepsSettings s t.showZones := by
  obtain ⟨h0, h1, k0, k1⟩ := shows_zones
  exact (((h.setF h0 _).setF k0 _).setF h1 _).setF k1 _

theorem zonePacket (h : KeepsSettings s t) (reason frame az : Nat) : KeepsSettings s (t.zonePacket reason frame az) :=
  sendPacket (dt := 0x30) h (by decide) 0 t.gen4 t.timeNs _

theorem zoneCheck (h : KeepsSettings s t) (frame az : Nat) : KeepsSettings s (t.zoneCheck frame az) := by
  refine ite h ?_
  have hshown : KeepsSettings s (t.setZones { t.zone with
      unknown := true, dirty := true, zones := t.zone.zones.map ZoneSt.blind }).showZones :=
    (h.update (u := t.setZones _)).showZones
  exact ite hshown ((hshown.event 0x3B 1).zonePacket 2 frame az)

/-! ## Fields (Field, Supv) -/

theorem safePacket (h : KeepsSettings s t) (reason : Nat) : KeepsSettings s (t.safePacket reason) := by
  unfold State.safePacket
  extract_lets _ s1
  have h1 : KeepsSettings s s1 := ite h h.update
  exact sendPacket (dt := 0x31) h1 (by decide) 0 s1.gen4 s1.timeNs _

theorem shows_field : FIELD.STAT.VIOLATED.Shows ∧ FIELD.STAT.WARN1.Shows ∧ FIELD.STAT.WARN2.Shows ∧ FIELD.STAT.C.Shows := by
  unfold Fld.Shows; decide +kernel

theorem showField (h : KeepsSettings s t) : KeepsSettings s t.showField := by
  obtain ⟨hv, hw1, hw2, hc⟩ := shows_field
  unfold State.showField
  extract_lets v w1 w2 old rises warn s1 s2 s3
  have h1 : KeepsSettings s s1 := ((h.setF hv v).setF hw1 w1).setF hw2 w2
  have h3 : KeepsSettings s s3 := ((h1.setF hc _).eventIf _ 0x09 0).eventIf warn 0x09 1
  exact ite h3 (h3.safePacket 3)

theorem fieldCheck (h : KeepsSettings s t) : KeepsSettings s t.fieldCheck := (ite h h.update).showField

/-! ## The safety CRC and the change log (Supv) -/

theorem updateCrc (h : KeepsSettings s t) : KeepsSettings s t.updateCrc :=
  h.setReg (by decide +kernel) (by decide) (by decide) t.crcNow

theorem withLed (h : KeepsSettings s t) (led : Ledger) : KeepsSettings s { t with led := led } := h.update

theorem ledWrite (h : KeepsSettings s t) (a : Nat) (v : Word36) : KeepsSettings s (t.ledWrite a v) :=
  (h.update (u := t.wr a v)).withLed _

theorem logAppend (h : KeepsSettings s t) (kind : Nat) (before : Word) (a : Nat) :
    KeepsSettings s (t.logAppend kind before a) := by
  unfold State.logAppend
  extract_lets seq ws t'
  have h' : KeepsSettings s t' := foldl (fun _ _ h1 => h1.ledWrite _ _) _ h
  exact h'.withLed _

/-! ## The link (Link) -/

theorem shows_prbs : ∀ l, (prbsLock l).Shows := by
  intro l
  cases l <;> unfold Fld.Shows <;> decide +kernel

theorem tabCommitted (h : KeepsSettings s t) (old : State) : KeepsSettings s (t.tabCommitted old) := by
  have hun : ∀ {u} (l : RxLane), KeepsSettings s u →
      KeepsSettings s (if u.f (prbsSel l) = old.f (prbsSel l) then u else u.setB (prbsLock l) false) :=
    fun l hu => ite hu (hu.setB (shows_prbs l) false)
  exact hun .b (hun .a h)

/-! ## Commits (Commit) -/

theorem shows_eol : CAL.EOL_STAT.BUSY.Shows ∧ CAL.EOL_STAT.RESULT.Shows := by unfold Fld.Shows; decide +kernel

theorem eolAbandon (h : KeepsSettings s t) : KeepsSettings s t.eolAbandon := by
  obtain ⟨hb, hr⟩ := shows_eol
  unfold State.eolAbandon
  split
  · exact h
  · have hcal {x : State} (hx : KeepsSettings s x) (cal : Cal) : KeepsSettings s { x with cal := cal } := hx.update
    exact (hcal ((h.setB hb false).setF hr 3) _).event 0x0C 3

theorem settle (h : KeepsSettings s t) : KeepsSettings s t.settle := by
  unfold State.settle
  extract_lets s1
  have h1 : KeepsSettings s s1 := (h.steerMode.zoneCheck _ _).fieldCheck
  exact ite h1 h1.eolAbandon

theorem countCommit (h : KeepsSettings s t) (old : State) : KeepsSettings s (t.countCommit old) := ite h h.update

end
end KeepsSettings
end Sys2Proof.Machine
end


section
/-! SUPPORT. One request that takes effect alone (R24, R25, R84, R89), on a page whose new settings are followed by nothing
but what shows the state. -/

namespace Sys2Proof.Machine

/-- A page whose commit sets nothing else in motion: the supporting pages, and of the lidar pages ADC. -/
def quietPage (p : Nat) : Bool := camOf p == none && (!lidarPage p || p == 0x31)

/-- The commit event of a page whose request took effect alone. -/
structure PageCommit (s t : State) (p : Nat) : Prop where
  commits : t.commits = []
  rws : ∀ a, a / 0x400 = p → t.reg a &&& rwsMask a = s.shad a &&& rwsMask a
  active : t.f ⟨hdr p 9, 0, 8⟩ = (s.f ⟨hdr p 9, 0, 8⟩ + 1) % 256
  dirty : t.f ⟨hdr p 9, 16, 1⟩ = 0
  done : (t.reg (hdr p 3)).getLsbD 30 = true
  generation : t.f CHIP.GEN.GLOBAL = (s.f CHIP.GEN.GLOBAL + 1) % 65536
  shadow : t.shadow = s.shadow
  time : t.time = s.time
  lockOpen : t.lockOpen = s.lockOpen
  ispHeld : t.ispHeld = s.ispHeld

section
variable {s t : State} {p : Nat} {r : CommitReq}

/-! ## What follows the event -/

theorem quietPage_cases (h : quietPage p = true) :
    p ≠ 0x09 ∧ p ≠ 0x10 ∧ p ≠ 0x11 ∧ p ≠ 0x12 ∧ p ≠ 0x13 ∧ p ≠ 0x14 ∧ p ≠ 0x15 ∧ p ≠ 0x32 ∧ p ≠ 0x38 ∧ p ≠ 0x3A ∧
      layoutPage p = false ∧ camOf p = none := by
  simp only [quietPage, Bool.and_eq_true, Bool.or_eq_true, beq_iff_eq, Bool.not_eq_true', lidarPage, Bool.or_eq_false_iff,
    Bool.and_eq_false_iff, decide_eq_false_iff_not, beq_eq_false_iff_ne] at h
  obtain ⟨hcam, hl⟩ := h
  refine ⟨?_, ?_, ?_, ?_, ?_, ?_, ?_, ?_, ?_, ?_, ?_, hcam⟩
  case refine_11 =>
    simp only [layoutPage, Bool.or_eq_false_iff, beq_eq_false_iff_ne, Bool.and_eq_false_iff, decide_eq_false_iff_not]
    omega
  all_goals omega

theorem KeepsSettings.followPages (h : KeepsSettings s t) (old : State) (hp : quietPage p = true) :
    KeepsSettings s (t.followPages old [p]) := by
  obtain ⟨_, h10, h11, h12, h13, h14, h15, h32, h38, _, _, hcam⟩ := quietPage_cases hp
  have off {q : Nat} (hq : p ≠ q) : List.contains [p] q = false := by simp [hq.symm]
  have e : t.followPages old [p] = (let u := if [p].contains 0x31 then t.adcChanged old else t
      if [p].contains 0x48 then u.tabCommitted old else u) := by
    simp only [State.followPages, off h10, off h11, off h12, off h13, off h14, off h15, off h32, off h38, List.filterMap_cons, hcam,
      List.filterMap_nil, List.foldl_nil, Bool.false_eq_true, if_false]
  rw [e]
  extract_lets u
  have hu : KeepsSettings s u := (h.adcChanged old).ite h
  exact (hu.tabCommitted old).ite hu

theorem KeepsSettings.safetyCommitted (h : KeepsSettings s t) (hp : p ≠ 0x09) : KeepsSettings s (t.safetyCommitted [p]) := by
  have h9 : List.contains [p] 0x09 = false := by simp [hp.symm]
  simp only [State.safetyCommitted, h9, Bool.false_eq_true, if_false]
  exact (h.updateCrc.logAppend _ _ _).ite h.updateCrc

theorem KeepsSettings.afterCommit (h : KeepsSettings s t) (old : State) (hp : quietPage p = true) :
    KeepsSettings s (t.afterCommit old [p]) := by
  obtain ⟨h9, _, _, h12, _, _, _, _, _, h3A, hlay, _⟩ := quietPage_cases hp
  unfold State.afterCommit
  extract_lets s1 s2 s3
  have h1 : KeepsSettings s s1 := h.followPages old hp
  have h2 : KeepsSettings s s2 := by
    have e : s2 = s1 := by simp only [s2, List.any_cons, hlay, List.any_nil, Bool.or_self, Bool.false_eq_true, if_false]
    rw [e]
    exact h1
  have h3 : KeepsSettings s s3 := (h2.safetyCommitted h9).ite (h2.updateCrc.ite h2)
  exact h3.settle

/-! ## The event itself -/

/-- The words of the event before what follows from them: the page's words, the generation and the header (R25, R84). -/
def State.committedPage (s : State) (p : Nat) : State :=
  ({ s with commits := [], regs := putRws s.regs (s.changes p) }.nextGeneration).pageCommitted p false (s.drainedWords (s.changes p))

/-- A request that is pending alone and passes its second check takes effect in one commit event. -/
theorem takeEffect_single (hc : s.commits = [r]) (h44 : r.page ≠ 0x44) (hb : r.begun = false)
    (hj : s.judgeRequest r.page r.boundary true [] = none) : s.takeEffect [r.page] [] =
      ((s.committedPage r.page).afterCommit { s with commits := [] } [r.page]).countCommit { s with commits := [] } := by
  have hreq : s.request r.page = some r := by simp [State.request, hc]
  have hisp {u : State} (hu : u.commits = [r] ∨ u.commits = []) : u.ispDue [] = false := by
    rcases hu with hu | hu <;> simp [State.ispDue, State.request, hu, h44]
  have hcheck : s.checkIspRequest [] = s := by rw [State.checkIspRequest, hisp (.inl hc)]; rfl
  have hsecond : s.secondCheck r.page = s := by
    simp only [State.secondCheck, hreq, hb, hj, Bool.false_eq_true, if_false]
  have htake : s.takeRequests [r.page] =
      ({ s with commits := [] }, [{ page := r.page, global := r.global, words := s.changes r.page }]) := by
    simp [State.takeRequests, hsecond, hreq, hc]
  rw [State.takeEffect, hcheck, htake]
  dsimp only
  rw [State.takeIsp, hisp (.inr rfl)]
  rfl

/-! ## What the words read after the event -/

/-- A word that is not the generation nor one of the page's header that the event writes. -/
theorem committedPage_reg {a : Nat} (h8 : a ≠ hdr p 8) (h9 : a ≠ hdr p 9) (h3 : a ≠ hdr p 3) (hg : a ≠ CHIP.GEN) :
    (s.committedPage p).reg a = if a / 0x400 = p then s.merged a else s.reg a := by
  rw [State.committedPage, State.pageCommitted, State.reg_event_ne _ _ _ h3, State.reg_setF_ne _ _ _ h8,
    State.reg_setReg_ne _ _ h9, State.nextGeneration, State.reg_setF_ne _ _ _ hg]
  exact get_putRws_changes s p a

/-- A word without RWS field reads the same in the words to come. -/
theorem putRws_changes_of_mask_zero {a : Nat} (h : rwsMask a = 0#32) :
    Cells.get resetWord (putRws s.regs (s.changes p)) a = s.reg a := by
  rw [get_putRws_changes, State.merged, mergeRws_of_mask_zero h, ite_self]

theorem committedPage_gen9 (p : Nat) : (s.committedPage p).reg (hdr p 9) = BitVec.ofNat 32 (((s.reg (hdr p 9)).toNat + 1) % 256) := by
  have h9 : (State.nextGeneration { s with commits := [], regs := putRws s.regs (s.changes p) }).reg (hdr p 9) = s.reg (hdr p 9) := by
    rw [State.nextGeneration, State.reg_setF_ne _ _ _ (by simp only [hdr, CHIP.GEN.GLOBAL, CHIP.GEN]; omega)]
    exact putRws_changes_of_mask_zero (rwsMask_header (by simp only [hdr]; omega) (by simp only [hdr]; omega))
  rw [State.committedPage, State.pageCommitted, State.reg_event_ne _ _ _ (hdr_ne p (by decide)),
    State.reg_setF_ne _ _ _ (hdr_ne p (by decide)), State.reg_setReg_self, h9]
  rfl

theorem committedPage_global (p : Nat) : (s.committedPage p).f CHIP.GEN.GLOBAL = (s.f CHIP.GEN.GLOBAL + 1) % 65536 := by
  have hgen : State.f { s with commits := [], regs := putRws s.regs (s.changes p) } CHIP.GEN.GLOBAL = s.f CHIP.GEN.GLOBAL := by
    rw [State.f, State.f]
    exact congrArg _ (putRws_changes_of_mask_zero (by decide +kernel))
  have hne (i : Nat) (hi : i < 0x10) : CHIP.GEN.GLOBAL.addr ≠ hdr p i := by simp only [hdr, CHIP.GEN.GLOBAL, CHIP.GEN]; omega
  rw [State.committedPage, State.pageCommitted, State.f_event _ _ _ (hne 3 (by decide)), State.f_setF_word _ _ _ _ (hne 8 (by decide)),
    State.f_setReg_ne _ _ _ (hne 9 (by decide)), State.nextGeneration, State.f_setF_self _ _ _ (by decide), hgen]
  rfl

theorem committedPage_rws {a : Nat} (ha : a / 0x400 = p) : (s.committedPage p).reg a &&& rwsMask a = s.shad a &&& rwsMask a := by
  by_cases hh : a = hdr p 8 ∨ a = hdr p 9 ∨ a = hdr p 3 ∨ a = CHIP.GEN
  · have hm : rwsMask a = 0#32 := by
      rcases hh with rfl | rfl | rfl | rfl
      case inr.inr.inr => decide +kernel
      all_goals exact rwsMask_header (by simp only [hdr]; omega) (by simp only [hdr]; omega)
    rw [hm, BitVec.and_zero, BitVec.and_zero]
  · obtain ⟨h8, h9, h3, hg⟩ := not_or.1 hh |>.imp_right fun h => not_or.1 h |>.imp_right fun h => not_or.1 h
    rw [committedPage_reg h8 h9 h3 hg, if_pos ha]
    exact mergeRws_rws ..

theorem committedPage_done (p : Nat) : ((s.committedPage p).reg (hdr p 3)).getLsbD 30 = true := by
  rw [State.committedPage, State.pageCommitted, State.reg_event_self, BitVec.getLsbD_or]
  simp

theorem committedPage_rest (p : Nat) : (s.committedPage p).commits = [] ∧ (s.committedPage p).shadow = s.shadow ∧
    (s.committedPage p).time = s.time ∧ (s.committedPage p).lockOpen = s.lockOpen ∧ (s.committedPage p).ispHeld = s.ispHeld := by
  simp [State.committedPage, State.pageCommitted, State.nextGeneration]

/-- A page of which nothing else follows commits alone (R24, R25, R84). -/
theorem takeEffect_pageCommit (hc : s.commits = [r]) (hq : quietPage r.page = true) (h44 : r.page ≠ 0x44) (hb : r.begun = false)
    (hj : s.judgeRequest r.page r.boundary true [] = none) : PageCommit s (s.takeEffect [r.page] []) r.page := by
  have hk : KeepsSettings (s.committedPage r.page) (s.takeEffect [r.page] []) := by
    rw [takeEffect_single hc h44 hb hj]
    exact ((KeepsSettings.refl _).afterCommit _ hq).countCommit _
  have h9 : (s.takeEffect [r.page] []).reg (hdr r.page 9) = _ :=
    (hk.gens _ (.inl (by simp only [hdr]; omega))).trans (committedPage_gen9 r.page)
  obtain ⟨hcommits, hshadow, htime, hlock, hheld⟩ := committedPage_rest (s := s) r.page
  refine ⟨hk.commits.trans hcommits, fun a ha => (hk.rws a).trans (committedPage_rws ha), ?_, ?_, hk.events _ _ (committedPage_done _), ?_,
    hk.shadow.trans hshadow, hk.time.trans htime, hk.lockOpen.trans hlock, hk.ispHeld.trans hheld⟩
  · rw [State.f, h9, State.f]
    simp only [Fld.get, bitsOf, BitVec.toNat_ofNat]
    omega
  · rw [State.f, h9]
    simp only [Fld.get, bitsOf, BitVec.toNat_ofNat]
    omega
  · exact (congrArg CHIP.GEN.GLOBAL.get (hk.gens CHIP.GEN (.inr rfl))).trans (committedPage_global r.page)

end
end Sys2Proof.Machine
end


section
/-! SUPPORT. Commit requests (spec/04 R88, R90): what posting and withdrawing a request leave alone, and the second check of a
supporting page. -/

namespace Sys2Proof.Machine

section
variable {s t u : State} {p : Nat} {r : CommitReq}

/-! ## Requests and their frames -/

/-- A frame on the bus of the LDBs touches nothing else. -/
theorem putBus_eq (s : State) (addr : Option Nat) (type : Nat) (l : List Nat) : ∃ ldb, s.putBus addr type l = { s with ldb := ldb } := by
  unfold State.putBus
  split
  · exact ⟨_, rfl⟩
  · exact ⟨_, rfl⟩

theorem maintStart_eq (s : State) : ∃ ldb, s.maintStart = { s with ldb := ldb } := by
  have hframe {v : State} (h : ∃ ldb, v = { s with ldb := ldb }) (f : Option MaintFrame) (c : Bool) :
      ∃ ldb, { v with ldb := { v.ldb with frame := f, changing := c } } = { s with ldb := ldb } := by
    obtain ⟨_, rfl⟩ := h
    exact ⟨_, rfl⟩
  unfold State.maintStart
  split
  · exact ⟨_, rfl⟩
  · split
    · exact ⟨_, rfl⟩
    · exact hframe (putBus_eq ..) _ _

/-- The frames of a change touch nothing but the LDBs (R143). -/
theorem changeFrames_eq (s : State) (p : Nat) : ∃ ldb, s.changeFrames p = { s with ldb := ldb } := by
  unfold State.changeFrames State.queueChanges
  split
  · split
    · exact ⟨_, rfl⟩
    · obtain ⟨ldb, e⟩ := maintStart_eq { s with ldb := _ }
      exact ⟨ldb, e⟩
  · exact ⟨_, rfl⟩

/-- A request withdrawn goes with its frames, and nothing else changes. -/
theorem dropRequest_eq (s : State) (p : Nat) : ∃ ldb, s.dropRequest p = { s with
    commits := s.commits.filter fun c => c.page != p
    ldb := ldb } := ⟨_, rfl⟩

/-- A request accepted waits at the end of the pending ones, in the place of an earlier one of its page (R24). -/
theorem acceptRequest_eq (s : State) (hp : r.page = p) (h44 : p ≠ 0x44) : ∃ ldb, s.acceptRequest r = { s.setF ⟨hdr p 8, 9, 1⟩ 0 with
    commits := (s.commits.filter fun c => c.page != p) ++ [r]
    ldb := ldb } := by
  subst hp
  have hset (cs : List CommitReq) (ldb : Ldb) (x : Fld) (v : Nat) :
      State.setF { s with commits := cs, ldb := ldb } x v = { s.setF x v with commits := cs, ldb := ldb } := rfl
  have hwait {u v : State} {cs : List CommitReq} {ldb : Ldb} (hu : u = { v with commits := cs, ldb := ldb }) :
      ∃ ldb, State.changeFrames { u with commits := u.commits ++ [r] } r.page = { v with commits := cs ++ [r], ldb := ldb } := by
    obtain ⟨_, hf⟩ := changeFrames_eq { u with commits := u.commits ++ [r] } r.page
    rw [hf, hu]
    exact ⟨_, rfl⟩
  obtain ⟨_, hd⟩ := dropRequest_eq s r.page
  rw [State.acceptRequest, if_neg fun h => h44 h.1]
  dsimp only
  rw [if_neg h44, hd]
  exact hwait (hset ..)

theorem request_none_of (h : ∀ c ∈ s.commits, c.page ≠ p) : s.request p = none := by
  rw [State.request, List.find?_eq_none]
  exact fun c hc e => h c hc (by simpa using e)

/-- With no ISP request pending there is no commit event of no pages. -/
theorem takeEffect_nil (h : ∀ c ∈ s.commits, c.page ≠ 0x44) : s.takeEffect [] [] = s := by
  have hdue : s.ispDue [] = false := by rw [State.ispDue, request_none_of h]; rfl
  have htake : s.takeRequests [] = (s, []) := by simp [State.takeRequests]
  rw [State.takeEffect, State.checkIspRequest, hdue, if_neg (by decide), htake]
  dsimp only
  rw [State.takeIsp, hdue]
  simp [State.commitEvent, State.countCommit, putRws]

theorem ispNow_nil (h : ∀ c ∈ s.commits, c.page ≠ 0x44) : s.ispNow = [] := by rw [State.ispNow, request_none_of h]

theorem idleCommits_eq_self (h : ∀ c ∈ s.commits, camOf c.page = none ∧ c.page ≠ 0x44) : s.idleCommits = s := by
  have hps : (s.commits.filter fun r => decide (r.boundary ≤ 1) && (camOf r.page).any s.portIdle) = [] := by
    rw [List.filter_eq_nil_iff]
    intro c hc
    rw [(h c hc).1]
    simp
  rw [State.idleCommits, hps, ispNow_nil fun c hc => (h c hc).2]
  rfl

theorem postHeld_eq_self (h : s.ispHeld = none) : s.postHeld = s := by rw [State.postHeld, h]

/-! ## The second check of a supporting page -/

/-- The words to come, from the words in force. -/
theorem get_foldl_latched {a : Nat} (ls : List Latched) : ∀ {m m' : Cells 32}, Cells.get resetWord m a = Cells.get resetWord m' a →
    Cells.get resetWord (ls.foldl (fun m l => putRws m l.words) m) a =
      Cells.get resetWord (ls.foldl (fun m l => putRws m l.words) m') a := by
  induction ls with
  | nil => exact fun h => h
  | cons l ls ih => exact fun h => ih (get_putRws_congr l.words _ _ h)

/-- The states agree but for COMMIT of a page. -/
def SameButCommit (s t : State) (p : Nat) : Prop := ∀ a, a ≠ hdr p 8 → t.reg a = s.reg a

theorem SameButCommit.f (h : SameButCommit s t p) {x : Fld} (hx : x.addr ≠ hdr p 8) : t.f x = s.f x := by
  rw [State.f, h _ hx, State.f]

theorem checkSafe_congr {o o' n n' : State} (ho : SameButCommit o o' 0x08) (hlock : o'.lockOpen = o.lockOpen)
    (hn : SameButCommit n n' 0x08) : checkSafe o' n' = checkSafe o n := by
  have hsin (k : Nat) : n'.f (SAFE.SIN.FUNC k) = n.f (SAFE.SIN.FUNC k) ∧ n'.f (SAFE.SIN.TEST k) = n.f (SAFE.SIN.TEST k) := by
    constructor <;> exact hn.f (by simp only [SAFE.SIN.FUNC, SAFE.SIN.TEST, SAFE.SIN, hdr]; omega)
  have hused : n'.funcUsed = n.funcUsed := by
    funext c
    simp only [State.funcUsed, hsin]
  have htest : n'.funcTest = n.funcTest := by
    funext c
    simp only [State.funcTest, hsin]
  have hassign : n'.assignBad = n.assignBad := by simp only [State.assignBad, hused, htest, hsin]
  have htimes : n'.timesBad = n.timesBad := by
    rw [State.timesBad, hn.f (by decide), hn.f (by decide), hn.f (by decide), hn.f (by decide), hn.f (by decide),
      hn.f (by decide), hn.f (by decide), State.timesBad]
  have hmode : o'.modeActive = o.modeActive := by rw [State.modeActive, State.fb, ho.f (by decide), State.modeActive, State.fb]
  rw [checkSafe, State.commissioned, hmode, hlock, hassign, htimes, checkSafe, State.commissioned]

theorem checkCal_congr {n n' : State} (hn : SameButCommit n n' 0x0C) : checkCal n' = checkCal n := by
  rw [checkCal, hn.f (by decide), hn.f (by decide), hn.f (by decide), checkCal]

theorem checkTab_congr {o o' n n' : State} (ho : SameButCommit o o' 0x48) (hpwr : o'.pwr = o.pwr)
    (hn : SameButCommit n n' 0x48) : checkTab o' n' = checkTab o n := by
  have hprbs : prbsBad o' n' = prbsBad o n := by
    rw [prbsBad, hn.f (by decide), ho.f (by decide), ho.f (by decide), hpwr, prbsBad]
  rw [checkTab, hn.f (by decide), hn.f (by decide), hprbs, checkTab]

/-- The check of a supporting page does not look at COMMIT (R88). -/
theorem pageCodes_congr {o o' n n' : State} (hl : lidarPage p = false) (hcam : camOf p = none) (h44 : p ≠ 0x44)
    (ho : SameButCommit o o' p) (hpwr : o'.pwr = o.pwr) (hlock : o'.lockOpen = o.lockOpen) (hn : SameButCommit n n' p) (b : Nat) (late late' : Bool) :
    pageCodes o' n' p b late' = pageCodes o n p b late := by
  have hen : n'.enabled p = n.enabled p := by rw [State.enabled, hn _ (hdr_ne p (by decide)), State.enabled]
  simp only [lidarPage, Bool.or_eq_false_iff, Bool.and_eq_false_iff, decide_eq_false_iff_not, beq_eq_false_iff_ne] at hl
  have hc : ¬ (0x40 ≤ p ∧ p ≤ 0x43) := by
    intro h
    simp [camOf, h] at hcam
  unfold pageCodes
  rw [hen, if_neg (by omega), if_neg (by omega), if_neg hc, if_neg (by omega), if_neg (by omega), if_neg hc]
  congr 1
  split
  case h_1 => exact checkSafe_congr ho hlock hn
  case h_3 => exact checkCal_congr hn
  case h_18 => exact checkTab_congr ho hpwr hn
  case h_19 => rfl
  all_goals omega

/-- A supporting page that passes its check as its request is posted passes the second one, which it meets at once. -/
theorem judgeRequest_second {b : Nat} (hl : lidarPage p = false) (hcam : camOf p = none) (h44 : p ≠ 0x44)
    (hcs : s.commits = []) (hct : t.commits = [r]) (hr : r.page = p) (hregs : SameButCommit s t p) (hsh : t.shadow = s.shadow)
    (hlat : t.latched = s.latched) (hpwr : t.pwr = s.pwr) (hlock : t.lockOpen = s.lockOpen) :
    t.judgeRequest p b true [] = s.judgeRequest p b false [p] := by
  have hn : SameButCommit (s.proposed [p]) (t.proposed []) p := by
    intro a ha
    have hnext : t.asNext.reg a = s.asNext.reg a := by
      simp only [State.asNext, State.reg, hlat]
      exact get_foldl_latched _ (hregs a ha)
    have hshad : t.shad a = s.shad a := by rw [State.shad, hsh, State.shad]
    simp only [State.proposed, hcs, hct, List.map_nil, List.map_cons, List.nil_append, List.singleton_append, List.foldl_cons,
      List.foldl_nil, hr, State.reg, get_putShadow, hshad]
    rw [show Cells.get resetWord t.asNext.regs a = Cells.get resetWord s.asNext.regs a from hnext]
  rw [State.judgeRequest, State.judgeRequest, pageCodes_congr hl hcam h44 hregs hpwr hlock hn]

/-! ## Posting -/

/-- The request that a write of COMMIT posts. -/
def newRequest (src : Port) (p b : Nat) : CommitReq :=
  { page := p, boundary := b, global := false, armed := false, ports := [], src := portSrc src }

/-- What a write of COMMIT leaves before anything takes effect: the request waits, with its boundary, and REFUSED is clear. -/
structure RequestPosted (s t : State) (src : Port) (p b : Nat) : Prop where
  commits : t.commits = [newRequest src p b]
  boundary : t.f ⟨hdr p 8, 0, 2⟩ = b
  notRefused : t.f ⟨hdr p 8, 9, 1⟩ = 0
  words : SameWords s t [hdr p 8]
  memory : SameMemory s t
  shadow : t.shadow = s.shadow
  latched : t.latched = s.latched
  time : t.time = s.time
  pwr : t.pwr = s.pwr
  lockOpen : t.lockOpen = s.lockOpen
  ispHeld : t.ispHeld = s.ispHeld

theorem RequestPosted.of_words {src : Port} {b : Nat} (hword : SameWords s u [hdr p 8]) (hbound : u.f ⟨hdr p 8, 0, 2⟩ = b)
    (hclear : u.f ⟨hdr p 8, 9, 1⟩ = 0) (hrest : u.mem = s.mem ∧ u.lost = s.lost ∧ u.shadow = s.shadow ∧ u.latched = s.latched ∧
      u.time = s.time ∧ u.pwr = s.pwr ∧ u.lockOpen = s.lockOpen ∧ u.ispHeld = s.ispHeld) (ldb : Ldb) :
    RequestPosted s { u with commits := [newRequest src p b], ldb := ldb } src p b := by
  obtain ⟨hm, hlo, hs, hla, ht, hpw, hlk, hi⟩ := hrest
  exact ⟨rfl, hbound, hclear, hword, State.rd_congr hm hlo, hs, hla, ht, hpw, hlk, hi⟩

theorem acceptRequest_posted {src : Port} {b : Nat} (hb : b < 4) (hc : s.commits = []) (h44 : p ≠ 0x44) :
    RequestPosted s ((s.setF ⟨hdr p 8, 0, 2⟩ b).acceptRequest (newRequest src p b)) src p b := by
  obtain ⟨ldb, e⟩ := acceptRequest_eq (s := s.setF ⟨hdr p 8, 0, 2⟩ b) (r := newRequest src p b) (p := p) rfl h44
  rw [State.setF_commits, hc] at e
  rw [e]
  refine .of_words (((SameWords.refl s _).setF b (by simp)).setF 0 (by simp)) ?_ ?_ (by simp) ldb
  · rw [State.f_setF_ne _ ⟨hdr p 8, 9, 1⟩ ⟨hdr p 8, 0, 2⟩ _ (by simp) rfl (by simp), State.f_setF_self _ _ _ (by simp)]
    exact Nat.mod_eq_of_lt hb
  · rw [State.f_setF_self _ _ _ (by simp), Nat.zero_mod]

/-- The request posted passes the second check as it passed the first. -/
theorem judgeRequest_posted {src : Port} {b : Nat} (h : RequestPosted s t src p b) (hl : lidarPage p = false) (hcam : camOf p = none)
    (h44 : p ≠ 0x44) (hc : s.commits = []) :
    t.judgeRequest p b true [] = (s.setF ⟨hdr p 8, 0, 2⟩ b).judgeRequest p b false [p] :=
  judgeRequest_second hl hcam h44 hc h.commits rfl
    (fun a ha => (h.words a (by simpa using ha)).trans (State.reg_setF_ne _ _ _ ha).symm) h.shadow h.latched h.pwr h.lockOpen

/-- Nothing more happens to a request that waits alone (R24). -/
theorem post_waits {src : Port} {b : Nat} (h : RequestPosted s t src p b) (hl : lidarPage p = true) (hb : b ≠ 0)
    (hheld : s.ispHeld = none) : ((t.takeEffect (([newRequest src p b].filter t.dueNow).map (·.page)) t.ispNow).idleCommits).postHeld = t := by
  have hlidar : camOf p = none ∧ p ≠ 0x44 := by
    simp only [lidarPage, Bool.or_eq_true, Bool.and_eq_true, decide_eq_true_eq, beq_iff_eq] at hl
    exact ⟨if_neg (by omega), by omega⟩
  have hpages : ∀ c ∈ t.commits, camOf c.page = none ∧ c.page ≠ 0x44 := by
    rw [h.commits]
    simpa [newRequest] using hlidar
  have hdue : t.dueNow (newRequest src p b) = false := by simp [State.dueNow, newRequest, hl, hb]
  rw [List.filter_cons_of_neg (by simp [hdue]), ispNow_nil fun c hc => (hpages c hc).2]
  change ((t.takeEffect [] []).idleCommits).postHeld = t
  rw [takeEffect_nil fun c hc => (hpages c hc).2, idleCommits_eq_self hpages, postHeld_eq_self (h.ispHeld.trans hheld)]

end
end Sys2Proof.Machine
end


section
/-! SUPPORT. Commit requests posted and withdrawn by the host (spec/04 R88, R90). -/

namespace Sys2Proof.Machine

section
variable {s t u : State} {p : Nat} {r : CommitReq}

/-- A write of COMMIT whose check passes: the request is accepted, and what is due then takes effect. -/
theorem execCommitRequest_accepted {src : Port} {p : Fin 256} {b : Fin 4} (ha : assigned p.val = true) (h44 : p.val ≠ 0x44)
    (hj : (s.setF ⟨hdr p.val 8, 0, 2⟩ b.val).judgeRequest p.val b.val false [p.val] = none)
    (ht : (s.setF ⟨hdr p.val 8, 0, 2⟩ b.val).acceptRequest (newRequest src p.val b.val) = t) :
    exec (.commitRequest src p b) s = .next
      ((t.takeEffect (([newRequest src p.val b.val].filter t.dueNow).map (·.page)) t.ispNow).idleCommits).postHeld := by
  change execCommitRequest src p b s = _
  rw [execCommitRequest, State.commitWrite, if_pos ha, State.post, if_neg fun h => h44 h.1, hj]
  subst ht
  rfl

/-- Facts on a commit event, from a state that differs in COMMIT alone. -/
theorem PageCommit.of_posted {src : Port} {b : Nat} (h : PageCommit t u p) (hp : RequestPosted s t src p b) : PageCommit s u p := by
  obtain ⟨hc, hr, ha, hd, hdone, hg, hsh, ht, hl, hi⟩ := h
  have hf {x : Fld} (hx : x.addr ≠ hdr p 8) : t.f x = s.f x := hp.words.f (by simpa using hx)
  have hshad (a : Nat) : t.shad a = s.shad a := by rw [State.shad, hp.shadow, State.shad]
  refine ⟨hc, fun a hpa => hshad a ▸ hr a hpa, ?_, hd, hdone, ?_, hsh.trans hp.shadow, ht.trans hp.time, hl.trans hp.lockOpen,
    hi.trans hp.ispHeld⟩
  · rw [ha, hf (hdr_ne p (by decide))]
  · rw [hg, hf (by simp only [hdr, CHIP.GEN.GLOBAL, CHIP.GEN]; omega)]

/-- A request of a supporting page, which takes effect as it is accepted (R24, R25). -/
theorem post_commits {src : Port} {b : Nat} (h : RequestPosted s t src p b) (hl : lidarPage p = false) (hcam : camOf p = none)
    (h44 : p ≠ 0x44) (hb : b < 3) (hheld : s.ispHeld = none) (hj : t.judgeRequest p b true [] = none) :
    PageCommit s ((t.takeEffect (([newRequest src p b].filter t.dueNow).map (·.page)) t.ispNow).idleCommits).postHeld p := by
  have hdue : t.dueNow (newRequest src p b) = true := by
    simp [State.dueNow, newRequest, hl, hcam, h44, Nat.le_of_lt_succ hb]
  have hnow : t.ispNow = [] := ispNow_nil (by rw [h.commits]; simpa [newRequest] using h44)
  have hq : quietPage p = true := by simp [quietPage, hcam, hl]
  have heff : PageCommit t (t.takeEffect [p] []) p :=
    takeEffect_pageCommit (r := newRequest src p b) h.commits hq h44 rfl hj
  rw [List.filter_cons_of_pos hdue, hnow]
  change PageCommit s ((t.takeEffect [p] []).idleCommits).postHeld p
  rw [idleCommits_eq_self (by simp [heff.commits]), postHeld_eq_self (heff.ispHeld.trans (h.ispHeld.trans hheld))]
  exact heff.of_posted h

/-! ## Refusals and withdrawals -/

/-- What a request refused shows (R88): REFUSED, COMMIT_REFUSED, and the page's error with its code. -/
structure RefusalShown (s t : State) (p c src : Nat) : Prop where
  refused : t.f ⟨hdr p 8, 9, 1⟩ = 1
  intStat : t.reg (hdr p 3) = s.reg (hdr p 3) ||| 0xA0000000
  count : t.f ⟨hdr p 7, 0, 16⟩ = satAdd 16 (s.f ⟨hdr p 7, 0, 16⟩) 1
  cause : t.reg (hdr p 6) = if (s.reg (hdr p 3)).getLsbD 31 then s.reg (hdr p 6) else errWord c src p 8
  words : SameWords s t [hdr p 3, hdr p 6, hdr p 7, hdr p 8]
  events : OnlyEvents s t

theorem commitRefused_shown (s : State) (p c src : Nat) : RefusalShown s (s.commitRefused p c src) p c src := by
  have h1 : SameWords s (s.setF ⟨hdr p 8, 9, 1⟩ 1) [hdr p 8] := (SameWords.refl s _).setF 1 (by simp)
  have hset : (s.setF ⟨hdr p 8, 9, 1⟩ 1).f ⟨hdr p 8, 9, 1⟩ = 1 := State.f_setF_self _ _ _ (by simp)
  have hev1 : OnlyEvents s (s.setF ⟨hdr p 8, 9, 1⟩ 1) := (OnlyEvents.refl s).setF _ _
  unfold State.commitRefused
  generalize s.setF ⟨hdr p 8, 9, 1⟩ 1 = u at *
  have h3 : u.reg (hdr p 3) = s.reg (hdr p 3) := h1 _ (by simp [hdr])
  have h6 : u.reg (hdr p 6) = s.reg (hdr p 6) := h1 _ (by simp [hdr])
  have h7 : u.f ⟨hdr p 7, 0, 16⟩ = s.f ⟨hdr p 7, 0, 16⟩ := h1.f (by simp [hdr])
  have herr := State.errAt_sameWords u p c src p 8
  refine ⟨?_, ?_, ?_, ?_, ?_, ?_⟩
  · rw [State.f_event _ _ _ (hdr_ne p (by decide)), herr.f (by simp [hdr]), hset]
  · rw [State.reg_event_self, show (u.errAt p c src p 8).reg (hdr p 3) = _ from State.errAt_intStat u p c src p 8, h3, BitVec.or_assoc]
    rfl
  · rw [State.f_event _ _ _ (hdr_ne p (by decide)), State.errAt_count, h7]
  · rw [State.reg_event_ne _ _ _ (hdr_ne p (by decide)), State.errAt_cause, h3, h6]
  · exact ((h1.mono (by simp)).trans (herr.mono (by simp))).event 29 (by simp)
  · exact (hev1.trans (State.errAt_onlyEvents ..)).event p 29

/-- A change of COMMIT before the refusal is not seen elsewhere. -/
theorem RefusalShown.of_commit {c src : Nat} (h : RefusalShown u t p c src) (hw : SameWords s u [hdr p 8]) (he : OnlyEvents s u) :
    RefusalShown s t p c src := by
  obtain ⟨hrefused, hint, hcount, hcause, hwords, hevents⟩ := h
  rw [hw (hdr p 3) (by simp [hdr])] at hint hcause
  rw [hw (hdr p 6) (by simp [hdr])] at hcause
  rw [hw.f (by simp [hdr])] at hcount
  exact ⟨hrefused, hint, hcount, hcause, (hw.mono (by simp)).trans hwords, he.trans hevents⟩

/-- CANCEL leaves the requests of the other pages, and of its own none that has not begun (R90). -/
theorem cancel_withdraws (h : ∀ r ∈ s.commits, r.page = p → r.begun = false) : ∃ ldb, s.cancel p = { s with
    commits := s.commits.filter fun c => c.page != p
    ldb := ldb } := by
  rw [State.cancel]
  split
  · next hno =>
    have hf : (s.commits.filter fun c => c.page != p) = s.commits := by
      rw [List.filter_eq_self]
      intro c hc
      simpa using List.find?_eq_none.1 hno c hc
    rw [hf]
    exact ⟨_, rfl⟩
  · next r hr =>
    rw [h r (List.mem_of_find?_eq_some hr) (by simpa using List.find?_some hr), if_neg (by decide)]
    exact dropRequest_eq s p

end

/-- Settles O23: a request of a lidar page waits (`RequestPosted`), one of a supporting page passes the second check as it
passed the first and commits alone (`PageCommit`), a refused one raises errors and events, and CANCEL filters the requests. -/
theorem commitRequests : Obligations.CommitRequests := by
  refine ⟨?_, ?_, ?_, ?_⟩
  · intro src p b s ha hl hb hc hheld hj
    have h44 : p.val ≠ 0x44 := by
      rintro h
      rw [h] at hl
      exact absurd hl (by decide)
    have hpost := acceptRequest_posted (src := src) b.isLt hc h44
    refine ⟨_, execCommitRequest_accepted ha h44 hj rfl, ?_⟩
    rw [post_waits hpost hl hb hheld]
    exact ⟨hpost.commits, hpost.boundary, hpost.notRefused, hpost.words, hpost.memory, hpost.shadow, hpost.latched, hpost.time⟩
  · intro src p b s ha hl hcam h44 hb hc hheld hj
    have hpost := acceptRequest_posted (src := src) b.isLt hc h44
    have hj' := (judgeRequest_posted hpost hl hcam h44 hc).trans hj
    refine ⟨_, execCommitRequest_accepted ha h44 hj rfl, ?_⟩
    obtain ⟨hcs, hrws, hactive, hdirty, hdone, hgen, hsh, ht, hlock, _⟩ :=
      post_commits hpost hl hcam h44 (by omega) hheld hj'
    exact ⟨hcs, hrws, hactive, hdirty, hdone, hgen, hsh, ht, hlock⟩
  · intro src p b c s ha h44 hj
    obtain ⟨hrefused, hint, hcount, hcause, hwords, hevents⟩ :=
      (commitRefused_shown (s.setF ⟨hdr p.val 8, 0, 2⟩ b.val) p.val c (portSrc src)).of_commit
        ((SameWords.refl s _).setF _ (by simp)) ((OnlyEvents.refl s).setF _ _)
    refine ⟨_, ?_, hrefused, hint, hcount, hcause, hwords, hevents⟩
    change execCommitRequest src p b s = _
    rw [execCommitRequest, State.commitWrite, if_pos ha, State.post, if_neg, hj]
    rintro ⟨hp, hbegun⟩
    obtain ⟨r, hr, hb⟩ := (Option.any_eq_true _ _).1 hbegun
    exact absurd hb (by simp [h44 hp r (List.mem_of_find?_eq_some hr)])
  · intro src p s h
    obtain ⟨ldb, e⟩ := cancel_withdraws h
    refine ⟨_, rfl, ?_⟩
    rw [e]
    exact ⟨fun r hr => by simpa using (List.mem_filter.1 hr).2, fun r hr hp => List.mem_filter.2 ⟨hr, by simpa using hp⟩,
      rfl, rfl, State.rd_congr rfl rfl, rfl, rfl⟩

end Sys2Proof.Machine
end


section
/-! SUPPORT. Records and the acquisition ring (spec/12): the counts of samples with OR, the captures of a set, the record that the
last one makes, and the entries of the ring. -/

namespace Sys2Proof.Machine

section
variable {s t u : State} {a : AcqSet}

/-! ## Samples with OR (R291) -/

theorem OnlyRegs.refl (s : State) : OnlyRegs s s := rfl

theorem OnlyRegs.trans (h : OnlyRegs s t) (h' : OnlyRegs t u) : OnlyRegs s u := by
  rw [OnlyRegs] at *
  rw [h', h]

theorem OnlyRegs.setF (h : OnlyRegs s t) (x : Fld) (v : Nat) : OnlyRegs s (t.setF x v) := h.trans rfl

/-- A count of samples with OR leaves FAILED and CAUSE of its word. -/
theorem orCnt_addF (s : State) (k n : Nat) : (s.addF (ADC.STAT.OR_CNT k) n).f (ADC.STAT.OR_CNT k) =
      satAdd 16 (s.f (ADC.STAT.OR_CNT k)) n ∧
    (s.addF (ADC.STAT.OR_CNT k) n).f (ADC.STAT.FAILED k) = s.f (ADC.STAT.FAILED k) ∧
    (s.addF (ADC.STAT.OR_CNT k) n).f (ADC.STAT.CAUSE k) = s.f (ADC.STAT.CAUSE k) :=
  ⟨State.f_addF_self _ _ _ (by simp [ADC.STAT.OR_CNT]),
    State.f_setF_ne _ _ _ _ (by simp [ADC.STAT.OR_CNT]) rfl (by simp [ADC.STAT.OR_CNT, ADC.STAT.FAILED]),
    State.f_setF_ne _ _ _ _ (by simp [ADC.STAT.OR_CNT]) rfl (by simp [ADC.STAT.OR_CNT, ADC.STAT.CAUSE])⟩

/-- One converter's samples with OR, counted where there are any. -/
def State.countOr (s : State) (k n : Nat) : State := if n = 0 then s else s.addF (ADC.STAT.OR_CNT k) n

theorem countOr_onlyRegs (s : State) (k n : Nat) : OnlyRegs s (s.countOr k n) := by
  unfold State.countOr
  split
  · rfl
  · exact (OnlyRegs.refl s).setF _ _

theorem countOr_sameWords (s : State) (k n : Nat) : SameWords s (s.countOr k n) [ADC.STAT k] := by
  unfold State.countOr
  split
  · exact SameWords.refl s _
  · exact (SameWords.refl s _).setF _ (by simp [ADC.STAT.OR_CNT])

theorem countOr_fields (s : State) (k n : Nat) : (s.countOr k n).f (ADC.STAT.OR_CNT k) = min 65535 (s.f (ADC.STAT.OR_CNT k) + n) ∧
    (s.countOr k n).f (ADC.STAT.FAILED k) = s.f (ADC.STAT.FAILED k) ∧
    (s.countOr k n).f (ADC.STAT.CAUSE k) = s.f (ADC.STAT.CAUSE k) := by
  have hlt : s.f (ADC.STAT.OR_CNT k) < 65536 := s.f_lt _
  unfold State.countOr
  split
  · next hn => exact ⟨by omega, rfl, rfl⟩
  · obtain ⟨hcnt, hfail, hcause⟩ := orCnt_addF s k n
    refine ⟨hcnt.trans ?_, hfail, hcause⟩
    unfold satAdd
    split <;> omega

/-- The samples with OR of some converters, each counted once. -/
theorem foldl_countOr (g : Nat → Nat) : ∀ (l : List Nat) (s : State), l.Nodup →
    let t := l.foldl (fun s k => s.countOr k (g k)) s
    OnlyRegs s t ∧ SameWords s t (l.map ADC.STAT) ∧ ∀ k ∈ l,
      t.f (ADC.STAT.OR_CNT k) = min 65535 (s.f (ADC.STAT.OR_CNT k) + g k) ∧
      t.f (ADC.STAT.FAILED k) = s.f (ADC.STAT.FAILED k) ∧ t.f (ADC.STAT.CAUSE k) = s.f (ADC.STAT.CAUSE k)
  | [], s, _ => ⟨rfl, SameWords.refl s _, by simp⟩
  | k :: l, s, h => by
    obtain ⟨hk, hl⟩ := List.nodup_cons.1 h
    obtain ⟨hregs, hwords, hfields⟩ := foldl_countOr g l (s.countOr k (g k)) hl
    have hone := countOr_sameWords s k (g k)
    refine ⟨(countOr_onlyRegs s k (g k)).trans hregs, (hone.mono (by simp)).trans (hwords.mono (by simp +contextual)), ?_⟩
    intro j hj
    rcases List.mem_cons.1 hj with rfl | hj
    · have hout {x : Fld} (hx : x.addr = ADC.STAT j) :
          (l.foldl (fun s k => s.countOr k (g k)) (s.countOr j (g j))).f x = (s.countOr j (g j)).f x := by
        refine hwords.f fun hm => ?_
        rw [hx] at hm
        obtain ⟨i, hi, e⟩ := List.mem_map.1 hm
        exact hk (Nat.add_left_cancel e ▸ hi)
      obtain ⟨hcnt, hfail, hcause⟩ := countOr_fields s j (g j)
      exact ⟨(hout rfl).trans hcnt, (hout rfl).trans hfail, (hout rfl).trans hcause⟩
    · have hne : ADC.STAT j ≠ ADC.STAT k := fun e => hk (Nat.add_left_cancel e ▸ hj)
      have hin {x : Fld} (hx : x.addr = ADC.STAT j) : (s.countOr k (g k)).f x = s.f x := hone.f (by rw [hx]; simpa using hne)
      obtain ⟨hcnt, hfail, hcause⟩ := hfields j hj
      exact ⟨hin (x := ADC.STAT.OR_CNT j) rfl ▸ hcnt, hfail.trans (hin rfl), hcause.trans (hin rfl)⟩

theorem countOvers_nil (s : State) : s.countOvers [] = s := by
  have hid (l : List Nat) : l.foldl (fun (s : State) k => if nth [] k 0 = 0 then s else s.addF (ADC.STAT.OR_CNT k) (nth [] k 0)) s = s := by
    induction l with
    | nil => rfl
    | cons k l ih => exact ih
  rw [State.countOvers, hid, ite_self]

/-! ## ADC requests that wait (R273) -/

theorem adcCommits_eq_self (h : (∀ r ∈ s.commits, r.page ≠ 0x31) ∨ s.pwr.st = .run) : s.adcCommits = s := by
  unfold State.adcCommits
  split
  · next r hr =>
    rcases h with h | h
    · exact absurd (by simpa using List.find?_some hr) (h r (List.mem_of_find?_eq_some hr))
    · simp [h]
  · rfl

/-- A waiting ADC request takes effect alone. -/
theorem adcCommits_pageCommit {r : CommitReq} (hc : s.commits = [r]) (hp : r.page = 0x31) (ha : r.armed = true) (hb : r.boundary = 1)
    (hbegun : r.begun = false) (hrun : s.pwr.st ≠ .run) (hw : s.adcWaits (s.changes 0x31) = false)
    (hj : s.judgeRequest 0x31 1 true [] = none) : PageCommit s s.adcCommits 0x31 := by
  have hreq : s.request 0x31 = some r := by simp [State.request, hc, hp]
  have e : s.adcCommits = s.takeEffect [r.page] [] := by simp [State.adcCommits, hreq, ha, hb, hrun, hw, hp]
  rw [e, ← hp]
  exact takeEffect_pageCommit hc (by rw [hp]; decide) (by rw [hp]; decide) hbegun (by rw [hp, hb]; exact hj)

/-! ## Captures (R280, R284) -/

/-- The words of the corrections are not those of the counts. -/
theorem sampleOf_congr {c : Nat} (h : ∀ k, t.reg (ADC.ACORR k) = s.reg (ADC.ACORR k)) (h' : ∀ k, t.reg (ADC.CCORR k) = s.reg (ADC.CCORR k)) :
    t.sampleOf c = s.sampleOf c := by
  have hcode : t.correctCode = s.correctCode := by
    funext a c code
    simp only [State.correctCode, State.fi, State.f, ADC.ACORR.AOFS, ADC.ACORR.AGAIN, ADC.CCORR.COFS, ADC.CCORR.CGAIN, h, h']
  funext r
  cases r <;> simp only [State.sampleOf, hcode]

theorem countOver_onlyRegs (s : State) (k : Nat) (l : List RawSample) : OnlyRegs s (s.countOver k l) :=
  (countOr_onlyRegs s k _).trans (countOr_onlyRegs _ 8 _)

theorem countOver_sameWords (s : State) (k : Nat) (l : List RawSample) : SameWords s (s.countOver k l) [ADC.STAT k, ADC.STAT 8] :=
  ((countOr_sameWords s k _).mono (by simp)).trans ((countOr_sameWords _ 8 _).mono (by simp))

/-- A set with one capture more. -/
def AcqSet.taken (a : AcqSet) (one : List Smp) (spare : Bool) : AcqSet :=
  { a with
    samples := if a.done = 0 then one else List.zipWith Smp.add a.samples one
    done := a.done + 1
    spare := a.spare || spare }

/-- The channel of a set's record. -/
def State.acqChannel (s : State) (a : AcqSet) : Nat := s.acqCfg.f (ACQ.SRC_CFG.CH a.primary)

/-- A set whose samples have been counted goes on, or makes its record. -/
def State.setTaken (s : State) (b : AcqSet) (last : Bool) : State :=
  if last then s.finishRecord b else { s with acq := { s.acq with set := some b, busy := false } }.setF ACQ.STATE.AVG_N b.done

theorem acqChannel_bus (s : State) (a : AcqSet) : s.acqChannel a / 48 < 11 := by
  have : s.acqChannel a < 2 ^ 9 := State.f_lt _ _
  omega

/-- Counting samples with OR does not change the mode. -/
theorem acqMode_sameWords {k : Nat} (h : SameWords s t [ADC.STAT k, ADC.STAT 8]) (hk : k < 11) : t.acqMode = s.acqMode := by
  have hen : t.enabled 0x32 = s.enabled 0x32 := by
    rw [State.enabled, h _ (by simp [hdr, ADC.STAT]; omega), State.enabled]
  rw [State.acqMode, hen, h.f (by simp [ACQ.MODE.MODE, ACQ.MODE, ADC.STAT]; omega), State.acqMode]

theorem captureDone_eq {raw : List RawSample} (hset : s.acq.set = some a) (hbusy : s.acq.busy = true)
    (hlen : raw.length = s.acqCfg.f ACQ.REC.LEN) (hdom : s.domOn 4 = true) (hen : s.enabled 0x31 = true) :
    s.captureDone raw = (s.countOver (s.acqChannel a / 48) raw).setTaken
      (a.taken (raw.map (s.sampleOf (s.acqChannel a))) (raw.any RawSample.isSpare))
      (decide (a.done + 1 = 2 ^ s.acqCfg.f ACQ.MODE.AVG)) := by
  have hch := acqChannel_bus s a
  have hw := countOver_sameWords s (s.acqChannel a / 48) raw
  have hsample : (s.countOver (s.acqChannel a / 48) raw).sampleOf (s.acqChannel a) = s.sampleOf (s.acqChannel a) := by
    refine sampleOf_congr (fun k => hw _ ?_) (fun k => hw _ ?_)
    · simp only [ADC.STAT, ADC.ACORR, List.mem_cons, List.not_mem_nil, or_false]; omega
    · simp only [ADC.STAT, ADC.CCORR, List.mem_cons, List.not_mem_nil, or_false]; omega
  unfold State.captureDone
  rw [hset]
  simp only [hbusy, hlen, hdom, hen, Bool.not_true, bne_self_eq_false, Bool.or_self, Bool.false_eq_true, if_false, Bool.and_self,
    if_true]
  rw [← hsample]
  simp only [State.setTaken, decide_eq_true_eq]
  rfl

/-- The next capture of a set is waited for (R280, R284). -/
theorem setTaken_more (s : State) (b : AcqSet) : s.setTaken b false =
    { s with acq := { s.acq with set := some b, busy := false } }.setF ACQ.STATE.AVG_N b.done := rfl

/-! ## The record of a set (R284, R286) -/

/-- What a completed record shows: AVG_N is 0, and its events and counter. -/
def State.recordShown (s : State) (multi single missing : Bool) : State :=
  let s := s.setF ACQ.STATE.AVG_N 0
  let s := if multi then s.incF ACQ.CNT_A.MULTI else s
  (s.eventIf single 0x32 0).eventIf missing 0x32 3

/-- What a record that has been shown leaves, and the words that it may have changed. -/
structure RecordShown (s t : State) (single : Bool) : Prop where
  avg : t.f ACQ.STATE.AVG_N = 0
  single : single = true → (t.reg (hdr 0x32 3)).getLsbD 0 = true
  words : SameWords s t [ACQ.STATE, ACQ.CNT_A, hdr 0x32 3]
  acq : t.acq = s.acq
  memory : SameMemory s t
  time : t.time = s.time
  shadow : t.shadow = s.shadow
  commits : t.commits = s.commits

theorem SameWords.eventIf {ws : List Nat} {p : Nat} (h : SameWords s t ws) (c : Bool) (b : Nat) (hp : hdr p 3 ∈ ws) :
    SameWords s (t.eventIf c p b) ws := by
  unfold State.eventIf
  split
  · exact h.event b hp
  · exact h

/-- An event that may come keeps those that have come. -/
theorem getLsbD_eventIf {p i : Nat} (h : (s.reg (hdr p 3)).getLsbD i = true) (c : Bool) (b : Nat) :
    ((s.eventIf c p b).reg (hdr p 3)).getLsbD i = true := by
  unfold State.eventIf
  split
  · rw [State.reg_event_self, BitVec.getLsbD_or, h, Bool.true_or]
  · exact h

theorem State.f_eventIf (s : State) (c : Bool) (p b : Nat) {x : Fld} (h : x.addr ≠ hdr p 3) : (s.eventIf c p b).f x = s.f x := by
  unfold State.eventIf
  split
  · exact State.f_event s p b h
  · rfl

theorem recordShown_shown (s : State) (multi single missing : Bool) : RecordShown s (s.recordShown multi single missing) single := by
  unfold State.recordShown
  extract_lets t u
  have hwords : SameWords s u [ACQ.STATE, ACQ.CNT_A, hdr 0x32 3] := by
    have h1 : SameWords s t [ACQ.STATE, ACQ.CNT_A, hdr 0x32 3] := (SameWords.refl s _).setF 0 (by simp [ACQ.STATE.AVG_N])
    have h2 : SameWords s (t.incF ACQ.CNT_A.MULTI) [ACQ.STATE, ACQ.CNT_A, hdr 0x32 3] := h1.setF _ (by simp [ACQ.CNT_A.MULTI])
    unfold u
    split
    · exact h2
    · exact h1
  have havg : u.f ACQ.STATE.AVG_N = 0 := by
    have h1 : t.f ACQ.STATE.AVG_N = 0 := State.f_setF_self _ _ _ (by decide)
    unfold u
    split
    · exact (State.f_setF_word _ _ _ _ (by decide)).trans h1
    · exact h1
  have hrest : u.acq = s.acq ∧ u.mem = s.mem ∧ u.lost = s.lost ∧ u.time = s.time ∧ u.shadow = s.shadow ∧
      u.commits = s.commits := by
    unfold u t
    split <;> simp
  obtain ⟨hacq, hmem, hlost, htime, hshadow, hcommits⟩ := hrest
  refine ⟨?_, fun hs => ?_, (hwords.eventIf _ _ (by simp)).eventIf _ _ (by simp), by simpa using hacq, ?_, by simpa using htime,
    by simpa using hshadow, by simpa using hcommits⟩
  · rw [State.f_eventIf _ _ _ _ (by decide), State.f_eventIf _ _ _ _ (by decide), havg]
  · refine getLsbD_eventIf ?_ _ _
    rw [hs, State.eventIf, if_pos rfl, State.reg_event_self, BitVec.getLsbD_or]
    simp
  · exact State.rd_congr (by simpa using hmem) (by simpa using hlost)

/-- A state with other register words in force. -/
def State.under (s : State) (cfg : Cells 32) : State := { s with regs := cfg }

/-- The engine follows the settings of its set (R283). -/
theorem acqCfg_eq (hset : s.acq.set = some a) : s.acqCfg = s.under a.cfg := by
  rw [State.acqCfg, hset]
  rfl

/-- The record of a set whose captures are all taken, as the ring takes it: a waveform where WAVE_EN says so, its measurements
where MEAS_EN says so. -/
def State.recordOf (s : State) (b : AcqSet) : WaveOut :=
  let k := s.under b.cfg
  let l := b.samples.map (Smp.mean (k.f ACQ.MODE.AVG))
  { bank := k.f ACQ.OUT.BANK
    entries := (if k.fb ACQ.OUT.WAVE_EN then [(0x20, b.words s k s.free l)] else []) ++
      (if k.fb ACQ.MEAS.MEAS_EN then [(0x21, b.head k ++ k.measure (s.free + 1) l)] else [])
    stamp := b.time
    gen := b.gen
    attach := match b.hand, b.shot with
      | some h, some _ => some (k.f (ACQ.SRC_CFG.CH b.primary), h.2)
      | _, _ => none }

/-- Single acquisition ends with this record (R282). -/
def State.singleRecord (s : State) (b : AcqSet) : Bool := (s.under b.cfg).acqMode == 2 && s.acqMode == 2

theorem finishRecord_eq (s : State) (b : AcqSet) : ∃ missing, s.finishRecord b = State.recordShown { s with
    free := s.free + 4
    acq := { s.acq with
      set := none, busy := false, done := s.singleRecord b
      buffer := if (s.recordOf b).entries.isEmpty then s.acq.buffer else s.acq.buffer ++ [s.recordOf b] } }
    (decide (1 < popCount b.sources 8)) (s.singleRecord b) missing := by
  refine ⟨(b.samples.map (Smp.mean ((s.under b.cfg).f ACQ.MODE.AVG))).any (·.none_), ?_⟩
  simp only [State.finishRecord, State.recordShown, decide_eq_true_eq]
  rfl

/-- The record of a set has gone to the capture buffer (R280, R284). -/
structure RecordMade (s t : State) (b : AcqSet) : Prop where
  set : t.acq.set = none
  busy : t.acq.busy = false
  holdoff : t.acq.holdoff = s.acq.holdoff
  done : t.acq.done = s.singleRecord b
  buffer : t.acq.buffer = if (s.recordOf b).entries.isEmpty then s.acq.buffer else s.acq.buffer ++ [s.recordOf b]
  avg : t.f ACQ.STATE.AVG_N = 0
  single : s.singleRecord b = true → (t.reg (hdr 0x32 3)).getLsbD 0 = true
  words : SameWords s t [ACQ.STATE, ACQ.CNT_A, hdr 0x32 3]
  memory : SameMemory s t
  time : t.time = s.time
  shadow : t.shadow = s.shadow
  commits : t.commits = s.commits

theorem finishRecord_made (s : State) (b : AcqSet) : RecordMade s (s.finishRecord b) b := by
  obtain ⟨missing, e⟩ := finishRecord_eq s b
  rw [e]
  obtain ⟨havg, hsingle, hwords, hacq, hmem, htime, hshadow, hcommits⟩ := recordShown_shown _
    (decide (1 < popCount b.sources 8)) (s.singleRecord b) missing
  exact ⟨by rw [hacq], by rw [hacq], by rw [hacq], by rw [hacq], by rw [hacq], havg, hsingle, hwords, hmem, htime, hshadow, hcommits⟩

/-- A record with a waveform and no measurements: its numbers, its times and its samples (R286). -/
theorem recordOf_wave {b : AcqSet} (hwave : (s.under b.cfg).fb ACQ.OUT.WAVE_EN = true)
    (hmeas : (s.under b.cfg).fb ACQ.MEAS.MEAS_EN = false) (havg : (s.under b.cfg).f ACQ.MODE.AVG = 0) :
    ∃ p, (s.recordOf b).entries = [(0x20, p)] ∧ p[1]? = some (w36 (b.number % 2 ^ 32)) ∧
      p[2]? = some (w36 (b.time / 2 ^ 32 % 2 ^ 32)) ∧ p[3]? = some (w36 (b.time % 2 ^ 32)) ∧
      p.drop 6 = packSamples (b.samples.map (Smp.mean 0)) := by
  refine ⟨b.words s (s.under b.cfg) s.free (b.samples.map (Smp.mean 0)), ?_, ?_, rfl, rfl, rfl⟩
  · simp only [State.recordOf, hwave, hmeas, havg, if_true, Bool.false_eq_true, if_false, List.append_nil]
  · change some (w36 ((s.under b.cfg).f ACQ.MODE.AVG * 2 ^ 32 + b.number % 2 ^ 32)) = _
    rw [havg, Nat.zero_mul, Nat.zero_add]

/-! ## The captures of a set, one by one -/

theorem recordCaptureDone_eq {raw : List RawSample} (h : s.captureDone raw = t) (hc : t.commits = []) :
    exec (.recordCaptureDone ⟨raw, []⟩) s = .next t := by
  change execRecordCaptureDone ⟨raw, []⟩ s = _
  rw [execRecordCaptureDone, countOvers_nil, h, adcCommits_eq_self (.inl (by simp [hc]))]

/-- A capture that is not the last of its set (R280, R284). -/
theorem recordCaptureDone_more {raw : List RawSample} (hset : s.acq.set = some a) (hbusy : s.acq.busy = true)
    (hlen : raw.length = s.acqCfg.f ACQ.REC.LEN) (hdom : s.domOn 4 = true) (hen : s.enabled 0x31 = true) (hc : s.commits = [])
    (hmore : a.done + 1 ≠ 2 ^ s.acqCfg.f ACQ.MODE.AVG) :
    ∃ t, exec (.recordCaptureDone ⟨raw, []⟩) s = .next t ∧ t.acq.busy = false ∧ t.acq.holdoff = s.acq.holdoff ∧
      t.acq.buffer = s.acq.buffer ∧ t.f ACQ.STATE.AVG_N = (a.done + 1) % 512 ∧
      (∃ b, t.acq.set = some b ∧ b.done = a.done + 1 ∧ b.cfg = a.cfg ∧ b.number = a.number ∧ b.time = a.time) ∧
      SameWords s t [ACQ.STATE, ADC.STAT (s.acqChannel a / 48), ADC.STAT 8] ∧ t = { s with regs := t.regs, acq := t.acq } := by
  have hwords := countOver_sameWords s (s.acqChannel a / 48) raw
  have he := captureDone_eq hset hbusy hlen hdom hen
  obtain ⟨regs, hu⟩ : ∃ regs, s.countOver (s.acqChannel a / 48) raw = { s with regs := regs } := ⟨_, countOver_onlyRegs ..⟩
  rw [decide_eq_false hmore, hu, setTaken_more] at he
  rw [hu] at hwords
  refine ⟨_, recordCaptureDone_eq he hc, rfl, rfl, rfl, State.f_setF_self _ _ _ (by decide), ⟨_, rfl, rfl, rfl, rfl, rfl⟩, ?_, rfl⟩
  refine SameWords.setF (t := { s with regs := regs, acq := _ }) ?_ _ (by simp [ACQ.STATE.AVG_N])
  exact hwords.mono (by simp)

/-- A record whose waveform alone is kept, taken without averaging (R286). -/
theorem recordCaptureDone_record {raw : List RawSample} (hset : s.acq.set = some a) (hbusy : s.acq.busy = true)
    (hlen : raw.length = s.acqCfg.f ACQ.REC.LEN) (hdom : s.domOn 4 = true) (hen : s.enabled 0x31 = true) (hc : s.commits = [])
    (hfirst : a.done = 0) (havg : s.acqCfg.f ACQ.MODE.AVG = 0) (hwave : s.acqCfg.fb ACQ.OUT.WAVE_EN = true)
    (hmeas : s.acqCfg.fb ACQ.MEAS.MEAS_EN = false) :
    ∃ t, exec (.recordCaptureDone ⟨raw, []⟩) s = .next t ∧ t.acq.busy = false ∧ t.acq.holdoff = s.acq.holdoff ∧ t.acq.set = none ∧
      t.f ACQ.STATE.AVG_N = 0 ∧
      (∃ o p, t.acq.buffer = s.acq.buffer ++ [o] ∧ o.entries = [(0x20, p)] ∧ o.bank = s.acqCfg.f ACQ.OUT.BANK ∧ o.stamp = a.time ∧
        o.gen = a.gen ∧ p[1]? = some (w36 (a.number % 2 ^ 32)) ∧ p[2]? = some (w36 (a.time / 2 ^ 32 % 2 ^ 32)) ∧
        p[3]? = some (w36 (a.time % 2 ^ 32)) ∧
        p.drop 6 = packSamples (raw.map fun r => (s.sampleOf (s.acqChannel a) r).mean 0)) ∧
      (s.acqCfg.f ACQ.MODE.MODE = 2 → s.acqCfg.enabled 0x32 = true → s.acqMode = 2 → t.acq.done = true ∧
        (t.reg (hdr 0x32 3)).getLsbD 0 = true) ∧
      SameWords s t [ACQ.STATE, ACQ.CNT_A, hdr 0x32 3, ADC.STAT (s.acqChannel a / 48), ADC.STAT 8] ∧
      SameMemory s t ∧ t.time = s.time ∧ t.shadow = s.shadow := by
  have hwords := countOver_sameWords s (s.acqChannel a / 48) raw
  have he := captureDone_eq hset hbusy hlen hdom hen
  obtain ⟨regs, hu⟩ : ∃ regs, s.countOver (s.acqChannel a / 48) raw = s.under regs := ⟨_, countOver_onlyRegs ..⟩
  rw [hu] at he hwords
  rw [show decide (a.done + 1 = 2 ^ s.acqCfg.f ACQ.MODE.AVG) = true by rw [hfirst, havg]; rfl] at he
  generalize hb : a.taken (raw.map (s.sampleOf (s.acqChannel a))) (raw.any RawSample.isSpare) = b at he
  have hbcfg : b.cfg = a.cfg := by rw [← hb]; rfl
  have hbsamples : b.samples = raw.map (s.sampleOf (s.acqChannel a)) := by rw [← hb]; exact if_pos hfirst
  obtain ⟨htime, hgen, hnumber⟩ : b.time = a.time ∧ b.gen = a.gen ∧ b.number = a.number := by rw [← hb]; exact ⟨rfl, rfl, rfl⟩
  have hf (x : Fld) : s.acqCfg.f x = ((s.under regs).under b.cfg).f x := by rw [acqCfg_eq hset, hbcfg]; rfl
  have hfb (x : Fld) : s.acqCfg.fb x = ((s.under regs).under b.cfg).fb x := by rw [State.fb, hf, State.fb]
  rw [hf] at havg
  rw [hfb] at hwave hmeas
  obtain ⟨p, hentries, hnum, hhigh, hlow, hsamples⟩ := recordOf_wave hwave hmeas havg
  obtain ⟨hnoset, hidle, hhold, hdone, hbuffer, havgn, hsingle, hshow, hmem, ht, hsh, hcs⟩ := finishRecord_made (s.under regs) b
  refine ⟨_, recordCaptureDone_eq he (hcs.trans hc), hidle, hhold, hnoset, havgn, ⟨_, p, ?_, hentries, ?_, htime, hgen, ?_, ?_, ?_, ?_⟩,
    ?_, ?_, hmem, ht, hsh⟩
  · rw [hentries] at hbuffer
    exact hbuffer
  · rw [hf]; rfl
  · rw [hnum, hnumber]
  · rw [hhigh, htime]
  · rw [hlow, htime]
  · rw [hsamples, hbsamples, List.map_map]; rfl
  · intro hmode hen2 hs2
    have hone : (s.under regs).singleRecord b = true := by
      have hcfg : ((s.under regs).under b.cfg).acqMode = 2 := by
        rw [hbcfg, show ((s.under regs).under a.cfg).acqMode = s.acqCfg.acqMode by rw [acqCfg_eq hset]; rfl, State.acqMode, if_pos hen2,
          hmode]
      rw [State.singleRecord, hcfg, acqMode_sameWords hwords (acqChannel_bus s a), hs2]
      rfl
    exact ⟨hdone.trans hone, hsingle hone⟩
  · exact (hwords.mono (by simp)).trans (hshow.mono (by simp))

end
end Sys2Proof.Machine
end


section
/-! SUPPORT. Entries of the acquisition ring (spec/12 R285, R287), and what the commands on records and the ring do in each
case. -/

namespace Sys2Proof.Machine

section
variable {s t u : State}

/-! ## Captures that are not taken (R280) -/

theorem captureDone_eq_self {raw : List RawSample} (h : s.acq.busy = false ∨ s.acq.set = none ∨ raw.length ≠ s.acqCfg.f ACQ.REC.LEN) :
    s.captureDone raw = s := by
  unfold State.captureDone
  split
  · rfl
  · next a ha =>
    have hskip : (!s.acq.busy || raw.length != s.acqCfg.f ACQ.REC.LEN) = true := by
      rcases h with h | h | h
      · simp [h]
      · rw [ha] at h
        cases h
      · simp [h]
    simp only [hskip, if_true]

/-- Samples with OR beside no capture (R270, R291). -/
theorem recordCaptureDone_overs {ovs : List Nat} (hc : s.commits = []) (hidle : s.acq.busy = false) (hdom : s.domOn 4 = true)
    (hen : s.enabled 0x31 = true) : ∃ t, exec (.recordCaptureDone ⟨[], ovs⟩) s = .next t ∧
      (∀ a < 9, t.f (ADC.STAT.OR_CNT a) = min 65535 (s.f (ADC.STAT.OR_CNT a) + nth ovs a 0) ∧
        t.fb (ADC.STAT.FAILED a) = s.fb (ADC.STAT.FAILED a) ∧ t.f (ADC.STAT.CAUSE a) = s.f (ADC.STAT.CAUSE a)) ∧
      SameWords s t ((List.range 9).map ADC.STAT) ∧ OnlyRegs s t := by
  obtain ⟨hregs, hwords, hfields⟩ := foldl_countOr (nth ovs · 0) (List.range 9) s List.nodup_range
  have he : s.countOvers ovs = (List.range 9).foldl (fun s k => s.countOr k (nth ovs k 0)) s := by
    rw [State.countOvers, hdom, hen, if_neg (by decide)]
    rfl
  rw [← he] at hregs hwords hfields
  have hacq : (s.countOvers ovs).acq = s.acq := by rw [hregs]
  have hcs : (s.countOvers ovs).commits = s.commits := by rw [hregs]
  refine ⟨s.countOvers ovs, ?_, fun a ha => ?_, hwords, hregs⟩
  · change execRecordCaptureDone ⟨[], ovs⟩ s = _
    rw [execRecordCaptureDone, captureDone_eq_self (.inl (by rw [hacq]; exact hidle)),
      adcCommits_eq_self (.inl (by simp [hcs, hc]))]
  · obtain ⟨hcnt, hfail, hcause⟩ := hfields a (List.mem_range.2 ha)
    exact ⟨hcnt, by rw [State.fb, hfail, State.fb], hcause⟩

/-! ## Words written to a bank (R350) -/

theorem bankAddr_ne {b w i j : Nat} (h : i < j) (h' : j < i + 65536) : bankAddr b (w + i) ≠ bankAddr b (w + j) := by
  unfold bankAddr
  omega

/-- Words written to a bank one after the other, around its end. -/
def State.wrSpan (s : State) (b w : Nat) : List Word36 → State
  | [] => s
  | v :: vs => (s.wr (bankAddr b w) v).wrSpan b (w + 1) vs

theorem wrSpan_eq (b : Nat) : ∀ (vs : List Word36) (w : Nat) (s : State), ∃ mem ecc, s.wrSpan b w vs = { s with mem := mem, ecc := ecc }
  | [], _, _ => ⟨_, _, rfl⟩
  | v :: vs, w, s => wrSpan_eq b vs (w + 1) (s.wr (bankAddr b w) v)

theorem rd_wrSpan_out {b x : Nat} (vs : List Word36) : ∀ (w : Nat) (s : State), (∀ i < vs.length, x ≠ bankAddr b (w + i)) →
    (s.wrSpan b w vs).rd x = s.rd x := by
  induction vs with
  | nil => exact fun _ _ _ => rfl
  | cons v vs ih =>
    intro w s h
    have hrest : ∀ i < vs.length, x ≠ bankAddr b (w + 1 + i) := fun i hi => by
      rw [Nat.add_assoc, Nat.add_comm 1 i]
      exact h (i + 1) (Nat.succ_lt_succ hi)
    exact (ih (w + 1) _ hrest).trans (State.rd_wr_ne s v (h 0 (Nat.succ_pos _)))

theorem rd_wrSpan_in {b : Nat} (vs : List Word36) : ∀ (w : Nat) (s : State), vs.length ≤ 65536 → ∀ i < vs.length,
    (s.wrSpan b w vs).rd (bankAddr b (w + i)) = nth vs i 0 := by
  induction vs with
  | nil => exact fun _ _ _ i hi => absurd hi (Nat.not_lt_zero i)
  | cons v vs ih =>
    intro w s h i hi
    have hlen : vs.length < 65536 := h
    rw [State.wrSpan]
    cases i with
    | zero =>
      refine (rd_wrSpan_out vs (w + 1) _ fun i hi => ?_).trans (State.rd_wr_self s _ v)
      rw [Nat.add_assoc]
      exact bankAddr_ne (by omega) (by omega)
    | succ i =>
      rw [Nat.add_comm i 1, ← Nat.add_assoc, Nat.add_comm 1 i]
      exact ih (w + 1) _ hlen.le i (Nat.lt_of_succ_lt_succ hi)

/-- A mover that has its bank writes its words and shows the descriptor open (R360). -/
theorem moverWrite_eq {code b : Nat} (h : s.moverOk code b = true) (w : Nat) (vs : List Word36) :
    s.moverWrite code b w vs = ((s.wrSpan b w vs).setB (BANK.OWN.OPEN b) true, true) := by
  have hfold : ∀ (vs : List Word36) (s : State) (i : Nat),
      vs.foldl (fun (x : State × Nat) v => (x.1.wr (bankAddr b (w + x.2)) v, x.2 + 1)) (s, i) =
        (s.wrSpan b (w + i) vs, i + vs.length) := by
    intro vs
    induction vs with
    | nil => exact fun _ _ => rfl
    | cons v vs ih =>
      intro s i
      rw [List.foldl_cons, ih, List.length_cons, State.wrSpan, Nat.add_assoc w i 1, Nat.add_right_comm i 1, Nat.add_assoc i]
  rw [State.moverWrite, if_pos h]
  exact congrArg (fun x : State × Nat => (x.1.setB (BANK.OWN.OPEN b) true, true)) (hfold vs s 0)

/-! ## An entry of the ring (R285, R287) -/

theorem stepRise_eq_self (h : s.fb ACQ.RR.RR_EN = false) : s.stepRise = s := by simp [State.stepRise, h]

/-- WR advances past an entry whose words have been written, and the capture buffer is left without it. -/
def State.entryMoved (s : State) (r : WaveOut) (rest : List WaveOut) (dt n wr : Nat) : State :=
  let mark : RingMark := { start := wr, length := n, dt := dt, stamp := r.stamp, gen := r.gen }
  let s := { s with acq := { s.acq with buffer := rest, marks := s.acq.marks.filter (fun (m : RingMark) => m.start != wr) ++ [mark] } }
  let s := s.setF ACQ.RING_WR.PTR (wr + 1 + n)
  let s := if dt = 0x20 then s.incF ACQ.CNT_C.RECORDS else s
  match r.attach with
  | some x => if dt = 0x20 then { s with hist := { s.hist with attached := s.hist.attached ++ [x] } } else s
  | none => s

/-- The ring after an entry. -/
def State.entryWritten (s : State) (r : WaveOut) (rest : List WaveOut) (dt : Nat) (p : List Word36) : State :=
  let wr := s.f ACQ.RING_WR.PTR
  ((s.wrSpan r.bank wr (w36 (dt * 2 ^ 28 + p.length) :: p)).setB (BANK.OWN.OPEN r.bank) true).entryMoved r rest dt p.length wr

theorem ringWrite_eq {r : WaveOut} {rs : List WaveOut} {dt : Nat} {p : List Word36} {es : List (Nat × List Word36)}
    (hbuf : s.acq.buffer = r :: rs) (hent : r.entries = (dt, p) :: es) (hok : s.moverOk 3 r.bank = true) (hlen : p.length < 65536) :
    s.ringWrite = (s.entryWritten r (if es = [] then rs else { r with entries := es } :: rs) dt p).stepRise := by
  unfold State.ringWrite
  simp -zeta only [hbuf, hent, moverWrite_eq hok, Nat.mod_eq_of_lt hlen, List.isEmpty_iff]
  rfl

/-- The words of the register file that an entry changes: WR, and RECORDS for a record. -/
def State.entryCounted (s : State) (dt v : Nat) : State :=
  let s := s.setF ACQ.RING_WR.PTR v
  if dt = 0x20 then s.incF ACQ.CNT_C.RECORDS else s

theorem entryMoved_parts (s : State) (r : WaveOut) (rest : List WaveOut) (dt n wr : Nat) :
    let t := s.entryMoved r rest dt n wr
    t.regs = (s.entryCounted dt (wr + 1 + n)).regs ∧ t.mem = s.mem ∧ t.lost = s.lost ∧ t.acq.buffer = rest ∧ t.time = s.time ∧
      t.shadow = s.shadow ∧ t.link = s.link := by
  unfold State.entryMoved State.entryCounted
  by_cases hdt : dt = 0x20 <;> cases r.attach <;> simp only [hdt, if_true, if_false] <;> exact ⟨rfl, rfl, rfl, rfl, rfl, rfl, rfl⟩

/-- The register words of an entry, with OPEN of its bank. -/
def State.entryWords (s : State) (b dt n : Nat) : State :=
  (s.setB (BANK.OWN.OPEN b) true).entryCounted dt (s.f ACQ.RING_WR.PTR + 1 + n)

theorem entryCounted_congr (h : t.regs = s.regs) (dt v : Nat) : (t.entryCounted dt v).regs = (s.entryCounted dt v).regs := by
  unfold State.entryCounted
  split <;> simp only [State.incF, State.addF, State.setF, State.setReg, State.f, State.reg, h]

theorem setB_regs_congr (h : t.regs = s.regs) (x : Fld) (b : Bool) : (t.setB x b).regs = (s.setB x b).regs := by
  simp only [State.setB, State.setF, State.setReg, State.reg, h]

theorem entryWritten_parts (s : State) (r : WaveOut) (rest : List WaveOut) (dt : Nat) (p : List Word36) :
    let t := s.entryWritten r rest dt p
    let v := s.wrSpan r.bank (s.f ACQ.RING_WR.PTR) (w36 (dt * 2 ^ 28 + p.length) :: p)
    t.regs = (s.entryWords r.bank dt p.length).regs ∧ t.mem = v.mem ∧ t.lost = v.lost ∧ t.acq.buffer = rest ∧ t.time = s.time ∧
      t.shadow = s.shadow ∧ t.link = s.link := by
  dsimp only [State.entryWritten, State.entryWords]
  have hv : ∃ mem ecc, s.wrSpan r.bank (s.f ACQ.RING_WR.PTR) (w36 (dt * 2 ^ 28 + p.length) :: p) =
      { s with mem := mem, ecc := ecc } := wrSpan_eq ..
  generalize s.wrSpan r.bank (s.f ACQ.RING_WR.PTR) (w36 (dt * 2 ^ 28 + p.length) :: p) = v at *
  obtain ⟨hr, ht, hs, hl⟩ : v.regs = s.regs ∧ v.time = s.time ∧ v.shadow = s.shadow ∧ v.link = s.link := by
    obtain ⟨_, _, rfl⟩ := hv
    exact ⟨rfl, rfl, rfl, rfl⟩
  obtain ⟨hregs, hmem, hlost, hbuf, htime, hshadow, hlink⟩ :=
    entryMoved_parts (v.setB (BANK.OWN.OPEN r.bank) true) r rest dt p.length (s.f ACQ.RING_WR.PTR)
  exact ⟨hregs.trans (entryCounted_congr (setB_regs_congr hr _ _) _ _), hmem.trans (State.setB_mem ..),
    hlost.trans (State.setB_lost ..), hbuf, (htime.trans (State.setB_time ..)).trans ht,
    (hshadow.trans (State.setB_shadow ..)).trans hs, (hlink.trans (State.setB_link ..)).trans hl⟩

theorem entryWords_sameWords (s : State) (b dt n : Nat) :
    SameWords s (s.entryWords b dt n) [BANK.OWN b, ACQ.RING_WR, ACQ.CNT_C] := by
  have h : SameWords s ((s.setB (BANK.OWN.OPEN b) true).setF ACQ.RING_WR.PTR (s.f ACQ.RING_WR.PTR + 1 + n))
      [BANK.OWN b, ACQ.RING_WR, ACQ.CNT_C] :=
    ((SameWords.refl s _).setF _ (by simp [BANK.OWN.OPEN])).setF _ (by simp [ACQ.RING_WR.PTR])
  unfold State.entryWords State.entryCounted
  split
  · exact h.setF _ (by simp [ACQ.CNT_C.RECORDS])
  · exact h

theorem entryWords_ptr (s : State) (b dt n : Nat) :
    (s.entryWords b dt n).f ACQ.RING_WR.PTR = (s.f ACQ.RING_WR.PTR + 1 + n) % 65536 := by
  unfold State.entryWords State.entryCounted
  split
  · exact (State.f_setF_word _ _ _ _ (by decide)).trans (State.f_setF_self _ _ _ (by decide))
  · exact State.f_setF_self _ _ _ (by decide)

theorem entryWords_records (s : State) {b : Nat} (hb : b < 32) (dt n : Nat) : (s.entryWords b dt n).f ACQ.CNT_C.RECORDS =
    if dt = 0x20 then satAdd 32 (s.f ACQ.CNT_C.RECORDS) 1 else s.f ACQ.CNT_C.RECORDS := by
  have hkeep (v : Nat) : ((s.setB (BANK.OWN.OPEN b) true).setF ACQ.RING_WR.PTR v).f ACQ.CNT_C.RECORDS = s.f ACQ.CNT_C.RECORDS :=
    (State.f_setF_word _ _ _ _ (by decide)).trans
      (State.f_setF_word _ _ _ _ (by simp only [ACQ.CNT_C.RECORDS, ACQ.CNT_C, BANK.OWN.OPEN, BANK.OWN]; omega))
  unfold State.entryWords State.entryCounted
  split
  · exact (State.f_addF_self _ _ _ (by decide)).trans (by rw [hkeep]; rfl)
  · exact hkeep _

/-- The oldest entry of the capture buffer goes to the ring. -/
theorem ringEntryWritten_writes {r : WaveOut} {rs : List WaveOut} {dt : Nat} {p : List Word36} {es : List (Nat × List Word36)}
    (hdom : s.domOn 4 = true) (hbuf : s.acq.buffer = r :: rs) (hent : r.entries = (dt, p) :: es) (hb : r.bank < 32)
    (hok : s.moverOk 3 r.bank = true) (hlen : p.length < 65536) (hrate : s.fb ACQ.RR.RR_EN = false) :
    ∃ t, exec .ringEntryWritten s = .next t ∧
      (let wr := s.f ACQ.RING_WR.PTR
       t.rd (bankAddr r.bank wr) = w36 (dt * 2 ^ 28 + p.length) ∧
       (∀ i < p.length, t.rd (bankAddr r.bank (wr + 1 + i)) = nth p i 0) ∧
       (∀ a, (∀ i ≤ p.length, a ≠ bankAddr r.bank (wr + i)) → t.rd a = s.rd a) ∧
       t.f ACQ.RING_WR.PTR = (wr + 1 + p.length) % 65536) ∧
      t.acq.buffer = (if es = [] then rs else { r with entries := es } :: rs) ∧
      t.f ACQ.CNT_C.RECORDS = (if dt = 0x20 then satAdd 32 (s.f ACQ.CNT_C.RECORDS) 1 else s.f ACQ.CNT_C.RECORDS) ∧
      SameWords s t [BANK.OWN r.bank, ACQ.RING_WR, ACQ.CNT_C] ∧ t.time = s.time ∧ t.shadow = s.shadow ∧ t.link = s.link := by
  obtain ⟨hregs, hmem, hlost, hbuffer, htime, hshadow, hlink⟩ :=
    entryWritten_parts s r (if es = [] then rs else { r with entries := es } :: rs) dt p
  have he := ringWrite_eq hbuf hent hok hlen
  generalize s.entryWritten r (if es = [] then rs else { r with entries := es } :: rs) dt p = t at *
  have hreg (a : Nat) : t.reg a = (s.entryWords r.bank dt p.length).reg a := State.reg_congr hregs a
  have hf (x : Fld) : t.f x = (s.entryWords r.bank dt p.length).f x := by rw [State.f, hreg, State.f]
  have hwords : SameWords s t [BANK.OWN r.bank, ACQ.RING_WR, ACQ.CNT_C] := fun a ha =>
    (hreg a).trans (entryWords_sameWords s r.bank dt p.length a ha)
  have hrise : t.stepRise = t := stepRise_eq_self (by
    rw [hwords.fb (by simp [ACQ.RR.RR_EN, ACQ.RR, BANK.OWN, ACQ.RING_WR, ACQ.CNT_C]; omega)]
    exact hrate)
  have hin := rd_wrSpan_in (b := r.bank) (w36 (dt * 2 ^ 28 + p.length) :: p) (s.f ACQ.RING_WR.PTR) s hlen
  have hrd := State.rd_congr hmem hlost
  refine ⟨t, ?_, ⟨?_, fun i hi => ?_, fun a ha => ?_, ?_⟩, hbuffer, ?_, hwords, htime, hshadow, hlink⟩
  · change execRingEntryWritten s = _
    rw [execRingEntryWritten, if_pos hdom, he, hrise]
  · exact (hrd _).trans (hin 0 (Nat.succ_pos _))
  · rw [hrd, Nat.add_assoc, Nat.add_comm 1 i]
    exact hin (i + 1) (Nat.succ_lt_succ hi)
  · rw [hrd]
    exact rd_wrSpan_out _ _ s fun i hi => ha i (Nat.lt_succ_iff.1 hi)
  · exact (hf _).trans (entryWords_ptr s r.bank dt p.length)
  · exact (hf _).trans (entryWords_records s hb dt p.length)

theorem ringEntryWritten_idle (h : s.domOn 4 = false ∨ s.acq.buffer = []) : exec .ringEntryWritten s = .next s := by
  change execRingEntryWritten s = _
  rw [execRingEntryWritten]
  rcases h with h | h
  · simp [h]
  · have hnone : s.ringWrite = s := by rw [State.ringWrite, h]
    rw [hnone, ite_self]

/-! ## The rate step and RING_RD (R285, R287) -/

/-- The rate step may fall: the fill is below LO and the step is not 0. -/
theorem rateStepDown_falls (hrate : s.fb ACQ.RR.RR_EN = true) (hfill : s.ringFill < s.f ACQ.RR.LO * 64) (hstep : s.f ACQ.STATE.STEP ≠ 0) :
    ∃ t, exec .rateStepDown s = .next t ∧ t.f ACQ.STATE.STEP = s.f ACQ.STATE.STEP - 1 ∧ Raised s t 0x32 1 ∧
      SameWords s t [ACQ.STATE, hdr 0x32 3] ∧ OnlyEvents s t := by
  have hlt : s.f ACQ.STATE.STEP < 2 ^ ACQ.STATE.STEP.width := s.f_lt _
  refine ⟨(s.setF ACQ.STATE.STEP (s.f ACQ.STATE.STEP - 1)).event 0x32 1, ?_, ?_, ?_, ?_, ?_⟩
  · change execRateStepDown s = _
    simp [execRateStepDown, hrate, hfill, hstep]
  · rw [State.f_event _ _ _ (by decide), State.f_setF_self _ _ _ (by decide)]
    exact Nat.mod_eq_of_lt (Nat.lt_of_le_of_lt (Nat.sub_le _ _) hlt)
  · rw [Raised, State.reg_event_self, State.reg_setF_ne _ _ _ (by decide)]
  · exact ((SameWords.refl s _).setF _ (by simp [ACQ.STATE.STEP])).event 1 (by simp)
  · exact ((OnlyEvents.refl s).setF _ _).event 0x32 1

theorem rateStepDown_stays (h : s.fb ACQ.RR.RR_EN = false ∨ s.f ACQ.RR.LO * 64 ≤ s.ringFill ∨ s.f ACQ.STATE.STEP = 0) :
    exec .rateStepDown s = .next s := by
  change execRateStepDown s = _
  rw [execRateStepDown, if_neg]
  simp only [Bool.and_eq_true, decide_eq_true_eq, bne_iff_ne]
  rintro ⟨⟨hrate, hfill⟩, hstep⟩
  rcases h with h | h | h
  · exact absurd hrate (by simp [h])
  · exact absurd hfill (Nat.not_lt.2 h)
  · exact hstep h

theorem ringRdWrite_writes (src : Port) (d : BitVec 32) (h : s.fb ACQ.OUT.LINK_EN = false) :
    ∃ t, exec (.ringRdWrite src d) s = .next t ∧ t.f ACQ.RING_RD.PTR = d.toNat % 65536 ∧ SameWords s t [ACQ.RING_RD] ∧ OnlyRegs s t := by
  refine ⟨s.setF ACQ.RING_RD.PTR d.toNat, ?_, State.f_setF_self _ _ _ (by decide),
    (SameWords.refl s _).setF _ (by simp [ACQ.RING_RD.PTR]), rfl⟩
  change execRingRdWrite src d s = _
  simp [execRingRdWrite, State.writeRingRd, h]

theorem ringRdWrite_refused (src : Port) (d : BitVec 32) (h : s.fb ACQ.OUT.LINK_EN = true) :
    exec (.ringRdWrite src d) s = .next (s.err 0x16 (portSrc src) ACQ.RING_RD) := by
  change execRingRdWrite src d s = _
  simp [execRingRdWrite, State.writeRingRd, h]

end

/-- Settles O43: captures and records by what the last sample does (`captureDone_eq`, `RecordMade`), ring entries by the words
written from WR on (`wrSpan`), and a waiting ADC request by the commit event of one page (`PageCommit`). -/
theorem recordsAndRing : Obligations.RecordsAndRing := by
  refine ⟨?_, ?_, ?_, ?_, ?_, ?_, ?_, ?_, ?_, ?_, ?_, ?_⟩
  · intro raw a s hset hbusy hlen hdom hen hc hmore
    exact recordCaptureDone_more hset hbusy hlen hdom hen hc hmore
  · intro raw a s hset hbusy hlen hdom hen hc hfirst havg hwave hmeas
    exact recordCaptureDone_record hset hbusy hlen hdom hen hc hfirst havg hwave hmeas
  · intro raw s hc h
    exact recordCaptureDone_eq (captureDone_eq_self h) hc
  · intro ovs s hc hidle hdom hen
    exact recordCaptureDone_overs hc hidle hdom hen
  · intro r rs dt p es s hdom hbuf hent hb hok hlen hrate
    exact ringEntryWritten_writes hdom hbuf hent hb hok hlen hrate
  · exact fun s h => ringEntryWritten_idle h
  · exact fun s hrate hfill hstep => rateStepDown_falls hrate hfill hstep
  · exact fun s h => rateStepDown_stays h
  · exact fun src d s h => ringRdWrite_writes src d h
  · exact fun src d s h => ⟨_, ringRdWrite_refused src d h, State.err_raised ..⟩
  · intro r s hc hp ha hb hbegun _ hrun hw hj
    obtain ⟨hcs, hrws, hactive, hdirty, _, hgen, hshadow, htime, _, _⟩ := adcCommits_pageCommit hc hp ha hb hbegun hrun hw hj
    exact ⟨s.adcCommits, rfl, hcs, hrws, hdirty, hactive, hgen, hshadow, htime⟩
  · intro s h
    change Host.Outcome.next s.adcCommits = _
    rw [adcCommits_eq_self h]

end Sys2Proof.Machine
end

section
/-! SUPPORT. What blocks do beside the power manager: when its state or the domains change, steering, zones, fields, the laser
bus, the cameras and the calibrations follow. One lemma for each function, in the order of the model's files: the lemma about
`State.f` is `LeavesPower.f`, so that a proof follows the definition it is about. -/

namespace Sys2Proof.Machine

/-- From `s` to `t` a block has done something of its own: the power manager, the shadows, TIME, the queue of commands, the
ledger's blocks and the waiting in-band requests are as before, and so are the words `ks`; memory changes at most by queued
place-0 words, and neither is the lock opened nor are SAFE's outputs switched on. -/
structure LeavesPower (ks : List Nat) (s t : State) : Prop where
  words : ∀ a ∈ ks, t.reg a = s.reg a
  memory : SameMemoryButQueued s t
  queued : ∀ e ∈ t.ldb.fwd, e ∈ s.ldb.fwd
  pwr : t.pwr = s.pwr
  shadow : t.shadow = s.shadow
  time : t.time = s.time
  pending : t.pending = s.pending
  led : t.led = s.led
  lock : s.lockOpen = false → t.lockOpen = false
  outputs : s.safe.on = false → t.safe.on = false
  train : t.link.train = s.link.train
  requests : t.host.queue = s.host.queue

/-- The pages that show what follows from a change of state: FIELD, CAL, EMIT, STEER and ZONE. -/
def settlePages : List Nat := [0x09, 0x0C, 0x12, 0x14, 0x3B]

/-- The pages that show the laser driver bus: EMIT and LDB. -/
def busPages : List Nat := [0x12, 0x13]

/-- The camera pages. -/
def camPages : List Nat := [0x40, 0x41, 0x42, 0x43]

/-- No word of `ks` lies on a page of `ps`. -/
def OffPages (ks ps : List Nat) : Prop := ∀ a ∈ ks, a / 0x400 ∉ ps

theorem OffPages.notMem {ks ps : List Nat} (h : OffPages ks ps) {a : Nat} (ha : a / 0x400 ∈ ps) : a ∉ ks :=
  fun hm => h a hm ha

namespace LeavesPower
section
variable {s t u : State} {ks : List Nat}

/-! ## How states are put together -/

theorem refl (s : State) (ks : List Nat) : LeavesPower ks s s :=
  ⟨fun _ _ => rfl, fun _ _ => rfl, fun _ h => h, rfl, rfl, rfl, rfl, rfl, fun h => h, fun h => h, rfl, rfl⟩

theorem trans (h : LeavesPower ks s t) (h' : LeavesPower ks t u) : LeavesPower ks s u where
  words a ha := (h'.words a ha).trans (h.words a ha)
  memory a ha := (h'.memory a fun e he => ha e (h.queued e he)).trans (h.memory a ha)
  queued e he := h.queued e (h'.queued e he)
  pwr := h'.pwr.trans h.pwr
  shadow := h'.shadow.trans h.shadow
  time := h'.time.trans h.time
  pending := h'.pending.trans h.pending
  led := h'.led.trans h.led
  lock hs := h'.lock (h.lock hs)
  outputs hs := h'.outputs (h.outputs hs)
  train := h'.train.trans h.train
  requests := h'.requests.trans h.requests

/-- An update of what stands beside the parts listed. -/
theorem update (h : LeavesPower ks s t) (hr : u.regs = t.regs := by rfl) (hm : u.mem = t.mem := by rfl)
    (hl : u.lost = t.lost := by rfl) (hq : u.ldb.fwd = t.ldb.fwd := by rfl) (hp : u.pwr = t.pwr := by rfl)
    (hs : u.shadow = t.shadow := by rfl) (ht : u.time = t.time := by rfl) (hc : u.pending = t.pending := by rfl)
    (he : u.led = t.led := by rfl) (hk : u.lockOpen = t.lockOpen := by rfl) (ho : u.safe.on = t.safe.on := by rfl)
    (hn : u.link.train = t.link.train := by rfl) (hh : u.host.queue = t.host.queue := by rfl) : LeavesPower ks s u :=
  h.trans ⟨fun a _ => State.reg_congr hr a, fun a _ => State.rd_congr hm hl a, fun _ h => hq ▸ h, hp, hs, ht, hc, he,
    fun h => hk.trans h, fun h => ho.trans h, hn, hh⟩

theorem ite {c : Prop} {_ : Decidable c} {a b : State} (ha : LeavesPower ks s a) (hb : LeavesPower ks s b) :
    LeavesPower ks s (if c then a else b) := by
  split
  · exact ha
  · exact hb

theorem foldl {α : Type} {f : State → α → State} (l : List α)
    (hf : ∀ u, ∀ x ∈ l, LeavesPower ks s u → LeavesPower ks s (f u x)) :
    ∀ {t}, LeavesPower ks s t → LeavesPower ks s (l.foldl f t) := by
  induction l with
  | nil => exact fun h => h
  | cons x l ih => exact fun h => ih (fun u y hy => hf u y (List.mem_cons_of_mem _ hy)) (hf _ x (List.mem_cons_self ..) h)

theorem setReg (h : LeavesPower ks s t) {a : Nat} (ha : a ∉ ks) (v : Word) : LeavesPower ks s (t.setReg a v) :=
  h.trans ⟨fun _ hb => State.reg_setReg_ne _ _ (ne_of_mem_of_not_mem hb ha), fun _ _ => rfl, fun _ h => h, rfl, rfl, rfl, rfl,
    rfl, fun h => h, fun h => h, rfl, rfl⟩

theorem setF (h : LeavesPower ks s t) {x : Fld} (hx : x.addr ∉ ks) (v : Nat) : LeavesPower ks s (t.setF x v) := h.setReg hx _
theorem setB (h : LeavesPower ks s t) {x : Fld} (hx : x.addr ∉ ks) (b : Bool) : LeavesPower ks s (t.setB x b) := h.setF hx _
theorem setI (h : LeavesPower ks s t) {x : Fld} (hx : x.addr ∉ ks) (v : Int) : LeavesPower ks s (t.setI x v) := h.setF hx _
theorem incF (h : LeavesPower ks s t) {x : Fld} (hx : x.addr ∉ ks) : LeavesPower ks s (t.incF x) := h.setF hx _

/-- What a risen interrupt summary sends is beside the power manager. -/
theorem onlyEvents (h : LeavesPower ks s t) (he : OnlyEvents t u) (hw : ∀ a ∈ ks, u.reg a = t.reg a) : LeavesPower ks s u := by
  obtain ⟨_, _, _, _, rfl⟩ := onlyEvents_iff.1 he
  exact h.trans ⟨hw, fun _ _ => rfl, fun _ h => h, rfl, rfl, rfl, rfl, rfl, fun h => h, fun h => h, rfl, rfl⟩

theorem event (h : LeavesPower ks s t) {p : Nat} (hp : hdr p 3 ∉ ks) (b : Nat) : LeavesPower ks s (t.event p b) :=
  h.onlyEvents ((OnlyEvents.refl t).event p b) fun _ ha => State.reg_event_ne _ _ _ (ne_of_mem_of_not_mem ha hp)

theorem eventIf (h : LeavesPower ks s t) {p : Nat} (hp : hdr p 3 ∉ ks) (c : Bool) (b : Nat) :
    LeavesPower ks s (t.eventIf c p b) := (h.event hp b).ite h

/-- A packet that always finds room (R336). -/
theorem sendPacket (h : LeavesPower ks s t) {dt : Nat} (hd : dtClass dt < 2) (port gen stamp : Nat) (l : List Word36) :
    LeavesPower ks s (t.sendPacket dt port gen stamp l) := by
  have e : t.sendPacket dt port gen stamp l = { t with
      link := (t.link.build dt port gen stamp l).2.setQueue (dtClass dt)
        ((t.link.build dt port gen stamp l).2.queue (dtClass dt) ++ [(t.link.build dt port gen stamp l).1]) } := by
    simp only [State.sendPacket, State.enqueue, hd, decide_true, Bool.true_or, if_true]
  have htrain (k : Link) (c : Nat) (q : List Packet) : (k.setQueue c q).train = k.train := by
    unfold Link.setQueue
    split <;> rfl
  rw [e]
  exact h.update (hn := htrain _ _ _)

/-! ## Changes given up and the safety lock (Faults, Supv) -/

theorem fwEnds (h : LeavesPower ks s t) (hk : BOOT.FW_STAT ∉ ks ∧ hdr 0x03 3 ∉ ks) (r : Nat) (next : Option FwOp) :
    LeavesPower ks s (t.fwEnds r next) := by
  have h1 : LeavesPower ks s ((t.setB BOOT.FW_STAT.BUSY false).setF BOOT.FW_STAT.RESULT r) := (h.setB hk.1 false).setF hk.1 r
  have h2 (u : State) (hu : LeavesPower ks s u) (i : Images) : LeavesPower ks s { u with img := i } := hu.update
  exact (h2 _ h1 _).event hk.2 0

theorem cfgEnds (h : LeavesPower ks s t) (hk : BOOT.CFG_STAT ∉ ks ∧ hdr 0x03 3 ∉ ks) (r : Nat) : LeavesPower ks s (t.cfgEnds r) := by
  have h1 : LeavesPower ks s ((t.setB BOOT.CFG_STAT.BUSY false).setF BOOT.CFG_STAT.RESULT r) := (h.setB hk.1 false).setF hk.1 r
  have h2 (u : State) (hu : LeavesPower ks s u) (i : Images) : LeavesPower ks s { u with img := i } := hu.update
  exact (h2 _ h1 _).event hk.2 2

theorem withdraw (h : LeavesPower ks s t) : LeavesPower ks s t.withdraw := by
  unfold State.withdraw
  split
  · exact h.update
  · exact h

theorem abandonChange (h : LeavesPower ks s t)
    (hk : BOOT.FW_STAT ∉ ks ∧ BOOT.CFG_STAT ∉ ks ∧ hdr 0x03 3 ∉ ks ∧ SUPV.STATUS ∉ ks) : LeavesPower ks s t.abandonChange := by
  obtain ⟨hfw, hcfg, hev, hsupv⟩ := hk
  unfold State.abandonChange
  extract_lets s1
  have h1 : LeavesPower ks s s1 := (h.withdraw.cfgEnds ⟨hcfg, hev⟩ 6).ite h
  split
  · exact h1.fwEnds ⟨hfw, hev⟩ 6 none
  · exact (h1.setB hsupv false).fwEnds ⟨hfw, hev⟩ 6 none
  · exact h1

theorem lockClose (h : LeavesPower ks s t) (hk : hdr 0x08 3 ∉ ks) : LeavesPower ks s t.lockClose := by
  have h1 : LeavesPower ks s { t with lockOpen := false } := h.trans
    ⟨fun _ _ => rfl, fun _ _ => rfl, fun _ h => h, rfl, rfl, rfl, rfl, rfl, fun _ => rfl, fun h => h, rfl, rfl⟩
  exact h1.eventIf hk _ 6

/-! ## The laser driver bus (Emit) -/

theorem putBus (h : LeavesPower ks s t) (addr : Option Nat) (type : Nat) (p : List Nat) :
    LeavesPower ks s (t.putBus addr type p) := ite h.update h

/-- Queued place-0 words are written, and no others. -/
theorem rd_writePlace0 (q : List (Nat × Word36)) : ∀ (s : State) {a : Nat}, (∀ e ∈ q, a ≠ 0xA00000 + 0x20 * e.1) →
    (q.foldl (fun s e => s.wr (0xA00000 + 0x20 * e.1) e.2) s).rd a = s.rd a := by
  induction q with
  | nil => exact fun _ _ _ => rfl
  | cons e q ih =>
    intro s a h
    obtain ⟨he, hq⟩ := List.forall_mem_cons.1 h
    exact (ih _ hq).trans (State.rd_wr_ne _ _ he)

/-- Writing queued words changes memory alone. -/
theorem writePlace0_eq (q : List (Nat × Word36)) : ∀ s : State, ∃ mem ecc,
    q.foldl (fun s e => s.wr (0xA00000 + 0x20 * e.1) e.2) s = { s with mem := mem, ecc := ecc } := by
  induction q with
  | nil => exact fun s => ⟨s.mem, s.ecc, rfl⟩
  | cons e q ih =>
    intro s
    obtain ⟨mem, ecc, h⟩ := ih (s.wr (0xA00000 + 0x20 * e.1) e.2)
    exact ⟨mem, ecc, h⟩

theorem flushBus (h : LeavesPower ks s t) : LeavesPower ks s t.flushBus := by
  have hrd {a : Nat} := rd_writePlace0 t.ldb.fwd t (a := a)
  obtain ⟨mem, ecc, e⟩ := writePlace0_eq t.ldb.fwd t
  rw [e] at hrd
  unfold State.flushBus
  rw [e]
  exact h.trans ⟨fun _ _ => rfl, fun _ ha => hrd ha, fun _ he => absurd he (by simp), rfl, rfl, rfl, rfl, rfl, fun h => h,
    fun h => h, rfl, rfl⟩

theorem setHeld (h : LeavesPower ks s t) (hk : OffPages ks busPages) (l : List Bool) : LeavesPower ks s (t.setHeld l) := by
  have h1 : LeavesPower ks s { t with ldb := { t.ldb with held := l } } := h.update
  exact h1.setB (hk.notMem (by decide)) _

theorem kaStop (h : LeavesPower ks s t) (hk : OffPages ks busPages) : LeavesPower ks s t.kaStop := by
  unfold State.kaStop
  extract_lets s1 s2
  have h1 : LeavesPower ks s s1 := (h.setB (hk.notMem (by decide)) false).setB (hk.notMem (by decide)) false
  have h2 : LeavesPower ks s s2 := (h1.setB (hk.notMem (by decide)) false).flushBus
  have h3 : LeavesPower ks s { s2 with ldb := { s2.ldb with enumerating := false, loadWaits := false, arm := none } } := h2.update
  exact h3.setHeld hk _

theorem enumerate (h : LeavesPower ks s t) (hk : OffPages ks busPages) : LeavesPower ks s t.enumerate := by
  have h1 : LeavesPower ks s ((t.setB LDB.STATUS.ENUMERATED false).setB EMIT.FF_CTRL.LOADING false).flushBus :=
    ((h.setB (hk.notMem (by decide)) false).setB (hk.notMem (by decide)) false).flushBus
  unfold State.enumerate
  extract_lets waits s1 ldb s2
  have h2 : LeavesPower ks s s2 := h1.update
  exact (h2.setHeld hk _).putBus _ _ _

theorem ldbStart (h : LeavesPower ks s t) (hk : OffPages ks busPages) : LeavesPower ks s t.ldbStart :=
  ite h ((h.setB (hk.notMem (by decide)) true).enumerate hk)

theorem ldbDisable (h : LeavesPower ks s t) (hk : OffPages ks busPages) : LeavesPower ks s t.ldbDisable :=
  ite (((h.putBus _ _ _).kaStop hk).setB (hk.notMem (by decide)) false) (h.setB (hk.notMem (by decide)) false)

theorem dropFire (h : LeavesPower ks s t) : LeavesPower ks s t.dropFire := h.update

/-! ## Steering (Steer) -/

theorem axisPages : ∀ a < 2, STEER.STAT a / 0x400 ∈ settlePages ∧ STEER.DRIVE a / 0x400 ∈ settlePages := by decide

section
variable (hk : OffPages ks settlePages) {a : Nat} (ha : a < 2)
include hk ha

theorem stopAxis (h : LeavesPower ks s t) (m : AxisMode) : LeavesPower ks s (t.stopAxis a m) := by
  have h1 (x : Axis) : LeavesPower ks s (t.setAxis a x) := h.update
  exact (h1 _).setB (hk.notMem (axisPages a ha).1) false

theorem closeAxis (h : LeavesPower ks s t) (m : AxisMode) : LeavesPower ks s (t.closeAxis a m) :=
  (h.setI (hk.notMem (axisPages a ha).2) _).update

theorem axisMode (h : LeavesPower ks s t) (m : Nat) : LeavesPower ks s (t.axisMode m a) := by
  unfold State.axisMode
  refine ite (stopAxis hk ha h _) ?_
  split
  · exact stopAxis hk ha h _
  · exact ite (closeAxis hk ha h _) (stopAxis hk ha h _)
  · exact closeAxis hk ha h _
  · exact closeAxis hk ha h _

end

theorem staticNow (h : LeavesPower ks s t) (hk : OffPages ks settlePages) : LeavesPower ks s t.staticNow :=
  ite ((h.setB (hk.notMem (by decide)) true).event (hk.notMem (by decide)) 2) h

theorem decidePlaus (h : LeavesPower ks s t) (hk : OffPages ks settlePages) (cause : Nat) :
    LeavesPower ks s (t.decidePlaus cause) := by
  have mark {u : State} (hu : LeavesPower ks s u) : LeavesPower ks s u.markHands := hu.update
  unfold State.decidePlaus
  extract_lets s1 run clears _ s2 _ s3 _ s4
  have h1 : LeavesPower ks s s1 := h.setF (hk.notMem (by decide)) cause
  have h2 : LeavesPower ks s s2 := ite h1.update h1
  have h3 : LeavesPower ks s s3 := by
    have hclr := (h2.setB (x := STEER.PLAUS.PLAUSIBLE) (hk.notMem (by decide)) false).event (p := 0x14) (hk.notMem (by decide)) 2
    exact ite (ite (hclr.incF (hk.notMem (by decide))) hclr) h2
  have h4 : LeavesPower ks s s4 := by
    have hset := (h3.setB (x := STEER.PLAUS.UNCERTAIN) (hk.notMem (by decide)) true).event (p := 0x14) (hk.notMem (by decide)) 3
    exact ite (ite (mark h3) (mark (ite (hset.incF (hk.notMem (by decide))) hset))) (h3.setB (hk.notMem (by decide)) false)
  exact h4.staticNow hk

theorem steerMode (h : LeavesPower ks s t) (hk : OffPages ks settlePages) : LeavesPower ks s t.steerMode := by
  have h1 (x : Steer) : LeavesPower ks s { t with steer := x } := h.update
  exact ite (h.decidePlaus hk _) ((axisMode hk (by decide) (axisMode hk (by decide) (h1 _) _) _).decidePlaus hk _)

/-! ## Warning zones, fields, the end-of-line run (Fusion, Field, Commit) -/

theorem zoneCheck (h : LeavesPower ks s t) (hk : OffPages ks settlePages) (frame az : Nat) :
    LeavesPower ks s (t.zoneCheck frame az) := by
  have hset (z : Zones) : LeavesPower ks s (t.setZones z) := h.update
  have hshown (z : Zones) : LeavesPower ks s (t.setZones z).showZones :=
    ((((hset z).setF (hk.notMem (by decide)) _).setF (hk.notMem (by decide)) _).setF (hk.notMem (by decide)) _).setF
      (hk.notMem (by decide)) _
  refine ite h (ite (hshown _) ?_)
  exact sendPacket (dt := 0x30) ((hshown _).event (hk.notMem (by decide)) 1) (by decide) _ _ _ _

theorem safePacket (h : LeavesPower ks s t) (reason : Nat) : LeavesPower ks s (t.safePacket reason) := by
  unfold State.safePacket
  extract_lets _ s1
  have h1 : LeavesPower ks s s1 := ite h h.update
  exact sendPacket (dt := 0x31) h1 (by decide) 0 s1.gen4 s1.timeNs _

theorem showField (h : LeavesPower ks s t) (hk : OffPages ks settlePages) : LeavesPower ks s t.showField := by
  unfold State.showField
  extract_lets v w1 w2 old rises warn s1 s2 s3
  have h1 : LeavesPower ks s s1 :=
    ((h.setF (hk.notMem (by decide)) v).setF (hk.notMem (by decide)) w1).setF (hk.notMem (by decide)) w2
  have h3 : LeavesPower ks s s3 :=
    ((h1.setF (hk.notMem (by decide)) _).eventIf (hk.notMem (by decide)) _ 0).eventIf (hk.notMem (by decide)) warn 1
  exact ite h3 (h3.safePacket 3)

theorem fieldCheck (h : LeavesPower ks s t) (hk : OffPages ks settlePages) : LeavesPower ks s t.fieldCheck :=
  (ite h h.update).showField hk

theorem eolAbandon (h : LeavesPower ks s t) (hk : OffPages ks settlePages) : LeavesPower ks s t.eolAbandon := by
  unfold State.eolAbandon
  split
  · exact h
  · have hcal {x : State} (hx : LeavesPower ks s x) (cal : Cal) : LeavesPower ks s { x with cal := cal } := hx.update
    exact (hcal ((h.setB (hk.notMem (by decide)) false).setF (hk.notMem (by decide)) 3) _).event (hk.notMem (by decide)) 3

theorem settle (h : LeavesPower ks s t) (hk : OffPages ks settlePages) : LeavesPower ks s t.settle := by
  unfold State.settle
  extract_lets s1
  have h1 : LeavesPower ks s s1 := ((h.steerMode hk).zoneCheck hk _ _).fieldCheck hk
  exact ite h1 (h1.eolAbandon hk)

/-! ## SAFE (Safe) -/

theorem showOut (h : LeavesPower ks s t) (hk : OffPages ks [0x08]) : LeavesPower ks s t.showOut := by
  unfold State.showOut
  extract_lets v old s1 s2
  have h1 : LeavesPower ks s s1 := h.setF (hk.notMem (by decide)) v
  have h2 : LeavesPower ks s s2 := ite ((h1.incF (hk.notMem (by decide))).event (hk.notMem (by decide)) 2) h1
  exact ite h (h2.safePacket 2)

theorem safeFold (h : LeavesPower ks s t) (hk : OffPages ks [0x08]) : LeavesPower ks s t.safeFold := by
  have hoff : LeavesPower ks s (t.setSafe { t.safe with on := false, since := 0 }) := h.trans
    ⟨fun _ _ => rfl, fun _ _ => rfl, fun _ h => h, rfl, rfl, rfl, rfl, rfl, fun h => h, fun _ => rfl, rfl, rfl⟩
  unfold State.safeFold
  extract_lets off s1
  have h1 : LeavesPower ks s s1 := ite (hoff.event (hk.notMem (by decide)) 0) h
  exact (h1.setB (hk.notMem (by decide)) false).showOut hk

/-! ## Camera ports (Camera) -/

theorem portPages : ∀ p < 4, CAM.EGEN p / 0x400 ∈ camPages ∧ CAM.I2C_XFER p / 0x400 ∈ camPages ∧
    CAM.I2C_STAT p / 0x400 ∈ camPages ∧ hdr (camPage p) 3 / 0x400 ∈ camPages := by decide

theorem updPort (h : LeavesPower ks s t) (p : Nat) (g : CamPort → CamPort) : LeavesPower ks s (t.updPort p g) := h.update

theorem i2cRelease (h : LeavesPower ks s t) (hk : OffPages ks camPages) {p : Nat} (hp : p < 4) :
    LeavesPower ks s (t.i2cRelease p) := by
  obtain ⟨_, hxfer, hstat, _⟩ := portPages p hp
  exact (ite ((h.setB (hk.notMem hxfer) false).setB (hk.notMem hstat) false) h).updPort _ _

theorem i2cReleaseAll (h : LeavesPower ks s t) (hk : OffPages ks camPages) : LeavesPower ks s t.i2cReleaseAll :=
  foldl _ (fun _ _ hp hu => hu.i2cRelease hk (List.mem_range.1 hp)) h

theorem relayDone (h : LeavesPower ks s t) (hk : OffPages ks camPages) {p : Nat} (hp : p < 4) (r : Relay) :
    LeavesPower ks s (t.relayDone p r) := by
  obtain ⟨hegen, _, _, hev⟩ := portPages p hp
  exact (((h.setF (hk.notMem hegen) _).updPort _ _).event (hk.notMem hev) 8).eventIf (hk.notMem hev) _ 4

theorem i2cNext (h : LeavesPower ks s t) (hk : OffPages ks camPages) {p : Nat} (hp : p < 4) : LeavesPower ks s (t.i2cNext p) := by
  obtain ⟨hegen, _, _, _⟩ := portPages p hp
  unfold State.i2cNext
  extract_lets c s1 c1 s2
  have h1 : LeavesPower ks s s1 := by
    refine ite h ?_
    split
    · refine ite h ?_
      split
      · exact h.relayDone hk hp _
      · exact h.updPort _ _
    · exact h
  have h2 : LeavesPower ks s s2 := ite (h1.updPort _ _) h1
  exact ite h (h2.setB (hk.notMem hegen) _)

end
end LeavesPower
end Sys2Proof.Machine
end

section
/-! SUPPORT. Power-up (spec/03 R51, R53, R56; spec/02 R45): the ledger's boot parameters, what a cut of the supply or a reset
leaves of the ledger, and the entry to Power-up. -/

namespace Sys2Proof.Machine

section
variable {s t : State}

/-! ## The ledger's boot parameters (R56, R63) -/

/-- The words that hold boot parameters or follow them. -/
def bootWords : List Nat := [BOOT.PARAM, LEDGER.BOOTP, CLK.REFSEL]

/-- The boot parameters `w` of the ledger have come into force. -/
structure BootpLoaded (s t : State) (w : Word) : Prop where
  param : t.reg BOOT.PARAM = w
  ledger : t.reg LEDGER.BOOTP = w
  words : SameWords s t bootWords
  rest : OnlyRegs s t

/-- Without a block that was written and can be read nothing changes. -/
theorem loadBootp_eq_self (h : s.led.bootp = none ∨ s.bootpReadable = false) : s.loadBootp = s := by
  unfold State.loadBootp
  split
  · next w hw =>
    rcases h with h | h
    · rw [h] at hw
      cases hw
    · rw [h, if_neg (by decide)]
  · rfl

theorem loadBootp_loaded {w : Word} (hw : s.led.bootp = some w) (hr : s.bootpReadable = true) : BootpLoaded s s.loadBootp w := by
  have hparam : ((s.setReg BOOT.PARAM w).setReg LEDGER.BOOTP w).reg BOOT.PARAM = w := by
    rw [State.reg_setReg_ne _ _ (by decide), State.reg_setReg_self]
  rw [State.loadBootp, hw]
  dsimp only
  rw [if_pos hr]
  refine ⟨?_, ?_, ?_, rfl⟩
  · rw [State.reg_setF_ne _ _ _ (by decide), hparam]
  · rw [State.reg_setF_ne _ _ _ (by decide), State.reg_setReg_self]
  · exact (((SameWords.refl s _).setReg w (by decide)).setReg w (by decide)).setF _ (by decide)

theorem loadBootp_onlyRegs (s : State) : OnlyRegs s s.loadBootp := by
  cases hw : s.led.bootp with
  | none => rw [loadBootp_eq_self (.inl hw)]; rfl
  | some w =>
    cases hr : s.bootpReadable with
    | false => rw [loadBootp_eq_self (.inr hr)]; rfl
    | true => exact (loadBootp_loaded hw hr).rest

theorem loadBootp_sameWords (s : State) : SameWords s s.loadBootp bootWords := by
  cases hw : s.led.bootp with
  | none => rw [loadBootp_eq_self (.inl hw)]; exact SameWords.refl s _
  | some w =>
    cases hr : s.bootpReadable with
    | false => rw [loadBootp_eq_self (.inr hr)]; exact SameWords.refl s _
    | true => exact (loadBootp_loaded hw hr).words

/-- Whether the block can be read depends on the words in error alone. -/
theorem bootpReadable_congr (h : t.ecc = s.ecc) : t.bootpReadable = s.bootpReadable := by
  simp only [State.bootpReadable, State.spanBad, h]

/-! ## What is left of the ledger by a cut (R439) -/

/-- Words replaced by free values change memory and the count of free values alone. -/
theorem foldl_wrFree_eq (b : Nat) (l : List Nat) : ∀ s : State, ∃ mem ecc free,
    l.foldl (fun s i => s.wrFree (b + i)) s = { s with mem := mem, ecc := ecc, free := free } := by
  induction l with
  | nil => exact fun s => ⟨s.mem, s.ecc, s.free, rfl⟩
  | cons i l ih =>
    intro s
    obtain ⟨mem, ecc, free, h⟩ := ih (s.wrFree (b + i))
    exact ⟨mem, ecc, free, h⟩

/-- A cut ends the block writes under way and the image command; only the words of an image being stored change. -/
theorem ledgerCut_eq (s : State) : ∃ mem ecc free, s.ledgerCut = { s with
      led := { s.led with ops := [] }
      img := {}
      mem := mem
      ecc := ecc
      free := free } ∧
    (s.img.cfg ≠ some .store → mem = s.mem) := by
  unfold State.ledgerCut
  extract_lets led s1
  split
  · next hstore =>
    obtain ⟨mem, ecc, free, h⟩ :=
      foldl_wrFree_eq (slotBase s1.cfgInactive) (List.range (min 65536 (s1.cfgLength s1.cfgInactive))) s1
    exact ⟨mem, ecc, free, congrArg (fun x : State => { x with img := ({} : Images) }) h, fun hno => absurd hstore hno⟩
  · exact ⟨s.mem, s.ecc, s.free, rfl, fun _ => rfl⟩

/-- What Power-up goes by is not part of the cut. -/
theorem ledgerCut_keeps (s : State) : s.ledgerCut.pwr.pgIo = s.pwr.pgIo ∧ s.ledgerCut.led.bootp = s.led.bootp ∧
    s.ledgerCut.reg BOOT.CAUSE = s.reg BOOT.CAUSE ∧ s.ledgerCut.time = s.time := by
  obtain ⟨_, _, _, hcut, _⟩ := ledgerCut_eq s
  rw [hcut]
  exact ⟨rfl, rfl, rfl, rfl⟩

/-! ## The entry to Power-up (R51, R45) -/

/-- The power manager as Power-up is entered in a phase, nRESET held or not. -/
def State.poweredUp (s : State) (phase : Nat) (held : Bool) : Power :=
  { phase := phase, nresetLow := held, seqStart := s.mono, transStart := s.mono, retriesUsed := s.pwr.retriesUsed,
    wakePin := s.pwr.wakePin, pgIo := s.pwr.pgIo }

/-- Registers, shadows and TIME of a device that has entered Power-up, and what it keeps of the state before. -/
structure PowerUpEntered (s t : State) (phase : Nat) (held : Bool) : Prop where
  pwr : t.pwr = s.poweredUp phase held
  words : ∀ a, a ∉ [BOOT.CAUSE, BOOT.PARAM, LEDGER.BOOTP, CLK.REFSEL] → t.reg a = resetWord a
  loaded : ∀ w, s.pwr.pgIo = true → s.led.bootp = some w → t.bootpReadable = true → t.reg BOOT.PARAM = w ∧ t.reg LEDGER.BOOTP = w
  plain : s.pwr.pgIo = false ∨ s.led.bootp = none ∨ t.bootpReadable = false → ∀ a, a ≠ BOOT.CAUSE → t.reg a = resetWord a
  cause : t.reg BOOT.CAUSE = s.reg BOOT.CAUSE
  shadow : ∀ a, t.shad a = resetWord a
  time : t.time = s.time
  lock : t.lockOpen = false
  led : t.led = s.led
  ledger : ∀ a, memRegion a = 5 → t.rd a = s.rd a
  pending : t.pending = s.pending

theorem powerUpEntry_entered (s : State) (phase : Nat) (held : Bool) :
    PowerUpEntered s (s.powerUpEntry phase held) phase held := by
  unfold State.powerUpEntry
  extract_lets r _ _ _ _ t0 t1
  have hreg : ∀ a, a ≠ BOOT.CAUSE → t1.reg a = resetWord a := fun a ha => State.reg_setReg_ne t0 _ ha
  have hcause : t1.reg BOOT.CAUSE = s.reg BOOT.CAUSE := State.reg_setReg_self ..
  have hled : ∀ a, memRegion a = 5 → t1.rd a = s.rd a := by
    intro a ha
    change Cells.get (memDefault t0.lost) (s.mem.filter fun e => memRegion e.1 == 5) a = _
    rw [Cells.get_filter s.mem (fun a => memRegion a == 5), if_pos (by simp [ha]), State.rd]
    exact Cells.get_congr_default s.mem (memDefault_ledger ha rfl)
  have hparts : t1.led = s.led ∧ t1.shadow = [] ∧ t1.time = s.time ∧ t1.lockOpen = false ∧ t1.pending = s.pending :=
    ⟨rfl, rfl, rfl, rfl, rfl⟩
  have hpwr : t1.pwr = s.poweredUp phase held := rfl
  clear_value t1
  obtain ⟨hl, hs, ht, hk, hp⟩ := hparts
  have hshad : ∀ a, t1.shad a = resetWord a := fun a => by rw [State.shad, hs]; rfl
  have hdown : s.pwr.pgIo = false ∨ s.led.bootp = none ∨ t1.bootpReadable = false →
      (if s.pwr.pgIo then t1.loadBootp else t1) = t1 := by
    rintro (h | h)
    · rw [h]; rfl
    · rw [loadBootp_eq_self (hl ▸ h), ite_self]
  have hread : (if s.pwr.pgIo then t1.loadBootp else t1).bootpReadable = t1.bootpReadable := by
    refine bootpReadable_congr ?_
    split
    · rw [loadBootp_onlyRegs t1]
    · rfl
  by_cases hload : s.pwr.pgIo = false ∨ s.led.bootp = none ∨ t1.bootpReadable = false
  · rw [hdown hload]
    refine ⟨hpwr, fun a ha => hreg a fun e => ha (by simp [e]), ?_, fun _ => hreg, hcause, hshad, ht, hk, hl, hled, hp⟩
    intro w h1 h2 h3
    simp [h1, h2, h3] at hload
  · rw [hread.symm] at hload
    obtain ⟨h1, h2, h3⟩ := not_or.1 hload |>.imp_right not_or.1
    obtain ⟨w, hw⟩ := Option.ne_none_iff_exists'.1 h2
    have hio : s.pwr.pgIo = true := by simpa using h1
    rw [hread] at h3
    rw [if_pos hio]
    obtain ⟨hparam, hbootp, hwords, hrest⟩ := loadBootp_loaded (hl ▸ hw) (by simpa using h3)
    refine ⟨?_, ?_, ?_, ?_, ?_, ?_, ?_, ?_, ?_, ?_, ?_⟩
    · rw [hrest, hpwr]
    · intro a ha
      rw [hwords a (by simp only [List.mem_cons, not_or, bootWords] at ha ⊢; tauto), hreg a fun e => ha (by simp [e])]
    · intro v _ hv _
      obtain rfl : w = v := Option.some.inj (hw.symm.trans hv)
      exact ⟨hparam, hbootp⟩
    · intro hno
      rw [bootpReadable_congr (t := t1.loadBootp) (s := t1) (by rw [hrest])] at hno
      simp [hio, hw, h3] at hno
    · rw [hwords _ (by decide), hcause]
    · intro a
      rw [← hshad a, hrest]
      rfl
    · rw [hrest, ← ht]
    · rw [hrest, ← hk]
    · rw [hrest, ← hl]
    · intro a ha
      rw [← hled a ha]
      exact State.rd_congr (by rw [hrest]) (by rw [hrest]) a
    · rw [hrest, ← hp]

/-- BOOT.CAUSE is cleared by power-on (R10). -/
theorem resetWord_bootCause : resetWord BOOT.CAUSE = 0 := by decide +kernel

/-- Power-on clears BOOT.CAUSE too: without PG_IO every register reads its reset value. -/
theorem PowerUpEntered.reset_words {phase : Nat} {held : Bool} (h : PowerUpEntered s t phase held) (hio : s.pwr.pgIo = false)
    (a : Nat) : (t.setReg BOOT.CAUSE 0).reg a = resetWord a := by
  by_cases ha : a = BOOT.CAUSE
  · rw [ha, State.reg_setReg_self, resetWord_bootCause]
  · rw [State.reg_setReg_ne _ _ ha, h.plain (.inl hio) a ha]

/-! ## POR and nRESET -/

theorem faultLow_of_powerUp (h : s.pwr.st = .powerUp) : s.faultLow = true := by rw [State.faultLow, h]

theorem porRelease_enters (h : s.pwr.st = .unpowered) : ∃ t, exec .porRelease s = .next t ∧
    t.pwr.st = .powerUp ∧ t.pwr.step = .pgWait ∧ t.pwr.phase = 0 ∧ t.pwr.retriesUsed = 0 ∧
    (∀ a, t.reg a = resetWord a) ∧ (∀ a, t.shad a = resetWord a) ∧ t.time = 0 ∧ t.lockOpen = false ∧ t.faultLow = true ∧
    t.led = s.led ∧ (∀ a, memRegion a = 5 → t.rd a = s.rd a) ∧ t.pending = s.pending := by
  have hin := powerUpEntry_entered { s with pwr := { s.pwr with pgIo := false } } 0 s.pwr.nresetLow
  have hwords := hin.reset_words rfl
  refine ⟨_, if_neg (by simp [h]), congrArg Power.st hin.pwr, congrArg Power.step hin.pwr, congrArg Power.phase hin.pwr, rfl,
    hwords, hin.shadow, rfl, hin.lock, faultLow_of_powerUp (congrArg Power.st hin.pwr), hin.led, hin.ledger, hin.pending⟩

/-- What a device that has entered Power-up keeps of the ledger it was cut off from (R439). -/
theorem PowerUpEntered.of_cut {phase : Nat} {held : Bool} (h : PowerUpEntered s.ledgerCut t phase held) :
    t.led = { s.led with ops := [] } ∧ (s.img.cfg ≠ some .store → ∀ a, memRegion a = 5 → t.rd a = s.rd a) ∧
    t.pending = s.pending := by
  obtain ⟨mem, ecc, free, hcut, hmem⟩ := ledgerCut_eq s
  rw [hcut] at h
  exact ⟨h.led, fun hno a ha => (h.ledger a ha).trans (by rw [hmem hno]; rfl), h.pending⟩

theorem porLoss_cuts (s : State) : ∃ t, exec .porLoss s = .next t ∧ t.pwr.st = .unpowered ∧
    (∀ a, t.reg a = resetWord a) ∧ (∀ a, t.shad a = resetWord a) ∧ t.time = 0 ∧ t.lockOpen = false ∧ t.faultLow = true ∧
    t.led.password = s.led.password ∧ t.led.bootp = s.led.bootp ∧ t.led.cal = s.led.cal ∧
    t.led.logNext = s.led.logNext ∧ t.led.ops = [] ∧
    (s.img.cfg ≠ some .store → ∀ a, memRegion a = 5 → t.rd a = s.rd a) ∧ t.pending = s.pending := by
  have hin := powerUpEntry_entered (State.keepBlock { s with pwr := { s.pwr with pgIo := false } }).ledgerCut 0 s.pwr.nresetLow
  obtain ⟨hled, hledger, hpending⟩ := hin.of_cut
  have hwords := hin.reset_words (ledgerCut_keeps _).1
  refine ⟨_, rfl, rfl, hwords, hin.shadow, rfl, hin.lock, rfl, ?_, ?_, ?_, ?_, ?_, hledger, hpending⟩
  · exact (congrArg Ledger.password hled :)
  · exact (congrArg Ledger.bootp hled :)
  · exact (congrArg Ledger.cal hled :)
  · exact (congrArg Ledger.logNext hled :)
  · exact (congrArg Ledger.ops hled :)

theorem nresetFall_enters (hp : s.pwr.st ≠ .unpowered) (hth : ¬(s.pwr.st = .fold ∧ s.f BOOT.CAUSE.CODE = 0x20)) :
    ∃ t, exec .nresetFall s = .next t ∧ PowerUpEntered s.ledgerCut t 1 true := by
  refine ⟨_, if_neg ?_, powerUpEntry_entered s.ledgerCut 1 true⟩
  simpa [State.thermalFold, hp] using hth

end

/-- Settles O3: nothing is listed in the registers, the shadows and the memories, and nothing has been lost yet. -/
theorem resetState : Obligations.ResetState := by
  refine ⟨rfl, rfl, fun _ => rfl, fun _ => rfl, rfl, rfl, rfl, rfl, rfl, rfl, rfl, rfl, rfl, rfl, rfl, ?_, rfl, rfl, ?_⟩
  · exact fun f hf => (List.mem_replicate.1 hf).2
  · intro a ha
    have hcount : Lost.count {} a = 0 := by unfold Lost.count; split <;> rfl
    change memDefault {} a = 0
    rw [memDefault, ha, hcount]
    rfl

/-- Settles O7: POR and nRESET by what the entry to Power-up leaves (`PowerUpEntered`) after the cut of the ledger. -/
theorem powerOnAndReset : Obligations.PowerOnAndReset := by
  refine ⟨fun s h => porRelease_enters h, porLoss_cuts, ?_, ?_, ?_⟩
  · intro s hp hth
    obtain ⟨t, e, hin⟩ := nresetFall_enters hp hth
    obtain ⟨hled, hledger, hpending⟩ := hin.of_cut
    obtain ⟨hpg, hbootp, hcause, htime⟩ := ledgerCut_keeps s
    have hst : t.pwr.st = .powerUp := congrArg Power.st hin.pwr
    refine ⟨t, e, hst, congrArg Power.nresetLow hin.pwr, congrArg Power.phase hin.pwr,
      ⟨hin.words, fun w h1 h2 => hin.loaded w (hpg.trans h1) (hbootp.trans h2), fun h => hin.plain (by rwa [hpg, hbootp])⟩,
      hin.cause.trans hcause, hin.shadow, hin.time.trans htime, hin.lock, faultLow_of_powerUp hst, ?_, hledger, hpending⟩
    rw [hled]
  · exact fun s hf hc => if_pos (.inr (by simp [State.thermalFold, hf, hc]))
  · intro s hp hl
    exact if_neg (by simp [State.thermalFold, hp, hl])

end Sys2Proof.Machine
end

section
/-! SUPPORT. The entry to FOLD (spec/03 R46, R47, R65). -/

namespace Sys2Proof.Machine

section
variable {s t u : State} {code detail : Nat}

/-! ## Fields -/

theorem f_of_reg {x : Fld} (h : t.reg x.addr = s.reg x.addr) : t.f x = s.f x := congrArg x.get h

theorem fb_of_reg {x : Fld} (h : t.reg x.addr = s.reg x.addr) : t.fb x = s.fb x := by rw [State.fb, f_of_reg h, State.fb]

theorem fb_setB_self (s : State) {x : Fld} (b : Bool) (hw : x.width = 1) (h : x.lo + x.width ≤ 32) : (s.setB x b).fb x = b := by
  rw [State.fb, State.setB, State.f_setF_self _ _ _ h, hw]
  cases b <;> rfl

theorem fb_setB_ne (s : State) {x y : Fld} (b : Bool) (hx : x.lo + x.width ≤ 32) (ha : y.addr = x.addr)
    (h : y.lo + y.width ≤ x.lo ∨ x.lo + x.width ≤ y.lo) : (s.setB x b).fb y = s.fb y := by
  rw [State.fb, State.setB, State.f_setF_ne _ _ _ _ hx ha h, State.fb]

/-! ## What the entry to FOLD does step by step -/

/-- The TX lanes change nothing but TAB.STATUS and the link. -/
theorem foldLanes_eq (s : State) : ∃ regs link, s.foldLanes = { s with regs := regs, link := link } ∧
    SameWords s s.foldLanes [TAB.STATUS] := by
  have hset (x : Nat) : SameWords s ((s.setB TAB.STATUS.LINK_UP false).setF TAB.STATUS.TX_STATE x) [TAB.STATUS] :=
    ((SameWords.refl s _).setF (x := TAB.STATUS.LINK_UP) _ (by decide)).setF (x := TAB.STATUS.TX_STATE) _ (by decide)
  unfold State.foldLanes
  split
  · exact ⟨_, _, rfl, hset 0⟩
  · split
    · exact ⟨_, _, rfl, hset 1⟩
    · exact ⟨s.regs, s.link, rfl, SameWords.refl s _⟩

/-- Only the contents of the histogram memory are lost. -/
theorem rd_histLost {a : Nat} (ha : memRegion a ≠ 3) : s.histLost.rd a = s.rd a := by
  have hdef : memDefault { s.lost with hist := s.lost.hist + 1, cleared := [] } a = memDefault s.lost a := by
    have hcount : Lost.count { s.lost with hist := s.lost.hist + 1, cleared := [] } a = s.lost.count a := by
      unfold Lost.count
      split
      · rfl
      · rfl
      · next h3 => exact absurd h3 ha
      · rfl
      · rfl
    simp [memDefault, hcount, ha]
  change Cells.get (memDefault _) (s.mem.filter fun e => memRegion e.1 != 3) a = _
  rw [Cells.get_filter s.mem (fun a => memRegion a != 3), if_pos (by simpa using ha), State.rd]
  exact Cells.get_congr_default s.mem hdef

theorem ldbDisable_ka (s : State) : s.ldbDisable.fb LDB.STATUS.KA = false := by
  have hoff (u : State) (h : u.fb LDB.STATUS.KA = false) : (u.setB LDB.STATUS.RECOVERING false).fb LDB.STATUS.KA = false := by
    rw [fb_setB_ne _ _ (by decide) (by decide) (by decide), h]
  have hstop (u : State) : u.kaStop.fb LDB.STATUS.KA = false := by
    have h : ((u.setB LDB.STATUS.KA false).setB LDB.STATUS.ENUMERATED false).fb LDB.STATUS.KA = false := by
      rw [fb_setB_ne _ _ (by decide) (by decide) (by decide), fb_setB_self _ _ rfl (by decide)]
    unfold State.kaStop
    extract_lets s1 s2
    have h2 : s2.fb LDB.STATUS.KA = false := by
      rw [← h]
      exact fb_of_reg ((((LeavesPower.refl s1 [LDB.STATUS]).setB (by decide) false).flushBus).words _ (by decide))
    exact (fb_of_reg (State.reg_setF_ne _ EMIT.FF_CTRL.LOADED _ (by decide))).trans h2
  unfold State.ldbDisable
  split
  · exact hoff _ (hstop _)
  · exact hoff _ (Bool.eq_false_iff.2 ‹_›)

/-- The outputs of SAFE are off after an entry to FOLD. -/
theorem safeFold_outputs (s : State) : s.safeFold.safe.on = false := by
  unfold State.safeFold
  extract_lets off s1
  have h1 : (s1.setB SAFE.STATUS.PERMIT false).safe.on = false := by
    change s1.safe.on = false
    unfold s1
    split
    · exact congrArg Safe.on (State.event_safe ..)
    · exact Bool.eq_false_iff.2 ‹_›
  exact ((LeavesPower.refl _ []).showOut (fun _ h => absurd h (by simp))).outputs h1

/-- The cause and the phase as an entry to FOLD records them. -/
theorem recordFold_fields (hc : code < 256) (hd : detail < 256) :
    (s.recordFold code detail).f BOOT.CAUSE.CODE = code ∧ (s.recordFold code detail).f BOOT.CAUSE.DETAIL = detail ∧
    (s.recordFold code detail).f BOOT.CAUSE.PHASE = (if 0x30 ≤ code then 3 else s.pwr.foldFrom % 4) := by
  have hcode (u : State) (d p : Nat) : (((u.setF BOOT.CAUSE.CODE code).setF BOOT.CAUSE.DETAIL d).setF BOOT.CAUSE.PHASE p).f
      BOOT.CAUSE.CODE = code := by
    rw [State.f_setF_ne _ BOOT.CAUSE.PHASE BOOT.CAUSE.CODE _ (by decide) (by decide) (by decide),
      State.f_setF_ne _ BOOT.CAUSE.DETAIL BOOT.CAUSE.CODE _ (by decide) (by decide) (by decide), State.f_setF_self _ _ _ (by decide)]
    exact Nat.mod_eq_of_lt hc
  have hdetail (u : State) (p : Nat) : ((u.setF BOOT.CAUSE.DETAIL detail).setF BOOT.CAUSE.PHASE p).f BOOT.CAUSE.DETAIL = detail := by
    rw [State.f_setF_ne _ BOOT.CAUSE.PHASE BOOT.CAUSE.DETAIL _ (by decide) (by decide) (by decide), State.f_setF_self _ _ _ (by decide)]
    exact Nat.mod_eq_of_lt hd
  have hphase (u : State) (p : Nat) : (u.setF BOOT.CAUSE.PHASE p).f BOOT.CAUSE.PHASE = p % 4 :=
    State.f_setF_self _ BOOT.CAUSE.PHASE _ (by decide)
  have hrun (x : Fld) : (s.recordFold code detail).f x = (((s.setF BOOT.CAUSE.CODE code).setF BOOT.CAUSE.DETAIL detail).setF
      BOOT.CAUSE.PHASE (if 0x30 ≤ code then 3 else s.pwr.foldFrom)).f x := rfl
  refine ⟨(hrun _).trans (hcode ..), (hrun _).trans (hdetail ..), ((hrun _).trans (hphase ..)).trans ?_⟩
  split <;> rfl

/-! ## The entry to FOLD -/

/-- The state in which an entry to FOLD has recorded its cause. -/
def State.foldNoted (s : State) (code detail : Nat) : State :=
  (({ s with pwr := { s.pwr with foldAt := s.mono, foldFrom := s.foldPhase } }).recordFold code detail).setF BOOT.CAUSE.RETRIES
    s.pwr.retriesUsed

/-- Emission, the lock, the change in progress, the outputs and the buses, as an entry to FOLD stops them. -/
def State.foldStopped (s : State) : State := s.ldbDisable.lockClose.abandonChange.safeFold.i2cReleaseAll

theorem foldStopped_leaves (s : State) : LeavesPower [BOOT.CAUSE] s s.foldStopped :=
  ((((((LeavesPower.refl s _).ldbDisable (by unfold OffPages; decide)).lockClose (by decide)).abandonChange (by decide)).safeFold
    (by unfold OffPages; decide)).i2cReleaseAll (by unfold OffPages; decide))

theorem foldStopped_off (s : State) : s.foldStopped.fb LDB.STATUS.KA = false ∧ s.foldStopped.lockOpen = false ∧
    s.foldStopped.safe.on = false := by
  have hlock : s.ldbDisable.lockClose.lockOpen = false := (State.eventIf_lockOpen ..)
  have h1 : LeavesPower [LDB.STATUS] s.ldbDisable s.ldbDisable.lockClose := (LeavesPower.refl _ _).lockClose (by decide)
  have h2 : LeavesPower [LDB.STATUS] s.ldbDisable.lockClose s.ldbDisable.lockClose.abandonChange :=
    (LeavesPower.refl _ _).abandonChange (by decide)
  have h3 : LeavesPower [LDB.STATUS] s.ldbDisable.lockClose.abandonChange s.ldbDisable.lockClose.abandonChange.safeFold :=
    (LeavesPower.refl _ _).safeFold (by unfold OffPages; decide)
  have h4 : LeavesPower [LDB.STATUS] s.ldbDisable.lockClose.abandonChange.safeFold s.foldStopped :=
    (LeavesPower.refl _ _).i2cReleaseAll (by unfold OffPages; decide)
  refine ⟨?_, h4.lock (h3.lock (h2.lock hlock)), h4.outputs (safeFold_outputs _)⟩
  rw [fb_of_reg (((h1.trans h2).trans (h3.trans h4)).words _ (by decide))]
  exact ldbDisable_ka s

/-- What an entry to FOLD ends in the power manager. -/
def State.foldCleared (s : State) : State :=
  { s with pwr := { s.pwr with
      shakes := []
      exit := none
      runPending := false
      runAfterExit := false
      readyPending := false
      wakeKept := 0
      wakeAfter := [] } }

theorem foldNoted_fields (hc : code < 256) (hd : detail < 256) :
    (s.foldNoted code detail).f BOOT.CAUSE.CODE = code ∧ (s.foldNoted code detail).f BOOT.CAUSE.DETAIL = detail ∧
    (s.foldNoted code detail).f BOOT.CAUSE.PHASE = (if 0x30 ≤ code then 3 else s.foldPhase % 4) := by
  have hrest (u : State) (x : Fld) (n : Nat) (hx : x ∈ [BOOT.CAUSE.CODE, BOOT.CAUSE.DETAIL, BOOT.CAUSE.PHASE]) :
      (u.setF BOOT.CAUSE.RETRIES n).f x = u.f x := by
    refine State.f_setF_ne _ BOOT.CAUSE.RETRIES x n (by decide) ?_ ?_ <;> revert x <;> decide
  obtain ⟨hcode, hdetail, hphase⟩ :=
    recordFold_fields (s := { s with pwr := { s.pwr with
      foldAt := s.mono
      foldFrom := s.foldPhase } }) hc hd
  exact ⟨(hrest _ _ _ (by simp)).trans hcode, (hrest _ _ _ (by simp)).trans hdetail, (hrest _ _ _ (by simp)).trans hphase⟩

/-- The power manager in a state it does not leave by itself. -/
def State.inState (s : State) (p : PState) : State :=
  { s with pwr := { s.pwr with
      st := p
      target := p } }

/-- A change of PWR.STATE is seen in the power manager, BOOT.TIMING and the events of page PWR. -/
theorem enter_leaves (s : State) (p : PState) {ks : List Nat} (hk : BOOT.TIMING ∉ ks ∧ hdr 0x02 3 ∉ ks) :
    LeavesPower ks (s.inState p) (s.enter p) := by
  have h1 (c : Bool) (b : Word) : LeavesPower ks (s.inState p)
      ((if p = .ready ∧ c then s.setReg BOOT.TIMING b else s).inState p) := by
    split
    · exact (LeavesPower.refl (s.inState p) ks).setReg hk.1 b
    · exact LeavesPower.refl _ _
  exact (h1 _ _).eventIf hk.2 _ 0

theorem LeavesPower.stopEmission {ks : List Nat} (h : LeavesPower ks s t) : LeavesPower ks s t.stopEmission := h.dropFire.update

theorem faultLow_of_fold (h : s.pwr.st = .fold) : s.faultLow = true := by rw [State.faultLow, h]

/-- An entry to FOLD from any other powered state (R46, R65). -/
theorem enterFold_entered (hu : s.pwr.st ≠ .unpowered) (hf : s.pwr.st ≠ .fold) (hc : code < 256) (hd : detail < 256) :
    FoldEntered s (s.enterFold code detail) code detail := by
  have hrun : s.enterFold code detail =
      ((s.foldNoted code detail).foldStopped.foldLanes.histLost.foldCleared.enter .fold).settle.stopEmission := by
    unfold State.enterFold
    rw [if_neg hu, if_neg fun h => hf h.1]
    rfl
  obtain ⟨hcode, hdetail, hphase⟩ := foldNoted_fields (s := s) hc hd
  have hm := foldStopped_leaves (s.foldNoted code detail)
  obtain ⟨hka, hlock, hout⟩ := foldStopped_off (s.foldNoted code detail)
  rw [hrun]
  generalize (s.foldNoted code detail).foldStopped = m at hm hka hlock hout ⊢
  obtain ⟨regs, link, e, hwords⟩ := foldLanes_eq m
  have hl : LeavesPower [BOOT.CAUSE, LDB.STATUS] (m.foldLanes.histLost.foldCleared.inState .fold)
      (m.foldLanes.histLost.foldCleared.enter .fold).settle.stopEmission :=
    ((enter_leaves _ .fold (by decide)).settle (by unfold OffPages; decide)).stopEmission
  have hreg (a : Nat) (ha : a ∈ [BOOT.CAUSE, LDB.STATUS]) :
      (m.foldLanes.histLost.foldCleared.enter .fold).settle.stopEmission.reg a = m.reg a := by
    rw [hl.words a ha, ← hwords a (by revert a; decide)]
    rfl
  have hrd (a : Nat) (h3 : memRegion a ≠ 3) (ha : ∀ e ∈ m.ldb.fwd, a ≠ 0xA00000 + 0x20 * e.1) :
      (m.foldLanes.histLost.foldCleared.enter .fold).settle.stopEmission.rd a = m.rd a := by
    have hlanes : m.foldLanes.rd a = m.rd a := by rw [e]; rfl
    exact (hl.memory a (by rw [e]; exact ha)).trans ((rd_histLost h3).trans hlanes)
  have hparts : m.foldLanes.time = m.time ∧ m.foldLanes.shadow = m.shadow ∧ m.foldLanes.pending = m.pending ∧
      m.foldLanes.lockOpen = m.lockOpen ∧ m.foldLanes.safe = m.safe := by
    rw [e]
    exact ⟨rfl, rfl, rfl, rfl, rfl⟩
  obtain ⟨htime, hshadow, hpending, hlk, hsafe⟩ := hparts
  have hst : (m.foldLanes.histLost.foldCleared.enter .fold).settle.stopEmission.pwr.st = .fold := congrArg Power.st hl.pwr
  refine ⟨hst, ?_, ?_, ?_, rfl, rfl, ?_, hl.outputs ((congrArg Safe.on hsafe).trans hout), hl.lock (hlk.trans hlock), ?_,
    hl.time.trans (htime.trans hm.time), hl.shadow.trans (hshadow.trans hm.shadow),
    hl.pending.trans (hpending.trans hm.pending), fun a h3 ha => ?_⟩
  · exact (f_of_reg ((hreg _ (by decide)).trans (hm.words _ (by decide)))).trans hcode
  · exact (f_of_reg ((hreg _ (by decide)).trans (hm.words _ (by decide)))).trans hdetail
  · exact (f_of_reg ((hreg _ (by decide)).trans (hm.words _ (by decide)))).trans hphase
  · exact (fb_of_reg (hreg _ (by decide))).trans hka
  · exact faultLow_of_fold hst
  · exact (hrd a h3 fun e he => ha e (hm.queued e he)).trans (hm.memory a ha)

/-- The lanes of a device that is in FOLD. -/
theorem FoldEntered.foldLanes (h : FoldEntered s u code detail) : FoldEntered s u.foldLanes code detail := by
  obtain ⟨regs, link, e, hwords⟩ := foldLanes_eq u
  have hreg {a : Nat} (ha : a ∉ [TAB.STATUS]) := hwords a ha
  rw [e] at hreg ⊢
  obtain ⟨hst, hcode, hdetail, hphase, hcur, hnext, hka, hout, hlock, hfault, htime, hshadow, hpending, hmem⟩ := h
  refine ⟨hst, (f_of_reg (hreg (by decide))).trans hcode, (f_of_reg (hreg (by decide))).trans hdetail,
    (f_of_reg (hreg (by decide))).trans hphase, hcur, hnext, (fb_of_reg (hreg (by decide))).trans hka, hout, hlock, ?_,
    htime, hshadow, hpending, hmem⟩
  exact faultLow_of_fold hst

theorem inStep_powerUp {st : StartStep} (h : s.inStep st = true) : s.pwr.st = .powerUp := by
  simp only [State.inStep, Bool.and_eq_true, beq_iff_eq] at h
  exact h.1.1

/-- The first page of a domain is one byte wide. -/
theorem domainPages_first : ∀ d : Fin 9, (domainPages d.val).head? = some (nth (domainPages d.val) 0 0xFF) ∧
    nth (domainPages d.val) 0 0xFF < 256 := by decide +kernel

/-- A FOLD entry from Power-up. -/
theorem enterFold_ofPowerUp (h : s.pwr.st = .powerUp) (hc : code < 256) (hd : detail < 256) :
    FoldEntered s (s.enterFold code detail) code detail :=
  enterFold_entered (by simp [h]) (by simp [h]) hc hd

/-- A FOLD entry from operation. -/
theorem enterFold_ofOperation (h : s.pwr.st = .ready ∨ s.pwr.st = .run ∨ s.pwr.st = .standby) (hc : code < 256)
    (hd : detail < 256) : FoldEntered s (s.enterFold code detail) code detail :=
  enterFold_entered (by rcases h with h | h | h <;> simp [h]) (by rcases h with h | h | h <;> simp [h]) hc hd

/-! ## The commands that enter FOLD (O9) -/

theorem pgTimeout_folds (core ana io : Bool) (h : s.inStep .pgWait = true) (hlow : (core && ana && io) = false) :
    ∃ t, exec (.pgTimeout core ana io) s = .next t ∧ FoldEntered s t (if !core then 1 else if !ana then 2 else 3) 0xFF := by
  have hin (c : Nat) (hc : c < 256) := enterFold_ofPowerUp (s := { s with pwr := { s.pwr with pgIo := s.pwr.pgIo && io } })
    (detail := 0xFF) (inStep_powerUp h) hc (by decide)
  change ∃ t, execPgTimeout core ana io s = .next t ∧ _
  unfold execPgTimeout
  rw [h]
  cases core
  · exact ⟨_, rfl, hin 1 (by decide)⟩
  · cases ana
    · exact ⟨_, rfl, hin 2 (by decide)⟩
    · cases io
      · exact ⟨_, rfl, hin 3 (by decide)⟩
      · cases hlow

theorem pgTimeout_noneLow (h : s.inStep .pgWait = true) :
    ∃ t c, exec (.pgTimeout true true true) s = .next t ∧ 1 ≤ c ∧ c ≤ 3 ∧ FoldEntered s t c 0xFF := by
  have hc : Config.freeNat s.free % 3 + 1 ≤ 3 := Nat.mod_lt _ (by decide)
  have hin := enterFold_ofPowerUp (code := Config.freeNat s.free % 3 + 1) (detail := 0xFF) (s := { s with
    pwr := { s.pwr with pgIo := s.pwr.pgIo && true }
    free := s.free + 1 }) (inStep_powerUp h) (by omega) (by decide)
  change ∃ t c, execPgTimeout true true true s = .next t ∧ _
  unfold execPgTimeout
  rw [h]
  exact ⟨_, _, rfl, Nat.le_add_left 1 _, hc, hin⟩

theorem pgLowInOperation_folds (i : PgInput) (h : s.pwr.st = .ready ∨ s.pwr.st = .run ∨ s.pwr.st = .standby) :
    ∃ t, exec (.pgLowInOperation i) s = .next t ∧
      FoldEntered s t (match i with | .core => 1 | .ana => 2 | .io => 3) 0xFF := by
  have hin (c : Nat) (hc : c < 256) := enterFold_ofOperation
    (s := { s with pwr := { s.pwr with pgIo := s.pwr.pgIo && i != .io } }) (detail := 0xFF) h hc (by decide)
  refine ⟨_, if_pos h, ?_⟩
  cases i
  · exact hin 1 (by decide)
  · exact hin 2 (by decide)
  · exact hin 3 (by decide)

theorem holdoverExpired_folds (h : s.pwr.st = .ready ∨ s.pwr.st = .run ∨ s.pwr.st = .standby) (hh : s.pwr.holdStart.isSome = true)
    (h0 : s.mayRelock 0 = false) (h1 : s.mayRelock 1 = false) :
    ∃ t, exec .holdoverExpired s = .next t ∧ FoldEntered s t 0x32 0xFF := by
  have hin := enterFold_ofOperation (code := 0x32) (detail := 0xFF)
    (s := ({ s with pwr := { s.pwr with holdStart := none } }).setB CLK.REFSEL.HOLDOVER false) h (by decide) (by decide)
  have hno : ¬(s.pwr.holdStart.isNone ∨ s.mayRelock 0 ∨ s.mayRelock 1) := by
    simpa [h0, h1, Option.isSome_iff_ne_none] using hh
  exact ⟨_, if_neg hno, FoldEntered.foldLanes hin⟩

end

/-- Settles O9: each cause is an entry to FOLD from a powered state other than FOLD (`enterFold_entered`). -/
theorem foldEntries : Obligations.FoldEntries := by
  refine ⟨fun core ana io _ h => pgTimeout_folds core ana io h, fun _ h => pgTimeout_noneLow h,
    fun i _ h => pgLowInOperation_folds i h, ?_, ?_, ?_, ?_, ?_, fun _ => holdoverExpired_folds, ?_⟩
  · exact fun s h => ⟨_, if_pos h, enterFold_ofPowerUp (inStep_powerUp h) (by decide) (by decide)⟩
  · exact fun s h => ⟨_, if_pos h, enterFold_ofPowerUp (inStep_powerUp h) (by decide) (by decide)⟩
  · exact fun s h => ⟨_, if_pos h, enterFold_ofPowerUp (inStep_powerUp h) (by decide) (by decide)⟩
  · intro src s h
    have hcmd : s.bootFold (portSrc src) = s.enterFold 0x31 0xFF := if_pos h
    exact ⟨_, congrArg Host.Outcome.next hcmd, enterFold_ofOperation h (by decide) (by decide)⟩
  · intro d s hst hexit hdom
    obtain ⟨hhead, hlt⟩ := domainPages_first d
    exact ⟨_, _, if_pos ⟨hexit, hdom⟩, hhead, enterFold_ofOperation (.inr (.inr hst)) (by decide) hlt⟩
  · intro sensors s h2 hu hf hn
    refine ⟨_, if_neg ?_, enterFold_entered hu hf (by decide) (by decide)⟩
    rintro (h | h)
    · omega
    · exact hn h

end Sys2Proof.Machine
end

section
/-! SUPPORT. The clock steps of start-up (spec/03 R55, R56, R58, R59; spec/17 R406). -/

namespace Sys2Proof.Machine

section
variable {s t : State}

/-- PRESENT of the inputs named set (R406). -/
def State.markPresent (s : State) (a b : Bool) : State :=
  let s := if a then s.setB CLK.REFSEL.A_PRESENT true else s
  if b then s.setB CLK.REFSEL.B_PRESENT true else s

/-- PRESENT of the inputs named is set, and nothing else of the clocks. -/
structure PresentMarked (s t : State) (a b : Bool) : Prop where
  presentA : t.fb CLK.REFSEL.A_PRESENT = (a || s.fb CLK.REFSEL.A_PRESENT)
  presentB : t.fb CLK.REFSEL.B_PRESENT = (b || s.fb CLK.REFSEL.B_PRESENT)
  active : t.f CLK.REFSEL.ACTIVE = s.f CLK.REFSEL.ACTIVE
  lock : t.fb CLK.REFSEL.LOCK = s.fb CLK.REFSEL.LOCK
  words : SameWords s t [CLK.REFSEL]
  rest : OnlyRegs s t

/-- A bit that is set where a condition holds, and a field beside it. -/
theorem setIf_fields (s : State) {x y : Fld} (c : Bool) (hw : x.width = 1) (hx : x.lo + x.width ≤ 32) (ha : y.addr = x.addr)
    (h : y.lo + y.width ≤ x.lo ∨ x.lo + x.width ≤ y.lo) :
    (if c then s.setB x true else s).fb x = (c || s.fb x) ∧ (if c then s.setB x true else s).f y = s.f y := by
  cases c
  · exact ⟨rfl, rfl⟩
  · exact ⟨fb_setB_self s true hw hx, State.f_setF_ne s x y _ hx ha h⟩

theorem markPresent_marks (s : State) (a b : Bool) : PresentMarked s (s.markPresent a b) a b := by
  unfold State.markPresent
  extract_lets s1
  have onA (y : Fld) (hy : y ∈ [CLK.REFSEL.B_PRESENT, CLK.REFSEL.ACTIVE, CLK.REFSEL.LOCK]) :
      s1.fb CLK.REFSEL.A_PRESENT = (a || s.fb CLK.REFSEL.A_PRESENT) ∧ s1.f y = s.f y :=
    setIf_fields s a rfl (by decide) (by revert y; decide) (by revert y; decide)
  have onB (y : Fld) (hy : y ∈ [CLK.REFSEL.A_PRESENT, CLK.REFSEL.ACTIVE, CLK.REFSEL.LOCK]) :=
    setIf_fields (x := CLK.REFSEL.B_PRESENT) (y := y) s1 b rfl (by decide) (by revert y; decide) (by revert y; decide)
  have hfb {u v : State} {x : Fld} (h : u.f x = v.f x) : u.fb x = v.fb x := by rw [State.fb, h, State.fb]
  refine ⟨?_, ?_, ?_, ?_, ?_, ?_⟩
  · rw [hfb (onB CLK.REFSEL.A_PRESENT (by decide)).2, (onA CLK.REFSEL.LOCK (by decide)).1]
  · rw [(onB CLK.REFSEL.LOCK (by decide)).1, hfb (onA CLK.REFSEL.B_PRESENT (by decide)).2]
  · rw [(onB CLK.REFSEL.ACTIVE (by decide)).2, (onA CLK.REFSEL.ACTIVE (by decide)).2]
  · rw [hfb (onB CLK.REFSEL.LOCK (by decide)).2, hfb (onA CLK.REFSEL.LOCK (by decide)).2]
  · cases a <;> cases b
    · exact SameWords.refl s _
    · exact (SameWords.refl s _).setF (x := CLK.REFSEL.B_PRESENT) _ (by decide)
    · exact (SameWords.refl s _).setF (x := CLK.REFSEL.A_PRESENT) _ (by decide)
    · exact ((SameWords.refl s _).setF (x := CLK.REFSEL.A_PRESENT) _ (by decide)).setF (x := CLK.REFSEL.B_PRESENT) _ (by decide)
  · cases a <;> cases b <;> rfl

/-- A start-up step under way, as `exec` looks at it. -/
theorem inStep_iff {st : StartStep} : s.inStep st = true ↔ s.pwr.st = .powerUp ∧ s.pwr.nresetLow = false ∧ s.pwr.step = st := by
  simp [State.inStep, and_assoc]

/-! ## The steps -/

theorem pgWaitEnd_searches (h : s.inStep .pgWait = true) : ∃ t, exec .pgWaitEnd s = .next t ∧
    t.reg BOOT.PARAM = (match s.led.bootp with
      | some w => if s.bootpReadable then w else s.reg BOOT.PARAM
      | none => s.reg BOOT.PARAM) ∧
    SameWords s t [BOOT.PARAM, LEDGER.BOOTP, CLK.REFSEL] ∧
    t = { s with
      regs := t.regs
      pwr := { s.pwr with
        step := .refSearch
        pgIo := true } } := by
  have hrest := loadBootp_onlyRegs s
  refine ⟨_, if_neg (by simp [h]), ?_, loadBootp_sameWords s, ?_⟩
  · change s.loadBootp.reg BOOT.PARAM = _
    split
    · next w hw =>
      split
      · next hr => exact (loadBootp_loaded hw hr).param
      · next hr => rw [loadBootp_eq_self (.inr (by simpa using hr))]
    · next hw => rw [loadBootp_eq_self (.inl hw)]
  · rw [hrest]

/-- Whether the input that BOOT.PARAM.REF_PREF names is present. -/
def State.prefPresent (s : State) : Bool :=
  if s.f BOOT.PARAM.REF_PREF = 0 then s.fb CLK.REFSEL.A_PRESENT else s.fb CLK.REFSEL.B_PRESENT

/-- The preferred reference selected if present, otherwise the other with REFCLK_ALT (R58). -/
def State.refSelect (s : State) : State :=
  let pref := s.f BOOT.PARAM.REF_PREF
  let sel := if s.prefPresent then pref else 1 - pref
  (s.setF CLK.REFSEL.ACTIVE sel).eventIf (sel != pref) 0x01 0

theorem onlyEvents_refSelect (s : State) : OnlyEvents s s.refSelect := by
  unfold State.refSelect State.eventIf
  extract_lets pref sel
  split
  · exact ((OnlyEvents.refl s).setF CLK.REFSEL.ACTIVE sel).event 0x01 0
  · exact (OnlyEvents.refl s).setF CLK.REFSEL.ACTIVE sel

theorem refSelect_selects (s : State) : s.refSelect.f CLK.REFSEL.ACTIVE =
      (if s.prefPresent then s.f BOOT.PARAM.REF_PREF else 1 - s.f BOOT.PARAM.REF_PREF) ∧
    (∀ x ∈ [CLK.REFSEL.A_PRESENT, CLK.REFSEL.B_PRESENT], s.refSelect.fb x = s.fb x) ∧
    (s.prefPresent = false → Raised s s.refSelect 0x01 0) ∧
    (s.prefPresent = true → s.refSelect.reg (hdr 0x01 3) = s.reg (hdr 0x01 3)) := by
  have hp : s.f BOOT.PARAM.REF_PREF < 2 := State.f_lt s BOOT.PARAM.REF_PREF
  unfold State.refSelect
  extract_lets pref sel
  have hsel : sel < 2 := by
    unfold sel
    split <;> omega
  have hset : (s.setF CLK.REFSEL.ACTIVE sel).reg (hdr 0x01 3) = s.reg (hdr 0x01 3) :=
    State.reg_setF_ne s CLK.REFSEL.ACTIVE sel (by decide)
  refine ⟨?_, fun x hx => ?_, fun hno => ?_, fun hyes => ?_⟩
  · rw [State.f_eventIf _ _ _ _ (by decide), State.f_setF_self _ _ _ (by decide)]
    exact Nat.mod_eq_of_lt hsel
  · have hone : x.addr = CLK.REFSEL ∧ (x.lo + x.width ≤ 6 ∨ 7 ≤ x.lo) := by revert x; decide
    rw [State.fb, State.f_eventIf _ _ _ _ (by rw [hone.1]; decide),
      State.f_setF_ne s CLK.REFSEL.ACTIVE x sel (by decide) hone.1 hone.2, State.fb]
  · have hother : (sel != pref) = true := by
      rw [bne_iff_ne]
      unfold sel
      rw [hno]
      change 1 - pref ≠ pref
      omega
    rw [hother, Raised, ← hset]
    exact State.reg_event_self ..
  · have hsame : (sel != pref) = false := by
      unfold sel
      rw [hyes]
      exact bne_self_eq_false pref
    rw [hsame]
    exact hset

/-- REFCLK_PRESENT in the reference search, with an input present (R58). -/
theorem refclkPresent_selects (a b : Bool) (h : s.inStep .refSearch = true) (hab : (a || b) = true) :
    ∃ t, exec (.refclkPresent a b) s = .next t ∧
    t.fb CLK.REFSEL.A_PRESENT = (a || s.fb CLK.REFSEL.A_PRESENT) ∧ t.fb CLK.REFSEL.B_PRESENT = (b || s.fb CLK.REFSEL.B_PRESENT) ∧
    t.pwr = { s.pwr with step := .pllWait } ∧
    (let pref := s.f BOOT.PARAM.REF_PREF
     let there := if pref = 0 then t.fb CLK.REFSEL.A_PRESENT else t.fb CLK.REFSEL.B_PRESENT
     t.f CLK.REFSEL.ACTIVE = (if there then pref else 1 - pref) ∧ (there = false → Raised s t 0x01 0) ∧
     (there = true → t.reg (hdr 0x01 3) = s.reg (hdr 0x01 3))) ∧
    SameWords s t [CLK.REFSEL, hdr 0x01 3] ∧ SameMemory s t ∧ t.shadow = s.shadow ∧ t.time = s.time := by
  obtain ⟨hst, hhigh, hstep⟩ := inStep_iff.1 h
  obtain ⟨hA, hB, hactive, _, hwords, hrest⟩ := markPresent_marks s a b
  have hgo : ¬(s.pwr.st = .unpowered ∨ (s.pwr.st = .powerUp ∧ (s.pwr.step = .pgWait ∨ s.pwr.nresetLow))) := by
    simp [hst, hhigh, hstep]
  have hpref : (s.markPresent a b).f BOOT.PARAM.REF_PREF = s.f BOOT.PARAM.REF_PREF := hwords.f (by decide)
  have hsearch : (s.markPresent a b).inStep .refSearch = true := by rw [hrest]; exact h
  have hany : (s.markPresent a b).fb CLK.REFSEL.A_PRESENT ∨ (s.markPresent a b).fb CLK.REFSEL.B_PRESENT := by
    rcases Bool.or_eq_true_iff.1 hab with ha | hb
    · exact .inl (by rw [hA, ha]; rfl)
    · exact .inr (by rw [hB, hb]; rfl)
  obtain ⟨hact, hside, hraised, hquiet⟩ := refSelect_selects (s.markPresent a b)
  have hevents : OnlyEvents (s.markPresent a b) (s.markPresent a b).refSelect :=
    onlyEvents_refSelect _
  have hsel : SameWords s (s.markPresent a b).refSelect [CLK.REFSEL, hdr 0x01 3] :=
    (hwords.mono (by simp)).trans
      (((SameWords.refl _ _).setF (x := CLK.REFSEL.ACTIVE) _ (by decide)).eventIf _ 0 (by decide))
  have hstay : (s.markPresent a b).reg (hdr 0x01 3) = s.reg (hdr 0x01 3) := hwords _ (by decide)
  have hparts : (s.markPresent a b).refSelect.pwr = s.pwr ∧ SameMemory s (s.markPresent a b).refSelect ∧
      (s.markPresent a b).refSelect.shadow = s.shadow ∧ (s.markPresent a b).refSelect.time = s.time := by
    rw [hevents, hrest]
    exact ⟨rfl, fun _ => rfl, rfl, rfl⟩
  obtain ⟨hpwr, hmem, hshadow, htime⟩ := hparts
  have hthere : (if s.f BOOT.PARAM.REF_PREF = 0 then (s.markPresent a b).refSelect.fb CLK.REFSEL.A_PRESENT else
      (s.markPresent a b).refSelect.fb CLK.REFSEL.B_PRESENT) = (s.markPresent a b).prefPresent := by
    rw [State.prefPresent, hpref, hside _ (by simp), hside _ (by simp)]
  rw [hpref, ← hthere] at hact
  rw [Raised, hstay] at hraised
  exact ⟨_, (if_neg hgo).trans (if_pos ⟨hsearch, hany⟩), (hside _ (by simp)).trans hA, (hside _ (by simp)).trans hB,
    congrArg (fun p : Power => { p with step := .pllWait }) hpwr,
    ⟨hact, fun hno => hraised (hthere ▸ hno), fun hyes => (hquiet (hthere ▸ hyes)).trans hstay⟩, hsel, hmem, hshadow, htime⟩

theorem refclkPresent_marks (a b : Bool) (h : s.pwr.st = .ready ∨ s.pwr.st = .run ∨ s.pwr.st = .standby) :
    exec (.refclkPresent a b) s = .next (s.markPresent a b) := by
  have hst : s.pwr.st ≠ .unpowered ∧ s.pwr.st ≠ .powerUp := by rcases h with h | h | h <;> simp [h]
  have hgo : ¬(s.pwr.st = .unpowered ∨ (s.pwr.st = .powerUp ∧ (s.pwr.step = .pgWait ∨ s.pwr.nresetLow))) := by simp [hst]
  have hsearch : (s.markPresent a b).inStep .refSearch = false := by
    rw [(markPresent_marks s a b).rest]
    simp [State.inStep, hst]
  exact (if_neg hgo).trans (if_neg fun hc => by simp [State.markPresent] at hsearch; simp [hsearch] at hc)

theorem pllLock_tests (h : s.inStep .pllWait = true) : ∃ t, exec .pllLock s = .next t ∧
    t.fb CLK.REFSEL.LOCK = true ∧ t.pwr = { s.pwr with
      step := .selfTest
      items := 0
      testStart := s.mono
      domains := List.replicate 9 .on } ∧
    SameWords s t [CLK.REFSEL] ∧ SameMemory s t ∧ t.shadow = s.shadow ∧ t.time = s.time :=
  ⟨_, if_neg (by simp [h]), fb_setB_self s (x := CLK.REFSEL.LOCK) true rfl (by decide), rfl,
    (SameWords.refl s _).setF (x := CLK.REFSEL.LOCK) _ (by decide), fun _ => rfl, rfl, rfl⟩

end

/-- Settles O8: the four steps, each from what it does to CLK.REFSEL and to the power manager. -/
theorem startupClockSteps : Obligations.StartupClockSteps := by
  refine ⟨fun s => pgWaitEnd_searches, fun a b s => refclkPresent_selects a b, fun s => pllLock_tests, fun a b s h => ?_⟩
  obtain ⟨hA, hB, hactive, hlock, hwords, hrest⟩ := markPresent_marks s a b
  exact ⟨_, refclkPresent_marks a b h, hA, hB, hactive, hlock, hwords, hrest⟩

end Sys2Proof.Machine
end

section
/-! SUPPORT. READY (spec/03 R60, R61, R75), the items of self-test, the retries and the restart (R65 to R67). -/

namespace Sys2Proof.Machine

section
variable {s t : State}

/-! ## The entry to READY -/

/-- READY has been entered: the retry budget is renewed, bring-up of the link has started, and LDB_KA toggles where the bus is
enabled and no hazardous fault holds it (R60, R75 step 6, R149). -/
structure ReadyEntered (s t : State) : Prop where
  pwr : t.pwr = { s.pwr with
    st := .ready
    target := .ready
    exit := none
    retriesUsed := 0
    retryPending := false }
  train : t.link.train ≠ .no
  ka : s.enabled 0x13 = true → s.fb EMIT.FAULT.HAZ = false → t.fb LDB.STATUS.KA = true
  result : t.f PWR.ENTRY.RESULT = 0
  memory : SameMemoryButQueued s t
  shadow : t.shadow = s.shadow
  time : t.time = s.time

/-- The end of a transition is recorded in PWR.ENTRY alone. -/
theorem LeavesPower.recordEntry {ks : List Nat} (h : LeavesPower ks s t) (hk : PWR.ENTRY ∉ ks) (r c p : Nat) :
    LeavesPower ks s (t.recordEntry r c p) :=
  (((h.setF (x := PWR.ENTRY.RESULT) hk r).setF (x := PWR.ENTRY.CAUSE) hk c).setF (x := PWR.ENTRY.PAGE) hk p).setF
    (x := PWR.ENTRY.DURATION) hk _

/-- RESULT and CAUSE of a transition's end read as recorded. -/
theorem recordEntry_fields (s : State) {r c p : Nat} (hr : r < 16) (hc : c < 16) :
    (s.recordEntry r c p).f PWR.ENTRY.RESULT = r ∧ (s.recordEntry r c p).f PWR.ENTRY.CAUSE = c := by
  unfold State.recordEntry
  constructor
  · rw [State.f_setF_ne _ PWR.ENTRY.DURATION PWR.ENTRY.RESULT _ (by decide) (by decide) (by decide),
      State.f_setF_ne _ PWR.ENTRY.PAGE PWR.ENTRY.RESULT _ (by decide) (by decide) (by decide),
      State.f_setF_ne _ PWR.ENTRY.CAUSE PWR.ENTRY.RESULT _ (by decide) (by decide) (by decide),
      State.f_setF_self _ _ _ (by decide)]
    exact Nat.mod_eq_of_lt hr
  · rw [State.f_setF_ne _ PWR.ENTRY.DURATION PWR.ENTRY.CAUSE _ (by decide) (by decide) (by decide),
      State.f_setF_ne _ PWR.ENTRY.PAGE PWR.ENTRY.CAUSE _ (by decide) (by decide) (by decide),
      State.f_setF_self _ _ _ (by decide)]
    exact Nat.mod_eq_of_lt hc

/-- Enumeration does not stop LDB_KA. -/
theorem enumerate_ka (s : State) : s.enumerate.fb LDB.STATUS.KA = s.fb LDB.STATUS.KA := by
  have hset : ((s.setB LDB.STATUS.ENUMERATED false).setB EMIT.FF_CTRL.LOADING false).fb LDB.STATUS.KA = s.fb LDB.STATUS.KA := by
    exact (fb_of_reg (State.reg_setF_ne _ EMIT.FF_CTRL.LOADING _ (by decide))).trans
      (fb_setB_ne _ (x := LDB.STATUS.ENUMERATED) _ (by decide) (by decide) (by decide))
  have hflush {u : State} : LeavesPower [LDB.STATUS] u u.flushBus := (LeavesPower.refl u _).flushBus
  unfold State.enumerate
  extract_lets waits s1 ldb s2
  have h1 : s2.fb LDB.STATUS.KA = s.fb LDB.STATUS.KA := (fb_of_reg (hflush.words _ (by decide))).trans hset
  have h2 : (s2.setHeld [false, false]).fb LDB.STATUS.KA = s.fb LDB.STATUS.KA :=
    (fb_of_reg (State.reg_setF_ne _ EMIT.FF_CTRL.LOADED _ (by decide))).trans h1
  unfold State.putBus
  split
  · exact h2
  · exact h2

theorem ldbStart_ka (he : s.enabled 0x13 = true) (hz : s.fb EMIT.FAULT.HAZ = false) : s.ldbStart.fb LDB.STATUS.KA = true := by
  rw [State.ldbStart, if_neg (by simp [he, hz]), enumerate_ka]
  exact fb_setB_self s true rfl (by decide)

theorem bringUp_sameWords (s : State) : SameWords s s.bringUp [TAB.STATUS] :=
  ((SameWords.refl s _).setF (x := TAB.STATUS.LINK_UP) _ (by decide)).setF (x := TAB.STATUS.TX_STATE) 1 (by decide)

theorem bringUp_train (s : State) : s.bringUp.link.train ≠ .no := by
  change (if _ then LinkTrain.readySent else LinkTrain.training) ≠ LinkTrain.no
  split <;> decide

theorem readyEntry_entered (s : State) : ReadyEntered s s.readyEntry := by
  unfold State.readyEntry
  extract_lets _ s1 s2
  have h2 : LeavesPower [hdr 0x13 1, EMIT.FAULT] (s1.inState .ready) s2 :=
    (enter_leaves s1 .ready (by decide)).recordEntry (by decide) 0 0 0
  have h3 : LeavesPower [PWR.ENTRY] s2 s2.ldbStart := (LeavesPower.refl _ _).ldbStart (by unfold OffPages; decide)
  have h4 : LeavesPower [PWR.ENTRY, LDB.STATUS] s2.ldbStart.bringUp ((List.range 4).foldl State.i2cNext s2.ldbStart.bringUp.settle) :=
    LeavesPower.foldl _ (fun _ _ hp hu => hu.i2cNext (by unfold OffPages; decide) (List.mem_range.1 hp))
      ((LeavesPower.refl _ _).settle (by unfold OffPages; decide))
  have hup := bringUp_sameWords s2.ldbStart
  refine ⟨?_, ?_, fun he hz => ?_, ?_, ?_, ?_, ?_⟩
  · exact h4.pwr.trans (h3.pwr.trans h2.pwr)
  · rw [h4.train]
    exact bringUp_train _
  · rw [fb_of_reg (h4.words _ (by decide)), hup.fb (by decide)]
    refine ldbStart_ka ?_ ((fb_of_reg (h2.words _ (by decide))).trans hz)
    rw [State.enabled, h2.words _ (by decide)]
    exact he
  · rw [f_of_reg (h4.words _ (by decide)), hup.f (by decide), f_of_reg (h3.words _ (by decide))]
    exact (recordEntry_fields _ (by decide) (by decide)).1
  · intro a ha
    have hq : ∀ e ∈ s2.ldb.fwd, a ≠ 0xA00000 + 0x20 * e.1 := fun e he => ha e (h2.queued e he)
    exact (h4.memory a fun e he => hq e (h3.queued e he)).trans ((h3.memory a hq).trans (h2.memory a ha))
  · exact h4.shadow.trans (h3.shadow.trans h2.shadow)
  · exact h4.time.trans (h3.time.trans h2.time)

/-! ## The items of self-test (O10) -/

/-- An item is marked as done, with its bit of BOOT.SELFTEST.PASS. -/
theorem passed_marks (s : State) {item bit : Nat} (hb : bit < 9) :
    (s.passed item (some bit)).pwr = { s.pwr with items := s.pwr.items ||| 2 ^ item } ∧
    (s.passed item (some bit)).f BOOT.SELFTEST.PASS = s.f BOOT.SELFTEST.PASS ||| 2 ^ bit ∧
    SameWords s (s.passed item (some bit)) [BOOT.SELFTEST] ∧
    s.passed item (some bit) = { s with
      regs := (s.passed item (some bit)).regs
      pwr := (s.passed item (some bit)).pwr } := by
  have hlt : s.f BOOT.SELFTEST.PASS ||| 2 ^ bit < 2 ^ 9 :=
    Nat.or_lt_two_pow (State.f_lt s BOOT.SELFTEST.PASS) (Nat.pow_lt_pow_right (by decide) hb)
  refine ⟨rfl, ?_, (SameWords.refl s _).setF (x := BOOT.SELFTEST.PASS) _ (by decide), rfl⟩
  exact (State.f_setF_self { s with pwr := { s.pwr with items := s.pwr.items ||| 2 ^ item } } BOOT.SELFTEST.PASS _ (by decide)).trans
    (Nat.mod_eq_of_lt hlt)

/-- BIST that names no cell logs none. -/
theorem logCells_nil (s : State) : s.logCells [] = s := by
  unfold State.logCells
  rw [List.map_nil, List.append_nil]

/-- What `exec` does with an item while self-test runs, by the kind of item. -/
theorem selftestItemDone_bankBist (h : s.inStep .selfTest = true) (ok : Bool) :
    exec (.selftestItemDone (.bankBist ok [] [])) s = .next (s.judge ok 0 0 0x10 0x0D) := by
  change (if !s.inStep .selfTest then _ else Host.Outcome.next (((s.logCells []).softRepairs []).judge ok 0 0 0x10 0x0D)) = _
  rw [h, logCells_nil]
  rfl

theorem selftestItemDone_histBist (h : s.inStep .selfTest = true) (ok : Bool) :
    exec (.selftestItemDone (.histBist ok [])) s = .next (s.judge ok 1 1 0x11 0x38) := by
  change (if !s.inStep .selfTest then _ else Host.Outcome.next ((s.logCells []).judge ok 1 1 0x11 0x38)) = _
  rw [h, logCells_nil]
  rfl

theorem selftestItemDone_ringBist (h : s.inStep .selfTest = true) (ok : Bool) :
    exec (.selftestItemDone (.ringBist ok [])) s = .next (s.judge ok 2 2 0x12 0x10) := by
  change (if !s.inStep .selfTest then _ else Host.Outcome.next ((s.logCells []).judge ok 2 2 0x12 0x10)) = _
  rw [h, logCells_nil]
  rfl

theorem selftestItemDone_ldbLoop (h : s.inStep .selfTest = true) (ok : Bool) :
    exec (.selftestItemDone (.ldbLoop ok)) s = .next (s.judge ok 5 5 0x15 0x13) := if_neg (by simp [h])

theorem selftestItemDone_safetyOutputs (h : s.inStep .selfTest = true) (ok : Bool) :
    exec (.selftestItemDone (.safetyOutputs ok)) s = .next (s.judge ok 6 6 0x16 0x08) := if_neg (by simp [h])

theorem selftestItemDone_tdcLoop (h : s.inStep .selfTest = true) :
    exec (.selftestItemDone (.tdcLoop ⟨[], [], []⟩)) s = .next (s.passed 3 (some 3)) := if_neg (by simp [h])

theorem selftestItemDone_adcRamp (h : s.inStep .selfTest = true) :
    exec (.selftestItemDone (.adcRamp ⟨[], [], []⟩)) s = .next (s.passed 4 (some 4)) := if_neg (by simp [h])

/-- The collection of results after all other items is the entry to READY. -/
theorem selftestItemDone_collect (h : s.inStep .selfTest = true) (hitems : s.pwr.items % 1024 = 1023) :
    exec (.selftestItemDone .collect) s =
      .next (s.setF BOOT.SELFTEST.DURATION (satTo 12 (s.usSince s.pwr.testStart / 1000))).readyEntry :=
  (if_neg (by simp [h])).trans (if_neg (by simp [hitems]))

/-- An entry to READY from a state that differs in words that READY does not look at. -/
theorem ReadyEntered.of_onlyRegs (h : ReadyEntered s t) {u : State} (hu : OnlyRegs u s) {ws : List Nat} (hw : SameWords u s ws)
    (hd : hdr 0x13 1 ∉ ws ∧ EMIT.FAULT ∉ ws) : ReadyEntered u t := by
  have hparts : s.pwr = u.pwr ∧ s.shadow = u.shadow ∧ s.time = u.time ∧ s.mem = u.mem ∧ s.lost = u.lost ∧ s.ldb = u.ldb := by
    rw [hu]
    exact ⟨rfl, rfl, rfl, rfl, rfl, rfl⟩
  obtain ⟨hpwr, hshadow, htime, hmem, hlost, hldb⟩ := hparts
  refine ⟨hpwr ▸ h.pwr, h.train, fun he hz => h.ka ?_ ((hw.fb hd.2).trans hz), h.result, fun a ha => ?_, h.shadow.trans hshadow,
    h.time.trans htime⟩
  · rw [State.enabled, hw _ hd.1]
    exact he
  · exact (h.memory a (hldb ▸ ha)).trans (State.rd_congr hmem hlost a)

theorem judge_fails (s : State) (item bit code page : Nat) : s.judge false item bit code page = s.enterFold code page := rfl

/-- An item that fails enters FOLD. -/
theorem judge_folds (h : s.inStep .selfTest = true) {item bit code page : Nat} (hc : code < 256) (hd : page < 256) :
    FoldEntered s (s.judge false item bit code page) code page := by
  rw [judge_fails]
  exact enterFold_ofPowerUp (inStep_powerUp h) hc hd

end

/-- Settles O10: an item is judged by what it reports, and the collection of results is the entry to READY. -/
theorem selfTestItems : Obligations.SelfTestItems := by
  unfold Obligations.SelfTestItems
  intro passes
  refine ⟨fun s h => ?_, fun s h => ?_, fun s h hitems => ?_⟩
  · exact ⟨⟨_, selftestItemDone_bankBist h true, passed_marks s (by decide)⟩,
      ⟨_, selftestItemDone_histBist h true, passed_marks s (by decide)⟩,
      ⟨_, selftestItemDone_ringBist h true, passed_marks s (by decide)⟩,
      ⟨_, selftestItemDone_tdcLoop h, passed_marks s (by decide)⟩,
      ⟨_, selftestItemDone_adcRamp h, passed_marks s (by decide)⟩,
      ⟨_, selftestItemDone_ldbLoop h true, passed_marks s (by decide)⟩,
      ⟨_, selftestItemDone_safetyOutputs h true, passed_marks s (by decide)⟩⟩
  · exact ⟨⟨_, selftestItemDone_bankBist h false, judge_folds h (by decide) (by decide)⟩,
      ⟨_, selftestItemDone_histBist h false, judge_folds h (by decide) (by decide)⟩,
      ⟨_, selftestItemDone_ringBist h false, judge_folds h (by decide) (by decide)⟩,
      ⟨_, selftestItemDone_ldbLoop h false, judge_folds h (by decide) (by decide)⟩,
      ⟨_, selftestItemDone_safetyOutputs h false, judge_folds h (by decide) (by decide)⟩⟩
  · have hset : SameWords s (s.setF BOOT.SELFTEST.DURATION (satTo 12 (s.usSince s.pwr.testStart / 1000))) [BOOT.SELFTEST] :=
      (SameWords.refl s _).setF _ (by decide)
    have hrest : OnlyRegs s (s.setF BOOT.SELFTEST.DURATION (satTo 12 (s.usSince s.pwr.testStart / 1000))) :=
      (OnlyRegs.refl s).setF _ _
    have hin := (readyEntry_entered _).of_onlyRegs hrest hset (by decide)
    exact ⟨_, selftestItemDone_collect h hitems, congrArg Power.st hin.pwr, congrArg Power.target hin.pwr,
      congrArg Power.retriesUsed hin.pwr, hin.train, hin.ka, hin.memory, hin.shadow, hin.time⟩

end Sys2Proof.Machine
end

section
/-! SUPPORT. Retries, restart and the end of the STANDBY exit (spec/03 R65 to R67, R75). -/

namespace Sys2Proof.Machine

section
variable {s t : State}

/-! ## Retry and restart -/

/-- What Power-up finds in the registers again: reset values, the kept cause and the ledger's boot parameters (log entry 43). -/
theorem PowerUpEntered.restored {m : State} {phase : Nat} {held : Bool} (h : PowerUpEntered m t phase held)
    (hpg : m.pwr.pgIo = s.pwr.pgIo) (hb : m.led.bootp = s.led.bootp) :
    (∀ a, a ∉ [BOOT.CAUSE, BOOT.PARAM, LEDGER.BOOTP, CLK.REFSEL] → t.reg a = resetWord a) ∧
    (∀ w, s.pwr.pgIo = true → s.led.bootp = some w → t.bootpReadable = true → t.reg BOOT.PARAM = w ∧ t.reg LEDGER.BOOTP = w) ∧
    (s.pwr.pgIo = false ∨ s.led.bootp = none ∨ t.bootpReadable = false → ∀ a, a ≠ BOOT.CAUSE → t.reg a = resetWord a) :=
  ⟨h.words, fun w h1 h2 => h.loaded w (hpg.trans h1) (hb.trans h2), fun hno => h.plain (by rwa [hpg, hb])⟩

/-- The state in which a due retry has been counted (R66). -/
def State.retryCounted (s : State) : State :=
  { s.addF BOOT.CAUSE.RETRIES 1 with
    pwr := { s.pwr with
      retriesUsed := s.pwr.retriesUsed + 1
      retryPending := false
      transStart := s.mono } }

theorem retryCounted_fields (s : State) : s.retryCounted.f BOOT.CAUSE.RETRIES = satAdd 4 (s.f BOOT.CAUSE.RETRIES) 1 ∧
    s.retryCounted.f BOOT.CAUSE.CODE = s.f BOOT.CAUSE.CODE ∧ s.retryCounted.f BOOT.CAUSE.PHASE = s.f BOOT.CAUSE.PHASE :=
  ⟨State.f_addF_self s BOOT.CAUSE.RETRIES 1 (by decide),
    State.f_setF_ne s BOOT.CAUSE.RETRIES BOOT.CAUSE.CODE _ (by decide) (by decide) (by decide),
    State.f_setF_ne s BOOT.CAUSE.RETRIES BOOT.CAUSE.PHASE _ (by decide) (by decide) (by decide)⟩

theorem automaticRetry_due (h : s.pwr.st = .fold) (hr : s.pwr.retryPending = true) : exec .automaticRetry s =
    if s.f BOOT.CAUSE.PHASE = 2 then .next s.retryCounted.exitFromStep2 else
      .next { s.retryCounted.powerUpEntry (s.f BOOT.CAUSE.PHASE) false with
        pwr := { (s.retryCounted.powerUpEntry (s.f BOOT.CAUSE.PHASE) false).pwr with seqStart := s.pwr.seqStart } } := by
  rw [← (retryCounted_fields s).2.2]
  exact if_neg (by simp [h, hr])

theorem automaticRetry_restarts (h : s.pwr.st = .fold) (hr : s.pwr.retryPending = true) (h2 : s.f BOOT.CAUSE.PHASE ≠ 2) :
    ∃ t u, exec .automaticRetry s = .next t ∧ PowerUpEntered s.retryCounted u (s.f BOOT.CAUSE.PHASE) false ∧
      t = { u with pwr := { u.pwr with seqStart := s.pwr.seqStart } } :=
  ⟨_, _, (automaticRetry_due h hr).trans (if_neg h2), powerUpEntry_entered .., rfl⟩

/-- The STANDBY exit has its switches closed: no domain is off any more, and TARGET is READY (R75 steps 2 and 3). -/
theorem exitFromStep2_exits (s : State) : s.exitFromStep2.pwr.st = s.pwr.st ∧ s.exitFromStep2.pwr.target = .ready ∧
    s.exitFromStep2.pwr.exit.isSome = true ∧ (∀ d ∈ s.exitFromStep2.pwr.domains, d ≠ .off) ∧
    s.exitFromStep2 = { s with pwr := s.exitFromStep2.pwr } := by
  refine ⟨rfl, rfl, rfl, ?_, rfl⟩
  intro d hd
  obtain ⟨e, -, rfl⟩ := List.mem_map.1 hd
  split
  · decide
  · assumption

theorem bootCmdRestart_restarts (src : Port) (h : s.pwr.st = .fold) (hc : s.f BOOT.CAUSE.CODE ≠ 0x20) :
    ∃ t u, exec (.bootCmdRestart src) s = .next t ∧ PowerUpEntered s.ledgerCut u 1 false ∧
      t = { u with pwr := { u.pwr with retriesUsed := 0 } } := by
  have hgo : s.pwr.st = .fold ∧ (!s.thermalFold) = true := ⟨h, by simp [State.thermalFold, hc]⟩
  exact ⟨_, _, congrArg Host.Outcome.next (if_pos hgo), powerUpEntry_entered .., rfl⟩

/-! ## The wake checks (R75 steps 4 to 6) -/

/-- The bits that say that a DLL is in lock. -/
def dllWords : List Nat := (List.range 8).map TDC.DLL

/-- Every DLL in lock. -/
def State.dllsLocked (s : State) : State :=
  (List.range 8).foldl (fun s k => (s.setB (TDC.DLL.A_LOCK k) true).setB (TDC.DLL.B_LOCK k) true) s

theorem dllsLocked_marks (s : State) : OnlyRegs s s.dllsLocked ∧ SameWords s s.dllsLocked dllWords := by
  refine List.foldlRecOn (motive := fun u => OnlyRegs s u ∧ SameWords s u dllWords) _ _ ⟨OnlyRegs.refl s, SameWords.refl s _⟩ ?_
  intro u h k hk
  obtain ⟨hr, hw⟩ := h
  have hmem : TDC.DLL k ∈ dllWords := List.mem_map.2 ⟨k, hk, rfl⟩
  constructor
  · exact (hr.setF (TDC.DLL.A_LOCK k) (b2n true)).setF (TDC.DLL.B_LOCK k) (b2n true)
  · exact (hw.setF (x := TDC.DLL.A_LOCK k) (b2n true) hmem).setF (x := TDC.DLL.B_LOCK k) (b2n true) hmem

/-- A range in which nothing satisfies the condition. -/
theorem filterRange_eq_nil {n : Nat} {p : Nat → Bool} (h : ∀ k < n, p k = false) : filterRange n p = [] :=
  List.filter_eq_nil_iff.2 fun k hk => by simp [h k (List.mem_range.1 hk)]

/-- With nothing failed nothing comes back. -/
theorem passedAgain_eq_self (hkit : ∀ n < 16, s.kitState n ≠ 7) (htdc : ∀ c < 384, s.fb (TDC.STAT.FAILED (c / 48) (c % 48)) = false)
    (hadc : ∀ a < 9, s.fb (ADC.STAT.FAILED a) = false) (f : Spares) : s.passedAgain f = s := by
  unfold State.passedAgain
  extract_lets kit own adc s1 s2
  have h1 : s1 = s := by
    unfold s1
    rw [filterRange_eq_nil fun n hn => by simp [hkit n hn]]
    rfl
  have h2 : s2 = s := by
    unfold s2
    rw [h1, filterRange_eq_nil fun c hc => by simp [htdc c hc]]
    rfl
  rw [h2, filterRange_eq_nil fun a ha => by simp [hadc a ha]]
  rfl

theorem replaceAll_nil (s : State) : s.replaceAll ⟨[], [], []⟩ = (s, true, true) := rfl

theorem wakeChecksDone_ready (hexit : s.pwr.exit = some .checks) (hrun : s.pwr.runAfterExit = false)
    (hkit : ∀ n < 16, s.kitState n ≠ 7) (htdc : ∀ c < 384, s.fb (TDC.STAT.FAILED (c / 48) (c % 48)) = false)
    (hadc : ∀ a < 9, s.fb (ADC.STAT.FAILED a) = false) : exec (.wakeChecksDone ⟨[], [], []⟩ []) s = .next
      { s.dllsLocked.readyEntry with pwr := { s.dllsLocked.readyEntry.pwr with runAfterExit := false } } := by
  have hstart : s.startCal [] = s.dllsLocked := by
    unfold State.startCal
    extract_lets s1 s2
    have h1 : s1 = s := by
      unfold s1
      refine List.foldlRecOn (motive := fun u => u = s) _ _ rfl fun u hu i _ => ?_
      rw [List.filter_nil, State.putResults, List.foldl_nil]
      exact hu
    have hnone : afeInputs [] = [] := filterRange_eq_nil fun _ _ => rfl
    have h2 : s2 = s.dllsLocked := by
      unfold s2
      rw [h1, State.dllsLocked]
    rw [hnone, h2, List.foldl_nil]
  have hrun' : s.dllsLocked.pwr.runAfterExit = false := by
    rw [(dllsLocked_marks s).1]
    exact hrun
  change execWakeChecksDone ⟨[], [], []⟩ [] s = _
  unfold execWakeChecksDone
  rw [if_neg (by simp [hexit]), passedAgain_eq_self hkit htdc hadc, hstart]
  generalize s.dllsLocked = u at hrun' ⊢
  rw [replaceAll_nil]
  dsimp only
  rw [if_neg (by decide), if_neg (by decide), hrun', if_neg (by decide)]

end

/-- Settles O11: a retry in phases 0 and 1 and a host restart are entries to Power-up, one in phase 2 is the STANDBY exit from
its second step, and the wake checks end in the entry to READY. -/
theorem retriesAndRestart : Obligations.RetriesAndRestart := by
  unfold Obligations.RetriesAndRestart
  intro restored
  refine ⟨fun s h hr h2 => ?_, fun s h hr h2 => ?_, fun src s h hc => ?_, fun src s h => ?_, ?_⟩
  · obtain ⟨t, u, e, hin, rfl⟩ := automaticRetry_restarts h hr h2
    obtain ⟨hretries, hcode, _⟩ := retryCounted_fields s
    refine ⟨_, e, congrArg Power.st hin.pwr, congrArg Power.step hin.pwr, congrArg Power.phase hin.pwr,
      congrArg Power.retriesUsed hin.pwr, (f_of_reg hin.cause).trans hretries, (f_of_reg hin.cause).trans hcode,
      hin.restored rfl rfl, hin.shadow, hin.time, hin.led, hin.ledger, hin.pending⟩
  · obtain ⟨hst, htarget, hexit, hdoms, heq⟩ := exitFromStep2_exits s.retryCounted
    refine ⟨_, (automaticRetry_due h hr).trans (if_pos h2), hst.trans h, htarget, hexit, hdoms, (retryCounted_fields s).1,
      (SameWords.refl s _).setF _ (by decide), ?_⟩
    rw [heq]
    rfl
  · obtain ⟨t, u, e, hin, rfl⟩ := bootCmdRestart_restarts src h hc
    obtain ⟨hpg, hbootp, hcause, htime⟩ := ledgerCut_keeps s
    exact ⟨_, e, congrArg Power.st hin.pwr, congrArg Power.step hin.pwr, congrArg Power.phase hin.pwr, rfl,
      hin.restored hpg hbootp, hin.cause.trans hcause, hin.shadow, hin.time.trans htime, hin.of_cut.2.2⟩
  · have hno : ¬(s.pwr.st = .fold ∧ (!s.thermalFold) = true) := fun hc => h hc.1
    have hcmd : s.bootRestart (portSrc src) = s.err 0x05 (portSrc src) BOOT.CMD := if_neg hno
    exact ⟨_, congrArg Host.Outcome.next hcmd, State.err_raised s 0x05 (portSrc src) BOOT.CMD⟩
  · intro s hexit hrun hst he hz hkit htdc hadc
    obtain ⟨hrest, hwords⟩ := dllsLocked_marks s
    have hin := (readyEntry_entered s.dllsLocked).of_onlyRegs hrest hwords (by decide)
    have hexec := wakeChecksDone_ready hexit hrun hkit htdc hadc
    generalize s.dllsLocked.readyEntry = u at hin hexec
    exact ⟨_, hexec, congrArg Power.st hin.pwr, congrArg Power.exit hin.pwr, congrArg Power.target hin.pwr, hin.ka he hz,
      hin.result, hin.memory, hin.shadow, hin.time⟩

end Sys2Proof.Machine
end

section
/-! SUPPORT. Requests for a state (spec/03 R51, R68, R69, R72, R75, R79) and what ends at a STANDBY entry. -/

namespace Sys2Proof.Machine

/-! ## Calibrations given up at a STANDBY entry (R442) -/

namespace LeavesPower
section
variable {s t : State}

/-- No word is asked for: a field may be set. -/
theorem setAny (h : LeavesPower [] s t) (x : Fld) (v : Nat) : LeavesPower [] s (t.setF x v) := h.setF (List.not_mem_nil) v

theorem kittyShow (h : LeavesPower [] s t) : LeavesPower [] s t.kittyShow :=
  ((((h.setAny _ _).setAny _ _).setAny _ _).setAny _ _).setAny _ _

theorem setKit (h : LeavesPower [] s t) (n st ch : Nat) : LeavesPower [] s (t.setKit n st ch) :=
  ((h.setAny _ _).setAny _ _).kittyShow

theorem decideMove (h : LeavesPower [] s t) (c : Nat) (m : Move) : LeavesPower [] s (t.decideMove c m) := h.update

/-- An element is taken off the calibrations under way and counted in CAL.STAT. -/
theorem calAbandoned (h : LeavesPower [] s t) (cal : Cal) :
    LeavesPower [] s ({ t with cal := cal }.incF CAL.STAT.ABANDONED) := by
  have h1 : LeavesPower [] s { t with cal := cal } := h.update
  exact h1.setAny _ _

theorem abandonCal (h : LeavesPower [] s t) (c : Nat) : LeavesPower [] s (t.abandonCal c) := ite (h.calAbandoned _) h

theorem abandonKit (h : LeavesPower [] s t) (n : Nat) : LeavesPower [] s (t.abandonKit n) :=
  ite (h.calAbandoned _) (ite (h.calAbandoned _) (h.abandonCal _))

theorem endKit (h : LeavesPower [] s t) (n : Nat) : LeavesPower [] s (t.endKit n) :=
  ite h (ite ((h.abandonCal _).decideMove _ _) ((h.abandonKit n).setKit _ _ _))

theorem restoreCells (h : LeavesPower [] s t) (i cells : Nat) : LeavesPower [] s (t.restoreCells i cells) :=
  (h.setAny _ cells).calAbandoned _

theorem abandonAdcCal (h : LeavesPower [] s t) : LeavesPower [] s t.abandonAdcCal := ite h (h.calAbandoned _)

theorem freeSpare (h : LeavesPower [] s t) : LeavesPower [] s t.freeSpare := ((h.setAny _ _).setAny _ _).setAny _ _

theorem returnBus (h : LeavesPower [] s t) (k : Nat) : LeavesPower [] s (t.returnBus k) := by
  have alive {u : State} (hu : LeavesPower [] s u) : LeavesPower [] s (u.busAlive k) := hu.update
  have hend : LeavesPower [] s { t with acq := { t.acq with handover := none } } := h.update
  exact ite h.update (ite (alive hend).freeSpare (alive h))

theorem abandonCals (h : LeavesPower [] s t) : LeavesPower [] s t.abandonCals := by
  unfold State.abandonCals
  extract_lets s1 s2
  have h1 : LeavesPower [] s s1 := h.foldl _ fun _ _ _ hu => hu.endKit _
  have h2 : LeavesPower [] s s2 := h1.foldl _ fun _ _ _ hu => hu.restoreCells _ _
  split
  · exact h2
  · exact ite h2.abandonAdcCal.freeSpare (h2.abandonAdcCal.returnBus _)

end
end LeavesPower

section
variable {s t : State}

/-! ## Requests refused -/

/-- A refused request is recorded in PWR.ENTRY: RESULT 1, the cause and page 0x02 (R68, R72). -/
theorem refuseReq_records (s : State) {c : Nat} (hc : c < 16) : (s.refuseReq c).f PWR.ENTRY.RESULT = 1 ∧
    (s.refuseReq c).f PWR.ENTRY.PAGE = 0x02 ∧ (s.refuseReq c).f PWR.ENTRY.CAUSE = c ∧
    SameWords s (s.refuseReq c) [PWR.ENTRY] ∧ OnlyRegs s (s.refuseReq c) := by
  unfold State.refuseReq
  refine ⟨?_, ?_, ?_, ?_, ?_⟩
  · rw [State.f_setF_ne _ PWR.ENTRY.PAGE PWR.ENTRY.RESULT _ (by decide) (by decide) (by decide),
      State.f_setF_ne _ PWR.ENTRY.CAUSE PWR.ENTRY.RESULT _ (by decide) (by decide) (by decide),
      State.f_setF_self _ _ _ (by decide)]
    rfl
  · rw [State.f_setF_self _ _ _ (by decide)]
    rfl
  · rw [State.f_setF_ne _ PWR.ENTRY.PAGE PWR.ENTRY.CAUSE _ (by decide) (by decide) (by decide), State.f_setF_self _ _ _ (by decide)]
    exact Nat.mod_eq_of_lt hc
  · exact (((SameWords.refl s _).setF (x := PWR.ENTRY.RESULT) _ (by decide)).setF (x := PWR.ENTRY.CAUSE) _ (by decide)).setF
      (x := PWR.ENTRY.PAGE) _ (by decide)
  · exact (((OnlyRegs.refl s).setF _ _).setF _ _).setF _ _

/-- A RUN request in READY (R68). -/
theorem reqRun_ready (h : s.pwr.st = .ready) (hk : s.standbyShake = none) : s.reqRun = s.acceptRun := by
  rw [State.reqRun, hk, h]
  rfl

/-! ## The STANDBY exit begins (R75) -/

/-- The sources of a wake as one field of PWR.WAKE_SRC. -/
def wakeSrcBits : Fld := ⟨PWR.WAKE_SRC, 0, 5⟩

/-- A single bit of the field. -/
theorem fb_wakeSource (s : State) {k : Nat} (hk : k < 5) : s.fb ⟨PWR.WAKE_SRC, k, 1⟩ = (s.f wakeSrcBits).testBit k := by
  change ((s.reg PWR.WAKE_SRC).toNat / 2 ^ k % 2 ^ 1 == 1) = ((s.reg PWR.WAKE_SRC).toNat / 2 ^ 0 % 2 ^ 5).testBit k
  rw [pow_zero, Nat.div_one, Nat.testBit_mod_two_pow, Nat.testBit_eq_decide_div_mod_eq, pow_one]
  simp [hk, beq_eq_decide]

/-- A wake starts the STANDBY exit: its source is recorded, TARGET is READY and the switches of the domains close. -/
structure ExitStarted (s t : State) (src : Nat) : Prop where
  st : t.pwr.st = s.pwr.st
  target : t.pwr.target = .ready
  exit : t.pwr.exit.isSome = true
  domains : ∀ d ∈ t.pwr.domains, d ≠ .off
  source : t.f wakeSrcBits = s.f wakeSrcBits ||| src
  words : SameWords s t [PWR.WAKE_SRC]
  wakePin : t.pwr.wakePin = s.pwr.wakePin
  rest : t = { s with
    regs := t.regs
    pwr := t.pwr }

theorem exitStart_starts (s : State) {src : Nat} (hs : src < 32) : ExitStarted s (s.exitStart src) src := by
  unfold State.exitStart
  extract_lets s1
  obtain ⟨hst, htarget, hexit, hdoms, heq⟩ := exitFromStep2_exits { s1 with pwr := { s1.pwr with
    transStart := s1.mono
    shakes := []
    wakeAfter := [] } }
  refine ⟨hst, htarget, hexit, hdoms, ?_, ?_, rfl, ?_⟩
  · have hlt : s.f wakeSrcBits ||| src < 2 ^ 5 := Nat.or_lt_two_pow (State.f_lt s wakeSrcBits) hs
    exact (State.f_setF_self s wakeSrcBits _ (by decide)).trans (Nat.mod_eq_of_lt hlt)
  · exact (SameWords.refl s _).setF (x := wakeSrcBits) _ (by decide)
  · rw [heq]
    rfl

/-- The source of the wake shows in its own bit. -/
theorem ExitStarted.shows {src k : Nat} (h : ExitStarted s t src) (hk : k < 5) (hs : src.testBit k = true) :
    t.fb ⟨PWR.WAKE_SRC, k, 1⟩ = true := by
  rw [fb_wakeSource _ hk, h.source, Nat.testBit_or, hs, Bool.or_true]

theorem wake_exits (h : s.pwr.st = .standby) (hk : s.standbyShake = none) (he : s.pwr.exit = none) (src : Nat) (level : Bool) :
    s.wake src level = s.exitStart src := by
  rw [State.wake, hk, h, he]
  rfl

/-! ## STANDBY requested (R69, R72) -/

/-- The handshake of a STANDBY entry: every page of a domain that goes off, TAB and SUPV are queried. -/
def State.entryShake (s : State) : Shake :=
  { standby := true, doms := s.standbyDoms, waiting := s.standbyDoms.flatMap domainPages ++ [0x48, 0x07], forced := none,
    aborted := none, stage := .querying, from_ := s.pwr.st }

/-- The power manager as the queries of a STANDBY entry go out. -/
def State.entryBegun (s : State) (k : Shake) : State :=
  { s with pwr := { s.pwr with
      target := .standby
      transStart := s.mono
      shakes := [k] } }

theorem reqStandby_queries (h : s.pwr.st = .ready ∨ s.pwr.st = .run) (htarget : s.pwr.target = s.pwr.st)
    (hshakes : s.pwr.shakes = []) (hlevel : s.levelWakes = 0) :
    ∃ t k, exec .pwrReqStandby s = .next t ∧ t.pwr.shakes = [k] ∧ k.standby = true ∧ k.stage = .querying ∧ k.from_ = s.pwr.st ∧
      k.doms = s.standbyDoms ∧ k.waiting = s.standbyDoms.flatMap domainPages ++ [0x48, 0x07] ∧
      t.pwr.target = .standby ∧ t.pwr.st = s.pwr.st ∧ t.time = s.time ∧ SameMemoryButQueued s t := by
  have hgo : ¬((s.pwr.st ≠ .ready ∧ s.pwr.st ≠ .run) ∨ s.pwr.target ≠ s.pwr.st ∨ (!s.pwr.shakes.isEmpty) = true) := by
    rcases h with h | h <;> simp [h, htarget, hshakes]
  have h1 : LeavesPower [] s s.dropFire.abandonCals := (LeavesPower.refl s []).dropFire.abandonCals
  have hrun : exec .pwrReqStandby s = .next (s.dropFire.abandonCals.entryBegun s.entryShake).settle :=
    congrArg Host.Outcome.next ((if_neg hgo).trans (if_neg (not_not.2 hlevel)))
  generalize s.dropFire.abandonCals = m at h1 hrun
  have h2 : LeavesPower [] (m.entryBegun s.entryShake) (m.entryBegun s.entryShake).settle :=
    (LeavesPower.refl _ []).settle fun _ h => absurd h List.not_mem_nil
  have hst : (m.entryBegun s.entryShake).settle.pwr.st = s.pwr.st := (congrArg Power.st h2.pwr).trans (congrArg Power.st h1.pwr :)
  exact ⟨_, s.entryShake, hrun, congrArg Power.shakes h2.pwr, rfl, rfl, rfl, rfl, rfl, congrArg Power.target h2.pwr, hst,
    h2.time.trans h1.time, fun a ha => (h2.memory a fun e he => ha e (h1.queued e he)).trans (h1.memory a ha)⟩

end

/-- Settles O12: each request by the state it is made in. -/
theorem powerRequests : Obligations.PowerRequests := by
  unfold Obligations.PowerRequests
  refine ⟨fun s h hk => ?_, fun s h hk => ?_, fun s h hk he => ?_, fun s h hk h1 h2 hz => ?_, fun s h hk hno => ?_,
    fun s => reqStandby_queries, fun s h => ?_⟩
  · change Host.Outcome.next s.reqReady = _
    rw [State.reqReady, hk, h]
    rfl
  · change Host.Outcome.next s.reqReady = _
    rw [State.reqReady, hk, h]
    rfl
  · have hrun : exec .pwrReqReady s = .next (s.exitStart 0x10) := by
      change Host.Outcome.next s.reqReady = _
      rw [State.reqReady, hk, h]
      exact congrArg Host.Outcome.next (wake_exits h hk he _ _)
    have hx := exitStart_starts s (src := 0x10) (by decide)
    refine ⟨_, hrun, hx.st.trans h, hx.target, hx.exit, hx.domains, ?_, hx.words, hx.rest⟩
    exact hx.shows (k := 4) (by decide) (by decide)
  · change Host.Outcome.next s.reqRun = _
    rw [reqRun_ready h hk, State.acceptRun, if_neg (by omega), hz]
    rfl
  · have hrun : exec .pwrReqRun s = .next (s.refuseReq (if 2 ≤ s.f HK.STEP.DIE_STEP ∨ 2 ≤ s.f HK.STEP.LAS_STEP then 4 else 5)) := by
      change Host.Outcome.next s.reqRun = _
      rw [reqRun_ready h hk, State.acceptRun]
      split
      · rfl
      · next hcool =>
        have hz : s.fb EMIT.FAULT.HAZ = true := by tauto
        rw [hz]
        rfl
    exact ⟨_, hrun, refuseReq_records s (by split <;> decide)⟩
  · have hno : (s.pwr.st ≠ .ready ∧ s.pwr.st ≠ .run) ∨ s.pwr.target ≠ s.pwr.st ∨ (!s.pwr.shakes.isEmpty) = true := by
      rcases h with h | h <;> simp [h]
    exact ⟨_, congrArg Host.Outcome.next (if_pos hno), refuseReq_records s (by decide)⟩

end Sys2Proof.Machine
end

section
/-! SUPPORT. Wake sources and domains that become ready (spec/03 R52, R73, R75, R76). -/

namespace Sys2Proof.Machine

section
variable {s t : State}

/-! ## Wake sources -/

/-- A source that has its own effect on the power manager, the link or the host port, and then wakes. -/
theorem ExitStarted.after {u : State} {src k : Nat} (h : ExitStarted u t src) (hst : u.pwr.st = .standby) (hk : k < 5)
    (hs : src.testBit k = true) (hu : u = { s with
      pwr := u.pwr
      link := u.link
      host := u.host }) (hlink : u.link = { s.link with present := u.link.present })
    (hhost : u.host = { s.host with
      csLow := u.host.csLow
      spiMode := u.host.spiMode
      spiAborted := u.host.spiAborted }) :
    t.pwr.st = .standby ∧ t.pwr.target = .ready ∧ t.pwr.exit.isSome = true ∧ (∀ d ∈ t.pwr.domains, d ≠ .off) ∧
    t.fb ⟨PWR.WAKE_SRC, k, 1⟩ = true ∧ SameWords s t [PWR.WAKE_SRC] ∧
    t = { s with
      regs := t.regs
      pwr := t.pwr
      link := t.link
      host := t.host } ∧
    t.link = { s.link with present := t.link.present } ∧
    t.host = { s.host with
      csLow := t.host.csLow
      spiMode := t.host.spiMode
      spiAborted := t.host.spiAborted } := by
  have hwords : SameWords s t [PWR.WAKE_SRC] := (SameWords.of_regs (congrArg State.regs hu)).trans h.words
  have hl : t.link = u.link := by rw [h.rest]
  have hh : t.host = u.host := by rw [h.rest]
  refine ⟨h.st.trans hst, h.target, h.exit, h.domains, h.shows hk hs, hwords, ?_, ?_, ?_⟩
  · rw [h.rest, hu]
  · rw [hl]
    exact hlink
  · rw [hh]
    exact hhost

theorem wakePinEvent_notes (high : Bool) (s : State) : exec (.wakePinEvent high) s =
    if s.fb PWR.WAKE_CFG.WAKE_EN = true ∧ (s.pwr.wakePin != high) = true ∧ (high != s.fb PWR.WAKE_CFG.WAKE_POL) = true then
      .next (State.wake { s with pwr := { s.pwr with wakePin := high } } 1 (s.fb PWR.WAKE_CFG.WAKE_LEVEL))
    else .next { s with pwr := { s.pwr with wakePin := high } } := rfl

theorem wakePinEvent_exits (high : Bool) (h : s.pwr.st = .standby) (he : s.pwr.exit = none) (hk : s.standbyShake = none)
    (hen : s.fb PWR.WAKE_CFG.WAKE_EN = true) (hpin : s.pwr.wakePin = !high) (hpol : s.fb PWR.WAKE_CFG.WAKE_POL = !high) :
    exec (.wakePinEvent high) s = .next (State.exitStart { s with pwr := { s.pwr with wakePin := high } } 1) := by
  have hgo : s.fb PWR.WAKE_CFG.WAKE_EN = true ∧ (s.pwr.wakePin != high) = true ∧ (high != s.fb PWR.WAKE_CFG.WAKE_POL) = true := by
    rw [hen, hpin, hpol]
    cases high <;> decide
  rw [wakePinEvent_notes, if_pos hgo]
  exact congrArg Host.Outcome.next (wake_exits (s := { s with pwr := { s.pwr with wakePin := high } }) h hk he _ _)

theorem rxActivity_notes (lane : RxLane) (hst : s.pwr.st ≠ .unpowered) (hl : s.link.present.contains (laneNo lane) = false) :
    exec (.rxActivity lane) s = if s.fb PWR.WAKE_CFG.RX_EN then
        .next (State.wake { s with link := { s.link with present := laneNo lane :: s.link.present } } 2 false) else
      .next { s with link := { s.link with present := laneNo lane :: s.link.present } } :=
  if_neg (by rw [hl]; simp [hst])

theorem spiCsFall_begins (sck : Bool) (hst : s.pwr.st ≠ .unpowered) :
    exec (.spiCsFall sck) s = if s.fb PWR.WAKE_CFG.CS_EN then
        .next (State.wake { s with
          host := { s.host with
            csLow := true
            spiMode := if sck then 3 else 0
            spiAborted := false } } 4 false) else
      .next { s with
        host := { s.host with
          csLow := true
          spiMode := if sck then 3 else 0
          spiAborted := false } } := if_neg hst

/-! ## Domains that become ready -/

/-- A domain whose blocks take up nothing of their own when it comes on (R52). -/
theorem domainUp_eq_self {d : Nat} (hd : d ∈ [2, 3, 6, 7]) (s : State) : s.domainUp d = s := by
  simp only [List.mem_cons, List.not_mem_nil, or_false] at hd
  rcases hd with rfl | rfl | rfl | rfl <;> rfl

theorem serveInband_empty (h : s.host.queue = []) : s.serveInband = s := by
  rw [State.serveInband, State.ibServe, h]

theorem dom_setDom_self {d : Nat} (hd : d < s.pwr.domains.length) (x : DomState) : (s.setDom d x).dom d = x := by
  simp [State.dom, State.setDom, nth, setNth, hd]

theorem dom_setDom_ne {d e : Nat} (he : e ≠ d) (x : DomState) : (s.setDom d x).dom e = s.dom e := by
  simp [State.dom, State.setDom, nth, setNth, List.getElem?_set_ne he.symm]

/-- A domain that wakes is on, and the rest of the command looks at the exit and at its off request. -/
theorem domainReady_on {d : Nat} (hd : d ∈ [2, 3, 6, 7]) (hw : s.dom d = .waking) : s.domainReady d =
    if s.pwr.exit = some .switching ∧ (s.setDom d .on).pwr.domains.all (· == DomState.on) = true then
      { s.setDom d .on with pwr := { (s.setDom d .on).pwr with exit := some .checks } }
    else if (s.pwr.st = .ready ∨ s.pwr.st = .run) ∧ s.offReq d = true then (s.setDom d .on).shakeDomain d
    else s.setDom d .on := by
  rw [State.domainReady, if_neg (by simp [hw])]
  dsimp only
  rw [domainUp_eq_self hd]
  rfl

/-- A lone domain's handshake (R74, R76). -/
def State.loneShake (s : State) (d : Nat) : Shake :=
  { standby := false, doms := [d], waiting := domainPages d, forced := none, aborted := none, stage := .querying, from_ := s.pwr.st }

/-- With no handshake of the domain in progress its pages are queried. -/
theorem shakeDomain_queries {d : Nat} (hd : s.dom d = .on) (hk : s.pwr.shakes.any (fun k => k.doms.contains d) = false) :
    s.shakeDomain d = ({ s with pwr := { s.pwr with shakes := s.pwr.shakes ++ [s.loneShake d] } }).settle :=
  if_neg (by rw [hk]; simp [hd])

theorem domainReady_stays {d : Nat} (hd : d ∈ [2, 3, 6, 7]) (hw : s.dom d = .waking) (hlen : d < s.pwr.domains.length)
    (hno : s.offReq d = false ∨ (s.pwr.st ≠ .ready ∧ s.pwr.st ≠ .run)) :
    (s.domainReady d).dom d = .on ∧
    (s.domainReady d).pwr.exit = (if s.pwr.exit = some .switching ∧ (s.domainReady d).pwr.domains.all (· == DomState.on) = true then
      some .checks else s.pwr.exit) ∧
    s.domainReady d = { s with pwr := (s.domainReady d).pwr } ∧ ∀ e, e ≠ d → (s.domainReady d).dom e = s.dom e := by
  have hoff : ¬((s.pwr.st = .ready ∨ s.pwr.st = .run) ∧ s.offReq d = true) := by
    rcases hno with h | h
    · simp [h]
    · tauto
  have hself := dom_setDom_self hlen .on
  have hrest {e : Nat} (he : e ≠ d) := dom_setDom_ne (s := s) he .on
  rw [domainReady_on hd hw, if_neg hoff]
  split
  · next hall => exact ⟨hself, rfl, rfl, fun e he => hrest he⟩
  · next hall => exact ⟨hself, rfl, rfl, fun e he => hrest he⟩

theorem domainReady_queries {d : Nat} (hd : d ∈ [2, 3, 6, 7]) (hw : s.dom d = .waking) (hlen : d < s.pwr.domains.length)
    (he : s.pwr.exit = none) (hk : s.pwr.shakes = []) (h : s.pwr.st = .ready ∨ s.pwr.st = .run) (hoff : s.offReq d = true) :
    ∃ u, u = { s.setDom d .on with pwr := { (s.setDom d .on).pwr with shakes := [(s.setDom d .on).loneShake d] } } ∧
      s.domainReady d = u.settle := by
  refine ⟨_, rfl, ?_⟩
  rw [domainReady_on hd hw, if_neg (by simp [he]), if_pos ⟨h, hoff⟩, shakeDomain_queries (dom_setDom_self hlen .on)]
  · rw [show (s.setDom d .on).pwr.shakes = [] from hk, List.nil_append]
  · rw [show (s.setDom d .on).pwr.shakes = [] from hk, List.any_nil]

end

/-- Settles O14: a source has its own effect, and wakes by `State.exitStart`; a domain that becomes ready is on, and is queried at
once where its off request waits. -/
theorem wakeSources : Obligations.WakeSources := by
  unfold Obligations.WakeSources
  intro exits
  refine ⟨fun high s h he hk hen hpin hpol => ?_, fun high s hen => ?_, fun lane s h he hk hen hl => ?_,
    fun lane s hst hen hl => ?_, fun sck s h he hk hen => ?_, fun sck s hst hen => ?_, fun d s hd hw hlen hq hno => ?_,
    fun d s hd hw hlen hq he hk h hoff => ?_⟩
  · have hx := exitStart_starts { s with pwr := { s.pwr with wakePin := high } } (src := 1) (by decide)
    exact ⟨_, wakePinEvent_exits high h he hk hen hpin hpol, hx.wakePin, hx.after (k := 0) h (by decide) (by decide) rfl rfl rfl⟩
  · rw [wakePinEvent_notes, if_neg (by simp [hen])]
  · have hx := exitStart_starts { s with link := { s.link with present := laneNo lane :: s.link.present } } (src := 2) (by decide)
    have hrun : exec (.rxActivity lane) s =
        .next (State.exitStart { s with link := { s.link with present := laneNo lane :: s.link.present } } 2) := by
      rw [rxActivity_notes lane (by simp [h]) hl, if_pos hen]
      exact congrArg Host.Outcome.next (wake_exits
        (s := { s with link := { s.link with present := laneNo lane :: s.link.present } }) h hk he 2 false)
    refine ⟨_, hrun, ?_, hx.after (k := 1) h (by decide) (by decide) rfl rfl rfl⟩
    rw [hx.rest]
  · exact (rxActivity_notes lane hst hl).trans (if_neg (by simp [hen]))
  · have hx := exitStart_starts { s with
      host := { s.host with
        csLow := true
        spiMode := if sck then 3 else 0
        spiAborted := false } } (src := 4) (by decide)
    have hrun : exec (.spiCsFall sck) s = .next (State.exitStart { s with
        host := { s.host with
          csLow := true
          spiMode := if sck then 3 else 0
          spiAborted := false } } 4) := by
      rw [spiCsFall_begins sck (by simp [h]), if_pos hen]
      exact congrArg Host.Outcome.next (wake_exits (s := { s with
        host := { s.host with
          csLow := true
          spiMode := if sck then 3 else 0
          spiAborted := false } }) h hk he 4 false)
    refine ⟨_, hrun, ?_, ?_, hx.after (k := 2) h (by decide) (by decide) rfl rfl rfl⟩
    · rw [hx.rest]
    · rw [hx.rest]
  · exact (spiCsFall_begins sck hst).trans (if_neg (by simp [hen]))
  · have hin := domainReady_stays hd hw hlen hno
    have hqueue : (s.domainReady d.val).host.queue = [] := by
      rw [hin.2.2.1]
      exact hq
    exact ⟨_, congrArg Host.Outcome.next (serveInband_empty hqueue), hin⟩
  · obtain ⟨u, hu, hrun⟩ := domainReady_queries hd hw hlen he hk h hoff
    have hs : LeavesPower [] u u.settle := (LeavesPower.refl _ []).settle fun _ h => absurd h List.not_mem_nil
    have hqueue : (s.domainReady d.val).host.queue = [] := by
      rw [hrun, hs.requests, hu]
      exact hq
    have hdom : u.settle.dom d.val = .on := by
      rw [State.dom, hs.pwr, hu]
      exact dom_setDom_self hlen .on
    have hshakes : u.settle.pwr.shakes = [(s.setDom d.val .on).loneShake d.val] := by rw [hs.pwr, hu]
    have hst : u.settle.pwr.st = s.pwr.st := by
      rw [hs.pwr, hu]
      rfl
    have hmem : SameMemoryButQueued s u.settle := by
      intro a ha
      rw [hs.memory a (by rw [hu]; exact ha), hu]
      rfl
    exact ⟨_, _, (congrArg Host.Outcome.next (serveInband_empty hqueue)).trans (congrArg Host.Outcome.next hrun), hdom, hshakes, rfl,
      rfl, rfl, rfl, hst, hmem⟩

end Sys2Proof.Machine
end

section
/-! SUPPORT. The end of a STANDBY entry (spec/03 R72), and a state in which the switch-off of CAM writes the change log. -/

namespace Sys2Proof.Machine

section
variable {s t : State}

/-! ## The end of a STANDBY entry -/

/-- The domains of a handshake have gone off, with what they lose (R52, R53). -/
def State.switchedOff (s : State) (k : Shake) : State :=
  k.doms.foldl (fun s d => (s.setDom d .off).domainLoss d) { s with pwr := { s.pwr with
    shakes := s.pwr.shakes.filter (· != k)
    accessOn := s.pwr.accessOn.filter fun d => !k.doms.contains d } }

/-- An access that wakes a domain leaves memory alone (R76). -/
theorem rd_accessWake (s : State) (d a : Nat) : (s.accessWake d).rd a = s.rd a := by
  unfold State.accessWake
  extract_lets note
  split
  · split <;> rfl
  · split
    · have hnote : (note s).rd a = s.rd a := by
        unfold note
        split
        · split <;> rfl
        · rfl
      exact hnote
    · rfl

theorem rd_wakeWaiting (s : State) (a : Nat) : s.wakeWaiting.rd a = s.rd a := by
  unfold State.wakeWaiting
  refine List.foldlRecOn (motive := fun u : State => u.rd a = s.rd a) _ _ rfl fun u hu d _ => ?_
  rw [rd_accessWake, hu]

/-- The state a STANDBY entry ends in from the state `u` with its domains off, the wake events kept still noted. -/
def State.entryIdle (u : State) (r p : Nat) : State := (u.elecIdle.enter .standby).settle.stopEmission.recordEntry r 0 p

theorem entryIdle_memory (u : State) (r p : Nat) : SameMemoryButQueued u (u.entryIdle r p) := by
  have h : LeavesPower [] (u.elecIdle.inState .standby) (u.entryIdle r p) :=
    (((enter_leaves _ .standby ⟨List.not_mem_nil, List.not_mem_nil⟩).settle fun _ h =>
      absurd h List.not_mem_nil).stopEmission).recordEntry List.not_mem_nil _ _ _
  exact h.memory

/-- No request waits any more. -/
def State.requestsDropped (s : State) : State :=
  { s with pwr := { s.pwr with
      wakeKept := 0
      runPending := false
      readyPending := false } }

theorem rd_requestsDropped (s : State) (a : Nat) : s.requestsDropped.rd a = s.rd a := rfl

/-- The state a STANDBY entry ends in. -/
def State.entryEnded (s : State) (k : Shake) : State := ((s.switchedOff k).entryIdle k.outcome.1 k.outcome.2).requestsDropped

theorem entryEnded_memory (s : State) (k : Shake) : SameMemoryButQueued (s.switchedOff k) (s.entryEnded k) := fun a ha =>
  (rd_requestsDropped _ a).trans (entryIdle_memory (s.switchedOff k) _ _ a ha)

/-- The wake events that a STANDBY entry has kept (R73). -/
def State.keptWakes (s : State) (k : Shake) : Nat :=
  let t := (s.switchedOff k).entryIdle k.outcome.1 k.outcome.2
  t.pwr.wakeKept ||| t.levelWakes

theorem exitStart_memory (s : State) (src a : Nat) : (s.exitStart src).rd a = s.rd a := rfl

theorem standbySwitchOffDone_entry {k : Shake} {n : Nat} (hk : s.pwr.shakes = [k]) (hw : k.stage = .window n)
    (hs : k.standby = true) : exec .standbySwitchOffDone s =
      if s.keptWakes k ≠ 0 then .next ((s.entryEnded k).exitStart (s.keptWakes k)) else .next (s.entryEnded k).wakeWaiting := by
  have hfind : (s.pwr.shakes.find? fun k => k.stage != .querying) = some k := by
    rw [hk, List.find?_cons_of_pos (by rw [hw]; rfl)]
  change execStandbySwitchOffDone s = _
  unfold execStandbySwitchOffDone
  rw [hfind]
  dsimp only
  rw [hs, if_pos rfl]
  rfl

/-- After the domains are off, the end of a STANDBY entry changes memory at most by queued place-0 words. -/
theorem standbySwitchOffDone_memory {k : Shake} {n : Nat} (hk : s.pwr.shakes = [k]) (hw : k.stage = .window n)
    (hs : k.standby = true) : ∃ t, exec .standbySwitchOffDone s = .next t ∧ SameMemoryButQueued (s.switchedOff k) t := by
  have hend := entryEnded_memory s k
  rw [standbySwitchOffDone_entry hk hw hs]
  split
  · exact ⟨_, rfl, fun a ha => (exitStart_memory _ _ a).trans (hend a ha)⟩
  · exact ⟨_, rfl, fun a ha => (rd_wakeWaiting _ a).trans (hend a ha)⟩

/-- CAM alone goes off with a handshake: its ports are idle, and what waited for them has not yet taken effect. -/
def State.camOff (s : State) (k : Shake) : State :=
  (State.setDom { s with pwr := { s.pwr with
    shakes := s.pwr.shakes.filter (· != k)
    accessOn := s.pwr.accessOn.filter fun d => !k.doms.contains d } } 6 .off).i2cReleaseAll.camLost

theorem switchedOff_cam (s : State) {k : Shake} (hk : k.doms = [6]) : s.switchedOff k = (s.camOff k).idleCommits := by
  unfold State.switchedOff State.camOff
  rw [hk]
  rfl

/-! ## The change log (R395) -/

theorem rd_ledWrite (s : State) (a b : Nat) (v : Word36) : (s.ledWrite a v).rd b = if b = a then v else s.rd b :=
  State.rd_wr s a b v

/-- Of the eight words of an entry the second is the one written there. -/
theorem rd_logWords (s : State) (p : Nat) (w0 w1 w2 w3 w4 w5 w6 w7 : Word36) :
    ([(0, w0), (1, w1), (2, w2), (3, w3), (4, w4), (5, w5), (6, w6), (7, w7)].foldl (fun s x => s.ledWrite (p + x.1) x.2) s).rd
      (p + 1) = w1 := by
  simp [rd_ledWrite]

/-- Word 1 of an entry names its kind and, with the lock open, the user. -/
theorem rd_logAppend_kind (s : State) (kind : Nat) (before : Word) (a : Nat) :
    (s.logAppend kind before a).rd (logPlace s.led.logNext + 1) = w36 (kind * 2 ^ 28 + (if s.lockOpen then s.safe.user else 0)) := by
  unfold State.logAppend
  extract_lets seq ws s1
  have hws : ∃ w0 w2 w3 w4 w5 w6 w7, ws = [w0, w36 (kind * 2 ^ 28 + (if s.lockOpen then s.safe.user else 0)), w2, w3, w4, w5, w6, w7] :=
    ⟨_, _, _, _, _, _, _, rfl⟩
  obtain ⟨w0, w2, w3, w4, w5, w6, w7, hws⟩ := hws
  have hlog (u : State) (l : Ledger) (p : Nat) : State.rd { u with led := l } p = u.rd p := rfl
  rw [hlog]
  unfold s1
  rw [hws]
  exact rd_logWords s (logPlace seq) ..

/-! ## Requests that take effect when a camera port becomes idle (R471) -/

theorem idleCommits_isp {r : CommitReq} {p : Nat} {ps : List Nat} (hc : s.commits = [r]) (hr : r.page = 0x44)
    (hi : s.ispNow = p :: ps) : s.idleCommits = (s.takeEffect [] (p :: ps)).postHeld := by
  have hnone : ((s.commits.filter fun r => decide (r.boundary ≤ 1) && (camOf r.page).any s.portIdle).map (·.page)) = [] := by
    have hcam : camOf r.page = none := by rw [hr]; rfl
    rw [hc, List.filter_cons_of_neg (by simp [hcam])]
    rfl
  rw [State.idleCommits, hnone, hi]
  rfl

theorem postHeld_accepts {r : CommitReq} (hh : s.ispHeld = some r) (hq : s.request 0x44 = none)
    (hj : State.judgeRequest { s with ispHeld := none } 0x44 r.boundary false [0x44] = none) :
    s.postHeld = State.acceptAll { s with ispHeld := none } [r] := by
  rw [State.postHeld, hh]
  dsimp only
  rw [hq]
  dsimp only [Option.isSome]
  rw [if_neg (by decide), hj]

/-- A request that is accepted alone and takes effect at once. -/
theorem acceptAll_single {r : CommitReq} (h44 : r.page ≠ 0x44) (hc : s.commits = []) (hdue : (s.acceptRequest r).dueNow r = true) :
    s.acceptAll [r] = (s.acceptRequest r).takeEffect [r.page] [] := by
  obtain ⟨ldb, e⟩ := acceptRequest_eq (r := r) s rfl h44
  have hnow : (s.acceptRequest r).ispNow = [] := ispNow_nil fun c hm => by
    rw [e, hc] at hm
    simp only [List.filter_nil, List.nil_append, List.mem_singleton] at hm
    rw [hm]
    exact h44
  have hps : ([r].filter (s.acceptRequest r).dueNow).map (·.page) = [r.page] := by
    rw [List.filter_cons_of_pos hdue]
    rfl
  change (s.acceptRequest r).takeEffect (([r].filter (s.acceptRequest r).dueNow).map (·.page)) (s.acceptRequest r).ispNow = _
  rw [hps, hnow]

/-- A commit of SAFE alone recomputes the safety CRC and is logged. -/
theorem afterCommit_safe (s old : State) : s.afterCommit old [0x08] =
    (s.updateCrc.logAppend 0x01 (s.reg SAFE.CRC) (hdr 0x08 8)).settle := rfl

/-- The place of the first entry of the change log is no place-0 word of a ring. -/
theorem logPlace_ne_place0 (n : Nat) : logPlace 0 + 1 ≠ 0xA00000 + 0x20 * n := by
  have heven : logPlace 0 % 2 = 0 := by decide
  omega

/-- The first entry that a commit of SAFE makes in the change log names its kind. -/
theorem safeCommit_logs (s old old' : State) (hn : s.led.logNext = 0) (hu : s.safe.user = 0) :
    ((s.afterCommit old [0x08]).countCommit old').rd (logPlace 0 + 1) = w36 (0x01 * 2 ^ 28 + 0) := by
  have hcount (u : State) (a : Nat) : (u.countCommit old').rd a = u.rd a := by
    unfold State.countCommit
    split <;> rfl
  have hsettle (u : State) : u.settle.rd (logPlace 0 + 1) = u.rd (logPlace 0 + 1) :=
    ((LeavesPower.refl u []).settle fun _ h => absurd h List.not_mem_nil).memory _ fun e _ => logPlace_ne_place0 e.1
  have hnext : s.updateCrc.led.logNext = 0 := by rw [State.updateCrc, State.setReg_led, hn]
  have huser : s.updateCrc.safe.user = 0 := by rw [State.updateCrc, State.setReg_safe, hu]
  have hlog := rd_logAppend_kind s.updateCrc 0x01 (s.reg SAFE.CRC) (hdr 0x08 8)
  rw [hnext, huser, ite_self] at hlog
  rw [hcount, afterCommit_safe, hsettle, hlog]

/-- A posted request touches neither the ledger nor SAFE. -/
theorem acceptRequest_keeps {r : CommitReq} (s : State) (h44 : r.page ≠ 0x44) (hc : s.commits = []) :
    (s.acceptRequest r).commits = [r] ∧ (s.acceptRequest r).led = s.led ∧ (s.acceptRequest r).safe = s.safe := by
  obtain ⟨ldb, e⟩ := acceptRequest_eq (r := r) s rfl h44
  refine ⟨?_, ?_, ?_⟩
  · rw [e, hc]
    exact List.nil_append [r]
  · rw [e]
    dsimp only
    rw [State.setF_led]
  · rw [e]
    dsimp only
    rw [State.setF_safe]

/-- The words of a page taking effect touch neither the ledger nor SAFE. -/
theorem committedPage_keeps (s : State) (p : Nat) : (s.committedPage p).led = s.led ∧ (s.committedPage p).safe = s.safe :=
  ⟨State.event_led .., State.event_safe ..⟩

end

/-! ## The counterexample -/

/-- The STANDBY entry: CAM alone goes off, and its window has passed. -/
def camEntry : Shake :=
  { standby := true, doms := [6], waiting := [], forced := none, aborted := none, stage := .window 0, from_ := .ready }

/-- An ISP request that has begun, for camera port 0. -/
def begunIsp : CommitReq := { page := 0x44, boundary := 0, global := false, armed := false, ports := [0], begun := true }

/-- The request in the place of the held ISP request: it names page SAFE. -/
def heldSafe : CommitReq := { page := 0x08, boundary := 0, global := false, armed := false, ports := [] }

theorem dueNow_heldSafe (s : State) : s.dueNow heldSafe = true := rfl

/-- READY at the end of the entry's window, an ISP request taking effect and another request held. -/
def heldState : State :=
  { State.reset with
    regs := [(PWR.WAKE_CFG, 0)]
    pwr := { st := .ready, target := .standby, domains := List.replicate 9 .on, shakes := [camEntry] }
    lockOpen := true
    commits := [begunIsp]
    ispHeld := some heldSafe }

/-- CAM has gone off, and its ports are idle. -/
def camGone : State := heldState.camOff camEntry

/-- The ISP request has taken effect. -/
def ispTaken : State := camGone.takeEffect [] [0]

/-- The held request is posted. -/
def ispDone : State := { ispTaken with ispHeld := none }

theorem camGone_facts : camGone.commits = [begunIsp] ∧ camGone.ispNow = [0] := by
  constructor <;> decide +kernel

theorem ispTaken_facts : ispTaken.commits = [] ∧ ispTaken.ispHeld = some heldSafe := by
  constructor <;> decide +kernel

theorem ispDone_facts : ispDone.commits = [] ∧ ispDone.led.logNext = 0 ∧ ispDone.safe.user = 0 := by
  refine ⟨?_, ?_, ?_⟩ <;> decide +kernel

theorem ispDone_checks : ispDone.judgeRequest 0x44 0 false [0x44] = none ∧
    (ispDone.acceptRequest heldSafe).judgeRequest 0x08 0 true [] = none := by
  constructor <;> decide +kernel

theorem heldState_switchedOff : heldState.switchedOff camEntry = camGone.idleCommits := switchedOff_cam heldState rfl

theorem heldState_logs : (heldState.switchedOff camEntry).rd (logPlace 0 + 1) = w36 (0x01 * 2 ^ 28 + 0) := by
  obtain ⟨hcommits, hnow⟩ := camGone_facts
  obtain ⟨htaken, hheld⟩ := ispTaken_facts
  obtain ⟨hdone, hlog, huser⟩ := ispDone_facts
  obtain ⟨hfirst, hsecond⟩ := ispDone_checks
  have hnone : ispTaken.request 0x44 = none := by
    rw [State.request, htaken]
    rfl
  have hpost : ispTaken.postHeld = ispDone.acceptAll [heldSafe] := postHeld_accepts hheld hnone hfirst
  have hidle : camGone.idleCommits = ispTaken.postHeld := idleCommits_isp hcommits rfl hnow
  obtain ⟨hone, hled, hsafe⟩ := acceptRequest_keeps (r := heldSafe) ispDone (by decide) hdone
  have htake := takeEffect_single hone (by decide) rfl hsecond
  obtain ⟨hled', hsafe'⟩ := committedPage_keeps (ispDone.acceptRequest heldSafe) heldSafe.page
  rw [heldState_switchedOff, hidle, hpost, acceptAll_single (by decide) hdone (dueNow_heldSafe _), htake]
  exact safeCommit_logs _ _ _ (by rw [hled', hled, hlog]) (by rw [hsafe', hsafe, huser])

theorem heldState_meets : heldState.pwr.domains.length = 9 ∧ heldState.levelWakes = 0 ∧ heldState.fb PWR.WAKE_CFG.IRQ_EN = false ∧
    heldState.rd (logPlace 0 + 1) = 0 := by
  refine ⟨rfl, ?_, ?_, ?_⟩ <;> decide +kernel

/-- Refutes O13, by its clause on the end of a STANDBY entry, which lets memory outside the histogram memory and the banks stay as it
is: in `heldState` an ISP request is taking effect while CAM goes off, and in the place of the held ISP request there is a request
for page SAFE. The port becomes idle, the ISP request takes effect, and so does the held one; its commit writes an entry of the
change log into the ledger. No run from reset holds a request of another page than ISP there, but the statement speaks of every
state. -/
theorem not_switchOffHandshake : ¬ Obligations.SwitchOffHandshake := by
  unfold Obligations.SwitchOffHandshake
  rintro ⟨-, -, -, -, -, -, -, hentry, -⟩
  obtain ⟨hlen, hlevel, hirq, hempty⟩ := heldState_meets
  obtain ⟨t, hrun, -, -, -, -, -, -, -, -, -, hmem⟩ :=
    hentry camEntry 0 heldState rfl rfl rfl (by decide) hlen rfl hlevel rfl (.inl rfl) hirq
  obtain ⟨u, hrun', hmem'⟩ := standbySwitchOffDone_memory (s := heldState) (k := camEntry) (n := 0) rfl rfl rfl
  obtain rfl : t = u := Host.Outcome.next.inj (hrun.symm.trans hrun')
  have hsame : t.rd (logPlace 0 + 1) = heldState.rd (logPlace 0 + 1) := hmem _ (by decide) fun e _ => logPlace_ne_place0 e.1
  have hlogged : t.rd (logPlace 0 + 1) = w36 (0x01 * 2 ^ 28 + 0) := (hmem' _ fun e _ => logPlace_ne_place0 e.1).trans heldState_logs
  rw [hlogged, hempty] at hsame
  exact absurd hsame (by decide)

end Sys2Proof.Machine
end


section
/-! SUPPORT. A clock period without a command (log entry 3, R107): what each of its parts does. -/

namespace Sys2Proof.Machine

section
variable {s : State}

theorem step_idle (h : s.pending = []) : step s = .next s.idle := by
  unfold step
  rw [h]

theorem idle_unpowered (h : s.pwr.st = .unpowered) : s.idle = s := if_pos h

theorem idle_powered (h : s.pwr.st ≠ .unpowered) : s.idle = s.tick.stepRise.levelWake.serveInband := if_neg h

/-- Only STANDBY and its entry can be left by a level source (R73, R75). -/
theorem levelWake_eq_self (hst : s.pwr.st ≠ .standby) (hk : s.standbyShake = none) : s.levelWake = s := by
  refine if_neg fun h => ?_
  obtain ⟨⟨hs, -⟩ | he, -⟩ := h
  · exact hst hs
  · rw [hk] at he
    exact absurd he (by decide)

/-- The rate step stays while the fill is not above HI (R287). -/
theorem stepRise_eq_self_of_fill (h : s.fb ACQ.RR.RR_EN = true → s.ringFill ≤ s.f ACQ.RR.HI * 64) : s.stepRise = s := by
  cases hen : s.fb ACQ.RR.RR_EN with
  | false => exact stepRise_eq_self hen
  | true =>
    refine if_neg fun hc => ?_
    simp only [Bool.and_eq_true, decide_eq_true_eq] at hc
    obtain ⟨⟨⟨-, hfill⟩, -⟩, -⟩ := hc
    exact absurd (h hen) (Nat.not_le.2 hfill)

/-- The rate step raised, with its event (R287). -/
def State.stepRaised (s : State) : State := (s.setF ACQ.STATE.STEP (s.f ACQ.STATE.STEP + 1)).event 0x32 1

/-- The rate step's first rise (R287). -/
theorem stepRise_rises (hdom : s.domOn 4 = true) (hen : s.fb ACQ.RR.RR_EN = true) (hfill : s.f ACQ.RR.HI * 64 < s.ringFill)
    (hstep : s.f ACQ.STATE.STEP < 7) (hup : s.acq.stepUp = none) :
    s.stepRise = State.stepRaised { s with acq := { s.acq with stepUp := some s.mono } } := by
  refine if_pos ?_
  rw [hup]
  simp [hdom, hen, hfill, hstep]

theorem stepRaised_onlyEvents (s : State) : OnlyEvents s s.stepRaised := ((OnlyEvents.refl s).setF _ _).event 0x32 1

theorem stepRaised_step (s : State) (h : s.f ACQ.STATE.STEP < 7) : s.stepRaised.f ACQ.STATE.STEP = s.f ACQ.STATE.STEP + 1 := by
  rw [State.stepRaised, State.f_event _ _ _ (by decide), State.f_setF_self _ _ _ (by decide)]
  exact Nat.mod_eq_of_lt (Nat.succ_lt_succ h)

theorem stepRaised_raises (s : State) : Raised s s.stepRaised 0x32 1 := by
  rw [Raised, State.stepRaised, State.reg_event_self, State.reg_setF_ne _ _ _ (by decide)]

theorem stepRaised_sameWords (s : State) : SameWords s s.stepRaised [ACQ.STATE, hdr 0x32 3] :=
  ((SameWords.refl s _).setF _ (by simp [ACQ.STATE.STEP])).event 1 (by simp)

theorem OnlyEvents.queue {t : State} (h : OnlyEvents s t) : t.host.queue = s.host.queue := by
  obtain ⟨_, _, _, _, rfl⟩ := onlyEvents_iff.1 h
  rfl

/-- A clock period outside STANDBY with no request waiting: time passes, and the rate step may rise. -/
theorem idle_quiet (hu : s.pwr.st ≠ .unpowered) (hst : s.pwr.st ≠ .standby) (hk : s.standbyShake = none) (hq : s.host.queue = [])
    {t : State} (ht : s.tick.stepRise = t) (hpwr : t.pwr = s.pwr) (hqueue : t.host.queue = s.host.queue) : s.idle = t := by
  have hst' : t.pwr.st ≠ .standby := hpwr ▸ hst
  have hk' : t.standbyShake = none := by rw [State.standbyShake, hpwr]; exact hk
  rw [idle_powered hu, ht, levelWake_eq_self hst' hk', serveInband_empty (hqueue.trans hq)]

end

/-- Settles O2: the clocks advance (`tick`), and of the three things looked at afterwards only the rate step may rise. -/
theorem idleStepPassesOneClock : Obligations.IdleStepPassesOneClock := by
  intro s hp
  rw [step_idle hp]
  refine ⟨⟨_, rfl⟩, fun hu => by rw [idle_unpowered hu], fun hu hst hk hq hfill => ?_, fun hst hk hq hdom hen hfill hstep hup => ?_⟩
  · rw [idle_quiet hu hst hk hq (t := s.tick) (stepRise_eq_self_of_fill hfill) rfl rfl]
    rfl
  · have hon : s.domOn 4 = true := by rw [State.domOn, hdom]; rfl
    have hu : s.pwr.st ≠ .unpowered := by rcases hst with h | h <;> rw [h] <;> decide
    have hsb : s.pwr.st ≠ .standby := by rcases hst with h | h <;> rw [h] <;> decide
    let u : State := { s.tick with acq := { s.acq with stepUp := some s.tick.mono } }
    have hrise : s.tick.stepRise = u.stepRaised := stepRise_rises hon hen hfill hstep hup
    have hevents : OnlyEvents u u.stepRaised := stepRaised_onlyEvents u
    obtain ⟨_, _, _, _, he⟩ := onlyEvents_iff.1 hevents
    have hidle : s.idle = u.stepRaised := idle_quiet hu hsb hk hq hrise (by rw [he]; rfl) hevents.queue
    rw [hidle]
    exact ⟨_, rfl, stepRaised_step u hstep, stepRaised_raises u, stepRaised_sameWords u, fun a => by rw [he]; rfl⟩

end Sys2Proof.Machine
end


section
/-! SUPPORT. Words and fields cleared (O16): what a run of writes of 0 leaves of the register words. -/

namespace Sys2Proof.Machine

section
variable {s t : State} {ws vs : List Nat}

/-! ## Words cleared -/

theorem wordsZeroed_nil (s : State) : WordsZeroed s s [] := ⟨fun a => (if_neg (List.not_mem_nil (a := a))).symm, rfl⟩

theorem wordsZeroed_congr (h : WordsZeroed s t ws) (hm : ∀ a, a ∈ ws ↔ a ∈ vs) : WordsZeroed s t vs := by
  obtain ⟨hreg, honly⟩ := h
  exact ⟨fun a => by rw [hreg]; simp only [hm], honly⟩

theorem wordsZeroed_setReg (h : WordsZeroed s t ws) (a : Nat) : WordsZeroed s (t.setReg a 0) (a :: ws) := by
  obtain ⟨hreg, honly⟩ := h
  refine ⟨fun b => ?_, honly.trans rfl⟩
  by_cases hb : b = a
  · rw [hb, State.reg_setReg_self, if_pos (List.mem_cons_self ..)]
  · rw [State.reg_setReg_ne _ _ hb, hreg]
    simp only [List.mem_cons, hb, false_or]

theorem wordsZeroed_foldl_from (vs : List Nat) :
    ∀ {t ws}, WordsZeroed s t ws → WordsZeroed s (vs.foldl (fun s a => s.setReg a 0) t) (vs ++ ws) := by
  induction vs with
  | nil => exact id
  | cons a vs ih =>
    intro t ws h
    exact wordsZeroed_congr (ih (wordsZeroed_setReg h a)) fun b => by simp only [List.mem_append, List.mem_cons, List.cons_append]; tauto

/-- The words of a list written 0 one after the other. -/
theorem wordsZeroed_foldl (s : State) (ws : List Nat) : WordsZeroed s (ws.foldl (fun s a => s.setReg a 0) s) ws :=
  wordsZeroed_congr (wordsZeroed_foldl_from ws (wordsZeroed_nil s)) fun a => by rw [List.append_nil]

/-! ## Fields cleared -/

/-- Bit `i` of the word at `a` belongs to a field of a list. -/
def inFields (xs : List Fld) (a i : Nat) : Bool := xs.any fun x => x.addr == a && decide (x.lo ≤ i) && decide (i < x.lo + x.width)

theorem put_testBit (x : Fld) (w : Word) (v i : Nat) (hx : x.lo + x.width ≤ 32) :
    (x.put w v).toNat.testBit i = if x.lo ≤ i ∧ i < x.lo + x.width then v.testBit (i - x.lo) else w.toNat.testBit i := by
  rw [Fld.put, BitVec.toNat_ofNat, Nat.mod_eq_of_lt (putBits_lt v w.isLt hx), putBits_testBit]

theorem setF_zero_testBit (s : State) {x : Fld} (hx : x.lo + x.width ≤ 32) (a i : Nat) :
    ((s.setF x 0).reg a).toNat.testBit i = ((s.reg a).toNat.testBit i && !inFields [x] a i) := by
  by_cases ha : a = x.addr
  · subst ha
    rw [State.reg_setF_self, put_testBit x _ _ _ hx]
    by_cases hi : x.lo ≤ i ∧ i < x.lo + x.width
    · simp [inFields, hi]
    · rw [if_neg hi]
      simp only [not_and, Nat.not_lt] at hi
      by_cases hlo : x.lo ≤ i <;> simp [inFields, hlo, hi]
  · rw [State.reg_setF_ne s x 0 ha]
    simp [inFields, Ne.symm ha]

/-- The bits of register words after some fields have been cleared. -/
theorem clearFs_testBit (xs : List Fld) : ∀ s : State, (∀ x ∈ xs, x.lo + x.width ≤ 32) → ∀ a i,
    ((s.clearFs xs).reg a).toNat.testBit i = ((s.reg a).toNat.testBit i && !inFields xs a i) := by
  induction xs with
  | nil => intro s _ a i; simp [State.clearFs, inFields]
  | cons x xs ih =>
    intro s hxs a i
    obtain ⟨hx, hrest⟩ := List.forall_mem_cons.1 hxs
    have hcons : inFields (x :: xs) a i = (inFields [x] a i || inFields xs a i) := by simp [inFields]
    have htail := ih (s.setF x 0) hrest a i
    rw [setF_zero_testBit s hx, Bool.and_assoc, ← Bool.not_or, ← hcons] at htail
    exact htail

theorem clearFs_onlyRegs (xs : List Fld) : ∀ s : State, OnlyRegs s (s.clearFs xs) := by
  induction xs with
  | nil => exact OnlyRegs.refl
  | cons x xs ih => exact fun s => ((OnlyRegs.refl s).setF x 0).trans (ih _)

/-- Clearing fields clears them, and no other bit (R11). -/
theorem clearFs_zeroes (s : State) (xs : List Fld) (hxs : ∀ x ∈ xs, x.lo + x.width ≤ 32) : FieldsZeroed s (s.clearFs xs) xs := by
  refine ⟨fun x hx => Nat.eq_of_testBit_eq fun i => ?_, fun a lo w hout => Nat.eq_of_testBit_eq fun i => ?_, clearFs_onlyRegs xs s⟩
  · rw [State.f, Fld.get, bitsOf_testBit, clearFs_testBit xs s hxs, Nat.zero_testBit]
    by_cases hi : i < x.width
    · have hin : inFields xs x.addr (x.lo + i) = true := List.any_eq_true.2 ⟨x, hx, by simp [hi]⟩
      rw [hin]
      simp
    · simp [hi]
  · rw [State.f, State.f, Fld.get, Fld.get, bitsOf_testBit, bitsOf_testBit]
    dsimp only
    rw [clearFs_testBit xs s hxs]
    by_cases hi : i < w
    · have hnot : inFields xs a (lo + i) = false := by
        refine List.any_eq_false.2 fun x hx => ?_
        have h := hout x hx
        simp only [Bool.and_eq_true, beq_iff_eq, decide_eq_true_eq]
        rintro ⟨⟨ha, hlo⟩, hhi⟩
        rcases h with h | h | h
        · exact absurd ha h
        · omega
        · omega
      rw [hnot]
      simp
    · simp [hi]

end

/-! ## The commands -/

theorem steerCntClr_zeroes (s : State) : FieldsZeroed s s.steerCntClr [STEER.SYNC_CNT.GLITCH, STEER.SYNC_CNT.LOST,
    STEER.PLAUS_CNT.CLEARS, STEER.PLAUS_CNT.UNCERTAINS, STEER.STAT.MISSES 0, STEER.STAT.MISSES 1] :=
  clearFs_zeroes s _ (by decide)

theorem afeCntClr_zeroes (k : Nat) (s : State) : FieldsZeroed s (s.afeCntClr k) ((List.range 48).map (AFE.STAT.EDGES k)) :=
  clearFs_zeroes s _ fun x hx => by
    obtain ⟨i, -, rfl⟩ := List.mem_map.1 hx
    exact Nat.le_of_ble_eq_true rfl

theorem adcCntClr_zeroes (s : State) : FieldsZeroed s s.adcCntClr ((List.range 9).map ADC.STAT.OR_CNT) := by
  have h : s.adcCntClr = s.clearFs ((List.range 9).map ADC.STAT.OR_CNT) := by rw [State.clearFs, List.foldl_map]; rfl
  rw [h]
  exact clearFs_zeroes s _ (by decide)

theorem hkCntClr_zeroes (s : State) : WordsZeroed s s.hkCntClr ((List.range 10).map HK.SUP) := by
  have h : s.hkCntClr = ((List.range 10).map HK.SUP).foldl (fun s a => s.setReg a 0) s := by rw [List.foldl_map]; rfl
  rw [h]
  exact wordsZeroed_foldl ..

/-- The words that TDC.CNT_CLR clears channel by channel. -/
def tdcCountWords (k m : Nat) : List Nat := [TDC.CNT k m, TDC.EVENTS k m]

theorem tdcCntClr_zeroes (k : Nat) (s : State) : WordsZeroed s (s.tdcCntClr k)
    (TDC.ARMX_CNT k :: ((List.range 48).map (TDC.CNT k) ++ (List.range 48).map (TDC.EVENTS k))) := by
  have h : s.tdcCntClr k = ((List.range 48).flatMap (tdcCountWords k)).foldl (fun s a => s.setReg a 0) (s.setReg (TDC.ARMX_CNT k) 0) := by
    rw [List.foldl_flatMap]
    rfl
  rw [h]
  refine wordsZeroed_congr (wordsZeroed_foldl_from _ (wordsZeroed_setReg (wordsZeroed_nil s) _)) fun a => ?_
  simp only [tdcCountWords, List.mem_append, List.mem_flatMap, List.mem_cons, List.mem_map, List.not_mem_nil, or_false]
  constructor
  · rintro (⟨m, hm, rfl | rfl⟩ | h)
    · exact .inr (.inl ⟨m, hm, rfl⟩)
    · exact .inr (.inr ⟨m, hm, rfl⟩)
    · exact .inl h
  · rintro (h | ⟨m, hm, rfl⟩ | ⟨m, hm, rfl⟩)
    · exact .inr h
    · exact .inl ⟨m, hm, .inl rfl⟩
    · exact .inl ⟨m, hm, .inr rfl⟩

theorem acqCntClr_clears (s : State) : (∀ a, s.acqCntClr.reg a = if a ∈ [ACQ.CNT_A, ACQ.CNT_B, ACQ.CNT_C] then 0 else s.reg a) ∧
    (s.acq.late = none → s.acqCntClr.acq = s.acq) ∧ s.acqCntClr.acq = { s.acq with late := s.acqCntClr.acq.late } ∧
    s.acqCntClr = { s with regs := s.acqCntClr.regs, acq := s.acqCntClr.acq } := by
  obtain ⟨hreg, honly⟩ := wordsZeroed_foldl
    { s with acq := { s.acq with late := s.acq.late.map fun l => { l with before := 0 } } } [ACQ.CNT_A, ACQ.CNT_B, ACQ.CNT_C]
  refine ⟨hreg, fun hlate => ?_, rfl, rfl⟩
  have hacq : s.acqCntClr.acq = { s.acq with late := s.acq.late.map fun l => { l with before := 0 } } := rfl
  rw [hacq, hlate, Option.map_none, ← hlate]

theorem bankCntClr_clears (s : State) : (∀ a, a ≠ BANK.RECLAIM → s.bankCntClr.reg a = if a ∈ [BANK.ECC_CNT, BANK.DROP] then 0 else s.reg a) ∧
    s.bankCntClr.f BANK.RECLAIM.COUNT = 0 ∧ s.bankCntClr.f BANK.RECLAIM.DISCARDED = s.f BANK.RECLAIM.DISCARDED ∧
    OnlyRegs s s.bankCntClr := by
  refine ⟨fun a ha => ?_, ?_, ?_, rfl⟩
  · rw [State.bankCntClr]
    by_cases hd : a = BANK.DROP
    · rw [hd, State.reg_setReg_self, if_pos (by decide)]
    · rw [State.reg_setReg_ne _ _ hd, State.reg_setF_ne _ _ _ ha]
      by_cases he : a = BANK.ECC_CNT
      · rw [he, State.reg_setReg_self, if_pos (by decide)]
      · rw [State.reg_setReg_ne _ _ he, if_neg (by simp [hd, he])]
  · rw [State.bankCntClr, State.f_setReg_ne _ _ _ (by decide), State.f_setF_self _ _ _ (by decide)]
    rfl
  · rw [State.bankCntClr, State.f_setReg_ne _ _ _ (by decide), State.f_setF_ne _ BANK.RECLAIM.COUNT BANK.RECLAIM.DISCARDED _ (by decide) rfl (by decide),
      State.f_setReg_ne _ _ _ (by decide)]

/-- Settles O16: words are cleared one after the other (`wordsZeroed_foldl`), counts that share a word with other fields bit by
bit (`clearFs_zeroes`). -/
theorem counterClears : Obligations.CounterClears := by
  have one (s : State) (a : Nat) : WordsZeroed s (s.setReg a 0) [a] := wordsZeroed_setReg (wordsZeroed_nil s) a
  refine ⟨fun s => ⟨?_, ?_, ?_, ?_, ?_, ?_, ?_, ?_, ?_, ?_, ?_, ?_, ?_, ?_, ?_, ?_, ?_⟩, fun k s => ⟨?_, ?_⟩, fun k s => ?_,
    fun p s hp => ?_, fun p s hp => ?_⟩
  · exact ⟨_, rfl, wordsZeroed_foldl s [HOST.SPI_ERR, HOST.IB_ERR]⟩
  · exact ⟨_, rfl, wordsZeroed_foldl ..⟩
  · exact ⟨_, rfl, one ..⟩
  · exact ⟨_, rfl, one ..⟩
  · exact ⟨_, rfl, steerCntClr_zeroes s⟩
  · exact ⟨_, rfl, one ..⟩
  · exact ⟨_, rfl, wordsZeroed_foldl ..⟩
  · exact ⟨_, rfl, wordsZeroed_foldl ..⟩
  · exact ⟨_, rfl, wordsZeroed_foldl ..⟩
  · exact ⟨_, rfl, acqCntClr_clears s⟩
  · exact ⟨_, rfl, adcCntClr_zeroes s⟩
  · exact ⟨_, rfl, one ..⟩
  · exact ⟨_, rfl, wordsZeroed_foldl ..⟩
  · exact ⟨_, rfl, bankCntClr_clears s⟩
  · exact ⟨_, rfl, one ..⟩
  · exact ⟨_, rfl, one ..⟩
  · exact ⟨_, rfl, hkCntClr_zeroes s⟩
  · exact ⟨_, rfl, afeCntClr_zeroes k.val s⟩
  · exact ⟨_, rfl, tdcCntClr_zeroes k.val s⟩
  · exact ⟨_, rfl, wordsZeroed_foldl s [CAM.ERR_A k.val, CAM.ERR_B k.val, CAM.ERR_C k.val]⟩
  · exact ⟨_, congrArg Host.Outcome.next (if_pos hp), one ..⟩
  · exact congrArg Host.Outcome.next (if_neg (by rw [hp]; decide))

end Sys2Proof.Machine
end


section
/-! SUPPORT. TIME set and offset (R107, R344): packets that are received and sent, and what a set leaves. -/

namespace Sys2Proof.Machine

section
variable {s t u : State} {ws : List Nat}

/-! ## Packets of class B (R335, R336) -/

/-- A class B packet goes to the end of its queue with the next SEQ of its VC. -/
theorem enqueue_classB (s : State) {dt : Nat} (hd : dtClass dt = 1) (port gen stamp : Nat) (l : List Word36) :
    ∃ p seqs, s.enqueue dt port gen stamp l = ({ s with link := { s.link with qB := s.link.qB ++ [p], seqs := seqs } }, true) ∧
      p.dt = dt ∧ p.vc = dtVc dt port ∧ p.stamp = stamp ∧ p.payload = l := by
  refine ⟨(s.link.build dt port gen stamp l).1, (s.link.build dt port gen stamp l).2.seqs, ?_, rfl, rfl, rfl, rfl⟩
  simp only [State.enqueue, hd]
  rfl

theorem sendPacket_classB (s : State) {dt : Nat} (hd : dtClass dt = 1) (port gen stamp : Nat) (l : List Word36) :
    ∃ p seqs, s.sendPacket dt port gen stamp l = { s with link := { s.link with qB := s.link.qB ++ [p], seqs := seqs } } ∧
      p.dt = dt ∧ p.vc = dtVc dt port ∧ p.stamp = stamp ∧ p.payload = l := by
  obtain ⟨p, seqs, he, hp⟩ := enqueue_classB s hd port gen stamp l
  refine ⟨p, seqs, ?_, hp⟩
  rw [State.sendPacket, he]
  rfl

theorem OnlyEvents.sendPacket (h : OnlyEvents s t) {dt : Nat} (hd : dtClass dt = 1) (port gen stamp : Nat) (l : List Word36) :
    OnlyEvents s (t.sendPacket dt port gen stamp l) := by
  obtain ⟨p, seqs, he, -⟩ := sendPacket_classB t hd port gen stamp l
  rw [he]
  exact h.trans rfl

theorem SameWords.sendPacket (h : SameWords s t ws) {dt : Nat} (hd : dtClass dt = 1) (port gen stamp : Nat) (l : List Word36) :
    SameWords s (t.sendPacket dt port gen stamp l) ws := by
  obtain ⟨p, seqs, he, -⟩ := sendPacket_classB t hd port gen stamp l
  rw [he]
  exact h

/-! ## A packet received (R342) -/

/-- What the reception of a packet can change: counts and status of the RX lanes, and what the link holds. -/
structure Received (s t : State) : Prop where
  rest : ∃ regs merges link, t = { s with regs := regs, host := { s.host with merges := merges }, link := link }
  words : SameWords s t [TAB.RX_CNT, TAB.RX_STAT, hdr 0x48 3]

theorem Received.refl (s : State) : Received s s := ⟨⟨_, _, _, rfl⟩, fun _ _ => rfl⟩

theorem Received.link (h : Received s t) (link : Link) : Received s { t with link := link } := by
  obtain ⟨⟨_, _, _, rfl⟩, hw⟩ := h
  exact ⟨⟨_, _, _, rfl⟩, hw⟩

theorem Received.setF (h : Received s t) {x : Fld} (hx : x.addr = TAB.RX_CNT ∨ x.addr = TAB.RX_STAT) (v : Nat) :
    Received s (t.setF x v) := by
  obtain ⟨⟨_, _, _, rfl⟩, hw⟩ := h
  refine ⟨⟨_, _, _, rfl⟩, hw.setF v ?_⟩
  rcases hx with hx | hx <;> simp [hx]

theorem Received.onlyEvents (h : Received s t) (he : OnlyEvents t u) (hw : SameWords t u [hdr 0x48 3]) : Received s u := by
  obtain ⟨⟨_, _, _, rfl⟩, hw'⟩ := h
  obtain ⟨_, _, _, _, rfl⟩ := onlyEvents_iff.1 he
  exact ⟨⟨_, _, _, rfl⟩, hw'.trans (hw.mono (by simp))⟩

/-- What an accepted packet leaves of the link: it is remembered with the lane that delivered it (R342). -/
def State.remember (s : State) (rx : RxInfo) (k : Nat) : State :=
  { s with link := { s.link with seen := ((rx.vc.toNat, rx.seq.toNat) :: s.link.seen).take 2048, lane := some k } }

/-- The counts and lane status that an accepted packet leaves (R342, R349). -/
def State.received (s : State) (rx : RxInfo) (k : Nat) : State :=
  ((if k = 1 ∧ !rx.goodA then (s.remember rx k).incF TAB.RX_CNT.B_ONLY else s.remember rx k).setRx .a 4 (k == 0)).setRx .b 4 (k == 1)

theorem received_received (s : State) (rx : RxInfo) (k : Nat) : Received s (s.received rx k) := by
  have hlink : Received s (s.remember rx k) := (Received.refl s).link _
  have hcount : Received s (if k = 1 ∧ !rx.goodA then (s.remember rx k).incF TAB.RX_CNT.B_ONLY else s.remember rx k) := by
    split
    · exact hlink.setF (.inl rfl) _
    · exact hlink
  exact (hcount.setF (x := rxStat .a) (.inr rfl) _).setF (x := rxStat .b) (.inr rfl) _

/-- A packet is refused and changes nothing, or it is accepted, with an event where the serving lane changes (R342). -/
theorem accept_cases (s : State) (rx : RxInfo) : s.accept rx = (s, false) ∨ ∃ k, s.accept rx = (s.received rx k, true) ∨
    ∃ l, s.accept rx = (((s.received rx k).event 0x48 4).linkEvent 2 k l, true) := by
  rw [State.accept]
  cases s.acceptLane rx with
  | none => exact .inl rfl
  | some k =>
    dsimp only
    split
    · exact .inl rfl
    · refine .inr ⟨k, ?_⟩
      split
      · exact .inr ⟨_, rfl⟩
      · exact .inl rfl

theorem accept_not {rx : RxInfo} (h : (s.accept rx).2 = false) : (s.accept rx).1 = s := by
  rcases accept_cases s rx with e | ⟨k, e | ⟨l, e⟩⟩
  · rw [e]
  · rw [e] at h
    exact absurd h (by simp)
  · rw [e] at h
    exact absurd h (by simp)

theorem accept_received (s : State) (rx : RxInfo) : Received s (s.accept rx).1 := by
  rcases accept_cases s rx with e | ⟨k, e | ⟨l, e⟩⟩
  · rw [e]
    exact Received.refl s
  · rw [e]
    exact received_received s rx k
  · have hpkt : Received s (((s.received rx k).event 0x48 4).linkEvent 2 k l) :=
      (received_received s rx k).onlyEvents (((OnlyEvents.refl _).event 0x48 4).sendPacket rfl _ _ _ _)
        (((SameWords.refl _ _).event 4 (by simp)).sendPacket rfl _ _ _ _)
    rw [e]
    exact hpkt

theorem Received.time (h : Received s t) : t.time = s.time := by
  obtain ⟨⟨_, _, _, rfl⟩, -⟩ := h
  rfl

/-! ## TIME replaced (R107, R333) -/

theorem heartbeat_eq (s : State) : ∃ link, s.heartbeat false = { s with link := link } ∧ link.qB = s.link.qB := by
  unfold State.heartbeat
  split
  · exact ⟨_, rfl, rfl⟩
  · exact ⟨_, rfl, rfl⟩

theorem heartbeat_queued (s : State) : HeartbeatQueued s (s.heartbeat false) := by
  unfold State.heartbeat
  refine ⟨fun hup => ?_, fun hdown => ?_⟩
  · rw [if_neg (by rw [hup]; decide)]
    exact ⟨_, rfl, rfl, rfl, rfl⟩
  · rw [if_pos (by rw [hdown]; rfl)]

/-- TIME replaced and counted, no set waiting (R107). -/
def State.timeCounted (s : State) (v : Nat) : State :=
  (State.incF { s with time := v % timeModulus, timeSet := none } TIME.STAT.SETS).event 0x06 0

/-- TIME replaced by a packet: bit 9 of TAB and the event packet of R344 with the TIME before. -/
def State.timeTold (s : State) (v before m : Nat) : State :=
  ((s.timeCounted v).event 0x48 9).sendPacket 0x39 0 (s.timeCounted v).gen4 before
    ([w36 (0x02 * 2 ^ 24 + m)] ++ halves before ++ halves (s.timeCounted v).timeNs)

theorem setTime_some (s : State) (v m : Nat) : s.setTime v (some m) = (s.timeTold v s.timeNs m).heartbeat false := rfl

/-- What a set shows before its heartbeat, which leaves the registers alone. -/
structure TimeShown (s t : State) (v : Nat) : Prop where
  only : OnlyEvents { s with time := v % timeModulus, timeSet := none } t
  sets : t.f TIME.STAT.SETS = satAdd 16 (s.f TIME.STAT.SETS) 1
  raised : Raised s t 0x06 0
  linkUp : t.fb TAB.STATUS.LINK_UP = s.fb TAB.STATUS.LINK_UP

theorem timeCounted_sameWords (s : State) (v : Nat) : SameWords s (s.timeCounted v) [TIME.STAT, hdr 0x06 3] :=
  SameWords.event (SameWords.setF (SameWords.of_regs rfl) _ (by decide)) 0 (by decide)

theorem timeCounted_shown (s : State) (v : Nat) : TimeShown s (s.timeCounted v) v where
  only := ((OnlyEvents.refl _).addF _ 1).event 0x06 0
  sets := by
    rw [State.timeCounted, State.f_event _ _ _ (by decide)]
    exact State.f_addF_self _ _ _ (by decide)
  raised := by
    rw [Raised, State.timeCounted, State.reg_event_self, State.incF, State.reg_addF_ne _ _ _ (by decide)]
    rfl
  linkUp := (timeCounted_sameWords s v).fb (by decide)

theorem timeTold_sameWords (s : State) (v before m : Nat) :
    SameWords (s.timeCounted v) (s.timeTold v before m) [hdr 0x48 3] :=
  ((SameWords.refl _ _).event 9 (by decide)).sendPacket rfl _ _ _ _

theorem timeTold_shown (s : State) (v before m : Nat) : TimeShown s (s.timeTold v before m) v where
  only := ((timeCounted_shown s v).only.event 0x48 9).sendPacket rfl _ _ _ _
  sets := ((timeTold_sameWords s v before m).f (by decide)).trans (timeCounted_shown s v).sets
  raised := (timeTold_sameWords s v before m _ (by decide)).trans (timeCounted_shown s v).raised
  linkUp := ((timeTold_sameWords s v before m).fb (by decide)).trans (timeCounted_shown s v).linkUp

theorem TimeShown.setTo {v : Nat} (h : TimeShown s t v) : TimeSetTo s (t.heartbeat false) v := by
  obtain ⟨honly, hsets, hraised, hup⟩ := h
  obtain ⟨regs, merges, qB, seqs, rfl⟩ := onlyEvents_iff.1 honly
  obtain ⟨link, he, -⟩ := heartbeat_eq { s with time := v % timeModulus, timeSet := none, regs := regs, host := { s.host with merges := merges }, link := { s.link with qB := qB, seqs := seqs } }
  have hq := heartbeat_queued { s with time := v % timeModulus, timeSet := none, regs := regs, host := { s.host with merges := merges }, link := { s.link with qB := qB, seqs := seqs } }
  rw [he] at hq ⊢
  exact ⟨rfl, rfl, hsets, hraised, ⟨fun h => hq.1 (hup.trans h), fun h => hq.2 (hup.trans h)⟩, rfl, rfl, fun a => rfl, rfl, rfl⟩

theorem heartbeat_sameWords (h : SameWords s t ws) : SameWords s (t.heartbeat false) ws := by
  obtain ⟨link, he, -⟩ := heartbeat_eq t
  rw [he]
  exact h

theorem setTime_none_sets (s : State) (v : Nat) :
    TimeSetTo s (s.setTime v none) v ∧ SameWords s (s.setTime v none) [TIME.STAT, hdr 0x06 3] :=
  ⟨(timeCounted_shown s v).setTo, heartbeat_sameWords (timeCounted_sameWords s v)⟩

/-- The packet that tells of a set waits with class B (R344). -/
theorem timeTold_packet (s : State) (v before m : Nat) : ∃ e ∈ (s.timeTold v before m).link.qB,
    e.dt = 0x39 ∧ e.stamp = before ∧ e.payload = [w36 (0x02 * 2 ^ 24 + m)] ++ halves before ++ halves (s.timeCounted v).timeNs := by
  obtain ⟨p, seqs, he, hdt, -, hstamp, hpay⟩ := sendPacket_classB ((s.timeCounted v).event 0x48 9) (dt := 0x39) rfl 0
    (s.timeCounted v).gen4 before ([w36 (0x02 * 2 ^ 24 + m)] ++ halves before ++ halves (s.timeCounted v).timeNs)
  refine ⟨p, ?_, hdt, hstamp, hpay⟩
  rw [State.timeTold, he]
  exact List.mem_append_right _ (List.mem_singleton_self p)

theorem timeTold_raised (s : State) (v before m : Nat) : Raised s (s.timeTold v before m) 0x48 9 := by
  have hsent : SameWords ((s.timeCounted v).event 0x48 9) (s.timeTold v before m) [] := (SameWords.refl _ _).sendPacket rfl _ _ _ _
  rw [Raised, hsent _ List.not_mem_nil, State.reg_event_self, timeCounted_sameWords s v _ (by decide)]

/-- TIME set by a packet of a mode (R344): the set itself, bit 9 of TAB and the event packet. -/
theorem setTime_some_sets (s : State) (v m : Nat) :
    let t := s.setTime v (some m)
    TimeSetTo s t v ∧ (∃ e ∈ t.link.qB, e.dt = 0x39 ∧ e.stamp = s.time / 10 ∧
      e.payload = [w36 (0x02 * 2 ^ 24 + m)] ++ halves (s.time / 10) ++ halves (t.time / 10)) ∧
    Raised s t 0x48 9 ∧ SameWords s t [TIME.STAT, hdr 0x06 3, hdr 0x48 3] := by
  intro t
  have hset : TimeSetTo s t v := by
    have h := (timeTold_shown s v s.timeNs m).setTo
    rwa [← setTime_some] at h
  obtain ⟨link, hlink, hqB⟩ := heartbeat_eq (s.timeTold v s.timeNs m)
  have ht : t = { s.timeTold v s.timeNs m with link := link } := (setTime_some s v m).trans hlink
  have hnow : (s.timeCounted v).time = t.time := by
    rw [State.timeCounted, State.event_time, State.incF_time]
    exact hset.1.symm
  obtain ⟨e, hin, hdt, hstamp, hpay⟩ := timeTold_packet s v s.timeNs m
  refine ⟨hset, ⟨e, ?_, hdt, hstamp, hpay.trans ?_⟩, ?_, ?_⟩
  · rw [ht]
    exact hqB ▸ hin
  · rw [State.timeNs, State.timeNs, hnow]
  · have hregs : t.regs = (s.timeTold v s.timeNs m).regs := by rw [ht]
    exact (State.reg_congr hregs _).trans (timeTold_raised s v s.timeNs m)
  · exact heartbeat_sameWords (((timeCounted_sameWords s v).mono (by simp)).trans ((timeTold_sameWords s v s.timeNs m).mono (by simp)))

end

section
variable {s : State}

/-- A field that is the whole word. -/
theorem f_whole (s : State) (a : Nat) : s.f ⟨a, 0, 32⟩ = (s.reg a).toNat := by
  change (s.reg a).toNat / 2 ^ 0 % 2 ^ 32 = _
  rw [Nat.pow_zero, Nat.div_one, Nat.mod_eq_of_lt (s.reg a).isLt]

theorem timeSetValue_eq (s : State) : s.timeSetValue = s.f TIME.SET_HI.VALUE * 2 ^ 32 + s.f TIME.SET_LO.VALUE := by
  rw [State.timeSetValue, ← f_whole, ← f_whole]
  rfl

theorem setTime_mod {v w : Nat} (h : v % timeModulus = w % timeModulus) (mode : Option Nat) : s.setTime v mode = s.setTime w mode := by
  unfold State.setTime
  rw [h]

/-- An offset counts modulo 2^64 ns (R107). -/
theorem setTime_timePlus (s : State) (v : Nat) (mode : Option Nat) : s.setTime (s.timePlus v) mode = s.setTime (s.time + 10 * v) mode := by
  refine setTime_mod ?_ mode
  rw [State.timePlus, timeModulus]
  omega

theorem timeCmd_set {cmd : Nat} (h : cmd = 1) : s.timeCmd cmd = s.setTime (10 * s.timeSetValue) none := by
  unfold State.timeCmd
  split
  case h_1 => rfl
  case h_4 hne _ _ => exact absurd h hne
  all_goals omega

theorem timeCmd_offset {cmd : Nat} (h : cmd = 3) : s.timeCmd cmd = s.setTime (s.timePlus s.timeSetValue) none := by
  unfold State.timeCmd
  split
  case h_3 => rfl
  case h_4 _ _ hne => exact absurd h hne
  all_goals omega

end

/-- Settles O17: every set is `setTime` (`setTime_none_sets` by register, `setTime_some_sets` by packet), an offset the sum modulo
2^64 ns (`setTime_timePlus`); a packet that is not accepted leaves the state (`accept_not`). -/
theorem timeCommands : Obligations.TimeCommands := by
  refine ⟨fun s => ?_, fun s => ?_, fun s => ?_, fun rx v el s h => ?_, fun rx v s h => ?_,
    fun rx v s h => ?_, fun rx s h => ?_, fun rx v el s h => ?_⟩
  · have hrun : exec .timeCmdSet s = .next (s.timeCmd 1) := rfl
    rw [timeCmd_set rfl] at hrun
    rw [← timeSetValue_eq]
    exact ⟨_, hrun, setTime_none_sets s _⟩
  · have hrun : exec .timeCmdOffset s = .next (s.timeCmd 3) := rfl
    rw [timeCmd_offset rfl, setTime_timePlus] at hrun
    rw [← timeSetValue_eq]
    exact ⟨_, hrun, setTime_none_sets s _⟩
  · rw [← timeSetValue_eq]
    rfl
  · have ht := (accept_received s rx).time
    obtain ⟨hset, ⟨e, hin, hdt, hstamp, hpay⟩, hraised, hwords⟩ := setTime_some_sets (s.accept rx).1 (10 * v.toNat + el) 0
    rw [ht] at hstamp hpay
    exact ⟨_, e, congrArg Host.Outcome.next (if_pos h), hset, hin, hdt, hstamp, hpay, hraised, hwords⟩
  · have ht := (accept_received s rx).time
    have hplus := setTime_timePlus (s.accept rx).1 v.toNat (some 2)
    rw [ht] at hplus
    obtain ⟨hset, ⟨e, hin, hdt, hstamp, hpay⟩, hraised, hwords⟩ := setTime_some_sets (s.accept rx).1 (s.time + 10 * v.toNat) 2
    rw [ht] at hstamp hpay
    exact ⟨_, e, congrArg Host.Outcome.next ((if_pos h).trans hplus), hset, hin, hdt, hstamp, hpay, hraised, hwords⟩
  · exact congrArg Host.Outcome.next (if_pos h)
  · exact ⟨_, congrArg Host.Outcome.next (if_pos h), State.f_addF_self _ _ _ (by decide), (SameWords.refl _ _).setF _ (by decide), rfl⟩
  · have hs := accept_not h
    have hif {t : State} : (if (s.accept rx).2 then t else (s.accept rx).1) = s := (if_neg (by rw [h]; decide)).trans hs
    exact ⟨congrArg Host.Outcome.next hif, congrArg Host.Outcome.next hif, congrArg Host.Outcome.next hif, congrArg Host.Outcome.next hif⟩

end Sys2Proof.Machine
end


section
/-! SUPPORT. Global commits (R106): requests posted on several pages at once, and refusals on several pages. -/

namespace Sys2Proof.Machine

section
variable {s t u : State} {p q : Nat} {src : Port} {b : Nat}

/-! ## Requests on several pages -/

/-- The request that a global commit posts on a page. -/
def globalRequest (src : Port) (b p : Nat) : CommitReq :=
  { page := p, boundary := b, global := true, armed := false, ports := [], src := portSrc src }

theorem lidarPage_apart (h : lidarPage p = true) : camOf p = none ∧ p ≠ 0x44 := by
  simp only [lidarPage, Bool.or_eq_true, Bool.and_eq_true, decide_eq_true_eq, beq_iff_eq] at h
  exact ⟨if_neg (by omega), by omega⟩

/-- What requests waiting on some pages leave alone: everything but the header words named and the laser bus. -/
structure RequestsWait (s t : State) (rs : List CommitReq) (ws : List Nat) : Prop where
  commits : t.commits = rs
  words : SameWords s t ws
  memory : SameMemory s t
  shadow : t.shadow = s.shadow
  latched : t.latched = s.latched
  time : t.time = s.time
  ispHeld : t.ispHeld = s.ispHeld

theorem RequestsWait.setF {rs : List CommitReq} {ws : List Nat} (h : RequestsWait s t rs ws) {x : Fld} (hx : x.addr ∈ ws) (v : Nat) :
    RequestsWait s (t.setF x v) rs ws := by
  obtain ⟨hc, hw, hm, hs, hl, ht, hi⟩ := h
  exact ⟨hc, hw.setF v hx, hm, hs, hl, ht, hi⟩

theorem RequestsWait.update {rs : List CommitReq} {ws : List Nat} (h : RequestsWait s t rs ws) (cs : List CommitReq) (ldb : Ldb) :
    RequestsWait s { t with commits := cs, ldb := ldb } cs ws := by
  obtain ⟨-, hw, hm, hs, hl, ht, hi⟩ := h
  exact ⟨rfl, hw, hm, hs, hl, ht, hi⟩

/-- A request accepted joins the others behind them, where its page has none yet (R24). -/
theorem RequestsWait.accept {rs : List CommitReq} {ws : List Nat} (h : RequestsWait s t rs ws) {r : CommitReq} (h44 : r.page ≠ 0x44)
    (hnew : r.page ∉ rs.map (·.page)) (hw : hdr r.page 8 ∈ ws) : RequestsWait s (t.acceptRequest r) (rs ++ [r]) ws := by
  obtain ⟨ldb, e⟩ := acceptRequest_eq (r := r) t rfl h44
  have hkeep : (t.commits.filter fun c => c.page != r.page) = rs := by
    rw [h.commits, List.filter_eq_self]
    intro c hcm
    have hne : c.page ≠ r.page := fun he => hnew (he ▸ List.mem_map_of_mem hcm)
    simpa using hne
  rw [e, hkeep]
  exact (h.setF (x := ⟨hdr r.page 8, 9, 1⟩) hw 0).update _ ldb

theorem RequestsWait.acceptAll {ws : List Nat} (new : List CommitReq) : ∀ {t rs}, RequestsWait s t rs ws → (∀ r ∈ new, r.page ≠ 0x44) →
    (rs.map (·.page) ++ new.map (·.page)).Nodup → (∀ r ∈ new, hdr r.page 8 ∈ ws) →
    RequestsWait s (new.foldl (fun s r => s.acceptRequest r) t) (rs ++ new) ws := by
  induction new with
  | nil => intro t rs h _ _ _; rwa [List.append_nil]
  | cons r new ih =>
    intro t rs h h44 hnd hw
    have hsplit : (rs.map (·.page) ++ [r.page]) ++ new.map (·.page) = rs.map (·.page) ++ (r :: new).map (·.page) := by simp
    have hnew : r.page ∉ rs.map (·.page) := fun hm => (List.nodup_append.1 hnd).2.2 _ hm _ (by simp) rfl
    have hnext := ih (h.accept (h44 r (by simp)) hnew (hw r (by simp))) (fun r' hr' => h44 r' (List.mem_cons_of_mem _ hr'))
      (by rw [List.map_append]; exact hsplit ▸ hnd) (fun r' hr' => hw r' (List.mem_cons_of_mem _ hr'))
    rwa [List.append_assoc] at hnext

/-- Requests of lidar pages with a boundary wait: nothing takes effect as they are accepted (R23, R24). -/
theorem acceptAll_waits {rs : List CommitReq} {ws : List Nat} (hpost : RequestsWait s (rs.foldl (fun s r => s.acceptRequest r) t) rs ws)
    (hl : ∀ r ∈ rs, lidarPage r.page = true) (hb : ∀ r ∈ rs, r.boundary ≠ 0) (hheld : s.ispHeld = none) :
    RequestsWait s ((t.acceptAll rs).idleCommits).postHeld rs ws := by
  rw [State.acceptAll]
  generalize rs.foldl (fun s r => s.acceptRequest r) t = u at *
  have hpages : ∀ c ∈ u.commits, camOf c.page = none ∧ c.page ≠ 0x44 := fun c hc => lidarPage_apart (hl c (hpost.commits ▸ hc))
  have hdue : rs.filter u.dueNow = [] := List.filter_eq_nil_iff.2 fun r hr => by simp [State.dueNow, hl r hr, hb r hr]
  rw [hdue, ispNow_nil fun c hc => (hpages c hc).2, List.map_nil, takeEffect_nil fun c hc => (hpages c hc).2,
    idleCommits_eq_self hpages, postHeld_eq_self (hpost.ispHeld.trans hheld)]
  exact hpost

/-- The pages with a shadow written are told by their GEN words. -/
theorem dirtyPages_setBoundary (s : State) (b : Nat) : (s.setF CHIP.GCOMMIT.BOUNDARY b).dirtyPages = s.dirtyPages := by
  have h (p : Nat) : (s.setF CHIP.GCOMMIT.BOUNDARY b).reg (hdr p 9) = s.reg (hdr p 9) :=
    State.reg_setF_ne _ _ _ (by simp only [hdr, CHIP.GCOMMIT.BOUNDARY, CHIP.GCOMMIT]; omega)
  simp only [State.dirtyPages, h]

theorem dirtyPages_nodup (s : State) : s.dirtyPages.Nodup := List.nodup_range.filter _

/-- A global commit whose checks all pass (R106). -/
theorem globalCommit_posts (hc : s.commits = []) (hheld : s.ispHeld = none) (hb : b ≠ 0) (hl : ∀ p ∈ s.dirtyPages, lidarPage p = true)
    (hj : ∀ p ∈ s.dirtyPages, s.judgeRequest p b false s.dirtyPages = none) :
    RequestsWait s (s.globalCommit (portSrc src) b) (s.dirtyPages.map (globalRequest src b)) (s.dirtyPages.map fun p => hdr p 8) := by
  have hbad : s.dirtyPages.filterMap (fun p => (s.judgeRequest p b false s.dirtyPages).map fun c => (p, c)) = [] :=
    List.filterMap_eq_nil_iff.2 fun p hp => by rw [hj p hp]; rfl
  rw [State.globalCommit]
  dsimp only
  rw [hbad]
  have hnd := dirtyPages_nodup s
  generalize s.dirtyPages = ps at *
  have hbound (qs : List Nat) : ∀ {t}, (∀ p ∈ qs, p ∈ ps) → RequestsWait s t [] (ps.map fun p => hdr p 8) →
      RequestsWait s (qs.foldl (fun s p => s.setF ⟨hdr p 8, 0, 2⟩ b) t) [] (ps.map fun p => hdr p 8) := by
    induction qs with
    | nil => exact fun _ h => h
    | cons p qs ih =>
      exact fun hq h => ih (fun p' hp' => hq p' (List.mem_cons_of_mem _ hp')) (h.setF (List.mem_map_of_mem (hq p (by simp))) b)
  have hstart : RequestsWait s s [] (ps.map fun p => hdr p 8) := ⟨hc, fun _ _ => rfl, fun _ => rfl, rfl, rfl, rfl, rfl⟩
  have hpages : (ps.map (globalRequest src b)).map (·.page) = ps := by rw [List.map_map]; exact List.map_id ps
  change RequestsWait s ((State.acceptAll _ (ps.map (globalRequest src b))).idleCommits).postHeld _ _
  refine acceptAll_waits ((hbound ps (fun _ hp => hp) hstart).acceptAll _ ?_ ?_ ?_) ?_ ?_ hheld
  · exact List.forall_mem_map.2 fun p hp => (lidarPage_apart (hl p hp)).2
  · rw [hpages]; exact hnd
  · exact List.forall_mem_map.2 fun p hp => List.mem_map_of_mem (f := fun p => hdr p 8) hp
  · exact List.forall_mem_map.2 fun p hp => hl p hp
  · exact List.forall_mem_map.2 fun p hp => hb

/-! ## Refusals on several pages -/

/-- A page shows a refused request: COMMIT.REFUSED and COMMIT_REFUSED (R88). -/
def ShowsRefused (s : State) (p : Nat) : Prop := s.f ⟨hdr p 8, 9, 1⟩ = 1 ∧ (s.reg (hdr p 3)).getLsbD 29 = true

/-- Header words of two pages at different offsets. -/
theorem hdr_ne_hdr (p q : Nat) {i j : Nat} (hi : i < 0x400) (hj : j < 0x400) (h : i ≠ j) : hdr p i ≠ hdr q j := by
  unfold hdr
  omega

theorem getLsbD_event (h : (s.reg (hdr p 3)).getLsbD 29 = true) (q bit : Nat) : ((s.event q bit).reg (hdr p 3)).getLsbD 29 = true := by
  rw [State.reg_event]
  split
  · next e => rw [← e, BitVec.getLsbD_or, h, Bool.true_or]
  · exact h

theorem ShowsRefused.event (h : ShowsRefused s p) (q bit : Nat) : ShowsRefused (s.event q bit) p :=
  ⟨(State.f_event s q bit (hdr_ne_hdr p q (by decide) (by decide) (by decide))).trans h.1, getLsbD_event h.2 q bit⟩

theorem ShowsRefused.errAt (h : ShowsRefused s p) (q c src pg off : Nat) : ShowsRefused (s.errAt q c src pg off) p := by
  rw [State.errAt_eq]
  have hw : SameWords s ((s.latchErr q c src pg off).incF ⟨hdr q 7, 0, 16⟩) [hdr q 6, hdr q 7] :=
    ((State.latchErr_sameWords s q c src pg off).mono (by simp)).setF _ (by simp)
  have hne {i : Nat} (hi : i < 6) : hdr p i ∉ [hdr q 6, hdr q 7] := by
    simp only [List.mem_cons, List.not_mem_nil, or_false, not_or]
    exact ⟨hdr_ne_hdr p q (by omega) (by decide) (by omega), hdr_ne_hdr p q (by omega) (by decide) (by omega)⟩
  have h8 : hdr p 8 ∉ [hdr q 6, hdr q 7] := by
    simp only [List.mem_cons, List.not_mem_nil, or_false, not_or]
    exact ⟨hdr_ne_hdr p q (by decide) (by decide) (by decide), hdr_ne_hdr p q (by decide) (by decide) (by decide)⟩
  exact ShowsRefused.event ⟨(hw.f h8).trans h.1, (hw _ (hne (i := 3) (by decide))).symm ▸ h.2⟩ q 31

/-- A refusal shows on its page, and those of other pages stay. -/
theorem commitRefused_shows (s : State) (q c src : Nat) : ShowsRefused (s.commitRefused q c src) q := by
  have h := commitRefused_shown s q c src
  refine ⟨h.refused, ?_⟩
  rw [h.intStat, BitVec.getLsbD_or]
  simp

theorem ShowsRefused.commitRefused (h : ShowsRefused s p) (q c src : Nat) : ShowsRefused (s.commitRefused q c src) p := by
  by_cases hpq : p = q
  · exact hpq ▸ commitRefused_shows s p c src
  · refine ShowsRefused.event (ShowsRefused.errAt ⟨?_, ?_⟩ q c src q 8) q 29
    · rw [State.f_setF_word _ _ _ _ (by simp only [hdr]; omega)]
      exact h.1
    · rw [State.reg_setF_ne _ _ _ (hdr_ne_hdr p q (by decide) (by decide) (by decide))]
      exact h.2

/-- What refusals can change: header words, and what risen summaries send. -/
structure OnlyHeaders (s t : State) : Prop where
  only : OnlyEvents s t
  words : ∀ a, 0x10 ≤ a % 0x400 → t.reg a = s.reg a

theorem OnlyHeaders.trans (h : OnlyHeaders s t) (h' : OnlyHeaders t u) : OnlyHeaders s u :=
  ⟨h.only.trans h'.only, fun a ha => (h'.words a ha).trans (h.words a ha)⟩

theorem OnlyHeaders.of_words {ws : List Nat} (ho : OnlyEvents s t) (hw : SameWords s t ws) (hh : ∀ a ∈ ws, a % 0x400 < 0x10) :
    OnlyHeaders s t :=
  ⟨ho, fun a ha => hw a fun hm => absurd (hh a hm) (Nat.not_lt.2 ha)⟩

theorem hdr_mod (p : Nat) {i : Nat} (hi : i < 0x400) : hdr p i % 0x400 = i := by
  unfold hdr
  omega

theorem commitRefused_onlyHeaders (s : State) (q c src : Nat) : OnlyHeaders s (s.commitRefused q c src) := by
  have h := commitRefused_shown s q c src
  exact .of_words h.events h.words (by simp [hdr_mod])

theorem errAt_onlyHeaders (s : State) (q c src pg off : Nat) : OnlyHeaders s (s.errAt q c src pg off) :=
  .of_words (State.errAt_onlyEvents ..) (State.errAt_sameWords s q c src pg off) (by simp [hdr_mod])

theorem event_onlyHeaders (s : State) (q bit : Nat) : OnlyHeaders s (s.event q bit) :=
  .of_words ((OnlyEvents.refl s).event q bit) ((SameWords.refl s [hdr q 3]).event bit (by simp)) (by simp [hdr_mod])

/-- Refusals on several pages show on each of them. -/
theorem foldl_commitRefused (src : Nat) (bad : List (Nat × Nat)) : ∀ s : State,
    let t := bad.foldl (fun s x => s.commitRefused x.1 x.2 src) s
    OnlyHeaders s t ∧ (∀ p, ShowsRefused s p → ShowsRefused t p) ∧ ∀ x ∈ bad, ShowsRefused t x.1 := by
  induction bad with
  | nil => exact fun s => ⟨⟨OnlyEvents.refl s, fun _ _ => rfl⟩, fun _ h => h, fun _ h => absurd h List.not_mem_nil⟩
  | cons x bad ih =>
    intro s
    obtain ⟨honly, hkeep, hshow⟩ := ih (s.commitRefused x.1 x.2 src)
    refine ⟨(commitRefused_onlyHeaders ..).trans honly, fun p h => hkeep p (h.commitRefused ..), fun y hy => ?_⟩
    rcases List.mem_cons.1 hy with rfl | hy
    · exact hkeep _ (commitRefused_shows ..)
    · exact hshow y hy

/-- A global commit with a failing check (R106): every page that fails shows it, and CHIP the error. -/
theorem globalCommit_refused {src c : Nat} (hq : q ∈ s.dirtyPages) (hj : s.judgeRequest q b false s.dirtyPages = some c) :
    let t := s.globalCommit src b
    OnlyHeaders s t ∧ ShowsRefused t q ∧ (t.reg (hdr 0 3)).getLsbD 31 = true := by
  rw [State.globalCommit]
  dsimp only
  have hbad : (q, c) ∈ s.dirtyPages.filterMap (fun p => (s.judgeRequest p b false s.dirtyPages).map fun c => (p, c)) :=
    List.mem_filterMap.2 ⟨q, hq, by rw [hj]; rfl⟩
  generalize s.dirtyPages.filterMap (fun p => (s.judgeRequest p b false s.dirtyPages).map fun c => (p, c)) = bad at *
  cases bad with
  | nil => exact absurd hbad List.not_mem_nil
  | cons x bad =>
    obtain ⟨honly, -, hshow⟩ := foldl_commitRefused src (x :: bad) s
    refine ⟨honly.trans ((errAt_onlyHeaders ..).trans (event_onlyHeaders ..)), ((hshow _ hbad).errAt ..).event .., ?_⟩
    dsimp only
    rw [State.reg_event_self, show (State.errAt _ 0 _ _ _ _).reg (hdr 0 3) = _ from State.errAt_intStat .., BitVec.getLsbD_or,
      BitVec.getLsbD_or]
    simp

end

/-- Settles O24: requests that pass are accepted one after the other and wait (`globalCommit_posts`); where a check fails, each
failing page shows its refusal and CHIP the error (`globalCommit_refused`). -/
theorem globalCommits : Obligations.GlobalCommits := by
  refine ⟨fun src b s hc hheld hb hl hj => ?_, fun src b q c s hq hj => ?_⟩
  · have hdirty := dirtyPages_setBoundary s b.val
    obtain ⟨hcommits, hwords, hmem, hsh, hlat, ht, -⟩ := globalCommit_posts (src := src) (s := s.setF CHIP.GCOMMIT.BOUNDARY b.val)
      hc hheld hb (hdirty ▸ hl) (by rw [hdirty]; exact hj)
    rw [hdirty] at hcommits hwords
    have hset : SameWords s (s.setF CHIP.GCOMMIT.BOUNDARY b.val) (CHIP.GCOMMIT :: s.dirtyPages.map fun p => hdr p 8) :=
      (SameWords.refl s _).setF _ (List.mem_cons_self ..)
    have hout : CHIP.GCOMMIT ∉ s.dirtyPages.map fun p => hdr p 8 := fun hm => by
      obtain ⟨p, -, hp⟩ := List.mem_map.1 hm
      simp only [hdr, CHIP.GCOMMIT] at hp
      omega
    refine ⟨_, rfl, hcommits, ?_, hset.trans (hwords.mono fun a ha => List.mem_cons_of_mem _ ha), hmem, hsh, hlat, ht⟩
    exact (hwords.f hout).trans ((State.f_setF_self _ _ _ (by decide)).trans (Nat.mod_eq_of_lt b.isLt))
  · have hdirty := dirtyPages_setBoundary s b.val
    obtain ⟨⟨honly, hwords⟩, ⟨hrefused, hint⟩, herr⟩ := globalCommit_refused (src := portSrc src) (s := s.setF CHIP.GCOMMIT.BOUNDARY b.val)
      (hdirty ▸ hq) (by rw [hdirty]; exact hj)
    have hall : OnlyEvents s ((s.setF CHIP.GCOMMIT.BOUNDARY b.val).globalCommit (portSrc src) b.val) :=
      ((OnlyEvents.refl s).setF _ _).trans honly
    refine ⟨_, rfl, ?_, hrefused, hint, herr, fun a ha hne => (hwords a ha).trans (State.reg_setF_ne _ _ _ hne), hall⟩
    obtain ⟨_, _, _, _, he⟩ := onlyEvents_iff.1 hall
    change State.commits (State.globalCommit _ _ _) = _
    rw [he]

end Sys2Proof.Machine
end


section
/-! SUPPORT. INT_FORCE and the merging of event packets (R84, R104). -/

namespace Sys2Proof.Machine

section
variable {s : State}

/-! ## INT_STAT written -/

theorem setIntStat_regs (s : State) (p : Nat) (v : Word) : (s.setIntStat p v).regs = (s.setReg (hdr p 3) v).regs := by
  unfold State.setIntStat
  dsimp only
  split
  · exact State.summaryRose_regs ..
  · rfl

theorem setIntStat_onlyEvents (s : State) (p : Nat) (v : Word) : OnlyEvents s (s.setIntStat p v) := by
  unfold State.setIntStat
  dsimp only
  split
  · exact ((OnlyEvents.refl s).setReg _ _).trans (onlyEvents_summaryRose _ p)
  · exact (OnlyEvents.refl s).setReg _ _

theorem setIntStat_sameWords (s : State) (p : Nat) (v : Word) : SameWords s (s.setIntStat p v) [hdr p 3] := fun a ha => by
  rw [State.reg_congr (setIntStat_regs s p v)]
  exact State.reg_setReg_ne s v (fun h => ha (by rw [h]; exact List.mem_singleton_self _))

theorem reg_setIntStat_self (s : State) (p : Nat) (v : Word) : (s.setIntStat p v).reg (hdr p 3) = v := by
  rw [State.reg_congr (setIntStat_regs s p v), State.reg_setReg_self]

theorem reg_setReg_reg (s : State) (a b : Nat) : (s.setReg a (s.reg a)).reg b = s.reg b := by
  by_cases h : b = a
  · rw [h, State.reg_setReg_self]
  · exact State.reg_setReg_ne s _ h

/-- INT_STAT written as it stands: the summary does not rise. -/
theorem setIntStat_same (s : State) (p : Nat) : s.setIntStat p (s.reg (hdr p 3)) = s.setReg (hdr p 3) (s.reg (hdr p 3)) := by
  have hsum : (s.setReg (hdr p 3) (s.reg (hdr p 3))).summary p = s.summary p := by
    simp only [State.summary, reg_setReg_reg]
  unfold State.setIntStat
  dsimp only
  rw [hsum]
  simp

/-! ## INT_FORCE (R84) -/

theorem bitOf_eq_testBit (v k : Nat) : bitOf v k = v.testBit k := by
  rw [bitOf, bitsOf, Nat.pow_one, Nat.testBit_eq_decide_div_mod_eq]
  rfl

/-- The events forced, ERR left out. -/
theorem forced_events {bits : BitVec 32} (h : bits.getLsbD 31 = false) (m : Nat) :
    BitVec.ofNat 32 ((bits.toNat &&& m) &&& 0x7FFFFFFF) = bits &&& BitVec.ofNat 32 m := by
  refine BitVec.eq_of_getLsbD_eq fun i hi => ?_
  rw [BitVec.getLsbD_ofNat, BitVec.getLsbD_and, BitVec.getLsbD_ofNat, Nat.testBit_and, Nat.testBit_and, BitVec.testBit_toNat,
    show (0x7FFFFFFF : Nat) = 2 ^ 31 - 1 from rfl, Nat.testBit_two_pow_sub_one]
  by_cases hlt : i < 31
  · simp [hlt, hi]
  · rw [show i = 31 by omega, h]
    rfl

theorem intForce_events {src p : Nat} {bits : BitVec 32} (hp : assigned p = true) (h : bits.getLsbD 31 = false) :
    s.intForce src p bits.toNat = s.setIntStat p (s.reg (hdr p 3) ||| (bits &&& BitVec.ofNat 32 (eventMask p))) := by
  unfold State.intForce
  rw [if_neg (by simp [hp])]
  dsimp only
  rw [forced_events h, bitOf_eq_testBit, Nat.testBit_and, BitVec.testBit_toNat, h, Bool.false_and]
  rfl

/-- ERR is among the events of every page. -/
theorem forced_err : ∀ p : Fin 256, 0x80000000 &&& eventMask p.val = 0x80000000 := by decide +kernel

theorem intForce_err {src : Nat} {p : Fin 256} (hp : assigned p.val = true) :
    s.intForce src p.val (0x80000000 : BitVec 32).toNat = (s.setReg (hdr p.val 3) (s.reg (hdr p.val 3))).errAt p.val 0x0F src p.val 5 := by
  unfold State.intForce
  rw [if_neg (by simp [hp])]
  dsimp only
  rw [show (0x80000000 : BitVec 32).toNat &&& eventMask p.val = 0x80000000 from forced_err p,
    show s.reg (hdr p.val 3) ||| BitVec.ofNat 32 (0x80000000 &&& 0x7FFFFFFF) = s.reg (hdr p.val 3) from BitVec.or_zero, setIntStat_same]
  rfl

/-- An error raised on a state that reads as another is one of that other, where nothing else changed. -/
theorem ErrorRaised.of_same {t u : State} {c src a : Nat} (h : ErrorRaised t u c src a) (hreg : ∀ b, t.reg b = s.reg b) (ho : OnlyEvents s t) :
    ErrorRaised s u c src a := by
  obtain ⟨hraised, hcount, hcause, hwords, honly⟩ := h
  refine ⟨hraised.trans ?_, hcount.trans ?_, hcause.trans ?_, fun b hb => (hwords b hb).trans (hreg b), ho.trans honly⟩
  · rw [hreg]
  · rw [State.f, State.f, hreg]
  · rw [hreg, hreg]

theorem intForce_unassigned {src p bits : Nat} (hp : assigned p = false) : s.intForce src p bits = s := by
  unfold State.intForce
  rw [if_pos (by simp [hp])]

/-! ## Merged event packets (R104) -/

/-- The event packet of a page goes to class B, stamped with the present TIME. -/
theorem intEventPacket_queued (s : State) (p t : Nat) :
    ∃ e seqs, s.intEventPacket p t = { s with link := { s.link with qB := s.link.qB ++ [e], seqs := seqs } } ∧ e.dt = 0x39 ∧ e.vc = 8 ∧
      e.stamp = s.time / 10 ∧ e.payload = [w36 (0x01 * 2 ^ 24 + p), w36 (s.reg (hdr p 3)).toNat] ++ halves t := by
  obtain ⟨e, seqs, he, hdt, hvc, hst, hpay⟩ := enqueue_classB s (dt := 0x39) rfl 0 s.gen4 s.timeNs
    ([w36 (0x01 * 2 ^ 24 + p), w36 (s.reg (hdr p 3)).toNat] ++ halves t)
  exact ⟨e, seqs, congrArg Prod.fst he, hdt, hvc, hst, hpay⟩

/-- A merge period without a rising ends. -/
theorem mergeEnd_over {p : Fin 256} (hm : ∀ m ∈ s.host.merges, m.page = p.val → m.first = none) :
    execEventPacketMergeEnd p s = .next (s.setMerges (s.host.merges.filter fun m => m.page != p.val)) := by
  unfold execEventPacketMergeEnd
  dsimp only
  cases hfind : s.host.merges.find? fun m => m.page == p.val with
  | none =>
    have hkeep : (s.host.merges.filter fun m => m.page != p.val) = s.host.merges := by
      rw [List.filter_eq_self]
      intro m hmem
      simpa using List.find?_eq_none.1 hfind m hmem
    rw [hkeep]
    rfl
  | some m =>
    have hpage : m.page = p.val := by simpa using List.find?_some hfind
    dsimp only
    rw [hm m (List.mem_of_find?_eq_some hfind) hpage]

/-- The merge periods with that of a page begun again. -/
def State.mergesAgain (s : State) (p : Nat) : State :=
  s.setMerges ((s.host.merges.filter fun m => m.page != p) ++ [{ page := p, first := none }])

/-- The risings merged in a period are sent in one packet. -/
theorem mergeEnd_sends {p : Fin 256} {first : Nat} (hm : ∃ m ∈ s.host.merges, m.page = p.val)
    (hf : ∀ m ∈ s.host.merges, m.page = p.val → m.first = some first) :
    execEventPacketMergeEnd p s = .next ((s.mergesAgain p.val).intEventPacket p.val first) := by
  obtain ⟨m, hfind⟩ : ∃ m, (s.host.merges.find? fun m => m.page == p.val) = some m := by
    obtain ⟨m, hmem, hpage⟩ := hm
    exact Option.isSome_iff_exists.1 (List.find?_isSome.2 ⟨m, hmem, by simp [hpage]⟩)
  have hpage : m.page = p.val := by simpa using List.find?_some hfind
  unfold execEventPacketMergeEnd
  dsimp only
  rw [hfind]
  dsimp only
  rw [hf m (List.mem_of_find?_eq_some hfind) hpage]
  rfl

end

/-- Settles O21: INT_FORCE writes INT_STAT (`intForce_events`) or raises ERR (`intForce_err`); the end of a merge period sends the
risings merged (`intEventPacket_queued`). -/
theorem interruptWords : Obligations.InterruptWords := by
  refine ⟨fun src p bits s hp hb => ?_, fun src p s hp => ?_, fun src p bits s hp => ?_, fun p s hm => ?_, fun p first s hm hf => ?_⟩
  · exact ⟨_, congrArg Host.Outcome.next (intForce_events hp hb), reg_setIntStat_self .., setIntStat_sameWords s _ _, setIntStat_onlyEvents ..⟩
  · refine ⟨_, congrArg Host.Outcome.next (intForce_err hp), ?_⟩
    have hpage : hdr p.val 5 / 0x400 = p.val := by unfold hdr; omega
    have hoff : hdr p.val 5 % 0x400 = 5 := hdr_mod p.val (by decide)
    have h := State.err_raised (s.setReg (hdr p.val 3) (s.reg (hdr p.val 3))) 0x0F (portSrc src) (hdr p.val 5)
    rw [State.err, hpage, hoff] at h
    exact h.of_same (reg_setReg_reg s _) ((OnlyEvents.refl s).setReg _ _)
  · exact congrArg Host.Outcome.next (intForce_unassigned hp)
  · exact mergeEnd_over hm
  · obtain ⟨e, seqs, he, hdt, hvc, hstamp, hpay⟩ := intEventPacket_queued (s.mergesAgain p.val) p.val first
    refine ⟨_, e, mergeEnd_sends hm hf, ?_, hdt, hvc, hstamp, hpay, ?_, ?_⟩ <;> (rw [he]; rfl)

end Sys2Proof.Machine
end


section
/-! SUPPORT. Soft reset of a camera page while its port has a host transfer (R85, R86, R315). -/

namespace Sys2Proof.Machine

/-- CAM is on, no camera is enabled, and the host has started an I²C transfer on port 0 by a write of I2C_XFER with GO (R315). -/
def transferState : State := (State.reset.setDom 6 .on).i2cXfer (portSrc .spi) 0 0x80000000

theorem transferState_meets :
    assigned 0x40 = true ∧ heldEnabled 0x40 = false ∧ transferState.enabled 0x40 = false ∧ transferState.domOn (pageDomain 0x40) = true := by
  decide +kernel

/-- GO stands, and no RO field of its word holds it. -/
theorem transferState_go : (transferState.reg (CAM.I2C_XFER 0)).getLsbD 31 = true ∧ (accMask (CAM.I2C_XFER 0) .ro).getLsbD 31 = false := by
  decide +kernel

/-- The soft reset releases the pins of the port (R44), which ends the transfer and clears GO. -/
theorem transferState_released : ((transferState.softReset (portSrc .spi) 0x40).reg (CAM.I2C_XFER 0)).getLsbD 31 = false := by
  decide +kernel

/-- Refutes O22, by its clause that every field of the block words but the RO ones stays: in `transferState` a transfer that the host
has started is on the I²C bus of camera port 0. The soft reset of page 0x40 releases the pins of the port, and with them goes GO of
CAM.I2C_XFER, a W1S field that reads 1 while a transfer runs. -/
theorem not_softResets : ¬ Obligations.SoftResets := by
  unfold Obligations.SoftResets
  rintro ⟨-, hreset, -⟩
  obtain ⟨hassigned, hheld, henabled, hdom⟩ := transferState_meets
  obtain ⟨hgo, hro⟩ := transferState_go
  obtain ⟨t, hrun, -, -, hblock, -⟩ := hreset .spi 0x40 transferState hassigned hheld henabled hdom
  obtain rfl : transferState.softReset (portSrc .spi) 0x40 = t := Host.Outcome.next.inj hrun
  obtain ⟨-, hwords⟩ := hblock (by decide)
  have hstay := congrArg (BitVec.getLsbD · 31) (hwords (CAM.I2C_XFER 0) (by decide) (by decide))
  simp only [transferState_released, BitVec.getLsbD_or, BitVec.getLsbD_and, BitVec.getLsbD_not, hgo, hro] at hstay
  exact absurd hstay (by decide)

end Sys2Proof.Machine
end


section
/-! SUPPORT. Accesses of the host (R80, R81, R97): regions, and the words of a write within banks and of a read within a page. -/

namespace Sys2Proof.Machine

section
variable {s : State} {a n : Nat}

/-! ## Regions (R80, R81) -/

theorem memRegion_bank : memRegion a = 4 ↔ 0x400000 ≤ a ∧ a < 0x600000 := by
  unfold memRegion
  by_cases h : 0x400000 ≤ a ∧ a < 0x600000
  · exact iff_of_true (if_pos h) h
  · rw [if_neg h]
    exact iff_of_false (by split_ifs <;> decide) h

theorem regionOf_page (h : a < 0x40000) : regionOf a = 8 := if_pos h

theorem regionOf_bank (h : memRegion a = 4) : regionOf a = 4 := by
  obtain ⟨hlo, hhi⟩ := memRegion_bank.1 h
  rw [regionOf, if_neg (by omega), if_neg (by omega), if_neg (by omega), h]

theorem badRange_bank (hn : 0 < n) (h : ∀ i < n, memRegion (a + i) = 4) : badRange a n = false := by
  obtain ⟨-, hlast⟩ := memRegion_bank.1 (h (n - 1) (by omega))
  have hr : regionOf a = 4 := regionOf_bank (h 0 hn)
  have hend : ¬ 0x600000 < a + n := by omega
  simp only [badRange, regionEnd, hr, hend, decide_false, Bool.or_false]
  rfl

theorem badRange_page (h : a < 0x40000) (hn : a % 0x400 + n ≤ 0x400) : badRange a n = false := by
  have hr : regionOf a = 8 := regionOf_page h
  have hend : ¬ (a / 0x400 + 1) * 0x400 < a + n := by omega
  simp only [badRange, regionEnd, hr, hend, decide_false, Bool.or_false]
  rfl

theorem foldRefuses_not_fold (h : s.pwr.st ≠ .fold) : s.foldRefuses a = false := by
  have hst : (s.pwr.st == .fold) = false := beq_eq_false_iff_ne.2 h
  rw [State.foldRefuses, hst, Bool.false_and]

theorem foldRefuses_page (ha : a < 0x40000) (h : s.pwr.st = .fold → assigned (a / 0x400) = true ∧ pageDomain (a / 0x400) = 0) :
    s.foldRefuses a = false := by
  by_cases hst : s.pwr.st = .fold
  · obtain ⟨hp, hd⟩ := h hst
    simp [State.foldRefuses, regionOf_page ha, hp, hd]
  · exact foldRefuses_not_fold hst

theorem pageDomain_lt (p : Nat) : pageDomain p < 9 := by
  unfold pageDomain
  repeat' split
  all_goals decide

theorem regionDomain_lt (a : Nat) : regionDomain a < 9 := by
  unfold regionDomain
  split
  case h_7 =>
    split
    · exact pageDomain_lt _
    · decide
  all_goals decide

theorem gone_congr {t : State} (h : t.pwr = s.pwr) : t.gone = s.gone := by rw [State.gone, h, State.gone]

theorem mustWait_congr {t : State} (h : t.pwr = s.pwr) (a : Nat) : t.mustWait a = s.mustWait a := by
  simp only [State.mustWait, State.domOn, State.dom, State.goingOff, h]

theorem foldRefuses_congr {t : State} (h : t.pwr = s.pwr) (a : Nat) : t.foldRefuses a = s.foldRefuses a := by
  rw [State.foldRefuses, h, State.foldRefuses]

/-! ## Words (R97, R101) -/

theorem writeMemory_bank {src : Nat} {d : Word36} (h : memRegion a = 4) (ho : s.owner ((a - 0x400000) / 0x10000) < 2) :
    s.writeMemory src a d = (s.wr a d, false) := by
  have hopen : s.bankOpen a = true := decide_eq_true ho
  simp only [State.writeMemory, regionOf_bank h, hopen, if_true]

/-- The contents of memory replaced. -/
def State.withMemory (s : State) (mem : Cells 36) (ecc : List (Nat × Bool)) : State := { s with mem := mem, ecc := ecc }

/-- A write of words within banks that are open to the host writes exactly those words. -/
theorem writeWords_banks (src : Nat) (ws : List Word36) : ∀ {s : State} {a : Nat}, s.gone = false →
    (∀ i < ws.length, memRegion (a + i) = 4 ∧ s.owner ((a + i - 0x400000) / 0x10000) < 2) →
    ∃ mem ecc, s.writeWords src a ws = (s.withMemory mem ecc, {}) ∧
      (∀ i < ws.length, State.rd (s.withMemory mem ecc) (a + i) = ws.getD i 0) ∧
      ∀ b, b < a ∨ a + ws.length ≤ b → State.rd (s.withMemory mem ecc) b = s.rd b := by
  induction ws with
  | nil => exact fun _ _ => ⟨_, _, rfl, fun i hi => absurd hi (Nat.not_lt_zero i), fun _ _ => rfl⟩
  | cons d ds ih =>
    intro s a hg hbank
    obtain ⟨hfirst, hown⟩ := hbank 0 (by simp)
    rw [Nat.add_zero] at hfirst hown
    obtain ⟨mem, ecc, he, hin, hout⟩ := ih (s := s.wr a d) (a := a + 1) ((gone_congr (State.wr_pwr ..)).trans hg) fun i hi => by
      have h := hbank (i + 1) (by simpa using hi)
      rwa [show a + (i + 1) = a + 1 + i by omega] at h
    refine ⟨mem, ecc, ?_, fun i hi => ?_, fun b hb => ?_⟩
    · have hpage : ¬ a < 0x40000 := by have := (memRegion_bank.1 hfirst).1; omega
      rw [State.writeWords, if_neg (by simp [hg]), if_neg hpage, writeMemory_bank hfirst hown]
      dsimp only
      rw [he]
      rfl
    · cases i with
      | zero => exact (hout a (.inl (by omega))).trans (State.rd_wr_self ..)
      | succ i =>
        have h := hin i (by simpa using hi)
        rwa [show a + 1 + i = a + (i + 1) by omega] at h
    · rw [List.length_cons] at hb
      exact (hout b (by omega)).trans (State.rd_wr_ne s d (by omega))

/-- A read of register words returns their values with parity and changes nothing (R83). -/
theorem readWords_page (s : State) (src : Nat) (n : Nat) : ∀ {a : Nat}, a + n ≤ 0x40000 →
    s.readWords src a n = (s, { words := (List.range n).map fun i => withParity (s.view (a + i)) }) := by
  induction n with
  | zero => exact fun _ => rfl
  | succ n ih =>
    intro a ha
    have hshift : (List.range n).map (fun i => withParity (s.view (a + 1 + i))) =
        (List.range n).map (fun i => withParity (s.view (a + (i + 1)))) :=
      List.map_congr_left fun i _ => by rw [show a + 1 + i = a + (i + 1) by omega]
    rw [State.readWords, State.readWord, if_pos (by omega)]
    dsimp only
    rw [ih (by omega), List.range_succ_eq_map, List.map_cons, List.map_map, hshift]
    rfl

end

end Sys2Proof.Machine
end


section
/-! SUPPORT. SPI frames (R95-R100): what a frame does by the row of the status table that it meets. -/

namespace Sys2Proof.Machine

section
variable {s : State} {cmd : BitVec 8} {addr : BitVec 24} {ws : List Word36} {crc : BitVec 8}

theorem spiCount_eq (cmd : BitVec 8) : spiCount cmd = cmd.toNat % 64 + 1 := by
  rw [spiCount, bitsOf, Nat.pow_zero, Nat.div_one]
  rfl

theorem spiOp_eq (cmd : BitVec 8) : spiOp cmd = cmd.toNat / 64 := by
  have h := cmd.isLt
  rw [spiOp, bitsOf]
  omega

/-! ## The port (R95, R100) -/

theorem spiTaken_answers (h : s.spiTaken = true) : s.spiAnswers = true := (Bool.and_eq_true_iff.1 h).1

theorem spiTaken_gone (h : s.spiTaken = true) : s.gone = false := by
  have hgone := spiTaken_answers h
  rwa [State.spiAnswers, Bool.not_eq_true'] at hgone

theorem spiStatus_eq (h : s.gone = false) (st : Nat) : s.spiStatus st = s.setF HOST.LAST.SPI_STATUS st :=
  if_neg (by rw [h]; decide)

theorem spiStatus_shown (s : State) {st : Nat} (h : st < 2 ^ 8) : (s.setF HOST.LAST.SPI_STATUS st).f HOST.LAST.SPI_STATUS = st := by
  rw [State.f_setF_self _ _ _ (by decide)]
  exact Nat.mod_eq_of_lt h

theorem spiStatus_words (s : State) (st : Nat) : SameWords s (s.setF HOST.LAST.SPI_STATUS st) [HOST.LAST] :=
  SameWords.setF (fun _ _ => rfl) st (by decide)

/-- A write frame that is complete is taken as it stands (R97). -/
theorem writeFrame_complete (h : s.spiTaken = true) (hlen : ws.length = spiCount cmd) :
    exec (.spiWriteFrame cmd addr ws (some crc)) s = .next (s.spiWrite cmd addr ws crc.toNat).csRise := by
  change execSpiWriteFrame cmd addr ws (some crc) s = _
  unfold execSpiWriteFrame
  rw [if_neg (by rw [spiTaken_answers h]; decide)]
  dsimp only
  rw [if_neg (by omega), ← hlen, List.take_length]

theorem readFrame_taken (h : s.spiTaken = true) (late : List Nat) :
    exec (.spiReadFrame cmd addr late) s = .next (s.spiRead cmd addr late).csRise := by
  change execSpiReadFrame cmd addr late s = _
  unfold execSpiReadFrame
  rw [if_neg (by rw [spiTaken_answers h]; decide), if_neg (by rw [h]; decide)]

/-- A frame cut short (R97). -/
theorem writeFrame_cut (h : s.spiTaken = true) :
    exec (.spiWriteFrame cmd addr ws none) s = .next (s.csRise.incF HOST.SPI_ERR.TRUNC) := by
  change execSpiWriteFrame cmd addr ws none s = _
  unfold execSpiWriteFrame
  rw [if_neg (by rw [spiTaken_answers h]; decide), if_pos h]

/-! ## Before the words (R98) -/

theorem barrier_none {a n : Nat} (hbad : badRange a n = false) (hfold : s.foldRefuses a = false) (hwait : s.mustWait a = false) :
    s.barrier a n true = none := by
  simp [State.barrier, hbad, hfold, hwait]

theorem barrier_wait {a n : Nat} (hbad : badRange a n = false) (hfold : s.foldRefuses a = false) (hwait : s.mustWait a = true) :
    s.barrier a n true = some 0x81 := by
  simp [State.barrier, hbad, hfold, hwait]

/-- The status of a frame that the first rows of the table refuse. -/
def refusedStatus (a n : Nat) (cmdOk : Bool) : Nat := if !cmdOk then 0x83 else if badRange a n then 0x84 else 0x86

theorem barrier_refused {a n : Nat} {cmdOk : Bool} (h : cmdOk = false ∨ badRange a n = true ∨ s.foldRefuses a = true) :
    s.barrier a n cmdOk = some (refusedStatus a n cmdOk) := by
  unfold State.barrier refusedStatus
  cases cmdOk <;> cases hbad : badRange a n <;> simp_all

/-! ## Write frames -/

theorem spiWrite_refused {st : Nat} (hg : s.gone = false) (hcrc : crc.toNat = crc8 (crcHead cmd addr ++ crcData ws))
    (hb : s.barrier addr.toNat (spiCount cmd) (spiOp cmd == 1) = some st) (hst : st ≠ 0x81) :
    s.spiWrite cmd addr ws crc.toNat = s.setF HOST.LAST.SPI_STATUS st := by
  unfold State.spiWrite
  rw [hcrc]
  simp only [beq_self_eq_true, if_true, hb, State.waits, if_neg hst, spiStatus_eq hg]

theorem spiWrite_badCrc {c : Nat} (hg : s.gone = false) (hcrc : (crc8 (crcHead cmd addr ++ crcData ws) == c) = false)
    (hb : (s.incF HOST.SPI_ERR.CRC).barrier addr.toNat (spiCount cmd) (spiOp cmd == 1) = none) :
    s.spiWrite cmd addr ws c = (s.incF HOST.SPI_ERR.CRC).setF HOST.LAST.SPI_STATUS 0x82 := by
  have hgone : (s.incF HOST.SPI_ERR.CRC).gone = false := (gone_congr (State.incF_pwr ..)).trans hg
  unfold State.spiWrite
  simp only [hcrc, Bool.false_eq_true, if_false, hb, Bool.not_false, if_true, spiStatus_eq hgone]

theorem spiWrite_words {t : State} (hg : t.gone = false) (hcrc : crc.toNat = crc8 (crcHead cmd addr ++ crcData ws))
    (hb : s.barrier addr.toNat (spiCount cmd) (spiOp cmd == 1) = none) (hw : s.writeWords 1 addr.toNat ws = (t, {})) :
    s.spiWrite cmd addr ws crc.toNat = t.setF HOST.LAST.SPI_STATUS 0x80 := by
  unfold State.spiWrite
  rw [hcrc]
  simp only [beq_self_eq_true, if_true, hb, hw, Bool.not_true, Bool.false_eq_true, if_false, spiStatus_eq hg]

/-! ## Read frames -/

/-- What a read frame leaves (R98): its status, and what the port has sent. -/
def State.spiSent (s : State) (cmd : BitVec 8) (addr : BitVec 24) (st : Nat) (ws : List Word36) : State :=
  { s.setF HOST.LAST.SPI_STATUS st with
    host := { s.host with spiData := ws, spiEarly := st, spiCrc := crc8 (crcHead cmd addr ++ [(st, 8)] ++ crcData ws) } }

theorem spiReturn_eq (h : s.gone = false) (cmd : BitVec 8) (addr : BitVec 24) (st : Nat) (ws : List Word36) :
    s.spiReturn cmd addr st st ws = s.spiSent cmd addr st ws := by
  unfold State.spiReturn
  rw [spiStatus_eq h]
  rfl

theorem spiRead_page {late : List Nat} (hg : s.gone = false) (hop : spiOp cmd = 2) (ha : addr.toNat < 0x40000)
    (hn : addr.toNat % 0x400 + spiCount cmd ≤ 0x400) (hfold : s.foldRefuses addr.toNat = false) (hwait : s.mustWait addr.toNat = false) :
    s.spiRead cmd addr late =
      s.spiSent cmd addr 0x80 ((List.range (spiCount cmd)).map fun i => withParity (s.view (addr.toNat + i))) := by
  have hb : s.barrier addr.toNat (spiCount cmd) (spiOp cmd == 2) = none := by
    rw [hop]
    exact barrier_none (badRange_page ha hn) hfold hwait
  unfold State.spiRead
  simp only [hb, readWords_page s 1 (spiCount cmd) (a := addr.toNat) (by omega), lateWords, regionOf_page ha]
  exact spiReturn_eq hg ..

/-- A read of a domain that is off (R76, R98): the domain wakes. -/
theorem spiRead_wakes {late : List Nat} (hg : (s.accessWake (regionDomain addr.toNat)).gone = false) (hop : spiOp cmd = 2)
    (hbad : badRange addr.toNat (spiCount cmd) = false) (hfold : s.foldRefuses addr.toNat = false) (hwait : s.mustWait addr.toNat = true) :
    s.spiRead cmd addr late =
      (s.accessWake (regionDomain addr.toNat)).spiSent cmd addr 0x81 (List.replicate (spiCount cmd) 0) := by
  have hb : s.barrier addr.toNat (spiCount cmd) (spiOp cmd == 2) = some 0x81 := by
    rw [hop]
    exact barrier_wait hbad hfold hwait
  unfold State.spiRead
  simp only [hb, State.waits, if_true]
  exact spiReturn_eq hg ..

theorem gone_setDom (s : State) (d : Nat) (x : DomState) : (s.setDom d x).gone = s.gone := rfl

/-- An access to an off domain in READY and RUN clears its off request (R76). -/
theorem accessWake_off {d : Nat} (hst : s.pwr.st = .ready ∨ s.pwr.st = .run) (hoff : s.dom d = .off) (hgo : s.goingOff d = false) :
    s.accessWake d = (s.setF PWR.DOMAIN.OFF_REQ (putBits (s.f PWR.DOMAIN.OFF_REQ) d 1 0)).setDom d .waking := by
  have hsb : s.pwr.st ≠ .standby := by rcases hst with h | h <;> rw [h] <;> decide
  unfold State.accessWake
  simp only [hgo, Bool.false_eq_true, if_false, hoff, if_true, hsb]

theorem offReq_cleared (s : State) (d : Nat) :
    bitOf ((s.setF PWR.DOMAIN.OFF_REQ (putBits (s.f PWR.DOMAIN.OFF_REQ) d 1 0)).f PWR.DOMAIN.OFF_REQ) d = false := by
  rw [State.f_setF_self _ _ _ (by decide), bitOf_eq_testBit]
  change (_ % 2 ^ 9).testBit d = false
  rw [Nat.testBit_mod_two_pow, putBits_testBit, if_pos ⟨Nat.le_refl d, Nat.lt_succ_self d⟩, Nat.zero_testBit, Bool.and_false]

/-! ## What the end of a frame leaves -/

theorem f_csRise (s : State) (x : Fld) : s.csRise.f x = s.f x := rfl

theorem rd_csRise (s : State) (b : Nat) : s.csRise.rd b = s.rd b := rfl

theorem SameWords.csRise {t : State} {as : List Nat} (h : SameWords s t as) : SameWords s t.csRise as := h

/-- What the host port holds, replaced. -/
def State.withHost (s : State) (h : HostPort) : State := { s with host := h }

theorem f_withHost (s : State) (h : HostPort) (x : Fld) : (s.withHost h).f x = s.f x := rfl

theorem withHost_pwr (s : State) (h : HostPort) : (s.withHost h).pwr = s.pwr := rfl

theorem SameWords.withHost {t : State} {as : List Nat} (hw : SameWords s t as) (h : HostPort) : SameWords s (t.withHost h) as := hw

/-- The port after a timeout (R100). -/
def State.timedOut (s : State) : State := (s.incF HOST.SPI_ERR.TIMEOUT).withHost { s.host with spiAborted := true }

theorem timedOut_answers (h : s.spiAnswers = true) : s.timedOut.spiAnswers = true := by
  have hpwr : s.timedOut.pwr = s.pwr := (withHost_pwr ..).trans (State.incF_pwr ..)
  rwa [State.spiAnswers, gone_congr hpwr]

theorem f_spiSent (s : State) (st : Nat) (ws : List Word36) (x : Fld) :
    (s.spiSent cmd addr st ws).f x = (s.setF HOST.LAST.SPI_STATUS st).f x := rfl

theorem SameWords.spiSent {t : State} {as : List Nat} {st : Nat} (h : SameWords s (t.setF HOST.LAST.SPI_STATUS st) as) :
    SameWords s (t.spiSent cmd addr st ws) as := h

/-- Where only registers have changed, the end of the frame leaves them and the port. -/
theorem csRise_of_onlyRegs {t : State} (h : OnlyRegs s t) :
    t.csRise = { s with regs := t.csRise.regs, host := { s.host with csLow := false, spiAborted := false } } := by
  obtain ⟨regs, rfl⟩ : ∃ regs, t = { s with regs := regs } := ⟨_, h⟩
  rfl

theorem frame_f (s : State) (d : Nat) (x : DomState) (cmd : BitVec 8) (addr : BitVec 24) (st : Nat) (ws : List Word36) (y : Fld) :
    ((s.setDom d x).spiSent cmd addr st ws).csRise.f y = (s.setF HOST.LAST.SPI_STATUS st).f y := rfl

theorem frame_dom (s : State) (d : Nat) (x : DomState) (cmd : BitVec 8) (addr : BitVec 24) (st : Nat) (ws : List Word36) (e : Nat) :
    ((s.setDom d x).spiSent cmd addr st ws).csRise.dom e = (s.setDom d x).dom e := rfl

theorem frame_reg (s : State) (d : Nat) (x : DomState) (cmd : BitVec 8) (addr : BitVec 24) (st : Nat) (ws : List Word36) (a : Nat) :
    ((s.setDom d x).spiSent cmd addr st ws).csRise.reg a = (s.setF HOST.LAST.SPI_STATUS st).reg a := rfl

theorem frame_rd (s : State) (d : Nat) (x : DomState) (cmd : BitVec 8) (addr : BitVec 24) (st : Nat) (ws : List Word36) (a : Nat) :
    ((s.setDom d x).spiSent cmd addr st ws).csRise.rd a = s.rd a := rfl

theorem frame_shadow (s : State) (d : Nat) (x : DomState) (cmd : BitVec 8) (addr : BitVec 24) (st : Nat) (ws : List Word36) :
    ((s.setDom d x).spiSent cmd addr st ws).csRise.shadow = s.shadow := rfl

theorem frame_time (s : State) (d : Nat) (x : DomState) (cmd : BitVec 8) (addr : BitVec 24) (st : Nat) (ws : List Word36) :
    ((s.setDom d x).spiSent cmd addr st ws).csRise.time = s.time := rfl

/-- A frame within a transaction that has been aborted is ignored until its end (R100). -/
theorem readFrame_aborted (hans : s.spiAnswers = true) (hlow : s.host.csLow = true) (hab : s.host.spiAborted = true) (late : List Nat) :
    exec (.spiReadFrame cmd addr late) s = .next s.csRise := by
  have hnot : s.spiTaken = false := by rw [State.spiTaken, hans, hlow, hab]; rfl
  change execSpiReadFrame cmd addr late s = _
  unfold execSpiReadFrame
  rw [if_neg (by rw [hans]; decide), if_pos (by rw [hnot]; rfl)]

end

/-- Settles O18: each frame meets one row of the table of R98 (`spiWrite_words`, `spiWrite_badCrc`, `spiWrite_refused`, `spiRead_page`,
`spiRead_wakes`), is cut short (`writeFrame_cut`) or times out. -/
theorem spiFrames : Obligations.SpiFrames := by
  refine ⟨fun cmd addr ws crc s htaken hop hlen hcrc hbank hfold hwait => ?_, fun cmd addr late s htaken hop ha hn hfold hwait => ?_,
    fun cmd addr ws crc s htaken hop hlen hcrc hbad hfold hwait => ?_, fun cmd addr ws crc s htaken hlen hcrc hrow => ?_,
    fun cmd addr late s htaken hop hbad hst hdoms hoff hgo => ?_, fun cmd addr ws s htaken => ?_, fun s hans hlow hab => ?_⟩
  · rw [← spiCount_eq] at hlen
    have hgone := spiTaken_gone htaken
    have hcount := spiCount_eq cmd
    have hb : s.barrier addr.toNat (spiCount cmd) (spiOp cmd == 1) = none := by
      rw [spiOp_eq, hop]
      exact barrier_none (badRange_bank (by omega) fun i hi => (hbank i (by omega)).1) (foldRefuses_not_fold hfold) hwait
    obtain ⟨mem, ecc, hw, hin, hout⟩ := writeWords_banks 1 ws hgone hbank
    have hrun := writeFrame_complete (addr := addr) (crc := crc) htaken hlen
    rw [spiWrite_words (t := s.withMemory mem ecc) ((gone_congr rfl).trans hgone) hcrc hb hw] at hrun
    have hmem (b : Nat) : ((s.withMemory mem ecc).setF HOST.LAST.SPI_STATUS 0x80).csRise.rd b = (s.withMemory mem ecc).rd b :=
      (rd_csRise ..).trans (State.rd_congr (State.setF_mem ..) (State.setF_lost ..) b)
    exact ⟨_, hrun, (f_csRise ..).trans (spiStatus_shown _ (by decide)), fun i hi => (hmem _).trans (hin i hi),
      fun b hb => (hmem b).trans (hout b hb), (spiStatus_words _ _).csRise, rfl, rfl, rfl, rfl⟩
  · have hcount := spiCount_eq cmd
    have hrun := readFrame_taken (cmd := cmd) (addr := addr) htaken late
    rw [spiRead_page (spiTaken_gone htaken) ((spiOp_eq cmd).trans hop) ha (by omega) (foldRefuses_page ha hfold) hwait, hcount] at hrun
    exact ⟨_, hrun, (f_csRise ..).trans ((f_spiSent ..).trans (spiStatus_shown s (by decide))), rfl, rfl, rfl,
      ((spiStatus_words s _).spiSent).csRise, rfl⟩
  · rw [← spiCount_eq] at hlen
    have hb : (s.incF HOST.SPI_ERR.CRC).barrier addr.toNat (spiCount cmd) (spiOp cmd == 1) = none := by
      rw [spiOp_eq, hop]
      exact barrier_none (hlen ▸ hbad) ((foldRefuses_congr (State.incF_pwr ..) _).trans hfold)
        ((mustWait_congr (State.incF_pwr ..) _).trans hwait)
    have hrun := writeFrame_complete (addr := addr) (crc := crc) htaken hlen
    rw [spiWrite_badCrc (spiTaken_gone htaken) (beq_eq_false_iff_ne.2 (Ne.symm hcrc)) hb] at hrun
    refine ⟨_, hrun, (f_csRise ..).trans (spiStatus_shown _ (by decide)), (f_csRise ..).trans ?_, SameWords.csRise ?_,
      csRise_of_onlyRegs (((OnlyRegs.refl s).setF ..).setF ..)⟩
    · rw [State.f_setF_word _ _ _ _ (by decide)]
      exact State.f_addF_self _ _ _ (by decide)
    · exact SameWords.setF (SameWords.setF (fun _ _ => rfl) _ (by decide)) _ (by decide)
  · rw [← spiCount_eq] at hlen
    have hop : (spiOp cmd == 1) = false ↔ cmd.toNat / 64 ≠ 1 := by rw [spiOp_eq, beq_eq_false_iff_ne]
    have hb := barrier_refused (s := s) (a := addr.toNat) (n := spiCount cmd) (cmdOk := spiOp cmd == 1) (by rwa [hop, ← hlen])
    have hst : refusedStatus addr.toNat (spiCount cmd) (spiOp cmd == 1) =
        if cmd.toNat / 64 ≠ 1 then 0x83 else if badRange addr.toNat ws.length then 0x84 else 0x86 := by
      simp only [refusedStatus, hlen, Bool.not_eq_true', hop]
    rw [hst] at hb
    have hrun := writeFrame_complete (addr := addr) (crc := crc) htaken hlen
    rw [spiWrite_refused (spiTaken_gone htaken) hcrc hb (by split_ifs <;> decide)] at hrun
    exact ⟨_, hrun, (f_csRise ..).trans (spiStatus_shown s (by split_ifs <;> decide)), (spiStatus_words s _).csRise, rfl⟩
  · rw [← spiCount_eq] at *
    have hd := regionDomain_lt addr.toNat
    have hwake := accessWake_off hst hoff hgo
    have hfold : s.foldRefuses addr.toNat = false := foldRefuses_not_fold (by rcases hst with h | h <;> rw [h] <;> decide)
    have hwait : s.mustWait addr.toNat = true := by simp [State.mustWait, State.domOn, hoff]
    have hgone : (s.accessWake (regionDomain addr.toNat)).gone = false := by
      rw [hwake, gone_setDom, gone_congr (State.setF_pwr ..)]
      exact spiTaken_gone htaken
    have hrun := readFrame_taken (cmd := cmd) (addr := addr) htaken late
    rw [spiRead_wakes hgone ((spiOp_eq cmd).trans hop) hbad hfold hwait, hwake] at hrun
    refine ⟨_, hrun, (frame_f ..).trans (spiStatus_shown _ (by decide)), rfl, rfl, (frame_dom ..).trans ?_, ?_, fun a ha => ?_,
      fun a => (frame_rd ..).trans (State.rd_congr (State.setF_mem ..) (State.setF_lost ..) a), (frame_shadow ..).trans (State.setF_shadow ..),
      (frame_time ..).trans (State.setF_time ..)⟩
    · exact dom_setDom_self (by rw [State.setF_pwr, hdoms]; exact hd) .waking
    · rw [frame_f, State.f_setF_word _ _ _ _ (by decide)]
      exact offReq_cleared s _
    · rw [frame_reg]
      exact SameWords.setF (SameWords.setF (fun _ _ => rfl) _ (by decide)) _ (by decide) a ha
  · exact ⟨_, writeFrame_cut htaken, State.f_addF_self _ _ _ (by decide), SameWords.setF (fun _ _ => rfl) _ (by decide), rfl⟩
  · have hrun : exec .spiTimeout s = .next s.timedOut := if_neg (by simp [hans, hlow, hab])
    exact ⟨_, hrun, (f_withHost ..).trans (State.f_addF_self _ _ _ (by decide)),
      SameWords.withHost (SameWords.setF (fun _ _ => rfl) _ (by decide)) _, rfl,
      fun cmd addr late => readFrame_aborted (s := s.timedOut) (timedOut_answers hans) hlow rfl late⟩

end Sys2Proof.Machine
end


section
/-! SUPPORT. Transactions in band (R101, R346): requests that arrive, and their answers. -/

namespace Sys2Proof.Machine

section
variable {s t : State} {r : IbRequest} {rx : RxInfo}

/-! ## What the reception of the packet leaves -/

theorem Received.pwr (h : Received s t) : t.pwr = s.pwr := by
  obtain ⟨⟨_, _, _, rfl⟩, -⟩ := h
  rfl

theorem Received.queue (h : Received s t) : t.host.queue = s.host.queue := by
  obtain ⟨⟨_, _, _, rfl⟩, -⟩ := h
  rfl

theorem Received.memory (h : Received s t) : SameMemory s t := by
  obtain ⟨⟨_, _, _, rfl⟩, -⟩ := h
  exact fun _ => rfl

/-! ## Answers (R101) -/

/-- A response packet with its status in HOST.LAST. -/
def State.answer (s : State) (st : Nat) (payload : List Word36) : State :=
  (s.setF HOST.LAST.IB_STATUS st).sendPacket 0x3E 0 s.gen4 s.timeNs payload

theorem answer_onlyEvents (s : State) (st : Nat) (payload : List Word36) : OnlyEvents s (s.answer st payload) :=
  ((OnlyEvents.refl s).setF _ _).sendPacket rfl _ _ _ _

theorem answer_words (s : State) (st : Nat) (payload : List Word36) : SameWords s (s.answer st payload) [HOST.LAST] :=
  (SameWords.setF (fun _ _ => rfl) _ (by decide)).sendPacket rfl _ _ _ _

theorem OnlyEvents.memory (h : OnlyEvents s t) : SameMemory s t := by
  obtain ⟨_, _, _, _, rfl⟩ := onlyEvents_iff.1 h
  exact fun _ => rfl

theorem OnlyEvents.untouched (h : OnlyEvents s t) : t.shadow = s.shadow ∧ t.time = s.time ∧ t.pwr = s.pwr ∧ t.host.queue = s.host.queue := by
  obtain ⟨_, _, _, _, rfl⟩ := onlyEvents_iff.1 h
  exact ⟨rfl, rfl, rfl, rfl⟩

theorem answer_answered (s : State) {st : Nat} (hst : st < 2 ^ 8) (payload : List Word36) : Answered s (s.answer st payload) st payload := by
  obtain ⟨p, seqs, he, hdt, hvc, -, hpay⟩ := sendPacket_classB (s.setF HOST.LAST.IB_STATUS st) (dt := 0x3E) rfl 0 s.gen4 s.timeNs payload
  refine ⟨⟨p, ?_, hdt, hvc, hpay⟩, ?_, (answer_onlyEvents s st payload).untouched⟩
  · rw [State.answer, he]
    rfl
  · have hsent : SameWords (s.setF HOST.LAST.IB_STATUS st) (s.answer st payload) [] := SameWords.sendPacket (fun _ _ => rfl) rfl _ _ _ _
    rw [hsent.f List.not_mem_nil, State.f_setF_self _ _ _ (by decide)]
    exact Nat.mod_eq_of_lt hst

/-- The payload of a response (R101, R346). -/
def IbRequest.response (r : IbRequest) (st done : Nat) (data : List Word36) : List Word36 :=
  [responseHead r.tag st (b2n (r.dt != 0x41)) (b2n (r.dt == 0x44)) (if r.dt = 0x44 then done / 16 else done), w36 r.addr] ++ data

theorem ibRespond_answer (hg : s.gone = false) {st : Nat} (hretry : st ≠ 0x89) (hbusy : st ≠ 0x8A) (haddr : st ≠ 0x84) (done : Nat)
    (data : List Word36) : s.ibRespond r st done data = s.answer st (r.response st done data) := by
  unfold State.ibRespond
  simp only [hg, Bool.false_eq_true, if_false, hretry, hbusy, haddr]
  rfl

theorem ibRespond_busy (hg : s.gone = false) (done : Nat) (data : List Word36) :
    s.ibRespond r 0x8A done data = (s.incF HOST.IB_ERR.BUSY).answer 0x8A (r.response 0x8A done data) := by
  unfold State.ibRespond
  rw [if_neg (by rw [hg]; decide)]
  rfl

/-! ## Requests executed -/

theorem ibExecute_read {ws : List Word36} (hdt : r.dt = 0x41) (htaken : r.taken = none)
    (hw : s.readWords 2 r.addr r.count = (s, { words := ws })) : s.ibExecute r = s.ibRespond r 0x80 r.count ws := by
  have hlen : r.length = r.count := if_pos hdt
  have hdone : r.done = r.count := by rw [IbRequest.done, htaken, hlen]
  unfold State.ibExecute
  simp only [hdt, if_true, hdone, hlen, hw, Nat.lt_irrefl, decide_false, Bool.false_eq_true, if_false]

theorem ibExecute_write (hdt : r.dt ≠ 0x41) (htaken : r.taken = none) (hw : s.writeWords 2 r.addr r.words = (t, {})) :
    s.ibExecute r = t.ibRespond r 0x80 r.words.length [] := by
  have hlen : r.length = r.words.length := if_neg hdt
  have hdone : r.done = r.words.length := by rw [IbRequest.done, htaken, hlen]
  unfold State.ibExecute
  simp only [hdt, if_false, hdone, hlen, List.take_length, hw, Nat.lt_irrefl, decide_false, Bool.false_eq_true]

/-! ## The queue -/

theorem ibServe_empty (h : s.host.queue = []) (n : Nat) : s.ibServe n = s := by
  cases n with
  | zero => rfl
  | succ n => rw [State.ibServe, h]

/-- The queue of requests replaced. -/
def State.setQueue (s : State) (q : List IbRequest) : State := { s with host := { s.host with queue := q } }

theorem setQueue_self (h : s.host.queue = []) : s.setQueue [] = s := by
  rw [← h]
  rfl

theorem ibRefused_setQueue (s : State) (q : List IbRequest) : (s.setQueue q).ibRefused r = s.ibRefused r := rfl

theorem mustWait_setQueue (s : State) (q : List IbRequest) (a : Nat) : (s.setQueue q).mustWait a = s.mustWait a := rfl

/-- The front of the queue is answered without its words where the table of R98 says so. -/
theorem ibServe_refused {q : List IbRequest} {st : Nat} (href : s.ibRefused r = some st) (n : Nat) :
    (s.setQueue (r :: q)).ibServe (n + 1) = ((s.setQueue q).ibRespond r st 0 []).ibServe n := by
  have hcond := (ibRefused_setQueue s (r :: q) (r := r)).trans href
  change (match (s.setQueue (r :: q)).ibRefused r with | some st => _ | none => _) = _
  rw [hcond]
  rfl

theorem ibServe_executed {q : List IbRequest} (href : s.ibRefused r = none) (hwait : s.mustWait r.addr = false) (n : Nat) :
    (s.setQueue (r :: q)).ibServe (n + 1) = ((s.setQueue q).ibExecute r).ibServe n := by
  have hcond := (ibRefused_setQueue s (r :: q) (r := r)).trans href
  have hready := (mustWait_setQueue s (r :: q) r.addr).trans hwait
  change (match (s.setQueue (r :: q)).ibRefused r with
    | some st => _
    | none => if (s.setQueue (r :: q)).mustWait r.addr then _ else _) = _
  rw [hcond]
  dsimp only
  rw [if_neg (by rw [hready]; decide)]
  rfl

/-- An accepted packet whose request finds the queue empty: the request is looked at alone. -/
theorem ibArrive_alone (hacc : (s.accept rx).2 = true) (hq : s.host.queue = []) :
    s.ibArrive rx r = ((s.accept rx).1.setQueue [r]).ibServe (32 + 1) := by
  have hq' := (accept_received s rx).queue.trans hq
  unfold State.ibArrive
  generalize s.accept rx = u at *
  obtain ⟨u, ok⟩ := u
  dsimp only at *
  rw [if_neg (by rw [hacc]; decide), if_neg (by rw [hq']; decide), hq']
  rfl

theorem ibArrive_executes (hacc : (s.accept rx).2 = true) (hq : s.host.queue = []) (href : (s.accept rx).1.ibRefused r = none)
    (hwait : (s.accept rx).1.mustWait r.addr = false) (hdone : ((s.accept rx).1.ibExecute r).host.queue = []) :
    s.ibArrive rx r = (s.accept rx).1.ibExecute r := by
  rw [ibArrive_alone hacc hq, ibServe_executed href hwait, setQueue_self ((accept_received s rx).queue.trans hq), ibServe_empty hdone]

theorem ibArrive_refused {st : Nat} (hacc : (s.accept rx).2 = true) (hq : s.host.queue = [])
    (href : (s.accept rx).1.ibRefused r = some st) (hdone : ((s.accept rx).1.ibRespond r st 0 []).host.queue = []) :
    s.ibArrive rx r = (s.accept rx).1.ibRespond r st 0 [] := by
  rw [ibArrive_alone hacc hq, ibServe_refused href, setQueue_self ((accept_received s rx).queue.trans hq), ibServe_empty hdone]

theorem ibArrive_full (hacc : (s.accept rx).2 = true) (hq : 32 ≤ s.host.queue.length) :
    s.ibArrive rx r = (s.accept rx).1.ibRespond r (((s.accept rx).1.ibRefused r).getD 0x8A) 0 [] := by
  have hq' := (accept_received s rx).queue
  unfold State.ibArrive
  generalize s.accept rx = u at *
  obtain ⟨u, ok⟩ := u
  dsimp only at *
  rw [if_neg (by rw [hacc]; decide), if_pos (by rw [hq']; exact hq)]

theorem ibArrive_not (hacc : (s.accept rx).2 = false) : s.ibArrive rx r = s := by
  have hs := accept_not hacc
  unfold State.ibArrive
  generalize s.accept rx = u at *
  obtain ⟨u, ok⟩ := u
  dsimp only at *
  rw [if_pos (by rw [hacc]; rfl), hs]

/-! ## Requests refused (R98, R102) -/

theorem ibRefused_none (hlen : r.lengthOk = true) (hbad : badRange r.addr r.length = false) (hen : s.fb HOST.IB_CFG.IB_EN = true)
    (hwrite : r.dt = 0x41 ∨ s.fb HOST.IB_CFG.IB_WRITE_EN = true) (hfold : s.foldRefuses r.addr = false)
    (hbulk : r.dt = 0x44 → bulkRegion r.addr = true) : s.ibRefused r = none := by
  have hw : (r.dt != 0x41 && !s.fb HOST.IB_CFG.IB_WRITE_EN) = false := by rcases hwrite with h | h <;> simp [h]
  have hb : (r.dt == 0x44 && !bulkRegion r.addr) = false := by
    by_cases h : r.dt = 0x44
    · simp [hbulk h]
    · simp [h]
  unfold State.ibRefused
  simp only [hlen, hbad, hen, hw, hfold, hb, Bool.not_true, Bool.or_false, Bool.false_eq_true, if_false]

theorem ibRefused_disabled (hlen : r.lengthOk = true) (hbad : badRange r.addr r.length = false) (hen : s.fb HOST.IB_CFG.IB_EN = false) :
    s.ibRefused r = some 0x86 := by
  unfold State.ibRefused
  simp only [hlen, hbad, hen, Bool.not_true, Bool.not_false, Bool.true_or, Bool.false_eq_true, if_false, if_true]

end

section
variable {s : State} {rx : RxInfo}

/-- The request of a read packet (R101). -/
def readRequest (tag : BitVec 8) (addr : BitVec 24) (count : Fin 256) (taken : Option Nat) : IbRequest :=
  { dt := 0x41, tag := tag.toNat, addr := addr.toNat, words := [], count := count.val + 1, taken := taken }

/-- The request of a write packet or a bulk write (R101, R346). -/
def writeRequest (bulk : Bool) (tag : BitVec 8) (addr : BitVec 24) (ws : List Word36) : IbRequest :=
  { dt := if bulk then 0x44 else 0x40, tag := tag.toNat, addr := addr.toNat, words := ws, count := 0, taken := none }

theorem readRequest_lengthOk (tag : BitVec 8) (addr : BitVec 24) (count : Fin 256) (taken : Option Nat) :
    (readRequest tag addr count taken).lengthOk = true := by
  have h : count.val + 1 ≤ 256 := count.isLt
  simp [IbRequest.lengthOk, readRequest, IbRequest.length, h]

theorem writeRequest_length (bulk : Bool) (tag : BitVec 8) (addr : BitVec 24) (ws : List Word36) :
    (writeRequest bulk tag addr ws).length = ws.length := by cases bulk <;> rfl

theorem writeRequest_lengthOk {bulk : Bool} {ws : List Word36} (tag : BitVec 8) (addr : BitVec 24)
    (h : if bulk then ws.length % 16 = 0 ∧ 16 ≤ ws.length ∧ ws.length ≤ 4096 else 1 ≤ ws.length ∧ ws.length ≤ 256) :
    (writeRequest bulk tag addr ws).lengthOk = true := by
  rw [IbRequest.lengthOk, writeRequest_length]
  cases bulk with
  | false => simpa [writeRequest] using h
  | true => simpa [writeRequest, and_assoc] using h

theorem exec_writeRequest (bulk : Bool) (rx : RxInfo) (tag : BitVec 8) (addr : BitVec 24) (ws : List Word36) (s : State) :
    exec (if bulk then .bulkWrite rx tag addr ws none else .inbandWriteRequest rx tag addr ws none) s =
      .next (s.ibArrive rx (writeRequest bulk tag addr ws)) := by cases bulk <;> rfl

theorem writeRequest_dt (bulk : Bool) (tag : BitVec 8) (addr : BitVec 24) (ws : List Word36) :
    (writeRequest bulk tag addr ws).dt ≠ 0x41 := by
  cases bulk
  · exact show 0x40 ≠ 0x41 by decide
  · exact show 0x44 ≠ 0x41 by decide

theorem bulkRegion_bank {a : Nat} (h : memRegion a = 4) : bulkRegion a = true := by
  rw [bulkRegion, regionOf_bank h]
  rfl

theorem gone_withMemory (s : State) (mem : Cells 36) (ecc : List (Nat × Bool)) : (s.withMemory mem ecc).gone = s.gone := rfl

theorem writeRequest_response (bulk : Bool) (tag : BitVec 8) (addr : BitVec 24) (ws : List Word36) (n : Nat) :
    (writeRequest bulk tag addr ws).response 0x80 n [] =
      [responseHead tag.toNat 0x80 1 (b2n bulk) (if bulk then n / 16 else n), w36 addr.toNat] := by cases bulk <;> rfl

/-- The port and the switches of in-band access are as before the packet. -/
theorem accept_gone (s : State) (rx : RxInfo) : (s.accept rx).1.gone = s.gone := gone_congr (accept_received s rx).pwr

theorem accept_fb (s : State) (rx : RxInfo) {x : Fld} (h : x.addr ∉ [TAB.RX_CNT, TAB.RX_STAT, hdr 0x48 3]) : (s.accept rx).1.fb x = s.fb x :=
  (accept_received s rx).words.fb h

theorem bank_lt {a : Nat} (h : memRegion a = 4) : (a - 0x400000) / 0x10000 < 32 := by
  obtain ⟨hlo, hhi⟩ := memRegion_bank.1 h
  omega

theorem accept_owner {b : Nat} (hb : b < 32) : (s.accept rx).1.owner b = s.owner b := by
  refine (accept_received s rx).words.f (x := BANK.OWN.OWNER b) ?_
  simp only [BANK.OWN.OWNER, BANK.OWN, TAB.RX_CNT, TAB.RX_STAT, hdr, List.mem_cons, List.not_mem_nil, or_false, not_or]
  omega

theorem answered_withMemory {t : State} {mem : Cells 36} {ecc : List (Nat × Bool)} {st : Nat} {l : List Word36}
    (h : Answered (s.withMemory mem ecc) t st l) : Answered s t st l := h

theorem sameWords_withMemory {t : State} {mem : Cells 36} {ecc : List (Nat × Bool)} {as : List Nat}
    (h : SameWords (s.withMemory mem ecc) t as) : SameWords s t as := h

theorem answered_incF {t : State} {x : Fld} {st : Nat} {l : List Word36} (h : Answered (s.incF x) t st l) : Answered s t st l := by
  obtain ⟨hsent, hst, hrest⟩ := h
  rw [State.incF_link] at hsent
  rw [State.incF_shadow, State.incF_time, State.incF_pwr, State.incF_host] at hrest
  exact ⟨hsent, hst, hrest⟩

theorem answer_queue (st : Nat) (payload : List Word36) (h : s.host.queue = []) : (s.answer st payload).host.queue = [] :=
  (answer_onlyEvents s st payload).queue.trans h

end

/-- Settles O19: the packet is accepted (`accept_received`), the request served alone (`ibArrive_executes`, `ibArrive_refused`) or
answered at a full queue (`ibArrive_full`), and the answer queued (`answer_answered`). -/
theorem inbandRequests : Obligations.InbandRequests := by
  refine ⟨fun rx tag addr count s hacc hg hq hen ha hn hfold hwait => ?_, fun rx tag addr ws bulk s hacc hg hq hen hwen hlen hbank hfold hwait => ?_,
    fun rx tag addr count s hacc hg hq hen hbad => ?_, fun rx tag addr count s hacc hg hq hen hbad hfold => ?_,
    fun rx tag addr ws count taken s hacc => ?_⟩
  · have hrec := accept_received s rx
    have hg' := (accept_gone s rx).trans hg
    have href : (s.accept rx).1.ibRefused (readRequest tag addr count none) = none :=
      ibRefused_none (readRequest_lengthOk ..) (badRange_page ha (by change addr.toNat % 0x400 + (count.val + 1) ≤ 0x400; omega))
        ((accept_fb s rx (by decide)).trans hen) (.inl rfl) ((foldRefuses_congr hrec.pwr _).trans (foldRefuses_page ha hfold)) nofun
    have hread := ibExecute_read (r := readRequest tag addr count none) rfl rfl
      (readWords_page (s.accept rx).1 2 (count.val + 1) (a := addr.toNat) (by omega))
    rw [ibRespond_answer hg' (by decide) (by decide) (by decide)] at hread
    have hrun := ibArrive_executes hacc hq href ((mustWait_congr hrec.pwr _).trans hwait)
      (by rw [hread]; exact answer_queue _ _ (hrec.queue.trans hq))
    rw [hread] at hrun
    exact ⟨_, congrArg Host.Outcome.next hrun, answer_answered _ (by decide) _, answer_words _ _ _, fun a =>
      ((answer_onlyEvents ..).memory a).trans (hrec.memory a)⟩
  · have hrec := accept_received s rx
    have hpos : 0 < ws.length := by
      cases bulk with
      | false => exact hlen.1
      | true => exact Nat.lt_of_lt_of_le (by decide) hlen.2.1
    have hregion (i : Nat) (hi : i < ws.length) : memRegion (addr.toNat + i) = 4 := (hbank i hi).1
    have href : (s.accept rx).1.ibRefused (writeRequest bulk tag addr ws) = none :=
      ibRefused_none (writeRequest_lengthOk tag addr hlen) (by rw [writeRequest_length]; exact badRange_bank hpos hregion)
        ((accept_fb s rx (by decide)).trans hen) (.inr ((accept_fb s rx (by decide)).trans hwen))
        ((foldRefuses_congr hrec.pwr _).trans (foldRefuses_not_fold hfold))
        fun _ => bulkRegion_bank (hregion 0 hpos)
    obtain ⟨mem, ecc, hw, hin, hout⟩ := writeWords_banks 2 ws ((accept_gone s rx).trans hg)
      fun i hi => ⟨hregion i hi, by rw [accept_owner (bank_lt (hregion i hi))]; exact (hbank i hi).2⟩
    have hrun := ibExecute_write (r := writeRequest bulk tag addr ws) (writeRequest_dt bulk tag addr ws) rfl hw
    rw [ibRespond_answer ((gone_withMemory ..).trans ((accept_gone s rx).trans hg)) (by decide) (by decide) (by decide),
      writeRequest_response] at hrun
    have harr := ibArrive_executes hacc hq href ((mustWait_congr hrec.pwr _).trans hwait)
      (by rw [hrun]; exact answer_queue _ _ (hrec.queue.trans hq))
    have hmem := (answer_onlyEvents ((s.accept rx).1.withMemory mem ecc) 0x80
      [responseHead tag.toNat 0x80 1 (b2n bulk) (if bulk then ws.length / 16 else ws.length), w36 addr.toNat]).memory
    rw [hrun] at harr
    exact ⟨_, (exec_writeRequest ..).trans (congrArg Host.Outcome.next harr), answered_withMemory (answer_answered _ (by decide) _),
      fun i hi => (hmem _).trans (hin i hi), fun b hb => (hmem b).trans ((hout b hb).trans (hrec.memory b)),
      sameWords_withMemory (answer_words _ _ _)⟩
  · have hrec := accept_received s rx
    have href : (s.accept rx).1.ibRefused (readRequest tag addr count none) = some 0x86 :=
      ibRefused_disabled (readRequest_lengthOk ..) hbad ((accept_fb s rx (by decide)).trans hen)
    have hanswer := ibRespond_answer (r := readRequest tag addr count none) ((accept_gone s rx).trans hg) (st := 0x86) (by decide) (by decide)
      (by decide) 0 []
    have hrun := ibArrive_refused hacc hq href (by rw [hanswer]; exact answer_queue _ _ (hrec.queue.trans hq))
    rw [hanswer] at hrun
    exact ⟨_, congrArg Host.Outcome.next hrun, answer_answered _ (by decide) _, answer_words _ _ _, fun a =>
      ((answer_onlyEvents ..).memory a).trans (hrec.memory a)⟩
  · have hrec := accept_received s rx
    have href : (s.accept rx).1.ibRefused (readRequest tag addr count none) = none :=
      ibRefused_none (readRequest_lengthOk ..) hbad ((accept_fb s rx (by decide)).trans hen) (.inl rfl)
        ((foldRefuses_congr hrec.pwr _).trans hfold) nofun
    have hrun := ibArrive_full (r := readRequest tag addr count none) hacc hq
    rw [href, Option.getD_none, ibRespond_busy ((accept_gone s rx).trans hg)] at hrun
    have hwords := answer_words ((s.accept rx).1.incF HOST.IB_ERR.BUSY) 0x8A ((readRequest tag addr count none).response 0x8A 0 [])
    refine ⟨_, congrArg Host.Outcome.next hrun, answered_incF (answer_answered _ (by decide) _), ?_, ?_, fun a => ?_⟩
    · rw [hwords.f (by decide), ← hrec.words.f (x := HOST.IB_ERR.BUSY) (by decide)]
      exact State.f_addF_self _ _ _ (by decide)
    · exact (SameWords.setF (fun _ _ => rfl) _ (by decide)).trans (hwords.mono (by decide))
    · exact ((answer_onlyEvents ..).memory a).trans ((State.rd_congr (State.incF_mem ..) (State.incF_lost ..) a).trans (hrec.memory a))
  · exact ⟨congrArg Host.Outcome.next (ibArrive_not hacc), congrArg Host.Outcome.next (ibArrive_not hacc),
      congrArg Host.Outcome.next (ibArrive_not hacc)⟩

end Sys2Proof.Machine
end


section
/-! SUPPORT. Writes of register words (R11, R84, R90, R93): what a word does by the access codes of its fields. -/

namespace Sys2Proof.Machine

section
variable {s t : State} {a : Nat} {v : Word}

/-! ## The fields of a word -/

/-- A word without fields of an access code. -/
theorem accMask_eq_zero {c : Acc} (h : ∀ f ∈ (fieldsAt a).1, f.acc ≠ c) : accMask a c = 0 := by
  have hfold (fs : List FieldDef) : ∀ n, (∀ f ∈ fs, f.acc ≠ c) →
      fs.foldl (fun acc f => if f.acc == c then acc + maskOf f.hi f.lo else acc) n = n := by
    induction fs with
    | nil => exact fun _ _ => rfl
    | cons f fs ih =>
      intro n hn
      obtain ⟨hf, hfs⟩ := List.forall_mem_cons.1 hn
      have hcode : (f.acc == c) = false := beq_eq_false_iff_ne.2 hf
      rw [List.foldl_cons, hcode]
      exact ih n hfs
  rw [accMask, fieldMask, hfold _ 0 h]
  rfl

theorem fieldsAt_header {p i : Nat} (hp : assigned p = true) (hi : i < 0x10) (h2 : i ≠ 2) : fieldsAt (hdr p i) = (headerFields p i, 0, 0) := by
  have hpage : hdr p i / 0x400 = p := by unfold hdr; omega
  unfold fieldsAt
  simp only [hpage, hdr_mod p (by omega : i < 0x400), hp, Bool.not_true, Bool.false_eq_true, if_false]
  rw [if_pos ⟨h2, hi⟩]

/-- A word whose fields are settings with a shadow, or RO. -/
def settingWord (a : Nat) : Bool := (fieldsAt a).1.all fun f => f.acc == .rws || f.acc == .ro

theorem settingWord_iff : settingWord a = true ↔ ∀ f ∈ (fieldsAt a).1, f.acc = .rws ∨ f.acc = .ro := by simp [settingWord]

theorem settingWord_accMask {c : Acc} (h : settingWord a = true) (hrws : c ≠ .rws) (hro : c ≠ .ro) : accMask a c = 0 :=
  accMask_eq_zero fun f hf he => by
    rcases settingWord_iff.1 h f hf with h | h
    · exact hrws (he.symm.trans h)
    · exact hro (he.symm.trans h)

/-! ## Words that give commands (R11, R84) -/

/-- The command words of the AON and SCAN pages. -/
def lowCommands : List Nat :=
  [CLK.DROOP_CLR, PWR.REQ, BOOT.CMD, BOOT.FW_CMD, BOOT.CFG_CMD, CHIP.GCOMMIT, HOST.CNT_CLR, TIME.CMD, SUPV.CNT_CLR, SAFE.CONFIRM, SAFE.CMD,
    SAFE.PW 0, SAFE.PW 1, SAFE.PW 2, SAFE.PW_CTRL, SAFE.CNT_CLR, LEDGER.CMD, HK.CNT_CLR, CAL.EOL_CMD, BANK.CNT_CLR, DEAL.BID, DEAL.CNT_CLR,
    EMIT.FF_CTRL, EMIT.CNT_CLR, EMIT.FAULT_CLR, LDB.CMD, STEER.CNT_CLR]

/-- The command words of the other pages. -/
def highCommands : List Nat :=
  (List.range 8).map AFE.CNT_CLR ++ (List.range 8).map TDC.FAIL_CLR ++ (List.range 8).map TDC.CNT_CLR ++ (List.range 4).map CAM.CNT_CLR ++
    [KITTY.CNT_CLR, ADC.FAIL_CLR, ADC.CNT_CLR, ACQ.CMD, HIST.CNT_CLR, REJ.CNT_CLR, PNT.CNT_CLR, ZONE.CNT_CLR, TAB.TX_CTRL, TAB.INJECT,
      TAB.CNT_CLR]

theorem not_pwWord (h0 : a ≠ SAFE.PW 0) (h1 : a ≠ SAFE.PW 1) (h2 : a ≠ SAFE.PW 2) : ¬ (SAFE.PW 0 ≤ a ∧ a ≤ SAFE.PW 2) := by
  simp only [SAFE.PW] at *
  omega

theorem commandLow_eq_self (h : a ∉ lowCommands) (src d : Nat) : s.commandLow src a d = s := by
  simp only [lowCommands, List.mem_cons, List.not_mem_nil, or_false, not_or] at h
  obtain ⟨h1, h2, h3, h4, h5, h6, h7, h8, h9, h10, h11, h12, h13, h14, h15, h16, h17, h18, h19, h20, h21, h22, h23, h24, h25, h26, h27⟩ := h
  have hpw := not_pwWord h12 h13 h14
  unfold State.commandLow
  simp only [h1, h2, h3, h4, h5, h6, h7, h8, h9, h10, h11, hpw, h15, h16, h17, h18, h19, h20, h21, h22, h23, h24, h25, h26, h27, if_false]

theorem commandHigh_eq_self (h : a ∉ highCommands) (src d : Nat) : s.commandHigh src a d = s := by
  simp only [highCommands, List.mem_append, List.mem_map, List.mem_range, List.mem_cons, List.not_mem_nil, or_false, not_or, not_exists,
    not_and] at h
  obtain ⟨⟨⟨⟨hafe, hfail⟩, htdc⟩, hcam⟩, h1, h2, h3, h4, h5, h6, h7, h8, h9, h10, h11⟩ := h
  unfold State.commandHigh
  dsimp only
  split_ifs with hp he hp he he hp he
  · exact absurd he.symm (hafe _ (by omega))
  · rfl
  · exact absurd he.symm (hfail _ (by omega))
  · exact absurd he.symm (htdc _ (by omega))
  · rfl
  · exact absurd he.symm (hcam _ (by omega))
  · rfl
  · rfl

/-- Every command word has a field that is neither RWS nor RO. -/
theorem commands_not_settings : ∀ x ∈ lowCommands ++ highCommands ++ (List.range 4).map CAM.I2C_XFER, settingWord x = false := by
  decide +kernel

/-- The command words lie in the block words of their pages. -/
theorem commands_not_headers : ∀ x ∈ lowCommands ++ highCommands ++ (List.range 4).map CAM.I2C_XFER, 0x10 ≤ x % 0x400 := by
  decide +kernel

/-- A word that gives no command: neither a command word nor one of the header words that give one. -/
structure NoCommand (a : Nat) : Prop where
  block : a ∉ lowCommands ++ highCommands ++ (List.range 4).map CAM.I2C_XFER
  header : a % 0x400 ≠ 1 ∧ a % 0x400 ≠ 5 ∧ a % 0x400 ≠ 7 ∧ a % 0x400 ≠ 8

theorem NoCommand.commands (h : NoCommand a) (src d : Nat) : s.commands src a d = s := by
  obtain ⟨hblock, h1, h5, h7, h8⟩ := h
  simp only [List.mem_append, not_or] at hblock
  obtain ⟨⟨hlow, hhigh⟩, -⟩ := hblock
  unfold State.commands
  dsimp only
  split
  case h_5 => rw [commandLow_eq_self hlow, commandHigh_eq_self hhigh, ite_self]
  all_goals contradiction

theorem NoCommand.not_transfer (h : NoCommand a) {k : Nat} (hk : camOf (a / 0x400) = some k) : a ≠ CAM.I2C_XFER k := by
  intro he
  have hlt : k < 4 := by
    unfold camOf at hk
    split at hk
    · have := Option.some.inj hk
      omega
    · exact absurd hk (by simp)
  exact h.block (List.mem_append_right _ (List.mem_map.2 ⟨k, List.mem_range.2 hlt, he.symm⟩))

theorem settingWord_noCommand (hp : assigned (a / 0x400) = true) (h : settingWord a = true) : NoCommand a := by
  have ha (i : Nat) (hi : a % 0x400 = i) : a = hdr (a / 0x400) i := by unfold hdr; omega
  have hheader (i : Nat) (hi : i < 0x10) (h2 : i ≠ 2) (hcmd : ∃ f ∈ headerFields (a / 0x400) i, f.acc = .wo) : a % 0x400 ≠ i := by
    intro he
    obtain ⟨f, hf, hwo⟩ := hcmd
    have hin : f ∈ (fieldsAt a).1 := by
      rw [ha i he, fieldsAt_header hp hi h2]
      exact hf
    rcases settingWord_iff.1 h f hin with hc | hc <;> exact absurd (hwo.symm.trans hc) (by decide)
  refine ⟨fun hin => absurd (commands_not_settings a hin) (by rw [h]; decide), hheader 1 (by decide) (by decide) ?_,
    hheader 5 (by decide) (by decide) ?_, hheader 7 (by decide) (by decide) ?_, hheader 8 (by decide) (by decide) ?_⟩
  · exact ⟨_, List.mem_cons_self .., rfl⟩
  · exact ⟨_, List.mem_cons_self .., rfl⟩
  · exact ⟨_, List.mem_cons_self .., rfl⟩
  · exact ⟨fd 5 5 .wo, by simp [headerFields], rfl⟩

/-! ## A word written -/

/-- A word that no lock keeps and that gives no command: its fields are written. -/
theorem writeRegister_fields {d : Word36} {src : Nat} (hp : assigned (a / 0x400) = true) (hpar : parityOk d = true)
    (hrwl : accMask a .rwl = 0) (hcmd : NoCommand a) : (s.writeRegister src a d).1 = s.writeFields src a (d.setWidth 32) := by
  have hfree : s.wordRefused a (d.setWidth 32) = none := by
    rw [State.wordRefused, hrwl]
    exact if_pos BitVec.and_zero
  unfold State.writeRegister State.writeWord
  simp only [hp, hpar, hfree, Bool.not_true, Bool.false_eq_true, if_false, hcmd.commands]
  split
  · next k hk => rw [if_neg (hcmd.not_transfer hk)]
  · rfl

theorem clearBits_none (h : accMask a .w1c = 0) : s.clearBits a v = s := by
  unfold State.clearBits
  rw [h]
  exact if_pos BitVec.and_zero

end

section
variable {s t u : State} {a : Nat} {v : Word} {ws : List Nat}

/-! ## Shadows (R90) -/

theorem shad_setShad_self (s : State) (a : Nat) (v : Word) : (s.setShad a v).shad a = v := Cells.get_set_self ..

theorem shad_setShad_ne (s : State) {a b : Nat} (v : Word) (h : b ≠ a) : (s.setShad a v).shad b = s.shad b := Cells.get_set_ne _ v h

/-- What a write of a shadow leaves alone: everything but GEN of its page, the safety CRC and what is latched. -/
structure SettingsStay (s t : State) (p : Nat) : Prop where
  words : SameWords s t [hdr p 9, SAFE.CRC]
  memory : SameMemory s t
  time : t.time = s.time
  commits : t.commits = s.commits
  pwr : t.pwr = s.pwr
  link : t.link = s.link

theorem SettingsStay.setShad (s : State) (p a : Nat) (v : Word) : SettingsStay s (s.setShad a v) p :=
  ⟨fun _ _ => rfl, fun _ => rfl, rfl, rfl, rfl, rfl⟩

theorem SettingsStay.setReg {p : Nat} (h : SettingsStay s t p) {a : Nat} (ha : a ∈ [hdr p 9, SAFE.CRC]) (v : Word) :
    SettingsStay s (t.setReg a v) p := by
  obtain ⟨hw, hm, ht, hc, hp, hl⟩ := h
  exact ⟨hw.setReg v ha, hm, ht, hc, hp, hl⟩

theorem SettingsStay.update {p : Nat} (h : SettingsStay s t p) (hc : s.commits = []) (latched : List Latched) :
    SettingsStay s { t with latched := latched, commits := [] } p := by
  obtain ⟨hw, hm, ht, -, hp, hl⟩ := h
  exact ⟨hw, hm, ht, hc.symm, hp, hl⟩

theorem SettingsStay.setSafe {p : Nat} (h : SettingsStay s t p) (safe : Safe) : SettingsStay s { t with safe := safe } p := by
  obtain ⟨hw, hm, ht, hc, hp, hl⟩ := h
  exact ⟨hw, hm, ht, hc, hp, hl⟩

/-- What is done for a request that is pending on the page of a shadow (R89, R143). -/
def State.shadowDue (s : State) (a : Nat) : State :=
  if a / 0x400 = 0x44 then (if s.ispDue [] then (s.takeEffect [] []).postHeld else s)
  else if (s.request (a / 0x400)).isSome && (a / 0x400 == 0x10 || a / 0x400 == 0x12) then s.queueChanges (a / 0x400) (s.wordFrames a) else s

theorem shadowDue_eq_self (hc : s.commits = []) (a : Nat) : s.shadowDue a = s := by
  have hreq (p : Nat) : s.request p = none := by rw [State.request, hc]; rfl
  have hdue : s.ispDue [] = false := by rw [State.ispDue, hreq]; rfl
  unfold State.shadowDue
  rw [hdue, hreq]
  simp

/-- With no request pending, a shadow that is written sets DIRTY (R90). -/
theorem shadowWritten_quiet (hc : s.commits = []) :
    ∃ latched, s.shadowWritten a = { s.setF ⟨hdr (a / 0x400) 9, 16, 1⟩ 1 with latched := latched, commits := [] } := by
  unfold State.shadowWritten
  dsimp only
  rw [State.setF_commits, hc]
  exact ⟨_, shadowDue_eq_self rfl a⟩

/-- The safety CRC follows a covered word (R393). -/
theorem coveredWritten_quiet (s : State) (before : Word) (a : Nat) : s.coveredWritten before a false = s ∨
    s.coveredWritten before a false = { s.updateCrc with safe := { s.safe with lockRef := s.mono } } := by
  unfold State.coveredWritten
  split
  · exact .inl rfl
  · exact .inr rfl

theorem zero_or_and_not (m : Word) : (0 ||| m ||| 0) &&& ~~~m = 0 := by
  ext i hi
  simp

/-- The fields of a word that holds settings with shadows alone (R90). -/
theorem writeFields_setting (h : settingWord a = true) (hrws : rwsMask a ≠ 0) (src : Nat) :
    s.writeFields src a v = ((s.setShad a (mergeBits (rwsMask a) (s.shad a) v)).shadowWritten a).coveredWritten (s.reg SAFE.CRC) a false := by
  have hstored : storedMask a &&& ~~~rwsMask a = 0 := by
    rw [storedMask, settingWord_accMask h (c := .rw) (by decide) (by decide), settingWord_accMask h (c := .rwl) (by decide) (by decide)]
    exact zero_or_and_not _
  have hrwl : ((s.reg a ^^^ v) &&& accMask a .rwl != 0) = false := by
    rw [settingWord_accMask h (by decide) (by decide)]
    exact bne_eq_false_iff_eq.2 BitVec.and_zero
  unfold State.writeFields
  simp only [hstored, if_true, clearBits_none (settingWord_accMask h (c := .w1c) (by decide) (by decide)), hrws, if_false, hrwl]

/-- A shadow that has been written, with DIRTY (R90). -/
structure ShadowSet (s t : State) (a : Nat) (v : Word) : Prop where
  self : t.shad a = v
  others : ∀ b, b ≠ a → t.shad b = s.shad b
  dirty : t.f ⟨hdr (a / 0x400) 9, 16, 1⟩ = 1
  active : t.f ⟨hdr (a / 0x400) 9, 0, 8⟩ = s.f ⟨hdr (a / 0x400) 9, 0, 8⟩
  stays : SettingsStay s t (a / 0x400)

theorem hdr_ne_crc (p : Nat) : hdr p 9 ≠ SAFE.CRC := by
  simp only [hdr, SAFE.CRC]
  omega

theorem f_updated (s : State) (latched : List Latched) (x : Fld) : State.f { s with latched := latched, commits := [] } x = s.f x := rfl

theorem shad_updated (s : State) (latched : List Latched) (b : Nat) :
    State.shad { s with latched := latched, commits := [] } b = s.shad b := rfl

theorem shad_setF (s : State) (x : Fld) (n b : Nat) : (s.setF x n).shad b = s.shad b := by rw [State.shad, State.setF_shadow, State.shad]

theorem f_setSafe (s : State) (safe : Safe) (x : Fld) : State.f { s with safe := safe } x = s.f x := rfl

/-- The shadow written, with DIRTY set. -/
theorem ShadowSet.of_dirty (hc : s.commits = []) (latched : List Latched) :
    ShadowSet s { (s.setShad a v).setF ⟨hdr (a / 0x400) 9, 16, 1⟩ 1 with latched := latched, commits := [] } a v where
  self := (shad_updated ..).trans ((shad_setF ..).trans (shad_setShad_self s a v))
  others _ hb := (shad_updated ..).trans ((shad_setF ..).trans (shad_setShad_ne s v hb))
  dirty := (f_updated ..).trans (State.f_setF_self _ _ _ (by decide : 16 + 1 ≤ 32))
  active := (f_updated ..).trans (State.f_setF_ne _ ⟨hdr (a / 0x400) 9, 16, 1⟩ ⟨hdr (a / 0x400) 9, 0, 8⟩ 1 (by decide : 16 + 1 ≤ 32) rfl
    (.inl (by decide : 0 + 8 ≤ 16)))
  stays := ((SettingsStay.setShad s (a / 0x400) a v).setReg (List.mem_cons_self ..) _).update hc latched

theorem ShadowSet.crc (h : ShadowSet s t a v) (w : Word) (safe : Safe) : ShadowSet s { t.setReg SAFE.CRC w with safe := safe } a v := by
  obtain ⟨hself, hothers, hdirty, hactive, hstays⟩ := h
  refine ⟨hself, hothers, (f_setSafe ..).trans ?_, (f_setSafe ..).trans ?_,
    (hstays.setReg (List.mem_cons_of_mem _ (List.mem_singleton_self _)) w).setSafe safe⟩
  · exact (State.f_setReg_ne t ⟨hdr (a / 0x400) 9, 16, 1⟩ w (hdr_ne_crc _)).trans hdirty
  · exact (State.f_setReg_ne t ⟨hdr (a / 0x400) 9, 0, 8⟩ w (hdr_ne_crc _)).trans hactive

/-- A word of settings with shadows written while no request is pending (R90). -/
theorem writeFields_shadowSet (h : settingWord a = true) (hrws : rwsMask a ≠ 0) (hc : s.commits = []) (src : Nat) :
    ShadowSet s (s.writeFields src a v) a (mergeBits (rwsMask a) (s.shad a) v) := by
  rw [writeFields_setting h hrws]
  obtain ⟨latched, he⟩ := shadowWritten_quiet (s := s.setShad a (mergeBits (rwsMask a) (s.shad a) v)) (a := a) hc
  have hset : ShadowSet s ((s.setShad a (mergeBits (rwsMask a) (s.shad a) v)).shadowWritten a) a (mergeBits (rwsMask a) (s.shad a) v) :=
    he ▸ ShadowSet.of_dirty hc latched
  generalize (s.setShad a (mergeBits (rwsMask a) (s.shad a) v)).shadowWritten a = t at hset
  rcases coveredWritten_quiet t (s.reg SAFE.CRC) a with e | e <;> rw [e]
  · exact hset
  · exact hset.crc _ _

/-! ## Interrupt enables (R84, R103) -/

theorem fieldsAt_intEn {p : Nat} (hp : assigned p = true) : (fieldsAt (hdr p 4)).1 = [fd 31 0 .rw] := by
  rw [fieldsAt_header hp (by decide) (by decide)]
  rfl

theorem intEn_accMask {p : Nat} (hp : assigned p = true) {c : Acc} (hc : c ≠ .rw) : accMask (hdr p 4) c = 0 :=
  accMask_eq_zero fun f hf he => by
    rw [fieldsAt_intEn hp, List.mem_singleton] at hf
    exact hc (he.symm.trans (by rw [hf]; rfl))

theorem intEn_storedMask {p : Nat} (hp : assigned p = true) : storedMask (hdr p 4) = BitVec.allOnes 32 := by
  have hrw : accMask (hdr p 4) .rw = BitVec.allOnes 32 := by
    rw [accMask, fieldMask, fieldsAt_intEn hp]
    decide
  rw [storedMask, hrw, intEn_accMask hp (by decide), intEn_accMask hp (by decide)]
  decide

theorem assigned_le {p : Nat} (hp : assigned p = true) : p ≤ 0x48 := by
  simp only [assigned, Bool.or_eq_true, Bool.and_eq_true, decide_eq_true_eq, beq_iff_eq] at hp
  omega

/-- The safety CRC covers no header word. -/
theorem coveredOffsets_block : ∀ p : Fin 0x49, ∀ o ∈ coveredOffsets p.val, 0x10 ≤ o := by decide +kernel

theorem intEn_not_covered {p : Nat} (hp : assigned p = true) : covered (hdr p 4) = false := by
  have hpage : hdr p 4 / 0x400 = p := by unfold hdr; omega
  have hnot : (coveredOffsets p).contains 4 = false := Bool.eq_false_iff.2 fun h =>
    absurd (coveredOffsets_block ⟨p, Nat.lt_succ_of_le (assigned_le hp)⟩ 4 (by simpa using h)) (by decide)
  rw [covered, hpage, hdr_mod p (by decide), hnot, Bool.and_false]

theorem intEn_noCommand (p : Nat) : NoCommand (hdr p 4) := by
  have hoff : hdr p 4 % 0x400 = 4 := hdr_mod p (by decide)
  refine ⟨fun hin => absurd (commands_not_headers _ hin) (by rw [hoff]; decide), ?_⟩
  rw [hoff]
  decide

/-- A write of an interrupt enable may raise the summary bit (R103). -/
theorem storedWritten_intEn (s : State) (p : Nat) (before : Word) :
    s.storedWritten (hdr p 4) before = s ∨ s.storedWritten (hdr p 4) before = s.summaryRose p := by
  have hpage : hdr p 4 / 0x400 = p := by unfold hdr; omega
  unfold State.storedWritten
  rw [hpage, hdr_mod p (by decide)]
  split
  · exact .inl rfl
  · rw [if_pos rfl]
    split
    · exact .inr rfl
    · exact .inl rfl

theorem mergeBits_all (old new : Word) : mergeBits (BitVec.allOnes 32) old new = new := by
  rw [mergeBits, BitVec.not_allOnes, BitVec.and_zero, BitVec.zero_or, BitVec.and_allOnes]

theorem writeStored_intEn {p : Nat} (hp : assigned p = true) (src : Nat) :
    s.writeStored src (hdr p 4) v = (s.setReg (hdr p 4) v).storedWritten (hdr p 4) (s.reg (hdr p 4)) := by
  have hoff : hdr p 4 % 0x400 = 4 := hdr_mod p (by decide)
  have himage : imageMask (hdr p 4) &&& ~~~rwsMask (hdr p 4) = BitVec.allOnes 32 := by
    rw [imageMask, rwsMask, intEn_accMask hp (by decide), intEn_storedMask hp, hoff, if_neg fun h => absurd h.1 (by decide)]
    decide
  have hdomain : hdr p 4 ≠ PWR.DOMAIN := by simp only [hdr, PWR.DOMAIN]; omega
  have hbank : ¬ (BANK.OWN 0 ≤ hdr p 4 ∧ hdr p 4 ≤ BANK.OWN 31) := by simp only [hdr, BANK.OWN]; omega
  have hring : hdr p 4 ≠ ACQ.RING_RD := by simp only [hdr, ACQ.RING_RD]; omega
  unfold State.writeStored
  rw [himage, mergeBits_all, hoff, if_neg (by decide), if_neg hdomain, if_neg hbank, if_neg hring]

theorem writeFields_intEn {p : Nat} (hp : assigned p = true) (src : Nat) :
    s.writeFields src (hdr p 4) v = (s.setReg (hdr p 4) v).storedWritten (hdr p 4) (s.reg (hdr p 4)) := by
  have hrws : rwsMask (hdr p 4) = 0 := intEn_accMask hp (by decide)
  have hstored : ¬ storedMask (hdr p 4) &&& ~~~0 = 0 := by
    rw [intEn_storedMask hp]
    decide
  unfold State.writeFields
  simp only [hstored, if_false, writeStored_intEn hp, clearBits_none (intEn_accMask hp (c := .w1c) (by decide)), hrws, if_true,
    State.coveredWritten, intEn_not_covered hp, Bool.not_false]

/-- INT_EN replaced, with the event packet of a rising of the summary bit. -/
theorem intEn_written {p : Nat} (hp : assigned p = true) (src : Nat) :
    (s.writeFields src (hdr p 4) v).reg (hdr p 4) = v ∧ SameWords s (s.writeFields src (hdr p 4) v) [hdr p 4] ∧
      OnlyEvents s (s.writeFields src (hdr p 4) v) := by
  have hset : SameWords s (s.setReg (hdr p 4) v) [hdr p 4] := SameWords.setReg (fun _ _ => rfl) v (List.mem_singleton_self _)
  have hreg : (s.setReg (hdr p 4) v).reg (hdr p 4) = v := State.reg_setReg_self ..
  have honly : OnlyEvents s (s.setReg (hdr p 4) v) := (OnlyEvents.refl s).setReg _ _
  rw [writeFields_intEn hp]
  generalize s.setReg (hdr p 4) v = u at *
  rcases storedWritten_intEn u p (s.reg (hdr p 4)) with e | e <;> rw [e]
  · exact ⟨hreg, hset, honly⟩
  · have hrose (a : Nat) : (u.summaryRose p).reg a = u.reg a := State.reg_congr (State.summaryRose_regs ..) a
    exact ⟨(hrose _).trans hreg, fun a ha => (hrose a).trans (hset a ha), honly.trans (onlyEvents_summaryRose u p)⟩

/-! ## Refusals (R83, R93) -/

theorem writeRegister_parity {d : Word36} {src : Nat} (hp : assigned (a / 0x400) = true) (hpar : parityOk d = false) :
    (s.writeRegister src a d).1 = (s.incF (parityCount src)).err 0x01 src a := by
  unfold State.writeRegister
  simp only [hp, hpar, Bool.not_true, Bool.not_false, Bool.false_eq_true, if_false, if_true]
  rfl

theorem writeRegister_locked {d : Word36} {src : Nat} (hp : assigned (a / 0x400) = true) (hpar : parityOk d = true)
    (hlock : s.lockOpen = false) (hrwl : (s.reg a ^^^ d.setWidth 32) &&& accMask a .rwl ≠ 0) :
    (s.writeRegister src a d).1 = s.err 0x02 src a := by
  have href : s.wordRefused a (d.setWidth 32) = some 0x02 := by
    rw [State.wordRefused, if_neg hrwl, hlock]
    rfl
  unfold State.writeRegister State.writeWord
  simp only [hp, hpar, href, Bool.not_true, Bool.false_eq_true, if_false]

theorem writeRegister_unassigned {d : Word36} {src : Nat} (hp : assigned (a / 0x400) = false) : (s.writeRegister src a d).1 = s := by
  unfold State.writeRegister
  simp only [hp, Bool.not_false, if_true]

/-- A word of a page that can be reached is written (R52). -/
theorem registerWrite_reached {src : Port} {a : BitVec 24} {d : Word36} (ha : a.toNat < 0x40000) (hr : s.reachable (a.toNat / 0x400) = true) :
    exec (.registerWrite src a d) s = .next (s.writeRegister (portSrc src) a.toNat d).1 := if_pos ⟨ha, hr⟩

end

/-- Settles O20: the word is refused (`writeRegister_parity`, `writeRegister_locked`), or its fields are written by their access codes:
shadows (`writeFields_shadowSet`) or an interrupt enable (`intEn_written`), none of which gives a command (`NoCommand.commands`). -/
theorem registerWrites : Obligations.RegisterWrites := by
  refine ⟨fun src a d s ha hp hr hpar => ?_, fun src a d s ha hp hr hpar hlock hrwl => ?_, fun src a d s ha hp hr hpar hc hrws hf => ?_,
    fun src p d s hp hr hpar => ?_, fun src a d s hout => ?_⟩
  · refine ⟨_, registerWrite_reached ha hr, ?_⟩
    rw [writeRegister_parity hp hpar]
    cases src <;> exact State.err_raised ..
  · refine ⟨_, registerWrite_reached ha hr, ?_⟩
    rw [writeRegister_locked hp hpar hlock hrwl]
    exact State.err_raised ..
  · have hset := settingWord_iff.2 hf
    refine ⟨_, registerWrite_reached ha hr, ?_⟩
    rw [writeRegister_fields hp hpar (settingWord_accMask hset (by decide) (by decide)) (settingWord_noCommand hp hset)]
    obtain ⟨hself, hothers, hdirty, hactive, hwords, hmem, htime, hcommits, hpwr, hlink⟩ :=
      writeFields_shadowSet (v := d.setWidth 32) hset hrws hc (portSrc src)
    exact ⟨hself, hothers, hdirty, hactive, hwords, hmem, htime, hcommits.trans hc, hpwr, hlink⟩
  · have hle := assigned_le hp
    have haddr : (BitVec.ofNat 24 (hdr p 4)).toNat = hdr p 4 := by
      rw [BitVec.toNat_ofNat, Nat.mod_eq_of_lt (by unfold hdr; omega)]
    have hpage : hdr p 4 / 0x400 = p := by unfold hdr; omega
    refine ⟨_, registerWrite_reached (by rw [haddr]; unfold hdr; omega) (by rw [haddr, hpage]; exact hr), ?_⟩
    rw [haddr, writeRegister_fields (by rw [hpage]; exact hp) hpar (intEn_accMask hp (by decide)) (intEn_noCommand p)]
    exact intEn_written hp _
  · by_cases hin : a.toNat < 0x40000 ∧ s.reachable (a.toNat / 0x400) = true
    · obtain ⟨ha, hr⟩ := hin
      have hp : assigned (a.toNat / 0x400) = false := by
        rcases hout with h | h | h
        · omega
        · rw [hr] at h
          exact absurd h (by decide)
        · exact h
      rw [registerWrite_reached ha hr, writeRegister_unassigned hp]
    · exact if_neg hin

end Sys2Proof.Machine
end


section
/-! SUPPORT. The ring snapshot of a hand (R78, R120 to R123, R126, R402): what the visit of one tile reads and changes, and the visits of a
sector one after the other. -/

namespace Sys2Proof.Machine

section
variable {s t u : State} {ws ws' : List Nat} {written read written' read' : Nat → Prop}

/-! ## What visits leave alone -/

/-- From `s` to `t` tiles have been visited: register words have changed only among `ws`, memory only at addresses `written`, bit errors
only at addresses `read`; the Dealer, the shadows, TIME and the power manager are as before. -/
structure RingsVisited (ws : List Nat) (written read : Nat → Prop) (s t : State) : Prop where
  words : SameWords s t ws
  memory : ∀ a, ¬written a → t.rd a = s.rd a
  errors : ∀ a, ¬read a → t.eccBad a = s.eccBad a
  deal : t.deal = s.deal
  shadow : t.shadow = s.shadow
  time : t.time = s.time
  pwr : t.pwr = s.pwr

namespace RingsVisited

theorem refl (s : State) : RingsVisited ws written read s s :=
  ⟨SameWords.refl s _, fun _ _ => rfl, fun _ _ => rfl, rfl, rfl, rfl, rfl⟩

theorem trans (h : RingsVisited ws written read s t) (h' : RingsVisited ws written read t u) : RingsVisited ws written read s u where
  words := h.words.trans h'.words
  memory a ha := (h'.memory a ha).trans (h.memory a ha)
  errors a ha := (h'.errors a ha).trans (h.errors a ha)
  deal := h'.deal.trans h.deal
  shadow := h'.shadow.trans h.shadow
  time := h'.time.trans h.time
  pwr := h'.pwr.trans h.pwr

theorem mono (h : RingsVisited ws written read s t) (hw : ∀ a, written a → written' a) (hr : ∀ a, read a → read' a)
    (hs : ∀ a ∈ ws, a ∈ ws' := by exact fun _ h => h) : RingsVisited ws' written' read' s t :=
  { h with
    words := h.words.mono hs
    memory := fun a ha => h.memory a fun hm => ha (hw a hm)
    errors := fun a ha => h.errors a fun hm => ha (hr a hm) }

/-- A fold whose accumulator carries the state first. -/
theorem foldl_fst {α β : Type} {f : State × β → α → State × β} (hf : ∀ x a, RingsVisited ws written read x.1 (f x a).1) (l : List α) :
    ∀ x : State × β, RingsVisited ws written read x.1 (l.foldl f x).1 := by
  induction l with
  | nil => exact fun x => refl x.1
  | cons a l ih => exact fun x => (hf x a).trans (ih _)

/-- Events and errors touch neither memory nor its check bits. -/
theorem of_events (h : OnlyEvents s t) (hw : SameWords s t ws) : RingsVisited ws written read s t := by
  obtain ⟨_, _, _, _, rfl⟩ := onlyEvents_iff.1 h
  exact ⟨hw, fun _ _ => rfl, fun _ _ => rfl, rfl, rfl, rfl, rfl⟩

theorem wr (s : State) (a : Nat) (v : Word36) : RingsVisited ws (· = a) (· = a) s (s.wr a v) where
  words := SameWords.of_regs rfl
  memory _ hb := State.rd_wr_ne s v hb
  errors b hb := by
    unfold State.eccBad State.wr
    rw [List.any_filter]
    refine congrArg (List.any s.ecc) (funext fun e => ?_)
    by_cases he : e.1 = b <;> simp [he, hb]
  deal := rfl
  shadow := rfl
  time := rfl
  pwr := rfl

end RingsVisited

/-- The error counts of the other memories and the page of the banks (R352). -/
def eccWords : List Nat := [BANK.ECC_CNT, hdr 0x0D 3]

theorem eccCount_visits (s : State) (unc : Bool) : RingsVisited eccWords written read s (s.eccCount unc) := by
  have hcount (x : Fld) (b : Nat) (hx : x.addr = BANK.ECC_CNT) : RingsVisited eccWords written read s ((s.incF x).event 0x0D b) :=
    .of_events (((OnlyEvents.refl s).addF x 1).event _ b)
      (((SameWords.refl s _).setF _ (by simp [eccWords, hx])).event b (by simp [eccWords]))
  unfold State.eccCount
  split
  · exact hcount _ _ rfl
  · exact hcount _ _ rfl

/-- A word outside the banks read with its check bits: memory stays, and a correctable error of the word goes (R82, R352). -/
theorem eccRead_visits (s : State) {a : Nat} (ha : memRegion a ≠ 4) : RingsVisited eccWords (fun _ => False) (· = a) s (s.eccRead a) := by
  unfold State.eccRead
  rw [if_neg ha]
  split
  · exact .refl s
  · exact eccCount_visits s true
  · have hfilter : RingsVisited eccWords (fun _ => False) (· = a) s { s with ecc := s.ecc.filter (·.1 != a) } :=
      { RingsVisited.wr s a (s.rd a) with memory := fun _ _ => rfl }
    exact hfilter.trans (eccCount_visits _ false)

/-! ## The ring of a tile (R116) -/

/-- An address lies in the ring of a tile. -/
def InRing (tile a : Nat) : Prop := a / 32 = 0x50000 + tile

/-- A queue place of the ring of a tile. -/
def InQueue (tile a : Nat) : Prop := queuePlace a = true ∧ InRing tile a

theorem queuePos_range (head i : Nat) : 1 ≤ queuePos head i ∧ queuePos head i ≤ 15 := by
  unfold queuePos
  omega

theorem inRing_ringAddr (tile : Nat) {i : Nat} (hi : i < 32) : InRing tile (ringAddr tile 0 + i) := by
  unfold InRing ringAddr
  omega

theorem InRing.unique {tile tile' a : Nat} (h : InRing tile a) (h' : InRing tile' a) : tile = tile' :=
  Nat.add_left_cancel (h.symm.trans h')

theorem memRegion_ring {tile a : Nat} (ht : tile < 8192) (h : InRing tile a) : memRegion a = 1 := by
  unfold InRing at h
  unfold memRegion
  rw [if_neg (by omega), if_pos (by omega)]

theorem inQueue_ringAddr {tile : Nat} (ht : tile < 8192) (head i : Nat) {b : Nat} (hb : b < 2) :
    InQueue tile (ringAddr tile (queuePos head i) + b) := by
  obtain ⟨hlow, hhigh⟩ := queuePos_range head i
  have hring : InRing tile (ringAddr tile (queuePos head i) + b) := by
    unfold InRing ringAddr
    omega
  have hplace : 2 ≤ (ringAddr tile (queuePos head i) + b) % 32 := by
    unfold ringAddr
    omega
  exact ⟨by simp [queuePlace, memRegion_ring ht hring, hplace], hring⟩

/-- Descriptors depend on the table entry and the ring of their tile. -/
theorem desc_congr {tile : Nat} (ht : tile < 8192) (hd : t.deal = s.deal) (hm : ∀ a, InRing tile a → t.rd a = s.rd a) (i : Nat) :
    t.desc tile i = s.desc tile i := by
  have hq (b : Nat) (hb : b < 2) := (inQueue_ringAddr ht (s.ringHead tile) i hb).2
  simp only [State.desc, State.ringHead, State.ringTab, hd]
  exact Prod.ext (hm _ (hq 0 (by decide))) (hm _ (hq 1 (by decide)))

theorem descSums_congr {tile : Nat} (ht : tile < 8192) (hd : t.deal = s.deal) (hm : ∀ a, InRing tile a → t.rd a = s.rd a) :
    t.descSums tile = s.descSums tile := by
  simp only [State.descSums, desc_congr ht hd hm, State.ringCount, State.ringTab, hd]

theorem setDesc_visits {tile : Nat} (ht : tile < 8192) (s : State) (i : Nat) (d : Word36 × Word36) :
    RingsVisited ws (InQueue tile) (InRing tile) s (s.setDesc tile i d) := by
  have hwr (u : State) (b : Nat) (hb : b < 2) (v : Word36) :
      RingsVisited ws (InQueue tile) (InRing tile) u (u.wr (ringAddr tile (queuePos (s.ringHead tile) i) + b) v) := by
    have hq := inQueue_ringAddr ht (s.ringHead tile) i hb
    exact (RingsVisited.wr u _ v).mono (fun _ e => e ▸ hq) fun _ e => e ▸ hq.2
  exact (hwr s 0 (by decide) d.1).trans (hwr _ 1 (by decide) d.2)

theorem takeVisit_visits {tile : Nat} (ht : tile < 8192) (s : State) :
    RingsVisited ws (InQueue tile) (InRing tile) s (s.takeVisit tile).1 := by
  refine RingsVisited.foldl_fst (fun x i => ?_) _ (s, [])
  dsimp only
  split
  · exact .refl _
  · exact setDesc_visits ht ..

/-- The words of a ring read with their check bits. -/
theorem eccReads_visits {tile : Nat} (ht : tile < 8192) (s : State) : RingsVisited eccWords (fun _ => False) (InRing tile) s
    ((List.range 32).foldl (fun s i => s.eccRead (ringAddr tile 0 + i)) s) := by
  suffices h : ∀ (l : List Nat) (s : State), (∀ i ∈ l, i < 32) →
      RingsVisited eccWords (fun _ => False) (InRing tile) s (l.foldl (fun s i => s.eccRead (ringAddr tile 0 + i)) s) from
    h _ s fun i hi => List.mem_range.1 hi
  intro l
  induction l with
  | nil => exact fun s _ => .refl s
  | cons i l ih =>
    intro s hl
    obtain ⟨hi, hrest⟩ := List.forall_mem_cons.1 hl
    have hring := inRing_ringAddr tile hi
    have hread := eccRead_visits s (a := ringAddr tile 0 + i) (by rw [memRegion_ring ht hring]; decide)
    exact (hread.mono (fun _ h => h) fun _ e => e ▸ hring).trans (ih _ hrest)

/-! ## The visit of a tile (R120, R122, R126) -/

/-- A tile is live for a hand: its place 0 is, its firing-frame index is in range, and no word of its ring is uncorrectable (R118, R126,
R402). -/
def State.tileLive (c s : State) (step tile : Nat) : Bool :=
  placeLive (s.rd (ringAddr tile 0)) &&
  decide (c.patBase step + bitsOf (s.rd (ringAddr tile 0)).toNat 0 13 < c.f EMIT.FF_CTRL.FF_SIZE) &&
  !(List.range 32).any fun i => s.eccBad (ringAddr tile 0 + i)

/-- The shots of bids and trumps that a hand counts: none for the hand with which RUN begins (R121). -/
def State.countedSums (s : State) (h : Hand) (tile : Nat) : Nat × Nat := if h.entry then (0, 0) else s.descSums tile

/-- The visited tile as the hand takes it from the state before the snapshot. -/
def State.tileSeen (c s : State) (h : Hand) (step tile : Nat) : HandTile :=
  let w := s.rd (ringAddr tile 0)
  let sums := s.countedSums h tile
  let scale := s.f DEAL.HAND_STAT.SCALE
  let live := State.tileLive c s step tile
  let b := if live then budget h.sEff (dShots w) sums.1 sums.2 scale else 0
  { tile := tile, group := c.groupOf (tile / 128), entry := c.patBase step + bitsOf w.toNat 0 13, budget := b,
    opening := openShare b h.openSlots h.sEff, trump := if live then sums.2 else 0, spentO := 0, spentT := 0,
    ante := if live then dShots w / 2 ^ scale else 0 }

theorem tileLive_iff {c : State} {step tile : Nat} : State.tileLive c s step tile = true ↔
    placeLive (s.rd (ringAddr tile 0)) = true ∧
    c.patBase step + bitsOf (s.rd (ringAddr tile 0)).toNat 0 13 < c.f EMIT.FF_CTRL.FF_SIZE ∧
    ∀ i < 32, s.eccBad (ringAddr tile 0 + i) = false := by
  simp [State.tileLive, and_assoc]

theorem tileSeen_live {c : State} {h : Hand} {step tile : Nat} (hl : State.tileLive c s step tile = true) :
    (State.tileSeen c s h step tile).budget = min h.sEff ((s.countedSums h tile).2 +
      (dShots (s.rd (ringAddr tile 0)) + (s.countedSums h tile).1) / 2 ^ s.f DEAL.HAND_STAT.SCALE) ∧
    (State.tileSeen c s h step tile).trump = (s.countedSums h tile).2 := by
  simp only [State.tileSeen, hl, if_true, budget, and_self]

theorem tileSeen_dark {c : State} {h : Hand} {step tile : Nat} (hl : ¬State.tileLive c s step tile = true) :
    (State.tileSeen c s h step tile).budget = 0 ∧ (State.tileSeen c s h step tile).trump = 0 := by
  simp [State.tileSeen, hl]

theorem eccWords_scale : DEAL.HAND_STAT.SCALE.addr ∉ eccWords := by decide

/-- What a snapshot sees of a tile is the same after visits of others. -/
theorem tileSeen_congr (hv : RingsVisited eccWords written read s t) {tile : Nat} (ht : tile < 8192)
    (hw : ∀ a, InRing tile a → ¬written a) (hr : ∀ a, InRing tile a → ¬read a) (c : State) (h : Hand) (step : Nat) :
    State.tileSeen c t h step tile = State.tileSeen c s h step tile := by
  have hm (a : Nat) (ha : InRing tile a) : t.rd a = s.rd a := hv.memory a (hw a ha)
  have hword : t.rd (ringAddr tile 0) = s.rd (ringAddr tile 0) := hm _ (inRing_ringAddr tile (i := 0) (by decide))
  have hbad (i : Nat) (hi : i < 32) := hv.errors _ (hr _ (inRing_ringAddr tile hi))
  have hlive : State.tileLive c t step tile = State.tileLive c s step tile := by
    rw [Bool.eq_iff_iff, tileLive_iff, tileLive_iff, hword]
    simp +contextual only [hbad]
  simp only [State.tileSeen, State.countedSums, hlive, hword, descSums_congr ht hv.deal hm, hv.words.f eccWords_scale]

theorem snapTile_tile (c s : State) (h : Hand) (step : Nat) {tile : Nat} (ht : tile < 8192) :
    (State.snapTile c s h step tile).2.1 = State.tileSeen c s h step tile := by
  have hv := eccReads_visits ht s
  have hsums := descSums_congr ht hv.deal fun a _ => hv.memory a id
  have hscale := hv.words.f eccWords_scale
  have htake (u : State) : (u.takeVisit tile).1.f DEAL.HAND_STAT.SCALE = u.f DEAL.HAND_STAT.SCALE :=
    (takeVisit_visits (ws := []) ht u).words.f (by decide)
  cases he : h.entry <;>
    simp only [State.snapTile, State.tileSeen, State.tileLive, State.countedSums, he, hsums, hscale, htake, if_true, if_false,
      Bool.false_eq_true] <;> rfl

/-- What the visit of a tile may write: queue places of its ring, and nothing for the hand with which RUN begins (R120, R121). -/
def MayWrite (h : Hand) (tile a : Nat) : Prop := h.entry = false ∧ InQueue tile a

theorem snapTile_visits (c s : State) (h : Hand) (step : Nat) {tile : Nat} (ht : tile < 8192) :
    RingsVisited eccWords (MayWrite h tile) (InRing tile) s (State.snapTile c s h step tile).1 := by
  have hv := eccReads_visits ht s
  have hreads := hv.mono (written' := MayWrite h tile) (fun _ hf => hf.elim) fun _ ha => ha
  cases he : h.entry with
  | true =>
    simp only [State.snapTile, he, if_true]
    exact hreads
  | false =>
    simp only [State.snapTile, he, Bool.false_eq_true, if_false]
    exact hreads.trans ((takeVisit_visits ht _).mono (fun _ ha => ⟨he, ha⟩) fun _ ha => ha)

/-! ## The visits of a sector (R120) -/

/-- What the visits of a sector add up: the state, the tiles, the descriptors counted and the errors met. -/
abbrev Visits := State × List HandTile × List (Nat × Nat × Nat) × List (Nat × Nat)

/-- The visit of the tile of a band. -/
def visitBand (c : State) (h : Hand) (step sec : Nat) (x : Visits) (b : Nat) : Visits :=
  let y := State.snapTile c x.1 h step (128 * b + sec)
  (y.1, x.2.1 ++ [y.2.1], x.2.2.1 ++ y.2.2.1, x.2.2.2 ++ y.2.2.2)

/-- The visits of the tiles of some bands leave the others as they were, and each sees its tile as it was before all of them. -/
theorem visitBands (c : State) (h : Hand) (step : Nat) {sec : Nat} (hsec : sec < 128) (l : List Nat) : ∀ x : Visits, l.Nodup →
    (∀ b ∈ l, b < 64) →
    (l.foldl (visitBand c h step sec) x).2.1 = x.2.1 ++ l.map (fun b => State.tileSeen c x.1 h step (128 * b + sec)) ∧
    RingsVisited eccWords (fun a => ∃ b ∈ l, MayWrite h (128 * b + sec) a) (fun a => ∃ b ∈ l, InRing (128 * b + sec) a) x.1
      (l.foldl (visitBand c h step sec) x).1 := by
  induction l with
  | nil => exact fun x _ _ => ⟨(List.append_nil _).symm, .refl _⟩
  | cons b l ih =>
    intro x hnd hl
    obtain ⟨hb, hrest⟩ := List.forall_mem_cons.1 hl
    obtain ⟨hnot, hnd'⟩ := List.nodup_cons.1 hnd
    have ht : 128 * b + sec < 8192 := by omega
    have hvisit := snapTile_visits c x.1 h step ht
    obtain ⟨htiles, hvisits⟩ := ih (visitBand c h step sec x b) hnd' hrest
    refine ⟨?_, (hvisit.mono (fun a ha => ⟨b, List.mem_cons_self .., ha⟩) fun a ha => ⟨b, List.mem_cons_self .., ha⟩).trans
      (hvisits.mono (fun a ⟨k, hk, ha⟩ => ⟨k, List.mem_cons_of_mem _ hk, ha⟩) fun a ⟨k, hk, ha⟩ => ⟨k, List.mem_cons_of_mem _ hk, ha⟩)⟩
    have hother (k : Nat) (hk : k ∈ l) : State.tileSeen c (visitBand c h step sec x b).1 h step (128 * k + sec) =
        State.tileSeen c x.1 h step (128 * k + sec) := by
      have hk64 := hrest k hk
      have hout (a : Nat) (ha : InRing (128 * k + sec) a) : ¬InRing (128 * b + sec) a := fun hab => by
        have := ha.unique hab
        exact hnot ((by omega : k = b) ▸ hk)
      exact tileSeen_congr hvisit (by omega) (fun a ha hm => hout a ha hm.2.2) hout c h step
    rw [List.foldl_cons, htiles, List.map_cons, List.map_congr_left hother, ← snapTile_tile c x.1 h step ht]
    simp only [visitBand, List.append_assoc, List.singleton_append]

/-! ## The snapshot -/

/-- What the snapshot of a hand reports of its tiles: their errors in order of code, and antes that exceed their places (R87, R123, R402). -/
def State.reported (c s : State) (h : Hand) (tiles : List HandTile) (errs : List (Nat × Nat)) : State :=
  State.anteCheck c ((sortBy (fun x y => decide (x.1 ≤ y.1)) errs).foldl (fun s e => s.errAt 0x10 e.1 0 0x10 e.2) s) h tiles

/-- A hand with its tiles taken. -/
def Hand.withTiles (h : Hand) (tiles : List HandTile) (served : List (Nat × Nat × Nat)) (masks : Cells 32) : Hand :=
  { h with snapped := true, tiles := tiles, served := served, masks := masks }

/-- The snapshot as its parts: the visits, what is reported of them, and the hand with its tiles. -/
theorem snapshot_eq (s : State) (h : Hand) : s.snapshot h =
    (let c := s.asNext
     let v : Visits := (if c.dealerOn then List.range 64 else []).foldl (visitBand c h (s.patternFor h).1 (c.sector h.az)) (s, [], [], [])
     let r := State.reported c v.1 h v.2.1 v.2.2.2
     { r with deal := { r.deal with next := some (h.withTiles v.2.1 v.2.2.1 (maskWords c.regs)) } }) := rfl

theorem asNext_of_latched (h : s.latched = []) : s.asNext = s := by
  have hregs : s.latched.foldl (fun m l => putRws m l.words) s.regs = s.regs := by rw [h]; rfl
  rw [State.asNext, hregs]

/-- The words in which a snapshot reports (R87, R123). -/
def snapWords : List Nat := [DEAL.SHORT, hdr 0x10 3, hdr 0x10 6, hdr 0x10 7]

theorem errAts_visits (l : List (Nat × Nat)) : ∀ s : State,
    RingsVisited snapWords written read s (l.foldl (fun s e => s.errAt 0x10 e.1 0 0x10 e.2) s) := by
  induction l with
  | nil => exact fun s => .refl s
  | cons e l ih =>
    intro s
    have hwords := (State.errAt_sameWords s 0x10 e.1 0 0x10 e.2).mono (vs := snapWords) (by simp [snapWords])
    exact (RingsVisited.of_events (State.errAt_onlyEvents ..) hwords).trans (ih _)

theorem anteCheck_visits (c s : State) (h : Hand) (tiles : List HandTile) :
    RingsVisited snapWords written read s (State.anteCheck c s h tiles) := by
  unfold State.anteCheck
  split
  · exact .of_events (((OnlyEvents.refl s).addF _ _).event _ _)
      (((SameWords.refl s _).setF _ (by simp [snapWords, DEAL.SHORT.ANTE_OVER])).event _ (by simp [snapWords]))
  · exact .refl s

theorem reported_visits (c s : State) (h : Hand) (tiles : List HandTile) (errs : List (Nat × Nat)) :
    RingsVisited snapWords written read s (State.reported c s h tiles errs) :=
  (errAts_visits _ s).trans (anteCheck_visits c _ h tiles)

/-- With no tile visited nothing is reported. -/
theorem reported_nil (c s : State) (h : Hand) : State.reported c s h [] [] = s := if_neg (by simp [anteSum])

/-- A snapshot with the Dealer off takes no tile and changes nothing else (R86). -/
theorem snapshot_off {h : Hand} (hl : s.latched = []) (hoff : s.dealerOn = false) :
    s.snapshot h = { s with deal := { s.deal with next := some (h.withTiles [] [] (maskWords s.regs)) } } := by
  rw [snapshot_eq]
  simp only [asNext_of_latched hl, hoff, Bool.false_eq_true, if_false, List.foldl_nil, reported_nil]

theorem sector_lt (s : State) (az : Nat) : s.sector az < 128 := Nat.mod_lt _ (by decide)

/-- The tiles of the sector of a hand. -/
def State.sectorSeen (s : State) (h : Hand) : List HandTile :=
  (List.range 64).map fun b => State.tileSeen s s h (s.patternFor h).1 (128 * b + s.sector h.az)

/-- A snapshot with the Dealer on: the tiles of the sector as they were before it, and what it may change (R120 to R123). -/
theorem snapshot_on {h : Hand} (hl : s.latched = []) (hon : s.dealerOn = true) : ∃ r served,
    s.snapshot h = { r with deal := { r.deal with next := some (h.withTiles (s.sectorSeen h) served (maskWords s.regs)) } } ∧
    RingsVisited (snapWords ++ eccWords) (fun a => h.entry = false ∧ queuePlace a = true) (fun _ => True) s r := by
  obtain ⟨htiles, hvisits⟩ := visitBands s h (s.patternFor h).1 (sector_lt s h.az) (List.range 64) (s, [], [], []) List.nodup_range
    fun b hb => List.mem_range.1 hb
  rw [snapshot_eq]
  simp only [asNext_of_latched hl, hon, if_true]
  generalize (List.range 64).foldl (visitBand s h (s.patternFor h).1 (s.sector h.az)) (s, [], [], []) = v at *
  rw [show v.2.1 = s.sectorSeen h from htiles]
  refine ⟨_, v.2.2.1, rfl, ?_⟩
  exact (hvisits.mono (fun a ⟨_, _, he, hq, _⟩ => ⟨he, hq⟩) (fun _ _ => trivial) fun _ => List.mem_append_right _).trans
    ((reported_visits ..).mono (fun _ ha => ha) (fun _ ha => ha) fun _ => List.mem_append_left _)

/-! ## The command -/

/-- The hand announced is due for its snapshot: in RUN that goes on, or as the hand with which RUN begins (R68, R120). -/
def State.SnapDue (s : State) (h : Hand) : Prop :=
  (s.pwr.st = .run ∧ s.pwr.readyPending = false ∧ s.pwr.target = .run) ∨ h.entry = true

theorem ringSnapshot_due {h : Hand} (hnext : s.deal.next = some h) (hsnap : h.snapped = false) (hskip : h.skipped = false)
    (hdue : s.SnapDue h) : exec .ringSnapshot s = .next (if s.fb CLK.DROOP.HANDS_HELD then s.skipHand h else s.snapshot h) := by
  change execRingSnapshot s = _
  unfold execRingSnapshot
  rw [hnext, apply_ite Host.Outcome.next]
  refine if_neg ?_
  rcases hdue with ⟨hst, hpending, htarget⟩ | hentry
  · simp [hsnap, hskip, hst, hpending, htarget]
  · simp [hsnap, hskip, hentry]

/-- A skipped hand is counted (R78). -/
theorem skipHand_counts (s : State) (h : Hand) :
    (s.skipHand h).f CLK.DROOP_STAT.HANDS_SKIPPED = satAdd 16 (s.f CLK.DROOP_STAT.HANDS_SKIPPED) 1 ∧
    SameWords s (s.skipHand h) [CLK.DROOP_STAT, hdr 0x01 3] := by
  have hcount : (s.incF CLK.DROOP_STAT.HANDS_SKIPPED).f CLK.DROOP_STAT.HANDS_SKIPPED = satAdd 16 (s.f CLK.DROOP_STAT.HANDS_SKIPPED) 1 :=
    State.f_addF_self s _ 1 (by decide)
  have hevent (u : State) (c : Bool) : SameWords u (u.eventIf c 0x01 3) [hdr 0x01 3] := by
    unfold State.eventIf
    split
    · exact (SameWords.refl u _).event 3 (by simp)
    · exact .refl u _
  have hwords : SameWords s (s.incF CLK.DROOP_STAT.HANDS_SKIPPED) [CLK.DROOP_STAT, hdr 0x01 3] :=
    (SameWords.refl s _).setF _ (by simp [CLK.DROOP_STAT.HANDS_SKIPPED])
  exact ⟨((hevent _ s.pwr.droopLong).f (by decide)).trans hcount, hwords.trans ((hevent _ _).mono (by simp))⟩

end

/-- Settles O26: the visits of a sector see its tiles as they were (`snapshot_on`), none is visited with the Dealer off (`snapshot_off`),
and a hand held back is counted (`skipHand_counts`). -/
theorem ringSnapshots : Obligations.RingSnapshots := by
  refine ⟨fun h s hnext hsnap hskip hdue hheld hl hon => ?_, fun h s hnext hsnap hskip hdue hheld hl hoff => ?_,
    fun h s hnext hsnap hskip hdue hheld => ?_, fun s hnext => ?_⟩
  · obtain ⟨r, served, he, hv⟩ := snapshot_on (h := h) hl hon
    have hcur : r.deal.cur = s.deal.cur := congrArg Deal.cur hv.deal
    rw [ringSnapshot_due hnext hsnap hskip hdue, hheld, if_neg Bool.false_ne_true, he]
    refine ⟨_, _, rfl, rfl, ⟨rfl, rfl, rfl, rfl, rfl, rfl, rfl, rfl⟩, rfl, by simp [Hand.withTiles, State.sectorSeen], fun b hb => ?_,
      fun a ha => hv.memory a ?_, hv.words.mono (by simp [snapWords, eccWords]), hcur, hv.shadow, hv.time, hv.pwr⟩
    · refine ⟨_, List.mem_map.2 ⟨b, List.mem_range.2 hb, rfl⟩, rfl, rfl, rfl, rfl, rfl, fun hlive => ?_, fun hdark => ?_, rfl⟩
      · exact tileSeen_live (tileLive_iff.2 hlive)
      · exact tileSeen_dark fun hlive => hdark (tileLive_iff.1 hlive)
    · rintro ⟨hentry, hqueue⟩
      rcases ha with h' | h'
      · exact Bool.false_ne_true (h'.symm.trans hqueue)
      · exact Bool.false_ne_true (hentry.symm.trans h')
  · rw [ringSnapshot_due hnext hsnap hskip hdue, hheld, if_neg Bool.false_ne_true, snapshot_off hl hoff]
    exact ⟨_, _, rfl, rfl, ⟨rfl, rfl, rfl, rfl, rfl, rfl, rfl, rfl⟩, rfl, rfl, rfl⟩
  · obtain ⟨hcount, hwords⟩ := skipHand_counts s h
    rw [ringSnapshot_due hnext hsnap hskip hdue, hheld, if_pos rfl]
    exact ⟨_, _, rfl, rfl, ⟨rfl, rfl, rfl, rfl, rfl, rfl, rfl, rfl⟩, rfl, rfl, hcount, hwords,
      State.rd_congr (by simp [State.skipHand]) (by simp [State.skipHand]), by simp [State.skipHand], by simp [State.skipHand]⟩
  · change execRingSnapshot s = _
    unfold execRingSnapshot
    rw [hnext]

end Sys2Proof.Machine
end


section
/-! SUPPORT. Shots (R31, R115, R124, R127 to R129, R146, R153, R156): what the closing of a slot makes of its hand, and what a fire
command leaves. -/

namespace Sys2Proof.Machine

section
variable {s t u : State} {ws : List Nat}

/-! ## Elements of lists -/

theorem nth_setNth_self {α : Type} {l : List α} {i : Nat} (hi : i < l.length) (x d : α) : nth (setNth l i x) i d = x := by
  simp [nth, setNth, hi]

theorem lt_length_of_nth {α : Type} {l : List α} {i : Nat} {d : α} (h : nth l i d ≠ d) : i < l.length := by
  by_contra hi
  exact h (List.getD_eq_default _ _ (Nat.le_of_not_lt hi))

theorem nth_setNth_default {α : Type} (l : List α) (i : Nat) (d : α) : nth (setNth l i d) i d = d := by
  by_contra h
  have hi : i < (setNth l i d).length := lt_length_of_nth h
  exact h (nth_setNth_self (by simpa [setNth] using hi) d d)

theorem nth_setNth_some {α : Type} {l : List (Option α)} {i : Nat} {x y : α} (h : nth (setNth l i (some x)) i none = some y) :
    y = x ∨ nth l i none = some y := by
  by_cases hi : i < l.length
  · rw [nth_setNth_self hi] at h
    exact .inl (Option.some.inj h).symm
  · rw [setNth, List.set_eq_of_length_le (Nat.le_of_not_lt hi)] at h
    exact .inr h

theorem mem_sortBy {α : Type} (lt : α → α → Bool) {y : α} : ∀ {l : List α}, y ∈ sortBy lt l ↔ y ∈ l
  | [] => Iff.rfl
  | x :: l => by rw [sortBy, mem_insertBy, mem_sortBy lt, List.mem_cons]

/-! ## What shots leave alone -/

/-- From `s` to `t` register words have changed only among `ws`; memory, the hand in progress and the one announced, the shots issued, the
shadows, TIME and the power manager are as before. -/
structure KeepsHands (ws : List Nat) (s t : State) : Prop where
  words : SameWords s t ws
  memory : SameMemory s t
  cur : t.deal.cur = s.deal.cur
  next : t.deal.next = s.deal.next
  shots : t.emit.shots = s.emit.shots
  shadow : t.shadow = s.shadow
  time : t.time = s.time
  pwr : t.pwr = s.pwr

namespace KeepsHands

theorem refl (s : State) (ws : List Nat) : KeepsHands ws s s :=
  ⟨SameWords.refl s ws, fun _ => rfl, rfl, rfl, rfl, rfl, rfl, rfl⟩

theorem trans (h : KeepsHands ws s t) (h' : KeepsHands ws t u) : KeepsHands ws s u where
  words := h.words.trans h'.words
  memory a := (h'.memory a).trans (h.memory a)
  cur := h'.cur.trans h.cur
  next := h'.next.trans h.next
  shots := h'.shots.trans h.shots
  shadow := h'.shadow.trans h.shadow
  time := h'.time.trans h.time
  pwr := h'.pwr.trans h.pwr

/-- An update of what stands beside the parts listed. -/
theorem update (h : KeepsHands ws s t) (hr : u.regs = t.regs := by rfl) (hm : u.mem = t.mem := by rfl)
    (hl : u.lost = t.lost := by rfl) (hc : u.deal.cur = t.deal.cur := by rfl) (hn : u.deal.next = t.deal.next := by rfl)
    (he : u.emit.shots = t.emit.shots := by rfl) (hs : u.shadow = t.shadow := by rfl) (ht : u.time = t.time := by rfl)
    (hp : u.pwr = t.pwr := by rfl) : KeepsHands ws s u :=
  h.trans ⟨SameWords.of_regs hr, State.rd_congr hm hl, hc, hn, he, hs, ht, hp⟩

theorem ite {c : Prop} {_ : Decidable c} {a b : State} (ha : KeepsHands ws s a) (hb : KeepsHands ws s b) :
    KeepsHands ws s (if c then a else b) := by
  split
  · exact ha
  · exact hb

theorem foldl {α : Type} {f : State → α → State} (l : List α)
    (hf : ∀ u, ∀ x ∈ l, KeepsHands ws s u → KeepsHands ws s (f u x)) : ∀ {t}, KeepsHands ws s t → KeepsHands ws s (l.foldl f t) := by
  induction l with
  | nil => exact fun h => h
  | cons x l ih => exact fun h => ih (fun u y hy => hf u y (List.mem_cons_of_mem _ hy)) (hf _ x (List.mem_cons_self ..) h)

theorem setReg (h : KeepsHands ws s t) {a : Nat} (ha : a ∈ ws) (v : Word) : KeepsHands ws s (t.setReg a v) :=
  h.trans ⟨(SameWords.refl t ws).setReg v ha, fun _ => rfl, rfl, rfl, rfl, rfl, rfl, rfl⟩

theorem setF (h : KeepsHands ws s t) {x : Fld} (hx : x.addr ∈ ws) (v : Nat) : KeepsHands ws s (t.setF x v) := h.setReg hx _
theorem addF (h : KeepsHands ws s t) {x : Fld} (hx : x.addr ∈ ws) (n : Nat) : KeepsHands ws s (t.addF x n) := h.setF hx _
theorem incF (h : KeepsHands ws s t) {x : Fld} (hx : x.addr ∈ ws) : KeepsHands ws s (t.incF x) := h.addF hx 1

theorem onlyEvents (h : KeepsHands ws s t) (he : OnlyEvents t u) (hw : SameWords t u ws) : KeepsHands ws s u := by
  obtain ⟨_, _, _, _, rfl⟩ := onlyEvents_iff.1 he
  exact h.trans ⟨hw, fun _ => rfl, rfl, rfl, rfl, rfl, rfl, rfl⟩

theorem event (h : KeepsHands ws s t) {p : Nat} (hp : hdr p 3 ∈ ws) (b : Nat) : KeepsHands ws s (t.event p b) :=
  h.onlyEvents ((OnlyEvents.refl t).event p b) ((SameWords.refl t ws).event b hp)

theorem errAt (h : KeepsHands ws s t) {p : Nat} (hp : ∀ a ∈ [hdr p 3, hdr p 6, hdr p 7], a ∈ ws) (code src pg off : Nat) :
    KeepsHands ws s (t.errAt p code src pg off) :=
  h.onlyEvents (State.errAt_onlyEvents ..) ((State.errAt_sameWords t p code src pg off).mono hp)

theorem putBus (h : KeepsHands ws s t) (addr : Option Nat) (type : Nat) (l : List Nat) : KeepsHands ws s (t.putBus addr type l) :=
  ite h.update h

/-! ## Arbitration (R124, R144, R153) -/

theorem armFrame (h : KeepsHands ws s t) (k : Hand) (slot step sec : Nat) (bands : List Nat) :
    KeepsHands ws s (t.armFrame k slot step sec bands) := by
  unfold State.armFrame
  extract_lets m m' ldb t'
  have h1 : KeepsHands ws s t' := h.update
  exact ite h1 (h1.putBus _ _ _)

theorem slotsCut (h : KeepsHands ws s t) (hk : DEAL.LOST ∈ ws ∧ hdr 0x10 3 ∈ ws) (mode n : Nat) : KeepsHands ws s (t.slotsCut mode n) :=
  ite h ((h.addF hk.1 _).event hk.2 4)

theorem cutSlot (h : KeepsHands ws s t) (hk : DEAL.LOST ∈ ws ∧ hdr 0x10 3 ∈ ws) (k : Hand) (mode slot : Nat) :
    KeepsHands ws s (t.cutSlot k mode slot).1 := by
  unfold State.cutSlot
  split
  · exact h
  · exact h.slotsCut hk mode 1

theorem govern (h : KeepsHands ws s t) (hk : EMIT.DENY ∈ ws) (cells : List FireCell) (n : Nat) : KeepsHands ws s (t.govern cells n).1 := by
  have hdeny (w : Nat) : (denyField w).addr = EMIT.DENY := by
    unfold denyField
    split <;> rfl
  unfold State.govern
  split
  · next w _ => exact h.incF ((hdeny w).symm ▸ hk)
  · exact h.update

/-! ## Fire commands withheld (R31, R153, R156) -/

theorem takeBack (h : KeepsHands ws s t) (d : Decision) : KeepsHands ws s (t.takeBack d) := foldl _ (fun _ _ _ h => h.update) h

theorem withhold (h : KeepsHands ws s t) (hk : DEAL.DENIED ∈ ws ∧ hdr 0x10 3 ∈ ws) (d : Decision) : KeepsHands ws s (t.withhold d) :=
  ite (h.takeBack d) (((h.takeBack d).addF hk.1 _).event hk.2 6)

/-! ## Channels armed and tricks fed (R195, R198, R227) -/

theorem armChannel (h : KeepsHands ws s t) (c : Nat) (sh : Shot) : KeepsHands ws s (t.armChannel c sh) := h.update

theorem armShot (h : KeepsHands ws s t) (hk : ∀ k < 8, TDC.ARMX_CNT k ∈ ws) (sh : Shot) (high : Bool) :
    KeepsHands ws s (t.armShot sh high) :=
  foldl _ (fun _ k hm h => h.incF (x := TDC.ARMX_CNT.SHOT_BLOCK k) (hk k (by simpa using (List.mem_filter.1 hm).1)))
    (foldl _ (fun _ c _ h => ite h (ite h.update (h.armChannel c sh))) h)

theorem feedTricks (h : KeepsHands ws s t) (hk : HIST.LATE ∈ ws ∧ hdr 0x38 3 ∈ ws) (c : Nat) (sh : Shot) :
    KeepsHands ws s (t.feedTricks c sh) :=
  ite h (ite h.update ((h.incF (x := HIST.LATE.TRICK_LATE) hk.1).event hk.2 1))

/-! ## Triggers (R277, R280, R281, R284, R285) -/

theorem missed (h : KeepsHands ws s t) (hk : ACQ.CNT_A ∈ ws) : KeepsHands ws s t.missed := h.incF hk

theorem missedOther (h : KeepsHands ws s t) (hk : ACQ.CNT_A ∈ ws) (n : Nat) (sample : Option Nat) :
    KeepsHands ws s (t.missedOther n sample) := by
  unfold State.missedOther
  split
  · exact h.missed hk
  · exact KeepsHands.missed h.update hk

theorem nextCapture (h : KeepsHands ws s t) (hk : ACQ.CNT_A ∈ ws) (a : AcqSet) (sample : Option Nat) :
    KeepsHands ws s (t.nextCapture a sample) := by
  unfold State.nextCapture
  extract_lets shared t'
  have h1 : KeepsHands ws s t' := by
    unfold t'
    split
    · exact ite (h.setF (x := ACQ.CNT_A.MISSED) hk _) h
    · exact h
  exact h1.update

theorem firstTrigger (h : KeepsHands ws s t) (hk : ACQ.CNT_B ∈ ws) (n : Nat) (sample : Option Nat) (shot : Option (Nat × Nat × Nat)) :
    KeepsHands ws s (t.firstTrigger n sample shot) :=
  ite h (ite (KeepsHands.incF h.update hk) h.update)

theorem takeTrigger (h : KeepsHands ws s t) (hk : ACQ.CNT_A ∈ ws ∧ ACQ.CNT_B ∈ ws ∧ hdr 0x32 3 ∈ ws) (n : Nat) (sample : Option Nat)
    (shot : Option (Nat × Nat × Nat)) : KeepsHands ws s (t.takeTrigger n sample shot) := by
  obtain ⟨ha, hb, he⟩ := hk
  have hfull : KeepsHands ws s ((t.incF ACQ.CNT_B.RING_FULL).event 0x32 2) := (h.incF hb).event he 2
  unfold State.takeTrigger
  split
  · split
    · exact ite h.update (h.missed ha)
    · exact h
  · refine ite (h.missed ha) ?_
    split
    · exact ite (h.missedOther ha n sample) (ite hfull (h.nextCapture ha _ sample))
    · exact ite hfull (h.firstTrigger hb n sample shot)

theorem shotTrigger (h : KeepsHands ws s t) (hk : ACQ.CNT_A ∈ ws ∧ ACQ.CNT_B ∈ ws ∧ hdr 0x32 3 ∈ ws) (sh : Shot) :
    KeepsHands ws s (t.shotTrigger sh) := by
  unfold State.shotTrigger
  split
  · exact h
  · exact foldl _ (fun _ n _ h => ite (ite (h.takeTrigger hk n _ _) h) h) h

end KeepsHands

/-! ## The tiles of a slot (R124) -/

/-- The tiles that a slot lights: the first in the order of arbitration of those of its group that are owed shots and are not dark. -/
def State.litTiles (c s : State) (h : Hand) (g slot : Nat) : List HandTile :=
  let opening := decide (slot < h.openSlots)
  let cand := h.tiles.filter fun t => t.group == g && 0 < t.owed opening
  let kept := cand.filter fun t => !(s.darkSlice t.tile || (slot == 0 && h.drained.contains (t.tile / 256)))
  (sortBy (HandTile.before opening) kept).take c.slotTiles

theorem litTiles_length (c s : State) (h : Hand) (g slot : Nat) : (State.litTiles c s h g slot).length ≤ c.slotTiles :=
  List.length_take_le ..

theorem mem_litTiles {c s : State} {h : Hand} {g slot : Nat} {y : HandTile} (hy : y ∈ State.litTiles c s h g slot) :
    y ∈ h.tiles ∧ y.group = g ∧ 0 < y.owed (decide (slot < h.openSlots)) := by
  have hkept := (List.mem_filter.1 ((mem_sortBy _).1 (List.mem_of_mem_take hy))).1
  obtain ⟨hmem, hcand⟩ := List.mem_filter.1 hkept
  obtain ⟨hgroup, howed⟩ := Bool.and_eq_true_iff.1 hcand
  exact ⟨hmem, beq_iff_eq.1 hgroup, of_decide_eq_true howed⟩

/-- The words that the closing of a slot may change (R113, R124, R153, R402). -/
def slotWords : List Nat := [DEAL.THROTTLED, DEAL.DENIED, DEAL.LOST, EMIT.DENY, hdr 0x10 3, hdr 0x12 3, hdr 0x12 6, hdr 0x12 7]

/-- What the questions to the governor add up: the state, the tiles that pass with their cells, the bands that lost a cell, and the number
denied. -/
abbrev Asked := State × List (Nat × List FireCell) × List Nat × Nat

/-- The governor asked about one tile (R153, R402). -/
def askTile (c : State) (m : Cells 32) (n : Nat) (x : Asked) (t : HandTile) : Asked :=
  if State.ffEccBad c x.1 t.entry then (x.1.errAt 0x12 0x07 0 0x12 (t.entry % 1024), x.2) else
  let y := c.tileCells m (c.f EMIT.FF_CTRL.ACTIVE_SEL) (c.f EMIT.FF_CTRL.FF_SIZE) t.entry
  let v := x.1.govern y.1 n
  (v.1, if v.2 then x.2.1 ++ [(t.tile, y.1)] else x.2.1, if y.2 then x.2.2.1 ++ [t.tile / 128] else x.2.2.1,
    if v.2 then x.2.2.2 else x.2.2.2 + 1)

theorem askAll_eq (c s : State) (m : Cells 32) (n : Nat) (lit : List HandTile) :
    State.askAll c s m n lit = lit.foldl (askTile c m n) (s, [], [], 0) := rfl

theorem askTile_keeps (c : State) (m : Cells 32) (n : Nat) (x : Asked) (t : HandTile) :
    KeepsHands slotWords x.1 (askTile c m n x t).1 ∧
    ∃ new, (askTile c m n x t).2.1 = x.2.1 ++ new ∧ new.length ≤ 1 ∧ ∀ e ∈ new, e.1 = t.tile := by
  unfold askTile
  split
  · exact ⟨(KeepsHands.refl x.1 _).errAt (by simp [slotWords]) .., [], by simp⟩
  · refine ⟨(KeepsHands.refl x.1 _).govern (by simp [slotWords]) .., ?_⟩
    dsimp only
    split
    · exact ⟨_, rfl, by simp⟩
    · exact ⟨[], by simp⟩

/-- The tiles that pass are among those asked about. -/
theorem askTiles_keep (c : State) (m : Cells 32) (n : Nat) (l : List HandTile) : ∀ x : Asked,
    KeepsHands slotWords x.1 (l.foldl (askTile c m n) x).1 ∧
    ∃ new, (l.foldl (askTile c m n) x).2.1 = x.2.1 ++ new ∧ new.length ≤ l.length ∧ ∀ e ∈ new, ∃ y ∈ l, y.tile = e.1 := by
  induction l with
  | nil => exact fun x => ⟨.refl x.1 _, [], by simp⟩
  | cons t l ih =>
    intro x
    obtain ⟨hone, one, heOne, hlenOne, hmemOne⟩ := askTile_keeps c m n x t
    obtain ⟨hrest, rest, heRest, hlenRest, hmemRest⟩ := ih (askTile c m n x t)
    refine ⟨hone.trans hrest, one ++ rest, by rw [List.foldl_cons, heRest, heOne, List.append_assoc], ?_, fun e he => ?_⟩
    · rw [List.length_append, List.length_cons]
      omega
    · rcases List.mem_append.1 he with hm | hm
      · exact ⟨t, List.mem_cons_self .., (hmemOne e hm).symm⟩
      · obtain ⟨y, hy, hye⟩ := hmemRest e hm
        exact ⟨y, List.mem_cons_of_mem _ hy, hye⟩

theorem askAll_keeps (c s : State) (m : Cells 32) (n : Nat) (lit : List HandTile) :
    KeepsHands slotWords s (State.askAll c s m n lit).1 ∧ (State.askAll c s m n lit).2.1.length ≤ lit.length ∧
    ∀ e ∈ (State.askAll c s m n lit).2.1, ∃ y ∈ lit, y.tile = e.1 := by
  obtain ⟨hkeeps, new, he, hnew⟩ := askTiles_keep c m n lit (s, [], [], 0)
  rw [askAll_eq, he, List.nil_append]
  exact ⟨hkeeps, hnew⟩

/-! ## The dither (R127) -/

theorem lfsrStep_lt (l : Nat) : lfsrStep l < 65536 := by
  have hbit (b : Bool) : b2n b ≤ 1 := by cases b <;> decide
  unfold lfsrStep
  have := hbit (xor (xor (l.testBit 15) (l.testBit 13)) (xor (l.testBit 12) (l.testBit 10)))
  dsimp only
  omega

theorem lfsr16_lt (l : Nat) : lfsr16 l < 65536 := lfsrStep_lt _

theorem dither_le {l : Nat} (h : l < 65536) (span : Nat) : dither l span ≤ span := by
  have hlt : l * (span + 1) < 65536 * (span + 1) := Nat.mul_lt_mul_of_pos_right h (Nat.succ_pos _)
  exact Nat.lt_succ_iff.1 (Nat.div_lt_of_lt_mul hlt)

/-! ## The closing of a slot (R124) -/

/-- A fire command that the closing of a slot may decide (R114, R124, R127). -/
structure DecidedFor (c : State) (h : Hand) (g slot : Nat) (d : Decision) : Prop where
  ofSlot : d.slot = slot
  phase : d.opening = decide (slot < h.openSlots)
  count : d.tiles.length ≤ c.slotTiles
  tiles : ∀ x ∈ d.tiles, ∃ y ∈ h.tiles, y.tile = x.1 ∧ y.group = g ∧ 0 < y.owed d.opening
  earliest : h.start + slot * c.f DEAL.SPACING.SPACING + 4 ≤ d.fire
  latest : d.fire ≤ h.start + slot * c.f DEAL.SPACING.SPACING + 4 + c.f (SHUF.DITHER.SPAN g)

/-- A hand whose slot of a group is closing: the group's next slot is the one after. -/
def Hand.pastSlot (h : Hand) (g slot : Nat) : Hand := { h with slots := setNth h.slots g (slot + 1) }

/-- What the closing of a slot makes of its hand, from the state `s` before to the state `t` after: the slot is lost to a moved boundary,
held for plausibility, or dark with the laser not ready; or its tiles are lit, and a fire command may be decided (R124). -/
inductive SlotClosed (c s : State) (h : Hand) (g slot : Nat) (t : State) : Hand → Prop
  | cut (hm : s.steer.frame.moved ≠ none) (cuts : List Nat) : SlotClosed c s h g slot t { h.pastSlot g slot with cuts := cuts }
  | held (hp : s.fb STEER.PLAUS.PLAUSIBLE = false)
      (hcount : t.f DEAL.LOST.PLAUS_HELD = satAdd 16 (s.f DEAL.LOST.PLAUS_HELD) 1) :
      SlotClosed c s h g slot t { h.pastSlot g slot with plausHeld := true }
  | dark (hp : s.fb STEER.PLAUS.PLAUSIBLE = true) (hl : c.laserReady = false) : SlotClosed c s h g slot t (h.pastSlot g slot)
  | lit (hp : s.fb STEER.PLAUS.PLAUSIBLE = true) (hl : c.laserReady = true) (tiles : List HandTile) (bands : List Nat)
      (decided : List (Option Decision))
      (hd : decided = h.decided ∨ ∃ d, DecidedFor c h g slot d ∧ decided = setNth h.decided g (some d)) :
      SlotClosed c s h g slot t { h.pastSlot g slot with tiles := tiles, maskedBands := bands, decided := decided }

theorem closesInTime_moved {c s : State} {h : Hand} {fire : Nat} (hc : State.closesInTime c s h fire = false) :
    s.steer.frame.moved ≠ none := fun hm => by
  rw [State.closesInTime, hm] at hc
  exact Bool.false_ne_true hc.symm

/-- A slot lost to a moved boundary is remembered by its hand (R113, R472). -/
theorem cutSlot_hand (s : State) (h : Hand) (mode slot : Nat) : ∃ cuts, (s.cutSlot h mode slot).2 = { h with cuts := cuts } := by
  unfold State.cutSlot
  split
  · exact ⟨h.cuts, rfl⟩
  · exact ⟨_, rfl⟩

/-- A slot held for plausibility is counted (R124). -/
theorem plausHeld_counts (s : State) (n : Nat) (h : Hand) (slot step sec : Nat) :
    ((((s.addF DEAL.THROTTLED.COUNT n).incF DEAL.LOST.PLAUS_HELD).event 0x10 5).armFrame h slot step sec []).f DEAL.LOST.PLAUS_HELD =
      satAdd 16 (s.f DEAL.LOST.PLAUS_HELD) 1 := by
  have harm (u : State) : (u.armFrame h slot step sec []).f DEAL.LOST.PLAUS_HELD = u.f DEAL.LOST.PLAUS_HELD :=
    ((KeepsHands.refl u []).armFrame h slot step sec []).words.f (List.not_mem_nil)
  rw [harm, State.f_event _ _ _ (by decide), State.incF, State.f_addF_self _ _ _ (by decide), State.addF,
    State.f_setF_word _ _ _ _ (by decide)]
  rfl

/-- The closing of a slot, outcome by outcome. -/
theorem arbitrate_closes (c s : State) (h : Hand) (g slot step : Nat) :
    KeepsHands slotWords s (State.arbitrate c s h g slot step).1 ∧
    SlotClosed c s h g slot (State.arbitrate c s h g slot step).1 (State.arbitrate c s h g slot step).2 := by
  suffices hall : ∀ r, State.arbitrate c s h g slot step = r → KeepsHands slotWords s r.1 ∧ SlotClosed c s h g slot r.1 r.2 from
    hall _ rfl
  intro r hr
  unfold State.arbitrate at hr
  extract_lets k opening cand kept s1 lit sec l fire n at hr
  have h1 : KeepsHands slotWords s s1 := (KeepsHands.refl s _).addF (x := DEAL.THROTTLED.COUNT) (by simp [slotWords, DEAL.THROTTLED.COUNT]) _
  have hplaus : s1.fb STEER.PLAUS.PLAUSIBLE = s.fb STEER.PLAUS.PLAUSIBLE := h1.words.fb (by decide)
  split at hr
  · next hc =>
    have hm : s.steer.frame.moved ≠ none := closesInTime_moved (s := s1) (by simpa using hc)
    have hkeeps := h1.cutSlot (by simp [slotWords]) k (c.f DEAL.MODE.MODE) slot
    obtain ⟨cuts, hcuts⟩ := cutSlot_hand s1 k (c.f DEAL.MODE.MODE) slot
    generalize s1.cutSlot k (c.f DEAL.MODE.MODE) slot = x at hr hkeeps hcuts
    obtain ⟨s2, k2⟩ := x
    obtain rfl : k2 = _ := hcuts
    subst hr
    exact ⟨hkeeps.armFrame _ _ _ _ _, .cut hm cuts⟩
  split at hr
  · next hp =>
    have hcount := plausHeld_counts s (cand.length - kept.length) k slot step sec
    subst hr
    exact ⟨((h1.incF (by simp [slotWords, DEAL.LOST.PLAUS_HELD])).event (by simp [slotWords]) 5).armFrame _ _ _ _ _,
      .held (by simpa [hplaus] using hp) hcount⟩
  next hp =>
  have hp' : s.fb STEER.PLAUS.PLAUSIBLE = true := by simpa [hplaus] using hp
  split at hr
  · next hl =>
    subst hr
    exact ⟨h1.armFrame _ _ _ _ _, .dark hp' (by simpa using hl)⟩
  next hl =>
  have hl' : c.laserReady = true := by simpa using hl
  obtain ⟨hask, hlen, hmem⟩ := askAll_keeps c s1 k.masks n lit
  generalize State.askAll c s1 k.masks n lit = x at hr hask hlen hmem
  obtain ⟨s2, ok, bands, den⟩ := x
  dsimp only at hr hask hlen hmem
  have h2 : KeepsHands slotWords s (if den = 0 then s2 else (s2.addF DEAL.DENIED.COUNT den).event 0x10 6) :=
    (h1.trans hask).ite (((h1.trans hask).addF (by simp [slotWords, DEAL.DENIED.COUNT]) den).event (by simp [slotWords]) 6)
  split at hr
  · subst hr
    exact ⟨h2.armFrame _ _ _ _ _, .lit hp' hl' _ _ _ (.inl rfl)⟩
  · subst hr
    refine ⟨(h2.armFrame _ _ _ _ _).update, .lit hp' hl' _ _ _ (.inr ⟨_, ?_, rfl⟩)⟩
    have hdither : dither l (c.f (SHUF.DITHER.SPAN g)) ≤ c.f (SHUF.DITHER.SPAN g) := dither_le (lfsr16_lt _) _
    have hfire : fire = h.start + slot * c.f DEAL.SPACING.SPACING + 4 + dither l (c.f (SHUF.DITHER.SPAN g)) := Nat.add_right_comm ..
    refine ⟨rfl, rfl, hlen.trans (litTiles_length c s h g slot), fun e he => ?_, hfire ▸ Nat.le_add_right ..,
      hfire ▸ Nat.add_le_add_left hdither _⟩
    obtain ⟨y, hy, hye⟩ := hmem e he
    obtain ⟨hin, hgroup, howed⟩ := mem_litTiles hy
    exact ⟨y, hin, hye, hgroup, howed⟩

namespace SlotClosed
variable {c : State} {h h' : Hand} {g slot : Nat}

theorem sameHand (hc : SlotClosed c s h g slot t h') : SameHand h h' := by
  cases hc <;> exact ⟨rfl, rfl, rfl, rfl, rfl, rfl, rfl, rfl⟩

theorem slots (hc : SlotClosed c s h g slot t h') : h'.slots = setNth h.slots g (slot + 1) := by
  cases hc <;> rfl

/-- A fire command that waits after the closing has waited before, or is the one decided. -/
theorem decided (hc : SlotClosed c s h g slot t h') {d : Decision} (hd : nth h'.decided g none = some d) :
    nth h.decided g none = some d ∨ DecidedFor c h g slot d := by
  cases hc with
  | lit _ _ _ _ _ hnew =>
    rcases hnew with rfl | ⟨e, he, rfl⟩
    · exact .inl hd
    · rcases nth_setNth_some hd with rfl | hold
      · exact .inr he
      · exact .inl hold
  | _ => exact .inl hd

theorem unlit (hc : SlotClosed c s h g slot t h') (hoff : s.fb STEER.PLAUS.PLAUSIBLE = false ∨ c.laserReady = false) :
    h'.decided = h.decided ∧ h'.tiles = h.tiles := by
  cases hc with
  | lit hp hl =>
    rcases hoff with hn | hn
    · exact absurd (hn.symm.trans hp) Bool.false_ne_true
    · exact absurd (hn.symm.trans hl) Bool.false_ne_true
  | _ => exact ⟨rfl, rfl⟩

theorem held_counts (hc : SlotClosed c s h g slot t h') (hoff : s.fb STEER.PLAUS.PLAUSIBLE = false) (hm : s.steer.frame.moved = none) :
    t.f DEAL.LOST.PLAUS_HELD = satAdd 16 (s.f DEAL.LOST.PLAUS_HELD) 1 ∧ h'.plausHeld = true := by
  cases hc with
  | cut hmoved => exact absurd hm hmoved
  | held _ hcount => exact ⟨hcount, rfl⟩
  | dark hp => exact absurd (hoff.symm.trans hp) Bool.false_ne_true
  | lit hp => exact absurd (hoff.symm.trans hp) Bool.false_ne_true

end SlotClosed

/-- A hand that notes MIRROR_UNCERTAIN at an arbitration (R184). -/
def Hand.noteUncertain (h : Hand) (b : Bool) : Hand := { h with uncertain := h.uncertain || b }

/-- A slot of the hand in progress closes (R124). -/
theorem slotArbitration_current {g : Fin 4} {j : Fin 64} {h : Hand} (hon : s.dealerOn = true) (hj : j.val ≠ 0) (hcur : s.deal.cur = some h)
    (hsnap : h.snapped = true) (hslot : nth h.slots g.val 0 = j.val) (hlt : j.val < h.sEff) (hst : s.pwr.st = .run)
    (htarget : s.pwr.target ≠ .standby) (hg : s.groups.contains g.val = true) : exec (.slotArbitration g j) s =
      .next (let r := State.arbitrate s s (h.noteUncertain (s.fb STEER.PLAUS.UNCERTAIN)) g.val j.val (s.f DEAL.HAND_STAT.PAT_STEP)
        { r.1 with deal := { r.1.deal with cur := some r.2 } }) := by
  change execSlotArbitration g j s = _
  unfold execSlotArbitration
  dsimp only
  rw [if_neg hj, hcur]
  exact if_pos ⟨by simp [hsnap, hslot, hlt], ⟨hst, htarget⟩, hon, hg⟩

/-! ## The fire command (R31, R115, R128, R129, R146, R156) -/

/-- The hand in progress replaced. -/
def State.withCur (s : State) (h : Hand) : State := { s with deal := { s.deal with cur := some h } }

/-- A fire command of a group is due to be issued: the Dealer and the laser are on in RUN (R31, R160). -/
def State.mayFire (s : State) : Prop := s.dealerOn = true ∧ s.laserReady = true ∧ s.pwr.st = .run

section
variable {g : Nat} {h : Hand} {d : Decision} (hcur : s.deal.cur = some h) (hd : nth h.decided g none = some d)
include hcur hd

theorem fireCommand_decided : s.fireCommand g =
    (let u := s.withCur (h.undecided g)
     if !s.dealerOn ∨ !s.laserReady ∨ s.pwr.st ≠ .run then (u, none)
     else if !State.closesInTime s s h d.fire then
       let r := (u.takeBack d).cutSlot (h.undecided g) (s.f DEAL.MODE.MODE) d.slot
       (r.1.withCur r.2, none)
     else if !s.fb STEER.PLAUS.PLAUSIBLE then (u.withhold d, none)
     else if s.static ∧ !d.static ∧ d.tiles.any (fun t => (u.recheckBreaks t.2).isSome) then ((u.recheckCount d).withhold d, none)
     else ((u.issue g d).1, some (u.issue g d).2)) := by
  unfold State.fireCommand
  rw [hcur]
  dsimp only
  rw [hd]
  rfl

theorem fireCommand_off (hoff : ¬s.mayFire) : s.fireCommand g = (s.withCur (h.undecided g), none) := by
  rw [fireCommand_decided hcur hd]
  refine if_pos ?_
  by_contra hn
  exact hoff (by simpa [State.mayFire] using hn)

variable (hon : s.mayFire)
include hon

theorem fireCommand_late (hc : State.closesInTime s s h d.fire = false) : s.fireCommand g =
    (let r := ((s.withCur (h.undecided g)).takeBack d).cutSlot (h.undecided g) (s.f DEAL.MODE.MODE) d.slot
     (r.1.withCur r.2, none)) := by
  obtain ⟨hdealer, hlaser, hst⟩ := hon
  simp only [fireCommand_decided hcur hd, hdealer, hlaser, hst, hc, Bool.not_true, Bool.not_false, Bool.false_eq_true, ne_eq, not_true,
    or_self, if_false, if_true]

theorem fireCommand_held (hc : State.closesInTime s s h d.fire = true) (hp : s.fb STEER.PLAUS.PLAUSIBLE = false) :
    s.fireCommand g = ((s.withCur (h.undecided g)).withhold d, none) := by
  obtain ⟨hdealer, hlaser, hst⟩ := hon
  simp only [fireCommand_decided hcur hd, hdealer, hlaser, hst, hc, hp, Bool.not_true, Bool.not_false, Bool.false_eq_true, ne_eq, not_true,
    or_self, if_false, if_true]

theorem fireCommand_issued (hc : State.closesInTime s s h d.fire = true) (hp : s.fb STEER.PLAUS.PLAUSIBLE = true) (hs : s.static = d.static) :
    s.fireCommand g = (((s.withCur (h.undecided g)).issue g d).1, some ((s.withCur (h.undecided g)).issue g d).2) := by
  obtain ⟨hdealer, hlaser, hst⟩ := hon
  have hstatic : ¬(s.static = true ∧ (!d.static) = true ∧
      d.tiles.any (fun t => ((s.withCur (h.undecided g)).recheckBreaks t.2).isSome) = true) :=
    fun ⟨hs', hd', _⟩ => by simp [← hs, hs'] at hd'
  simp only [fireCommand_decided hcur hd, hdealer, hlaser, hst, hc, hp, hstatic, Bool.not_true, Bool.false_eq_true, ne_eq, not_true,
    or_self, if_false]

end

theorem execFireCommand_none {g : Fin 4} {ext : Bool} (e : s.fireCommand g.val = (t, none)) : exec (.fireCommand g ext) s = .next t := by
  change execFireCommand g ext s = _
  unfold execFireCommand
  rw [e]

/-- What follows an issued shot: its channels are armed, its tricks fed, its triggers given (R195, R227, R277). -/
def State.shotTaken (s : State) (sh : Shot) (ext : Bool) : State :=
  (sh.channels.foldl (fun s c => s.feedTricks c sh) (s.armShot sh ext)).shotTrigger sh

theorem execFireCommand_some {g : Fin 4} {ext : Bool} {sh : Shot} (e : s.fireCommand g.val = (t, some sh)) :
    exec (.fireCommand g ext) s = .next (t.shotTaken sh ext) := by
  change execFireCommand g ext s = _
  unfold execFireCommand
  rw [e]
  rfl

/-! ## A shot issued (R115, R129) -/

/-- The words that an issued shot's channels, tricks and triggers may change (R198, R227, R280, R285, R287). -/
def shotWords : List Nat := (List.range 8).map TDC.ARMX_CNT ++ [HIST.LATE, hdr 0x38 3, ACQ.CNT_A, ACQ.CNT_B, hdr 0x32 3]

theorem shotTaken_keeps (s : State) (sh : Shot) (ext : Bool) : KeepsHands shotWords s (s.shotTaken sh ext) := by
  have harm : KeepsHands shotWords s (s.armShot sh ext) :=
    (KeepsHands.refl s _).armShot (fun k hk => List.mem_append_left _ (List.mem_map.2 ⟨k, List.mem_range.2 hk, rfl⟩)) sh ext
  exact (KeepsHands.foldl _ (fun _ c _ h => h.feedTricks (by simp [shotWords]) c sh) harm).shotTrigger (by simp [shotWords]) sh

theorem shotWords_count : ∀ g : Fin 4, SHUF.COUNT g.val ∉ shotWords := by decide

theorem shotWords_fired : DEAL.FIRED.COUNT.addr ∉ shotWords := by decide

/-- The shot of a decided fire command (R128, R129). -/
def State.shotOf (s : State) (g : Nat) (d : Decision) : Shot :=
  { group := g, slot := d.slot, opening := d.opening, fire := d.fire, tag := s.f (SHUF.COUNT.COUNT g) % 32,
    bands := d.tiles.map fun t => t.1 / 128, cells := d.tiles.flatMap (·.2),
    pulses := s.pulseEdges g d.fire d.pulses }

/-- The counts of an issued shot (R115, R129). -/
def State.shotCounted (s : State) (g : Nat) (d : Decision) : State :=
  (s.setReg (SHUF.COUNT g) (s.reg (SHUF.COUNT g) + 1)).addF DEAL.FIRED.COUNT d.tiles.length

/-- The state that an issued shot leaves at once. -/
def State.shotIssued (s : State) (g : Nat) (d : Decision) : State :=
  let t := s.shotCounted g d
  { t with
    deal := { t.deal with cur := t.deal.cur.map (Hand.addFired · (s.shotOf g d).bands) }
    emit := { t.emit with shots := setNth t.emit.shots g (some (s.shotOf g d)) } }

theorem issue_eq (h : s.ldb.darkFrom = none) (g : Nat) (d : Decision) : s.issue g d = (s.shotIssued g d, s.shotOf g d) := by
  unfold State.issue
  extract_lets tag sh s1 s2 deal s3 emit s4
  have hdark : s4.ldb.darkFrom = none := h
  rw [hdark]
  rfl

theorem shotOf_tag (s : State) (g : Nat) (d : Decision) : (s.shotOf g d).tag = (s.reg (SHUF.COUNT g)).toNat % 32 := by
  simp only [State.shotOf, State.f, Fld.get, SHUF.COUNT.COUNT, bitsOf]
  omega

theorem shotCounted_count (s : State) (g : Nat) (d : Decision) :
    (s.shotCounted g d).reg (SHUF.COUNT g) = s.reg (SHUF.COUNT g) + 1 := by
  have hne : SHUF.COUNT g ≠ DEAL.FIRED.COUNT.addr := by
    simp only [SHUF.COUNT, DEAL.FIRED.COUNT, DEAL.FIRED]
    omega
  rw [State.shotCounted, State.reg_addF_ne _ _ _ hne, State.reg_setReg_self]

theorem shotCounted_fired (s : State) (g : Nat) (d : Decision) :
    (s.shotCounted g d).f DEAL.FIRED.COUNT = satAdd 32 (s.f DEAL.FIRED.COUNT) d.tiles.length := by
  have hne : DEAL.FIRED.COUNT.addr ≠ SHUF.COUNT g := by
    simp only [SHUF.COUNT, DEAL.FIRED.COUNT, DEAL.FIRED]
    omega
  rw [State.shotCounted, State.f_addF_self _ _ _ (by decide), State.f_setReg_ne _ _ _ hne]
  rfl

/-! ## A shot withheld (R31, R156) -/

/-- The tile-shots of a withheld fire command count as denied. -/
theorem withhold_denies {d : Decision} (hne : d.tiles ≠ []) (s : State) :
    (s.withhold d).f DEAL.DENIED.COUNT = satAdd 32 (s.f DEAL.DENIED.COUNT) d.tiles.length ∧ Raised s (s.withhold d) 0x10 6 := by
  have hback := ((KeepsHands.refl s []).takeBack d).words
  have he : s.withhold d = ((s.takeBack d).addF DEAL.DENIED.COUNT d.tiles.length).event 0x10 6 :=
    if_neg (by simpa [List.isEmpty_iff] using hne)
  rw [he, Raised, State.f_event _ _ _ (by decide), State.f_addF_self _ _ _ (by decide), hback.f (List.not_mem_nil), State.reg_event_self,
    State.reg_addF_ne _ _ _ (by decide), hback _ (List.not_mem_nil)]
  exact ⟨rfl, rfl⟩

end

/-- Settles O27: the closing of a slot has one of the outcomes of `SlotClosed` (`arbitrate_closes`); a decided fire command is issued
(`fireCommand_issued`), withheld (`fireCommand_held`), late (`fireCommand_late`) or dropped (`fireCommand_off`). -/
theorem slotsAndShots : Obligations.SlotsAndShots := by
  refine ⟨fun g j h s hon hj hcur hsnap hslot hlt hst htarget hg => ?_,
    fun g ext h d s hcur hd hdealer hlaser hst hc hp hs hlen hdark => ?_,
    fun g ext h d s hcur hd hdealer hlaser hst hc hp hne => ?_, fun g ext h d s hcur hd hoff => ?_, fun g ext h d s hcur hd hc => ?_,
    fun g ext s hcur => ?_⟩
  · rw [slotArbitration_current hon hj hcur hsnap hslot hlt hst htarget hg]
    obtain ⟨hkeeps, hclosed⟩ := arbitrate_closes s s (h.noteUncertain (s.fb STEER.PLAUS.UNCERTAIN)) g.val j.val (s.f DEAL.HAND_STAT.PAT_STEP)
    generalize State.arbitrate s s (h.noteUncertain (s.fb STEER.PLAUS.UNCERTAIN)) g.val j.val (s.f DEAL.HAND_STAT.PAT_STEP) = r at *
    have hin : g.val < h.slots.length := lt_length_of_nth (hslot ▸ hj)
    refine ⟨_, r.2, rfl, rfl, hclosed.sameHand, by rw [hclosed.slots]; exact nth_setNth_self hin _ _, fun d hd => ?_, hclosed.unlit,
      hclosed.held_counts, hkeeps.words, hkeeps.memory, hkeeps.shadow, hkeeps.time, hkeeps.pwr, hkeeps.next⟩
    exact (hclosed.decided hd).imp_right fun ⟨hofSlot, hphase, hcount, htiles, hearliest, hlatest⟩ =>
      ⟨hofSlot, hphase, hcount, htiles, hearliest, hlatest⟩
  · have hissue := fireCommand_issued hcur hd ⟨hdealer, hlaser, hst⟩ hc hp hs
    rw [issue_eq (s := s.withCur (h.undecided g)) hdark] at hissue
    have hkeeps := shotTaken_keeps ((s.withCur (h.undecided g)).shotIssued g d) ((s.withCur (h.undecided g)).shotOf g d) ext
    have hshot : nth (setNth s.emit.shots g.val (some ((s.withCur (h.undecided g)).shotOf g d))) g.val none = _ :=
      nth_setNth_self (by omega) _ _
    have hcount := (hkeeps.words _ (shotWords_count g)).trans (shotCounted_count (s.withCur (h.undecided g)) g.val d)
    have hfired := (hkeeps.words.f shotWords_fired).trans (shotCounted_fired (s.withCur (h.undecided g)) g.val d)
    exact ⟨_, (h.undecided g).addFired ((s.withCur (h.undecided g)).shotOf g d).bands, _, execFireCommand_some hissue, hkeeps.cur,
      nth_setNth_default .., (congrArg (nth · g.val none) hkeeps.shots).trans hshot, rfl, rfl, rfl,
      shotOf_tag (s.withCur (h.undecided g)) g.val d, rfl, rfl, hcount, hfired, hkeeps.memory, hkeeps.shadow, hkeeps.time, hkeeps.pwr⟩
  · obtain ⟨hcount, hraised⟩ := withhold_denies hne (s.withCur (h.undecided g))
    have hkeeps := (KeepsHands.refl (s.withCur (h.undecided g)) [DEAL.DENIED, hdr 0x10 3]).withhold (by simp) d
    exact ⟨_, _, execFireCommand_none (fireCommand_held hcur hd ⟨hdealer, hlaser, hst⟩ hc hp), hkeeps.cur, nth_setNth_default .., hkeeps.shots,
      hcount, hraised, hkeeps.words, hkeeps.memory, hkeeps.shadow, hkeeps.time⟩
  · have hnot : ¬s.mayFire := fun ⟨hdealer, hlaser, hst⟩ => by simp [hdealer, hlaser, hst] at hoff
    exact ⟨_, h.undecided g, execFireCommand_none (fireCommand_off hcur hd hnot), nth_setNth_default .., rfl, rfl⟩
  · by_cases hon : s.mayFire
    · have hkeeps := ((KeepsHands.refl (s.withCur (h.undecided g)) [DEAL.DENIED, DEAL.LOST, DEAL.THROTTLED, hdr 0x10 3]).takeBack d).cutSlot
        (by simp) (h.undecided g) (s.f DEAL.MODE.MODE) d.slot
      have hlate := fireCommand_late hcur hd hon hc
      obtain ⟨cuts, hcuts⟩ := cutSlot_hand ((s.withCur (h.undecided g)).takeBack d) (h.undecided g) (s.f DEAL.MODE.MODE) d.slot
      generalize ((s.withCur (h.undecided g)).takeBack d).cutSlot (h.undecided g) (s.f DEAL.MODE.MODE) d.slot = r at *
      exact ⟨_, r.2, execFireCommand_none hlate, rfl, by rw [hcuts]; exact nth_setNth_default .., hkeeps.shots, hkeeps.words, hkeeps.memory,
        hkeeps.shadow, hkeeps.time⟩
    · exact ⟨_, h.undecided g, execFireCommand_none (fireCommand_off hcur hd hon), rfl, nth_setNth_default .., rfl, SameWords.of_regs rfl,
        fun _ => rfl, rfl, rfl⟩
  · refine execFireCommand_none ?_
    unfold State.fireCommand
    rw [hcur]

end Sys2Proof.Machine
end


section
/-! SUPPORT. A bus held again before the laser has fired (R162, R164): the dark time still counts from the first detection. -/

namespace Sys2Proof.Machine

section
variable {s : State}

/-- Dropping what is queued for the tiles keeps the instant that the dark time counts from, and the clock. -/
theorem flushBus_dark (s : State) : s.flushBus.ldb.darkFrom = s.ldb.darkFrom ∧ s.flushBus.mono = s.mono := by
  obtain ⟨mem, ecc, e⟩ := LeavesPower.writePlace0_eq s.ldb.fwd s
  unfold State.flushBus
  rw [e]
  exact ⟨rfl, rfl⟩

@[simp] theorem kaStop_darkFrom (s : State) : s.kaStop.ldb.darkFrom = s.ldb.darkFrom := (flushBus_dark _).1

@[simp] theorem kaStop_mono (s : State) : s.kaStop.mono = s.mono := (flushBus_dark _).2

/-- A first or second held bus counts the dark time from its own moment only where no dark time is being counted yet (R162). -/
theorem busHeld_darkFrom (hon : s.laserOn = true) (hka : s.fb LDB.STATUS.KA = true)
    (hfew : (s.ldb.heldAt.filter fun t => s.mono < t + 10 ^ 10).length < 2) :
    ∃ t, exec .busHeld s = .next t ∧ t.ldb.darkFrom = some (s.ldb.darkFrom.getD s.mono) := by
  have hrun : ¬(s.laserOn = false ∨ s.fb LDB.STATUS.KA = false) := by simp [hon, hka]
  change ∃ t, execBusHeld s = .next t ∧ _
  simp only [execBusHeld, Bool.not_eq_true', hrun, if_false, Nat.not_le.2 hfew]
  refine ⟨_, rfl, ?_⟩
  simp [State.dropFire]

end

/-! ## The counterexample -/

/-- The state a command leads to. -/
def State.after (s : State) (c : Instr) : State :=
  match exec c s with
  | .next t => t
  | _ => s

/-- READY with SCAN on, LDB enabled and LDB_KA toggling. -/
def busOn : State :=
  (({ State.reset with pwr := { State.reset.pwr with st := .ready } }.setDom 1 .on).setB ⟨hdr 0x13 1, 0, 1⟩ true).setB LDB.STATUS.KA true

/-- A held bus has been detected and recovered from, and a clock period has passed in which nothing was fired. -/
def recoveredBus : State := (((busOn.after .busHeld).after (.busRecoveryRestart false)).after (.enumerationDone 0xFFFF)).tick

theorem recoveredBus_meets : recoveredBus.laserOn = true ∧ recoveredBus.fb LDB.STATUS.KA = true ∧
    recoveredBus.fb LDB.STATUS.RECOVERING = false ∧
    (recoveredBus.ldb.heldAt.filter fun t => recoveredBus.mono < t + 10 ^ 10).length < 2 := by
  decide +kernel

/-- The dark time counts from the first detection, one period ago. -/
theorem recoveredBus_dark : recoveredBus.ldb.darkFrom = some 0 ∧ recoveredBus.mono = 100 := by
  decide +kernel

/-- Refutes O31, by its clause that a first or second held bus counts the dark time from its own moment: in `recoveredBus`, which
three commands and a clock period make of `busOn`, a recovery has ended and no fire command has been issued since. The bus is held
again; the laser has been dark since the first detection, and the dark time goes on counting from there (`busHeld_darkFrom`). -/
theorem not_hazardousFaults : ¬ Obligations.HazardousFaults := by
  unfold Obligations.HazardousFaults
  rintro ⟨-, -, -, hheld, -⟩
  obtain ⟨hon, hka, hrec, hfew⟩ := recoveredBus_meets
  obtain ⟨hdark, hmono⟩ := recoveredBus_dark
  obtain ⟨t, hrun, -, -, -, -, -, hnew, -⟩ := hheld recoveredBus hon hka hrec hfew
  obtain ⟨u, hrun', hold⟩ := busHeld_darkFrom hon hka hfew
  obtain rfl : t = u := Host.Outcome.next.inj (hrun.symm.trans hrun')
  rw [hnew, hdark, hmono] at hold
  exact absurd hold (by decide)

end Sys2Proof.Machine
end


section
/-! SUPPORT. The monitor-photodiode loops while EMIT is disabled (R86, R157): they keep their state. -/

namespace Sys2Proof.Machine

/-- With EMIT disabled a loop update changes nothing (R86). -/
theorem mpdLoopUpdate_disabled {s : State} (h : s.enabled 0x12 = false) : exec .mpdLoopUpdate s = .next s := by
  change execMpdLoopUpdate s = _
  simp [execMpdLoopUpdate, h]

/-- READY with SCAN on and EMIT disabled: LOOP_EN is 1, TRIM may move by one code, and the MPD of tile 0 is in use with q 0. -/
def disabledLoop : State :=
  (((({ State.reset with pwr := { State.reset.pwr with st := .ready } }.setDom 1 .on).setB EMIT.MPD_CFG.LOOP_EN true).setF
    EMIT.MPD_CFG.TRIM_MAX 1).setF EMIT.MPD_USE.USED 1).setF (EMIT.LOOP.Q 0) 0

theorem disabledLoop_meets : disabledLoop.fb EMIT.MPD_CFG.LOOP_EN = true ∧ disabledLoop.laserOn = true ∧
    disabledLoop.enabled 0x12 = false ∧ bitOf (disabledLoop.f EMIT.MPD_USE.USED) 0 = true := by
  decide +kernel

theorem disabledLoop_fields : disabledLoop.f EMIT.MPD_CFG.TRIM_MAX = 1 ∧ disabledLoop.f (EMIT.LOOP.Q 0) = 0 ∧
    disabledLoop.fi (EMIT.LOOP.TRIM 0) = 0 := by
  decide +kernel

/-- Refutes O32, by its clause on a loop update, which leaves ENABLE of EMIT out of its hypotheses: in `disabledLoop` the ratio of tile
0 asks for one step of TRIM, but EMIT is disabled, and its monitor loops keep their state (R86, `mpdLoopUpdate_disabled`). -/
theorem not_governorAndMonitor : ¬ Obligations.GovernorAndMonitor := by
  unfold Obligations.GovernorAndMonitor
  rintro ⟨-, -, -, -, -, hloop, -⟩
  obtain ⟨hen, hon, hoff, hused⟩ := disabledLoop_meets
  obtain ⟨hmax, hq, htrim⟩ := disabledLoop_fields
  obtain ⟨t, hrun, htiles, -⟩ := hloop disabledLoop hen hon (by rw [hmax]; decide)
  obtain rfl : disabledLoop = t := Host.Outcome.next.inj ((mpdLoopUpdate_disabled hoff).symm.trans hrun)
  obtain ⟨-, -, hstep⟩ := htiles 0 (by decide)
  have hmoved := hstep hused
  rw [hmax, hq, htrim] at hmoved
  exact absurd hmoved (by decide)

end Sys2Proof.Machine
end

section
/-! SUPPORT. The sense channels between two decimation instants (R168): bits that do not end at an instant give no sample. -/

namespace Sys2Proof.Machine

/-- Bits that do not end at the channel's next decimation instant change nothing (R168, log entry 4). -/
theorem decimation_notDue {n : Fin 8} {bits : List Bool} {s : State} (at_ : Nat) (h : s.bitsDue n.val bits.length = false) :
    exec (.decimation n bits at_) s = .next s := by
  change execDecimation n bits at_ s = _
  simp [execDecimation, h]

/-- A channel's next decimation instant lies at least one bit ahead (R168). -/
theorem bitsDue_zero (s : State) (n : Nat) : s.bitsDue n 0 = false := by
  unfold State.bitsDue
  extract_lets m ph
  split <;> simp

/-- READY with SCAN and channel 0 of SENSE on, and a sample of 1 from an earlier decimation. -/
def sampledChannel : State :=
  ((({ State.reset with pwr := { State.reset.pwr with st := .ready } }.setDom 1 .on).setReg (hdr 0x15 1) 1).setB
    (SENSE.CFG.EN 0) true).setI (SENSE.SAMPLE.SAMPLE 0) 1

theorem sampledChannel_meets : sampledChannel.enabled 0x15 = true ∧ sampledChannel.fb (SENSE.CFG.EN 0) = true ∧
    sampledChannel.domOn 1 = true := by
  decide +kernel

/-- The filter holds nothing yet, so a sample taken now would be 0; the one shown is 1. -/
theorem sampledChannel_sample : clipSigned 32 ((((sampledChannel.filter 0 []).1.toInt - sampledChannel.fi (SENSE.OFFSET.VALUE 0)) *
      sampledChannel.f (SENSE.GAIN.VALUE 0)) / 4194304) = 0 ∧ sampledChannel.fi (SENSE.SAMPLE.SAMPLE 0) = 1 := by
  decide +kernel

/-- Refutes O33, by its first clause, which leaves out of its hypotheses that the bits end at a decimation instant of the channel: with no
bit since the last instant of `sampledChannel` there is no new one (`bitsDue_zero`), and the old sample 1 stays where a new one would be 0. -/
theorem not_senseChannels : ¬ Obligations.SenseChannels := by
  unfold Obligations.SenseChannels
  rintro ⟨hdecimation, -⟩
  obtain ⟨hen, hch, hon⟩ := sampledChannel_meets
  obtain ⟨hnew, hold⟩ := sampledChannel_sample
  obtain ⟨t, hrun, ⟨hsample, -⟩, -⟩ := hdecimation 0 [] 0 sampledChannel hen hch hon
  obtain rfl : sampledChannel = t := Host.Outcome.next.inj ((decimation_notDue 0 (bitsDue_zero ..)).symm.trans hrun)
  exact absurd (hold.symm.trans (hsample.trans hnew)) (by decide)

end Sys2Proof.Machine
end

section
/-! SUPPORT. Plausibility decided (R183, R184): what the decision shows, and what it leaves as it is. -/

namespace Sys2Proof.Machine

section
variable {s t u : State} {ws : List Nat}

/-- The words in which a decision shows: PLAUS and its counters, the events of STEER, and the static set of the governor. -/
def plausWords : List Nat := [STEER.PLAUS, STEER.PLAUS_CNT, hdr 0x14 3, EMIT.GOV_CTRL, hdr 0x12 3]

/-- From `s` to `t` register words have changed only among `ws`; besides, the hands may have become uncertain, the count of clean
updates may have ended, and a risen interrupt summary may have sent its packet. -/
structure PlausShown (ws : List Nat) (s t : State) : Prop where
  words : SameWords s t ws
  rest : ∃ regs host link clean deal, t = { s with
    regs := regs, host := host, link := link, deal := deal, steer := { s.steer with clean := clean } }

namespace PlausShown

theorem refl (s : State) (ws : List Nat) : PlausShown ws s s := ⟨SameWords.refl s ws, _, _, _, _, _, rfl⟩

theorem trans (h : PlausShown ws s t) (h' : PlausShown ws t u) : PlausShown ws s u := by
  obtain ⟨hw, _, _, _, _, _, rfl⟩ := h
  obtain ⟨hw', _, _, _, _, _, rfl⟩ := h'
  exact ⟨hw.trans hw', _, _, _, _, _, rfl⟩

theorem ite {c : Prop} {_ : Decidable c} {a b : State} (ha : PlausShown ws s a) (hb : PlausShown ws s b) :
    PlausShown ws s (if c then a else b) := by
  split
  · exact ha
  · exact hb

theorem setF (h : PlausShown ws s t) {x : Fld} (hx : x.addr ∈ ws) (v : Nat) : PlausShown ws s (t.setF x v) :=
  h.trans ⟨(SameWords.refl t ws).setF v hx, _, _, _, _, _, rfl⟩

theorem event (h : PlausShown ws s t) {p : Nat} (hp : hdr p 3 ∈ ws) (b : Nat) : PlausShown ws s (t.event p b) := by
  have hw := (SameWords.refl t ws).event b hp
  obtain ⟨_, _, _, _, e⟩ := onlyEvents_iff.1 ((OnlyEvents.refl t).event p b)
  rw [e] at hw ⊢
  exact h.trans ⟨hw, _, _, _, _, _, rfl⟩

theorem markHands (h : PlausShown ws s t) : PlausShown ws s t.markHands :=
  h.trans ⟨SameWords.of_regs rfl, _, _, _, _, _, rfl⟩

theorem staticNow (h : PlausShown ws s t) (hk : EMIT.GOV_CTRL ∈ ws ∧ hdr 0x12 3 ∈ ws) : PlausShown ws s t.staticNow :=
  ite ((h.setF (x := EMIT.GOV_CTRL.STATIC) hk.1 _).event hk.2 2) h

end PlausShown

/-- The count of clean updates ends with a clearing condition (R183). -/
def State.cleanEnded (s : State) (cause : Nat) : State :=
  if cause % 512 != 0 then { s with steer := { s.steer with clean := 0 } } else s

/-- The flag PLAUSIBLE cleared, and counted in RUN (R183). -/
def State.plausibleCleared (s : State) (run : Bool) : State :=
  let v := (s.setB STEER.PLAUS.PLAUSIBLE false).event 0x14 2
  if run then v.incF STEER.PLAUS_CNT.CLEARS else v

/-- The flag UNCERTAIN set, and counted in RUN (R183). -/
def State.uncertainSet (s : State) (run : Bool) : State :=
  let v := (s.setB STEER.PLAUS.UNCERTAIN true).event 0x14 3
  if run then v.incF STEER.PLAUS_CNT.UNCERTAINS else v

/-- UNCERTAIN and the mark of the hands follow every condition (R183, R184). -/
def State.uncertainShown (s : State) (cause : Nat) (run : Bool) : State :=
  if cause ≠ 0 then (if s.fb STEER.PLAUS.UNCERTAIN then s.markHands else (s.uncertainSet run).markHands)
  else s.setB STEER.PLAUS.UNCERTAIN false

/-- The conditions as CAUSE shows them, and PLAUSIBLE after a clearing one (R183). -/
def State.causeShown (s : State) (cause : Nat) : State :=
  let u := (s.setF STEER.PLAUS.CAUSE cause).cleanEnded cause
  if cause % 512 != 0 && u.fb STEER.PLAUS.PLAUSIBLE then u.plausibleCleared (s.pwr.st == .run) else u

theorem decidePlaus_eq (s : State) (cause : Nat) :
    s.decidePlaus cause = ((s.causeShown cause).uncertainShown cause (s.pwr.st == .run)).staticNow := rfl

theorem cleanEnded_shown (s : State) (cause : Nat) : PlausShown ws s (s.cleanEnded cause) :=
  .ite ((PlausShown.refl s _).trans ⟨SameWords.of_regs rfl, _, _, _, _, _, rfl⟩) (.refl s _)

theorem plausibleCleared_shown (s : State) (run : Bool) : PlausShown plausWords s (s.plausibleCleared run) :=
  have hv := ((PlausShown.refl s plausWords).setF (x := STEER.PLAUS.PLAUSIBLE) (by decide) (b2n false)).event (p := 0x14) (by decide) 2
  .ite (hv.setF (by decide) _) hv

theorem uncertainSet_shown (s : State) (run : Bool) : PlausShown plausWords s (s.uncertainSet run) :=
  have hv := ((PlausShown.refl s plausWords).setF (x := STEER.PLAUS.UNCERTAIN) (by decide) (b2n true)).event (p := 0x14) (by decide) 3
  .ite (hv.setF (by decide) _) hv

theorem decidePlaus_shown (s : State) (cause : Nat) : PlausShown plausWords s (s.decidePlaus cause) := by
  have hu : PlausShown plausWords s ((s.setF STEER.PLAUS.CAUSE cause).cleanEnded cause) :=
    ((PlausShown.refl s _).setF (by decide) cause).trans (cleanEnded_shown _ cause)
  have hc : PlausShown plausWords s (s.causeShown cause) := .ite (hu.trans (plausibleCleared_shown _ _)) hu
  have hm : PlausShown plausWords s ((s.causeShown cause).uncertainShown cause (s.pwr.st == .run)) :=
    .ite (.ite hc.markHands (hc.trans (uncertainSet_shown _ _)).markHands) (hc.setF (by decide) _)
  exact hm.staticNow (by decide)

/-! ## What the decision shows -/

theorem f_cleanEnded (s : State) (cause : Nat) (y : Fld) : (s.cleanEnded cause).f y = s.f y := by
  unfold State.cleanEnded
  split <;> rfl

/-- PLAUSIBLE shares no bit with a field below it in its word. -/
theorem f_plausibleCleared (s : State) (run : Bool) {y : Fld} (hy : y.addr = STEER.PLAUS) (hb : y.lo + y.width ≤ 31) :
    (s.plausibleCleared run).f y = s.f y := by
  have hev : ((s.setB STEER.PLAUS.PLAUSIBLE false).event 0x14 2).f y = s.f y := by
    rw [State.f_event _ _ _ (hy ▸ by decide)]
    exact State.f_setF_ne _ _ _ _ (by decide) hy (.inl hb)
  unfold State.plausibleCleared
  dsimp only
  split
  · exact (State.f_setF_word _ _ _ _ (hy ▸ by decide)).trans hev
  · exact hev

theorem plausibleCleared_off (s : State) (run : Bool) : (s.plausibleCleared run).fb STEER.PLAUS.PLAUSIBLE = false := by
  have hev : ((s.setB STEER.PLAUS.PLAUSIBLE false).event 0x14 2).fb STEER.PLAUS.PLAUSIBLE = false := by
    rw [State.fb, State.f_event _ _ _ (by decide)]
    exact fb_setB_self s false rfl (by decide)
  unfold State.plausibleCleared
  dsimp only
  split
  · exact (congrArg (· == 1) (State.f_setF_word _ _ _ _ (by decide))).trans hev
  · exact hev

/-- UNCERTAIN shares no bit with the other fields of its word. -/
theorem f_uncertainShown (s : State) (cause : Nat) (run : Bool) {y : Fld} (hy : y.addr = STEER.PLAUS)
    (hb : y.lo + y.width ≤ 30 ∨ 31 ≤ y.lo) : (s.uncertainShown cause run).f y = s.f y := by
  have hset (b : Bool) : (s.setB STEER.PLAUS.UNCERTAIN b).f y = s.f y := State.f_setF_ne _ _ _ _ (by decide) hy hb
  have hev : ((s.setB STEER.PLAUS.UNCERTAIN true).event 0x14 3).f y = s.f y := by
    rw [State.f_event _ _ _ (hy ▸ by decide), hset]
  have hon : (s.uncertainSet run).f y = s.f y := by
    unfold State.uncertainSet
    dsimp only
    split
    · exact (State.f_setF_word _ _ _ _ (hy ▸ by decide)).trans hev
    · exact hev
  unfold State.uncertainShown
  split
  · split
    · rfl
    · exact hon
  · exact hset false

theorem staticNow_sameWords (s : State) : SameWords s s.staticNow [EMIT.GOV_CTRL, hdr 0x12 3] :=
  ((PlausShown.refl s _).staticNow (by decide)).words

/-- CAUSE shows the conditions (R183). -/
theorem decidePlaus_cause (s : State) (cause : Nat) : (s.decidePlaus cause).f STEER.PLAUS.CAUSE = cause % 2 ^ 12 := by
  have hu : ((s.setF STEER.PLAUS.CAUSE cause).cleanEnded cause).f STEER.PLAUS.CAUSE = cause % 2 ^ 12 := by
    rw [f_cleanEnded]
    exact State.f_setF_self _ _ _ (by decide)
  rw [decidePlaus_eq, (staticNow_sameWords _).f (by decide), f_uncertainShown _ _ _ rfl (by decide), State.causeShown]
  split
  · rw [f_plausibleCleared _ _ rfl (by decide), hu]
  · exact hu

/-- A clearing condition clears the flag (R183). -/
theorem decidePlaus_clears (s : State) {cause : Nat} (h : cause % 512 ≠ 0) : (s.decidePlaus cause).fb STEER.PLAUS.PLAUSIBLE = false := by
  have hclears : (cause % 512 != 0) = true := by simpa using h
  rw [decidePlaus_eq, (staticNow_sameWords _).fb (by decide), State.fb, f_uncertainShown _ _ _ rfl (by decide), State.causeShown]
  split
  · exact plausibleCleared_off _ _
  · next hp => simpa [hclears, State.fb] using hp

end
end Sys2Proof.Machine
end

section
/-! SUPPORT. DAC updates (R181, R183): what a setting of one condition leaves, and the codes due at an axis. -/

namespace Sys2Proof.Machine

section
variable {s t u : State} {ws : List Nat}

theorem PlausShown.axis (h : PlausShown ws s t) (a : Nat) : t.axis a = s.axis a := by
  obtain ⟨-, _, _, _, _, _, rfl⟩ := h
  rfl

/-- What a decision shows is within the frame of an event of the mirror. -/
theorem mirrorFrame_plausShown (h : MirrorFrame s t ws) (hd : PlausShown plausWords t u) : MirrorFrame s u ws := by
  obtain ⟨hw, hm, hs, ht, hp, hl, hc⟩ := h
  obtain ⟨hword, _, _, _, _, _, rfl⟩ := hd
  refine ⟨fun a hpage ha hgov hev => (hword a ?_).trans (hw a hpage ha hgov hev), hm, hs, ht, hp, hl, hc⟩
  simp only [plausWords, STEER.PLAUS, STEER.PLAUS_CNT, hdr, List.mem_cons, List.not_mem_nil, or_false, not_or] at hev ⊢
  exact ⟨by omega, by omega, by omega, hgov, hev⟩

theorem mirrorFrame_setAxis (s : State) (a : Nat) (x : Axis) : MirrorFrame s (s.setAxis a x) ws :=
  ⟨fun _ _ _ _ _ => rfl, fun _ => rfl, rfl, rfl, rfl, rfl, rfl⟩

theorem mirrorFrame_setF (h : MirrorFrame s t ws) {x : Fld} (hx : x.addr / 0x400 = 0x14) (v : Nat) : MirrorFrame s (t.setF x v) ws := by
  obtain ⟨hw, hm, hs, ht, hp, hl, hc⟩ := h
  refine ⟨fun a hpage ha hgov hev => (State.reg_setF_ne _ _ _ ?_).trans (hw a hpage ha hgov hev), hm, hs, ht, hp, hl, hc⟩
  rintro rfl
  exact hpage hx

theorem mirrorFrame_event (h : MirrorFrame s t ws) (b : Nat) : MirrorFrame s (t.event 0x14 b) ws := by
  obtain ⟨hw, hm, hs, ht, hp, hl, hc⟩ := h
  refine ⟨fun a hpage ha hgov hev => (State.reg_event_ne _ _ _ ?_).trans (hw a hpage ha hgov hev), ?_, by simpa, by simpa, by simpa,
    by simpa, by simpa⟩
  · rintro rfl
    exact hpage (by decide)
  · exact fun a => (State.rd_congr (by simp) (by simp) a).trans (hm a)

/-! ## One condition set (R183) -/

theorem setCause_shown (s : State) (bit : Nat) (b : Bool) : PlausShown plausWords s (s.setCause bit b) := decidePlaus_shown ..

/-- A bit of CAUSE that is set shows, and a clearing one clears PLAUSIBLE. -/
theorem setCause_true (s : State) {bit : Nat} (h : bit < 9) :
    (s.setCause bit true).cause bit = true ∧ (s.setCause bit true).fb STEER.PLAUS.PLAUSIBLE = false := by
  have hbit : (putBits (s.f STEER.PLAUS.CAUSE) bit 1 (b2n true)).testBit bit = true := by
    rw [putBits_testBit, if_pos ⟨Nat.le_refl _, Nat.lt_succ_self _⟩, Nat.sub_self]
    rfl
  constructor
  · have hshown : (s.setCause bit true).f STEER.PLAUS.CAUSE = _ := decidePlaus_cause ..
    rw [State.cause, bitOf_eq_testBit, hshown, Nat.testBit_mod_two_pow, hbit, decide_eq_true (by omega), Bool.and_self]
  · refine decidePlaus_clears _ fun h0 => ?_
    have hmod := Nat.testBit_mod_two_pow (putBits (s.f STEER.PLAUS.CAUSE) bit 1 (b2n true)) 9 bit
    rw [show (2 : Nat) ^ 9 = 512 from rfl, h0, hbit] at hmod
    simp [h] at hmod

/-! ## Codes due (R181) -/

theorem axis_setAxis {a : Nat} (h : a < s.steer.axes.length) (x : Axis) : (s.setAxis a x).axis a = x := nth_setNth_self h x {}

theorem axis_mem {a : Nat} (h : a < s.steer.axes.length) : s.axis a ∈ s.steer.axes := by
  rw [State.axis, nth, List.getD_eq_getElem _ _ h]
  exact List.getElem_mem h

/-- The fields of an axis in the STEER page, apart from the words of a decision. -/
theorem axisWords : ∀ a < 2, STEER.DRIVE a / 0x400 = 0x14 ∧ STEER.STAT a / 0x400 = 0x14 ∧ STEER.DRIVE a ∉ plausWords ∧
    STEER.STAT a ∉ plausWords ∧ STEER.DRIVE a ≠ STEER.STAT a ∧ STEER.STAT a ≠ hdr 0x14 3 ∧ STEER.DRIVE a ≠ hdr 0x14 3 := by
  decide

/-- Fields that do not reach beyond their word. -/
theorem axisFields (a : Nat) : (STEER.DRIVE.VALUE a).lo + (STEER.DRIVE.VALUE a).width ≤ 32 ∧
    (STEER.STAT.MISSES a).lo + (STEER.STAT.MISSES a).width ≤ 32 := ⟨by simp [STEER.DRIVE.VALUE], by simp [STEER.STAT.MISSES]⟩

theorem unsigned_lt (w : Nat) (v : Int) : unsigned w v < 2 ^ w := by
  have hpos : (0 : Int) < ((2 ^ w : Nat) : Int) := by positivity
  have := Int.emod_nonneg v hpos.ne'
  have := Int.emod_lt_of_pos v hpos
  unfold unsigned
  omega

/-- A signed value written reads as its two's complement. -/
theorem f_setI_self (s : State) {x : Fld} (h : x.lo + x.width ≤ 32) (v : Int) : (s.setI x v).f x = unsigned x.width v := by
  rw [State.setI, State.f_setF_self _ _ _ h, Nat.mod_eq_of_lt (unsigned_lt ..)]

/-- The fourth miss in a row on an axis is a condition (R183). -/
def State.missedFour (s : State) : Bool := s.steer.axes.any fun x => decide (4 ≤ x.missed)

/-- The oldest code due is sent to the DAC (R181). -/
def State.codeSent (s : State) (a : Nat) (code : Int) (rest : List Int) : State :=
  (s.setAxis a { s.axis a with due := rest, missed := 0 }).setI (STEER.DRIVE.VALUE a) code

/-- The oldest code due is missed (R181). -/
def State.codeMissed (s : State) (a : Nat) (rest : List Int) : State :=
  ((s.setAxis a { s.axis a with due := rest, missed := (s.axis a).missed + 1 }).incF (STEER.STAT.MISSES a)).event 0x14 4

section
variable {a : Fin 2} {late : Bool} {code : Int} {rest : List Int} (hdue : (s.axis a.val).due = code :: rest)
  (hlen : s.steer.axes.length = 2)
include hdue

theorem dacUpdate_due : exec (.dacUpdate a late) s = .next (if late = true ∧ max 48 (s.f STEER.PLAUS_CFG.DAC_LAT) < 80
    then (s.codeMissed a.val rest).setCause 8 (s.codeMissed a.val rest).missedFour
    else (s.codeSent a.val code rest).setCause 8 (s.codeSent a.val code rest).missedFour) := by
  change execDacUpdate a late s = _
  rw [execDacUpdate]
  dsimp only
  rw [hdue]
  dsimp only
  split <;> rfl

include hlen

/-- A code that comes in time, or with a DAC_LAT that allows none to be late, goes out (R181). -/
theorem dacUpdate_sends (h : late = false ∨ 80 ≤ s.f STEER.PLAUS_CFG.DAC_LAT) :
    ∃ t, exec (.dacUpdate a late) s = .next t ∧ t.f (STEER.DRIVE.VALUE a.val) = unsigned 16 code ∧ (t.axis a.val).due = rest ∧
      (t.axis a.val).missed = 0 ∧ t.f (STEER.STAT.MISSES a.val) = s.f (STEER.STAT.MISSES a.val) ∧ MirrorFrame s t [] := by
  obtain ⟨hdrivePage, -, hdrive, hstat, hne, -, -⟩ := axisWords a.val a.isLt
  have hshown := setCause_shown (s.codeSent a.val code rest) 8 (s.codeSent a.val code rest).missedFour
  have haxis : (s.codeSent a.val code rest).axis a.val = { s.axis a.val with due := rest, missed := 0 } :=
    axis_setAxis (by omega) _
  have hintime : ¬(late = true ∧ max 48 (s.f STEER.PLAUS_CFG.DAC_LAT) < 80) := by
    rintro ⟨hlate, hlat⟩
    rcases h with h | h
    · exact absurd (h.symm.trans hlate) (by decide)
    · omega
  refine ⟨_, (dacUpdate_due hdue).trans (by rw [if_neg hintime]), ?_, ?_, ?_, ?_, ?_⟩
  · rw [hshown.words.f hdrive]
    exact f_setI_self _ (axisFields _).1 code
  · rw [hshown.axis, haxis]
  · rw [hshown.axis, haxis]
  · rw [hshown.words.f hstat]
    exact State.f_setF_word _ _ _ _ hne.symm
  · exact mirrorFrame_plausShown (mirrorFrame_setF (mirrorFrame_setAxis s a.val _) hdrivePage _) hshown

/-- A late code is dropped and counted; the fourth in a row is a condition of plausibility (R181, R183). -/
theorem dacUpdate_misses (h : s.f STEER.PLAUS_CFG.DAC_LAT < 80) :
    ∃ t, exec (.dacUpdate a true) s = .next t ∧ t.reg (STEER.DRIVE a.val) = s.reg (STEER.DRIVE a.val) ∧ (t.axis a.val).due = rest ∧
      (t.axis a.val).missed = (s.axis a.val).missed + 1 ∧
      t.f (STEER.STAT.MISSES a.val) = satAdd (STEER.STAT.MISSES a.val).width (s.f (STEER.STAT.MISSES a.val)) 1 ∧
      (t.reg (hdr 0x14 3)).getLsbD 4 = true ∧
      (3 ≤ (s.axis a.val).missed → t.cause 8 = true ∧ t.fb STEER.PLAUS.PLAUSIBLE = false) ∧ MirrorFrame s t [] := by
  obtain ⟨-, hstatPage, hdrive, hstat, hne, hstatEv, hdriveEv⟩ := axisWords a.val a.isLt
  have hshown := setCause_shown (s.codeMissed a.val rest) 8 (s.codeMissed a.val rest).missedFour
  have hsteer : (s.codeMissed a.val rest).steer = (s.setAxis a.val { s.axis a.val with due := rest, missed := (s.axis a.val).missed + 1 }).steer := by
    simp [State.codeMissed]
  have haxis : (s.codeMissed a.val rest).axis a.val = { s.axis a.val with due := rest, missed := (s.axis a.val).missed + 1 } := by
    rw [State.axis, hsteer]
    exact axis_setAxis (by omega) _
  have hraised : ((s.codeMissed a.val rest).reg (hdr 0x14 3)).getLsbD 4 = true := by
    rw [State.codeMissed, State.reg_event_self, BitVec.getLsbD_or]
    simp
  refine ⟨_, (dacUpdate_due hdue).trans (by rw [if_pos ⟨rfl, by omega⟩]), ?_, ?_, ?_, ?_, ?_, fun h3 => ?_, ?_⟩
  · rw [hshown.words _ hdrive, State.codeMissed, State.reg_event_ne _ _ _ hdriveEv]
    exact State.reg_addF_ne _ _ _ hne
  · rw [hshown.axis, haxis]
  · rw [hshown.axis, haxis]
  · rw [hshown.words.f hstat, State.codeMissed, State.f_event _ _ _ hstatEv]
    exact State.f_addF_self _ _ _ (axisFields _).2
  · exact ((KeepsSettings.refl _).decidePlaus _).events 0x14 4 hraised
  · have hfour : (s.codeMissed a.val rest).missedFour = true := by
      refine List.any_eq_true.2 ⟨_, axis_mem (a := a.val) ?_, ?_⟩
      · simp [hsteer, State.setAxis, setNth, hlen]
        omega
      · rw [haxis]
        exact decide_eq_true (Nat.succ_le_succ h3)
    rw [hfour]
    exact setCause_true _ (by decide)
  · exact mirrorFrame_plausShown (mirrorFrame_event (mirrorFrame_setF (mirrorFrame_setAxis s a.val _) hstatPage _) 4) hshown

end

/-- With no code due a DAC update does nothing (R181). -/
theorem dacUpdate_nothing {a : Fin 2} {late : Bool} (h : (s.axis a.val).due = []) : exec (.dacUpdate a late) s = .next s := by
  change execDacUpdate a late s = _
  rw [execDacUpdate, h]

end
end Sys2Proof.Machine
end

section
/-! SUPPORT. Edges on SYNC_IN and their loss (R23, R24, R107, R174, R175). -/

namespace Sys2Proof.Machine

section
variable {s t u : State} {ws : List Nat}

/-! ## What an edge that the frame timer takes brings with it (R23, R24, R107) -/

/-- A set of TIME leaves the requests and the images as they are. -/
theorem setTime_requests (s : State) (v : Nat) (mode : Option Nat) : (s.setTime v mode).commits = s.commits ∧
    (s.setTime v mode).ispHeld = s.ispHeld ∧ (s.setTime v mode).img = s.img := by
  have hshown {x : State} (h : TimeShown s x v) : (x.heartbeat false).commits = s.commits ∧ (x.heartbeat false).ispHeld = s.ispHeld ∧
      (x.heartbeat false).img = s.img := by
    obtain ⟨_, he, -⟩ := heartbeat_eq x
    obtain ⟨_, _, _, _, rfl⟩ := onlyEvents_iff.1 h.only
    rw [he]
    exact ⟨rfl, rfl, rfl⟩
  cases mode with
  | none => exact hshown (timeCounted_shown s v)
  | some m => exact hshown (timeTold_shown s v s.timeNs m)

/-- A request with boundary 3 is armed by an edge (R24). -/
def CommitReq.atEdge (r : CommitReq) : CommitReq := if r.boundary = 3 then { r with armed := true } else r

/-- Requests of lidar pages wait for a frame after the edge (R23, R24). -/
theorem edgeCommits_lidar (h : ∀ r ∈ s.commits, lidarPage r.page = true) (hheld : s.ispHeld = none) :
    s.edgeCommits = { s with commits := s.commits.map CommitReq.atEdge } := by
  have hapart : ∀ r ∈ s.commits, camOf r.page = none ∧ r.page ≠ 0x44 := fun r hr => lidarPage_apart (h r hr)
  have hsup : (s.commits.filter fun r => r.boundary == 3 && !lidarPage r.page && (camOf r.page).isNone && r.page != 0x44) = [] :=
    List.filter_eq_nil_iff.2 fun r hr => by simp [h r hr]
  have hcams : (s.commits.filter fun r => r.boundary == 3 && (camOf r.page).any s.portIdle) = [] :=
    List.filter_eq_nil_iff.2 fun r hr => by simp [(hapart r hr).1]
  have hisp : (s.commits.filter fun r => r.page == 0x44 && r.boundary == 3) = [] :=
    List.filter_eq_nil_iff.2 fun r hr => by simp [(hapart r hr).2]
  have hnone : ((s.takeEffect [] []).idleCommits).postHeld = s := by
    rw [takeEffect_nil fun r hr => (hapart r hr).2, idleCommits_eq_self hapart, postHeld_eq_self hheld]
  rw [State.edgeCommits, State.idleAt, hsup, hcams, hisp]
  simp only [List.map_nil, List.flatMap_nil, List.append_nil, hnone]
  rfl

theorem changeArmed_eq_self (h : s.img.cfg = none) : s.changeArmed = s := by rw [State.changeArmed, h]

/-- With no request waiting and no activation an edge arms nothing (R24). -/
theorem edgeArms_nothing (hc : s.commits = []) (hheld : s.ispHeld = none) (himg : s.img.cfg = none) : s.edgeCommits.changeArmed = s := by
  have hsame : s.edgeCommits = s := by
    rw [edgeCommits_lidar (by simp [hc]) hheld, hc, List.map_nil, ← hc]
  rw [hsame, changeArmed_eq_self himg]

/-- What follows an edge that the frame timer takes, with nothing waiting for it. -/
theorem edgeTaken_quiet (htime : s.timeSet = none) (hc : s.commits = []) (hheld : s.ispHeld = none) (himg : s.img.cfg = none) :
    (s.timeAtEdge.edgeCommits).changeArmed = s := by
  rw [State.timeAtEdge, htime]
  exact edgeArms_nothing hc hheld himg

/-- A time set that waits takes effect at the edge (R107). -/
theorem timeAtEdge_sets {v : TimeSet} (h : s.timeSet = some v) : TimeSetTo s s.timeAtEdge (10 * v.value) ∧
    SameWords s s.timeAtEdge (if v.packet then [TIME.STAT, hdr 0x06 3, hdr 0x48 3] else [TIME.STAT, hdr 0x06 3]) := by
  rw [State.timeAtEdge, h]
  dsimp only
  cases v.packet with
  | false => exact setTime_none_sets s _
  | true =>
    obtain ⟨hset, -, -, hwords⟩ := setTime_some_sets s (10 * v.value) 1
    exact ⟨hset, hwords⟩

theorem timeAtEdge_requests (s : State) : s.timeAtEdge.commits = s.commits ∧ s.timeAtEdge.ispHeld = s.ispHeld ∧ s.timeAtEdge.img = s.img := by
  unfold State.timeAtEdge
  split
  · exact ⟨rfl, rfl, rfl⟩
  · exact setTime_requests ..

/-! ## The source in force is the internal timer (R174) -/

theorem syncInEdge_taken {edge : Nat} (h : s.syncEdge edge = (t, true)) :
    exec (.syncInEdge edge) s = .next (t.timeAtEdge.edgeCommits).changeArmed := by
  change execSyncInEdge edge s = _
  rw [execSyncInEdge, h]

/-- An edge taken by the frame timer, with nothing waiting for it. -/
theorem syncInEdge_quiet {edge : Nat} (h : s.syncEdge edge = (t, true)) (htime : t.timeSet = none) (hc : t.commits = [])
    (hheld : t.ispHeld = none) (himg : t.img.cfg = none) : exec (.syncInEdge edge) s = .next t := by
  rw [syncInEdge_taken h, edgeTaken_quiet htime hc hheld himg]

theorem syncEdge_internal (edge : Nat) (h : s.steer.frame.sync = false) : s.syncEdge edge = (s, true) := by
  rw [State.syncEdge]
  simp [h]

/-- A time set that waits takes effect at the edge (R24, R107). -/
theorem syncInEdge_sets (edge : Nat) {v : TimeSet} (h : s.steer.frame.sync = false) (htime : s.timeSet = some v) (hc : s.commits = [])
    (hheld : s.ispHeld = none) (himg : s.img.cfg = none) :
    ∃ t, exec (.syncInEdge edge) s = .next t ∧ TimeSetTo s t (10 * v.value) ∧
      SameWords s t (if v.packet then [TIME.STAT, hdr 0x06 3, hdr 0x48 3] else [TIME.STAT, hdr 0x06 3]) := by
  obtain ⟨hcommits, hispHeld, hcfg⟩ := timeAtEdge_requests s
  refine ⟨_, syncInEdge_taken (syncEdge_internal edge h), ?_⟩
  rw [edgeArms_nothing (hcommits.trans hc) (hispHeld.trans hheld) (by rw [hcfg, himg])]
  exact timeAtEdge_sets htime

/-- A waiting request of a lidar page is armed by the edge (R23, R24). -/
theorem syncInEdge_arms (edge : Nat) {r : CommitReq} (h : s.steer.frame.sync = false) (htime : s.timeSet = none) (hc : s.commits = [r])
    (hb : r.boundary = 3) (hpage : lidarPage r.page = true) (hheld : s.ispHeld = none) (himg : s.img.cfg = none) :
    exec (.syncInEdge edge) s = .next { s with commits := [{ r with armed := true }] } := by
  have hsame : s.timeAtEdge = s := by rw [State.timeAtEdge, htime]
  have harmed : s.edgeCommits = { s with commits := [{ r with armed := true }] } := by
    rw [edgeCommits_lidar (by simp [hc, hpage]) hheld, hc, List.map_singleton, CommitReq.atEdge, if_pos hb]
  rw [syncInEdge_taken (syncEdge_internal edge h), hsame, harmed]
  exact congrArg _ (changeArmed_eq_self himg)

/-! ## A glitch (R174) -/

theorem syncEdge_glitch {edge last : Nat} (h : s.steer.frame.sync = true) (hlast : s.steer.frame.lastEdge = some last)
    (hearly : edge < last + s.steer.frame.pEst / 131072) : s.syncEdge edge = ((s.incF STEER.SYNC_CNT.GLITCH).event 0x14 6, false) := by
  rw [State.syncEdge]
  simp [h, hlast, hearly]

theorem syncInEdge_glitch {edge last : Nat} (h : s.steer.frame.sync = true) (hlast : s.steer.frame.lastEdge = some last)
    (hearly : edge < last + s.steer.frame.pEst / 131072) :
    ∃ t, exec (.syncInEdge edge) s = .next t ∧ t.f STEER.SYNC_CNT.GLITCH = satAdd 16 (s.f STEER.SYNC_CNT.GLITCH) 1 ∧ Raised s t 0x14 6 ∧
      SameWords s t [STEER.SYNC_CNT, hdr 0x14 3] ∧ OnlyEvents s t := by
  have hrun : exec (.syncInEdge edge) s = .next ((s.incF STEER.SYNC_CNT.GLITCH).event 0x14 6) := by
    change execSyncInEdge edge s = _
    rw [execSyncInEdge, syncEdge_glitch h hlast hearly]
  refine ⟨_, hrun, ?_, ?_, ((SameWords.refl s _).setF _ (by decide)).event 6 (by decide), ((OnlyEvents.refl s).addF _ 1).event _ _⟩
  · rw [State.f_event _ _ _ (by decide)]
    exact State.f_addF_self _ _ _ (by decide)
  · rw [Raised, State.reg_event_self, State.incF, State.reg_addF_ne _ _ _ (by decide)]

/-! ## An accepted edge (R174, R175) -/

/-- The edge kept, and SYNC_LOST clear (R174). -/
def State.edgeKept (s : State) (edge : Nat) : State :=
  (s.setFrame { s.steer.frame with lastEdge := some edge, restart := false }).setB STEER.LOCK_STAT.SYNC_LOST false

theorem syncEdge_accepted {edge : Nat} (h : s.steer.frame.sync = true)
    (hlate : ∀ last, s.steer.frame.lastEdge = some last → last + s.steer.frame.pEst / 131072 ≤ edge) : s.syncEdge edge =
      if s.steer.frame.restart ∧ !(s.pwr.st = .run ∧ s.steer.mode = 2) then ((s.edgeKept edge).moveBoundary edge, true)
      else ((s.edgeKept edge).syncLoop edge, true) := by
  have hnot : (s.steer.frame.lastEdge.any fun t => decide (edge < t + s.steer.frame.pEst / 131072)) = false := by
    cases he : s.steer.frame.lastEdge with
    | none => rfl
    | some last => simpa using hlate last he
  rw [State.syncEdge]
  dsimp only
  rw [if_neg (by simp [h]), if_neg (by simp [hnot])]
  rfl

/-- The phase is taken from the frame boundaries, which the edge has not moved. -/
theorem syncPhase_edgeKept (s : State) (edge target : Nat) : (s.edgeKept edge).syncPhase target = s.syncPhase target := by
  have hlen : (s.edgeKept edge).nextLength = s.nextLength := by
    have hset : SameWords s (s.edgeKept edge) [STEER.LOCK_STAT] := SameWords.setF (SameWords.of_regs rfl) _ (by decide)
    unfold State.nextLength
    rw [hset.fb (by decide), hset.f (by decide)]
    rfl
  unfold State.syncPhase
  rw [hlen]
  rfl

theorem clip_between {lo hi : Int} (h : lo ≤ hi) (v : Int) : lo ≤ clip lo hi v ∧ clip lo hi v ≤ hi := by
  unfold clip
  split
  · omega
  · split <;> omega

/-- A value within bounds stays within them, and goes no further than the step. -/
theorem clip_step {lo hi p step : Int} (hlo : lo ≤ p) (hhi : p ≤ hi) (hstep : 0 ≤ step) (x : Int) :
    clip lo hi (p + clip (-step) step x) ≤ p + step ∧ p ≤ clip lo hi (p + clip (-step) step x) + step := by
  obtain ⟨h1, h2⟩ := clip_between (show -step ≤ step by omega) x
  generalize clip (-step) step x = d at *
  unfold clip
  split
  · omega
  · split <;> omega

/-- The phase of the edge as the loop takes it (R174). -/
def State.edgePhase (s : State) (edge : Nat) : Int := s.syncPhase (edge + s.f STEER.SYNC_DELAY.VALUE)

/-- The slew limit of the loop (R174). -/
def State.slewLimit (s : State) : Nat := s.steer.frame.pEst * max 1 (s.f STEER.LOCK_CFG.SLEW) / 65536

/-- The period estimate after an edge (R174). -/
def State.nextEstimate (s : State) (edge : Nat) : Int :=
  clip (20833334 * 65536) (125000000 * 65536) (s.steer.frame.pEst +
    clip (-((s.slewLimit : Int) / 4)) ((s.slewLimit : Int) / 4) (s.edgePhase edge * 65536 / 16))

/-- The loop moves the period estimate within its bounds, by a quarter of the slew at most (R174). -/
theorem nextEstimate_between (edge : Nat) (hlo : 20833334 * 65536 ≤ s.steer.frame.pEst) (hhi : s.steer.frame.pEst ≤ 125000000 * 65536) :
    (s.nextEstimate edge).toNat ≤ s.steer.frame.pEst + s.slewLimit / 4 ∧ s.steer.frame.pEst ≤ (s.nextEstimate edge).toNat + s.slewLimit / 4 ∧
      20833334 * 65536 ≤ (s.nextEstimate edge).toNat ∧ (s.nextEstimate edge).toNat ≤ 125000000 * 65536 := by
  have hstep := clip_step (p := s.steer.frame.pEst) (lo := 20833334 * 65536) (hi := 125000000 * 65536) (step := (s.slewLimit : Int) / 4)
    (by omega) (by omega) (by omega) (s.edgePhase edge * 65536 / 16)
  have hin := clip_between (lo := 20833334 * 65536) (hi := 125000000 * 65536) (by decide) (s.steer.frame.pEst +
    clip (-((s.slewLimit : Int) / 4)) ((s.slewLimit : Int) / 4) (s.edgePhase edge * 65536 / 16))
  rw [State.nextEstimate]
  omega

/-- What the loop shows of an edge (R174): the phase and the estimate. -/
def State.phaseShown (s : State) (edge : Nat) (f : FrameTimer) : State :=
  ((s.setFrame f).setI STEER.PHASE_ERR.VALUE (s.edgePhase edge)).setF STEER.PERIOD_EST.VALUE ((s.nextEstimate edge).toNat / 65536)

/-- The lock state after an edge (R174): `good` counts the edges in a row within LOCK_TOL. -/
def State.lockShown (s : State) (tol : Bool) (good : Nat) : State :=
  if !tol then s.setF STEER.LOCK_STAT.STATE 1
  else if 4 ≤ good ∧ s.f STEER.LOCK_STAT.STATE ≠ 2 then (s.setF STEER.LOCK_STAT.STATE 2).event 0x14 1
  else s

/-- The edge lies within LOCK_TOL (R174). -/
def State.withinTol (s : State) (edge : Nat) : Bool := decide ((s.edgePhase edge).natAbs ≤ s.f STEER.LOCK_CFG.LOCK_TOL)

theorem syncLoop_eq (s : State) (edge : Nat) : ∃ adjusts good,
    s.syncLoop edge = (s.phaseShown edge { s.steer.frame with
      pEst := (s.nextEstimate edge).toNat, adjusts := adjusts, good := good }).lockShown (s.withinTol edge) good := ⟨_, _, rfl⟩


theorem edgeKept_sameWords (s : State) (edge : Nat) : SameWords s (s.edgeKept edge) [STEER.LOCK_STAT] :=
  SameWords.setF (SameWords.of_regs rfl) _ (by decide)

theorem edgePhase_edgeKept (s : State) (edge : Nat) : (s.edgeKept edge).edgePhase edge = s.edgePhase edge := by
  rw [State.edgePhase, (edgeKept_sameWords s edge).f (by decide), syncPhase_edgeKept, State.edgePhase]

theorem nextEstimate_edgeKept (s : State) (edge : Nat) : (s.edgeKept edge).nextEstimate edge = s.nextEstimate edge := by
  have hslew : (s.edgeKept edge).slewLimit = s.slewLimit := by
    rw [State.slewLimit, (edgeKept_sameWords s edge).f (by decide), State.slewLimit]
    rfl
  rw [State.nextEstimate, hslew, edgePhase_edgeKept, State.nextEstimate]
  rfl

theorem lockShown_sameWords (s : State) (tol : Bool) (good : Nat) : SameWords s (s.lockShown tol good) [STEER.LOCK_STAT, hdr 0x14 3] := by
  have hset (v : Nat) : SameWords s (s.setF STEER.LOCK_STAT.STATE v) [STEER.LOCK_STAT, hdr 0x14 3] :=
    (SameWords.refl s _).setF v (by decide)
  unfold State.lockShown
  split
  · exact hset 1
  · split
    · exact (hset 2).event 1 (by decide)
    · exact SameWords.refl s _

theorem OnlyEvents.lockShown (h : OnlyEvents s t) (tol : Bool) (good : Nat) : OnlyEvents s (t.lockShown tol good) := by
  unfold State.lockShown
  split
  · exact h.setF _ _
  · split
    · exact (h.setF _ _).event _ _
    · exact h

/-- STATE leaves SYNC_LOST as it is. -/
theorem lockShown_syncLost (s : State) (tol : Bool) (good : Nat) :
    (s.lockShown tol good).fb STEER.LOCK_STAT.SYNC_LOST = s.fb STEER.LOCK_STAT.SYNC_LOST := by
  have hset (v : Nat) : (s.setF STEER.LOCK_STAT.STATE v).f STEER.LOCK_STAT.SYNC_LOST = s.f STEER.LOCK_STAT.SYNC_LOST :=
    State.f_setF_ne _ _ _ _ (by decide) rfl (by decide)
  unfold State.lockShown State.fb
  split
  · rw [hset]
  · split
    · rw [State.f_event _ _ _ (by decide), hset]
    · rfl

theorem lockShown_unlocked (s : State) (good : Nat) : (s.lockShown false good).f STEER.LOCK_STAT.STATE = 1 :=
  State.f_setF_self _ _ _ (by decide)

/-- What an accepted edge leaves where the loop runs (R174): the frame timer `f`, and what the loop shows. -/
structure EdgeLooped (s t : State) (edge : Nat) (f : FrameTimer) : Prop where
  only : OnlyEvents (s.setFrame f) t
  words : SameWords s t [STEER.LOCK_STAT, STEER.PHASE_ERR, STEER.PERIOD_EST, hdr 0x14 3]
  phase : t.f STEER.PHASE_ERR.VALUE = unsigned 32 (s.edgePhase edge)
  lost : t.fb STEER.LOCK_STAT.SYNC_LOST = false
  unlocked : s.f STEER.LOCK_CFG.LOCK_TOL < (s.edgePhase edge).natAbs → t.f STEER.LOCK_STAT.STATE = 1

theorem syncLoop_looped (s : State) (edge : Nat) : ∃ adjusts good, EdgeLooped s ((s.edgeKept edge).syncLoop edge) edge
    { s.steer.frame with lastEdge := some edge, restart := false, pEst := (s.nextEstimate edge).toNat, adjusts := adjusts, good := good } := by
  obtain ⟨adjusts, good, e⟩ := syncLoop_eq (s.edgeKept edge) edge
  rw [nextEstimate_edgeKept] at e
  have hkept := edgeKept_sameWords s edge
  have htol : (s.edgeKept edge).withinTol edge = s.withinTol edge := by
    rw [State.withinTol, edgePhase_edgeKept, hkept.f (by decide), State.withinTol]
  rw [htol] at e
  refine ⟨adjusts, good, ?_⟩
  rw [e]
  generalize hf : FrameTimer.mk .. = f
  have hshown : SameWords s ((s.edgeKept edge).phaseShown edge f) [STEER.LOCK_STAT, STEER.PHASE_ERR, STEER.PERIOD_EST, hdr 0x14 3] :=
    ((SameWords.trans (hkept.mono (by simp)) (SameWords.of_regs rfl)).setF _ (by decide)).setF _ (by decide)
  have hlock := lockShown_sameWords ((s.edgeKept edge).phaseShown edge f) (s.withinTol edge) good
  refine ⟨?_, ?_, ?_, ?_, fun hfar => ?_⟩
  · exact OnlyEvents.lockShown (by subst hf; rfl) _ _
  · exact hshown.trans (hlock.mono (by simp))
  · rw [hlock.f (by decide), State.phaseShown, State.f_setF_word _ _ _ _ (by decide), f_setI_self _ (by decide), edgePhase_edgeKept]
    rfl
  · rw [lockShown_syncLost, State.phaseShown, State.fb, State.f_setF_word _ _ _ _ (by decide), State.setI,
      State.f_setF_word _ _ _ _ (by decide)]
    exact fb_setB_self _ false rfl (by decide)
  · have hfalse : s.withinTol edge = false := decide_eq_false (Nat.not_le.2 hfar)
    rw [hfalse]
    exact lockShown_unlocked _ _

/-- An accepted edge while the loop runs (R174). -/
theorem syncInEdge_loops {edge : Nat} (h : s.steer.frame.sync = true)
    (hlate : ∀ last, s.steer.frame.lastEdge = some last → last + s.steer.frame.pEst / 131072 ≤ edge) (htime : s.timeSet = none)
    (hc : s.commits = []) (hheld : s.ispHeld = none) (himg : s.img.cfg = none) (hr : s.steer.frame.restart = false)
    (hlo : 20833334 * 65536 ≤ s.steer.frame.pEst) (hhi : s.steer.frame.pEst ≤ 125000000 * 65536) :
    ∃ t, exec (.syncInEdge edge) s = .next t ∧ t.steer.frame.lastEdge = some edge ∧ t.fb STEER.LOCK_STAT.SYNC_LOST = false ∧
      (let slew := s.steer.frame.pEst * max 1 (s.f STEER.LOCK_CFG.SLEW) / 65536
       t.steer.frame.pEst ≤ s.steer.frame.pEst + slew / 4 ∧ s.steer.frame.pEst ≤ t.steer.frame.pEst + slew / 4 ∧
       20833334 * 65536 ≤ t.steer.frame.pEst ∧ t.steer.frame.pEst ≤ 125000000 * 65536) ∧
      t.f STEER.PHASE_ERR.VALUE = unsigned 32 (s.syncPhase (edge + s.f STEER.SYNC_DELAY.VALUE)) ∧
      (s.f STEER.LOCK_CFG.LOCK_TOL < (s.syncPhase (edge + s.f STEER.SYNC_DELAY.VALUE)).natAbs → t.f STEER.LOCK_STAT.STATE = 1) ∧
      t.steer.frame.start = s.steer.frame.start ∧ t.steer.frame.length = s.steer.frame.length ∧
      SameWords s t [STEER.LOCK_STAT, STEER.PHASE_ERR, STEER.PERIOD_EST, hdr 0x14 3] ∧ SameMemory s t ∧ t.shadow = s.shadow ∧
      t.time = s.time ∧ t.deal = s.deal ∧ t.pwr = s.pwr := by
  obtain ⟨adjusts, good, hloop⟩ := syncLoop_looped s edge
  have htaken : s.syncEdge edge = ((s.edgeKept edge).syncLoop edge, true) := by
    rw [syncEdge_accepted h hlate, if_neg (by simp [hr])]
  generalize (s.edgeKept edge).syncLoop edge = t at hloop htaken
  obtain ⟨honly, hwords, hphase, hlost, hunlocked⟩ := hloop
  have hest := nextEstimate_between edge hlo hhi
  obtain ⟨regs, merges, qB, seqs, rfl⟩ := onlyEvents_iff.1 honly
  exact ⟨_, syncInEdge_quiet htaken htime hc hheld himg, rfl, hlost, hest, hphase, hunlocked, rfl, rfl, hwords, fun _ => rfl, rfl, rfl, rfl, rfl⟩

/-- What a moved boundary shows (R175): the frame timer `f`, the phase and the lock state. -/
def State.moveShown (s : State) (f : FrameTimer) (phi : Int) : State :=
  ((s.setFrame f).setI STEER.PHASE_ERR.VALUE phi).setF STEER.LOCK_STAT.STATE 1

theorem moveShown_syncLost (s : State) (f : FrameTimer) (phi : Int) :
    (s.moveShown f phi).fb STEER.LOCK_STAT.SYNC_LOST = s.fb STEER.LOCK_STAT.SYNC_LOST := by
  rw [State.fb, State.moveShown, State.f_setF_ne _ STEER.LOCK_STAT.STATE STEER.LOCK_STAT.SYNC_LOST _ (by decide) rfl (by decide), State.setI,
    State.f_setF_word _ _ _ _ (by decide)]
  rfl

/-- The frame timer once the next boundary has moved (R175). -/
def State.movedFrame (s : State) (edge : Nat) : FrameTimer :=
  { s.steer.frame with
    moved := some (if s.f STEER.SYNC_DELAY.VALUE < 2500 then edge + s.f STEER.SYNC_DELAY.VALUE + s.steer.frame.pEst / 65536
      else edge + s.f STEER.SYNC_DELAY.VALUE)
    adjusts := []
    good := 0 }

theorem moveBoundary_eq (s : State) (edge : Nat) : ∃ deal,
    s.moveBoundary edge = { s.moveShown (s.movedFrame edge) (s.edgePhase edge) with deal := deal } := by
  have hearly : (edge + s.f STEER.SYNC_DELAY.VALUE < edge + 2500) = (s.f STEER.SYNC_DELAY.VALUE < 2500) :=
    propext Nat.add_lt_add_iff_left
  rw [State.moveBoundary]
  simp only [hearly]
  exact ⟨_, rfl⟩

/-- What an edge leaves that moves the next boundary (R174, R175). -/
theorem movedBoundary_shown (s : State) (edge : Nat) : ∃ regs deal,
    (s.edgeKept edge).moveBoundary edge = { s with regs := regs, deal := deal, steer := { s.steer with
      frame := { s.movedFrame edge with lastEdge := some edge, restart := false } } } ∧
    ((s.edgeKept edge).moveBoundary edge).f STEER.LOCK_STAT.STATE = 1 ∧
    ((s.edgeKept edge).moveBoundary edge).fb STEER.LOCK_STAT.SYNC_LOST = false ∧
    SameWords s ((s.edgeKept edge).moveBoundary edge) [STEER.LOCK_STAT, STEER.PHASE_ERR] := by
  obtain ⟨deal, e⟩ := moveBoundary_eq (s.edgeKept edge) edge
  have hkept := edgeKept_sameWords s edge
  have hmoved : (s.edgeKept edge).movedFrame edge = { s.movedFrame edge with lastEdge := some edge, restart := false } := by
    rw [State.movedFrame, hkept.f (by decide)]
    rfl
  have hregs : ((s.edgeKept edge).moveBoundary edge).regs =
      ((s.edgeKept edge).moveShown ((s.edgeKept edge).movedFrame edge) ((s.edgeKept edge).edgePhase edge)).regs := by rw [e]
  refine ⟨((s.edgeKept edge).moveBoundary edge).regs, deal, ?_, ?_, ?_, ?_⟩
  · rw [hregs, e, hmoved]
    rfl
  · rw [State.f, State.reg, hregs]
    exact State.f_setF_self _ _ _ (by decide)
  · rw [State.fb, State.f, State.reg, hregs]
    exact (moveShown_syncLost ..).trans (fb_setB_self _ false rfl (by decide))
  · have hshown (f : FrameTimer) (phi : Int) : SameWords s ((s.edgeKept edge).moveShown f phi) [STEER.LOCK_STAT, STEER.PHASE_ERR] :=
      ((SameWords.trans (hkept.mono (by simp)) (SameWords.of_regs rfl)).setF _ (by decide)).setF _ (by decide)
    exact (hshown _ _).trans (SameWords.of_regs hregs)

/-- An accepted edge that restarts the loop after a loss (R175). -/
theorem syncInEdge_restarts {edge : Nat} (h : s.steer.frame.sync = true) (hlast : s.steer.frame.lastEdge = none) (htime : s.timeSet = none)
    (hc : s.commits = []) (hheld : s.ispHeld = none) (himg : s.img.cfg = none) (hr : s.steer.frame.restart = true)
    (hunlocked : ¬(s.pwr.st = .run ∧ s.steer.mode = 2)) :
    ∃ t, exec (.syncInEdge edge) s = .next t ∧ t.steer.frame.lastEdge = some edge ∧ t.steer.frame.restart = false ∧
      t.steer.frame.moved = some (if s.f STEER.SYNC_DELAY.VALUE < 2500 then edge + s.f STEER.SYNC_DELAY.VALUE + s.steer.frame.pEst / 65536
        else edge + s.f STEER.SYNC_DELAY.VALUE) ∧
      t.f STEER.LOCK_STAT.STATE = 1 ∧ t.fb STEER.LOCK_STAT.SYNC_LOST = false ∧ SameWords s t [STEER.LOCK_STAT, STEER.PHASE_ERR] ∧
      SameMemory s t ∧ t.shadow = s.shadow ∧ t.time = s.time ∧ t.pwr = s.pwr := by
  have htaken : s.syncEdge edge = ((s.edgeKept edge).moveBoundary edge, true) := by
    rw [syncEdge_accepted h (by simp [hlast]), if_pos ⟨hr, by rw [decide_eq_false hunlocked]; rfl⟩]
  obtain ⟨regs, deal, e, hstate, hlost, hwords⟩ := movedBoundary_shown s edge
  rw [e] at htaken hstate hlost hwords
  exact ⟨_, syncInEdge_quiet htaken htime hc hheld himg, rfl, rfl, rfl, hstate, hlost, hwords, fun _ => rfl, rfl, rfl, rfl⟩

/-! ## SYNC_IN lost (R19, R175) -/

/-- SYNC_IN lost, before its event (R175). -/
def State.syncMissing (s : State) : State :=
  (((s.setFrame { s.steer.frame with restart := true, good := 0, adjusts := [] }).setB STEER.LOCK_STAT.SYNC_LOST true).setF
    STEER.LOCK_STAT.STATE 0).incF STEER.SYNC_CNT.LOST

theorem syncMissing_syncLost (s : State) : s.syncMissing.fb STEER.LOCK_STAT.SYNC_LOST = true := by
  rw [State.fb, State.syncMissing, State.incF, State.addF, State.f_setF_word _ _ _ _ (by decide),
    State.f_setF_ne _ STEER.LOCK_STAT.STATE STEER.LOCK_STAT.SYNC_LOST _ (by decide) rfl (by decide)]
  exact fb_setB_self _ true rfl (by decide)

theorem syncMissing_state (s : State) : s.syncMissing.f STEER.LOCK_STAT.STATE = 0 := by
  rw [State.syncMissing, State.incF, State.addF, State.f_setF_word _ _ _ _ (by decide)]
  exact State.f_setF_self _ _ _ (by decide)

theorem syncMissing_lost (s : State) : s.syncMissing.f STEER.SYNC_CNT.LOST = satAdd 16 (s.f STEER.SYNC_CNT.LOST) 1 := by
  rw [State.syncMissing, State.incF, State.f_addF_self _ _ _ (by decide), State.f_setF_word _ _ _ _ (by decide), State.setB,
    State.f_setF_word _ _ _ _ (by decide)]
  rfl

theorem syncMissing_sameWords (s : State) : SameWords s s.syncMissing [STEER.LOCK_STAT, STEER.SYNC_CNT] :=
  (((SameWords.of_regs rfl).setF _ (by decide)).setF _ (by decide)).setF _ (by decide)

theorem syncLost_restarts {last : Nat} (h : s.steer.frame.sync = true) (hlast : s.steer.frame.lastEdge = some last)
    (hlost : s.fb STEER.LOCK_STAT.SYNC_LOST = false) :
    ∃ t, exec .syncLost s = .next t ∧ t.fb STEER.LOCK_STAT.SYNC_LOST = true ∧ t.f STEER.LOCK_STAT.STATE = 0 ∧
      t.f STEER.SYNC_CNT.LOST = satAdd 16 (s.f STEER.SYNC_CNT.LOST) 1 ∧ t.steer.frame.restart = true ∧ t.steer.frame.adjusts = [] ∧
      t.steer.frame.pEst = s.steer.frame.pEst ∧ Raised s t 0x14 0 ∧ SameWords s t [STEER.LOCK_STAT, STEER.SYNC_CNT, hdr 0x14 3] ∧
      SameMemory s t ∧ t.shadow = s.shadow ∧ t.time = s.time ∧ t.deal = s.deal ∧ t.pwr = s.pwr := by
  have hrun : exec .syncLost s = .next (s.syncMissing.event 0x14 0) := by
    change execSyncLost s = _
    rw [execSyncLost]
    dsimp only
    rw [if_neg (by simp [h, hlast, hlost])]
    rfl
  have hwords := syncMissing_sameWords s
  have honly : OnlyEvents s.syncMissing (s.syncMissing.event 0x14 0) := (OnlyEvents.refl _).event _ _
  have hraised : Raised s (s.syncMissing.event 0x14 0) 0x14 0 := by
    rw [Raised, State.reg_event_self, hwords _ (by decide)]
  have hall : SameWords s (s.syncMissing.event 0x14 0) [STEER.LOCK_STAT, STEER.SYNC_CNT, hdr 0x14 3] :=
    SameWords.event (hwords.mono (by simp)) 0 (by decide)
  refine ⟨_, hrun, ?_, ?_, ?_, ?_⟩
  · rw [State.fb, State.f_event _ _ _ (by decide)]
    exact syncMissing_syncLost s
  · rw [State.f_event _ _ _ (by decide), syncMissing_state]
  · rw [State.f_event _ _ _ (by decide), syncMissing_lost]
  · generalize s.syncMissing.event 0x14 0 = t at honly hraised hall
    obtain ⟨regs, merges, qB, seqs, rfl⟩ := onlyEvents_iff.1 honly
    exact ⟨rfl, rfl, rfl, hraised, hall, fun _ => rfl, rfl, rfl, rfl, rfl⟩

/-- With the internal timer as the source nothing of SYNC_IN is lost (R174). -/
theorem syncLost_internal (h : s.steer.frame.sync = false) : exec .syncLost s = .next s := by
  change execSyncLost s = _
  rw [execSyncLost]
  exact if_pos (by simp [h])

end

/-- Settles O34, a clause at a time: what a DAC update and an edge do follows from the rules above. -/
theorem mirrorDriveAndSync : Obligations.MirrorDriveAndSync := by
  refine ⟨fun a late code rest s hdue haxes hin => dacUpdate_sends hdue haxes hin,
    fun a code rest s hdue haxes hlat => dacUpdate_misses hdue haxes hlat, fun a late s hdue => dacUpdate_nothing hdue,
    fun edge s h htime hc hheld himg => syncInEdge_quiet (syncEdge_internal edge h) htime hc hheld himg,
    fun edge v s h htime hc hheld himg => syncInEdge_sets edge h htime hc hheld himg,
    fun edge r s h htime hc hb hpage hheld himg => syncInEdge_arms edge h htime hc hb hpage hheld himg,
    fun edge last s h hlast hearly => syncInEdge_glitch h hlast hearly,
    fun edge s h hlate htime hc hheld himg hr hlo hhi => syncInEdge_loops h hlate htime hc hheld himg hr hlo hhi,
    fun edge s h hlast htime hc hheld himg hr hunlocked => syncInEdge_restarts h hlast htime hc hheld himg hr hunlocked,
    fun last s h hlast hlost => syncLost_restarts h hlast hlost, fun s h => syncLost_internal h⟩

end Sys2Proof.Machine
end

section
/-! SUPPORT. A hand at its boundary (R26, R174, R176): what happens around it leaves the frame timer, the power state, the
shadows, TIME and what a hand was announced with as they are. One lemma for each function, in the order of the model's
files: the lemma about `State.f` is `HandStays.f`, so that a proof follows the definition it is about. -/

namespace Sys2Proof.Machine

/-- What a hand was announced with, and its decided slots. -/
def Hand.core (h : Hand) : Bool × Nat × Nat × Nat × Nat × Nat × Nat × Bool × List (Option Decision) :=
  (h.first, h.index, h.az, h.start, h.period, h.sEff, h.openSlots, h.last, h.decided)

theorem sameHand_of_core {h h' : Hand} (hc : h'.core = h.core) : SameHand h h' := by
  simp only [Hand.core, Prod.mk.injEq] at hc
  obtain ⟨h1, h2, h3, h4, h5, h6, h7, h8, -⟩ := hc
  exact ⟨h1, h2, h3, h4, h5, h6, h7, h8⟩

theorem decided_of_core {h h' : Hand} (hc : h'.core = h.core) : h'.decided = h.decided := by
  simp only [Hand.core, Prod.mk.injEq] at hc
  obtain ⟨-, -, -, -, -, -, -, -, hd⟩ := hc
  exact hd

/-- What stands at a boundary: the hands, the frame timer, the power state, the shadows, TIME and the count of TCLK. -/
def State.handParts (s : State) :=
  (s.deal.cur.map Hand.core, s.deal.next.map Hand.core, s.steer.frame, s.pwr.st, s.shadow, s.time, s.mono)

/-- From `s` to `t` the parts above are as before; where `w` holds HAND_STAT is, and where `m` holds memory and the rings are. -/
structure HandStays (w m : Prop) (s t : State) : Prop where
  word : w → t.reg DEAL.HAND_STAT = s.reg DEAL.HAND_STAT
  memory : m → SameMemory s t ∧ t.deal.rings = s.deal.rings
  parts : t.handParts = s.handParts

namespace HandStays
section
variable {s t u : State} {w m : Prop}

/-! ## How states are put together -/

theorem refl (s : State) : HandStays w m s s := ⟨fun _ => rfl, fun _ => ⟨fun _ => rfl, rfl⟩, rfl⟩

theorem trans (h : HandStays w m s t) (h' : HandStays w m t u) : HandStays w m s u where
  word hw := (h'.word hw).trans (h.word hw)
  memory hm := ⟨fun a => ((h'.memory hm).1 a).trans ((h.memory hm).1 a), (h'.memory hm).2.trans (h.memory hm).2⟩
  parts := h'.parts.trans h.parts

/-- An update of what stands beside registers, memory, the rings and the parts. -/
theorem update (h : HandStays w m s t)
    (hu : (u.regs, u.mem, u.lost, u.deal.rings, u.handParts) = (t.regs, t.mem, t.lost, t.deal.rings, t.handParts)) :
    HandStays w m s u := by
  simp only [Prod.mk.injEq] at hu
  obtain ⟨hregs, hmem, hlost, hrings, hparts⟩ := hu
  exact h.trans ⟨fun _ => State.reg_congr hregs _, fun _ => ⟨State.rd_congr hmem hlost, hrings⟩, hparts⟩

/-- An update of memory, where memory does not count. -/
theorem updateMem (h : HandStays w False s t) (hu : (u.regs, u.handParts) = (t.regs, t.handParts)) : HandStays w False s u := by
  obtain ⟨hregs, hparts⟩ := Prod.mk.injEq .. ▸ hu
  exact h.trans ⟨fun _ => State.reg_congr hregs _, False.elim, hparts⟩

/-- An update of registers and memory, where neither counts. -/
theorem wide (h : HandStays False False s t) (hp : u.handParts = t.handParts) : HandStays False False s u :=
  h.trans ⟨False.elim, False.elim, hp⟩

theorem wideReg (h : HandStays False False s t) (a : Nat) (v : Word) : HandStays False False s (t.setReg a v) := h.wide rfl

theorem ite {c : Prop} {_ : Decidable c} {a b : State} (ha : HandStays w m s a) (hb : HandStays w m s b) :
    HandStays w m s (if c then a else b) := by
  split
  · exact ha
  · exact hb

theorem foldl {α : Type} {f : State → α → State} (hf : ∀ u x, HandStays w m s u → HandStays w m s (f u x)) (l : List α) :
    ∀ {t}, HandStays w m s t → HandStays w m s (l.foldl f t) := by
  induction l with
  | nil => exact fun h => h
  | cons x l ih => exact fun h => ih (hf _ x h)

theorem setReg (h : HandStays w m s t) {a : Nat} (ha : a ≠ DEAL.HAND_STAT) (v : Word) : HandStays w m s (t.setReg a v) :=
  h.trans ⟨fun _ => State.reg_setReg_ne _ _ ha.symm, fun _ => ⟨fun _ => rfl, rfl⟩, rfl⟩

theorem setF (h : HandStays w m s t) {x : Fld} (hx : x.addr ≠ DEAL.HAND_STAT) (v : Nat) : HandStays w m s (t.setF x v) := h.setReg hx _
theorem setB (h : HandStays w m s t) {x : Fld} (hx : x.addr ≠ DEAL.HAND_STAT) (b : Bool) : HandStays w m s (t.setB x b) := h.setF hx _
theorem setI (h : HandStays w m s t) {x : Fld} (hx : x.addr ≠ DEAL.HAND_STAT) (v : Int) : HandStays w m s (t.setI x v) := h.setF hx _
theorem addF (h : HandStays w m s t) {x : Fld} (hx : x.addr ≠ DEAL.HAND_STAT) (n : Nat) : HandStays w m s (t.addF x n) := h.setF hx _
theorem incF (h : HandStays w m s t) {x : Fld} (hx : x.addr ≠ DEAL.HAND_STAT) : HandStays w m s (t.incF x) := h.addF hx 1

theorem onlyEvents (h : HandStays w m s t) (he : OnlyEvents t u) (hw : u.reg DEAL.HAND_STAT = t.reg DEAL.HAND_STAT) :
    HandStays w m s u := by
  obtain ⟨_, _, _, _, rfl⟩ := onlyEvents_iff.1 he
  exact h.trans ⟨fun _ => hw, fun _ => ⟨fun _ => rfl, rfl⟩, rfl⟩

theorem event (h : HandStays w m s t) (p b : Nat) : HandStays w m s (t.event p b) :=
  h.onlyEvents ((OnlyEvents.refl t).event p b) (State.reg_event_ne _ _ _ (by unfold hdr DEAL.HAND_STAT; omega))

theorem eventIf (h : HandStays w m s t) (c : Bool) (p b : Nat) : HandStays w m s (t.eventIf c p b) := (h.event p b).ite h

/-- An error of a page, where HAND_STAT does not count. -/
theorem errAt (h : HandStays False False s t) (p code src pg off : Nat) : HandStays False False s (t.errAt p code src pg off) := by
  obtain ⟨_, _, _, _, e⟩ := onlyEvents_iff.1 (State.errAt_onlyEvents t p code src pg off)
  rw [e]
  exact h.wide rfl

/-- A packet that always finds room (R336). -/
theorem sendPacket (h : HandStays w m s t) {dt : Nat} (hd : dtClass dt < 2) (port gen stamp : Nat) (l : List Word36) :
    HandStays w m s (t.sendPacket dt port gen stamp l) := by
  obtain ⟨link, e⟩ := t.sendPacket_high hd port gen stamp l
  rw [e]
  exact h.update rfl

theorem core_map {f : Hand → Hand} (hf : ∀ x, (f x).core = x.core) (o : Option Hand) : (o.map f).map Hand.core = o.map Hand.core := by
  rw [Option.map_map]
  exact Option.map_congr fun x _ => hf x

/-- A change of the hand in progress that leaves what it was announced with. -/
theorem mapCur (h : HandStays w m s t) {f : Hand → Hand} (hf : ∀ x, (f x).core = x.core) :
    HandStays w m s { t with deal := { t.deal with cur := t.deal.cur.map f } } :=
  h.trans ⟨fun _ => rfl, fun _ => ⟨fun _ => rfl, rfl⟩, congrArg (·, _) (core_map hf t.deal.cur)⟩

/-- A change of both hands that leaves what they were announced with. -/
theorem mapHands (h : HandStays w m s t) {f g : Hand → Hand} (hf : ∀ x, (f x).core = x.core) (hg : ∀ x, (g x).core = x.core) :
    HandStays w m s { t with deal := { t.deal with cur := t.deal.cur.map f, next := t.deal.next.map g } } :=
  h.trans ⟨fun _ => rfl, fun _ => ⟨fun _ => rfl, rfl⟩,
    congrArg₂ _ (core_map hf t.deal.cur) (congrArg (·, _) (core_map hg t.deal.next))⟩

/-! ## Changes given up (Faults) -/

theorem fwEnds (h : HandStays w m s t) (r : Nat) (next : Option FwOp) : HandStays w m s (t.fwEnds r next) := by
  have h1 : HandStays w m s ((t.setB BOOT.FW_STAT.BUSY false).setF BOOT.FW_STAT.RESULT r) := (h.setB (by decide) false).setF (by decide) r
  have h2 (u : State) (hu : HandStays w m s u) (i : Images) : HandStays w m s { u with img := i } := hu.update rfl
  exact (h2 _ h1 _).event _ _

theorem cfgEnds (h : HandStays w m s t) (r : Nat) : HandStays w m s (t.cfgEnds r) := by
  have h1 : HandStays w m s ((t.setB BOOT.CFG_STAT.BUSY false).setF BOOT.CFG_STAT.RESULT r) :=
    (h.setB (by decide) false).setF (by decide) r
  have h2 (u : State) (hu : HandStays w m s u) (i : Images) : HandStays w m s { u with img := i } := hu.update rfl
  exact (h2 _ h1 _).event _ _

theorem withdraw (h : HandStays w m s t) : HandStays w m s t.withdraw := by
  unfold State.withdraw
  split
  · exact h.update rfl
  · exact h

theorem abandonChange (h : HandStays w m s t) : HandStays w m s t.abandonChange := by
  unfold State.abandonChange
  extract_lets s1
  have h1 : HandStays w m s s1 := (h.withdraw.cfgEnds 6).ite h
  split
  · exact h1.fwEnds 6 none
  · exact (h1.setB (by decide) false).fwEnds 6 none
  · exact h1

/-! ## The laser driver bus (Emit) -/

theorem putBus (h : HandStays w m s t) (addr : Option Nat) (type : Nat) (p : List Nat) : HandStays w m s (t.putBus addr type p) :=
  ite (h.update rfl) h

theorem setHeld (h : HandStays w m s t) (l : List Bool) : HandStays w m s (t.setHeld l) := by
  have h1 : HandStays w m s { t with ldb := { t.ldb with held := l } } := h.update rfl
  exact h1.setB (by decide) _

theorem flushBus (h : HandStays w False s t) : HandStays w False s t.flushBus := by
  obtain ⟨mem, ecc, e⟩ := LeavesPower.writePlace0_eq t.ldb.fwd t
  unfold State.flushBus
  rw [e]
  exact h.updateMem rfl

theorem kaStop (h : HandStays w False s t) : HandStays w False s t.kaStop := by
  unfold State.kaStop
  extract_lets s1 s2
  have h1 : HandStays w False s s1 := (h.setB (by decide) false).setB (by decide) false
  have h2 : HandStays w False s s2 := (h1.setB (by decide) false).flushBus
  have h3 : HandStays w False s { s2 with ldb := { s2.ldb with enumerating := false, loadWaits := false, arm := none } } := h2.update rfl
  exact h3.setHeld _

theorem enumerate (h : HandStays w False s t) : HandStays w False s t.enumerate := by
  have h1 : HandStays w False s ((t.setB LDB.STATUS.ENUMERATED false).setB EMIT.FF_CTRL.LOADING false).flushBus :=
    ((h.setB (by decide) false).setB (by decide) false).flushBus
  unfold State.enumerate
  extract_lets waits s1 ldb s2
  have h2 : HandStays w False s s2 := h1.update rfl
  exact (h2.setHeld _).putBus _ _ _

theorem ldbStart (h : HandStays w False s t) : HandStays w False s t.ldbStart := ite h (h.setB (by decide) true).enumerate

theorem ldbDisable (h : HandStays w False s t) : HandStays w False s t.ldbDisable :=
  ite ((h.putBus _ _ _).kaStop.setB (by decide) false) (h.setB (by decide) false)

theorem maintStart (h : HandStays w m s t) : HandStays w m s t.maintStart := by
  unfold State.maintStart
  refine ite h ?_
  split
  · exact h
  · exact (h.putBus _ _ _).update rfl

theorem queueChanges (h : HandStays w m s t) (p : Nat) (fs : List MaintFrame) : HandStays w m s (t.queueChanges p fs) := by
  have h1 (l : List (Nat × MaintFrame)) : HandStays w m s { t with ldb := { t.ldb with changes := l } } := h.update rfl
  exact ite h (h1 _).maintStart

theorem changeFrames (h : HandStays w m s t) (p : Nat) : HandStays w m s (t.changeFrames p) := ite (h.queueChanges p _) h

theorem dropChanges (h : HandStays w m s t) (p : Nat) : HandStays w m s (t.dropChanges p) := h.update rfl

theorem levelDue (h : HandStays w m s t) (k : Nat) : HandStays w m s (t.levelDue k) := by
  have h1 (l : List MaintFrame) : HandStays w m s { t with ldb := { t.ldb with loopDue := l } } := h.update rfl
  exact ite h (h1 _).maintStart

theorem mpdUnused (h : HandStays False False s t) (k : Nat) : HandStays False False s (t.mpdUnused k) := by
  have hemit {u : State} (hu : HandStays False False s u) (x : Emit) : HandStays False False s { u with emit := x } := hu.update rfl
  unfold State.mpdUnused
  extract_lets t1 emit t2
  have h1 : HandStays False False s t1 := (h.wideReg _ _).wideReg _ _
  have h2 : HandStays False False s t2 := hemit h1 _
  exact ite h2 (h2.levelDue k)

/-! ## Rings and bids (Deal) -/

theorem setRingTab (h : HandStays w False s t) (i v : Nat) : HandStays w False s (t.setRingTab i v) := h.updateMem rfl
theorem setQueuePos (h : HandStays w False s t) (i head count : Nat) : HandStays w False s (t.setQueuePos i head count) := h.setRingTab _ _
theorem setDesc (h : HandStays w False s t) (i n : Nat) (d : Word36 × Word36) : HandStays w False s (t.setDesc i n d) := h.updateMem rfl

theorem closeUp (n : Nat) : ∀ {t : State} {i k : Nat}, HandStays w False s t → HandStays w False s (t.closeUp i k n) := by
  induction n with
  | zero => exact fun h => h.setDesc _ _ _
  | succ n ih => exact fun h => ih (h.setDesc _ _ _)

theorem removeDesc (h : HandStays w False s t) (i n : Nat) : HandStays w False s (t.removeDesc i n) :=
  ite h (ite ((h.setDesc _ _ _).setQueuePos _ _ _) ((closeUp _ h).setQueuePos _ _ _))

theorem appendDesc (h : HandStays w False s t) (i : Nat) (d : Word36 × Word36) : HandStays w False s (t.appendDesc i d) :=
  (h.setDesc _ _ _).setQueuePos _ _ _

theorem mergeDesc (h : HandStays w False s t) (i n shots hands : Nat) (v : Word36) :
    HandStays w False s (t.mergeDesc i n shots hands v) := h.setDesc _ _ _

theorem bidDropped (h : HandStays w m s t) : HandStays w m s t.bidDropped := (h.incF (by decide)).event _ _
theorem trumpShort (h : HandStays w m s t) (n : Nat) : HandStays w m s (t.trumpShort n) := ite h ((h.addF (by decide) n).event _ _)

theorem enterRing (h : HandStays w False s t) (i cls src shots hands origin : Nat) :
    HandStays w False s (t.enterRing i cls src shots hands origin) := by
  unfold State.enterRing
  extract_lets w1
  split
  · exact h.mergeDesc _ _ _ _ _
  · refine ite (h.appendDesc _ _) (ite h.bidDropped ?_)
    split
    · exact (h.removeDesc _ _).bidDropped.appendDesc _ _
    · exact h.mergeDesc _ _ _ _ _

theorem bid (h : HandStays w False s t) (i cls src shots hands origin : Nat) : HandStays w False s (t.bid i cls src shots hands origin) :=
  ite h (ite (ite (h.trumpShort shots) h.bidDropped) (h.enterRing _ _ _ _ _ _))

theorem loadSeeds (h : HandStays w m s t) (c : State) (gs : List Nat) : HandStays w m s (t.loadSeeds c gs) := h.update rfl

/-! ## Steering (Steer) -/

theorem markUncertain_core (x : Hand) : x.markUncertain.core = x.core := by
  unfold Hand.markUncertain
  split <;> rfl

theorem markHands (h : HandStays w m s t) : HandStays w m s t.markHands := by
  refine h.mapHands (fun x => ?_) markUncertain_core
  split
  · rfl
  · exact markUncertain_core x

theorem staticNow (h : HandStays w m s t) : HandStays w m s t.staticNow := ite ((h.setB (by decide) true).event _ _) h

theorem decidePlaus (h : HandStays w m s t) (cause : Nat) : HandStays w m s (t.decidePlaus cause) := by
  unfold State.decidePlaus
  extract_lets s1 run clears _ s2 _ s3 _ s4
  have h1 : HandStays w m s s1 := h.setF (by decide) cause
  have h2 : HandStays w m s s2 := ite (h1.update rfl) h1
  have h3 : HandStays w m s s3 := by
    have hclr := (h2.setB (x := STEER.PLAUS.PLAUSIBLE) (by decide) false).event 0x14 2
    exact ite (ite (hclr.incF (by decide)) hclr) h2
  have h4 : HandStays w m s s4 := by
    have hset := (h3.setB (x := STEER.PLAUS.UNCERTAIN) (by decide) true).event 0x14 3
    exact ite (ite h3.markHands (ite (hset.incF (by decide)) hset).markHands) (h3.setB (by decide) false)
  exact h4.staticNow

theorem axisWords (a : Nat) : STEER.STAT a ≠ DEAL.HAND_STAT ∧ STEER.DRIVE a ≠ DEAL.HAND_STAT := by
  unfold STEER.STAT STEER.DRIVE DEAL.HAND_STAT
  omega

theorem stopAxis (h : HandStays w m s t) (a : Nat) (x : AxisMode) : HandStays w m s (t.stopAxis a x) := by
  have h1 (y : Axis) : HandStays w m s (t.setAxis a y) := h.update rfl
  exact (h1 _).setB (axisWords a).1 false

theorem closeAxis (h : HandStays w m s t) (a : Nat) (x : AxisMode) : HandStays w m s (t.closeAxis a x) :=
  (h.setI (axisWords a).2 _).update rfl

theorem axisMode (h : HandStays w m s t) (n a : Nat) : HandStays w m s (t.axisMode n a) := by
  unfold State.axisMode
  refine ite (h.stopAxis a _) ?_
  split
  · exact h.stopAxis a _
  · exact ite (h.closeAxis a _) (h.stopAxis a _)
  · exact h.closeAxis a _
  · exact h.closeAxis a _

theorem steerMode (h : HandStays w m s t) : HandStays w m s t.steerMode := by
  have h1 (n : Nat) (c : Bool) : HandStays w m s { t with steer := { t.steer with mode := n, capturing := c } } := h.update rfl
  exact ite (h.decidePlaus _) ((((h1 _ _).axisMode _ _).axisMode _ _).decidePlaus _)

/-! ## Channels and kitty TDCs (Timing) -/

theorem updChan (h : HandStays w m s t) (c : Nat) (g : Chan → Chan) : HandStays w m s (t.updChan c g) := h.update rfl
theorem decideMove (h : HandStays w m s t) (c : Nat) (x : Move) : HandStays w m s (t.decideMove c x) := h.update rfl

theorem setKit (h : HandStays w m s t) (n st ch : Nat) : HandStays w m s (t.setKit n st ch) := by
  have hassign : KITTY.ASSIGN n ≠ DEAL.HAND_STAT := by
    unfold KITTY.ASSIGN DEAL.HAND_STAT
    omega
  exact ((((((h.setF hassign st).setF hassign ch).setF (by decide) _).setF (by decide) _).setF (by decide) _).setF (by decide) _).setF
    (by decide) _

theorem kittyBoundary (h : HandStays w m s t) : HandStays w m s t.kittyBoundary := by
  unfold State.kittyBoundary
  extract_lets s1 s2
  have h1 : HandStays w m s s1 := foldl (fun _ _ h1 => ite (h1.setKit _ _ _) h1) _ h
  have h2 : HandStays w m s s2 := foldl (fun _ _ h2 => ite (h2.decideMove _ _) h2) _ h1
  refine ite h2 (foldl (fun x i hx => ?_) _ h2)
  extract_lets c
  refine ite hx ?_
  split
  · exact ite (hx.decideMove _ _) hx
  · split
    · exact ((hx.setKit _ _ _).decideMove _ _).updChan _ _
    · exact hx

theorem throttle (h : HandStays w m s t) (k : Nat) : HandStays w m s (t.throttle k) :=
  ite (ite h ((h.setF (by decide) _).event _ _)) (ite (h.setF (by decide) _) h)

theorem dummyInject (h : HandStays w m s t) : HandStays w m s t.dummyInject.1 := by
  have hskip : HandStays w m s ((t.incF KITTY.DUMMY_CNT.SKIP).event 0x30 3) := (h.incF (by decide)).event _ _
  have hret {u : State} (hu : HandStays w m s u) (x : Ret) : HandStays w m s { u with ret := x } := hu.update rfl
  unfold State.dummyInject
  split
  · exact h
  · extract_lets skip
    split
    · exact hskip
    · split
      · exact hskip
      · exact hret (h.setKit _ _ _) _

/-! ## Memories of the slices (Hist) -/

theorem flashClear (h : HandStays w False s t) (k : Nat) : HandStays w False s (t.flashClear k) := h.updateMem rfl

theorem cutDumps (h : HandStays w m s t) (c : Nat) : HandStays w m s (t.cutDumps c) := by
  have h1 (x : Hist) : HandStays w m s { t with hist := x } := h.update rfl
  exact ite h (((h1 _).addF (by decide) _).event _ _)

theorem swap (h : HandStays w False s t) (c : Nat) : HandStays w False s (t.swap c) := by
  unfold State.swap
  extract_lets x k off s1 s2 s3
  have h3 : HandStays w False s s3 := (ite ((h.cutDumps c).flashClear _) (h.cutDumps c)).update rfl
  refine ite h3 ?_
  split
  · exact h3.update rfl
  · extract_lets y s4 dump
    have h4 : HandStays w False s s4 := h3.update rfl
    exact ite h4 (h4.update rfl)

theorem summaries (h : HandStays w False s t) (ended : Option Nat) : HandStays w False s (t.summaries ended) := by
  unfold State.summaries
  extract_lets empty
  refine foldl (fun u c hu => ?_) _ h
  extract_lets x on s1
  have h1 : HandStays w False s s1 := hu.update rfl
  split
  · exact h1
  · extract_lets s2 s3
    have h2 : HandStays w False s s2 := h1.update rfl
    have h3 : HandStays w False s s3 := h2.updChan c _
    exact ite (ite (h3.swap c) h3) h2

theorem updFrameCount (h : HandStays w m s t) (n : Nat) (g : FrameCount → FrameCount) : HandStays w m s (t.updFrameCount n g) := h.update rfl
theorem frameStops (h : HandStays w m s t) (at_ n : Nat) : HandStays w m s (t.frameStops at_ n) := h.update rfl

theorem frameHeader (h : HandStays w m s t) : HandStays w m s t.frameHeader := by
  unfold State.frameHeader
  extract_lets f x w4 s1 hist s2
  have h2 : HandStays w m s s2 := (h.setF (x := PNT.FRAME.FRAME) (by decide) f.number).update rfl
  exact ite h2 (h2.sendPacket (dt := 0x11) (by decide) _ _ _ _)

/-! ## Warning zones and fields (Fusion, Field) -/

theorem setZones (h : HandStays w m s t) (z : Zones) : HandStays w m s (t.setZones z) := h.update rfl

theorem showZones (h : HandStays w m s t) : HandStays w m s t.showZones :=
  (((h.setF (by decide) _).setF (by decide) _).setF (by decide) _).setF (by decide) _

theorem zonePacket (h : HandStays w m s t) (reason frame az : Nat) : HandStays w m s (t.zonePacket reason frame az) :=
  sendPacket (dt := 0x30) h (by decide) 0 t.gen4 t.timeNs _

theorem zoneCheck (h : HandStays w m s t) (frame az : Nat) : HandStays w m s (t.zoneCheck frame az) :=
  ite h (ite (h.setZones _).showZones (((h.setZones _).showZones.event 0x3B 1).zonePacket 2 frame az))

theorem zoneSkipped (h : HandStays w m s t) : HandStays w m s t.zoneSkipped := ite (h.update rfl) (h.update rfl)

theorem zoneFrames (n : Nat) : ∀ {t : State}, HandStays w m s t → HandStays w m s (t.zoneFrames n).1 := by
  induction n with
  | zero => exact fun h => h
  | succ n ih =>
    intro t h
    unfold State.zoneFrames
    split
    · exact h
    · split
      · exact h
      · exact ih (h.update rfl)

theorem zoneReport (h : HandStays w m s t) (before : Zones) (frame az : Nat) (ended : List Hand) :
    HandStays w m s (t.zoneReport before frame az ended) := by
  have h1 := h.showZones
  exact foldl (fun _ _ hu => hu.zonePacket _ _ _) _ (ite ((h1.eventIf _ _ _).zonePacket _ _ _) (h1.eventIf _ _ _))

theorem zoneFrameOver (h : HandStays w m s t) (x : Hand) : HandStays w m s (t.zoneFrameOver x) := by
  have h1 (z : Zones) := zoneFrames z.waits.length (h.setZones z)
  exact ite ((h1 _).zoneReport _ _ _ _) (h1 _).showZones

theorem safePacket (h : HandStays w m s t) (reason : Nat) : HandStays w m s (t.safePacket reason) := by
  unfold State.safePacket
  extract_lets _ s1
  have h1 : HandStays w m s s1 := ite h (h.update rfl)
  exact sendPacket (dt := 0x31) h1 (by decide) 0 s1.gen4 s1.timeNs _

theorem setFailing (h : HandStays w m s t) (d : Nat) (b : Bool) : HandStays w m s (t.setFailing d b) := h.setF (by decide) _

theorem recordDiag (h : HandStays w m s t) (d : Nat) (detail : Option Nat) : HandStays w m s (t.recordDiag d detail) := by
  have hlast (u : State) (hu : HandStays w m s u) (x : Safe) (n : Nat) :
      HandStays w m s (({ u with safe := x }.setF SUPV.LAST.NUM d).setF SUPV.LAST.DETAIL n) :=
    (setF (hu.update (u := { u with safe := x }) rfl) (by decide) _).setF (by decide) _
  cases detail with
  | none => exact ite h (hlast { t with free := t.free + 1 } (h.update rfl) _ _)
  | some n => exact ite h (hlast _ h _ _)

theorem diagFails (h : HandStays w m s t) (d : Nat) (detail : Option Nat) : HandStays w m s (t.diagFails d detail) := by
  have hlatch (k : Nat) : HandStays w m s (t.latch k) := by
    have h1 (x : Safe) : HandStays w m s { t with safe := x } := h.update rfl
    exact ite h (h1 _).abandonChange
  unfold State.diagFails
  extract_lets s1
  have h1 : HandStays w m s s1 := ite h (ite h.abandonChange (hlatch d))
  exact ite h1 ((((h1.setFailing d true).recordDiag d detail).event 0x07 0).safePacket 4)

theorem dummyDiag (h : HandStays w m s t) (r : DummyResult) : HandStays w m s (t.dummyDiag r) := by
  have h1 (x : Supv) : HandStays w m s { t with supv := x } := h.update rfl
  cases r with
  | pass => exact ite ((h1 _).setFailing 3 false) (h1 _)
  | fail => exact ite ((h1 _).diagFails 3 none) (h1 _)
  | skip => exact ite ((h1 _).diagFails 3 none) (h1 _)

theorem setField (h : HandStays w m s t) (x : FieldSt) : HandStays w m s (t.setField x) := h.update rfl
theorem updField (h : HandStays w m s t) (n : Nat) (g : FieldFrame → FieldFrame) : HandStays w m s (t.updField n g) := h.update rfl

theorem showField (h : HandStays w m s t) : HandStays w m s t.showField := by
  unfold State.showField
  extract_lets v w1 w2 old rises warn s1 s2 s3
  have h1 : HandStays w m s s1 := ((h.setF (by decide) v).setF (by decide) w1).setF (by decide) w2
  have h3 : HandStays w m s s3 := ((h1.setF (by decide) _).eventIf _ 0x09 0).eventIf warn 0x09 1
  exact ite h3 (h3.safePacket 3)

theorem fieldCheck (h : HandStays w m s t) : HandStays w m s t.fieldCheck := (ite h (h.setField _)).showField

theorem fieldBegins (h : HandStays w m s t) (n : Nat) : HandStays w m s (t.fieldBegins n) :=
  ite h.fieldCheck (HandStays.setField (ite h (h.setField _)) _)

theorem fieldClose (h : HandStays w m s t) (k : State) (x : FieldFrame) (l : List FieldFrame) : HandStays w m s (t.fieldClose k x l) := by
  have h1 (y : FieldSt) : HandStays w m s ((t.setField y).setF FIELD.BLIND.HANDS (satTo 16 x.blind)) := (h.setField y).setF (by decide) _
  exact ite ((h1 _).incF (by decide)) (h1 _)

theorem fieldCloseAll (k : State) (n : Nat) : ∀ {t : State}, HandStays w m s t → HandStays w m s (t.fieldCloseAll k n) := by
  induction n with
  | zero => exact fun h => h
  | succ n ih =>
    intro t h
    unfold State.fieldCloseAll
    split
    · exact h
    · exact ite h (ih (h.fieldClose k _ _))

theorem fieldEnded (h : HandStays w m s t) (n : Nat) : HandStays w m s (t.fieldEnded n) :=
  (fieldCloseAll _ _ (h.updField n _)).showField

theorem fieldIntrude (h : HandStays w m s t) (k : State) (n : Nat) : HandStays w m s (t.fieldIntrude k n) := by
  unfold State.fieldIntrude
  split
  · exact h
  · exact (h.setField _).updField _ _

theorem blindDiag (h : HandStays w False s t) (k : State) (blind : Bool) (az : Nat) : HandStays w False s (t.blindDiag k blind az) := by
  have h1 := (h.event 0x09 3).diagFails 12 none
  exact ite (h.setFailing 12 false) (ite h1 (foldl (fun _ _ hu => hu.bid _ _ _ _ _ _) _ h1))

theorem fieldSkipped (h : HandStays w False s t) (x : Hand) (n : Nat) : HandStays w False s (t.fieldSkipped x n) :=
  ite h ((((h.updField n _).blindDiag _ _ _).fieldIntrude _ n).showField)

theorem mirrorDiag (h : HandStays w m s t) : HandStays w m s t.mirrorDiag :=
  ite h (ite (h.setFailing 8 false) (h.diagFails 8 none))

/-! ## The end-of-line run and what follows a change of state (Calib, Commit) -/

theorem eolAbandon (h : HandStays w m s t) : HandStays w m s t.eolAbandon := by
  unfold State.eolAbandon
  split
  · exact h
  · have hcal {x : State} (hx : HandStays w m s x) (cal : Cal) : HandStays w m s { x with cal := cal } := hx.update rfl
    exact (hcal ((h.setB (by decide) false).setF (by decide) 3) _).event 0x0C 3

theorem settle (h : HandStays w m s t) : HandStays w m s t.settle := by
  unfold State.settle
  extract_lets s1
  have h1 : HandStays w m s s1 := (h.steerMode.zoneCheck _ _).fieldCheck
  exact ite h1 h1.eolAbandon

end
end HandStays
end Sys2Proof.Machine
end

section
/-! SUPPORT. What commits and stored settings leave of a hand at its boundary (R23, R26, R89): one lemma for each function, in the
order of the model's files. -/

namespace Sys2Proof.Machine
namespace HandStays
section
variable {s t u : State}

/-! ## Power requests (Power) -/

theorem setDom (h : HandStays False False s t) (d : Nat) (x : DomState) : HandStays False False s (t.setDom d x) := h.wide rfl
theorem refuseReq (h : HandStays False False s t) (c : Nat) : HandStays False False s (t.refuseReq c) :=
  ((h.wideReg _ _).wideReg _ _).wideReg _ _

theorem resumeBlocks (h : HandStays False False s t) (k : Shake) : HandStays False False s (t.resumeBlocks k) := by
  unfold State.resumeBlocks
  extract_lets pwr s1 restart
  have h1 : HandStays False False s s1 := h.wide rfl
  exact (ite h1.ldbStart h1).settle

theorem shakeDomain (h : HandStays False False s t) (d : Nat) : HandStays False False s (t.shakeDomain d) := by
  have h1 (l : List Shake) : HandStays False False s { t with pwr := { t.pwr with shakes := l } } := h.wide rfl
  exact ite h (h1 _).settle

theorem switchOn (h : HandStays False False s t) (d : Nat) : HandStays False False s (t.switchOn d) := by
  unfold State.switchOn
  split
  · exact h.resumeBlocks _
  · exact ite (h.setDom d .waking) h

theorem writeOffReq (h : HandStays False False s t) (d : Nat) (b : Bool) : HandStays False False s (t.writeOffReq d b) := by
  have h1 (v : Nat) : HandStays False False s (t.setF PWR.DOMAIN.OFF_REQ v) := h.wideReg _ _
  exact ite h (ite (h.refuseReq 1) (ite (ite ((h1 _).shakeDomain d) ((h1 _).switchOn d)) (h1 _)))

theorem writeOffReqs (h : HandStays False False s t) (r : OffReq) : HandStays False False s (t.writeOffReqs r) := by
  cases r with
  | domains bits => exact foldl (fun _ _ hu => hu.writeOffReq _ _) _ h
  | page p off => exact ite (h.writeOffReq _ _) h

/-! ## Settings stored at a boundary (Bank, Change) -/

theorem err (h : HandStays False False s t) (code src a : Nat) : HandStays False False s (t.err code src a) := h.errAt _ _ _ _ _

theorem ownerWrite (h : HandStays False False s t) (src b d : Nat) : HandStays False False s (t.ownerWrite src b d) := by
  unfold State.ownerWrite
  extract_lets s1 o
  have h1 : HandStays False False s s1 := ite (h.wideReg _ _) h
  exact ite (h1.err _ _ _) (ite (h1.wideReg _ _) (h1.err _ _ _))

theorem writeRingRd (h : HandStays False False s t) (src d : Nat) : HandStays False False s (t.writeRingRd src d) :=
  ite (h.err _ _ _) (h.wideReg _ _)

theorem summaryRose (h : HandStays False False s t) (p : Nat) : HandStays False False s (t.summaryRose p) :=
  h.wide (by simp [State.handParts])

theorem prefWritten (h : HandStays False False s t) : HandStays False False s t.prefWritten := ite (h.wide rfl) h

theorem storedWritten (h : HandStays False False s t) (a : Nat) (before : Word) : HandStays False False s (t.storedWritten a before) :=
  ite h (ite (ite (h.summaryRose _) h) (ite (h.levelDue _) (ite h.prefWritten h)))

theorem writeStored (h : HandStays False False s t) (src a : Nat) (v : Word) : HandStays False False s (t.writeStored src a v) :=
  ite (ite (h.writeOffReq _ _) h) (ite (h.writeOffReqs _) (ite (h.ownerWrite _ _ _) (ite (h.writeRingRd _ _)
    ((h.wideReg _ _).storedWritten _ _))))

theorem updateCrc (h : HandStays False False s t) : HandStays False False s t.updateCrc := h.wideReg SAFE.CRC t.crcNow
theorem blockWrite (h : HandStays False False s t) (l : Ledger) : HandStays False False s (t.blockWrite l) := h.wide rfl

theorem withLed (h : HandStays False False s t) (l : Ledger) : HandStays False False s { t with led := l } := h.wide rfl

theorem ledWrite (h : HandStays False False s t) (a : Nat) (v : Word36) : HandStays False False s (t.ledWrite a v) :=
  (h.wide (u := t.wr a v) rfl).withLed _

theorem logAppend (h : HandStays False False s t) (kind : Nat) (before : Word) (a : Nat) :
    HandStays False False s (t.logAppend kind before a) := by
  unfold State.logAppend
  extract_lets seq ws t'
  have h' : HandStays False False s t' := foldl (fun _ _ hu => hu.ledWrite _ _) _ h
  exact h'.withLed _

theorem changeDone (h : HandStays False False s t) (before : Word) : HandStays False False s (t.changeDone before) := by
  have himg {u : State} (hu : HandStays False False s u) (x : Images) : HandStays False False s { u with img := x } := hu.wide rfl
  unfold State.changeDone
  split
  · refine ite h ?_
    extract_lets s1 n led s2 img s3
    have h1 : HandStays False False s s1 := (foldl (fun _ _ hu => hu.writeStored _ _ _) _ h).updateCrc
    have h2 : HandStays False False s s2 := (h1.wideReg _ _).blockWrite _
    have h3 : HandStays False False s s3 := himg h2 _
    have h4 : HandStays False False s (s3.logAppend 0x0A before BOOT.CFG_CMD) := h3.logAppend _ _ _
    exact (h4.cfgEnds 2).eolAbandon
  · exact h

/-! ## What follows a commit event (Commit) -/

theorem dealCommitted (h : HandStays False False s t) (old : State) : HandStays False False s (t.dealCommitted old) :=
  ite h (foldl (fun _ _ hu => hu.throttle _) _ h)

theorem emitCommitted (h : HandStays False False s t) : HandStays False False s t.emitCommitted := by
  unfold State.emitCommitted
  extract_lets a s1
  have h1 : HandStays False False s s1 := ite h ((h.wideReg _ _).setHeld _)
  exact foldl (fun _ _ hu => hu.mpdUnused _) _ (h1.wideReg _ _)

theorem ldbCommitted (h : HandStays False False s t) (old : State) : HandStays False False s (t.ldbCommitted old) :=
  ite (ite h.ldbStart h) (ite h.ldbDisable h)

theorem captures (h : HandStays False False s t) (a : Nat) (b : Bool) : HandStays False False s (t.captures a b) := ite (h.wide rfl) h

theorem steerCommitted (h : HandStays False False s t) (old : State) : HandStays False False s (t.steerCommitted old) :=
  foldl (fun _ _ hu => ite ((hu.axisMode _ _).captures _ _) hu) _ h

theorem setSenseCh (h : HandStays False False s t) (n : Nat) (x : SenseCh) : HandStays False False s (t.setSenseCh n x) := h.wide rfl

theorem senseCommitted (h : HandStays False False s t) (old : State) : HandStays False False s (t.senseCommitted old) :=
  foldl (fun _ _ hu => hu.setSenseCh _ _) _ (foldl (fun _ _ hu => ite (hu.setSenseCh _ _) (ite (hu.setSenseCh _ _) hu)) _ h)

theorem flushRing (h : HandStays False False s t) (n k : Nat) : HandStays False False s (t.flushRing n k) := h.wide rfl

theorem adcChanged (h : HandStays False False s t) (old : State) : HandStays False False s (t.adcChanged old) :=
  ite (h.wide rfl) (ite (foldl (fun _ _ hu => hu.flushRing _ _) _ h) (foldl (fun _ _ hu => hu.flushRing _ _) _ h))

theorem stepRise (h : HandStays False False s t) : HandStays False False s t.stepRise := by
  have h1 (x : Acq) : HandStays False False s { t with acq := x } := h.wide rfl
  exact ite (((h1 _).wideReg _ _).event _ _) h

theorem acqChanged (h : HandStays False False s t) (old : State) : HandStays False False s (t.acqChanged old) := by
  unfold State.acqChanged
  extract_lets acq s1
  have h1 : HandStays False False s s1 := ite (h.wide rfl) h
  exact ite ((h1.wideReg _ _).event _ _) h1.stepRise

theorem histCommitted (h : HandStays False False s t) (old : State) : HandStays False False s (t.histCommitted old) := ite (h.wide rfl) h

theorem tabCommitted (h : HandStays False False s t) (old : State) : HandStays False False s (t.tabCommitted old) := by
  have hun {u : State} (l : RxLane) (hu : HandStays False False s u) :
      HandStays False False s (if u.f (prbsSel l) = old.f (prbsSel l) then u else u.setB (prbsLock l) false) := ite hu (hu.wideReg _ _)
  exact hun .b (hun .a h)

theorem exposureChanged (h : HandStays False False s t) (old : State) (p : Nat) : HandStays False False s (t.exposureChanged old p) := by
  have h1 (g : CamPort → CamPort) : HandStays False False s (t.updPort p g) := h.wide rfl
  exact ite h ((h1 _).wideReg _ _)

theorem closeFrame (h : HandStays False False s t) (p : Nat) : HandStays False False s (t.closeFrame p) := by
  unfold State.closeFrame
  split
  · exact h
  · extract_lets k received short fill g s1 s2 s3
    have h1 : HandStays False False s s1 := h.wide rfl
    have h2 : HandStays False False s s2 := ((h1.wideReg _ _).wideReg _ _).wideReg _ _
    have h3 : HandStays False False s s3 := ite ((h2.wideReg _ _).event _ _) h2
    exact ite ((h3.wideReg _ _).event _ _) h3

theorem camCommitted (h : HandStays False False s t) (old : State) (p : Nat) : HandStays False False s (t.camCommitted old p) :=
  ite ((h.exposureChanged old p).closeFrame p) (h.exposureChanged old p)

theorem safetyCommitted (h : HandStays False False s t) (pages : List Nat) : HandStays False False s (t.safetyCommitted pages) := by
  have hlog {u : State} (before : Word) (a : Nat) (hu : HandStays False False s u) : HandStays False False s (u.logAppend 0x01 before a) :=
    hu.logAppend _ _ _
  unfold State.safetyCommitted
  extract_lets before s1 s2 s3
  have h2 : HandStays False False s s2 := ite (hlog before _ h.updateCrc) h.updateCrc
  have h3 : HandStays False False s s3 := (hlog before _ h2).setFailing 5 false
  exact ite (h3.wide rfl) h2

theorem drainBegins (h : HandStays False False s t) (old : State) : HandStays False False s (t.drainBegins old) := by
  unfold State.drainBegins
  split
  · exact h
  · exact h.wide rfl

theorem followPages (h : HandStays False False s t) (old : State) (pages : List Nat) :
    HandStays False False s (t.followPages old pages) := by
  unfold State.followPages
  extract_lets _ s1 s2 s3 s4 s5 s6 s7 s8 s9 s10
  have h1 : HandStays False False s s1 := ite (h.dealCommitted old) h
  have h2 : HandStays False False s s2 := ite (h1.loadSeeds _ _) h1
  have h3 : HandStays False False s s3 := ite h2.emitCommitted h2
  have h4 : HandStays False False s s4 := ite (h3.ldbCommitted old) h3
  have h5 : HandStays False False s s5 := ite (h4.steerCommitted old) h4
  have h6 : HandStays False False s s6 := ite (h5.senseCommitted old) h5
  have h7 : HandStays False False s s7 := ite (h6.adcChanged old) h6
  have h8 : HandStays False False s s8 := ite (h7.acqChanged old) h7
  have h9 : HandStays False False s s9 := ite (h8.histCommitted old) h8
  have h10 : HandStays False False s s10 := ite (h9.tabCommitted old) h9
  exact foldl (fun _ _ hu => hu.camCommitted old _) _ h10

theorem afterCommit (h : HandStays False False s t) (old : State) (pages : List Nat) :
    HandStays False False s (t.afterCommit old pages) := by
  unfold State.afterCommit
  extract_lets s1 s2 s3
  have h1 : HandStays False False s s1 := h.followPages old pages
  have h2 : HandStays False False s s2 := ite (h1.drainBegins old) h1
  have h3 : HandStays False False s s3 := ite (h2.safetyCommitted pages) (ite h2.updateCrc h2)
  exact h3.settle

/-! ## Commit events and requests (Commit) -/

theorem pageCommitted (h : HandStays False False s t) (p : Nat) (dirty drained : Bool) :
    HandStays False False s (t.pageCommitted p dirty drained) := ((h.wideReg _ _).wideReg _ _).event _ _

theorem commitEvent (h : HandStays False False s t) (ls : List Latched) (isp : Option (CommitReq × List Nat)) :
    HandStays False False s (t.commitEvent ls isp) := by
  unfold State.commitEvent
  extract_lets iw fires drained t1 t2 t3 rest t4
  have h1 : HandStays False False s t1 := h.wide rfl
  have h2 : HandStays False False s t2 := ite (h1.wideReg _ _) h1
  have h3 : HandStays False False s t3 := foldl (fun _ _ hu => hu.pageCommitted _ _ _) _ h2
  have h4 : HandStays False False s t4 := by
    have hreq (l : List CommitReq) : HandStays False False s { t3 with commits := l } := h3.wide rfl
    unfold t4
    split
    · exact h3
    · exact ite ((hreq _).pageCommitted _ _ _) (hreq _)
  exact ite h4 (h4.afterCommit _ _)

theorem countCommit (h : HandStays False False s t) (old : State) : HandStays False False s (t.countCommit old) := ite h (h.wide rfl)

theorem commitRefused (h : HandStays False False s t) (p code src : Nat) : HandStays False False s (t.commitRefused p code src) :=
  ((h.wideReg _ _).errAt _ _ _ _ _).event _ _

theorem dropRequest (h : HandStays False False s t) (p : Nat) : HandStays False False s (t.dropRequest p) := h.wide rfl

theorem secondCheck (h : HandStays False False s t) (p : Nat) : HandStays False False s (t.secondCheck p) := by
  unfold State.secondCheck
  split
  · exact h
  · refine ite h ?_
    split
    · exact (h.dropRequest p).commitRefused _ _ _
    · exact h

theorem takeRequests (h : HandStays False False s t) (ps : List Nat) : HandStays False False s (t.takeRequests ps).1 :=
  (foldl (fun _ _ hu => hu.secondCheck _) _ h).wide rfl

theorem checkIspRequest (h : HandStays False False s t) (l : List Nat) : HandStays False False s (t.checkIspRequest l) :=
  ite (h.secondCheck 0x44) h

theorem takeEffect (h : HandStays False False s t) (ps isp : List Nat) : HandStays False False s (t.takeEffect ps isp) :=
  (((h.checkIspRequest isp).takeRequests ps).commitEvent _ _).countCommit _

theorem acceptRequest (h : HandStays False False s t) (r : CommitReq) : HandStays False False s (t.acceptRequest r) := by
  have hreq {u : State} (hu : HandStays False False s u) (l : List CommitReq) : HandStays False False s { u with commits := l } := hu.wide rfl
  exact ite (h.wide rfl) ((hreq ((h.dropRequest r.page).wideReg _ _) _).changeFrames _)

theorem acceptAll (h : HandStays False False s t) (rs : List CommitReq) : HandStays False False s (t.acceptAll rs) :=
  (foldl (fun _ _ hu => hu.acceptRequest _) _ h).takeEffect _ _

theorem postHeld (h : HandStays False False s t) : HandStays False False s t.postHeld := by
  unfold State.postHeld
  split
  · exact h
  · refine ite h ?_
    extract_lets s1
    have h1 : HandStays False False s s1 := h.wide rfl
    split
    · exact h1.commitRefused _ _ _
    · exact h1.acceptAll _

theorem idleCommits (h : HandStays False False s t) : HandStays False False s t.idleCommits := ite h (h.takeEffect _ _).postHeld

theorem unlatchAdc (h : HandStays False False s t) : HandStays False False s t.unlatchAdc := by
  unfold State.unlatchAdc
  split
  · exact h
  · exact ite h (h.wide rfl)

theorem boundaryCommits (h : HandStays False False s t) (first : Bool) : HandStays False False s (t.boundaryCommits first) := by
  have hlatched {u : State} (hu : HandStays False False s u) : HandStays False False s { u with latched := [] } := hu.wide rfl
  have hevent (u : State) (hu : HandStays False False s u) (ls : List Latched) (isp : Option (CommitReq × List Nat)) :
      HandStays False False s ({ u with latched := [] }.commitEvent ls isp) := (hlatched hu).commitEvent ls isp
  have htaken (ps isp : List Nat) := (h.unlatchAdc.checkIspRequest isp).takeRequests ps
  exact (ite (hevent _ (htaken _ _) _ _) ((hevent _ (htaken _ _) _ _).countCommit _)).idleCommits.postHeld

end
end HandStays
end Sys2Proof.Machine
end

section
/-! SUPPORT. The boundary of a hand (R26, R174, R176): what ends, what begins, and the hand in progress after it. -/

namespace Sys2Proof.Machine

/-- No hand in progress. -/
def State.handless (s : State) : State := { s with deal := { s.deal with cur := none } }

namespace HandStays
section
variable {s t u : State} {w m : Prop}

/-! ## What ends with a hand and with a frame -/

theorem drainSwitch (h : HandStays False False s t) (n : Nat) : HandStays False False s (t.drainSwitch n) := by
  have hclear {u : State} (hu : HandStays False False s u) (c : Nat) : HandStays False False s
      (((u.cutDumps c).flashClear (2 * c)).flashClear (2 * c + 1)) := ((hu.cutDumps c).flashClear _).flashClear _
  have hhch {u : State} (hu : HandStays False False s u) (c : Nat) (x : HistCh) : HandStays False False s (u.setHch c x) := hu.wide rfl
  unfold State.drainSwitch
  refine ite h ?_
  extract_lets s1 deal s2
  have h1 : HandStays False False s s1 := foldl (fun _ c hu => hhch (hclear hu c) c _) _ h
  have h1' : HandStays False False s { s1 with deal := { s1.deal with drain := [] } } := h1.wide rfl
  have h2 : HandStays False False s s2 := (h1'.mapCur (f := Hand.switched) fun _ => rfl).wideReg _ _
  exact ((h2.wideReg _ _).wideReg _ _).event _ _

theorem drainEnds (h : HandStays False False s t) : HandStays False False s t.drainEnds := by
  unfold State.drainEnds
  split
  · exact h.drainSwitch _
  · exact h

theorem removeSpent (n : Nat) : ∀ {t : State} {i : Nat} {kept : List (Nat × Nat × Nat)}, HandStays False False s t →
    HandStays False False s (t.removeSpent i kept n) := by
  induction n with
  | zero => exact fun h => h
  | succ n ih =>
    intro t i kept h
    unfold State.removeSpent
    split
    · exact ih (h.removeDesc _ _)
    · exact h

theorem removeExpired (h : HandStays False False s t) (x : Hand) : HandStays False False s (t.removeExpired x) :=
  foldl (fun _ _ hu => removeSpent 15 hu) _ h

theorem endTile (h : HandStays False False s t) (x : HandTile) : HandStays False False s (t.endTile x) :=
  ite ((h.setRingTab _ _).wideReg _ _) (h.setRingTab _ _)

theorem handless (h : HandStays w m s t) : HandStays w m s.handless t.handless := by
  refine ⟨h.word, h.memory, ?_⟩
  have hp := h.parts
  simp only [State.handParts, Prod.mk.injEq] at hp
  obtain ⟨-, hnext, hframe, hst, hshadow, htime, hmono⟩ := hp
  simp only [State.handParts, Prod.mk.injEq]
  exact ⟨rfl, hnext, hframe, hst, hshadow, htime, hmono⟩

/-- The hand in progress ends (R120). -/
theorem endHand (h : HandStays False False s t) : HandStays False False s.handless t.endHand := by
  unfold State.endHand
  split
  · next hcur => exact h.handless.wide (by simp only [State.handParts, State.handless, hcur])
  · next x _ =>
    extract_lets s1 s2 s3
    have h1 : HandStays False False s s1 := foldl (fun _ _ hu => hu.endTile _) _ h
    have h3 : HandStays False False s s3 := (h1.trumpShort _).removeExpired x
    exact h3.handless.wide rfl

theorem frameEnds (h : HandStays w m s t) : HandStays w m s t.frameEnds := by
  have h1 := (h.mirrorDiag.fieldEnded t.steer.frame.number).frameStops (t.mirrorDiag.fieldEnded t.steer.frame.number).timeNs
    (t.steer.frame.hands - 1 - t.steer.frame.index)
  exact h1.update rfl

/-! ## What begins with a hand and with a frame -/

theorem takeTemps (h : HandStays w m s t) : HandStays w m s t.takeTemps :=
  (h.mapCur (f := (Hand.withTemps · t.pointTemps.1)) fun _ => rfl).eventIf _ _ _

theorem dummyBoundary (h : HandStays w m s t) : HandStays w m s t.dummyBoundary := ite (h.dummyInject.dummyDiag .skip) h.dummyInject

theorem afeBoundary (h : HandStays w m s t) : HandStays w m s t.afeBoundary := by
  have hstat (p i : Nat) : AFE.STAT p i ≠ DEAL.HAND_STAT := by
    unfold AFE.STAT DEAL.HAND_STAT
    omega
  exact (foldl (fun _ _ hu => hu.setB (hstat _ _) false) t.cal.afeEnding h).update rfl

theorem showParity (h : HandStays w m s t) : HandStays w m s t.showParity := by
  unfold State.showParity
  split
  · exact ite (h.setF (by decide) _) h
  · exact h

theorem frameBegun (h : HandStays w m s t) (gen : Nat) : HandStays w m s (t.frameBegun gen) :=
  ite h ((h.frameHeader.updFrameCount _ _).fieldBegins _)

theorem handSkipped (h : HandStays w False s t) (x : Hand) : HandStays w False s (t.handSkipped x) :=
  (h.updFrameCount _ _).zoneSkipped.fieldSkipped x _

theorem framesLeave (h : HandStays w m s t) : HandStays w m s t.framesLeave := by
  obtain ⟨_, _, _, e⟩ := handsLeft_framesLeave t
  rw [e]
  exact h.update rfl

theorem rawHandGone (h : HandStays w m s t) : HandStays w m s { t with hist := { t.hist with rawHand := none } } := h.update rfl

/-- Before the hand announced begins: the one in progress has ended, and so has its frame; commits have taken effect (R26, R176). -/
theorem ended (h : HandStays False False s t) : HandStays False False s.handless t.drainEnds.endHand := h.drainEnds.endHand

end
end HandStays

/-! ## The hand announced begins (R26, R174, R176) -/

section
variable {s t : State}

/-- The frame timer as the hand `h` begins (R174, R176). -/
def State.handMarked (s : State) (h : Hand) : State := if h.first then s.frameStart h.entry else s.handPassed h.index

theorem frameStart_frame (s : State) (entry : Bool) : (s.frameStart entry).steer.frame.start = s.steer.frame.end_ ∧
    (s.frameStart entry).steer.frame.number = (if entry then 0 else s.steer.frame.number + 1) ∧
    (s.frameStart entry).steer.frame.index = 0 := by
  unfold State.frameStart
  extract_lets f src len fresh f' s1 s2
  split
  · exact ⟨rfl, rfl, rfl⟩
  · exact ⟨rfl, rfl, rfl⟩

/-- Where a frame begins only the frame timer and what it shows change. -/
theorem handMarked_eq (s : State) (h : Hand) : ∃ regs frame,
    s.handMarked h = { s with regs := regs, steer := { s.steer with frame := frame } } := by
  unfold State.handMarked
  split
  · unfold State.frameStart
    extract_lets f src len fresh f' s1 s2
    split
    · exact ⟨_, _, rfl⟩
    · exact ⟨_, _, rfl⟩
  · exact ⟨s.regs, _, rfl⟩

/-- The hand announced is the one in progress, and HAND_STAT shows it (R26). -/
theorem beginHand_shown {k : Hand} (hk : s.deal.next = some k) (pat : Nat × Nat) :
    (s.beginHand pat).handParts = (some k.core, none, s.steer.frame, s.pwr.st, s.shadow, s.time, s.mono) ∧
      (s.beginHand pat).f DEAL.HAND_STAT.AZ = k.az % 2 ^ 11 := by
  have haz : (((s.setF DEAL.HAND_STAT.AZ k.az).setF DEAL.HAND_STAT.S_EFF k.sEff).setF DEAL.HAND_STAT.PAT_STEP pat.1).f
      DEAL.HAND_STAT.AZ = k.az % 2 ^ 11 := by
    rw [State.f_setF_ne _ DEAL.HAND_STAT.PAT_STEP DEAL.HAND_STAT.AZ _ (by decide) rfl (by decide),
      State.f_setF_ne _ DEAL.HAND_STAT.S_EFF DEAL.HAND_STAT.AZ _ (by decide) rfl (by decide)]
    exact State.f_setF_self _ _ _ (by decide)
  unfold State.beginHand
  rw [hk]
  exact ⟨rfl, haz⟩

theorem scaleBoundary_az (s : State) : s.scaleBoundary.f DEAL.HAND_STAT.AZ = s.f DEAL.HAND_STAT.AZ :=
  State.f_setF_ne _ DEAL.HAND_STAT.SCALE DEAL.HAND_STAT.AZ _ (by decide) rfl (by decide)

theorem HandStays.az {m : Prop} (h : HandStays True m s t) : t.f DEAL.HAND_STAT.AZ = s.f DEAL.HAND_STAT.AZ := by
  have hword := h.word trivial
  rw [State.f, State.f]
  exact congrArg _ hword

theorem handBegins_shown {k : Hand} (hk : s.deal.next = some k) (h : Hand) (pat : Nat × Nat) (ended : Option Nat) :
    (s.handBegins h pat ended).handParts =
        (some k.core, none, (s.handMarked h).steer.frame, s.pwr.st, s.shadow, s.time, s.mono) ∧
      (s.handBegins h pat ended).f DEAL.HAND_STAT.AZ = k.az % 2 ^ 11 := by
  have hmarked : ((s.handMarked h).beginHand pat).handParts =
      (some k.core, none, (s.handMarked h).steer.frame, s.pwr.st, s.shadow, s.time, s.mono) ∧
      ((s.handMarked h).beginHand pat).f DEAL.HAND_STAT.AZ = k.az % 2 ^ 11 := by
    obtain ⟨regs, frame, e⟩ := handMarked_eq s h
    rw [e]
    exact beginHand_shown (s := { s with regs := regs, steer := { s.steer with frame := frame } }) hk pat
  have hpre : HandStays True False ((s.handMarked h).beginHand pat)
      (if h.snapped then ((s.handMarked h).beginHand pat).takeTemps
        else (s.handMarked h).beginHand pat).kittyBoundary.dummyBoundary.afeBoundary :=
    (HandStays.ite (HandStays.refl _).takeTemps (HandStays.refl _)).kittyBoundary.dummyBoundary.afeBoundary
  generalize hx : (if h.snapped then ((s.handMarked h).beginHand pat).takeTemps
    else (s.handMarked h).beginHand pat).kittyBoundary.dummyBoundary.afeBoundary = x at hpre
  have hpost : HandStays True False x.scaleBoundary ((x.scaleBoundary.summaries ended).showParity) :=
    ((HandStays.refl _).summaries ended).showParity
  have hall : s.handBegins h pat ended = (x.scaleBoundary.summaries ended).showParity := by
    rw [← hx]
    rfl
  rw [hall]
  exact ⟨hpost.parts.trans (hpre.parts.trans hmarked.1), hpost.az.trans ((scaleBoundary_az x).trans (hpre.az.trans hmarked.2))⟩

end
end Sys2Proof.Machine
end

section
/-! SUPPORT. The whole boundary (R26, R174, R176). -/

namespace Sys2Proof.Machine

section
variable {s : State} {h : Hand}

/-- The hand announced has begun: it is the one in progress, HAND_STAT shows it, and the frame timer is `f` (R26, R176). -/
structure HandBegun (s t : State) (h : Hand) (f : FrameTimer) : Prop where
  parts : t.handParts = (some h.core, none, f, s.pwr.st, s.shadow, s.time, s.mono)
  az : t.f DEAL.HAND_STAT.AZ = h.az % 2 ^ 11

/-- What begins on a state that shows the hand announced, from `x` on. -/
theorem handBegun_of_stays {x : State} (hx : HandStays False False (State.handless { s with deal := { s.deal with next := some h } }) x)
    (pat : Nat × Nat) (ended : Option Nat) : ∃ f, x.steer.frame = s.steer.frame ∧ f = (x.handMarked h).steer.frame ∧
      HandBegun s (x.handBegins h pat ended) h f := by
  have hp := hx.parts
  simp only [State.handParts, State.handless, Prod.mk.injEq, Option.map_some] at hp
  obtain ⟨-, hnext, hframe, hst, hshadow, htime, hmono⟩ := hp
  obtain ⟨k, hk, hcore⟩ := Option.map_eq_some_iff.1 hnext
  obtain ⟨hparts, haz⟩ := handBegins_shown hk h pat ended
  have hkaz : k.az = h.az := by
    obtain ⟨-, -, h3, -⟩ := sameHand_of_core hcore
    exact h3
  rw [hst, hshadow, htime, hmono, hcore] at hparts
  rw [hkaz] at haz
  exact ⟨_, hframe, rfl, hparts, haz⟩

/-- A boundary at which the hand announced begins. -/
theorem boundary_begins {first : Bool} (hnext : s.deal.next = some h) (hfirst : h.first = first) (hpass : s.handsPass = true) :
    ∃ x f, x.steer.frame = s.steer.frame ∧ f = (State.handMarked x (h.begins (s.pwr.st == .run))).steer.frame ∧
      HandBegun s (s.boundary first) (h.begins (s.pwr.st == .run)) f := by
  unfold State.boundary
  split
  · next hnone => exact absurd (hnone.symm.trans hnext) (by simp)
  next k hk =>
  obtain rfl : k = h := Option.some.inj (hk.symm.trans hnext)
  rw [if_neg (by simp [hfirst, hpass])]
  extract_lets h' deal s0 pat last ended s1 hist s2 s3 s4 gen crc s5 s6 s7 s8 s9 hist' s10
  clear_value last
  have h1 : HandStays False False s0.handless s1 := (HandStays.refl s0).ended
  have h2 : HandStays False False s0.handless s2 := HandStays.ite (h1.wide rfl) h1
  have h3 : HandStays False False s0.handless s3 := HandStays.ite h2.frameEnds h2
  have h4 : HandStays False False s0.handless s4 := by
    unfold s4
    split
    · exact HandStays.ite (h3.zoneFrameOver _) h3
    · exact h3
  have h5 : HandStays False False s0.handless s5 := h4.boundaryCommits first
  have h6 : HandStays False False s0.handless s6 := HandStays.ite (h5.changeDone crc) h5
  have h8 : HandStays True False s7 s8 := HandStays.ite ((HandStays.refl s7).frameBegun gen) (HandStays.refl s7)
  have h9 : HandStays True False s7 s9 := HandStays.ite (h8.handSkipped h') h8
  have h10 : HandStays True False s7 s10 := HandStays.ite h9.rawHandGone h9
  have hend : HandStays True False s7 s10.framesLeave.settle := h10.framesLeave.settle
  obtain ⟨f, hframe, hf, hparts, haz⟩ := handBegun_of_stays h6 pat ended
  exact ⟨s6, f, hframe, hf, hend.parts.trans hparts, hend.az.trans haz⟩

theorem handsPass_of (h : s.pwr.st = .ready ∨ s.pwr.st = .run) (hscan : s.domOn 1 = true) : s.handsPass = true := by
  rw [State.handsPass, hscan]
  rcases h with h | h <;> rw [h] <;> rfl

/-- The parts of a hand that has begun, one by one. -/
theorem HandBegun.fields {t : State} {f : FrameTimer} (hb : HandBegun s t (h.begins (s.pwr.st == .run)) f) :
    (∃ h', t.deal.next = none ∧ t.deal.cur = some h' ∧ SameHand h h') ∧ t.f DEAL.HAND_STAT.AZ = h.az % 2 ^ 11 ∧ t.steer.frame = f ∧
      t.pwr.st = s.pwr.st ∧ t.shadow = s.shadow ∧ t.time = s.time ∧ t.mono = s.mono := by
  have hp := hb.parts
  simp only [State.handParts, Prod.mk.injEq, Option.map_eq_none_iff, Option.map_eq_some_iff] at hp
  obtain ⟨⟨h', hcur, hcore⟩, hnext, hframe, hst, hshadow, htime, hmono⟩ := hp
  have hsame : SameHand h h' := sameHand_of_core (h := h.begins (s.pwr.st == .run)) hcore
  exact ⟨⟨h', hnext, hcur, hsame⟩, hb.az, hframe, hst, hshadow, htime, hmono⟩

/-- The boundary of a hand that begins no frame (R176). -/
theorem handBoundary_begins (hst : s.pwr.st = .ready ∨ s.pwr.st = .run) (hscan : s.domOn 1 = true) (hnext : s.deal.next = some h)
    (hfirst : h.first = false) :
    ∃ t h', exec .handBoundary s = .next t ∧ t.deal.next = none ∧ t.deal.cur = some h' ∧ SameHand h h' ∧
      t.f DEAL.HAND_STAT.AZ = h.az % 2 ^ 11 ∧ t.steer.frame.index = h.index ∧ t.steer.frame.start = s.steer.frame.start ∧
      t.steer.frame.number = s.steer.frame.number ∧ t.pwr.st = s.pwr.st ∧ t.shadow = s.shadow ∧ t.time = s.time ∧ t.mono = s.mono := by
  obtain ⟨x, f, hx, hf, hbegun⟩ := boundary_begins hnext hfirst (handsPass_of hst hscan)
  obtain ⟨⟨h', hn, hcur, hsame⟩, haz, hframe, hst', hshadow, htime, hmono⟩ := hbegun.fields
  have hpassed : f = { s.steer.frame with index := h.index } := by
    have hnot : (h.begins (s.pwr.st == .run)).first = false := hfirst
    rw [hf, State.handMarked, hnot, ← hx]
    rfl
  rw [hpassed] at hframe
  exact ⟨_, h', rfl, hn, hcur, hsame, haz, by rw [hframe], by rw [hframe], by rw [hframe], hst', hshadow, htime, hmono⟩

/-- The boundary of a hand that begins a frame (R174, R176). -/
theorem frameBoundary_begins (hst : s.pwr.st = .ready ∨ s.pwr.st = .run) (hscan : s.domOn 1 = true) (hnext : s.deal.next = some h)
    (hfirst : h.first = true) :
    ∃ t h', exec .frameBoundary s = .next t ∧ t.deal.next = none ∧ t.deal.cur = some h' ∧ SameHand h h' ∧
      t.f DEAL.HAND_STAT.AZ = h.az % 2 ^ 11 ∧ t.steer.frame.index = 0 ∧ t.steer.frame.start = s.steer.frame.end_ ∧
      t.steer.frame.number = (if h.entry = true ∧ s.pwr.st = .run then 0 else s.steer.frame.number + 1) ∧
      t.pwr.st = s.pwr.st ∧ t.time = s.time ∧ t.mono = s.mono := by
  obtain ⟨x, f, hx, hf, hbegun⟩ := boundary_begins hnext hfirst (handsPass_of hst hscan)
  obtain ⟨⟨h', hn, hcur, hsame⟩, haz, hframe, hst', -, htime, hmono⟩ := hbegun.fields
  have hstarted : f = (x.frameStart (h.entry && s.pwr.st == .run)).steer.frame := by
    have hyes : (h.begins (s.pwr.st == .run)).first = true := hfirst
    rw [hf, State.handMarked, hyes]
    rfl
  obtain ⟨hstart, hnumber, hindex⟩ := frameStart_frame x (h.entry && s.pwr.st == .run)
  rw [hx] at hstart hnumber
  have hentry : (h.entry && s.pwr.st == .run) = decide (h.entry = true ∧ s.pwr.st = .run) := by
    simp [Bool.decide_and, beq_eq_decide]
  rw [hstarted] at hframe
  refine ⟨_, h', rfl, hn, hcur, hsame, haz, ?_, ?_, ?_, hst', htime, hmono⟩
  · rw [hframe, hindex]
  · rw [hframe, hstart]
  · rw [hframe, hnumber, hentry]
    simp only [decide_eq_true_eq]

/-- Without a hand announced a boundary does nothing (R176). -/
theorem boundary_nothing (first : Bool) (h : s.deal.next = none) : s.boundary first = s := by
  rw [State.boundary, h]

end
end Sys2Proof.Machine
end

section
/-! SUPPORT. The announcement of a hand, and the entry to RUN and its end (R68, R113, R116, R174, R176). -/

namespace Sys2Proof.Machine

section
variable {s t : State}

/-! ## The announcement (R26, R113, R114, R176) -/

theorem latchCommits_eq_self (first : Bool) (hc : s.commits = []) : s.latchCommits first = s := by
  have hnone : (s.takeRequests []).1 = s ∧ (s.takeRequests []).2 = [] := by
    refine ⟨?_, rfl⟩
    rw [State.takeRequests, List.foldl_nil, hc, List.filter_nil, ← hc]
  have hdue : (s.commits.filter fun r => lidarPage r.page && r.dueAt first).map (·.page) = [] := by rw [hc]; rfl
  unfold State.latchCommits
  dsimp only
  rw [hdue, hnone.1, hnone.2, List.append_nil]

theorem changeLatched_eq_self (h : s.img.cfg = none) : s.changeLatched = s := by rw [State.changeLatched, h]

/-- The hand announced next, with its slots (R113, R114). -/
def State.handNext (s : State) : Hand :=
  { s.nextHand with
    sEff := s.sEff s.nextHand.period, openSlots := openSlots (s.f DEAL.SLOTS.OPEN_SLOTS) (s.sEff s.nextHand.period) }

/-- An announcement with nothing to latch: slots that the hand has no time for are counted, and the hand is announced. -/
theorem announceHand_eq (hc : s.commits = []) (hl : s.latched = []) (himg : s.img.cfg = none) : ∃ (c : Bool) (n : Nat) (l : List Nat),
    s.announceHand = (let u := if c then s.slotsCut (s.f DEAL.MODE.MODE) n else s
      { u with deal := { u.deal with next := some (s.handNext.withDrained l) } }) := by
  have hquiet (c : Bool) : (if c then (s.latchCommits c).changeLatched else s.latchCommits c) = s := by
    cases c <;> simp [latchCommits_eq_self _ hc, changeLatched_eq_self himg]
  unfold State.announceHand
  dsimp only
  rw [hquiet]
  unfold State.announce
  rw [asNext_of_latched hl]
  exact ⟨_, _, _, rfl⟩

/-- The next hand of the frame, or the first hand of the next frame (R174, R176). -/
theorem nextHand_follows (hl : s.latched = []) :
    s.nextHand.snapped = false ∧
    (let f := s.steer.frame
     let j := f.index + 1
     let down := (if j < f.hands ∧ f.handAt j < f.end_ then f.number else if s.nextHand.entry then 0 else f.number + 1) % 2 = 1
     (if j < f.hands ∧ f.handAt j < f.end_ then
        s.nextHand.first = false ∧ s.nextHand.index = j ∧ s.nextHand.start = f.handAt j ∧ s.nextHand.entry = false
      else s.nextHand.first = true ∧ s.nextHand.index = 0 ∧ s.nextHand.start = f.end_ ∧
        s.nextHand.entry = (s.pwr.runPending && s.pwr.st == .ready)) ∧
     s.nextHand.az = (if down then s.f DEAL.HANDS.HANDS - 1 - s.nextHand.index * s.longFactor else s.nextHand.index * s.longFactor)) := by
  dsimp only
  by_cases hnext : s.steer.frame.index + 1 < s.steer.frame.hands ∧
      s.steer.frame.handAt (s.steer.frame.index + 1) < s.steer.frame.end_
  · have hhand : s.nextHand.first = false ∧ s.nextHand.index = s.steer.frame.index + 1 ∧
        s.nextHand.start = s.steer.frame.handAt (s.steer.frame.index + 1) ∧ s.nextHand.entry = false ∧ s.nextHand.snapped = false ∧
        s.nextHand.az = s.azOf (s.steer.frame.index + 1) s.sweepDown := by
      unfold State.nextHand
      dsimp only
      rw [if_pos hnext]
      exact ⟨rfl, rfl, rfl, rfl, rfl, rfl⟩
    obtain ⟨hfirst, hindex, hstart, hentry, hsnapped, haz⟩ := hhand
    rw [if_pos hnext, if_pos hnext, haz, hindex]
    refine ⟨hsnapped, ⟨hfirst, rfl, hstart, hentry⟩, ?_⟩
    simp [State.azOf, State.sweepDown]
  · have hhand : s.nextHand.first = true ∧ s.nextHand.index = 0 ∧ s.nextHand.start = s.steer.frame.end_ ∧
        s.nextHand.entry = (s.pwr.runPending && s.pwr.st == .ready) ∧ s.nextHand.snapped = false ∧
        s.nextHand.az = s.azOf 0 (!s.nextHand.entry && (s.steer.frame.number + 1) % 2 == 1) := by
      unfold State.nextHand
      dsimp only
      rw [if_neg hnext, asNext_of_latched hl]
      exact ⟨rfl, rfl, rfl, rfl, rfl, rfl⟩
    obtain ⟨hfirst, hindex, hstart, hentry, hsnapped, haz⟩ := hhand
    rw [if_neg hnext, if_neg hnext, haz, hindex]
    refine ⟨hsnapped, ⟨hfirst, rfl, hstart, hentry⟩, ?_⟩
    cases s.nextHand.entry <;> simp [State.azOf]

theorem slotsCut_onlyEvents (s : State) (mode n : Nat) : OnlyEvents s (s.slotsCut mode n) := by
  unfold State.slotsCut
  split
  · exact OnlyEvents.refl s
  · exact ((OnlyEvents.refl s).addF _ _).event _ _

/-- The announcement of a hand (R26, R113, R114, R176). -/
theorem handAnnounce_announces (hst : s.pwr.st = .ready ∨ s.pwr.st = .run) (hscan : s.domOn 1 = true) (hnone : s.deal.next = none)
    (hc : s.commits = []) (hl : s.latched = []) (himg : s.img.cfg = none) :
    ∃ t h, exec .handAnnounce s = .next t ∧ t.deal.next = some h ∧ h.snapped = false ∧
      (let f := s.steer.frame
       let j := f.index + 1
       let down := (if j < f.hands ∧ f.handAt j < f.end_ then f.number else if h.entry then 0 else f.number + 1) % 2 = 1
       (if j < f.hands ∧ f.handAt j < f.end_ then h.first = false ∧ h.index = j ∧ h.start = f.handAt j ∧ h.entry = false
        else h.first = true ∧ h.index = 0 ∧ h.start = f.end_ ∧ h.entry = (s.pwr.runPending && s.pwr.st == .ready)) ∧
       h.az = (if down then s.f DEAL.HANDS.HANDS - 1 - h.index * s.longFactor else h.index * s.longFactor)) ∧
      h.sEff = min (s.f DEAL.SLOTS.SLOTS) (s.sFit h.period) ∧
      h.openSlots = (if 2 ≤ h.sEff then min (s.f DEAL.SLOTS.OPEN_SLOTS) (h.sEff - 1) else h.sEff) ∧
      t.deal.cur = s.deal.cur ∧ SameWords s t [DEAL.LOST, hdr 0x10 3] ∧ SameMemory s t ∧ t.shadow = s.shadow ∧ t.time = s.time ∧
      t.steer = s.steer ∧ t.pwr = s.pwr := by
  obtain ⟨c, n, l, e⟩ := announceHand_eq hc hl himg
  have hrun : exec .handAnnounce s = .next s.announceHand := by
    change execHandAnnounce s = _
    rw [execHandAnnounce, if_pos (by simp [handsPass_of hst hscan, hnone])]
  obtain ⟨hsnapped, hfollows⟩ := nextHand_follows hl
  have hkept : KeepsHands [DEAL.LOST, hdr 0x10 3] s (if c then s.slotsCut (s.f DEAL.MODE.MODE) n else s) :=
    KeepsHands.ite ((KeepsHands.refl s _).slotsCut (by decide) _ n) (KeepsHands.refl s _)
  have hsteer : (if c then s.slotsCut (s.f DEAL.MODE.MODE) n else s).steer = s.steer := by
    split
    · obtain ⟨_, _, _, _, e⟩ := onlyEvents_iff.1 (slotsCut_onlyEvents s (s.f DEAL.MODE.MODE) n)
      rw [e]
    · rfl
  rw [e] at hrun
  generalize (if c then s.slotsCut (s.f DEAL.MODE.MODE) n else s) = u at hrun hkept hsteer
  exact ⟨_, s.handNext.withDrained l, hrun, rfl, hsnapped, hfollows, rfl, rfl, hkept.cur, hkept.words, hkept.memory, hkept.shadow,
    hkept.time, hsteer, hkept.pwr⟩

end
end Sys2Proof.Machine
end

section
/-! SUPPORT. The entry to RUN and its end (R68, R116, R121, R129). -/

namespace Sys2Proof.Machine

section
variable {s t : State}

/-! ## Rings emptied (R116) -/

theorem blockWord_of_queuePlace {a : Nat} (h : memRegion a = 1) : blockWord a = false := by
  by_contra hb
  have := blockWord_region (Bool.eq_true_of_not_eq_false hb)
  omega

/-- A word of the ring table with the queue empty and its head at the first place (R116). -/
def emptiedTab (v : Word) : Word := BitVec.ofNat 32 (putBits (putBits (putBits v.toNat 28 4 1) 24 4 1) 20 4 0)

theorem emptiedTab_fields (v : Word) : bitsOf (emptiedTab v).toNat 20 4 = 0 ∧ bitsOf (emptiedTab v).toNat 28 4 = 1 := by
  have hlt : putBits (putBits (putBits v.toNat 28 4 1) 24 4 1) 20 4 0 < 2 ^ 32 :=
    putBits_lt _ (putBits_lt _ (putBits_lt _ v.isLt (by decide)) (by decide)) (by decide)
  rw [emptiedTab, BitVec.toNat_ofNat, Nat.mod_eq_of_lt hlt]
  constructor
  · exact bitsOf_putBits_self ..
  · rw [bitsOf_putBits_ne _ _ _ _ _ _ (by decide), bitsOf_putBits_ne _ _ _ _ _ _ (by decide)]
    exact bitsOf_putBits_self ..

theorem emptyEntry_cases (e : Nat × Word) : emptyEntry e = none ∨ emptyEntry e = some (e.1, emptiedTab e.2) := by
  unfold emptyEntry
  dsimp only
  split
  · exact .inl rfl
  · exact .inr rfl

theorem ringTab_emptied (m : Cells 32) (tile : Nat) :
    bitsOf (Cells.get ringReset (m.filterMap emptyEntry) tile).toNat 20 4 = 0 ∧
      bitsOf (Cells.get ringReset (m.filterMap emptyEntry) tile).toNat 28 4 = 1 := by
  induction m with
  | nil =>
    rw [List.filterMap_nil, Cells.get_nil, ringReset]
    decide
  | cons e m ih =>
    rw [List.filterMap_cons]
    rcases emptyEntry_cases e with h | h
    · rw [h]
      exact ih
    · rw [h]
      dsimp only
      rw [Cells.get]
      split
      · exact emptiedTab_fields e.2
      · exact ih

/-- The queues of every ring are empty and read zero; place 0 is kept (R116). -/
structure RingsEmptied (s t : State) : Prop where
  heads : ∀ tile, t.ringCount tile = 0 ∧ t.ringHead tile = 1
  queues : ∀ a, queuePlace a = true → t.rd a = 0
  place0 : ∀ a, memRegion a = 1 → queuePlace a = false → t.rd a = s.rd a

theorem emptyRings_emptied (s : State) : RingsEmptied s s.emptyRings := by
  have hmem : s.emptyRings.mem = s.mem.filter fun e => !queuePlace e.1 := rfl
  refine ⟨fun tile => ringTab_emptied s.deal.rings tile, fun a ha => ?_, fun a hr ha => ?_⟩
  · have hr : memRegion a = 1 := by
      simp only [queuePlace, Bool.and_eq_true, beq_iff_eq] at ha
      exact ha.1
    have hlost : s.emptyRings.lost.queues = false := rfl
    rw [State.rd, hmem, Cells.get_filter s.mem (fun a => !queuePlace a), if_neg (by simp [ha]), memDefault,
      blockWord_of_queuePlace hr, hlost, ha]
    simp
  · have hd : memDefault s.emptyRings.lost a = memDefault s.lost a :=
      memDefault_congr (fun _ => rfl) rfl (fun h => absurd (ha.symm.trans h) (by decide)) fun _ => rfl
    rw [State.rd, hmem, Cells.get_filter s.mem (fun a => !queuePlace a), if_pos (by simp [ha]), State.rd]
    exact Cells.get_congr_default s.mem hd

/-- Words outside the slice memories read as before when a buffer of one is cleared. -/
theorem rd_flashClear_region (s : State) {k a : Nat} (h : memRegion a ≠ 3) : (s.flashClear k).rd a = s.rd a := by
  have hd : memDefault (s.flashClear k).lost a = memDefault s.lost a := by
    unfold State.flashClear
    dsimp only
    split
    · rfl
    · exact memDefault_congr (fun _ => rfl) rfl (fun _ => rfl) fun h3 => absurd h3 h
  have hm : (s.flashClear k).mem = s.mem.filter fun e => !(memRegion e.1 == 3 && histBuffer e.1 == k) := rfl
  rw [State.rd, hm, Cells.get_filter s.mem (fun a => !(memRegion a == 3 && histBuffer a == k)), if_pos (by simp [h]), State.rd]
  exact Cells.get_congr_default s.mem hd

/-! ## What RUN starts with (R68, R121, R129, R220) -/

/-- From `s` to `t` register words have changed only among `ws`; the power manager, the rings, the shadows and TIME are as before, and so
are the words of the rings. -/
structure KeepsRings (ws : List Nat) (s t : State) : Prop where
  words : SameWords s t ws
  pwr : t.pwr = s.pwr
  shadow : t.shadow = s.shadow
  time : t.time = s.time
  rings : t.deal.rings = s.deal.rings
  memory : ∀ a, memRegion a = 1 → t.rd a = s.rd a

theorem KeepsRings.trans {u : State} {ws : List Nat} (h : KeepsRings ws s t) (h' : KeepsRings ws t u) : KeepsRings ws s u where
  words := h.words.trans h'.words
  pwr := h'.pwr.trans h.pwr
  shadow := h'.shadow.trans h.shadow
  time := h'.time.trans h.time
  rings := h'.rings.trans h.rings
  memory a ha := (h'.memory a ha).trans (h.memory a ha)

theorem KeepsRings.mono {ws vs : List Nat} (h : KeepsRings ws s t) (hs : ∀ a ∈ ws, a ∈ vs) : KeepsRings vs s t :=
  { h with words := h.words.mono hs }

theorem RingsEmptied.keeps {u : State} (h : RingsEmptied s t) (hrings : u.deal.rings = t.deal.rings)
    (hmem : ∀ a, memRegion a = 1 → u.rd a = t.rd a) : RingsEmptied s u := by
  have htab (tile : Nat) : u.ringTab tile = t.ringTab tile := by rw [State.ringTab, hrings, State.ringTab]
  refine ⟨fun tile => ?_, fun a ha => ?_, fun a hr ha => (hmem a hr).trans (h.place0 a hr ha)⟩
  · rw [State.ringCount, State.ringHead, htab]
    exact h.heads tile
  · have hr : memRegion a = 1 := by
      simp only [queuePlace, Bool.and_eq_true, beq_iff_eq] at ha
      exact ha.1
    exact (hmem a hr).trans (h.queues a ha)

/-- The words of the shot counts. -/
def countWords : List Nat := (List.range 4).map SHUF.COUNT

/-- The words that show how RUN begins. -/
def runWords : List Nat := PWR.ENTRY :: countWords

theorem countWords_mem {g : Nat} (hg : g < 4) : SHUF.COUNT g ∈ runWords := List.mem_cons_of_mem _ (List.mem_map_of_mem (List.mem_range.2 hg))

/-- The shot counts at zero (R129). -/
def State.countsCleared (s : State) : State := (List.range 4).foldl (fun s g => s.setReg (SHUF.COUNT g) 0) s

theorem countsCleared_keeps (s : State) : KeepsRings countWords s s.countsCleared :=
  ⟨((((SameWords.refl s countWords).setReg (a := SHUF.COUNT 0) 0 (by decide)).setReg (a := SHUF.COUNT 1) 0 (by decide)).setReg
    (a := SHUF.COUNT 2) 0 (by decide)).setReg (a := SHUF.COUNT 3) 0 (by decide), rfl, rfl, rfl, rfl, fun _ _ => rfl⟩

theorem countsCleared_zero (s : State) : ∀ g < 4, s.countsCleared.reg (SHUF.COUNT g) = 0 := by
  have hset (u : State) (g : Nat) : (u.setReg (SHUF.COUNT g) 0).reg (SHUF.COUNT g) = 0 := State.reg_setReg_self ..
  have hne (u : State) {a b : Nat} (h : b ≠ a) : (u.setReg a 0).reg b = u.reg b := State.reg_setReg_ne _ _ h
  intro g hg
  have hall : s.countsCleared = (((s.setReg (SHUF.COUNT 0) 0).setReg (SHUF.COUNT 1) 0).setReg (SHUF.COUNT 2) 0).setReg (SHUF.COUNT 3) 0 := rfl
  rw [hall]
  match g, hg with
  | 0, _ => rw [hne _ (by decide), hne _ (by decide), hne _ (by decide), hset]
  | 1, _ => rw [hne _ (by decide), hne _ (by decide), hset]
  | 2, _ => rw [hne _ (by decide), hset]
  | 3, _ => exact hset _ 3

theorem putBus_keeps (s : State) (ws : List Nat) (addr : Option Nat) (type : Nat) (p : List Nat) : KeepsRings ws s (s.putBus addr type p) := by
  unfold State.putBus
  split
  · exact ⟨SameWords.of_regs rfl, rfl, rfl, rfl, rfl, fun _ _ => rfl⟩
  · exact ⟨SameWords.refl s ws, rfl, rfl, rfl, rfl, fun _ _ => rfl⟩

/-- The rings are emptied and the shot counts cleared as RUN begins (R116, R121, R129). -/
theorem runCounts_keeps (s : State) :
    KeepsRings countWords s.emptyRings s.runCounts ∧ ∀ g < 4, s.runCounts.reg (SHUF.COUNT g) = 0 := by
  unfold State.runCounts
  extract_lets s1 s2 s3
  have h2 : KeepsRings countWords s1 s2 := ⟨SameWords.of_regs rfl, rfl, rfl, rfl, rfl, fun _ _ => rfl⟩
  have h3 : KeepsRings countWords s1 s3 := h2.trans (countsCleared_keeps s2)
  have hzero : ∀ g < 4, s3.reg (SHUF.COUNT g) = 0 := countsCleared_zero s2
  split
  · have hbus := putBus_keeps s3 [] none 0x02 []
    exact ⟨h3.trans (hbus.mono (by simp)), fun g hg => (hbus.words _ (by simp)).trans (hzero g hg)⟩
  · exact ⟨h3, hzero⟩

theorem histRun_keeps (s : State) : KeepsRings [HIST.STATUS] s s.histRun := by
  have hclear (l : List Nat) : ∀ u : State, KeepsRings [HIST.STATUS] u (l.foldl (fun s c => s.flashClear (2 * c)) u) := by
    induction l with
    | nil => exact fun u => ⟨SameWords.refl u _, rfl, rfl, rfl, rfl, fun _ _ => rfl⟩
    | cons c l ih =>
      intro u
      have h1 : KeepsRings [HIST.STATUS] u (u.flashClear (2 * c)) :=
        ⟨SameWords.of_regs rfl, rfl, rfl, rfl, rfl, fun a ha => rd_flashClear_region u (by omega)⟩
      exact h1.trans (ih _)
  have hset (u : State) : KeepsRings [HIST.STATUS] u (u.setB HIST.STATUS.DRAINING false) :=
    ⟨(SameWords.refl u _).setF _ (by decide), rfl, rfl, rfl, rfl, fun _ _ => rfl⟩
  have hblocks (u : State) (x : Ret) (y : Hist) :
      KeepsRings [HIST.STATUS] u { u with ret := x, hist := y, deal := { u.deal with past := [], drain := [] } } :=
    ⟨SameWords.of_regs rfl, rfl, rfl, rfl, rfl, fun _ _ => rfl⟩
  exact ((hclear _ s).trans (hset _)).trans (hblocks _ _ _)

/-- What follows a start or an end of RUN keeps the power manager, the rings, memory and the words that show it. -/
structure RunSettled (s t : State) : Prop where
  words : ∀ a ∈ runWords, t.reg a = s.reg a
  pwr : t.pwr = s.pwr
  shadow : t.shadow = s.shadow
  time : t.time = s.time
  stays : HandStays False True s t

theorem settle_settled (s : State) : RunSettled s s.settle := by
  have hleaves : LeavesPower runWords s s.settle := (LeavesPower.refl s runWords).settle (by unfold OffPages; decide)
  exact ⟨hleaves.words, hleaves.pwr, hleaves.shadow, hleaves.time, (HandStays.refl s).settle⟩

theorem RunSettled.trans {u : State} (h : RunSettled s t) (h' : RunSettled t u) : RunSettled s u where
  words a ha := (h'.words a ha).trans (h.words a ha)
  pwr := h'.pwr.trans h.pwr
  shadow := h'.shadow.trans h.shadow
  time := h'.time.trans h.time
  stays := h.stays.trans h'.stays

theorem zoneRun_settled (s : State) : RunSettled s s.zoneRun.framesLeave.settle := by
  obtain ⟨frames, past, link, e⟩ := handsLeft_framesLeave s.zoneRun
  have hstays : HandStays False True s s.zoneRun.framesLeave := (((HandStays.refl s).setZones _).setZones _).framesLeave
  have h1 : RunSettled s s.zoneRun.framesLeave := by
    rw [e] at hstays ⊢
    exact ⟨fun _ _ => rfl, rfl, rfl, rfl, hstays⟩
  exact h1.trans (settle_settled _)

/-- A change of PWR.STATE leaves the hands, the rings and memory as they are. -/
theorem enter_stays (s : State) (p : PState) : HandStays True True (s.inState p) (s.enter p) := by
  have h1 (c : Bool) (b : Word) : HandStays True True (s.inState p) ((if p = .ready ∧ c then s.setReg BOOT.TIMING b else s).inState p) := by
    split
    · exact (HandStays.refl (s.inState p)).setReg (by decide) b
    · exact HandStays.refl _
  exact (h1 _ _).eventIf _ _ _

theorem recordEntry_stays {w m : Prop} (h : HandStays w m s t) (r c p : Nat) : HandStays w m s (t.recordEntry r c p) :=
  (((h.setF (by decide) r).setF (by decide) c).setF (by decide) p).setF (by decide) _

/-- The state of power is entered, and its end recorded (R68, R79). -/
def State.entered (s : State) (p : PState) : State := (s.enter p).recordEntry 0 0 0

/-- What the entry to a state of power leaves. -/
structure StateEntered (s t : State) (p : PState) : Prop where
  pwr : t.pwr = { s.pwr with st := p, target := p }
  shadow : t.shadow = s.shadow
  time : t.time = s.time
  stays : HandStays True True (s.inState p) t
  result : t.f PWR.ENTRY.RESULT = 0

theorem entered_entered (s : State) (p : PState) : StateEntered s (s.entered p) p := by
  have hleaves : LeavesPower [] (s.inState p) (s.entered p) := (enter_leaves s p (by decide)).recordEntry (by decide) 0 0 0
  exact ⟨hleaves.pwr, hleaves.shadow, hleaves.time, recordEntry_stays (enter_stays s p) 0 0 0,
    (recordEntry_fields _ (by decide) (by decide)).1⟩

/-! ## The entry to RUN (R68, R116, R121, R129) -/

/-- RUN as it begins: the state entered, the rings empty, the shot counts at zero. -/
theorem runBegins_runs (s : State) : s.runBegins.pwr = { s.pwr with runPending := false, st := .run, target := .run } ∧
    RingsEmptied s s.runBegins ∧ (∀ g < 4, s.runBegins.reg (SHUF.COUNT g) = 0) ∧ s.runBegins.f PWR.ENTRY.RESULT = 0 ∧
    s.runBegins.shadow = s.shadow ∧ s.runBegins.time = s.time := by
  unfold State.runBegins
  extract_lets pwr s0 s1 s2
  have h1 : StateEntered s0 s1 .run := entered_entered s0 .run
  obtain ⟨hcounts, hzero⟩ := runCounts_keeps s1
  have hhist := histRun_keeps s1.runCounts
  have hset : RunSettled s1.runCounts.histRun s2.framesLeave.settle := zoneRun_settled _
  have hrings : RingsEmptied s1 s1.runCounts.histRun :=
    ((emptyRings_emptied s1).keeps hcounts.rings hcounts.memory).keeps hhist.rings hhist.memory
  obtain ⟨hmem, hheads⟩ := hset.stays.memory trivial
  obtain ⟨hheld, -⟩ := h1.stays.memory trivial
  have hend : RingsEmptied s1 s2.framesLeave.settle := hrings.keeps hheads fun a _ => hmem a
  refine ⟨?_, ⟨hend.heads, hend.queues, fun a hr ha => (hend.place0 a hr ha).trans (hheld a)⟩, fun g hg => ?_, ?_, ?_, ?_⟩
  · exact hset.pwr.trans (hhist.pwr.trans (hcounts.pwr.trans h1.pwr))
  · have hstatus : SHUF.COUNT g ∉ [HIST.STATUS] := by
      simp only [List.mem_singleton, SHUF.COUNT, HIST.STATUS]
      omega
    rw [hset.words _ (countWords_mem hg), hhist.words _ hstatus]
    exact hzero g hg
  · rw [f_of_reg (hset.words _ (by decide)), hhist.words.f (by decide), hcounts.words.f (by decide)]
    exact h1.result
  · exact hset.shadow.trans (hhist.shadow.trans (hcounts.shadow.trans h1.shadow))
  · exact hset.time.trans (hhist.time.trans (hcounts.time.trans h1.time))

/-- An accepted RUN request is carried out just before the hand announced for it (R68). -/
theorem runEntry_runs {h : Hand} (hst : s.pwr.st = .ready) (hpending : s.pwr.runPending = true) (hnext : s.deal.next = some h)
    (hentry : h.entry = true) (hfirst : h.first = true) :
    ∃ t, exec .runEntry s = .next t ∧ t.pwr.st = .run ∧ t.pwr.target = .run ∧ t.pwr.runPending = false ∧
      (∀ tile, t.ringCount tile = 0 ∧ t.ringHead tile = 1) ∧ (∀ a, queuePlace a = true → t.rd a = 0) ∧
      (∀ a, memRegion a = 1 → queuePlace a = false → t.rd a = s.rd a) ∧ (∀ g < 4, t.reg (SHUF.COUNT g) = 0) ∧
      t.f PWR.ENTRY.RESULT = 0 ∧ t.shadow = s.shadow ∧ t.time = s.time := by
  have hrun : exec .runEntry s = .next s.runBegins := by
    change execRunEntry s = _
    rw [execRunEntry, if_pos (by simp [hst, hpending, hnext, hentry, hfirst])]
  obtain ⟨hpwr, ⟨hheads, hqueues, hplace⟩, hcounts, hresult, hshadow, htime⟩ := runBegins_runs s
  exact ⟨_, hrun, by rw [hpwr], by rw [hpwr], by rw [hpwr], hheads, hqueues, hplace, hcounts, hresult, hshadow, htime⟩

/-! ## The end of RUN (R68, R79, R150) -/

theorem dropFire_decided (s : State) {h : Hand} (hh : s.dropFire.deal.cur = some h ∨ s.dropFire.deal.next = some h) :
    h.decided = [none, none, none, none] := by
  have hclear {o : Option Hand} (ho : (o.map fun h => { h with decided := [none, none, none, none] }) = some h) :
      h.decided = [none, none, none, none] := by
    obtain ⟨k, -, rfl⟩ := Option.map_eq_some_iff.1 ho
    rfl
  exact hh.elim hclear hclear

theorem HandStays.decided {w m : Prop} {h : Hand} (hs : HandStays w m s t) (hh : t.deal.cur = some h ∨ t.deal.next = some h) :
    ∃ k, (s.deal.cur = some k ∨ s.deal.next = some k) ∧ h.decided = k.decided := by
  have hp := hs.parts
  simp only [State.handParts, Prod.mk.injEq] at hp
  obtain ⟨hcur, hnext, -⟩ := hp
  have hone {o o' : Option Hand} (ho : o.map Hand.core = o'.map Hand.core) (hh : o = some h) : ∃ k, o' = some k ∧ h.decided = k.decided := by
    rw [hh, Option.map_some] at ho
    obtain ⟨k, hk, hcore⟩ := Option.map_eq_some_iff.1 ho.symm
    exact ⟨k, hk, (decided_of_core hcore).symm⟩
  rcases hh with hh | hh
  · obtain ⟨k, hk, hd⟩ := hone hcur hh
    exact ⟨k, .inl hk, hd⟩
  · obtain ⟨k, hk, hd⟩ := hone hnext hh
    exact ⟨k, .inr hk, hd⟩

/-- RUN as it ends: the state entered, and no fire command pending (R68, R79). -/
theorem runEnds_ready (s : State) : s.runEnds.pwr = { s.pwr with readyPending := false, st := .ready, target := .ready } ∧
    (∀ h, s.runEnds.deal.cur = some h ∨ s.runEnds.deal.next = some h → h.decided = [none, none, none, none]) ∧
    s.runEnds.f PWR.ENTRY.RESULT = 0 ∧ s.runEnds.shadow = s.shadow ∧ s.runEnds.time = s.time := by
  unfold State.runEnds
  extract_lets pwr s0 s1 s2
  have h0 : StateEntered s0 (s0.entered .ready) .ready := entered_entered s0 .ready
  have h2 : KeepsRings [] (s0.entered .ready) s2 := by
    have hstops : KeepsRings [] (s0.entered .ready) s1 := ⟨SameWords.of_regs rfl, rfl, rfl, rfl, rfl, fun _ _ => rfl⟩
    unfold s2
    split
    · exact hstops.trans (putBus_keeps s1 [] none 0x03 [])
    · exact hstops
  have hdrop : KeepsRings [] s2 s2.dropFire := ⟨SameWords.of_regs rfl, rfl, rfl, rfl, rfl, fun _ _ => rfl⟩
  have hset : RunSettled s2.dropFire s2.dropFire.settle := settle_settled _
  refine ⟨?_, fun h hh => ?_, ?_, ?_, ?_⟩
  · exact hset.pwr.trans (hdrop.pwr.trans (h2.pwr.trans h0.pwr))
  · obtain ⟨k, hk, hd⟩ := hset.stays.decided hh
    exact hd.trans (dropFire_decided s2 hk)
  · rw [f_of_reg (hset.words _ (by decide)), hdrop.words.f (by simp), h2.words.f (by simp)]
    exact h0.result
  · exact hset.shadow.trans (hdrop.shadow.trans (h2.shadow.trans h0.shadow))
  · exact hset.time.trans (hdrop.time.trans (h2.time.trans h0.time))

/-- A RUN that is to end ends before the next boundary (R68). -/
theorem runExit_ends (hst : s.pwr.st = .run) (hpending : s.pwr.readyPending = true) :
    ∃ t, exec .runExit s = .next t ∧ t.pwr.st = .ready ∧ t.pwr.target = .ready ∧ t.pwr.readyPending = false ∧
      (∀ h, t.deal.cur = some h ∨ t.deal.next = some h → h.decided = [none, none, none, none]) ∧
      t.f PWR.ENTRY.RESULT = 0 ∧ t.shadow = s.shadow ∧ t.time = s.time := by
  have hrun : exec .runExit s = .next s.runEnds := by
    change execRunExit s = _
    rw [execRunExit, if_pos (by simp [hst, hpending])]
  obtain ⟨hpwr, hdecided, hresult, hshadow, htime⟩ := runEnds_ready s
  exact ⟨_, hrun, by rw [hpwr], by rw [hpwr], by rw [hpwr], hdecided, hresult, hshadow, htime⟩

end

/-- Settles O25, a clause at a time: what an announcement, a boundary, the entry to RUN and its end do follows from the rules above. -/
theorem handsAndRun : Obligations.HandsAndRun :=
  ⟨fun _ hst hscan hnone hc hl himg => handAnnounce_announces hst hscan hnone hc hl himg,
    fun _ _ hst hscan hnext hfirst => handBoundary_begins hst hscan hnext hfirst,
    fun _ _ hst hscan hnext hfirst => frameBoundary_begins hst hscan hnext hfirst,
    fun _ h => ⟨congrArg Host.Outcome.next (boundary_nothing false h), congrArg Host.Outcome.next (boundary_nothing true h)⟩,
    fun _ _ hst hpending hnext hentry hfirst => runEntry_runs hst hpending hnext hentry hfirst,
    fun _ hst hpending => runExit_ends hst hpending⟩

end Sys2Proof.Machine
end
